-- ==== Sys2Proof/Word.lean ====
section
/-! DEFINITION. The words of the part: bytes, 32-bit register words, 64-bit words. -/

namespace Sys2Proof

/-- One byte of memory, of a packet or of a host structure. -/
abbrev Byte := BitVec 8

/-- One 32-bit register word (R396, R398). -/
abbrev Word := BitVec 32

/-- One 64-bit word: a page entry, a host address, a time (R16, R41, R393). -/
abbrev DWord := BitVec 64

end Sys2Proof
end

