-- ==== Sys2Proof/Syntax.lean ====
section
/-! DEFINITION. The commands of the part: one constructor for every row of the operations table.
The operands are what reaches the part from outside (a value written, data that a read returned, a pin's event)
and, for a happening whose moment or outcome the part does not compute itself, that outcome. -/

namespace Sys2Proof

/-- The two scan halves (00, terms). -/
inductive Half where
  | dawn
  | dusk
deriving DecidableEq, Repr

/-- Who accesses a register: host software over PCIe, or Foreman, the part's control core (R63, R305, R324). -/
inductive Port where
  | pcie
  | foreman
deriving DecidableEq, Repr

/-- What a read request of the part ends with (R29, R58, R71, R386). -/
inductive ReadRes where
  | data (bytes : List Byte)
  | error
  | timeout
deriving DecidableEq, Repr

/-- How a page entry is written (R18): one 32-bit half, or one 64-bit write. -/
inductive EntryWrite where
  | lower (v : Word)
  | upper (v : Word)
  | both (v : DWord)
deriving DecidableEq, Repr

/-- What ends a remote fill (R29): its 4 KiB, an error, a timeout, or being late for the line that needs it. -/
inductive FillRes where
  | data (bytes : List Byte)
  | error
  | timeout
  | late
deriving DecidableEq, Repr

/-- What a domain rail request's attempt meets (R302): a STATUS_WORD, a NACK, or its timeout. -/
inductive RailRes where
  | status (w : BitVec 16)
  | nacked
  | timeout
deriving DecidableEq, Repr

/-- How an AVSBus write ends (R303): its response frame's status and the read-back in mV, or its timeout. -/
inductive AvsRes where
  | frame (good : Bool) (mv : BitVec 16)
  | timeout
deriving DecidableEq, Repr

/-- A register page index (R8, R404). -/
abbrev PageIdx := BitVec 8

/-- What did not arrive in time for a line, or could not be read (R120, R190, R199, R201): a half, and a strip of it, or
a word of its block row: 3 × bx + ch. -/
structure LateWord where
  half : Half
  pos  : Nat
deriving DecidableEq, Repr

/-- A word of an SRAM cell (R319, R346): its cell, and its number there, of which 2,048 to 2,063 are the spare rows. -/
structure CellWord where
  cell : BitVec 12
  word : BitVec 12
deriving DecidableEq, Repr

/-- An error that reads of memory meet while a line is composed (R140, R320, R326): an SRAM word read for the block of a
page, corrected or not; the overdrive entry that the pixel at a local column needs; a 64 B block of device DRAM read for
the block of a page, uncorrectable or corrected; corrections of the DRAM's link. -/
inductive Upset where
  | sram (page : BitVec 8) (at' : CellWord) (uncorr : Bool)
  | odEntry (half : Half) (column : Nat) (at' : CellWord)
  | dram (page : BitVec 8) (addr : Nat) (uncorr : Bool)
  | dramLink (corrections : Nat)
deriving DecidableEq, Repr

/-- What a read of a history strip brings (R136): the slot as it stands in DRAM, a value upset on the way, an uncorrectable
DRAM block at an address, or the uncorrectable error of its length-table byte. -/
inductive StripRead where
  | intact
  | upset
  | uncorrectable (addr : Nat)
  | lengthUpset (at' : CellWord)
deriving DecidableEq, Repr

/-- How a maintenance activity ends in the stores it works on: completed, or failed with a detail code (R343). -/
inductive ActResult where
  | ok
  | failed (detail : Nat)
deriving DecidableEq, Repr

/-- What a maintenance activity met in the stores it works on: failing rows of SRAM cells, of which 256 and 257 are the
spare rows (R337, R339), logical NAND
blocks that failed to program or erase (R329), pages uncorrectable after ECC, bits corrected, and blocks from which a
read needed 6 or more corrections in a sector (R330, R331). -/
structure ActReport where
  rows : List (BitVec 12 × BitVec 9)
  badBlocks : List (BitVec 14)
  uncorrPages : Nat
  corrBits : Nat
  weakBlocks : List (BitVec 14)
deriving DecidableEq, Repr

/-- What an access of the host to the scratchpad meets at Foreman's port (R323, R325): nothing, a conflict in which the
loser waits some cycles, or a write of Foreman to the same word in the same cycle, with its data and byte enables. -/
inductive SpMeet where
  | free
  | conflict (cycles : Nat)
  | sameWord (data : Word) (enables : BitVec 4)
deriving DecidableEq, Repr

/-- Which outstanding host read of the part (R386): that of a cage, of a queue's descriptor fetch, or a remote fill. -/
inductive Requester where
  | cage (c : BitVec 5)
  | queue (q : BitVec 13)
  | fill (page : BitVec 20) (line : BitVec 9)
deriving DecidableEq, Repr

/-- What a burst met while it moved (R61, R323): the beats it lost to other cages, and the cycles that its accesses to the
scratchpad waited. -/
structure BurstWaits where
  lostBeats : Nat
  spWaits : Nat
deriving DecidableEq, Repr

/-- What else a line met: aging updates whose read is uncorrectable (R199), and errors of the memory. -/
structure LineMeet where
  skipAge : List LateWord
  upsets : List Upset
deriving DecidableEq, Repr

/-- What the reads of an INFLATE's source bring: the first, and for a sealed source the second pass, where it was made and
brought other data (R177). -/
structure SourceReads where
  first : ReadRes
  again : Option ReadRes
deriving DecidableEq, Repr

/-- How an attempt of a rail request misses its acknowledgement (R247): NACKed or not, and the magnitude in mV of the voltage
that the rail's monitor then sees. -/
structure RailMiss where
  nacked : Bool
  mv : BitVec 16
deriving DecidableEq, Repr

/-- A panel rail, 0 AVDD, 1 VGL, 2 VGH, and the magnitude in mV of the voltage it has had for 4 KCLK cycles (R252). -/
structure RailDrop where
  rail : BitVec 2
  mv : BitVec 16
deriving DecidableEq, Repr

/-- What the test of an SRAM region finds (R340): its failing rows, and its words that were read uncorrectable as they were
saved. -/
structure RegionTest where
  failing : List (BitVec 9)
  poisoned : List (BitVec 12)
deriving DecidableEq, Repr

/-- The commands of the QV-4880, one for every row of the operations table. -/
inductive Instr where
  -- registers and windows
  | registerWrite (port : Port) (bar2 : Bool) (off : BitVec 24) (v : Word)
  | malformedBar0Access (isRead : Bool)
  | pageEntryWrite (page : BitVec 20) (w : EntryWrite)
  | bar4Read (off : Nat) (len : Nat) (bad : Option Nat)
  | bar4Write (off : Nat) (bytes : List (Option Byte))
  | bar4Resize (size : BitVec 6)
  | retireCmd (v : Word)
  | rcacheInval (v : Word)
  | remoteFillDone (page : BitVec 20) (line : BitVec 9) (res : FillRes)
  | zeroFillDone (frame : BitVec 12)
  -- queues and Hoist
  | queueCfgWrite (q : BitVec 13) (reg : BitVec 3) (v : Word)
  | doorbell (q : BitVec 13) (v : Word)
  | descFetchDone (q : BitVec 13) (res : ReadRes)
  | descNop (cage : BitVec 5)
  | descCopy (cage : BitVec 5)
  | descInflate (cage : BitVec 5)
  | descCapture (cage : BitVec 5)
  | descFlip (cage : BitVec 5)
  | descLabel (cage : BitVec 5)
  | descFence (cage : BitVec 5)
  | hoistBurstDone (cage : BitVec 5) (res : ReadRes) (waits : BurstWaits)
  | transferComplete (cage : BitVec 5)
  | qcmdAbort (q : BitVec 13)
  | qcmdResume (q : BitVec 13)
  | qcmdReset (q : BitVec 13)
  | chAbort (port : Port) (v : Word)
  | chGo (port : Port) (ch : BitVec 4) (v : Word)
  | eventRingCfgWrite (ring : BitVec 6) (reg : BitVec 3) (v : Word)
  | eventRingHeadWrite (ring : BitVec 6) (v : Word)
  | holdoffExpire (ring : BitVec 6)
  -- transactions
  | txnOpen
  | stageWrite (slot : BitVec 6) (off : Option Word) (v : Word)
  | txnCommit (slot : BitVec 6) (v : Word)
  | txnAbort (slot : BitVec 6) (v : Word)
  | mergeDone (slot : BitVec 6)
  | nowCommitSwitch (slot : BitVec 6)
  | txnExpire (slot : BitVec 6)
  | digestRefreshDone
  | auditGo (v : Word)
  | auditCtrlWrite (v : Word)
  | auditPeriodic
  | auditRun
  -- scan
  | scanCtrlWrite (port : Port) (v : Word)
  | lineStart (lateStrips : List LateWord) (lateUni : List LateWord) (lateAge : List LateWord) (meet : LineMeet)
  | frameLatch
  | composerReady (half : Half)
  | histInvalidateCmd (half : Half) (v : Word)
  | histReadDone (half : Half) (back : BitVec 2) (line : BitVec 14) (strip : BitVec 7) (res : StripRead)
  | odTableWrite (off : BitVec 24) (v : Word)
  | odSeal (v : Word)
  | odSealDone
  -- compression
  | ctxDrop (v : Word)
  | inflateComplete (cage : BitVec 5) (input : SourceReads)
  | captureBufferTaken (cage : BitVec 5)
  | captureEncodeDone (cage : BitVec 5)
  -- correction and aging
  | uniSeal (v : Word)
  | uniSealDone
  | ckptGo (v : Word)
  | ckptPeriodic
  | checkpointDone (status : BitVec 2)
  | ageRestoreDone
  -- link and gates
  | trainGo (v : Word)
  | trainStop (v : Word)
  | laneLock (lane : BitVec 6)
  | laneLockTimeout (lane : BitVec 6)
  | laneTestDone (lane : BitVec 6) (highs : Nat)
  | ctlCmdGo (v : Word)
  | linkLineStart (line : Nat)
  | nackSample (lane : BitVec 6) (level : Bool)
  | linkLoad (lane : BitVec 6)
  | gateForceWrite (v : Word)
  -- panel power
  | panelUp
  | panelDown
  | railReqAck
  | railReqTimeout (miss : RailMiss)
  | panelSeqTimer
  | pfwAssert
  | pfwDeassert
  | railLoss (drop : RailDrop)
  | thermConvert (ch : Bool) (code : BitVec 12)
  -- protection
  | keyProgram (slot : BitVec 4)
  | keyErase (slot : BitVec 4)
  | keyLock (slot : BitVec 4)
  | keyWriteDone
  | assayHideSet (v : Word)
  | assayPublish
  -- label port
  | labelLanded (cage : BitVec 5)
  | phaseBoundary (pwrgood : Bool)
  | labelPwrTimeout
  | labelPwrgoodLost
  | labelPwrHoldExpire
  -- power domains and clocks
  | powerReq (v : Word)
  | powerFreq (v : Word)
  | blockQuiesceAnswer (page : PageIdx)
  | quiesceTimeout (page : PageIdx)
  | domainGated (domain : BitVec 4)
  | domainRailPoll (res : RailRes)
  | domainPllLock (domain : BitVec 4)
  | domainPllTimeout (domain : BitVec 4)
  | padRelease (v : Word)
  | wakeSource (n : BitVec 3) (level : Bool)
  | wakeTimerExpire
  | xtalLost
  | rootLock
  | xtalStartTimeout
  | avsStep (up : Bool)
  | avsWriteDone (res : AvsRes)
  | pmbAlert
  -- memories and maintenance
  | marchGo (v : Word)
  | canaryRegionTest (test : RegionTest)
  | canaryAbort
  | canaryRetry
  | scrubPassDone (corrected : Nat) (uncorrectable : List Nat)
  | maintReqScrub
  | maintReqNandrefresh
  | nandrefreshDue (block : BitVec 14)
  | maintActivityDone (activity : BitVec 3) (res : ActResult) (report : ActReport)
  | pstoreWordWrite
  | scratchpadWrite (off : BitVec 24) (v : Word) (meet : SpMeet)
  -- resets and errors
  | coldReset (bootsel : BitVec 3)
  | perstAssert
  | perstDeassert
  | hotReset (linkDown : Bool)
  | functionLevelReset
  | hostResetEnd
  | softResetHost (v : Word)
  | softResetFull (v : Word)
  | foreWdogExpire
  | blockWdogExpire (page : PageIdx)
  | regParityError (off : BitVec 24)
  | portTimeout (page : PageIdx)
  | tmonReading (temp : BitVec 12)
  | fatalForce (v : Word)
  -- mailbox
  | mboxPing (seq : BitVec 8)
  | mboxLoadImage (seq : BitVec 8)
  | mboxStage (seq : BitVec 8)
  | mboxStoreImage (seq : BitVec 8)
  | mboxFwInstall (seq : BitVec 8)
  | mboxFwSwitch (seq : BitVec 8)
  | mboxFwConfirm (seq : BitVec 8)
  | mboxShutdown (seq : BitVec 8)
  | mboxCommandDone
  | trialTimeout
  -- PCI Express
  | configRequest (isWrite : Bool) (off : BitVec 12) (v : Word)
  | d3hotEntry
  | d0Return
  | l1Entry (sub : BitVec 2)
  | ptmPeriodic
  | ptmNow (v : Word)
  | ptmDialogDone (l h : DWord)
  | completionTimeout (req : Requester)
  | poisonedTlp (req : Option Requester)
  -- common header
  | clampClr (page : PageIdx)
  | errClr (page : PageIdx)
  | intForce (page : PageIdx) (v : Word)
  -- the rest
  | vddKeepLoss
  | fullScopeSequenceTimeout
  | shutdownLabelWaitExpire
  | dramTrainingDone (ok : Bool)
  | unexpectedCompletion
  | boundaryScanInstruction
deriving DecidableEq, Repr

end Sys2Proof
end

