-- ==== Sys2Proof/Decode.lean ====
section
/-! DEFINITION. Words that spell commands. The operations table of this part gives no bits to any row. -/

namespace Sys2Proof

/-- The command that a word spells by the table's bits: none, since no row of the table has bits. (Log 1: DESIGN CHOICE, safe.) -/
def decodeTableWord (_nbits _w : Nat) : Option Instr := none

end Sys2Proof
end

