-- ==== Sys2Proof/Machine/Crc.lean ====
section
/-! DEFINITION. Byte order and the checksums of the part: CRC-32C (R95), CRC-16 (R218), and conversions between numbers
and little-endian byte strings (R1). -/

namespace Sys2Proof.Machine

/-- The `n` bytes of `v`, least significant first (R1). -/
def leBytes : Nat → Nat → List Byte
  | 0, _ => []
  | n + 1, v => BitVec.ofNat 8 v :: leBytes n (v / 256)

/-- The number whose little-endian bytes are `bs` (R1). -/
def ofLe : List Byte → Nat
  | [] => 0
  | b :: bs => b.toNat + 256 * ofLe bs

/-- The number whose bytes, most significant first, are given. -/
def ofBe (bs : List Byte) : Nat := bs.foldl (fun a b => a * 256 + b.toNat) 0

/-- The `n` bytes of a number, most significant first. -/
def beBytes (n v : Nat) : List Byte := (leBytes n v).reverse

/-- The little-endian word at byte `i` of `bs`; bytes beyond the end count as zero. -/
def wordAt (bs : List Byte) (i : Nat) : Word := BitVec.ofNat 32 (ofLe ((bs.drop i).take 4))

/-- The little-endian 64-bit word at byte `i`. -/
def dwordAt (bs : List Byte) (i : Nat) : DWord := BitVec.ofNat 64 (ofLe ((bs.drop i).take 8))

/-- The bits [lo + w - 1 : lo] of a word, as a number. -/
def bitsOf (v : Word) (lo w : Nat) : Nat := v.toNat / 2 ^ lo % 2 ^ w

/-- Bit `i` of a word. -/
def bitOf (v : Word) (i : Nat) : Bool := bitsOf v i 1 == 1

/-- `x` as a two's complement number of `w` bits. -/
def signedOf (w x : Nat) : Int := if x % 2 ^ w < 2 ^ (w - 1) then (x % 2 ^ w : Nat) else (x % 2 ^ w : Nat) - (2 ^ w : Nat)

/-- The `w`-bit two's complement of an integer, as a number. -/
def wrapInt (w : Nat) (i : Int) : Nat := (i % (2 ^ w : Nat)).toNat

/-- A number placed at bit `lo`, cut to `w` bits. -/
def place (lo w v : Nat) : Nat := v % 2 ^ w * 2 ^ lo

/-- A bit as a number. -/
def b2n (b : Bool) : Nat := if b then 1 else 0

/-- Eight steps of a reflected CRC of 32 bits. -/
def crc32Bits (poly : Word) : Nat → Word → Word
  | 0, c => c
  | n + 1, c => crc32Bits poly n (if c.getLsbD 0 then (c >>> 1) ^^^ poly else c >>> 1)

/-- One byte into a CRC-32C register (R95): reflected polynomial 0x1EDC_6F41. -/
def crc32cByte (c : Word) (b : Byte) : Word := crc32Bits 0x82F63B78#32 8 (c ^^^ b.zeroExtend 32)

/-- A byte string into a CRC-32C register. -/
def crc32cRun (c : Word) (bs : List Byte) : Word := bs.foldl crc32cByte c

/-- CRC-32C of a byte string (R95): initial value and final XOR 0xFFFF_FFFF. -/
def crc32c (bs : List Byte) : Word := crc32cRun 0xFFFFFFFF#32 bs ^^^ 0xFFFFFFFF#32

/-- The bytes of words, each least significant byte first. -/
def wordBytes (ws : List Word) : List Byte := ws.flatMap fun w => leBytes 4 w.toNat

/-- Eight steps of the CRC of 8 bits that a packet error code is. -/
def crc8Bits : Nat → Byte → Byte
  | 0, c => c
  | n + 1, c => crc8Bits n (if c.getLsbD 7 then (c <<< 1) ^^^ 0x07#8 else c <<< 1)

/-- The packet error code of the bytes of an SMBus message (R247, R302). (Log 146: PRESUMED, unsafe.) -/
def pec (bs : List Byte) : Byte := bs.foldl (fun c b => crc8Bits 8 (c ^^^ b)) 0

/-- A Write Byte transaction: the address with the write bit, the command, the byte, and the packet error code. -/
def writeByte (addr cmd v : Nat) : List Byte :=
  let m := [BitVec.ofNat 8 (2 * addr), BitVec.ofNat 8 cmd, BitVec.ofNat 8 v]
  m ++ [pec m]

/-- What the master sends of a read of a word: the address, the command, and the address with the read bit. -/
def readWord (addr cmd : Nat) : List Byte := [BitVec.ofNat 8 (2 * addr), BitVec.ofNat 8 cmd, BitVec.ofNat 8 (2 * addr + 1)]

/-- Bits of CRC-16 (R218), most significant first. -/
def crc16Bits : Nat → BitVec 16 → BitVec 16
  | 0, c => c
  | n + 1, c => crc16Bits n (if c.getLsbD 15 then (c <<< 1) ^^^ 0x1021#16 else c <<< 1)

/-- One byte into a CRC-16 register. -/
def crc16Byte (c : BitVec 16) (b : Byte) : BitVec 16 := crc16Bits 8 (c ^^^ BitVec.ofNat 16 (b.toNat * 256))

/-- CRC-16 of a byte string (R218). -/
def crc16 (bs : List Byte) : BitVec 16 := bs.foldl crc16Byte 0xFFFF#16

end Sys2Proof.Machine
end

