-- ==== Sys2Proof/Config.lean ====
section
/-! DEFINITION. What the spec leaves open and the model leaves free: opaque constants without a body, of which no
proof can know a value. Each is named in the assumption log. -/

namespace Sys2Proof.Config

/-- A fresh 32-bit value the spec does not state; the argument is the model's counter of free values.
(Log 5: DESIGN CHOICE, safe.) -/
opaque freeWord : Nat → Word

/-- Which of the 256 sets of the remote-surface cache a 4 KiB line of surface space maps into (R27 gives the sets, not
the mapping); the model takes it modulo 256. -/
opaque rcacheSet : Nat → Nat

/-- The vendor key fixed in the boot sequencer (R358), a point of the curve: the spec does not give it.
(Log 7: DESIGN CHOICE, safe.) -/
opaque vendorKey : Nat × Nat

/-- The 64-bit identifier fused at manufacture (R381). -/
opaque serialNumber : DWord

end Sys2Proof.Config
end

