-- ==== Sys2Proof/Machine/Bits.lean ====
section
/-! DEFINITION. Bit strings and canonical prefix codes (R151, R152). -/

namespace Sys2Proof.Machine

/-- The `n` low bits of a number, least significant first (R151). -/
def bitsLsb : Nat → Nat → List Bool
  | 0, _ => []
  | n + 1, v => (v % 2 == 1) :: bitsLsb n (v / 2)

/-- The `n` low bits of a number, most significant first: a code word as it is sent (R151). -/
def bitsMsb (n v : Nat) : List Bool := (bitsLsb n v).reverse

/-- The number whose bits, least significant first, are given. -/
def ofBits : List Bool → Nat
  | [] => 0
  | b :: bs => b2n b + 2 * ofBits bs

/-- The bits of a byte string, bit 0 of the first byte first (R151). -/
def bytesBits (bs : List Byte) : List Bool := bs.flatMap fun b => bitsLsb 8 b.toNat

/-- A bit string packed into bytes; zeros complete the last byte. -/
def packBits : Nat → List Bool → List Byte
  | 0, _ => []
  | fuel + 1, bs =>
    match bs with
    | [] => []
    | _ => BitVec.ofNat 8 (ofBits (bs.take 8)) :: packBits fuel (bs.drop 8)

/-- One code word of a prefix code: symbol, length and word. -/
structure CodeWord where
  sym : Nat
  len : Nat
  word : Nat
deriving DecidableEq, Repr

/-- Number of symbols that have a code word of length `l`. -/
def lenCount (lens : List Nat) (l : Nat) : Nat := if l = 0 then 0 else (lens.filter (· == l)).length

/-- The first code word of length `l` (R152). -/
def firstCode (lens : List Nat) : Nat → Nat
  | 0 => 0
  | l + 1 => (firstCode lens l + lenCount lens l) * 2

/-- The canonical code words of the given lengths (R152). -/
def canonical (lens : List Nat) : List CodeWord :=
  (List.range 15).flatMap fun k =>
    let l := k + 1
    ((lens.zipIdx.filter fun e => e.1 == l).zipIdx.map fun e => ⟨e.1.2, l, firstCode lens l + e.2⟩)

/-- Sum of 2^(15 - length) over the symbols: a code is complete when it is 2^15. -/
def kraft (lens : List Nat) : Nat := lens.foldl (fun a l => if l = 0 then a else a + 2 ^ (15 - l)) 0

/-- The code is complete. -/
def complete (lens : List Nat) : Bool := kraft lens == 2 ^ 15

/-- The code has exactly one code word, of one bit. -/
def singleCode (lens : List Nat) : Bool := (lens.filter (· != 0)) == [1]

/-- What reading one symbol gives. -/
inductive SymRes where
  | sym (s len : Nat)
  | truncated
  | illegal
deriving DecidableEq, Repr

/-- Read one code word bit by bit: `w` holds the `n` bits read so far. -/
def readSymGo (code : List CodeWord) : Nat → Nat → Nat → List Bool → SymRes
  | 0, _, _, _ => .illegal
  | fuel + 1, n, w, bits =>
    match bits with
    | [] => .truncated
    | b :: rest =>
      let w := 2 * w + b2n b
      match code.find? fun c => c.len == n + 1 && c.word == w with
      | some c => .sym c.sym c.len
      | none =>
        if code.any fun c => n + 1 < c.len && c.word / 2 ^ (c.len - (n + 1)) == w then readSymGo code fuel (n + 1) w rest
        else .illegal

/-- Read one symbol of a prefix code at the front of a bit string. -/
def readSym (code : List CodeWord) (bits : List Bool) : SymRes := readSymGo code 15 0 0 bits

/-- The bits of a symbol's code word as they are sent. -/
def symBits (code : List CodeWord) (s : Nat) : List Bool :=
  match code.find? fun c => c.sym == s with
  | some c => bitsMsb c.len c.word
  | none => []

end Sys2Proof.Machine
end

