-- ==== Sys2Proof/Machine/QzStream.lean ====
section
/-! DEFINITION. The QZ stream format (R162 to R169, R171) and the capture encoder (R181). -/

namespace Sys2Proof.Machine

/-! ### Tables (R165 to R167) -/

/-- Static literal/length code lengths (R166). -/
def staticLitLens : List Nat := List.replicate 128 8 ++ List.replicate 128 9 ++ List.replicate 32 7

/-- Static distance code lengths (R166). -/
def staticDistLens : List Nat := List.replicate 32 5

/-- Base length and extra bits of a length symbol 257 to 284 (R165). -/
def lengthBase (s : Nat) : Nat × Nat :=
  if s < 265 then (s - 253, 0)
  else
    let e := (s - 265) / 4 + 1
    (4 + 2 ^ (e + 2) + (s - 265) % 4 * 2 ^ e, e)

/-- Base distance and extra bits of a distance symbol (R165). -/
def distBase (s : Nat) : Nat × Nat :=
  if s < 4 then (s + 1, 0)
  else
    let e := s / 2 - 1
    (1 + 2 ^ (e + 1) + s % 2 * 2 ^ e, e)

/-- Order of the code-length-code lengths in a TYPE 2 header (R167). -/
def clOrder : List Nat := [0, 8, 16, 17, 18, 7, 9, 6, 10, 5, 11, 4, 12, 3, 13, 2, 14, 1, 15]

/-! ### Decoder state -/

/-- What the decoder reads next. -/
inductive QzPhase where
  | header
  | block
  | stored (left : Nat)
  | coded
  | trailer
deriving DecidableEq, Repr

/-- The state of a stream decoder between fields (R171, R173). The window holds the last output bytes, newest first. -/
structure QzState where
  bit : Nat
  phase : QzPhase
  final : Bool
  btype : Nat
  /-- Bytes of a match still owed, and its distance (R171). -/
  rem : Nat
  dist : Nat
  lits : List Nat
  dists : List Nat
  window : List Byte
  total : Nat
  blockOut : Nat
  /-- The CRC register before the final XOR. -/
  crc : Word
deriving DecidableEq, Repr

def QzState.init : QzState := ⟨0, .header, false, 0, 0, 0, [], [], [], 0, 0, 0xFFFFFFFF#32⟩

/-- REM: the bytes of a match or of a stored block still owed (R171, R185). -/
def QzState.owed (q : QzState) : Nat :=
  match q.phase with
  | .stored left => if q.rem = 0 then left else q.rem
  | _ => q.rem

/-- REM_KIND (R185): 0 none, 1 match, 2 stored. -/
def QzState.owedKind (q : QzState) : Nat := if q.rem != 0 then 1 else if q.owed != 0 then 2 else 0

/-- How a decoder stops. -/
inductive QzEnd where
  | done
  | full
  /-- A fault: status, bit offset reported, bit offset up to which input was consumed (R169, R172). -/
  | fault (status bit used : Nat)
deriving DecidableEq, Repr

abbrev qzIllegal : Nat := 0x10
abbrev qzDistance : Nat := 0x11
abbrev qzOverrun : Nat := 0x12
abbrev qzTable : Nat := 0x13
abbrev qzTruncated : Nat := 0x14
abbrev qzCrc : Nat := 0x15
abbrev qzReserved : Nat := 0x16
abbrev qzSeal : Nat := 0x17

/-- One output byte enters the window, the counts and the CRC. -/
def QzState.put (q : QzState) (b : Byte) : QzState :=
  { q with window := (b :: q.window).take 65536, total := q.total + 1, blockOut := q.blockOut + 1, crc := crc32cByte q.crc b }

/-- The byte `d` back in the output. -/
def QzState.back (q : QzState) (d : Nat) : Byte := q.window.getD (d - 1) 0

/-! ### The TYPE 2 header (R167) -/

/-- What reading a header gives. -/
inductive TableRes where
  | ok (lits dists : List Nat) (used : Nat)
  | invalid (used : Nat)
  | truncated
  | illegal (bit : Nat) (used : Nat)
deriving DecidableEq, Repr

/-- The sequence of lengths: `acc` holds the lengths so far, newest first; `used` counts header bits. -/
def readLens (code : List CodeWord) (need : Nat) : Nat → Nat → List Bool → List Nat → TableRes
  | 0, used, _, _ => .invalid used
  | fuel + 1, used, bits, acc =>
    if acc.length = need then .ok acc.reverse [] used
    else
      match readSym code bits with
      | .truncated => .truncated
      | .illegal => .illegal used (used + 1)
      | .sym s n =>
        let bits := bits.drop n
        if s < 16 then readLens code need fuel (used + n) bits (s :: acc)
        else
          let x := if s = 16 then (2, 3) else if s = 17 then (3, 3) else (7, 11)
          if s = 16 && acc.isEmpty then .invalid (used + n)
          else if bits.length < x.1 then .truncated
          else
            let k := ofBits (bits.take x.1) + x.2
            let used := used + n + x.1
            if need < acc.length + k then .invalid used
            else
              let v := if s = 16 then acc.headD 0 else 0
              readLens code need fuel used (bits.drop x.1) (List.replicate k v ++ acc)

/-- Read a TYPE 2 header; `used` bits of the block header precede it. -/
def readTables (used : Nat) (bits : List Bool) : TableRes :=
  if bits.length < 14 then .truncated
  else
    let hll := ofBits (bits.take 5) + 257
    let hd := ofBits ((bits.drop 5).take 5) + 1
    let hcl := ofBits ((bits.drop 10).take 4) + 4
    let bits := bits.drop 14
    if bits.length < 3 * hcl then .truncated
    else
      let fields := (List.range hcl).map fun i => ofBits ((bits.drop (3 * i)).take 3)
      let cl := (List.range 19).map fun s => fields.getD (clOrder.idxOf s) 0
      let used := used + 14 + 3 * hcl
      if !(complete cl || singleCode cl) then .invalid used
      else
        match readLens (canonical cl) (hll + hd) (hll + hd + 1) used (bits.drop (3 * hcl)) [] with
        | .ok ls _ used =>
          let lits := ls.take hll ++ List.replicate (288 - hll) 0
          let dists := ls.drop hll ++ List.replicate (32 - hd) 0
          if lits.getD 256 0 = 0 || ((lits.drop 285).any (· != 0)) || !complete lits ||
              !(complete dists || singleCode dists || dists.all (· == 0)) then .invalid used
          else .ok lits dists used
        | r => r

/-! ### Decoding -/

/-- The result of one field: go on with a state, or stop. -/
inductive QzStep where
  | go (q : QzState) (out : List Byte)
  | stop (q : QzState) (e : QzEnd)
deriving DecidableEq, Repr

/-- The header of the stream (R162). -/
def stepHeader (total : Nat) (q : QzState) (bits : List Bool) : QzStep :=
  if bits.length < 32 then .stop q (.fault qzTruncated total total)
  else if ofBits (bits.take 32) = 0x00015A51 then .go { q with bit := q.bit + 32, phase := .block } []
  else .stop q (.fault qzIllegal q.bit (q.bit + 32))

/-- A block header (R163, R164, R166, R167). -/
def stepBlock (total : Nat) (q : QzState) (bits : List Bool) : QzStep :=
  let at0 := q.bit
  if bits.length < 3 then .stop q (.fault qzTruncated total total)
  else
    let final := bits.headD false
    let ty := ofBits ((bits.drop 1).take 2)
    let q' := { q with final := final, btype := ty, blockOut := 0 }
    match ty with
    | 0 =>
      let pad := (8 - (q.bit + 3) % 8) % 8
      let b := bits.drop (3 + pad)
      if b.length < 32 then .stop q (.fault qzTruncated total total)
      else
        let len := ofBits (b.take 16)
        let nlen := ofBits ((b.drop 16).take 16)
        let at1 := q.bit + 3 + pad
        if nlen = 65535 - len then .go { q' with bit := at1 + 32, phase := .stored (len + 1) } []
        else .stop q (.fault qzIllegal (at1 + 16) (at1 + 32))
    | 1 => .go { q' with bit := q.bit + 3, phase := .coded, lits := staticLitLens, dists := staticDistLens } []
    | 2 =>
      match readTables (q.bit + 3) (bits.drop 3) with
      | .ok lits dists used => .go { q' with bit := used, phase := .coded, lits := lits, dists := dists } []
      | .invalid used => .stop q (.fault qzTable at0 used)
      | .truncated => .stop q (.fault qzTruncated total total)
      | .illegal b used => .stop q (.fault qzIllegal b used)
    | _ => .stop q (.fault qzReserved at0 (at0 + 3))

/-- The phase after a block's end. -/
def QzState.endBlock (q : QzState) : QzState := { q with phase := if q.final then .trailer else .block }

/-- One byte of a stored block (R164, R171). `room` is the space left in the extent. -/
def stepStored (total room left : Nat) (q : QzState) (bits : List Bool) : QzStep :=
  if left = 0 then .go q.endBlock []
  else if room = 0 then .stop q .full
  else if bits.length < 8 then .stop q (.fault qzTruncated total total)
  else
    let b : Byte := BitVec.ofNat 8 (ofBits (bits.take 8))
    .go { (q.put b) with bit := q.bit + 8, phase := .stored (left - 1) } [b]

/-- The distance of a match whose length `len` has been read; `start` is where its length code word began, `used` where
the distance begins (R165, R168). -/
def stepDistance (total start len : Nat) (q : QzState) (used : Nat) (bits : List Bool) : QzStep :=
  if q.dists.all (· == 0) then .stop q (.fault qzIllegal used used)
  else
    match readSym (canonical q.dists) bits with
    | .truncated => .stop q (.fault qzTruncated total total)
    | .illegal => .stop q (.fault qzIllegal used (used + 1))
    | .sym ds n =>
      let x := distBase ds
      let bits := bits.drop n
      if bits.length < x.2 then .stop q (.fault qzTruncated total total)
      else
        let d := x.1 + ofBits (bits.take x.2)
        let used := used + n + x.2
        if min 65536 q.total < d then .stop q (.fault qzDistance start used)
        else .go { q with bit := used, rem := len, dist := d } []

/-- One symbol of a coded block (R165, R169, R171). -/
def stepSymbol (total room : Nat) (q : QzState) (bits : List Bool) : QzStep :=
  match readSym (canonical q.lits) bits with
  | .truncated => .stop q (.fault qzTruncated total total)
  | .illegal => .stop q (.fault qzIllegal q.bit (q.bit + 1))
  | .sym s n =>
    if s < 256 then
      if 65536 ≤ q.blockOut then .stop q (.fault qzOverrun q.bit (q.bit + n))
      else if room = 0 then .stop q .full
      else
        let b : Byte := BitVec.ofNat 8 s
        .go { (q.put b) with bit := q.bit + n } [b]
    else if s = 256 then .go { q with bit := q.bit + n }.endBlock []
    else if 285 ≤ s then .stop q (.fault qzIllegal q.bit (q.bit + n))
    else
      let x := lengthBase s
      let bits := bits.drop n
      if bits.length < x.2 then .stop q (.fault qzTruncated total total)
      else
        let ex := ofBits (bits.take x.2)
        let used := q.bit + n + x.2
        if s = 284 && ex = 31 then .stop q (.fault qzIllegal q.bit used)
        else if 65536 < q.blockOut + x.1 + ex then .stop q (.fault qzOverrun q.bit used)
        else stepDistance total q.bit (x.1 + ex) q used (bits.drop x.2)

/-- The trailer (R162). -/
def stepTrailer (total : Nat) (q : QzState) (bits : List Bool) : QzStep :=
  let pad := (8 - q.bit % 8) % 8
  let b := bits.drop pad
  let at0 := q.bit + pad
  if b.length < 64 then .stop q (.fault qzTruncated total total)
  else if ofBits (b.take 32) = q.total % 2 ^ 32 && ofBits ((b.drop 32).take 32) = (q.crc ^^^ 0xFFFFFFFF#32).toNat then
    .stop { q with bit := at0 + 64 } .done
  else .stop q (.fault qzCrc at0 (at0 + 64))

/-- One step of the decoder: a byte of a match owed, or the next field. -/
def qzStep (total room : Nat) (q : QzState) (bits : List Bool) : QzStep :=
  if q.rem != 0 then
    if room = 0 then .stop q .full
    else
      let b := q.back q.dist
      .go { (q.put b) with rem := q.rem - 1 } [b]
  else
    match q.phase with
    | .header => stepHeader total q bits
    | .block => stepBlock total q bits
    | .stored left => stepStored total room left q bits
    | .coded => stepSymbol total room q bits
    | .trailer => stepTrailer total q bits

/-- What a run of the decoder gives: its state, the bytes written, and how it stopped. -/
structure QzRun where
  q : QzState
  out : List Byte
  stop : QzEnd
deriving DecidableEq, Repr

/-- Run the decoder over an input of `total` bits with an extent of `room` bytes; `bits` is the input from `q.bit` on and
`acc` the output, newest first. -/
def qzRunGo (total : Nat) : Nat → Nat → QzState → List Bool → List Byte → QzRun
  | 0, _, q, _, acc => ⟨q, acc.reverse, .fault qzTruncated total total⟩
  | fuel + 1, room, q, bits, acc =>
    match qzStep total room q bits with
    | .stop q' e => ⟨q', acc.reverse, e⟩
    | .go q' out => qzRunGo total fuel (room - out.length) q' (bits.drop (q'.bit - q.bit)) (out ++ acc)

/-- Run a decoder from a state (R169, R171, R174). Every step uses a bit of the input, writes a byte, or ends a block.
(Log 68: DESIGN CHOICE, unsafe.) -/
def qzRun (q : QzState) (input : List Byte) (room : Nat) : QzRun :=
  let bits := bytesBits input
  qzRunGo bits.length (2 * bits.length + 2 * room + 16) room q (bits.drop q.bit) []

/-! ### Encoding (R181) -/

/-- How far the input at `x` matches the input `d` back, up to `lim` bytes. -/
def matchRun (inp : Array Byte) (x d : Nat) : Nat → Nat → Nat
  | 0, n => n
  | fuel + 1, n => if inp.getD (x + n) 0 = inp.getD (x + n - d) 0 then matchRun inp x d fuel (n + 1) else n

/-- The distances, nearest first, whose next 4 bytes equal those at `x` (R181). -/
def chainAt (inp : Array Byte) (x depth : Nat) : List Nat :=
  (((List.range (min x 65536)).map (· + 1)).filter fun d =>
    (List.range 4).all fun i => inp.getD (x + i) 0 == inp.getD (x + i - d) 0).take depth

/-- The longest match, the nearest among equals: length and distance. -/
def bestMatch (inp : Array Byte) (x lim depth : Nat) : Option (Nat × Nat) :=
  if lim < 4 then none
  else
    (chainAt inp x depth).foldl
      (fun b d =>
        let n := matchRun inp x d lim 0
        match b with
        | some (m, _) => if m < n then some (n, d) else b
        | none => if 4 ≤ n then some (n, d) else none) none

/-- The length symbol of a length, and the distance symbol of a distance. -/
def lengthSym (n : Nat) : Nat := ((List.range 28).filter fun i => (lengthBase (257 + i)).1 ≤ n).length + 256
def distSym (d : Nat) : Nat := ((List.range 32).filter fun s => (distBase s).1 ≤ d).length - 1

/-- Code bits of a match with the static tables. -/
def matchBits (lit dist : List CodeWord) (n d : Nat) : List Bool :=
  let ls := lengthSym n
  let ds := distSym d
  symBits lit ls ++ bitsLsb (lengthBase ls).2 (n - (lengthBase ls).1) ++ symBits dist ds ++
    bitsLsb (distBase ds).2 (d - (distBase ds).1)

/-- The coded bits of the bytes from `x` to `stop`. -/
def codeBlock (inp : Array Byte) (stop depth : Nat) (lit dist : List CodeWord) : Nat → Nat → List Bool
  | 0, _ => []
  | fuel + 1, x =>
    if stop ≤ x then symBits lit 256
    else
      match bestMatch inp x (min 258 (stop - x)) depth with
      | some (n, d) => matchBits lit dist n d ++ codeBlock inp stop depth lit dist fuel (x + n)
      | none => symBits lit (inp.getD x 0).toNat ++ codeBlock inp stop depth lit dist fuel (x + 1)

/-- One block of the output, begun at bit `pos` of the stream (R181). -/
def encodeBlock (inp : Array Byte) (start stop depth : Nat) (storedOnly final : Bool) (pos : Nat) : List Bool :=
  let pad := (8 - (pos + 3) % 8) % 8
  let n := stop - start
  let head (ty : Nat) : List Bool := final :: bitsLsb 2 ty
  let coded := head 1 ++ codeBlock inp stop depth (canonical staticLitLens) (canonical staticDistLens) (n + 1) start
  let storedLen := 3 + pad + 32 + 8 * n
  if storedOnly || storedLen < coded.length then
    head 0 ++ List.replicate pad false ++ bitsLsb 16 (n - 1) ++ bitsLsb 16 (65536 - n) ++
      (List.range n).flatMap fun i => bitsLsb 8 (inp.getD (start + i) 0).toNat
  else coded

/-- The blocks of an input, until one would not fit in `room` bytes: the bits, and whether all were written (R182). -/
def encodeBlocks (inp : Array Byte) (depth room : Nat) (storedOnly : Bool) : Nat → Nat → List Bool → List Bool × Bool
  | 0, _, acc => (acc, true)
  | fuel + 1, start, acc =>
    if inp.size ≤ start then (acc, true)
    else
      let stop := min inp.size (start + 65536)
      let acc' := acc ++ encodeBlock inp start stop depth storedOnly (stop == inp.size) acc.length
      if 8 * room < acc'.length then (acc, false) else encodeBlocks inp depth room storedOnly fuel stop acc'

/-- The QZ stream of a captured rectangle in an extent of `room` bytes (R181, R182): the bytes, and whether it is whole. -/
def encodeStream (depth room : Nat) (storedOnly : Bool) (inp : List Byte) : List Byte × Bool :=
  let hdr := bitsLsb 32 0x00015A51
  if room < 4 then ([], false)
  else
    let r := encodeBlocks inp.toArray depth room storedOnly (inp.length + 1) 0 hdr
    let body := packBits (r.1.length + 1) r.1
    if r.2 && body.length + 8 ≤ room then (body ++ leBytes 4 (inp.length % 2 ^ 32) ++ leBytes 4 (crc32c inp).toNat, true)
    else (body, false)

end Sys2Proof.Machine
end

