-- ==== Sys2Proof/Machine/SMap.lean ====
section
/-! DEFINITION. Sparse maps: lists of (key, value) pairs with strictly rising keys. With a default value for the
keys that are not listed, `set` never lists a key whose value is the default, so equal maps are equal lists. -/

namespace Sys2Proof.Machine

/-- A sparse map from numbers (offsets, addresses, indices) to values. -/
abbrev SMap (β : Type) := List (Nat × β)

/-- The value listed for `k`, if there is one. -/
def SMap.find? {β : Type} : SMap β → Nat → Option β
  | [], _ => none
  | (k', v) :: m, k => if k' = k then some v else SMap.find? m k

/-- The map without `k`. -/
def SMap.erase {β : Type} : SMap β → Nat → SMap β
  | [], _ => []
  | (k', v) :: m, k => if k' = k then SMap.erase m k else (k', v) :: SMap.erase m k

/-- `(k, v)` placed before the first larger key. -/
def SMap.insertSorted {β : Type} (k : Nat) (v : β) : SMap β → SMap β
  | [] => [(k, v)]
  | (k', v') :: m => if k < k' then (k, v) :: (k', v') :: m else (k', v') :: SMap.insertSorted k v m

/-- The map that lists `v` for `k`, whatever it listed before. -/
def SMap.insert {β : Type} (m : SMap β) (k : Nat) (v : β) : SMap β :=
  SMap.insertSorted k v (SMap.erase m k)

/-- The value at `k`, where `d` gives the value of an unlisted key. -/
def SMap.get {β : Type} (d : Nat → β) (m : SMap β) (k : Nat) : β :=
  (SMap.find? m k).getD (d k)

/-- The map with `v` at `k`; a value that equals the default is not listed. -/
def SMap.set {β : Type} [DecidableEq β] (d : Nat → β) (m : SMap β) (k : Nat) (v : β) : SMap β :=
  if v = d k then SMap.erase m k else SMap.insert m k v

/-- Every key of the map is larger than `k`. -/
def SMap.above {β : Type} (k : Nat) (m : SMap β) : Bool := m.all fun e => k < e.1

/-- The keys rise strictly. -/
def SMap.sorted {β : Type} : SMap β → Bool
  | [] => true
  | (k, _) :: m => SMap.above k m && SMap.sorted m

/-- The canonical form: keys rise strictly and no listed value is the default. -/
def SMap.wf {β : Type} [DecidableEq β] (d : Nat → β) (m : SMap β) : Bool :=
  SMap.sorted m && m.all fun e => decide (e.2 ≠ d e.1)

/-- The map with every listed value changed by `f`; values that become the default are dropped. -/
def SMap.mapVals {β : Type} [DecidableEq β] (d : Nat → β) (f : Nat → β → β) : SMap β → SMap β
  | [] => []
  | (k, v) :: m =>
    let v' := f k v
    if v' = d k then SMap.mapVals d f m else (k, v') :: SMap.mapVals d f m

/-- The map without the keys for which `p` holds. -/
def SMap.drop {β : Type} (p : Nat → Bool) (m : SMap β) : SMap β := m.filter fun e => !p e.1

end Sys2Proof.Machine
end

