-- ==== Sys2Proof/Machine/RegMap.lean ====
section
/-! DEFINITION. The register map: every field of every register page and of every register window, with its place,
width, access type, reset value, reset class and simple range, as the field tables of the chapters give them.
The two copies of a half page share one table; the Dusk copy lies 0x1_0000 above the Dawn copy (R404). -/

namespace Sys2Proof.Machine

/-- Access types of R3. -/
inductive Acc where
  | ro | rw | rws | rwl | rw1c | wo | rwp
deriving DecidableEq, Repr

/-- Reset classes of a field (R5). `cold`: COLD alone. `host`: COLD and HOST-SIDE. `perst`: COLD and PERST.
`perstHot`: COLD, PERST and HOT. `wdog`: WDOG. `none`: no class restores it. `keptFull`: COLD, but kept by a
full-scope SOFT reset. -/
inductive RstCls where
  | cold | host | perst | perstHot | wdog | none | keptFull
deriving DecidableEq, Repr

/-- Legal values of one field by itself (R88). `clamp lo hi`: a value outside is replaced by the nearest bound.
`keepAbove m`: a value above `m` is a reserved enumeration. `keepZero`: zero is a reserved enumeration. -/
inductive Rng where
  | any
  | clamp (lo hi : Nat)
  | keepAbove (m : Nat)
  | keepZero
deriving DecidableEq, Repr

/-- One field of a register, or of `cnt` registers `stride` bytes apart. -/
structure FieldSpec where
  off : Nat
  stride : Nat
  cnt : Nat
  lo : Nat
  w : Nat
  acc : Acc
  rst : Nat
  cls : RstCls
  rng : Rng
deriving DecidableEq, Repr

/-- The place of one field: BAR0 offset of its register, lowest bit, width. -/
structure Fld where
  off : Nat
  lo : Nat
  w : Nat
deriving DecidableEq, Repr

/-- Distance of a half's register pages from the Dawn copy (R404). -/
def halfOff : Half → Nat
  | .dawn => 0
  | .dusk => 0x10000

/-- The common page header (R398), at the offsets within a page. BLK_ID and DIGEST have computed reset values. -/
def headerSpecs : List FieldSpec := [
  ⟨0x000, 0, 1, 0, 24, .ro, 0, .cold, .any⟩,
  ⟨0x004, 0, 1, 0, 1, .wo, 0, .cold, .any⟩,
  ⟨0x004, 0, 1, 1, 1, .wo, 0, .cold, .any⟩,
  ⟨0x008, 0, 1, 0, 1, .ro, 0, .cold, .any⟩,
  ⟨0x008, 0, 1, 1, 1, .ro, 0, .cold, .any⟩,
  ⟨0x008, 0, 1, 2, 1, .ro, 0, .cold, .any⟩,
  ⟨0x008, 0, 1, 3, 1, .ro, 0, .cold, .any⟩,
  ⟨0x00C, 0, 1, 0, 32, .rw1c, 0, .cold, .any⟩,
  ⟨0x010, 0, 1, 0, 32, .rw, 0, .host, .any⟩,
  ⟨0x014, 0, 1, 0, 32, .wo, 0, .cold, .any⟩,
  ⟨0x018, 0, 1, 0, 5, .rw1c, 0, .cold, .any⟩,
  ⟨0x01C, 0, 1, 0, 32, .ro, 0, .cold, .any⟩,
  ⟨0x020, 0, 1, 0, 32, .ro, 0, .cold, .any⟩,
  ⟨0x024, 0, 1, 0, 32, .ro, 0, .cold, .any⟩,
  ⟨0x028, 0, 1, 0, 24, .ro, 0, .cold, .any⟩,
  ⟨0x02C, 0, 1, 0, 32, .ro, 0, .cold, .any⟩,
  ⟨0x030, 0, 1, 0, 32, .ro, 0, .cold, .any⟩,
  ⟨0x034, 0, 1, 0, 32, .ro, 0, .cold, .any⟩,
  ⟨0x038, 0, 1, 0, 32, .ro, 0, .cold, .any⟩,
  ⟨0x03C, 0, 1, 0, 16, .ro, 0, .cold, .any⟩,
  ⟨0x03C, 0, 1, 16, 16, .ro, 0, .cold, .any⟩]

/-- Fields of SURF (R40). -/
def specsSURF : List FieldSpec := [
  ⟨0x14100, 0x0, 1, 0, 1, .rw, 0x1, .host, .any⟩,
  ⟨0x14100, 0x0, 1, 1, 4, .rw, 0x2, .host, .any⟩,
  ⟨0x14104, 0x0, 1, 0, 11, .ro, 0x0, .cold, .any⟩,
  ⟨0x14108, 0x0, 1, 0, 12, .rw, 0x0, .host, .any⟩,
  ⟨0x1410C, 0x0, 1, 0, 6, .rw, 0x0, .host, .any⟩,
  ⟨0x14110, 0x0, 1, 0, 32, .wo, 0x0, .host, .any⟩,
  ⟨0x14114, 0x0, 1, 0, 20, .wo, 0x0, .host, .any⟩,
  ⟨0x14114, 0x0, 1, 20, 12, .wo, 0x0, .host, .any⟩,
  ⟨0x14118, 0x0, 1, 0, 2, .ro, 0x0, .host, .any⟩,
  ⟨0x14118, 0x0, 1, 16, 9, .ro, 0x0, .cold, .any⟩,
  ⟨0x1411C, 0x0, 1, 0, 20, .wo, 0x0, .host, .any⟩,
  ⟨0x1411C, 0x0, 1, 31, 1, .wo, 0x0, .host, .any⟩,
  ⟨0x14120, 0x0, 1, 0, 32, .ro, 0x0, .host, .any⟩,
  ⟨0x14124, 0x0, 1, 0, 32, .ro, 0x0, .host, .any⟩,
  ⟨0x14128, 0x0, 1, 0, 32, .ro, 0x0, .host, .any⟩,
  ⟨0x1412C, 0x0, 1, 0, 32, .ro, 0x0, .cold, .any⟩,
  ⟨0x14130, 0x0, 1, 0, 32, .ro, 0x0, .cold, .any⟩,
  ⟨0x14134, 0x0, 1, 0, 32, .ro, 0x0, .cold, .any⟩,
  ⟨0x14138, 0x0, 1, 0, 20, .ro, 0x0, .cold, .any⟩,
  ⟨0x1413C, 0x0, 1, 0, 21, .ro, 0x0, .cold, .any⟩]

/-- Fields of QCTX (R41). -/
def specsQCTX : List FieldSpec := [
  ⟨0x100000, 0x20, 8192, 0, 32, .rw, 0x0, .host, .any⟩,
  ⟨0x100004, 0x20, 8192, 0, 32, .rw, 0x0, .host, .any⟩,
  ⟨0x100008, 0x20, 8192, 0, 5, .rw, 0x4, .host, (.clamp 4 16)⟩,
  ⟨0x100008, 0x20, 8192, 8, 3, .rw, 0x0, .host, .any⟩,
  ⟨0x100008, 0x20, 8192, 16, 6, .rw, 0x0, .host, .any⟩,
  ⟨0x100008, 0x20, 8192, 29, 1, .rw, 0x0, .host, .any⟩,
  ⟨0x100008, 0x20, 8192, 31, 1, .rw, 0x0, .host, .any⟩,
  ⟨0x10000C, 0x20, 8192, 0, 16, .ro, 0x0, .host, .any⟩,
  ⟨0x10000C, 0x20, 8192, 16, 16, .ro, 0x0, .host, .any⟩,
  ⟨0x100010, 0x20, 8192, 0, 3, .ro, 0x0, .host, .any⟩,
  ⟨0x100010, 0x20, 8192, 8, 8, .ro, 0x0, .host, .any⟩,
  ⟨0x100014, 0x20, 8192, 0, 32, .ro, 0x0, .host, .any⟩]

/-- Fields of RING (R69). -/
def specsRING : List FieldSpec := [
  ⟨0x140000, 0x20, 64, 0, 32, .rw, 0x0, .host, .any⟩,
  ⟨0x140004, 0x20, 64, 0, 32, .rw, 0x0, .host, .any⟩,
  ⟨0x140008, 0x20, 64, 0, 5, .rw, 0x4, .host, (.clamp 4 16)⟩,
  ⟨0x140008, 0x20, 64, 16, 11, .rw, 0x0, .host, .any⟩,
  ⟨0x140008, 0x20, 64, 31, 1, .rw, 0x0, .host, .any⟩,
  ⟨0x14000C, 0x20, 64, 0, 8, .rw, 0x1, .host, (.clamp 1 255)⟩,
  ⟨0x14000C, 0x20, 64, 16, 16, .rw, 0x0, .host, .any⟩,
  ⟨0x140010, 0x20, 64, 0, 16, .rw, 0x0, .host, .any⟩,
  ⟨0x140014, 0x20, 64, 0, 16, .ro, 0x0, .host, .any⟩,
  ⟨0x140018, 0x20, 64, 0, 32, .ro, 0x0, .host, .any⟩,
  ⟨0x14001C, 0x20, 64, 0, 5, .ro, 0x0, .host, .any⟩]

/-- Fields of QMGR (R72). -/
def specsQMGR : List FieldSpec := [
  ⟨0x11100, 0x0, 1, 0, 13, .wo, 0x0, .host, .any⟩,
  ⟨0x11100, 0x0, 1, 16, 3, .wo, 0x0, .host, .any⟩,
  ⟨0x11104, 0x0, 1, 0, 13, .ro, 0x0, .host, .any⟩,
  ⟨0x11104, 0x0, 1, 16, 2, .ro, 0x0, .host, .any⟩,
  ⟨0x11108, 0x0, 1, 0, 32, .ro, 0x0, .host, .any⟩,
  ⟨0x1110C, 0x0, 1, 0, 14, .ro, 0x0, .host, .any⟩,
  ⟨0x11110, 0x0, 1, 0, 13, .ro, 0x0, .host, .any⟩,
  ⟨0x11114, 0x0, 1, 0, 32, .ro, 0x0, .host, .any⟩]

/-- Fields of HOIST (R73). -/
def specsHOIST : List FieldSpec := [
  ⟨0x12100, 0x0, 1, 0, 1, .rw, 0x0, .host, .any⟩,
  ⟨0x12100, 0x0, 1, 8, 5, .rw, 0x8, .host, (.clamp 0 24)⟩,
  ⟨0x12104, 0x0, 1, 0, 6, .rw, 0x0, .host, .any⟩,
  ⟨0x12108, 0x0, 1, 0, 32, .ro, 0x0, .host, .any⟩,
  ⟨0x1210C, 0x0, 1, 0, 32, .ro, 0x0, .host, .any⟩,
  ⟨0x12110, 0x0, 1, 0, 32, .ro, 0x0, .host, .any⟩,
  ⟨0x12114, 0x0, 1, 0, 32, .ro, 0x0, .host, .any⟩,
  ⟨0x12118, 0x0, 1, 0, 32, .ro, 0x0, .host, .any⟩,
  ⟨0x1211C, 0x0, 1, 0, 16, .wo, 0x0, .host, .any⟩,
  ⟨0x12200, 0x40, 16, 0, 32, .rw, 0x0, .host, .any⟩,
  ⟨0x12204, 0x40, 16, 0, 32, .rw, 0x0, .host, .any⟩,
  ⟨0x12208, 0x40, 16, 0, 32, .rw, 0x0, .host, .any⟩,
  ⟨0x1220C, 0x40, 16, 0, 32, .rw, 0x0, .host, .any⟩,
  ⟨0x12210, 0x40, 16, 0, 20, .rw, 0x0, .host, .any⟩,
  ⟨0x12214, 0x40, 16, 0, 1, .wo, 0x0, .host, .any⟩,
  ⟨0x12214, 0x40, 16, 1, 1, .rw, 0x0, .host, .any⟩,
  ⟨0x12214, 0x40, 16, 2, 1, .rw, 0x0, .host, .any⟩,
  ⟨0x12214, 0x40, 16, 3, 1, .rw, 0x0, .host, .any⟩,
  ⟨0x12218, 0x40, 16, 0, 32, .ro, 0x0, .host, .any⟩,
  ⟨0x1221C, 0x40, 16, 0, 32, .ro, 0x0, .host, .any⟩,
  ⟨0x12220, 0x40, 16, 0, 32, .ro, 0x0, .host, .any⟩,
  ⟨0x12224, 0x40, 16, 0, 32, .ro, 0x0, .host, .any⟩,
  ⟨0x12228, 0x40, 16, 0, 20, .ro, 0x0, .host, .any⟩,
  ⟨0x1222C, 0x40, 16, 0, 8, .ro, 0x0, .host, .any⟩,
  ⟨0x1222C, 0x40, 16, 8, 1, .ro, 0x0, .host, .any⟩,
  ⟨0x1222C, 0x40, 16, 9, 1, .ro, 0x0, .host, .any⟩,
  ⟨0x12230, 0x40, 16, 0, 20, .ro, 0x0, .host, .any⟩]

/-- Fields of EVT (R74). -/
def specsEVT : List FieldSpec := [
  ⟨0x15100, 0x0, 1, 0, 32, .ro, 0x0, .host, .any⟩,
  ⟨0x15104, 0x0, 1, 0, 32, .ro, 0x0, .host, .any⟩,
  ⟨0x15108, 0x0, 1, 0, 32, .ro, 0x0, .host, .any⟩,
  ⟨0x1510C, 0x0, 1, 0, 32, .ro, 0x0, .host, .any⟩,
  ⟨0x15110, 0x0, 1, 0, 32, .ro, 0x0, .host, .any⟩]

/-- Fields of SLOT (R78). -/
def specsSLOT : List FieldSpec := [
  ⟨0x150000, 0x20, 64, 0, 24, .wo, 0x0, .host, .any⟩,
  ⟨0x150004, 0x20, 64, 0, 32, .wo, 0x0, .host, .any⟩,
  ⟨0x150008, 0x20, 64, 0, 32, .rw, 0x0, .host, .any⟩,
  ⟨0x15000C, 0x20, 64, 0, 16, .wo, 0x0, .host, .any⟩,
  ⟨0x15000C, 0x20, 64, 16, 3, .wo, 0x0, .host, .any⟩,
  ⟨0x15000C, 0x20, 64, 19, 2, .wo, 0x0, .host, .any⟩,
  ⟨0x15000C, 0x20, 64, 21, 1, .wo, 0x0, .host, .any⟩,
  ⟨0x15000C, 0x20, 64, 22, 1, .wo, 0x0, .host, .any⟩,
  ⟨0x15000C, 0x20, 64, 23, 1, .wo, 0x0, .host, .any⟩,
  ⟨0x15000C, 0x20, 64, 24, 1, .wo, 0x0, .host, .any⟩,
  ⟨0x150010, 0x20, 64, 0, 3, .ro, 0x0, .host, .any⟩,
  ⟨0x150010, 0x20, 64, 6, 10, .ro, 0x0, .cold, .any⟩,
  ⟨0x150010, 0x20, 64, 16, 4, .ro, 0x0, .host, .any⟩,
  ⟨0x150010, 0x20, 64, 20, 4, .ro, 0x0, .host, .any⟩,
  ⟨0x150010, 0x20, 64, 24, 1, .ro, 0x0, .host, .any⟩,
  ⟨0x150014, 0x20, 64, 0, 13, .ro, 0x0, .host, .any⟩,
  ⟨0x150014, 0x20, 64, 16, 13, .ro, 0x0, .host, .any⟩,
  ⟨0x150018, 0x20, 64, 0, 32, .ro, 0x0, .host, .any⟩,
  ⟨0x15001C, 0x20, 64, 0, 24, .ro, 0x0, .host, .any⟩]

/-- Fields of TXN (R100). -/
def specsTXN : List FieldSpec := [
  ⟨0x13100, 0x0, 1, 0, 16, .ro, 0x0, .host, .any⟩,
  ⟨0x13100, 0x0, 1, 31, 1, .ro, 0x0, .host, .any⟩,
  ⟨0x13104, 0x0, 1, 0, 32, .ro, 0x0, .host, .any⟩,
  ⟨0x13108, 0x0, 1, 0, 32, .ro, 0x0, .host, .any⟩,
  ⟨0x1310C, 0x0, 1, 0, 32, .ro, 0x0, .host, .any⟩,
  ⟨0x13110, 0x0, 1, 0, 32, .ro, 0x0, .host, .any⟩,
  ⟨0x13114, 0x0, 1, 0, 16, .rw, 0x4B0, .host, (.clamp 1 65535)⟩,
  ⟨0x13118, 0x0, 1, 0, 6, .rw, 0x0, .host, .any⟩,
  ⟨0x1311C, 0x0, 1, 0, 7, .ro, 0x0, .host, .any⟩,
  ⟨0x13120, 0x0, 1, 0, 32, .ro, 0x0, .host, .any⟩,
  ⟨0x13124, 0x0, 1, 0, 32, .ro, 0x0, .host, .any⟩,
  ⟨0x13128, 0x0, 1, 0, 32, .ro, 0x0, .host, .any⟩,
  ⟨0x1312C, 0x0, 1, 0, 32, .ro, 0x0, .host, .any⟩,
  ⟨0x13130, 0x0, 1, 0, 16, .ro, 0x0, .host, .any⟩,
  ⟨0x13130, 0x0, 1, 16, 4, .ro, 0x0, .host, .any⟩]

/-- Fields of CHIP (R101, R375, R403). -/
def specsCHIP_0 : List FieldSpec := [
  ⟨0x100, 0x0, 1, 0, 1, .wo, 0x0, .cold, .any⟩,
  ⟨0x100, 0x0, 1, 1, 1, .wo, 0x0, .cold, .any⟩,
  ⟨0x100, 0x0, 1, 8, 8, .wo, 0x0, .cold, .any⟩,
  ⟨0x104, 0x0, 1, 0, 8, .rw1c, 0x1, .cold, .any⟩,
  ⟨0x108, 0x0, 1, 0, 32, .ro, 0x0, .cold, .any⟩,
  ⟨0x10C, 0x0, 1, 0, 1, .ro, 0x0, .cold, .any⟩,
  ⟨0x10C, 0x0, 1, 4, 4, .ro, 0x0, .cold, .any⟩,
  ⟨0x110, 0x0, 1, 0, 6, .ro, 0x0, .cold, .any⟩,
  ⟨0x110, 0x0, 1, 8, 6, .ro, 0x0, .cold, .any⟩,
  ⟨0x114, 0x0, 1, 0, 16, .rw, 0x64, .cold, (.clamp 1 65535)⟩,
  ⟨0x118, 0x0, 1, 0, 8, .rw, 0x8, .cold, (.clamp 1 255)⟩,
  ⟨0x11C, 0x0, 1, 0, 1, .wo, 0x0, .cold, .any⟩,
  ⟨0x11C, 0x0, 1, 8, 8, .wo, 0x0, .cold, .any⟩,
  ⟨0x120, 0x0, 1, 0, 9, .ro, 0x0, .cold, .any⟩,
  ⟨0x124, 0x0, 1, 0, 6, .rw, 0x0, .host, .any⟩,
  ⟨0x128, 0x0, 1, 0, 32, .ro, 0x0, .cold, .any⟩,
  ⟨0x12C, 0x0, 1, 0, 3, .ro, 0x0, .cold, .any⟩,
  ⟨0x12C, 0x0, 1, 3, 1, .ro, 0x0, .cold, .any⟩,
  ⟨0x12C, 0x0, 1, 4, 1, .ro, 0x0, .cold, .any⟩,
  ⟨0x12C, 0x0, 1, 5, 1, .ro, 0x0, .cold, .any⟩,
  ⟨0x12C, 0x0, 1, 6, 1, .ro, 0x0, .cold, .any⟩,
  ⟨0x12C, 0x0, 1, 16, 10, .ro, 0x0, .cold, .any⟩,
  ⟨0x12C, 0x0, 1, 28, 3, .ro, 0x0, .cold, .any⟩,
  ⟨0x130, 0x0, 1, 0, 16, .ro, 0x4880, .cold, .any⟩,
  ⟨0x130, 0x0, 1, 16, 8, .ro, 0x10, .cold, .any⟩,
  ⟨0x134, 0x0, 1, 0, 2, .ro, 0x2, .cold, .any⟩,
  ⟨0x140, 0x0, 1, 0, 32, .ro, 0x0, .cold, .any⟩,
  ⟨0x144, 0x0, 1, 0, 32, .ro, 0x0, .cold, .any⟩,
  ⟨0x148, 0x0, 1, 0, 32, .ro, 0x0, .cold, .any⟩,
  ⟨0x14C, 0x0, 1, 0, 1, .ro, 0x0, .cold, .any⟩,
  ⟨0x150, 0x4, 6, 0, 32, .ro, 0x0, .cold, .any⟩,
  ⟨0x168, 0x0, 1, 0, 16, .rw, 0x0, .cold, .any⟩,
  ⟨0x16C, 0x0, 1, 0, 1, .wo, 0x0, .cold, .any⟩,
  ⟨0x170, 0x0, 1, 0, 2, .ro, 0x0, .cold, .any⟩,
  ⟨0x170, 0x0, 1, 8, 6, .ro, 0x0, .cold, .any⟩,
  ⟨0x170, 0x0, 1, 16, 1, .ro, 0x0, .cold, .any⟩,
  ⟨0x174, 0x0, 1, 0, 6, .rw, 0x0, .cold, .any⟩,
  ⟨0x178, 0x0, 1, 0, 8, .ro, 0x0, .keptFull, .any⟩,
  ⟨0x17C, 0x0, 1, 0, 32, .ro, 0x0, .keptFull, .any⟩,
  ⟨0x180, 0x0, 1, 0, 32, .ro, 0x0, .cold, .any⟩]

/-- Fields of CHIP (R101, R375, R403). -/
def specsCHIP_1 : List FieldSpec := [
  ⟨0x184, 0x0, 1, 0, 32, .ro, 0x0, .cold, .any⟩,
  ⟨0x188, 0x0, 1, 0, 32, .ro, 0x0, .cold, .any⟩,
  ⟨0x18C, 0x0, 1, 0, 11, .rw, 0x0, .host, .any⟩,
  ⟨0x18C, 0x0, 1, 31, 1, .rw, 0x0, .host, .any⟩]

/-- Fields of CHIP (R101, R375, R403). -/
def specsCHIP : List FieldSpec := specsCHIP_0 ++ specsCHIP_1

/-- Fields of LAYER (R111). -/
def specsLAYER : List FieldSpec := [
  ⟨0x160000, 0x20, 256, 0, 32, .rwl, 0x0, .cold, .any⟩,
  ⟨0x160004, 0x20, 256, 0, 32, .rwl, 0x0, .cold, .any⟩,
  ⟨0x160008, 0x20, 256, 0, 16, .rws, 0x0, .cold, .any⟩,
  ⟨0x160008, 0x20, 256, 16, 16, .rws, 0x0, .cold, .any⟩,
  ⟨0x16000C, 0x20, 256, 0, 16, .rws, 0x0, .cold, (.clamp 0 16384)⟩,
  ⟨0x16000C, 0x20, 256, 16, 16, .rws, 0x0, .cold, (.clamp 0 16384)⟩,
  ⟨0x160010, 0x20, 256, 0, 19, .rws, 0x40, .cold, .any⟩,
  ⟨0x160010, 0x20, 256, 20, 4, .rws, 0x2, .cold, (.keepAbove 5)⟩,
  ⟨0x160010, 0x20, 256, 24, 2, .rws, 0x0, .cold, .any⟩,
  ⟨0x160010, 0x20, 256, 26, 2, .rws, 0x0, .cold, .any⟩,
  ⟨0x160010, 0x20, 256, 28, 2, .rws, 0x0, .cold, (.keepAbove 2)⟩,
  ⟨0x160010, 0x20, 256, 31, 1, .rws, 0x0, .cold, .any⟩,
  ⟨0x160014, 0x20, 256, 0, 12, .rws, 0xFFF, .cold, .any⟩]

/-- Fields of SCAN (R125). -/
def specsSCAN : List FieldSpec := [
  ⟨0x20100, 0x0, 1, 0, 1, .rw, 0x0, .cold, .any⟩,
  ⟨0x20100, 0x0, 1, 1, 1, .rws, 0x0, .cold, .any⟩,
  ⟨0x20104, 0x0, 1, 0, 10, .rws, 0x8, .cold, .any⟩,
  ⟨0x20104, 0x0, 1, 16, 13, .rws, 0x28, .cold, .any⟩,
  ⟨0x20108, 0x0, 1, 0, 14, .rws, 0x10, .cold, .any⟩,
  ⟨0x2010C, 0x0, 1, 0, 15, .rws, 0x18, .cold, .any⟩,
  ⟨0x2010C, 0x0, 1, 16, 15, .rws, 0x18, .cold, .any⟩,
  ⟨0x20110, 0x0, 1, 0, 7, .rws, 0x2, .cold, .any⟩,
  ⟨0x20114, 0x0, 1, 0, 3, .rws, 0x1, .cold, (.clamp 1 4)⟩,
  ⟨0x20118, 0x0, 1, 0, 9, .rws, 0x0, .cold, (.clamp 0 256)⟩,
  ⟨0x2011C, 0x0, 1, 0, 10, .rws, 0x0, .cold, .any⟩,
  ⟨0x2011C, 0x0, 1, 10, 10, .rws, 0x0, .cold, .any⟩,
  ⟨0x2011C, 0x0, 1, 20, 10, .rws, 0x0, .cold, .any⟩,
  ⟨0x20120, 0x0, 1, 0, 1, .rws, 0x0, .cold, .any⟩,
  ⟨0x20124, 0x0, 1, 0, 32, .ro, 0x0, .cold, .any⟩,
  ⟨0x20128, 0x0, 1, 0, 15, .ro, 0x0, .cold, .any⟩,
  ⟨0x2012C, 0x0, 1, 0, 1, .ro, 0x0, .cold, .any⟩,
  ⟨0x2012C, 0x0, 1, 1, 1, .ro, 0x0, .cold, .any⟩,
  ⟨0x2012C, 0x0, 1, 2, 1, .ro, 0x0, .cold, .any⟩,
  ⟨0x2012C, 0x0, 1, 3, 1, .ro, 0x0, .cold, .any⟩,
  ⟨0x2012C, 0x0, 1, 4, 4, .ro, 0x0, .cold, .any⟩,
  ⟨0x20130, 0x0, 1, 0, 15, .ro, 0x0, .cold, .any⟩,
  ⟨0x20134, 0x0, 1, 0, 15, .rw, 0x0, .host, .any⟩,
  ⟨0x20134, 0x0, 1, 31, 1, .rw, 0x0, .host, .any⟩,
  ⟨0x20138, 0x0, 1, 0, 6, .rw, 0x0, .host, .any⟩,
  ⟨0x20138, 0x0, 1, 8, 1, .rw, 0x0, .host, .any⟩,
  ⟨0x20138, 0x0, 1, 9, 1, .rw, 0x0, .host, .any⟩,
  ⟨0x20138, 0x0, 1, 10, 1, .rw, 0x0, .host, .any⟩,
  ⟨0x2013C, 0x0, 1, 0, 32, .ro, 0x0, .cold, .any⟩]

/-- Fields of COMP (R126). -/
def specsCOMP : List FieldSpec := [
  ⟨0x21100, 0x0, 1, 0, 9, .ro, 0x0, .cold, .any⟩,
  ⟨0x21104, 0x0, 1, 0, 32, .ro, 0x0, .cold, .any⟩,
  ⟨0x21108, 0x0, 1, 0, 14, .ro, 0x0, .cold, .any⟩,
  ⟨0x2110C, 0x0, 1, 0, 32, .ro, 0x0, .cold, .any⟩,
  ⟨0x21110, 0x0, 1, 0, 32, .ro, 0x0, .cold, .any⟩,
  ⟨0x21114, 0x0, 1, 0, 14, .ro, 0x0, .cold, .any⟩,
  ⟨0x21114, 0x0, 1, 16, 9, .ro, 0x0, .cold, .any⟩,
  ⟨0x21118, 0x0, 1, 0, 32, .ro, 0x0, .cold, .any⟩]

/-- Fields of HIST (R149). -/
def specsHIST : List FieldSpec := [
  ⟨0x22100, 0x0, 1, 0, 1, .rws, 0x0, .cold, .any⟩,
  ⟨0x22100, 0x0, 1, 1, 3, .rws, 0x0, .cold, .any⟩,
  ⟨0x22104, 0x0, 1, 0, 1, .wo, 0x0, .cold, .any⟩,
  ⟨0x22108, 0x0, 1, 0, 12, .ro, 0x0, .cold, .any⟩,
  ⟨0x2210C, 0x0, 1, 0, 2, .ro, 0x3, .cold, .any⟩,
  ⟨0x2210C, 0x0, 1, 4, 2, .ro, 0x3, .cold, .any⟩,
  ⟨0x2210C, 0x0, 1, 8, 2, .ro, 0x3, .cold, .any⟩,
  ⟨0x22110, 0x0, 1, 0, 3, .ro, 0x0, .cold, .any⟩,
  ⟨0x22110, 0x0, 1, 8, 3, .ro, 0x0, .cold, .any⟩,
  ⟨0x22110, 0x0, 1, 12, 3, .ro, 0x0, .cold, .any⟩,
  ⟨0x22110, 0x0, 1, 16, 3, .ro, 0x0, .cold, .any⟩,
  ⟨0x22114, 0x4, 3, 0, 32, .ro, 0x0, .cold, .any⟩,
  ⟨0x22120, 0x0, 1, 0, 32, .ro, 0x0, .cold, .any⟩,
  ⟨0x22124, 0x0, 1, 0, 32, .ro, 0x0, .cold, .any⟩,
  ⟨0x22128, 0x0, 1, 0, 14, .ro, 0x0, .cold, .any⟩,
  ⟨0x22128, 0x0, 1, 16, 7, .ro, 0x0, .cold, .any⟩,
  ⟨0x22128, 0x0, 1, 24, 3, .ro, 0x0, .cold, .any⟩,
  ⟨0x2212C, 0x0, 1, 0, 32, .ro, 0x0, .cold, .any⟩,
  ⟨0x22130, 0x0, 1, 0, 32, .ro, 0x0, .cold, .any⟩,
  ⟨0x22134, 0x0, 1, 0, 32, .ro, 0x0, .cold, .any⟩,
  ⟨0x22138, 0x0, 1, 0, 32, .ro, 0x0, .cold, .any⟩,
  ⟨0x2213C, 0x0, 1, 0, 6, .rw, 0x0, .host, .any⟩]

/-- Fields of OD (R150). -/
def specsOD : List FieldSpec := [
  ⟨0x23100, 0x0, 1, 0, 3, .ro, 0x0, .cold, .any⟩,
  ⟨0x23100, 0x0, 1, 4, 2, .ro, 0x0, .cold, .any⟩,
  ⟨0x23100, 0x0, 1, 8, 1, .ro, 0x0, .cold, .any⟩,
  ⟨0x23100, 0x0, 1, 9, 1, .ro, 0x0, .cold, .any⟩,
  ⟨0x23104, 0x0, 1, 0, 32, .ro, 0x0, .cold, .any⟩,
  ⟨0x23120, 0x0, 1, 0, 1, .rws, 0x0, .cold, .any⟩,
  ⟨0x23120, 0x0, 1, 1, 2, .rws, 0x0, .cold, .any⟩,
  ⟨0x23120, 0x0, 1, 4, 1, .rws, 0x0, .cold, .any⟩,
  ⟨0x23124, 0x0, 1, 0, 32, .rws, 0x0, .cold, .any⟩,
  ⟨0x23128, 0x0, 1, 0, 32, .rws, 0x0, .cold, .any⟩,
  ⟨0x2312C, 0x0, 1, 0, 32, .rws, 0x0, .cold, .any⟩,
  ⟨0x23130, 0x0, 1, 0, 4, .rws, 0x2, .cold, .any⟩,
  ⟨0x23130, 0x0, 1, 8, 3, .rws, 0x0, .cold, .any⟩,
  ⟨0x23134, 0x0, 1, 0, 15, .rws, 0x7FFF, .cold, .any⟩,
  ⟨0x23134, 0x0, 1, 16, 15, .rws, 0x7FFF, .cold, .any⟩,
  ⟨0x23138, 0x0, 1, 0, 15, .rws, 0x7FFF, .cold, .any⟩,
  ⟨0x2313C, 0x0, 1, 0, 12, .ro, 0x0, .cold, .any⟩,
  ⟨0x2313C, 0x0, 1, 31, 1, .ro, 0x0, .cold, .any⟩,
  ⟨0x23140, 0x0, 1, 0, 1, .wo, 0x0, .cold, .any⟩,
  ⟨0x23144, 0x0, 1, 0, 2, .ro, 0x0, .cold, .any⟩,
  ⟨0x23144, 0x0, 1, 4, 1, .ro, 0x0, .cold, .any⟩,
  ⟨0x23148, 0x0, 1, 0, 32, .ro, 0x0, .cold, .any⟩,
  ⟨0x2314C, 0x0, 1, 0, 32, .ro, 0x0, .cold, .any⟩,
  ⟨0x23150, 0x0, 1, 0, 32, .ro, 0x0, .cold, .any⟩,
  ⟨0x23154, 0x0, 1, 0, 6, .rw, 0x0, .host, .any⟩]

/-- Fields of CMP (R184). -/
def specsCMP : List FieldSpec := [
  ⟨0x16100, 0x0, 1, 0, 4, .rw, 0xF, .host, .keepZero⟩,
  ⟨0x16104, 0x0, 1, 0, 5, .rws, 0x8, .cold, (.clamp 1 31)⟩,
  ⟨0x16108, 0x0, 1, 0, 6, .rw, 0x0, .host, .any⟩,
  ⟨0x1610C, 0x0, 1, 0, 4, .ro, 0x0, .host, .any⟩,
  ⟨0x1610C, 0x0, 1, 4, 4, .ro, 0x0, .host, .any⟩,
  ⟨0x1610C, 0x0, 1, 8, 1, .ro, 0x0, .host, .any⟩,
  ⟨0x16110, 0x0, 1, 0, 32, .ro, 0x0, .host, .any⟩,
  ⟨0x16114, 0x0, 1, 0, 32, .ro, 0x0, .host, .any⟩,
  ⟨0x16118, 0x0, 1, 0, 6, .wo, 0x0, .host, .any⟩,
  ⟨0x1611C, 0x0, 1, 0, 32, .ro, 0x0, .host, .any⟩,
  ⟨0x16120, 0x0, 1, 0, 32, .ro, 0x0, .host, .any⟩,
  ⟨0x16124, 0x0, 1, 0, 32, .ro, 0x0, .host, .any⟩,
  ⟨0x16128, 0x0, 1, 0, 32, .ro, 0x0, .host, .any⟩,
  ⟨0x1612C, 0x0, 1, 0, 32, .ro, 0x0, .host, .any⟩,
  ⟨0x16130, 0x0, 1, 0, 32, .ro, 0x0, .host, .any⟩,
  ⟨0x16134, 0x0, 1, 0, 32, .ro, 0x0, .host, .any⟩,
  ⟨0x16138, 0x0, 1, 0, 32, .ro, 0x0, .host, .any⟩,
  ⟨0x1613C, 0x0, 1, 0, 32, .ro, 0x0, .host, .any⟩]

/-- Fields of JCTX (R185). -/
def specsJCTX : List FieldSpec := [
  ⟨0x190000, 0x40, 64, 0, 2, .ro, 0x0, .host, .any⟩,
  ⟨0x190000, 0x40, 64, 2, 1, .ro, 0x0, .host, .any⟩,
  ⟨0x190000, 0x40, 64, 3, 1, .ro, 0x0, .host, .any⟩,
  ⟨0x190000, 0x40, 64, 4, 2, .ro, 0x0, .host, .any⟩,
  ⟨0x190000, 0x40, 64, 6, 2, .ro, 0x0, .host, .any⟩,
  ⟨0x190000, 0x40, 64, 8, 4, .ro, 0x0, .host, .any⟩,
  ⟨0x190000, 0x40, 64, 16, 13, .ro, 0x0, .host, .any⟩,
  ⟨0x190004, 0x40, 64, 0, 16, .ro, 0x0, .host, .any⟩,
  ⟨0x190008, 0x40, 64, 0, 32, .ro, 0x0, .host, .any⟩,
  ⟨0x19000C, 0x40, 64, 0, 32, .ro, 0x0, .host, .any⟩,
  ⟨0x190010, 0x40, 64, 0, 17, .ro, 0x0, .host, .any⟩,
  ⟨0x190014, 0x40, 64, 0, 17, .ro, 0x0, .host, .any⟩,
  ⟨0x190018, 0x40, 64, 0, 32, .ro, 0x0, .host, .any⟩,
  ⟨0x19001C, 0x40, 64, 0, 32, .ro, 0x0, .host, .any⟩,
  ⟨0x190020, 0x40, 64, 0, 32, .ro, 0x0, .host, .any⟩,
  ⟨0x190024, 0x40, 64, 0, 17, .ro, 0x0, .host, .any⟩,
  ⟨0x190028, 0x40, 64, 0, 32, .ro, 0x0, .host, .any⟩]

/-- Fields of UNI (R210). -/
def specsUNI : List FieldSpec := [
  ⟨0x24100, 0x0, 1, 0, 1, .ro, 0x0, .cold, .any⟩,
  ⟨0x24100, 0x0, 1, 1, 1, .ro, 0x0, .cold, .any⟩,
  ⟨0x24100, 0x0, 1, 2, 1, .ro, 0x0, .cold, .any⟩,
  ⟨0x24104, 0x0, 1, 0, 32, .ro, 0x0, .cold, .any⟩,
  ⟨0x24108, 0x0, 1, 0, 14, .ro, 0x0, .cold, .any⟩,
  ⟨0x2410C, 0x0, 1, 0, 32, .ro, 0x0, .cold, .any⟩,
  ⟨0x24120, 0x0, 1, 0, 1, .rws, 0x0, .cold, .any⟩,
  ⟨0x24120, 0x0, 1, 1, 1, .rws, 0x0, .cold, .any⟩,
  ⟨0x24120, 0x0, 1, 2, 1, .rws, 0x0, .cold, .any⟩,
  ⟨0x24124, 0x0, 1, 0, 32, .rws, 0x0, .cold, .any⟩,
  ⟨0x24128, 0x0, 1, 0, 14, .rws, 0x0, .cold, .any⟩,
  ⟨0x24128, 0x0, 1, 16, 14, .rws, 0x1000, .cold, .any⟩,
  ⟨0x2412C, 0x0, 1, 0, 14, .rws, 0x2000, .cold, .any⟩,
  ⟨0x2412C, 0x0, 1, 16, 14, .rws, 0x3000, .cold, .any⟩,
  ⟨0x24130, 0x0, 1, 0, 14, .rws, 0x3FFF, .cold, .any⟩,
  ⟨0x24134, 0x0, 1, 0, 32, .rws, 0x40404040, .cold, .any⟩,
  ⟨0x24138, 0x0, 1, 0, 32, .rws, 0x40404040, .cold, .any⟩,
  ⟨0x2413C, 0x0, 1, 0, 32, .rws, 0x40404040, .cold, .any⟩,
  ⟨0x24140, 0x0, 1, 0, 24, .rws, 0x404040, .cold, .any⟩,
  ⟨0x24144, 0x0, 1, 0, 1, .wo, 0x0, .cold, .any⟩,
  ⟨0x24144, 0x0, 1, 1, 1, .wo, 0x0, .cold, .any⟩,
  ⟨0x24148, 0x0, 1, 0, 2, .ro, 0x0, .cold, .any⟩,
  ⟨0x24148, 0x0, 1, 4, 1, .ro, 0x0, .cold, .any⟩,
  ⟨0x2414C, 0x0, 1, 0, 32, .ro, 0x0, .cold, .any⟩,
  ⟨0x24150, 0x0, 1, 0, 32, .ro, 0x0, .cold, .any⟩,
  ⟨0x24154, 0x0, 1, 0, 12, .ro, 0x0, .cold, .any⟩,
  ⟨0x24154, 0x0, 1, 16, 13, .ro, 0x0, .cold, .any⟩,
  ⟨0x24154, 0x0, 1, 31, 1, .ro, 0x0, .cold, .any⟩,
  ⟨0x24158, 0x0, 1, 0, 12, .ro, 0x0, .cold, .any⟩,
  ⟨0x24158, 0x0, 1, 16, 13, .ro, 0x0, .cold, .any⟩,
  ⟨0x24158, 0x0, 1, 31, 1, .ro, 0x0, .cold, .any⟩,
  ⟨0x2415C, 0x0, 1, 0, 12, .ro, 0x0, .cold, .any⟩,
  ⟨0x2415C, 0x0, 1, 16, 12, .ro, 0x0, .cold, .any⟩,
  ⟨0x24160, 0x0, 1, 0, 6, .rw, 0x0, .host, .any⟩]

/-- Fields of AGE (R211). -/
def specsAGE_0 : List FieldSpec := [
  ⟨0x40100, 0x0, 1, 0, 1, .rws, 0x0, .cold, .any⟩,
  ⟨0x40100, 0x0, 1, 1, 1, .rws, 0x0, .cold, .any⟩,
  ⟨0x40100, 0x0, 1, 2, 2, .rws, 0x0, .cold, .any⟩,
  ⟨0x40104, 0x0, 1, 0, 7, .rws, 0x10, .cold, (.clamp 1 64)⟩,
  ⟨0x40108, 0x0, 1, 0, 5, .rws, 0x8, .cold, (.clamp 8 26)⟩,
  ⟨0x4010C, 0x0, 1, 0, 32, .rws, 0x0, .cold, .any⟩,
  ⟨0x40110, 0x0, 1, 0, 32, .rws, 0x0, .cold, .any⟩,
  ⟨0x40114, 0x0, 1, 0, 3, .rws, 0x0, .cold, .any⟩,
  ⟨0x40118, 0x0, 1, 0, 8, .rws, 0x8, .cold, .any⟩,
  ⟨0x40118, 0x0, 1, 8, 4, .rws, 0x8, .cold, (.clamp 1 10)⟩,
  ⟨0x4011C, 0x0, 1, 0, 1, .wo, 0x0, .cold, .any⟩,
  ⟨0x40120, 0x0, 1, 0, 1, .ro, 0x0, .cold, .any⟩,
  ⟨0x40120, 0x0, 1, 1, 2, .ro, 0x0, .cold, .any⟩,
  ⟨0x40120, 0x0, 1, 4, 1, .ro, 0x0, .cold, .any⟩,
  ⟨0x40124, 0x0, 1, 0, 32, .ro, 0x0, .cold, .any⟩,
  ⟨0x40128, 0x0, 1, 0, 32, .ro, 0x0, .cold, .any⟩,
  ⟨0x4012C, 0x0, 1, 0, 12, .ro, 0x0, .cold, .any⟩,
  ⟨0x4012C, 0x0, 1, 16, 12, .ro, 0x0, .cold, .any⟩,
  ⟨0x40130, 0x0, 1, 0, 32, .ro, 0x0, .cold, .any⟩,
  ⟨0x40134, 0x0, 1, 0, 32, .ro, 0x0, .cold, .any⟩,
  ⟨0x40138, 0x0, 1, 0, 32, .ro, 0x0, .cold, .any⟩,
  ⟨0x4013C, 0x0, 1, 0, 32, .ro, 0x0, .cold, .any⟩,
  ⟨0x40140, 0x0, 1, 0, 32, .ro, 0x0, .cold, .any⟩,
  ⟨0x40144, 0x0, 1, 0, 6, .rw, 0x0, .host, .any⟩,
  ⟨0x40150, 0x0, 1, 0, 16, .rws, 0x1000, .cold, (.clamp 0 0x4000)⟩,
  ⟨0x40150, 0x0, 1, 16, 16, .rws, 0x1000, .cold, (.clamp 0 0x4000)⟩,
  ⟨0x40154, 0x0, 1, 0, 16, .rws, 0x1000, .cold, (.clamp 0 0x4000)⟩,
  ⟨0x40154, 0x0, 1, 16, 16, .rws, 0x1000, .cold, (.clamp 0 0x4000)⟩,
  ⟨0x40158, 0x0, 1, 0, 16, .rws, 0x1000, .cold, (.clamp 0 0x4000)⟩,
  ⟨0x40158, 0x0, 1, 16, 16, .rws, 0x1000, .cold, (.clamp 0 0x4000)⟩,
  ⟨0x4015C, 0x0, 1, 0, 16, .rws, 0x1000, .cold, (.clamp 0 0x4000)⟩,
  ⟨0x4015C, 0x0, 1, 16, 16, .rws, 0x1000, .cold, (.clamp 0 0x4000)⟩,
  ⟨0x40180, 0x24, 3, 0, 16, .rws, 0x0, .cold, (.clamp 0 0x4000)⟩,
  ⟨0x40180, 0x24, 3, 16, 16, .rws, 0x100, .cold, (.clamp 0 0x4000)⟩,
  ⟨0x40184, 0x24, 3, 0, 16, .rws, 0x200, .cold, (.clamp 0 0x4000)⟩,
  ⟨0x40184, 0x24, 3, 16, 16, .rws, 0x300, .cold, (.clamp 0 0x4000)⟩,
  ⟨0x40188, 0x24, 3, 0, 16, .rws, 0x400, .cold, (.clamp 0 0x4000)⟩,
  ⟨0x40188, 0x24, 3, 16, 16, .rws, 0x500, .cold, (.clamp 0 0x4000)⟩,
  ⟨0x4018C, 0x24, 3, 0, 16, .rws, 0x600, .cold, (.clamp 0 0x4000)⟩,
  ⟨0x4018C, 0x24, 3, 16, 16, .rws, 0x700, .cold, (.clamp 0 0x4000)⟩]

/-- Fields of AGE (R211). -/
def specsAGE_1 : List FieldSpec := [
  ⟨0x40190, 0x24, 3, 0, 16, .rws, 0x800, .cold, (.clamp 0 0x4000)⟩,
  ⟨0x40190, 0x24, 3, 16, 16, .rws, 0x900, .cold, (.clamp 0 0x4000)⟩,
  ⟨0x40194, 0x24, 3, 0, 16, .rws, 0xA00, .cold, (.clamp 0 0x4000)⟩,
  ⟨0x40194, 0x24, 3, 16, 16, .rws, 0xB00, .cold, (.clamp 0 0x4000)⟩,
  ⟨0x40198, 0x24, 3, 0, 16, .rws, 0xC00, .cold, (.clamp 0 0x4000)⟩,
  ⟨0x40198, 0x24, 3, 16, 16, .rws, 0xD00, .cold, (.clamp 0 0x4000)⟩,
  ⟨0x4019C, 0x24, 3, 0, 16, .rws, 0xE00, .cold, (.clamp 0 0x4000)⟩,
  ⟨0x4019C, 0x24, 3, 16, 16, .rws, 0xF00, .cold, (.clamp 0 0x4000)⟩,
  ⟨0x401A0, 0x24, 3, 0, 16, .rws, 0x1000, .cold, (.clamp 0 0x4000)⟩,
  ⟨0x40200, 0x4, 96, 0, 16, .rws, 0x4000, .cold, .any⟩,
  ⟨0x40200, 0x4, 96, 16, 16, .rws, 0x4000, .cold, .any⟩]

/-- Fields of AGE (R211). -/
def specsAGE : List FieldSpec := specsAGE_0 ++ specsAGE_1

/-- Fields of DITH (R212). -/
def specsDITH : List FieldSpec := [
  ⟨0x25100, 0x0, 1, 0, 2, .ro, 0x0, .cold, .any⟩,
  ⟨0x25120, 0x0, 1, 0, 1, .rws, 0x1, .cold, .any⟩,
  ⟨0x25120, 0x0, 1, 1, 1, .rws, 0x1, .cold, .any⟩,
  ⟨0x25120, 0x0, 1, 2, 1, .rws, 0x0, .cold, .any⟩]

/-- Fields of LINK (R239). -/
def specsLINK : List FieldSpec := [
  ⟨0x41100, 0x0, 1, 0, 2, .rw, 0x0, .cold, (.keepAbove 2)⟩,
  ⟨0x41100, 0x0, 1, 2, 1, .rws, 0x0, .cold, .any⟩,
  ⟨0x41100, 0x0, 1, 3, 1, .rw, 0x0, .cold, .any⟩,
  ⟨0x41104, 0x0, 1, 0, 14, .rws, 0x0, .cold, .any⟩,
  ⟨0x41104, 0x0, 1, 16, 14, .rws, 0x0, .cold, .any⟩,
  ⟨0x41108, 0x0, 1, 0, 4, .rws, 0x8, .cold, (.clamp 0 8)⟩,
  ⟨0x4110C, 0x0, 1, 0, 1, .wo, 0x0, .cold, .any⟩,
  ⟨0x4110C, 0x0, 1, 1, 1, .wo, 0x0, .cold, .any⟩,
  ⟨0x41110, 0x0, 1, 0, 8, .rw, 0x40, .cold, (.clamp 1 255)⟩,
  ⟨0x41110, 0x0, 1, 8, 4, .rw, 0x0, .cold, .any⟩,
  ⟨0x41114, 0x0, 1, 0, 8, .rw, 0x10, .cold, (.clamp 1 255)⟩,
  ⟨0x41114, 0x0, 1, 8, 16, .rw, 0x400, .cold, (.clamp 1 65535)⟩,
  ⟨0x41118, 0x0, 1, 0, 1, .ro, 0x0, .cold, .any⟩,
  ⟨0x41118, 0x0, 1, 1, 1, .ro, 0x0, .cold, .any⟩,
  ⟨0x41118, 0x0, 1, 2, 2, .ro, 0x1, .cold, .any⟩,
  ⟨0x4111C, 0x0, 1, 0, 32, .ro, 0x0, .cold, .any⟩,
  ⟨0x41120, 0x0, 1, 0, 16, .ro, 0x0, .cold, .any⟩,
  ⟨0x41124, 0x0, 1, 0, 32, .ro, 0x0, .cold, .any⟩,
  ⟨0x41128, 0x0, 1, 0, 32, .ro, 0x0, .cold, .any⟩,
  ⟨0x4112C, 0x0, 1, 0, 32, .ro, 0x0, .cold, .any⟩,
  ⟨0x41130, 0x0, 1, 0, 2, .wo, 0x0, .cold, .any⟩,
  ⟨0x41130, 0x0, 1, 31, 1, .wo, 0x0, .cold, .any⟩,
  ⟨0x41134, 0x0, 1, 0, 6, .rw, 0x0, .host, .any⟩,
  ⟨0x41200, 0x10, 48, 0, 1, .rws, 0x0, .cold, .any⟩,
  ⟨0x41200, 0x10, 48, 1, 1, .rws, 0x0, .cold, .any⟩,
  ⟨0x41200, 0x10, 48, 2, 13, .rws, 0x0, .cold, .any⟩,
  ⟨0x41200, 0x10, 48, 16, 6, .rws, 0x0, .cold, .any⟩,
  ⟨0x41204, 0x10, 48, 0, 2, .ro, 0x0, .cold, .any⟩,
  ⟨0x41204, 0x10, 48, 2, 1, .ro, 0x0, .cold, .any⟩,
  ⟨0x41204, 0x10, 48, 3, 1, .ro, 0x0, .cold, .any⟩,
  ⟨0x41204, 0x10, 48, 4, 4, .ro, 0x0, .cold, .any⟩,
  ⟨0x41208, 0x10, 48, 0, 32, .ro, 0x0, .cold, .any⟩,
  ⟨0x4120C, 0x10, 48, 0, 32, .ro, 0x0, .cold, .any⟩]

/-- Fields of GATE (R240). -/
def specsGATE : List FieldSpec := [
  ⟨0x42100, 0x0, 1, 0, 2, .rws, 0x0, .cold, .any⟩,
  ⟨0x42100, 0x0, 1, 2, 1, .rws, 0x0, .cold, .any⟩,
  ⟨0x42100, 0x0, 1, 4, 2, .rw, 0x0, .cold, (.keepAbove 2)⟩,
  ⟨0x42104, 0x0, 1, 0, 15, .rws, 0x0, .cold, .any⟩,
  ⟨0x42108, 0x0, 1, 0, 7, .rws, 0x1, .cold, (.clamp 1 64)⟩,
  ⟨0x4210C, 0x0, 1, 0, 8, .rws, 0x0, .cold, .any⟩,
  ⟨0x4210C, 0x0, 1, 16, 14, .rws, 0x0, .cold, .any⟩,
  ⟨0x42110, 0x0, 1, 0, 16, .rws, 0x0, .cold, .any⟩,
  ⟨0x42110, 0x0, 1, 16, 16, .rws, 0x0, .cold, .any⟩,
  ⟨0x42114, 0x0, 1, 0, 15, .ro, 0x0, .cold, .any⟩,
  ⟨0x42114, 0x0, 1, 16, 1, .ro, 0x0, .cold, .any⟩,
  ⟨0x42200, 0x8, 32, 0, 6, .rws, 0x0, .cold, .any⟩,
  ⟨0x42200, 0x8, 32, 16, 13, .rws, 0x0, .cold, .any⟩,
  ⟨0x42204, 0x8, 32, 0, 6, .rws, 0x0, .cold, .any⟩,
  ⟨0x42204, 0x8, 32, 16, 13, .rws, 0x0, .cold, .any⟩,
  ⟨0x42300, 0x8, 4, 0, 7, .rws, 0x0, .cold, .any⟩,
  ⟨0x42300, 0x8, 4, 16, 13, .rws, 0x0, .cold, .any⟩,
  ⟨0x42304, 0x8, 4, 0, 7, .rws, 0x0, .cold, .any⟩,
  ⟨0x42304, 0x8, 4, 16, 13, .rws, 0x0, .cold, .any⟩,
  ⟨0x42320, 0x8, 2, 0, 6, .rws, 0x0, .cold, .any⟩,
  ⟨0x42320, 0x8, 2, 16, 13, .rws, 0x0, .cold, .any⟩,
  ⟨0x42324, 0x8, 2, 0, 6, .rws, 0x0, .cold, .any⟩,
  ⟨0x42324, 0x8, 2, 16, 13, .rws, 0x0, .cold, .any⟩]

/-- Fields of HVD (R258). -/
def specsHVD_0 : List FieldSpec := [
  ⟨0x43100, 0x0, 1, 0, 2, .wo, 0x0, .cold, .any⟩,
  ⟨0x43104, 0x0, 1, 0, 3, .ro, 0x0, .cold, .any⟩,
  ⟨0x43104, 0x0, 1, 4, 3, .ro, 0x0, .cold, .any⟩,
  ⟨0x43104, 0x0, 1, 8, 4, .ro, 0x0, .cold, .any⟩,
  ⟨0x43104, 0x0, 1, 12, 2, .ro, 0x0, .cold, .any⟩,
  ⟨0x43104, 0x0, 1, 16, 1, .ro, 0x0, .cold, .any⟩,
  ⟨0x43104, 0x0, 1, 17, 3, .ro, 0x0, .cold, .any⟩,
  ⟨0x43104, 0x0, 1, 20, 3, .ro, 0x7, .cold, .any⟩,
  ⟨0x43108, 0x0, 1, 0, 7, .rws, 0x0, .cold, .any⟩,
  ⟨0x43108, 0x0, 1, 8, 8, .rws, 0x0, .cold, .any⟩,
  ⟨0x43108, 0x0, 1, 16, 8, .rws, 0x0, .cold, (.clamp 0 180)⟩,
  ⟨0x4310C, 0x0, 1, 0, 7, .rws, 0x0, .cold, .any⟩,
  ⟨0x4310C, 0x0, 1, 8, 8, .rws, 0x0, .cold, .any⟩,
  ⟨0x4310C, 0x0, 1, 16, 8, .rws, 0x0, .cold, (.clamp 0 140)⟩,
  ⟨0x43110, 0x0, 1, 0, 7, .rws, 0x0, .cold, .any⟩,
  ⟨0x43110, 0x0, 1, 8, 8, .rws, 0x0, .cold, .any⟩,
  ⟨0x43110, 0x0, 1, 16, 8, .rws, 0x0, .cold, (.clamp 0 128)⟩,
  ⟨0x43114, 0x0, 1, 0, 8, .rws, 0x2, .cold, (.clamp 1 255)⟩,
  ⟨0x43114, 0x0, 1, 8, 3, .rws, 0x3, .cold, .any⟩,
  ⟨0x43118, 0x0, 1, 0, 8, .rws, 0x14, .cold, .any⟩,
  ⟨0x43118, 0x0, 1, 8, 8, .rws, 0x2, .cold, .any⟩,
  ⟨0x43118, 0x0, 1, 16, 1, .rws, 0x1, .cold, .any⟩,
  ⟨0x4311C, 0x0, 1, 0, 8, .rws, 0x64, .cold, (.clamp 1 255)⟩,
  ⟨0x4311C, 0x0, 1, 8, 8, .rws, 0x32, .cold, (.clamp 1 255)⟩,
  ⟨0x43120, 0x0, 1, 0, 8, .rws, 0x14, .cold, (.clamp 1 255)⟩,
  ⟨0x43120, 0x0, 1, 8, 8, .rws, 0x5, .cold, (.clamp 1 255)⟩,
  ⟨0x43120, 0x0, 1, 16, 8, .rws, 0x32, .cold, (.clamp 1 255)⟩,
  ⟨0x43120, 0x0, 1, 24, 8, .rws, 0x64, .cold, (.clamp 1 255)⟩,
  ⟨0x43124, 0x0, 1, 0, 10, .rws, 0x0, .cold, .any⟩,
  ⟨0x43124, 0x0, 1, 16, 10, .rws, 0x0, .cold, .any⟩,
  ⟨0x43128, 0x0, 1, 0, 18, .rws, 0x0, .cold, .any⟩,
  ⟨0x43128, 0x0, 1, 24, 2, .rws, 0x0, .cold, .any⟩,
  ⟨0x4312C, 0x0, 1, 0, 1, .rw, 0x0, .cold, .any⟩,
  ⟨0x4312C, 0x0, 1, 1, 1, .rws, 0x0, .cold, .any⟩,
  ⟨0x43130, 0x0, 1, 0, 16, .rws, 0x61A8, .cold, (.clamp 2 65535)⟩,
  ⟨0x43134, 0x0, 1, 0, 16, .rws, 0x0, .cold, .any⟩,
  ⟨0x43134, 0x0, 1, 16, 16, .rws, 0x0, .cold, .any⟩,
  ⟨0x43138, 0x0, 1, 0, 2, .rws, 0x0, .cold, .any⟩,
  ⟨0x43138, 0x0, 1, 4, 12, .rws, 0x10, .cold, .any⟩,
  ⟨0x43138, 0x0, 1, 16, 12, .rws, 0xFEF, .cold, .any⟩]

/-- Fields of HVD (R258). -/
def specsHVD_1 : List FieldSpec := [
  ⟨0x4313C, 0x0, 1, 0, 12, .ro, 0x0, .cold, .any⟩,
  ⟨0x4313C, 0x0, 1, 16, 12, .ro, 0x0, .cold, .any⟩,
  ⟨0x4313C, 0x0, 1, 31, 1, .ro, 0x0, .cold, .any⟩,
  ⟨0x43140, 0x0, 1, 0, 12, .ro, 0x0, .cold, .any⟩,
  ⟨0x43140, 0x0, 1, 16, 12, .ro, 0x0, .cold, .any⟩,
  ⟨0x43140, 0x0, 1, 31, 1, .ro, 0x0, .cold, .any⟩,
  ⟨0x43144, 0x0, 1, 0, 32, .ro, 0x0, .cold, .any⟩,
  ⟨0x43148, 0x0, 1, 0, 32, .ro, 0x0, .cold, .any⟩,
  ⟨0x4314C, 0x0, 1, 0, 32, .ro, 0x0, .cold, .any⟩,
  ⟨0x43150, 0x0, 1, 0, 6, .rw, 0x0, .host, .any⟩,
  ⟨0x43200, 0x4, 9, 0, 10, .rws, 0x0, .cold, .any⟩,
  ⟨0x43200, 0x4, 9, 16, 10, .rws, 0x0, .cold, .any⟩,
  ⟨0x43240, 0x24, 2, 0, 16, .rws, 0x0, .cold, .any⟩,
  ⟨0x43240, 0x24, 2, 16, 16, .rws, 0x0, .cold, .any⟩,
  ⟨0x43244, 0x24, 2, 0, 16, .rws, 0x0, .cold, .any⟩,
  ⟨0x43244, 0x24, 2, 16, 16, .rws, 0x0, .cold, .any⟩,
  ⟨0x43248, 0x24, 2, 0, 16, .rws, 0x0, .cold, .any⟩,
  ⟨0x43248, 0x24, 2, 16, 16, .rws, 0x0, .cold, .any⟩,
  ⟨0x4324C, 0x24, 2, 0, 16, .rws, 0x0, .cold, .any⟩,
  ⟨0x4324C, 0x24, 2, 16, 16, .rws, 0x0, .cold, .any⟩,
  ⟨0x43250, 0x24, 2, 0, 16, .rws, 0x0, .cold, .any⟩,
  ⟨0x43250, 0x24, 2, 16, 16, .rws, 0x0, .cold, .any⟩,
  ⟨0x43254, 0x24, 2, 0, 16, .rws, 0x0, .cold, .any⟩,
  ⟨0x43254, 0x24, 2, 16, 16, .rws, 0x0, .cold, .any⟩,
  ⟨0x43258, 0x24, 2, 0, 16, .rws, 0x0, .cold, .any⟩,
  ⟨0x43258, 0x24, 2, 16, 16, .rws, 0x0, .cold, .any⟩,
  ⟨0x4325C, 0x24, 2, 0, 16, .rws, 0x0, .cold, .any⟩,
  ⟨0x4325C, 0x24, 2, 16, 16, .rws, 0x0, .cold, .any⟩,
  ⟨0x43260, 0x24, 2, 0, 16, .rws, 0x0, .cold, .any⟩]

/-- Fields of HVD (R258). -/
def specsHVD : List FieldSpec := specsHVD_0 ++ specsHVD_1

/-- Fields of ASSAY (R270). -/
def specsASSAY : List FieldSpec := [
  ⟨0x26100, 0x0, 1, 0, 32, .ro, 0x0, .cold, .any⟩,
  ⟨0x26104, 0x0, 1, 0, 32, .ro, 0x0, .cold, .any⟩,
  ⟨0x26120, 0x0, 1, 0, 1, .rws, 0x0, .cold, .any⟩,
  ⟨0x26120, 0x0, 1, 1, 1, .rws, 0x0, .cold, .any⟩,
  ⟨0x26124, 0x0, 1, 0, 32, .rws, 0x0, .cold, .any⟩,
  ⟨0x26128, 0x0, 1, 0, 32, .ro, 0x0, .cold, .any⟩,
  ⟨0x2612C, 0x0, 1, 0, 32, .ro, 0x0, .cold, .any⟩,
  ⟨0x26130, 0x0, 1, 0, 1, .ro, 0x0, .cold, .any⟩,
  ⟨0x26130, 0x0, 1, 1, 1, .ro, 0x0, .cold, .any⟩,
  ⟨0x26130, 0x0, 1, 8, 7, .ro, 0x0, .cold, .any⟩,
  ⟨0x26134, 0x0, 1, 0, 32, .ro, 0x0, .cold, .any⟩,
  ⟨0x26138, 0x0, 1, 0, 32, .ro, 0x0, .cold, .any⟩,
  ⟨0x2613C, 0x0, 1, 0, 32, .ro, 0x0, .cold, .any⟩,
  ⟨0x26140, 0x0, 1, 0, 32, .ro, 0x0, .cold, .any⟩,
  ⟨0x26144, 0x0, 1, 0, 32, .ro, 0x0, .cold, .any⟩,
  ⟨0x26148, 0x0, 1, 0, 6, .rw, 0x0, .host, .any⟩,
  ⟨0x26200, 0x10, 64, 0, 16, .rws, 0x0, .cold, (.clamp 0 7680)⟩,
  ⟨0x26200, 0x10, 64, 16, 16, .rws, 0x0, .cold, (.clamp 0 8640)⟩,
  ⟨0x26204, 0x10, 64, 0, 16, .rws, 0x0, .cold, (.clamp 0 7680)⟩,
  ⟨0x26204, 0x10, 64, 16, 16, .rws, 0x0, .cold, (.clamp 0 8640)⟩,
  ⟨0x26208, 0x10, 64, 0, 32, .rws, 0x0, .cold, .any⟩,
  ⟨0x2620C, 0x10, 64, 0, 1, .rws, 0x0, .cold, .any⟩,
  ⟨0x2620C, 0x10, 64, 1, 1, .rws, 0x0, .cold, .any⟩,
  ⟨0x26600, 0x4, 64, 0, 32, .ro, 0x0, .cold, .any⟩]

/-- Fields of SEAL (R271). -/
def specsSEAL : List FieldSpec := [
  ⟨0x17100, 0x4, 8, 0, 32, .wo, 0x0, .host, .any⟩,
  ⟨0x17120, 0x0, 1, 0, 4, .wo, 0x0, .host, .any⟩,
  ⟨0x17120, 0x0, 1, 8, 2, .wo, 0x0, .host, .any⟩,
  ⟨0x17124, 0x0, 1, 0, 3, .ro, 0x0, .host, .any⟩,
  ⟨0x17128, 0x0, 1, 0, 32, .ro, 0x0, .none, .any⟩,
  ⟨0x1712C, 0x0, 1, 0, 1, .rwp, 0x0, .none, .any⟩,
  ⟨0x17130, 0x0, 1, 0, 32, .ro, 0x0, .cold, .any⟩,
  ⟨0x17134, 0x0, 1, 0, 6, .rw, 0x0, .host, .any⟩,
  ⟨0x17140, 0x4, 16, 0, 24, .ro, 0x0, .none, .any⟩]

/-- Fields of LABEL (R292). -/
def specsLABEL : List FieldSpec := [
  ⟨0x44100, 0x0, 1, 0, 1, .rw, 0x0, .cold, .any⟩,
  ⟨0x44100, 0x0, 1, 1, 2, .rw, 0x0, .cold, .any⟩,
  ⟨0x44100, 0x0, 1, 4, 2, .rw, 0x3, .cold, .any⟩,
  ⟨0x44100, 0x0, 1, 8, 4, .rw, 0xF, .cold, .any⟩,
  ⟨0x44104, 0x0, 1, 0, 7, .rw, 0x55, .cold, (.clamp 50 85)⟩,
  ⟨0x44108, 0x0, 1, 0, 8, .rw, 0x19, .cold, .any⟩,
  ⟨0x4410C, 0x4, 4, 0, 32, .rw, 0x0, .cold, .any⟩,
  ⟨0x4411C, 0x0, 1, 0, 8, .rw, 0x32, .cold, (.clamp 1 255)⟩,
  ⟨0x4411C, 0x0, 1, 8, 16, .rw, 0x3E8, .cold, .any⟩,
  ⟨0x44120, 0x0, 1, 0, 1, .ro, 0x0, .cold, .any⟩,
  ⟨0x44120, 0x0, 1, 1, 1, .ro, 0x0, .cold, .any⟩,
  ⟨0x44120, 0x0, 1, 2, 1, .ro, 0x0, .cold, .any⟩,
  ⟨0x44120, 0x0, 1, 3, 1, .ro, 0x0, .cold, .any⟩,
  ⟨0x44120, 0x0, 1, 4, 9, .ro, 0x0, .cold, .any⟩,
  ⟨0x44120, 0x0, 1, 16, 10, .ro, 0x0, .cold, .any⟩,
  ⟨0x44124, 0x0, 1, 0, 1, .ro, 0x0, .cold, .any⟩,
  ⟨0x44124, 0x0, 1, 1, 6, .ro, 0x0, .cold, .any⟩,
  ⟨0x44128, 0x0, 1, 0, 32, .ro, 0x0, .cold, .any⟩,
  ⟨0x4412C, 0x0, 1, 0, 11, .ro, 0x400, .cold, .any⟩,
  ⟨0x44130, 0x0, 1, 0, 11, .ro, 0x0, .cold, .any⟩,
  ⟨0x44134, 0x0, 1, 0, 32, .ro, 0x0, .cold, .any⟩,
  ⟨0x44138, 0x0, 1, 0, 32, .ro, 0x0, .cold, .any⟩,
  ⟨0x4413C, 0x0, 1, 0, 32, .ro, 0x0, .cold, .any⟩,
  ⟨0x44140, 0x0, 1, 0, 6, .rw, 0x0, .host, .any⟩,
  ⟨0x44144, 0x0, 1, 0, 4, .ro, 0x0, .cold, .any⟩,
  ⟨0x44144, 0x0, 1, 4, 3, .ro, 0x0, .cold, .any⟩,
  ⟨0x44144, 0x0, 1, 16, 13, .ro, 0x0, .cold, .any⟩,
  ⟨0x44200, 0x10, 8, 0, 11, .rw, 0x8, .cold, .any⟩,
  ⟨0x44200, 0x10, 8, 16, 11, .rw, 0x1, .cold, .any⟩,
  ⟨0x44200, 0x10, 8, 31, 1, .rw, 0x0, .cold, .any⟩,
  ⟨0x44204, 0x10, 8, 0, 6, .ro, 0x0, .cold, .any⟩,
  ⟨0x44204, 0x10, 8, 8, 7, .ro, 0x0, .cold, .any⟩,
  ⟨0x44204, 0x10, 8, 16, 10, .ro, 0x0, .cold, .any⟩,
  ⟨0x44208, 0x10, 8, 0, 32, .ro, 0x0, .cold, .any⟩,
  ⟨0x4420C, 0x10, 8, 0, 32, .ro, 0x0, .cold, .any⟩,
  ⟨0x44300, 0x4, 256, 0, 9, .ro, 0x0, .cold, .any⟩,
  ⟨0x44300, 0x4, 256, 16, 9, .ro, 0x0, .cold, .any⟩]

/-- Fields of PWR (R316). -/
def specsPWR : List FieldSpec := [
  ⟨0x1100, 0x0, 1, 0, 11, .wo, 0x0, .cold, .any⟩,
  ⟨0x1100, 0x0, 1, 16, 2, .wo, 0x0, .cold, .any⟩,
  ⟨0x1100, 0x0, 1, 20, 1, .wo, 0x0, .cold, .any⟩,
  ⟨0x1100, 0x0, 1, 31, 1, .wo, 0x0, .cold, .any⟩,
  ⟨0x1104, 0x0, 1, 0, 1, .ro, 0x0, .cold, .any⟩,
  ⟨0x1104, 0x0, 1, 1, 3, .ro, 0x0, .cold, .any⟩,
  ⟨0x1104, 0x0, 1, 8, 4, .ro, 0x0, .cold, .any⟩,
  ⟨0x1104, 0x0, 1, 16, 11, .ro, 0x0, .cold, .any⟩,
  ⟨0x1108, 0x0, 1, 0, 22, .ro, 0x2, .cold, .any⟩,
  ⟨0x110C, 0x0, 1, 0, 11, .rw1c, 0x0, .cold, .any⟩,
  ⟨0x1110, 0x0, 1, 0, 11, .rw1c, 0x0, .cold, .any⟩,
  ⟨0x1114, 0x0, 1, 0, 8, .ro, 0xFF, .cold, .any⟩,
  ⟨0x1118, 0x0, 1, 0, 5, .ro, 0x0, .cold, .any⟩,
  ⟨0x1118, 0x0, 1, 8, 4, .ro, 0x0, .cold, .any⟩,
  ⟨0x111C, 0x0, 1, 0, 11, .ro, 0x7FE, .cold, .any⟩,
  ⟨0x1120, 0x0, 1, 0, 11, .wo, 0x0, .cold, .any⟩,
  ⟨0x1124, 0x0, 1, 0, 4, .ro, 0x0, .cold, .any⟩,
  ⟨0x1124, 0x0, 1, 4, 3, .ro, 0x0, .cold, .any⟩,
  ⟨0x1128, 0x0, 1, 0, 32, .ro, 0x0, .cold, .any⟩,
  ⟨0x112C, 0x0, 1, 0, 2, .rw, 0x0, .cold, .any⟩,
  ⟨0x1130, 0x0, 1, 0, 8, .rw, 0x14, .cold, (.clamp 1 255)⟩,
  ⟨0x1134, 0x0, 1, 0, 1, .rw, 0x0, .cold, .any⟩,
  ⟨0x1138, 0x0, 1, 0, 10, .ro, 0x0, .cold, .any⟩,
  ⟨0x113C, 0x0, 1, 0, 32, .rw, 0x0, .cold, .any⟩,
  ⟨0x1140, 0x4, 10, 1, 10, .rw, 0x0, .cold, .any⟩,
  ⟨0x1140, 0x4, 10, 16, 1, .rw, 0x0, .cold, .any⟩,
  ⟨0x1140, 0x4, 10, 17, 1, .rw, 0x0, .cold, .any⟩,
  ⟨0x1140, 0x4, 10, 18, 1, .rw, 0x0, .cold, .any⟩,
  ⟨0x1168, 0x0, 1, 0, 4, .ro, 0x0, .cold, .any⟩,
  ⟨0x1168, 0x0, 1, 16, 11, .ro, 0x0, .cold, .any⟩,
  ⟨0x116C, 0x0, 1, 0, 32, .ro, 0x0, .cold, .any⟩,
  ⟨0x1170, 0x0, 1, 0, 6, .rw, 0x0, .host, .any⟩,
  ⟨0x1180, 0x0, 1, 0, 11, .wo, 0x0, .cold, .any⟩,
  ⟨0x1180, 0x0, 1, 16, 2, .wo, 0x0, .cold, .any⟩,
  ⟨0x1180, 0x0, 1, 20, 1, .wo, 0x0, .cold, .any⟩,
  ⟨0x1180, 0x0, 1, 31, 1, .wo, 0x0, .cold, .any⟩,
  ⟨0x1184, 0x0, 1, 0, 1, .ro, 0x0, .cold, .any⟩,
  ⟨0x1184, 0x0, 1, 1, 3, .ro, 0x0, .cold, .any⟩,
  ⟨0x1184, 0x0, 1, 8, 4, .ro, 0x0, .cold, .any⟩,
  ⟨0x1184, 0x0, 1, 16, 11, .ro, 0x0, .cold, .any⟩]

/-- Fields of CLK (R317). -/
def specsCLK : List FieldSpec := [
  ⟨0x2100, 0x0, 1, 0, 1, .ro, 0x0, .cold, .any⟩,
  ⟨0x2100, 0x0, 1, 1, 1, .ro, 0x0, .cold, .any⟩,
  ⟨0x2100, 0x0, 1, 2, 1, .ro, 0x0, .cold, .any⟩,
  ⟨0x2100, 0x0, 1, 3, 1, .ro, 0x0, .cold, .any⟩,
  ⟨0x2104, 0x0, 1, 0, 1, .rw, 0x0, .cold, .any⟩,
  ⟨0x2108, 0x0, 1, 0, 8, .rw, 0x5, .cold, (.clamp 1 255)⟩,
  ⟨0x210C, 0x0, 1, 0, 32, .ro, 0x0, .cold, .any⟩,
  ⟨0x2110, 0x0, 1, 0, 11, .ro, 0x1, .cold, .any⟩]

/-- Fields of RGL (R318). -/
def specsRGL : List FieldSpec := [
  ⟨0x3100, 0x0, 1, 0, 8, .rw, 0x2, .cold, (.clamp 1 255)⟩,
  ⟨0x3100, 0x0, 1, 8, 3, .rw, 0x3, .cold, .any⟩,
  ⟨0x3104, 0x0, 1, 0, 1, .rw, 0x0, .cold, .any⟩,
  ⟨0x3108, 0x0, 1, 0, 10, .rw, 0x2EE, .cold, (.clamp 650 850)⟩,
  ⟨0x310C, 0x0, 1, 0, 10, .rw, 0x28A, .cold, (.clamp 650 850)⟩,
  ⟨0x310C, 0x0, 1, 16, 10, .rw, 0x352, .cold, .any⟩,
  ⟨0x3110, 0x0, 1, 0, 10, .ro, 0x2EE, .cold, .any⟩,
  ⟨0x3110, 0x0, 1, 16, 1, .ro, 0x0, .cold, .any⟩,
  ⟨0x3114, 0x0, 1, 0, 32, .ro, 0x0, .cold, .any⟩,
  ⟨0x3118, 0x0, 1, 0, 32, .ro, 0x0, .cold, .any⟩,
  ⟨0x311C, 0x0, 1, 0, 7, .ro, 0x0, .cold, .any⟩,
  ⟨0x311C, 0x0, 1, 8, 8, .ro, 0x0, .cold, .any⟩,
  ⟨0x311C, 0x0, 1, 16, 4, .ro, 0x0, .cold, .any⟩,
  ⟨0x3210, 0x10, 10, 0, 7, .rw, 0x0, .cold, .any⟩,
  ⟨0x3210, 0x10, 10, 8, 8, .rw, 0x0, .cold, .any⟩,
  ⟨0x3210, 0x10, 10, 31, 1, .rw, 0x0, .cold, .any⟩,
  ⟨0x3214, 0x10, 10, 0, 7, .rw, 0x0, .cold, .any⟩,
  ⟨0x3214, 0x10, 10, 8, 8, .rw, 0x0, .cold, .any⟩,
  ⟨0x3214, 0x10, 10, 31, 1, .rw, 0x0, .cold, .any⟩,
  ⟨0x3218, 0x10, 10, 0, 7, .rw, 0x0, .cold, .any⟩,
  ⟨0x3218, 0x10, 10, 8, 8, .rw, 0x0, .cold, .any⟩,
  ⟨0x3218, 0x10, 10, 31, 1, .rw, 0x0, .cold, .any⟩]

/-- Fields of SRAMC (R346). -/
def specsSRAMC : List FieldSpec := [
  ⟨0x9100, 0x0, 1, 0, 1, .rw, 0x0, .cold, .any⟩,
  ⟨0x9100, 0x0, 1, 1, 1, .rw, 0x0, .cold, .any⟩,
  ⟨0x9104, 0x0, 1, 0, 32, .ro, 0x0, .cold, .any⟩,
  ⟨0x9108, 0x0, 1, 0, 32, .ro, 0x0, .cold, .any⟩,
  ⟨0x910C, 0x0, 1, 0, 32, .ro, 0x0, .cold, .any⟩,
  ⟨0x9110, 0x0, 1, 0, 32, .ro, 0x0, .cold, .any⟩,
  ⟨0x9114, 0x0, 1, 0, 32, .ro, 0x0, .cold, .any⟩,
  ⟨0x9118, 0x0, 1, 0, 8, .rw, 0x4, .cold, (.clamp 1 255)⟩,
  ⟨0x911C, 0x0, 1, 0, 14, .ro, 0x0, .cold, .any⟩,
  ⟨0x9120, 0x0, 1, 0, 13, .ro, 0x0, .cold, .any⟩,
  ⟨0x9124, 0x0, 1, 0, 12, .ro, 0x0, .cold, .any⟩,
  ⟨0x9124, 0x0, 1, 12, 12, .ro, 0x0, .cold, .any⟩,
  ⟨0x9124, 0x0, 1, 31, 1, .ro, 0x0, .cold, .any⟩,
  ⟨0x9128, 0x0, 1, 0, 12, .wo, 0x0, .cold, .any⟩,
  ⟨0x9128, 0x0, 1, 12, 13, .wo, 0x0, .cold, .any⟩,
  ⟨0x9128, 0x0, 1, 28, 1, .wo, 0x0, .cold, .any⟩,
  ⟨0x9128, 0x0, 1, 31, 1, .wo, 0x0, .cold, .any⟩,
  ⟨0x912C, 0x0, 1, 0, 3, .ro, 0x0, .cold, .any⟩,
  ⟨0x912C, 0x0, 1, 16, 12, .ro, 0x0, .cold, .any⟩]

/-- Fields of CANARY (R346). -/
def specsCANARY : List FieldSpec := [
  ⟨0x8100, 0x0, 1, 0, 1, .rw, 0x1, .cold, .any⟩,
  ⟨0x8100, 0x0, 1, 8, 8, .rw, 0x18, .cold, (.clamp 1 255)⟩,
  ⟨0x8104, 0x0, 1, 0, 12, .ro, 0x0, .cold, .any⟩,
  ⟨0x8104, 0x0, 1, 12, 3, .ro, 0x0, .cold, .any⟩,
  ⟨0x8108, 0x0, 1, 0, 32, .ro, 0x0, .cold, .any⟩,
  ⟨0x810C, 0x0, 1, 0, 32, .ro, 0x0, .cold, .any⟩,
  ⟨0x8110, 0x0, 1, 0, 32, .ro, 0x0, .cold, .any⟩,
  ⟨0x8114, 0x0, 1, 0, 32, .ro, 0x0, .cold, .any⟩,
  ⟨0x8118, 0x0, 1, 0, 12, .ro, 0x0, .cold, .any⟩,
  ⟨0x8118, 0x0, 1, 12, 3, .ro, 0x0, .cold, .any⟩]

/-- Fields of DRAMC (R346). -/
def specsDRAMC : List FieldSpec := [
  ⟨0xA100, 0x0, 1, 0, 8, .rw, 0x18, .cold, .any⟩,
  ⟨0xA104, 0x0, 1, 0, 12, .ro, 0x0, .cold, .any⟩,
  ⟨0xA108, 0x0, 1, 0, 32, .ro, 0x0, .cold, .any⟩,
  ⟨0xA10C, 0x0, 1, 0, 32, .ro, 0x0, .cold, .any⟩,
  ⟨0xA110, 0x0, 1, 0, 32, .ro, 0x0, .cold, .any⟩,
  ⟨0xA114, 0x0, 1, 0, 32, .ro, 0x0, .cold, .any⟩,
  ⟨0xA118, 0x0, 1, 0, 32, .ro, 0x0, .cold, .any⟩,
  ⟨0xA11C, 0x0, 1, 0, 32, .ro, 0x0, .cold, .any⟩]

/-- Fields of MAPS (R347). -/
def specsMAPS : List FieldSpec := [
  ⟨0xB100, 0x0, 1, 0, 12, .ro, 0x0, .none, .any⟩,
  ⟨0xB104, 0x0, 1, 0, 14, .ro, 0x0, .none, .any⟩,
  ⟨0xB108, 0x0, 1, 0, 32, .ro, 0x0, .cold, .any⟩,
  ⟨0xB10C, 0x0, 1, 0, 32, .ro, 0x0, .cold, .any⟩,
  ⟨0xB110, 0x0, 1, 0, 10, .rw, 0x16D, .cold, .any⟩,
  ⟨0xB114, 0x0, 1, 0, 17, .ro, 0x0, .none, .any⟩,
  ⟨0xB140, 0x0, 1, 0, 14, .ro, 0x0, .cold, .any⟩,
  ⟨0xB140, 0x0, 1, 16, 14, .ro, 0x100, .cold, .any⟩,
  ⟨0xB144, 0x0, 1, 0, 14, .ro, 0x100, .cold, .any⟩,
  ⟨0xB144, 0x0, 1, 16, 14, .ro, 0x100, .cold, .any⟩,
  ⟨0xB148, 0x0, 1, 0, 14, .ro, 0x200, .cold, .any⟩,
  ⟨0xB148, 0x0, 1, 16, 14, .ro, 0x1000, .cold, .any⟩,
  ⟨0xB14C, 0x0, 1, 0, 14, .ro, 0x1200, .cold, .any⟩,
  ⟨0xB14C, 0x0, 1, 16, 14, .ro, 0x400, .cold, .any⟩,
  ⟨0xB150, 0x0, 1, 0, 14, .ro, 0x1600, .cold, .any⟩,
  ⟨0xB150, 0x0, 1, 16, 14, .ro, 0x2000, .cold, .any⟩,
  ⟨0xB154, 0x0, 1, 0, 14, .ro, 0x3600, .cold, .any⟩,
  ⟨0xB154, 0x0, 1, 16, 14, .ro, 0xA00, .cold, .any⟩]

/-- Fields of PSTORE (R347). -/
def specsPSTORE : List FieldSpec := [
  ⟨0x4100, 0x0, 1, 0, 7, .ro, 0x0, .cold, .any⟩,
  ⟨0x4104, 0x0, 1, 0, 32, .ro, 0x0, .cold, .any⟩,
  ⟨0x4108, 0x0, 1, 0, 32, .ro, 0x0, .cold, .any⟩,
  ⟨0x410C, 0x0, 1, 0, 14, .ro, 0x0, .none, .any⟩,
  ⟨0x4110, 0x0, 1, 0, 14, .ro, 0x0, .none, .any⟩,
  ⟨0x4114, 0x0, 1, 0, 32, .ro, 0x0, .none, .any⟩,
  ⟨0x4118, 0x0, 1, 0, 13, .ro, 0x0, .none, .any⟩]

/-- Fields of MAINT (R347). -/
def specsMAINT : List FieldSpec := [
  ⟨0x7100, 0x0, 1, 0, 3, .wo, 0x0, .cold, .any⟩,
  ⟨0x7100, 0x0, 1, 31, 1, .wo, 0x0, .cold, .any⟩,
  ⟨0x7104, 0x0, 1, 0, 14, .ro, 0x0, .cold, .any⟩,
  ⟨0x7108, 0x0, 1, 0, 24, .ro, 0xFFFFFF, .cold, .any⟩,
  ⟨0x710C, 0x0, 1, 0, 8, .ro, 0x0, .cold, .any⟩,
  ⟨0x7110, 0x0, 1, 0, 3, .ro, 0x0, .cold, .any⟩,
  ⟨0x7110, 0x0, 1, 4, 2, .ro, 0x0, .cold, .any⟩,
  ⟨0x7114, 0x0, 1, 0, 32, .ro, 0x0, .cold, .any⟩,
  ⟨0x7118, 0x0, 1, 0, 32, .ro, 0x0, .cold, .any⟩,
  ⟨0x711C, 0x0, 1, 0, 6, .rw, 0x0, .host, .any⟩]

/-- Fields of FORE (R376). -/
def specsFORE : List FieldSpec := [
  ⟨0x6100, 0x4, 4, 0, 32, .rw, 0x0, .cold, .any⟩,
  ⟨0x6110, 0x0, 1, 0, 8, .wo, 0x0, .cold, .any⟩,
  ⟨0x6110, 0x0, 1, 8, 8, .wo, 0x0, .cold, .any⟩,
  ⟨0x6114, 0x0, 1, 0, 1, .ro, 0x0, .cold, .any⟩,
  ⟨0x6114, 0x0, 1, 8, 8, .ro, 0x0, .cold, .any⟩,
  ⟨0x6114, 0x0, 1, 16, 8, .ro, 0x0, .cold, .any⟩,
  ⟨0x6114, 0x0, 1, 24, 8, .ro, 0x0, .cold, .any⟩,
  ⟨0x6118, 0x4, 2, 0, 32, .ro, 0x0, .cold, .any⟩,
  ⟨0x6120, 0x0, 1, 0, 1, .ro, 0x0, .cold, .any⟩,
  ⟨0x6120, 0x0, 1, 1, 1, .ro, 0x0, .cold, .any⟩,
  ⟨0x6120, 0x0, 1, 2, 1, .ro, 0x0, .cold, .any⟩,
  ⟨0x6120, 0x0, 1, 3, 1, .ro, 0x0, .cold, .any⟩,
  ⟨0x6124, 0x0, 1, 0, 32, .ro, 0x0, .wdog, .any⟩,
  ⟨0x6128, 0x0, 1, 0, 16, .ro, 0x1F4, .cold, .any⟩,
  ⟨0x612C, 0x0, 1, 0, 32, .ro, 0x0, .cold, .any⟩,
  ⟨0x6130, 0x0, 1, 0, 20, .ro, 0x0, .cold, .any⟩,
  ⟨0x6130, 0x0, 1, 20, 12, .ro, 0x0, .cold, .any⟩,
  ⟨0x6134, 0x0, 1, 0, 6, .rw, 0x0, .host, .any⟩]

/-- Fields of TMON (R377). -/
def specsTMON : List FieldSpec := [
  ⟨0x5100, 0x0, 1, 0, 12, .ro, 0x0, .cold, .any⟩,
  ⟨0x5100, 0x0, 1, 31, 1, .ro, 0x0, .cold, .any⟩,
  ⟨0x5104, 0x0, 1, 0, 12, .ro, 0x0, .cold, .any⟩,
  ⟨0x5108, 0x0, 1, 0, 8, .rw, 0x64, .cold, (.clamp 0 125)⟩,
  ⟨0x510C, 0x0, 1, 0, 8, .rw, 0x73, .cold, .any⟩]

/-- Fields of PCIEX (R395). -/
def specsPCIEX : List FieldSpec := [
  ⟨0x10100, 0x0, 1, 0, 1, .rw, 0x1, .host, .any⟩,
  ⟨0x10100, 0x0, 1, 1, 1, .rw, 0x0, .host, .any⟩,
  ⟨0x10104, 0x0, 1, 0, 3, .ro, 0x0, .perst, .any⟩,
  ⟨0x10104, 0x0, 1, 4, 4, .ro, 0x0, .perst, .any⟩,
  ⟨0x10104, 0x0, 1, 8, 3, .ro, 0x0, .perst, .any⟩,
  ⟨0x10104, 0x0, 1, 16, 1, .ro, 0x0, .perst, .any⟩,
  ⟨0x10108, 0x0, 1, 0, 32, .ro, 0x0, .cold, .any⟩,
  ⟨0x1010C, 0x0, 1, 0, 32, .ro, 0x0, .perst, .any⟩,
  ⟨0x10110, 0x0, 1, 0, 32, .ro, 0x0, .perst, .any⟩,
  ⟨0x10114, 0x0, 1, 0, 32, .ro, 0x0, .host, .any⟩,
  ⟨0x10118, 0x0, 1, 0, 32, .ro, 0x0, .host, .any⟩,
  ⟨0x1011C, 0x0, 1, 0, 32, .ro, 0x0, .host, .any⟩,
  ⟨0x10120, 0x0, 1, 0, 32, .ro, 0x0, .host, .any⟩,
  ⟨0x10124, 0x0, 1, 0, 32, .ro, 0x0, .host, .any⟩,
  ⟨0x10128, 0x0, 1, 0, 10, .rw, 0x4, .host, .any⟩,
  ⟨0x10128, 0x0, 1, 10, 3, .rw, 0x2, .host, (.keepAbove 5)⟩,
  ⟨0x10128, 0x0, 1, 16, 10, .rw, 0x3, .host, .any⟩,
  ⟨0x10128, 0x0, 1, 26, 3, .rw, 0x4, .host, (.keepAbove 5)⟩,
  ⟨0x1012C, 0x0, 1, 0, 13, .ro, 0x0, .host, .any⟩,
  ⟨0x10130, 0x0, 1, 0, 8, .rw, 0xA, .host, .any⟩,
  ⟨0x10130, 0x0, 1, 8, 8, .rw, 0x32, .host, (.clamp 1 255)⟩,
  ⟨0x10134, 0x0, 1, 0, 1, .wo, 0x0, .host, .any⟩,
  ⟨0x10138, 0x0, 1, 0, 1, .ro, 0x0, .host, .any⟩,
  ⟨0x10138, 0x0, 1, 1, 1, .ro, 0x0, .host, .any⟩,
  ⟨0x1013C, 0x0, 1, 0, 32, .ro, 0x0, .host, .any⟩,
  ⟨0x10140, 0x0, 1, 0, 32, .ro, 0x0, .host, .any⟩,
  ⟨0x10144, 0x0, 1, 0, 32, .ro, 0x0, .host, .any⟩,
  ⟨0x10148, 0x0, 1, 0, 32, .ro, 0x0, .host, .any⟩,
  ⟨0x1014C, 0x0, 1, 0, 32, .ro, 0x40000000, .host, .any⟩,
  ⟨0x10150, 0x0, 1, 0, 32, .ro, 0x0, .cold, .any⟩,
  ⟨0x10154, 0x0, 1, 0, 32, .ro, 0x0, .cold, .any⟩,
  ⟨0x10158, 0x0, 1, 0, 3, .ro, 0x0, .perstHot, .any⟩,
  ⟨0x1015C, 0x0, 1, 0, 32, .ro, 0x0, .perst, .any⟩]

/-- The field table of a register page (R404), the Dusk pages through their Dawn copy. -/
def pageSpecs (page : Nat) : List FieldSpec :=
  match page with
  | 0x00 => specsCHIP
  | 0x01 => specsPWR
  | 0x02 => specsCLK
  | 0x03 => specsRGL
  | 0x04 => specsPSTORE
  | 0x05 => specsTMON
  | 0x06 => specsFORE
  | 0x07 => specsMAINT
  | 0x08 => specsCANARY
  | 0x09 => specsSRAMC
  | 0x0A => specsDRAMC
  | 0x0B => specsMAPS
  | 0x10 => specsPCIEX
  | 0x11 => specsQMGR
  | 0x12 => specsHOIST
  | 0x13 => specsTXN
  | 0x14 => specsSURF
  | 0x15 => specsEVT
  | 0x16 => specsCMP
  | 0x17 => specsSEAL
  | 0x20 => specsSCAN
  | 0x21 => specsCOMP
  | 0x22 => specsHIST
  | 0x23 => specsOD
  | 0x24 => specsUNI
  | 0x25 => specsDITH
  | 0x26 => specsASSAY
  | 0x40 => specsAGE
  | 0x41 => specsLINK
  | 0x42 => specsGATE
  | 0x43 => specsHVD
  | 0x44 => specsLABEL
  | _ => []

/-- The 38 register pages in use (R397, R404). -/
def pageList : List Nat := [0x00, 0x01, 0x02, 0x03, 0x04, 0x05, 0x06, 0x07, 0x08, 0x09, 0x0A, 0x0B, 0x10, 0x11, 0x12, 0x13, 0x14, 0x15, 0x16, 0x17, 0x20, 0x21, 0x22, 0x23, 0x24, 0x25, 0x26, 0x31, 0x32, 0x33, 0x34, 0x35, 0x36, 0x40, 0x41, 0x42, 0x43, 0x44]

/-- Whether the index is one of the 38 pages in use. -/
def pageUsed (page : Nat) : Bool := pageList.contains page

/-- Whether a page is the Dusk copy of a half page (R404). -/
def isDuskPage (page : Nat) : Bool := 0x31 ≤ page && page ≤ 0x36

/-- Whether the Dusk copy leaves this page offset out: the ranges marked "Dawn" in R404. -/
def dawnOnly (page off : Nat) : Bool := 0x33 ≤ page && page ≤ 0x36 && 0x120 ≤ off

/-- The specification covers the register at this offset. -/
def FieldSpec.covers (f : FieldSpec) (off : Nat) : Bool :=
  if f.stride = 0 then off == f.off
  else f.off ≤ off && (off - f.off) % f.stride == 0 && (off - f.off) / f.stride < f.cnt

/-- The fields of the register at a BAR0 offset (R396, R397): a header register, a page's own register or a register of
one of the windows that are laid out as registers. Empty for a reserved offset and for the array windows. -/
def fieldsAt (off : Nat) : List FieldSpec :=
  if off < 0x100000 then
    let page := off / 0x1000
    let po := off % 0x1000
    if !pageUsed page then []
    else if po < 0x40 then headerSpecs.filter (·.covers po)
    else if isDuskPage page then
      if dawnOnly page po then [] else (pageSpecs (page - 0x10)).filter (·.covers (off - 0x10000))
    else (pageSpecs page).filter (·.covers off)
  else if off < 0x140000 then specsQCTX.filter (·.covers off)
  else if off < 0x150000 then specsRING.filter (·.covers off)
  else if off < 0x160000 then specsSLOT.filter (·.covers off)
  else if off < 0x170000 then specsLAYER.filter (·.covers off)
  else if 0x190000 ≤ off && off < 0x191000 then specsJCTX.filter (·.covers off)
  else []

namespace F

/-! Fields of SURF. -/
abbrev SURF_CTRL_RCACHE_EN : Fld := ⟨0x14100, 0, 1⟩
abbrev SURF_CTRL_PREFETCH_LINES : Fld := ⟨0x14100, 1, 4⟩
abbrev SURF_RSVD_FRAMES_COUNT : Fld := ⟨0x14104, 0, 11⟩
abbrev SURF_BAR4_WINDOW_BASE_FRAME : Fld := ⟨0x14108, 0, 12⟩
abbrev SURF_FENCE_RING_RING : Fld := ⟨0x1410C, 0, 6⟩
abbrev SURF_RETIRE_COOKIE_COOKIE : Fld := ⟨0x14110, 0, 32⟩
abbrev SURF_RETIRE_CMD_FIRST_PAGE : Fld := ⟨0x14114, 0, 20⟩
abbrev SURF_RETIRE_CMD_COUNT : Fld := ⟨0x14114, 20, 12⟩
abbrev SURF_RETIRE_STATUS_RESULT : Fld := ⟨0x14118, 0, 2⟩
abbrev SURF_RETIRE_STATUS_PENDING : Fld := ⟨0x14118, 16, 9⟩
abbrev SURF_RCACHE_INVAL_PAGE : Fld := ⟨0x1411C, 0, 20⟩
abbrev SURF_RCACHE_INVAL_ALL : Fld := ⟨0x1411C, 31, 1⟩
abbrev SURF_RCACHE_HITS_COUNT : Fld := ⟨0x14120, 0, 32⟩
abbrev SURF_RCACHE_MISSES_COUNT : Fld := ⟨0x14124, 0, 32⟩
abbrev SURF_REMOTE_ERR_COUNT : Fld := ⟨0x14128, 0, 32⟩
abbrev SURF_PROT_READS_COUNT : Fld := ⟨0x1412C, 0, 32⟩
abbrev SURF_RSVD_ACCESS_COUNT : Fld := ⟨0x14130, 0, 32⟩
abbrev SURF_FAULT_COUNT_COUNT : Fld := ⟨0x14134, 0, 32⟩
abbrev SURF_FAULT_PAGE_PAGE : Fld := ⟨0x14138, 0, 20⟩
abbrev SURF_MAPPED_PAGES_COUNT : Fld := ⟨0x1413C, 0, 21⟩
/-! Fields of QCTX. -/
abbrev QCTX_BASE_LO_BASE (i : Nat) : Fld := ⟨0x100000 + 0x20 * i, 0, 32⟩
abbrev QCTX_BASE_HI_BASE (i : Nat) : Fld := ⟨0x100004 + 0x20 * i, 0, 32⟩
abbrev QCTX_CFG_SIZE_LOG2 (i : Nat) : Fld := ⟨0x100008 + 0x20 * i, 0, 5⟩
abbrev QCTX_CFG_PRIO (i : Nat) : Fld := ⟨0x100008 + 0x20 * i, 8, 3⟩
abbrev QCTX_CFG_EVT_RING (i : Nat) : Fld := ⟨0x100008 + 0x20 * i, 16, 6⟩
abbrev QCTX_CFG_STOP_ON_ERR (i : Nat) : Fld := ⟨0x100008 + 0x20 * i, 29, 1⟩
abbrev QCTX_CFG_ENABLE (i : Nat) : Fld := ⟨0x100008 + 0x20 * i, 31, 1⟩
abbrev QCTX_PTRS_HEAD (i : Nat) : Fld := ⟨0x10000C + 0x20 * i, 0, 16⟩
abbrev QCTX_PTRS_TAIL (i : Nat) : Fld := ⟨0x10000C + 0x20 * i, 16, 16⟩
abbrev QCTX_STATE_STATE (i : Nat) : Fld := ⟨0x100010 + 0x20 * i, 0, 3⟩
abbrev QCTX_STATE_CAUSE (i : Nat) : Fld := ⟨0x100010 + 0x20 * i, 8, 8⟩
abbrev QCTX_DONE_COUNT (i : Nat) : Fld := ⟨0x100014 + 0x20 * i, 0, 32⟩
/-! Fields of RING. -/
abbrev RING_BASE_LO_BASE (i : Nat) : Fld := ⟨0x140000 + 0x20 * i, 0, 32⟩
abbrev RING_BASE_HI_BASE (i : Nat) : Fld := ⟨0x140004 + 0x20 * i, 0, 32⟩
abbrev RING_CFG_SIZE_LOG2 (i : Nat) : Fld := ⟨0x140008 + 0x20 * i, 0, 5⟩
abbrev RING_CFG_VECTOR (i : Nat) : Fld := ⟨0x140008 + 0x20 * i, 16, 11⟩
abbrev RING_CFG_ENABLE (i : Nat) : Fld := ⟨0x140008 + 0x20 * i, 31, 1⟩
abbrev RING_MOD_THRESHOLD (i : Nat) : Fld := ⟨0x14000C + 0x20 * i, 0, 8⟩
abbrev RING_MOD_HOLDOFF (i : Nat) : Fld := ⟨0x14000C + 0x20 * i, 16, 16⟩
abbrev RING_HEAD_HEAD (i : Nat) : Fld := ⟨0x140010 + 0x20 * i, 0, 16⟩
abbrev RING_TAIL_TAIL (i : Nat) : Fld := ⟨0x140014 + 0x20 * i, 0, 16⟩
abbrev RING_LOST_COUNT (i : Nat) : Fld := ⟨0x140018 + 0x20 * i, 0, 32⟩
abbrev RING_HOLD_COUNT (i : Nat) : Fld := ⟨0x14001C + 0x20 * i, 0, 5⟩
/-! Fields of QMGR. -/
abbrev QMGR_QCMD_QUEUE : Fld := ⟨0x11100, 0, 13⟩
abbrev QMGR_QCMD_CMD : Fld := ⟨0x11100, 16, 3⟩
abbrev QMGR_QCMD_STATUS_QUEUE : Fld := ⟨0x11104, 0, 13⟩
abbrev QMGR_QCMD_STATUS_RESULT : Fld := ⟨0x11104, 16, 2⟩
abbrev QMGR_DB_DROPPED_COUNT : Fld := ⟨0x11108, 0, 32⟩
abbrev QMGR_ACTIVE_QUEUES_COUNT : Fld := ⟨0x1110C, 0, 14⟩
abbrev QMGR_ERR_QUEUE_QUEUE : Fld := ⟨0x11110, 0, 13⟩
abbrev QMGR_DESC_DONE_COUNT : Fld := ⟨0x11114, 0, 32⟩
/-! Fields of HOIST. -/
abbrev HOIST_ARB_ARB_MODE : Fld := ⟨0x12100, 0, 1⟩
abbrev HOIST_ARB_CAGE_RSV : Fld := ⟨0x12100, 8, 5⟩
abbrev HOIST_CH_EVT_RING : Fld := ⟨0x12104, 0, 6⟩
abbrev HOIST_BUSY_CAGES_MAP : Fld := ⟨0x12108, 0, 32⟩
abbrev HOIST_BYTES_LO_COUNT : Fld := ⟨0x1210C, 0, 32⟩
abbrev HOIST_BYTES_HI_COUNT : Fld := ⟨0x12110, 0, 32⟩
abbrev HOIST_PREEMPTS_COUNT : Fld := ⟨0x12114, 0, 32⟩
abbrev HOIST_ABORTS_COUNT : Fld := ⟨0x12118, 0, 32⟩
abbrev HOIST_CH_ABORT_CH : Fld := ⟨0x1211C, 0, 16⟩
abbrev HOIST_CH_SH_SRC_LO_SRC (i : Nat) : Fld := ⟨0x12200 + 0x40 * i, 0, 32⟩
abbrev HOIST_CH_SH_SRC_HI_SRC (i : Nat) : Fld := ⟨0x12204 + 0x40 * i, 0, 32⟩
abbrev HOIST_CH_SH_DST_LO_DST (i : Nat) : Fld := ⟨0x12208 + 0x40 * i, 0, 32⟩
abbrev HOIST_CH_SH_DST_HI_DST (i : Nat) : Fld := ⟨0x1220C + 0x40 * i, 0, 32⟩
abbrev HOIST_CH_SH_LEN_LENGTH (i : Nat) : Fld := ⟨0x12210 + 0x40 * i, 0, 20⟩
abbrev HOIST_CH_SH_CTRL_GO (i : Nat) : Fld := ⟨0x12214 + 0x40 * i, 0, 1⟩
abbrev HOIST_CH_SH_CTRL_SRC_HOST (i : Nat) : Fld := ⟨0x12214 + 0x40 * i, 1, 1⟩
abbrev HOIST_CH_SH_CTRL_DST_HOST (i : Nat) : Fld := ⟨0x12214 + 0x40 * i, 2, 1⟩
abbrev HOIST_CH_SH_CTRL_EVT (i : Nat) : Fld := ⟨0x12214 + 0x40 * i, 3, 1⟩
abbrev HOIST_CH_ACT_SRC_LO_SRC (i : Nat) : Fld := ⟨0x12218 + 0x40 * i, 0, 32⟩
abbrev HOIST_CH_ACT_SRC_HI_SRC (i : Nat) : Fld := ⟨0x1221C + 0x40 * i, 0, 32⟩
abbrev HOIST_CH_ACT_DST_LO_DST (i : Nat) : Fld := ⟨0x12220 + 0x40 * i, 0, 32⟩
abbrev HOIST_CH_ACT_DST_HI_DST (i : Nat) : Fld := ⟨0x12224 + 0x40 * i, 0, 32⟩
abbrev HOIST_CH_ACT_LEN_LENGTH (i : Nat) : Fld := ⟨0x12228 + 0x40 * i, 0, 20⟩
abbrev HOIST_CH_STATUS_STATUS (i : Nat) : Fld := ⟨0x1222C + 0x40 * i, 0, 8⟩
abbrev HOIST_CH_STATUS_ACTIVE (i : Nat) : Fld := ⟨0x1222C + 0x40 * i, 8, 1⟩
abbrev HOIST_CH_STATUS_ARMED (i : Nat) : Fld := ⟨0x1222C + 0x40 * i, 9, 1⟩
abbrev HOIST_CH_RESIDUE_RESIDUE (i : Nat) : Fld := ⟨0x12230 + 0x40 * i, 0, 20⟩
/-! Fields of EVT. -/
abbrev EVT_LOST_TOTAL_COUNT : Fld := ⟨0x15100, 0, 32⟩
abbrev EVT_FULL_LO_RINGS : Fld := ⟨0x15104, 0, 32⟩
abbrev EVT_FULL_HI_RINGS : Fld := ⟨0x15108, 0, 32⟩
abbrev EVT_ENABLED_LO_RINGS : Fld := ⟨0x1510C, 0, 32⟩
abbrev EVT_ENABLED_HI_RINGS : Fld := ⟨0x15110, 0, 32⟩
/-! Fields of SLOT. -/
abbrev SLOT_STAGE_ADDR_OFFSET (i : Nat) : Fld := ⟨0x150000 + 0x20 * i, 0, 24⟩
abbrev SLOT_STAGE_DATA_VALUE (i : Nat) : Fld := ⟨0x150004 + 0x20 * i, 0, 32⟩
abbrev SLOT_TARGET_FRAME (i : Nat) : Fld := ⟨0x150008 + 0x20 * i, 0, 32⟩
abbrev SLOT_CMD_TOKEN (i : Nat) : Fld := ⟨0x15000C + 0x20 * i, 0, 16⟩
abbrev SLOT_CMD_OP (i : Nat) : Fld := ⟨0x15000C + 0x20 * i, 16, 3⟩
abbrev SLOT_CMD_MODE (i : Nat) : Fld := ⟨0x15000C + 0x20 * i, 19, 2⟩
abbrev SLOT_CMD_STRICT (i : Nat) : Fld := ⟨0x15000C + 0x20 * i, 21, 1⟩
abbrev SLOT_CMD_STRICT_LATE (i : Nat) : Fld := ⟨0x15000C + 0x20 * i, 22, 1⟩
abbrev SLOT_CMD_ASAP (i : Nat) : Fld := ⟨0x15000C + 0x20 * i, 23, 1⟩
abbrev SLOT_CMD_EVT (i : Nat) : Fld := ⟨0x15000C + 0x20 * i, 24, 1⟩
abbrev SLOT_STATE_STATE (i : Nat) : Fld := ⟨0x150010 + 0x20 * i, 0, 3⟩
abbrev SLOT_STATE_SEQ (i : Nat) : Fld := ⟨0x150010 + 0x20 * i, 6, 10⟩
abbrev SLOT_STATE_REASON (i : Nat) : Fld := ⟨0x150010 + 0x20 * i, 16, 4⟩
abbrev SLOT_STATE_RESULT (i : Nat) : Fld := ⟨0x150010 + 0x20 * i, 20, 4⟩
abbrev SLOT_STATE_LATE (i : Nat) : Fld := ⟨0x150010 + 0x20 * i, 24, 1⟩
abbrev SLOT_WRITES_COUNT (i : Nat) : Fld := ⟨0x150014 + 0x20 * i, 0, 13⟩
abbrev SLOT_WRITES_CLAMPS (i : Nat) : Fld := ⟨0x150014 + 0x20 * i, 16, 13⟩
abbrev SLOT_APPLIED_FRAME_FRAME (i : Nat) : Fld := ⟨0x150018 + 0x20 * i, 0, 32⟩
abbrev SLOT_FIRST_CLAMP_OFFSET (i : Nat) : Fld := ⟨0x15001C + 0x20 * i, 0, 24⟩
/-! Fields of TXN. -/
abbrev TXN_OPEN_TOKEN : Fld := ⟨0x13100, 0, 16⟩
abbrev TXN_OPEN_OK : Fld := ⟨0x13100, 31, 1⟩
abbrev TXN_OPEN_SLOTS_LO_MAP : Fld := ⟨0x13104, 0, 32⟩
abbrev TXN_OPEN_SLOTS_HI_MAP : Fld := ⟨0x13108, 0, 32⟩
abbrev TXN_PENDING_LO_MAP : Fld := ⟨0x1310C, 0, 32⟩
abbrev TXN_PENDING_HI_MAP : Fld := ⟨0x13110, 0, 32⟩
abbrev TXN_EXPIRY_FRAMES : Fld := ⟨0x13114, 0, 16⟩
abbrev TXN_EVT_RING_RING : Fld := ⟨0x13118, 0, 6⟩
abbrev TXN_TARGETS_COUNT : Fld := ⟨0x1311C, 0, 7⟩
abbrev TXN_COMMITS_COUNT : Fld := ⟨0x13120, 0, 32⟩
abbrev TXN_ABORTS_COUNT : Fld := ⟨0x13124, 0, 32⟩
abbrev TXN_LATE_COUNT : Fld := ⟨0x13128, 0, 32⟩
abbrev TXN_STAGE_DROPPED_COUNT : Fld := ⟨0x1312C, 0, 32⟩
abbrev TXN_LAST_ABORT_TOKEN : Fld := ⟨0x13130, 0, 16⟩
abbrev TXN_LAST_ABORT_REASON : Fld := ⟨0x13130, 16, 4⟩
/-! Fields of CHIP. -/
abbrev CHIP_RESET_CTRL_GO : Fld := ⟨0x100, 0, 1⟩
abbrev CHIP_RESET_CTRL_SCOPE : Fld := ⟨0x100, 1, 1⟩
abbrev CHIP_RESET_CTRL_KEY : Fld := ⟨0x100, 8, 8⟩
abbrev CHIP_RESET_CAUSE_CAUSES : Fld := ⟨0x104, 0, 8⟩
abbrev CHIP_HOST_RESETS_COUNT : Fld := ⟨0x108, 0, 32⟩
abbrev CHIP_STATE_FATAL : Fld := ⟨0x10C, 0, 1⟩
abbrev CHIP_STATE_CAUSE : Fld := ⟨0x10C, 4, 4⟩
abbrev CHIP_ERR_SUMMARY_REGIONS : Fld := ⟨0x110, 0, 6⟩
abbrev CHIP_ERR_SUMMARY_ISOLATED : Fld := ⟨0x110, 8, 6⟩
abbrev CHIP_PORT_TIMEOUT_US : Fld := ⟨0x114, 0, 16⟩
abbrev CHIP_ISOLATE_LIMIT_COUNT : Fld := ⟨0x118, 0, 8⟩
abbrev CHIP_FATAL_FORCE_GO : Fld := ⟨0x11C, 0, 1⟩
abbrev CHIP_FATAL_FORCE_KEY : Fld := ⟨0x11C, 8, 8⟩
abbrev CHIP_FATAL_LOG_NEXT_INDEX : Fld := ⟨0x120, 0, 9⟩
abbrev CHIP_ERR_EVT_RING : Fld := ⟨0x124, 0, 6⟩
abbrev CHIP_UPTIME_SECONDS : Fld := ⟨0x128, 0, 32⟩
abbrev CHIP_BOOT_STATUS_STAGE : Fld := ⟨0x12C, 0, 3⟩
abbrev CHIP_BOOT_STATUS_RECORD : Fld := ⟨0x12C, 3, 1⟩
abbrev CHIP_BOOT_STATUS_DEFAULT : Fld := ⟨0x12C, 4, 1⟩
abbrev CHIP_BOOT_STATUS_MARCHED : Fld := ⟨0x12C, 5, 1⟩
abbrev CHIP_BOOT_STATUS_FALLBACK : Fld := ⟨0x12C, 6, 1⟩
abbrev CHIP_BOOT_STATUS_SKIPPED : Fld := ⟨0x12C, 16, 10⟩
abbrev CHIP_BOOT_STATUS_BOOT_FAIL : Fld := ⟨0x12C, 28, 3⟩
abbrev CHIP_PART_ID_DEVICE : Fld := ⟨0x130, 0, 16⟩
abbrev CHIP_PART_ID_REV : Fld := ⟨0x130, 16, 8⟩
abbrev CHIP_FEATURES_HALVES : Fld := ⟨0x134, 0, 2⟩
abbrev CHIP_CONFIG_GEN_GEN : Fld := ⟨0x140, 0, 32⟩
abbrev CHIP_CONFIG_DIGEST_DIGEST : Fld := ⟨0x144, 0, 32⟩
abbrev CHIP_DIGEST_GEN_GEN : Fld := ⟨0x148, 0, 32⟩
abbrev CHIP_DIGEST_STATUS_BUSY : Fld := ⟨0x14C, 0, 1⟩
abbrev CHIP_REGION_DIGESTn_DIGEST (i : Nat) : Fld := ⟨0x150 + 0x4 * i, 0, 32⟩
abbrev CHIP_AUDIT_CTRL_PERIOD : Fld := ⟨0x168, 0, 16⟩
abbrev CHIP_AUDIT_CMD_GO : Fld := ⟨0x16C, 0, 1⟩
abbrev CHIP_AUDIT_STATUS_RESULT : Fld := ⟨0x170, 0, 2⟩
abbrev CHIP_AUDIT_STATUS_REGIONS : Fld := ⟨0x170, 8, 6⟩
abbrev CHIP_AUDIT_STATUS_BUSY : Fld := ⟨0x170, 16, 1⟩
abbrev CHIP_AUDIT_EVT_RING : Fld := ⟨0x174, 0, 6⟩
abbrev CHIP_CLAMP_LOG_NEXT_INDEX : Fld := ⟨0x178, 0, 8⟩
abbrev CHIP_CLAMP_LOG_TOTAL_COUNT : Fld := ⟨0x17C, 0, 32⟩
abbrev CHIP_INT_SUM0_PAGES : Fld := ⟨0x180, 0, 32⟩
abbrev CHIP_INT_SUM1_PAGES : Fld := ⟨0x184, 0, 32⟩
abbrev CHIP_INT_SUM2_PAGES : Fld := ⟨0x188, 0, 32⟩
abbrev CHIP_INT_CTRL_VECTOR : Fld := ⟨0x18C, 0, 11⟩
abbrev CHIP_INT_CTRL_EN : Fld := ⟨0x18C, 31, 1⟩
/-! Fields of LAYER. -/
abbrev LAYER_ADDR_LO_ADDR (i : Nat) : Fld := ⟨0x160000 + 0x20 * i, 0, 32⟩
abbrev LAYER_ADDR_HI_ADDR (i : Nat) : Fld := ⟨0x160004 + 0x20 * i, 0, 32⟩
abbrev LAYER_POS_X (i : Nat) : Fld := ⟨0x160008 + 0x20 * i, 0, 16⟩
abbrev LAYER_POS_Y (i : Nat) : Fld := ⟨0x160008 + 0x20 * i, 16, 16⟩
abbrev LAYER_SIZE_SRC_W (i : Nat) : Fld := ⟨0x16000C + 0x20 * i, 0, 16⟩
abbrev LAYER_SIZE_SRC_H (i : Nat) : Fld := ⟨0x16000C + 0x20 * i, 16, 16⟩
abbrev LAYER_FMT_PITCH (i : Nat) : Fld := ⟨0x160010 + 0x20 * i, 0, 19⟩
abbrev LAYER_FMT_FORMAT (i : Nat) : Fld := ⟨0x160010 + 0x20 * i, 20, 4⟩
abbrev LAYER_FMT_SCALE_X (i : Nat) : Fld := ⟨0x160010 + 0x20 * i, 24, 2⟩
abbrev LAYER_FMT_SCALE_Y (i : Nat) : Fld := ⟨0x160010 + 0x20 * i, 26, 2⟩
abbrev LAYER_FMT_BLEND (i : Nat) : Fld := ⟨0x160010 + 0x20 * i, 28, 2⟩
abbrev LAYER_FMT_ENABLE (i : Nat) : Fld := ⟨0x160010 + 0x20 * i, 31, 1⟩
abbrev LAYER_ALPHA_GALPHA (i : Nat) : Fld := ⟨0x160014 + 0x20 * i, 0, 12⟩
/-! Fields of SCAN. -/
abbrev SCAN_CTRL_RUN : Fld := ⟨0x20100, 0, 1⟩
abbrev SCAN_CTRL_VRR : Fld := ⟨0x20100, 1, 1⟩
abbrev SCAN_H_TIMING_H_ACTIVE : Fld := ⟨0x20104, 0, 10⟩
abbrev SCAN_H_TIMING_H_TOTAL : Fld := ⟨0x20104, 16, 13⟩
abbrev SCAN_V_TIMING_V_ACTIVE : Fld := ⟨0x20108, 0, 14⟩
abbrev SCAN_V_TOTAL_MIN : Fld := ⟨0x2010C, 0, 15⟩
abbrev SCAN_V_TOTAL_MAX : Fld := ⟨0x2010C, 16, 15⟩
abbrev SCAN_COMMIT_GUARD_LINES : Fld := ⟨0x20110, 0, 7⟩
abbrev SCAN_FETCH_LEAD_LINES : Fld := ⟨0x20114, 0, 3⟩
abbrev SCAN_LIST_COUNT : Fld := ⟨0x20118, 0, 9⟩
abbrev SCAN_BG_COLOR_BLUE : Fld := ⟨0x2011C, 0, 10⟩
abbrev SCAN_BG_COLOR_GREEN : Fld := ⟨0x2011C, 10, 10⟩
abbrev SCAN_BG_COLOR_RED : Fld := ⟨0x2011C, 20, 10⟩
abbrev SCAN_REPLAY_CTRL_REQ : Fld := ⟨0x20120, 0, 1⟩
abbrev SCAN_FRAME_SEQ_FRAME : Fld := ⟨0x20124, 0, 32⟩
abbrev SCAN_LINE_SCAN_LINE : Fld := ⟨0x20128, 0, 15⟩
abbrev SCAN_STATUS_RUNNING : Fld := ⟨0x2012C, 0, 1⟩
abbrev SCAN_STATUS_REPLAY : Fld := ⟨0x2012C, 1, 1⟩
abbrev SCAN_STATUS_HOLD : Fld := ⟨0x2012C, 2, 1⟩
abbrev SCAN_STATUS_STRETCH : Fld := ⟨0x2012C, 3, 1⟩
abbrev SCAN_STATUS_CAUSE : Fld := ⟨0x2012C, 4, 4⟩
abbrev SCAN_LAST_TOTAL_LINES : Fld := ⟨0x20130, 0, 15⟩
abbrev SCAN_LINE_EVT_LINE : Fld := ⟨0x20134, 0, 15⟩
abbrev SCAN_LINE_EVT_EN : Fld := ⟨0x20134, 31, 1⟩
abbrev SCAN_EVT_CTRL_RING : Fld := ⟨0x20138, 0, 6⟩
abbrev SCAN_EVT_CTRL_FRAME_EN : Fld := ⟨0x20138, 8, 1⟩
abbrev SCAN_EVT_CTRL_FLIP_EN : Fld := ⟨0x20138, 9, 1⟩
abbrev SCAN_EVT_CTRL_REPEAT_EN : Fld := ⟨0x20138, 10, 1⟩
abbrev SCAN_REPEATS_COUNT : Fld := ⟨0x2013C, 0, 32⟩
/-! Fields of COMP. -/
abbrev COMP_LAYER_COUNT_COUNT (h : Half) : Fld := ⟨0x21100 + halfOff h, 0, 9⟩
abbrev COMP_UNDERRUN_COUNT (h : Half) : Fld := ⟨0x21104 + halfOff h, 0, 32⟩
abbrev COMP_UNDERRUN_LAST_LINE (h : Half) : Fld := ⟨0x21108 + halfOff h, 0, 14⟩
abbrev COMP_UNDERRUN_FRAME_FRAME (h : Half) : Fld := ⟨0x2110C + halfOff h, 0, 32⟩
abbrev COMP_OVERFLOW_COUNT (h : Half) : Fld := ⟨0x21110 + halfOff h, 0, 32⟩
abbrev COMP_OVERFLOW_LAST_LINE (h : Half) : Fld := ⟨0x21114 + halfOff h, 0, 14⟩
abbrev COMP_OVERFLOW_LAST_MAX_LAYERS (h : Half) : Fld := ⟨0x21114 + halfOff h, 16, 9⟩
abbrev COMP_FETCH_BYTES_COUNT (h : Half) : Fld := ⟨0x21118 + halfOff h, 0, 32⟩
/-! Fields of HIST. -/
abbrev HIST_CTRL_TABLE_MODE (h : Half) : Fld := ⟨0x22100 + halfOff h, 0, 1⟩
abbrev HIST_CTRL_TABLE_FIXED (h : Half) : Fld := ⟨0x22100 + halfOff h, 1, 3⟩
abbrev HIST_CMD_INVALIDATE (h : Half) : Fld := ⟨0x22104 + halfOff h, 0, 1⟩
abbrev HIST_BASE_FRAME_FRAME (h : Half) : Fld := ⟨0x22108 + halfOff h, 0, 12⟩
abbrev HIST_ROLES_WRITE (h : Half) : Fld := ⟨0x2210C + halfOff h, 0, 2⟩
abbrev HIST_ROLES_BACK1 (h : Half) : Fld := ⟨0x2210C + halfOff h, 4, 2⟩
abbrev HIST_ROLES_BACK2 (h : Half) : Fld := ⟨0x2210C + halfOff h, 8, 2⟩
abbrev HIST_SET_STATUS_VALID (h : Half) : Fld := ⟨0x22110 + halfOff h, 0, 3⟩
abbrev HIST_SET_STATUS_TABLE0 (h : Half) : Fld := ⟨0x22110 + halfOff h, 8, 3⟩
abbrev HIST_SET_STATUS_TABLE1 (h : Half) : Fld := ⟨0x22110 + halfOff h, 12, 3⟩
abbrev HIST_SET_STATUS_TABLE2 (h : Half) : Fld := ⟨0x22110 + halfOff h, 16, 3⟩
abbrev HIST_SETn_FRAME_FRAME (h : Half) (i : Nat) : Fld := ⟨0x22114 + halfOff h + 0x4 * i, 0, 32⟩
abbrev HIST_REFETCHES_COUNT (h : Half) : Fld := ⟨0x22120 + halfOff h, 0, 32⟩
abbrev HIST_HIST_FAULTS_COUNT (h : Half) : Fld := ⟨0x22124 + halfOff h, 0, 32⟩
abbrev HIST_FAULT_LAST_LINE (h : Half) : Fld := ⟨0x22128 + halfOff h, 0, 14⟩
abbrev HIST_FAULT_LAST_STRIP (h : Half) : Fld := ⟨0x22128 + halfOff h, 16, 7⟩
abbrev HIST_FAULT_LAST_ROLE (h : Half) : Fld := ⟨0x22128 + halfOff h, 24, 3⟩
abbrev HIST_FAULT_FRAME_FRAME (h : Half) : Fld := ⟨0x2212C + halfOff h, 0, 32⟩
abbrev HIST_LT_ERRORS_COUNT (h : Half) : Fld := ⟨0x22130 + halfOff h, 0, 32⟩
abbrev HIST_RAW_STRIPS_COUNT (h : Half) : Fld := ⟨0x22134 + halfOff h, 0, 32⟩
abbrev HIST_BYTES_WRITTEN_COUNT (h : Half) : Fld := ⟨0x22138 + halfOff h, 0, 32⟩
abbrev HIST_EVT_RING (h : Half) : Fld := ⟨0x2213C + halfOff h, 0, 6⟩
/-! Fields of OD. -/
abbrev OD_STATUS_TEMP_IDX (h : Half) : Fld := ⟨0x23100 + halfOff h, 0, 3⟩
abbrev OD_STATUS_BUCKET (h : Half) : Fld := ⟨0x23100 + halfOff h, 4, 2⟩
abbrev OD_STATUS_BANK (h : Half) : Fld := ⟨0x23100 + halfOff h, 8, 1⟩
abbrev OD_STATUS_PASS_FRAME (h : Half) : Fld := ⟨0x23100 + halfOff h, 9, 1⟩
abbrev OD_PASS_STRIPS_COUNT (h : Half) : Fld := ⟨0x23104 + halfOff h, 0, 32⟩
abbrev OD_CTRL_OD_EN : Fld := ⟨0x23120, 0, 1⟩
abbrev OD_CTRL_TEMP_SRC : Fld := ⟨0x23120, 1, 2⟩
abbrev OD_CTRL_ACTIVE_BANK : Fld := ⟨0x23120, 4, 1⟩
abbrev OD_TABLE_CRC_CRC : Fld := ⟨0x23124, 0, 32⟩
abbrev OD_TEMP_PTS_LO_PT : Fld := ⟨0x23128, 0, 32⟩
abbrev OD_TEMP_PTS_HI_PT : Fld := ⟨0x2312C, 0, 32⟩
abbrev OD_TEMP_CFG_HYST : Fld := ⟨0x23130, 0, 4⟩
abbrev OD_TEMP_CFG_FALLBACK_IDX : Fld := ⟨0x23130, 8, 3⟩
abbrev OD_BUCKET_A_LIM1 : Fld := ⟨0x23134, 0, 15⟩
abbrev OD_BUCKET_A_LIM2 : Fld := ⟨0x23134, 16, 15⟩
abbrev OD_BUCKET_B_LIM3 : Fld := ⟨0x23138, 0, 15⟩
abbrev OD_TEMP_NOW_TEMP : Fld := ⟨0x2313C, 0, 12⟩
abbrev OD_TEMP_NOW_VALID : Fld := ⟨0x2313C, 31, 1⟩
abbrev OD_STAGE_CMD_SEAL : Fld := ⟨0x23140, 0, 1⟩
abbrev OD_STAGE_STATUS_SEALED : Fld := ⟨0x23144, 0, 2⟩
abbrev OD_STAGE_STATUS_BUSY : Fld := ⟨0x23144, 4, 1⟩
abbrev OD_BANK0_CRC_CRC : Fld := ⟨0x23148, 0, 32⟩
abbrev OD_BANK1_CRC_CRC : Fld := ⟨0x2314C, 0, 32⟩
abbrev OD_WIN_DROPPED_COUNT : Fld := ⟨0x23150, 0, 32⟩
abbrev OD_EVT_RING : Fld := ⟨0x23154, 0, 6⟩
/-! Fields of CMP. -/
abbrev CMP_CTRL_LANE_EN : Fld := ⟨0x16100, 0, 4⟩
abbrev CMP_ENC_CFG_CHAIN_DEPTH : Fld := ⟨0x16104, 0, 5⟩
abbrev CMP_EVT_RING : Fld := ⟨0x16108, 0, 6⟩
abbrev CMP_LANE_STATUS_BUSY : Fld := ⟨0x1610C, 0, 4⟩
abbrev CMP_LANE_STATUS_CAPTURE : Fld := ⟨0x1610C, 4, 4⟩
abbrev CMP_LANE_STATUS_CAPTURE_HELD : Fld := ⟨0x1610C, 8, 1⟩
abbrev CMP_CTX_SUSP_LO_MAP : Fld := ⟨0x16110, 0, 32⟩
abbrev CMP_CTX_SUSP_HI_MAP : Fld := ⟨0x16114, 0, 32⟩
abbrev CMP_CTX_DROP_CTX : Fld := ⟨0x16118, 0, 6⟩
abbrev CMP_INFLATES_COUNT : Fld := ⟨0x1611C, 0, 32⟩
abbrev CMP_FAULTS_COUNT : Fld := ⟨0x16120, 0, 32⟩
abbrev CMP_OUTPUT_FULLS_COUNT : Fld := ⟨0x16124, 0, 32⟩
abbrev CMP_AUTH_FAILS_COUNT : Fld := ⟨0x16128, 0, 32⟩
abbrev CMP_CTX_REFUSED_COUNT : Fld := ⟨0x1612C, 0, 32⟩
abbrev CMP_CTX_DISCARDED_COUNT : Fld := ⟨0x16130, 0, 32⟩
abbrev CMP_CAPTURES_COUNT : Fld := ⟨0x16134, 0, 32⟩
abbrev CMP_OUT_LO_COUNT : Fld := ⟨0x16138, 0, 32⟩
abbrev CMP_OUT_HI_COUNT : Fld := ⟨0x1613C, 0, 32⟩
/-! Fields of JCTX. -/
abbrev JCTX_STATE_STATE (i : Nat) : Fld := ⟨0x190000 + 0x40 * i, 0, 2⟩
abbrev JCTX_STATE_SEALED (i : Nat) : Fld := ⟨0x190000 + 0x40 * i, 2, 1⟩
abbrev JCTX_STATE_FINAL (i : Nat) : Fld := ⟨0x190000 + 0x40 * i, 3, 1⟩
abbrev JCTX_STATE_BLOCK_TYPE (i : Nat) : Fld := ⟨0x190000 + 0x40 * i, 4, 2⟩
abbrev JCTX_STATE_REM_KIND (i : Nat) : Fld := ⟨0x190000 + 0x40 * i, 6, 2⟩
abbrev JCTX_STATE_KEY_SLOT (i : Nat) : Fld := ⟨0x190000 + 0x40 * i, 8, 4⟩
abbrev JCTX_STATE_QUEUE (i : Nat) : Fld := ⟨0x190000 + 0x40 * i, 16, 13⟩
abbrev JCTX_INDEX_INDEX (i : Nat) : Fld := ⟨0x190004 + 0x40 * i, 0, 16⟩
abbrev JCTX_IN_BIT_IN_BIT (i : Nat) : Fld := ⟨0x190008 + 0x40 * i, 0, 32⟩
abbrev JCTX_OUT_TOTAL_COUNT (i : Nat) : Fld := ⟨0x19000C + 0x40 * i, 0, 32⟩
abbrev JCTX_REM_REM (i : Nat) : Fld := ⟨0x190010 + 0x40 * i, 0, 17⟩
abbrev JCTX_DIST_DIST (i : Nat) : Fld := ⟨0x190014 + 0x40 * i, 0, 17⟩
abbrev JCTX_SRC_LO_SRC (i : Nat) : Fld := ⟨0x190018 + 0x40 * i, 0, 32⟩
abbrev JCTX_SRC_HI_SRC (i : Nat) : Fld := ⟨0x19001C + 0x40 * i, 0, 32⟩
abbrev JCTX_LENGTH_LENGTH (i : Nat) : Fld := ⟨0x190020 + 0x40 * i, 0, 32⟩
abbrev JCTX_BLOCK_OUT_COUNT (i : Nat) : Fld := ⟨0x190024 + 0x40 * i, 0, 17⟩
abbrev JCTX_CRC_CRC (i : Nat) : Fld := ⟨0x190028 + 0x40 * i, 0, 32⟩
/-! Fields of UNI. -/
abbrev UNI_STATUS_BANK (h : Half) : Fld := ⟨0x24100 + halfOff h, 0, 1⟩
abbrev UNI_STATUS_ACTIVE (h : Half) : Fld := ⟨0x24100 + halfOff h, 1, 1⟩
abbrev UNI_STATUS_GEOM_OK (h : Half) : Fld := ⟨0x24100 + halfOff h, 2, 1⟩
abbrev UNI_LATE_WORDS_COUNT (h : Half) : Fld := ⟨0x24104 + halfOff h, 0, 32⟩
abbrev UNI_LATE_LAST_LINE (h : Half) : Fld := ⟨0x24108 + halfOff h, 0, 14⟩
abbrev UNI_LATE_FRAME_FRAME (h : Half) : Fld := ⟨0x2410C + halfOff h, 0, 32⟩
abbrev UNI_CTRL_UNI_EN : Fld := ⟨0x24120, 0, 1⟩
abbrev UNI_CTRL_MODE : Fld := ⟨0x24120, 1, 1⟩
abbrev UNI_CTRL_ACTIVE_BANK : Fld := ⟨0x24120, 2, 1⟩
abbrev UNI_MAP_CRC_CRC : Fld := ⟨0x24124, 0, 32⟩
abbrev UNI_PLANE_A_P0 : Fld := ⟨0x24128, 0, 14⟩
abbrev UNI_PLANE_A_P1 : Fld := ⟨0x24128, 16, 14⟩
abbrev UNI_PLANE_B_P2 : Fld := ⟨0x2412C, 0, 14⟩
abbrev UNI_PLANE_B_P3 : Fld := ⟨0x2412C, 16, 14⟩
abbrev UNI_PLANE_C_P4 : Fld := ⟨0x24130, 0, 14⟩
abbrev UNI_WEIGHT_R_W : Fld := ⟨0x24134, 0, 32⟩
abbrev UNI_WEIGHT_G_W : Fld := ⟨0x24138, 0, 32⟩
abbrev UNI_WEIGHT_B_W : Fld := ⟨0x2413C, 0, 32⟩
abbrev UNI_WEIGHT_4_W : Fld := ⟨0x24140, 0, 24⟩
abbrev UNI_STAGE_CMD_SEAL : Fld := ⟨0x24144, 0, 1⟩
abbrev UNI_STAGE_CMD_MODE : Fld := ⟨0x24144, 1, 1⟩
abbrev UNI_STAGE_STATUS_SEALED : Fld := ⟨0x24148, 0, 2⟩
abbrev UNI_STAGE_STATUS_BUSY : Fld := ⟨0x24148, 4, 1⟩
abbrev UNI_BANK0_CRC_CRC : Fld := ⟨0x2414C, 0, 32⟩
abbrev UNI_BANK1_CRC_CRC : Fld := ⟨0x24150, 0, 32⟩
abbrev UNI_BANK0_GEOM_BW : Fld := ⟨0x24154, 0, 12⟩
abbrev UNI_BANK0_GEOM_BH : Fld := ⟨0x24154, 16, 13⟩
abbrev UNI_BANK0_GEOM_MODE : Fld := ⟨0x24154, 31, 1⟩
abbrev UNI_BANK1_GEOM_BW : Fld := ⟨0x24158, 0, 12⟩
abbrev UNI_BANK1_GEOM_BH : Fld := ⟨0x24158, 16, 13⟩
abbrev UNI_BANK1_GEOM_MODE : Fld := ⟨0x24158, 31, 1⟩
abbrev UNI_BASE_FRAME_BANK0 : Fld := ⟨0x2415C, 0, 12⟩
abbrev UNI_BASE_FRAME_BANK1 : Fld := ⟨0x2415C, 16, 12⟩
abbrev UNI_EVT_RING : Fld := ⟨0x24160, 0, 6⟩
/-! Fields of AGE. -/
abbrev AGE_CTRL_SAMPLE_EN : Fld := ⟨0x40100, 0, 1⟩
abbrev AGE_CTRL_COMP_EN : Fld := ⟨0x40100, 1, 1⟩
abbrev AGE_CTRL_TEMP_SRC : Fld := ⟨0x40100, 2, 2⟩
abbrev AGE_INTERVAL_FRAMES : Fld := ⟨0x40104, 0, 7⟩
abbrev AGE_CURVE_SHIFT : Fld := ⟨0x40108, 0, 5⟩
abbrev AGE_TEMP_PTS_LO_PT : Fld := ⟨0x4010C, 0, 32⟩
abbrev AGE_TEMP_PTS_HI_PT : Fld := ⟨0x40110, 0, 32⟩
abbrev AGE_TEMP_CFG_FALLBACK_PT : Fld := ⟨0x40114, 0, 3⟩
abbrev AGE_CKPT_CFG_HOURS : Fld := ⟨0x40118, 0, 8⟩
abbrev AGE_CKPT_CFG_BASE_EVERY : Fld := ⟨0x40118, 8, 4⟩
abbrev AGE_CKPT_CMD_GO : Fld := ⟨0x4011C, 0, 1⟩
abbrev AGE_STATUS_READY : Fld := ⟨0x40120, 0, 1⟩
abbrev AGE_STATUS_RESTORE : Fld := ⟨0x40120, 1, 2⟩
abbrev AGE_STATUS_CKPT_BUSY : Fld := ⟨0x40120, 4, 1⟩
abbrev AGE_SAMPLES_COUNT : Fld := ⟨0x40124, 0, 32⟩
abbrev AGE_LAST_SAMPLE_FRAME : Fld := ⟨0x40128, 0, 32⟩
abbrev AGE_ACC_BASE_LIVE : Fld := ⟨0x4012C, 0, 12⟩
abbrev AGE_ACC_BASE_SHADOW : Fld := ⟨0x4012C, 16, 12⟩
abbrev AGE_SATURATED_COUNT : Fld := ⟨0x40130, 0, 32⟩
abbrev AGE_LATE_WORDS_COUNT : Fld := ⟨0x40134, 0, 32⟩
abbrev AGE_SKIPPED_COUNT : Fld := ⟨0x40138, 0, 32⟩
abbrev AGE_CKPT_SEQ_SEQ : Fld := ⟨0x4013C, 0, 32⟩
abbrev AGE_CKPT_COUNT_COUNT : Fld := ⟨0x40140, 0, 32⟩
abbrev AGE_EVT_RING : Fld := ⟨0x40144, 0, 6⟩
abbrev AGE_TEMP_K01_LO : Fld := ⟨0x40150, 0, 16⟩
abbrev AGE_TEMP_K01_HI : Fld := ⟨0x40150, 16, 16⟩
abbrev AGE_TEMP_K23_LO : Fld := ⟨0x40154, 0, 16⟩
abbrev AGE_TEMP_K23_HI : Fld := ⟨0x40154, 16, 16⟩
abbrev AGE_TEMP_K45_LO : Fld := ⟨0x40158, 0, 16⟩
abbrev AGE_TEMP_K45_HI : Fld := ⟨0x40158, 16, 16⟩
abbrev AGE_TEMP_K67_LO : Fld := ⟨0x4015C, 0, 16⟩
abbrev AGE_TEMP_K67_HI : Fld := ⟨0x4015C, 16, 16⟩
abbrev AGE_LW_0_LO (i : Nat) : Fld := ⟨0x40180 + 0x24 * i, 0, 16⟩
abbrev AGE_LW_0_HI (i : Nat) : Fld := ⟨0x40180 + 0x24 * i, 16, 16⟩
abbrev AGE_LW_1_LO (i : Nat) : Fld := ⟨0x40184 + 0x24 * i, 0, 16⟩
abbrev AGE_LW_1_HI (i : Nat) : Fld := ⟨0x40184 + 0x24 * i, 16, 16⟩
abbrev AGE_LW_2_LO (i : Nat) : Fld := ⟨0x40188 + 0x24 * i, 0, 16⟩
abbrev AGE_LW_2_HI (i : Nat) : Fld := ⟨0x40188 + 0x24 * i, 16, 16⟩
abbrev AGE_LW_3_LO (i : Nat) : Fld := ⟨0x4018C + 0x24 * i, 0, 16⟩
abbrev AGE_LW_3_HI (i : Nat) : Fld := ⟨0x4018C + 0x24 * i, 16, 16⟩
abbrev AGE_LW_4_LO (i : Nat) : Fld := ⟨0x40190 + 0x24 * i, 0, 16⟩
abbrev AGE_LW_4_HI (i : Nat) : Fld := ⟨0x40190 + 0x24 * i, 16, 16⟩
abbrev AGE_LW_5_LO (i : Nat) : Fld := ⟨0x40194 + 0x24 * i, 0, 16⟩
abbrev AGE_LW_5_HI (i : Nat) : Fld := ⟨0x40194 + 0x24 * i, 16, 16⟩
abbrev AGE_LW_6_LO (i : Nat) : Fld := ⟨0x40198 + 0x24 * i, 0, 16⟩
abbrev AGE_LW_6_HI (i : Nat) : Fld := ⟨0x40198 + 0x24 * i, 16, 16⟩
abbrev AGE_LW_7_LO (i : Nat) : Fld := ⟨0x4019C + 0x24 * i, 0, 16⟩
abbrev AGE_LW_7_HI (i : Nat) : Fld := ⟨0x4019C + 0x24 * i, 16, 16⟩
abbrev AGE_LW_8_LO (i : Nat) : Fld := ⟨0x401A0 + 0x24 * i, 0, 16⟩
abbrev AGE_G_LO (i : Nat) : Fld := ⟨0x40200 + 0x4 * i, 0, 16⟩
abbrev AGE_G_HI (i : Nat) : Fld := ⟨0x40200 + 0x4 * i, 16, 16⟩
/-! Fields of DITH. -/
abbrev DITH_STATUS_PHASE (h : Half) : Fld := ⟨0x25100 + halfOff h, 0, 2⟩
abbrev DITH_CTRL_EN : Fld := ⟨0x25120, 0, 1⟩
abbrev DITH_CTRL_TEMPORAL : Fld := ⟨0x25120, 1, 1⟩
abbrev DITH_CTRL_DEPTH : Fld := ⟨0x25120, 2, 1⟩
/-! Fields of LINK. -/
abbrev LINK_CTRL_RATE : Fld := ⟨0x41100, 0, 2⟩
abbrev LINK_CTRL_DEPTH : Fld := ⟨0x41100, 2, 1⟩
abbrev LINK_CTRL_HALT : Fld := ⟨0x41100, 3, 1⟩
abbrev LINK_LINE_CFG_START : Fld := ⟨0x41104, 0, 14⟩
abbrev LINK_LINE_CFG_LOAD_POS : Fld := ⟨0x41104, 16, 14⟩
abbrev LINK_RESEND_MAX : Fld := ⟨0x41108, 0, 4⟩
abbrev LINK_TRAIN_CMD_GO : Fld := ⟨0x4110C, 0, 1⟩
abbrev LINK_TRAIN_CMD_STOP : Fld := ⟨0x4110C, 1, 1⟩
abbrev LINK_TRAIN_CFG_TEST_LINES : Fld := ⟨0x41110, 0, 8⟩
abbrev LINK_TRAIN_CFG_TEST_NACK_MAX : Fld := ⟨0x41110, 8, 4⟩
abbrev LINK_ERR_CFG_STUCK_LINES : Fld := ⟨0x41114, 0, 8⟩
abbrev LINK_ERR_CFG_UNREC_LIMIT : Fld := ⟨0x41114, 8, 16⟩
abbrev LINK_STATUS_TRAINING : Fld := ⟨0x41118, 0, 1⟩
abbrev LINK_STATUS_COVER_OK : Fld := ⟨0x41118, 1, 1⟩
abbrev LINK_STATUS_SRC_MODE : Fld := ⟨0x41118, 2, 2⟩
abbrev LINK_LANE_RUN_LO_MAP : Fld := ⟨0x4111C, 0, 32⟩
abbrev LINK_LANE_RUN_HI_MAP : Fld := ⟨0x41120, 0, 16⟩
abbrev LINK_UNRECOVERED_COUNT : Fld := ⟨0x41124, 0, 32⟩
abbrev LINK_RESENDS_COUNT : Fld := ⟨0x41128, 0, 32⟩
abbrev LINK_LATE_BLOCKS_COUNT : Fld := ⟨0x4112C, 0, 32⟩
abbrev LINK_CTL_CMD_MODE : Fld := ⟨0x41130, 0, 2⟩
abbrev LINK_CTL_CMD_GO : Fld := ⟨0x41130, 31, 1⟩
abbrev LINK_EVT_RING : Fld := ⟨0x41134, 0, 6⟩
abbrev LINK_LANE_CFG_EN (i : Nat) : Fld := ⟨0x41200 + 0x10 * i, 0, 1⟩
abbrev LINK_LANE_CFG_PAIR (i : Nat) : Fld := ⟨0x41200 + 0x10 * i, 1, 1⟩
abbrev LINK_LANE_CFG_FIRST_COL (i : Nat) : Fld := ⟨0x41200 + 0x10 * i, 2, 13⟩
abbrev LINK_LANE_CFG_BLOCKS (i : Nat) : Fld := ⟨0x41200 + 0x10 * i, 16, 6⟩
abbrev LINK_LANE_STATE_STATE (i : Nat) : Fld := ⟨0x41204 + 0x10 * i, 0, 2⟩
abbrev LINK_LANE_STATE_NACK_MASKED (i : Nat) : Fld := ⟨0x41204 + 0x10 * i, 2, 1⟩
abbrev LINK_LANE_STATE_NACK_PIN (i : Nat) : Fld := ⟨0x41204 + 0x10 * i, 3, 1⟩
abbrev LINK_LANE_STATE_CAUSE (i : Nat) : Fld := ⟨0x41204 + 0x10 * i, 4, 4⟩
abbrev LINK_LANE_RESENDS_COUNT (i : Nat) : Fld := ⟨0x41208 + 0x10 * i, 0, 32⟩
abbrev LINK_LANE_UNREC_COUNT (i : Nat) : Fld := ⟨0x4120C + 0x10 * i, 0, 32⟩
/-! Fields of GATE. -/
abbrev GATE_CTRL_SIDES : Fld := ⟨0x42100, 0, 2⟩
abbrev GATE_CTRL_MIRROR : Fld := ⟨0x42100, 2, 1⟩
abbrev GATE_CTRL_FORCE : Fld := ⟨0x42100, 4, 2⟩
abbrev GATE_ORIGIN_CYCLES : Fld := ⟨0x42104, 0, 15⟩
abbrev GATE_PERIOD_LINES : Fld := ⟨0x42108, 0, 7⟩
abbrev GATE_VWIN_FIRST : Fld := ⟨0x4210C, 0, 8⟩
abbrev GATE_VWIN_LAST : Fld := ⟨0x4210C, 16, 14⟩
abbrev GATE_CLK_EN_LEFT : Fld := ⟨0x42110, 0, 16⟩
abbrev GATE_CLK_EN_RIGHT : Fld := ⟨0x42110, 16, 16⟩
abbrev GATE_STATUS_GATE_LINE : Fld := ⟨0x42114, 0, 15⟩
abbrev GATE_STATUS_FORCED : Fld := ⟨0x42114, 16, 1⟩
abbrev GATE_GCK_RISE_LINE (i : Nat) : Fld := ⟨0x42200 + 0x8 * i, 0, 6⟩
abbrev GATE_GCK_RISE_CYCLE (i : Nat) : Fld := ⟨0x42200 + 0x8 * i, 16, 13⟩
abbrev GATE_GCK_FALL_LINE (i : Nat) : Fld := ⟨0x42204 + 0x8 * i, 0, 6⟩
abbrev GATE_GCK_FALL_CYCLE (i : Nat) : Fld := ⟨0x42204 + 0x8 * i, 16, 13⟩
abbrev GATE_STV_RISE_LINE (i : Nat) : Fld := ⟨0x42300 + 0x8 * i, 0, 7⟩
abbrev GATE_STV_RISE_CYCLE (i : Nat) : Fld := ⟨0x42300 + 0x8 * i, 16, 13⟩
abbrev GATE_STV_FALL_LINE (i : Nat) : Fld := ⟨0x42304 + 0x8 * i, 0, 7⟩
abbrev GATE_STV_FALL_CYCLE (i : Nat) : Fld := ⟨0x42304 + 0x8 * i, 16, 13⟩
abbrev GATE_GRST_RISE_LINE (i : Nat) : Fld := ⟨0x42320 + 0x8 * i, 0, 6⟩
abbrev GATE_GRST_RISE_CYCLE (i : Nat) : Fld := ⟨0x42320 + 0x8 * i, 16, 13⟩
abbrev GATE_GRST_FALL_LINE (i : Nat) : Fld := ⟨0x42324 + 0x8 * i, 0, 6⟩
abbrev GATE_GRST_FALL_CYCLE (i : Nat) : Fld := ⟨0x42324 + 0x8 * i, 16, 13⟩
/-! Fields of HVD. -/
abbrev HVD_PANEL_CMD_OP : Fld := ⟨0x43100, 0, 2⟩
abbrev HVD_PANEL_STATUS_STATE : Fld := ⟨0x43104, 0, 3⟩
abbrev HVD_PANEL_STATUS_STEP : Fld := ⟨0x43104, 4, 3⟩
abbrev HVD_PANEL_STATUS_CAUSE : Fld := ⟨0x43104, 8, 4⟩
abbrev HVD_PANEL_STATUS_RESULT : Fld := ⟨0x43104, 12, 2⟩
abbrev HVD_PANEL_STATUS_PFW : Fld := ⟨0x43104, 16, 1⟩
abbrev HVD_PANEL_STATUS_OK : Fld := ⟨0x43104, 17, 3⟩
abbrev HVD_PANEL_STATUS_LOW : Fld := ⟨0x43104, 20, 3⟩
abbrev HVD_RAIL_AVDD_ADDR : Fld := ⟨0x43108, 0, 7⟩
abbrev HVD_RAIL_AVDD_PAGE : Fld := ⟨0x43108, 8, 8⟩
abbrev HVD_RAIL_AVDD_TH : Fld := ⟨0x43108, 16, 8⟩
abbrev HVD_RAIL_VGL_ADDR : Fld := ⟨0x4310C, 0, 7⟩
abbrev HVD_RAIL_VGL_PAGE : Fld := ⟨0x4310C, 8, 8⟩
abbrev HVD_RAIL_VGL_TH : Fld := ⟨0x4310C, 16, 8⟩
abbrev HVD_RAIL_VGH_ADDR : Fld := ⟨0x43110, 0, 7⟩
abbrev HVD_RAIL_VGH_PAGE : Fld := ⟨0x43110, 8, 8⟩
abbrev HVD_RAIL_VGH_TH : Fld := ⟨0x43110, 16, 8⟩
abbrev HVD_RAIL_REQ_TIMEOUT : Fld := ⟨0x43114, 0, 8⟩
abbrev HVD_RAIL_REQ_RETRIES : Fld := ⟨0x43114, 8, 3⟩
abbrev HVD_SEQ_UP_SETTLE : Fld := ⟨0x43118, 0, 8⟩
abbrev HVD_SEQ_UP_BL_FRAMES : Fld := ⟨0x43118, 8, 8⟩
abbrev HVD_SEQ_UP_BL_AUTO : Fld := ⟨0x43118, 16, 1⟩
abbrev HVD_SEQ_DOWN_VCOM_US : Fld := ⟨0x4311C, 0, 8⟩
abbrev HVD_SEQ_DOWN_GON : Fld := ⟨0x4311C, 8, 8⟩
abbrev HVD_SEQ_PFW_VCOM_US : Fld := ⟨0x43120, 0, 8⟩
abbrev HVD_SEQ_PFW_GON : Fld := ⟨0x43120, 8, 8⟩
abbrev HVD_SEQ_PFW_RAIL_US : Fld := ⟨0x43120, 16, 8⟩
abbrev HVD_SEQ_PFW_VGH_US : Fld := ⟨0x43120, 24, 8⟩
abbrev HVD_VCOM_VCOM0 : Fld := ⟨0x43124, 0, 10⟩
abbrev HVD_VCOM_VCOM1 : Fld := ⟨0x43124, 16, 10⟩
abbrev HVD_OUT_EN_GAMMA : Fld := ⟨0x43128, 0, 18⟩
abbrev HVD_OUT_EN_VCOM : Fld := ⟨0x43128, 24, 2⟩
abbrev HVD_BL_EN : Fld := ⟨0x4312C, 0, 1⟩
abbrev HVD_BL_SYNC : Fld := ⟨0x4312C, 1, 1⟩
abbrev HVD_BL_PERIOD_PERIOD : Fld := ⟨0x43130, 0, 16⟩
abbrev HVD_BL_DUTY_DUTY0 : Fld := ⟨0x43134, 0, 16⟩
abbrev HVD_BL_DUTY_DUTY1 : Fld := ⟨0x43134, 16, 16⟩
abbrev HVD_THERM_CFG_EN : Fld := ⟨0x43138, 0, 2⟩
abbrev HVD_THERM_CFG_SHORT_LIM : Fld := ⟨0x43138, 4, 12⟩
abbrev HVD_THERM_CFG_OPEN_LIM : Fld := ⟨0x43138, 16, 12⟩
abbrev HVD_THERM0_TEMP : Fld := ⟨0x4313C, 0, 12⟩
abbrev HVD_THERM0_CODE : Fld := ⟨0x4313C, 16, 12⟩
abbrev HVD_THERM0_VALID : Fld := ⟨0x4313C, 31, 1⟩
abbrev HVD_THERM1_TEMP : Fld := ⟨0x43140, 0, 12⟩
abbrev HVD_THERM1_CODE : Fld := ⟨0x43140, 16, 12⟩
abbrev HVD_THERM1_VALID : Fld := ⟨0x43140, 31, 1⟩
abbrev HVD_RAIL_FAILS_COUNT : Fld := ⟨0x43144, 0, 32⟩
abbrev HVD_PFW_COUNT_COUNT : Fld := ⟨0x43148, 0, 32⟩
abbrev HVD_DISCHARGES_COUNT : Fld := ⟨0x4314C, 0, 32⟩
abbrev HVD_EVT_RING : Fld := ⟨0x43150, 0, 6⟩
abbrev HVD_GAMMA_LO (i : Nat) : Fld := ⟨0x43200 + 0x4 * i, 0, 10⟩
abbrev HVD_GAMMA_HI (i : Nat) : Fld := ⟨0x43200 + 0x4 * i, 16, 10⟩
abbrev HVD_TLIN_0_LO (i : Nat) : Fld := ⟨0x43240 + 0x24 * i, 0, 16⟩
abbrev HVD_TLIN_0_HI (i : Nat) : Fld := ⟨0x43240 + 0x24 * i, 16, 16⟩
abbrev HVD_TLIN_1_LO (i : Nat) : Fld := ⟨0x43244 + 0x24 * i, 0, 16⟩
abbrev HVD_TLIN_1_HI (i : Nat) : Fld := ⟨0x43244 + 0x24 * i, 16, 16⟩
abbrev HVD_TLIN_2_LO (i : Nat) : Fld := ⟨0x43248 + 0x24 * i, 0, 16⟩
abbrev HVD_TLIN_2_HI (i : Nat) : Fld := ⟨0x43248 + 0x24 * i, 16, 16⟩
abbrev HVD_TLIN_3_LO (i : Nat) : Fld := ⟨0x4324C + 0x24 * i, 0, 16⟩
abbrev HVD_TLIN_3_HI (i : Nat) : Fld := ⟨0x4324C + 0x24 * i, 16, 16⟩
abbrev HVD_TLIN_4_LO (i : Nat) : Fld := ⟨0x43250 + 0x24 * i, 0, 16⟩
abbrev HVD_TLIN_4_HI (i : Nat) : Fld := ⟨0x43250 + 0x24 * i, 16, 16⟩
abbrev HVD_TLIN_5_LO (i : Nat) : Fld := ⟨0x43254 + 0x24 * i, 0, 16⟩
abbrev HVD_TLIN_5_HI (i : Nat) : Fld := ⟨0x43254 + 0x24 * i, 16, 16⟩
abbrev HVD_TLIN_6_LO (i : Nat) : Fld := ⟨0x43258 + 0x24 * i, 0, 16⟩
abbrev HVD_TLIN_6_HI (i : Nat) : Fld := ⟨0x43258 + 0x24 * i, 16, 16⟩
abbrev HVD_TLIN_7_LO (i : Nat) : Fld := ⟨0x4325C + 0x24 * i, 0, 16⟩
abbrev HVD_TLIN_7_HI (i : Nat) : Fld := ⟨0x4325C + 0x24 * i, 16, 16⟩
abbrev HVD_TLIN_8_LO (i : Nat) : Fld := ⟨0x43260 + 0x24 * i, 0, 16⟩
/-! Fields of ASSAY. -/
abbrev ASSAY_HALF_CRC_CRC (h : Half) : Fld := ⟨0x26100 + halfOff h, 0, 32⟩
abbrev ASSAY_HALF_FRAME_FRAME (h : Half) : Fld := ⟨0x26104 + halfOff h, 0, 32⟩
abbrev ASSAY_CTRL_FRAME_CHECK : Fld := ⟨0x26120, 0, 1⟩
abbrev ASSAY_CTRL_EVT_MODE : Fld := ⟨0x26120, 1, 1⟩
abbrev ASSAY_FRAME_EXPECT_CRC : Fld := ⟨0x26124, 0, 32⟩
abbrev ASSAY_FRAME_CRC_CRC : Fld := ⟨0x26128, 0, 32⟩
abbrev ASSAY_RESULT_FRAME_FRAME : Fld := ⟨0x2612C, 0, 32⟩
abbrev ASSAY_STATUS_FRAME_FAIL : Fld := ⟨0x26130, 0, 1⟩
abbrev ASSAY_STATUS_FRAME_PROT : Fld := ⟨0x26130, 1, 1⟩
abbrev ASSAY_STATUS_COUNT : Fld := ⟨0x26130, 8, 7⟩
abbrev ASSAY_MISMATCH_LO_MAP : Fld := ⟨0x26134, 0, 32⟩
abbrev ASSAY_MISMATCH_HI_MAP : Fld := ⟨0x26138, 0, 32⟩
abbrev ASSAY_PROT_LO_MAP : Fld := ⟨0x2613C, 0, 32⟩
abbrev ASSAY_PROT_HI_MAP : Fld := ⟨0x26140, 0, 32⟩
abbrev ASSAY_MISMATCH_FRAMES_COUNT : Fld := ⟨0x26144, 0, 32⟩
abbrev ASSAY_EVT_RING : Fld := ⟨0x26148, 0, 6⟩
abbrev ASSAY_RECT_POS_X (i : Nat) : Fld := ⟨0x26200 + 0x10 * i, 0, 16⟩
abbrev ASSAY_RECT_POS_Y (i : Nat) : Fld := ⟨0x26200 + 0x10 * i, 16, 16⟩
abbrev ASSAY_RECT_SIZE_W (i : Nat) : Fld := ⟨0x26204 + 0x10 * i, 0, 16⟩
abbrev ASSAY_RECT_SIZE_H (i : Nat) : Fld := ⟨0x26204 + 0x10 * i, 16, 16⟩
abbrev ASSAY_RECT_EXPECT_CRC (i : Nat) : Fld := ⟨0x26208 + 0x10 * i, 0, 32⟩
abbrev ASSAY_RECT_CTRL_EN (i : Nat) : Fld := ⟨0x2620C + 0x10 * i, 0, 1⟩
abbrev ASSAY_RECT_CTRL_CHECK (i : Nat) : Fld := ⟨0x2620C + 0x10 * i, 1, 1⟩
abbrev ASSAY_RECT_RESULT_CRC (i : Nat) : Fld := ⟨0x26600 + 0x4 * i, 0, 32⟩
/-! Fields of SEAL. -/
abbrev SEAL_KEY_DATAn_KEY (i : Nat) : Fld := ⟨0x17100 + 0x4 * i, 0, 32⟩
abbrev SEAL_KEY_CMD_SLOT : Fld := ⟨0x17120, 0, 4⟩
abbrev SEAL_KEY_CMD_OP : Fld := ⟨0x17120, 8, 2⟩
abbrev SEAL_KEY_RESULT_RESULT : Fld := ⟨0x17124, 0, 3⟩
abbrev SEAL_KEY_STATE_STATE : Fld := ⟨0x17128, 0, 32⟩
abbrev SEAL_POLICY_ASSAY_HIDE : Fld := ⟨0x1712C, 0, 1⟩
abbrev SEAL_CAPT_REDACTED_COUNT : Fld := ⟨0x17130, 0, 32⟩
abbrev SEAL_EVT_RING : Fld := ⟨0x17134, 0, 6⟩
abbrev SEAL_KCVn_KCV (i : Nat) : Fld := ⟨0x17140 + 0x4 * i, 0, 24⟩
/-! Fields of LABEL. -/
abbrev LABEL_CTRL_EN : Fld := ⟨0x44100, 0, 1⟩
abbrev LABEL_CTRL_DIV : Fld := ⟨0x44100, 1, 2⟩
abbrev LABEL_CTRL_TEMP_SRC : Fld := ⟨0x44100, 4, 2⟩
abbrev LABEL_CTRL_CLEAR_ROW : Fld := ⟨0x44100, 8, 4⟩
abbrev LABEL_PHASE_RATE : Fld := ⟨0x44104, 0, 7⟩
abbrev LABEL_TEMP_MAN_TEMP : Fld := ⟨0x44108, 0, 8⟩
abbrev LABEL_TEMP_BNDn_PT (i : Nat) : Fld := ⟨0x4410C + 0x4 * i, 0, 32⟩
abbrev LABEL_PWR_TIMEOUT : Fld := ⟨0x4411C, 0, 8⟩
abbrev LABEL_PWR_HOLD : Fld := ⟨0x4411C, 8, 16⟩
abbrev LABEL_STATUS_SCANNING : Fld := ⟨0x44120, 0, 1⟩
abbrev LABEL_STATUS_PWREN : Fld := ⟨0x44120, 1, 1⟩
abbrev LABEL_STATUS_PWRGOOD : Fld := ⟨0x44120, 2, 1⟩
abbrev LABEL_STATUS_STOPPED : Fld := ⟨0x44120, 3, 1⟩
abbrev LABEL_STATUS_RUNNING : Fld := ⟨0x44120, 4, 9⟩
abbrev LABEL_STATUS_PENDING : Fld := ⟨0x44120, 16, 10⟩
abbrev LABEL_WF_STATUS_LOADED : Fld := ⟨0x44124, 0, 1⟩
abbrev LABEL_WF_STATUS_MODES : Fld := ⟨0x44124, 1, 6⟩
abbrev LABEL_WF_VER_VER : Fld := ⟨0x44128, 0, 32⟩
abbrev LABEL_JOURNAL_FREE_COUNT : Fld := ⟨0x4412C, 0, 11⟩
abbrev LABEL_INTR_TOTAL_COUNT : Fld := ⟨0x44130, 0, 11⟩
abbrev LABEL_UPDATES_COUNT : Fld := ⟨0x44134, 0, 32⟩
abbrev LABEL_INTERRUPTED_COUNT : Fld := ⟨0x44138, 0, 32⟩
abbrev LABEL_PWR_FAILS_COUNT : Fld := ⟨0x4413C, 0, 32⟩
abbrev LABEL_EVT_RING : Fld := ⟨0x44140, 0, 6⟩
abbrev LABEL_LAST_REFUSE_REASON : Fld := ⟨0x44144, 0, 4⟩
abbrev LABEL_LAST_REFUSE_PANEL : Fld := ⟨0x44144, 4, 3⟩
abbrev LABEL_LAST_REFUSE_QUEUE : Fld := ⟨0x44144, 16, 13⟩
abbrev LABEL_PANEL_GEOM_WIDTH (i : Nat) : Fld := ⟨0x44200 + 0x10 * i, 0, 11⟩
abbrev LABEL_PANEL_GEOM_HEIGHT (i : Nat) : Fld := ⟨0x44200 + 0x10 * i, 16, 11⟩
abbrev LABEL_PANEL_GEOM_EN (i : Nat) : Fld := ⟨0x44200 + 0x10 * i, 31, 1⟩
abbrev LABEL_PANEL_STATE_RUNNING (i : Nat) : Fld := ⟨0x44204 + 0x10 * i, 0, 6⟩
abbrev LABEL_PANEL_STATE_PENDING (i : Nat) : Fld := ⟨0x44204 + 0x10 * i, 8, 7⟩
abbrev LABEL_PANEL_STATE_INTR (i : Nat) : Fld := ⟨0x44204 + 0x10 * i, 16, 10⟩
abbrev LABEL_PANEL_DONE_COUNT (i : Nat) : Fld := ⟨0x44208 + 0x10 * i, 0, 32⟩
abbrev LABEL_PANEL_REFUSED_COUNT (i : Nat) : Fld := ⟨0x4420C + 0x10 * i, 0, 32⟩
abbrev LABEL_WF_LEN_LO (i : Nat) : Fld := ⟨0x44300 + 0x4 * i, 0, 9⟩
abbrev LABEL_WF_LEN_HI (i : Nat) : Fld := ⟨0x44300 + 0x4 * i, 16, 9⟩
/-! Fields of PWR. -/
abbrev PWR_REQ_MASK : Fld := ⟨0x1100, 0, 11⟩
abbrev PWR_REQ_TARGET : Fld := ⟨0x1100, 16, 2⟩
abbrev PWR_REQ_FORCE : Fld := ⟨0x1100, 20, 1⟩
abbrev PWR_REQ_GO : Fld := ⟨0x1100, 31, 1⟩
abbrev PWR_REQ_STATUS_BUSY : Fld := ⟨0x1104, 0, 1⟩
abbrev PWR_REQ_STATUS_PHASE : Fld := ⟨0x1104, 1, 3⟩
abbrev PWR_REQ_STATUS_RESULT : Fld := ⟨0x1104, 8, 4⟩
abbrev PWR_REQ_STATUS_DONE_MASK : Fld := ⟨0x1104, 16, 11⟩
abbrev PWR_STATE_STATE : Fld := ⟨0x1108, 0, 22⟩
abbrev PWR_WAKE_FLAG_RET : Fld := ⟨0x110C, 0, 11⟩
abbrev PWR_OFF_FLAG_OFF : Fld := ⟨0x1110, 0, 11⟩
abbrev PWR_LAST_REFUSER_PAGE : Fld := ⟨0x1114, 0, 8⟩
abbrev PWR_LAST_REASON_REASON : Fld := ⟨0x1118, 0, 5⟩
abbrev PWR_LAST_REASON_DOMAIN : Fld := ⟨0x1118, 8, 4⟩
abbrev PWR_PAD_HELD_MASK : Fld := ⟨0x111C, 0, 11⟩
abbrev PWR_PAD_RELEASE_MASK : Fld := ⟨0x1120, 0, 11⟩
abbrev PWR_WAKE_FAIL_LAST_DOMAIN : Fld := ⟨0x1124, 0, 4⟩
abbrev PWR_WAKE_FAIL_LAST_CAUSE : Fld := ⟨0x1124, 4, 3⟩
abbrev PWR_WAKE_FAILS_COUNT : Fld := ⟨0x1128, 0, 32⟩
abbrev PWR_COMP_RET_HALVES : Fld := ⟨0x112C, 0, 2⟩
abbrev PWR_CFG_QUIESCE : Fld := ⟨0x1130, 0, 8⟩
abbrev PWR_PERST_CFG_AUTO_OFF : Fld := ⟨0x1134, 0, 1⟩
abbrev PWR_WAKE_PENDING_SOURCES : Fld := ⟨0x1138, 0, 10⟩
abbrev PWR_TIMER_MS : Fld := ⟨0x113C, 0, 32⟩
abbrev PWR_WAKE_SRC_MASK (i : Nat) : Fld := ⟨0x1140 + 0x4 * i, 0, 11⟩
abbrev PWR_WAKE_SRC_EN (i : Nat) : Fld := ⟨0x1140 + 0x4 * i, 16, 1⟩
abbrev PWR_WAKE_SRC_MODE (i : Nat) : Fld := ⟨0x1140 + 0x4 * i, 17, 1⟩
abbrev PWR_WAKE_SRC_POLARITY (i : Nat) : Fld := ⟨0x1140 + 0x4 * i, 18, 1⟩
abbrev PWR_LAST_WAKE_SOURCE : Fld := ⟨0x1168, 0, 4⟩
abbrev PWR_LAST_WAKE_MASK : Fld := ⟨0x1168, 16, 11⟩
abbrev PWR_ENTRIES_COUNT : Fld := ⟨0x116C, 0, 32⟩
abbrev PWR_EVT_RING : Fld := ⟨0x1170, 0, 6⟩
abbrev PWR_FREQ_MASK : Fld := ⟨0x1180, 0, 11⟩
abbrev PWR_FREQ_TARGET : Fld := ⟨0x1180, 16, 2⟩
abbrev PWR_FREQ_FORCE : Fld := ⟨0x1180, 20, 1⟩
abbrev PWR_FREQ_GO : Fld := ⟨0x1180, 31, 1⟩
abbrev PWR_FREQ_STATUS_BUSY : Fld := ⟨0x1184, 0, 1⟩
abbrev PWR_FREQ_STATUS_PHASE : Fld := ⟨0x1184, 1, 3⟩
abbrev PWR_FREQ_STATUS_RESULT : Fld := ⟨0x1184, 8, 4⟩
abbrev PWR_FREQ_STATUS_DONE_MASK : Fld := ⟨0x1184, 16, 11⟩
/-! Fields of CLK. -/
abbrev CLK_STATUS_XTAL_OK : Fld := ⟨0x2100, 0, 1⟩
abbrev CLK_STATUS_ON_RC : Fld := ⟨0x2100, 1, 1⟩
abbrev CLK_STATUS_ROOT_LOCK : Fld := ⟨0x2100, 2, 1⟩
abbrev CLK_STATUS_ROOT_REF : Fld := ⟨0x2100, 3, 1⟩
abbrev CLK_CTRL_XTAL_SLEEP : Fld := ⟨0x2104, 0, 1⟩
abbrev CLK_XTAL_START_MS : Fld := ⟨0x2108, 0, 8⟩
abbrev CLK_XTAL_LOSSES_COUNT : Fld := ⟨0x210C, 0, 32⟩
abbrev CLK_DOMAIN_CLK_MASK : Fld := ⟨0x2110, 0, 11⟩
/-! Fields of RGL. -/
abbrev RGL_REQ_CFG_TIMEOUT : Fld := ⟨0x3100, 0, 8⟩
abbrev RGL_REQ_CFG_RETRIES : Fld := ⟨0x3100, 8, 3⟩
abbrev RGL_AVS_CTRL_MODE : Fld := ⟨0x3104, 0, 1⟩
abbrev RGL_AVS_SET_MV : Fld := ⟨0x3108, 0, 10⟩
abbrev RGL_AVS_LIMITS_MIN : Fld := ⟨0x310C, 0, 10⟩
abbrev RGL_AVS_LIMITS_MAX : Fld := ⟨0x310C, 16, 10⟩
abbrev RGL_AVS_NOW_MV : Fld := ⟨0x3110, 0, 10⟩
abbrev RGL_AVS_NOW_FAIL : Fld := ⟨0x3110, 16, 1⟩
abbrev RGL_ALERTS_COUNT : Fld := ⟨0x3114, 0, 32⟩
abbrev RGL_FAILS_COUNT : Fld := ⟨0x3118, 0, 32⟩
abbrev RGL_LAST_FAIL_ADDR : Fld := ⟨0x311C, 0, 7⟩
abbrev RGL_LAST_FAIL_PAGE : Fld := ⟨0x311C, 8, 8⟩
abbrev RGL_LAST_FAIL_CAUSE : Fld := ⟨0x311C, 16, 4⟩
abbrev RGL_BIND_0_ADDR (i : Nat) : Fld := ⟨0x3210 + 0x10 * i, 0, 7⟩
abbrev RGL_BIND_0_PAGE (i : Nat) : Fld := ⟨0x3210 + 0x10 * i, 8, 8⟩
abbrev RGL_BIND_0_EN (i : Nat) : Fld := ⟨0x3210 + 0x10 * i, 31, 1⟩
abbrev RGL_BIND_1_ADDR (i : Nat) : Fld := ⟨0x3214 + 0x10 * i, 0, 7⟩
abbrev RGL_BIND_1_PAGE (i : Nat) : Fld := ⟨0x3214 + 0x10 * i, 8, 8⟩
abbrev RGL_BIND_1_EN (i : Nat) : Fld := ⟨0x3214 + 0x10 * i, 31, 1⟩
abbrev RGL_BIND_2_ADDR (i : Nat) : Fld := ⟨0x3218 + 0x10 * i, 0, 7⟩
abbrev RGL_BIND_2_PAGE (i : Nat) : Fld := ⟨0x3218 + 0x10 * i, 8, 8⟩
abbrev RGL_BIND_2_EN (i : Nat) : Fld := ⟨0x3218 + 0x10 * i, 31, 1⟩
/-! Fields of SRAMC. -/
abbrev SRAMC_SP_CFG_MODE : Fld := ⟨0x9100, 0, 1⟩
abbrev SRAMC_SP_CFG_HOST_WR : Fld := ⟨0x9100, 1, 1⟩
abbrev SRAMC_COLLISIONS_COUNT : Fld := ⟨0x9104, 0, 32⟩
abbrev SRAMC_SP_STALLS_COUNT : Fld := ⟨0x9108, 0, 32⟩
abbrev SRAMC_SP_DROPPED_COUNT : Fld := ⟨0x910C, 0, 32⟩
abbrev SRAMC_CORR_TOTAL_COUNT : Fld := ⟨0x9110, 0, 32⟩
abbrev SRAMC_UNCORR_TOTAL_COUNT : Fld := ⟨0x9114, 0, 32⟩
abbrev SRAMC_REPAIR_CFG_CORR_LIMIT : Fld := ⟨0x9118, 0, 8⟩
abbrev SRAMC_REPAIRS_COUNT : Fld := ⟨0x911C, 0, 14⟩
abbrev SRAMC_EXHAUSTED_COUNT : Fld := ⟨0x9120, 0, 13⟩
abbrev SRAMC_LAST_ERR_CELL : Fld := ⟨0x9124, 0, 12⟩
abbrev SRAMC_LAST_ERR_WORD : Fld := ⟨0x9124, 12, 12⟩
abbrev SRAMC_LAST_ERR_UNCORR : Fld := ⟨0x9124, 31, 1⟩
abbrev SRAMC_MARCH_CMD_FIRST_CELL : Fld := ⟨0x9128, 0, 12⟩
abbrev SRAMC_MARCH_CMD_COUNT : Fld := ⟨0x9128, 12, 13⟩
abbrev SRAMC_MARCH_CMD_MODE : Fld := ⟨0x9128, 28, 1⟩
abbrev SRAMC_MARCH_CMD_GO : Fld := ⟨0x9128, 31, 1⟩
abbrev SRAMC_MARCH_STATUS_RESULT : Fld := ⟨0x912C, 0, 3⟩
abbrev SRAMC_MARCH_STATUS_FAILS : Fld := ⟨0x912C, 16, 12⟩
/-! Fields of CANARY. -/
abbrev CANARY_CTRL_EN : Fld := ⟨0x8100, 0, 1⟩
abbrev CANARY_CTRL_PASS_HOURS : Fld := ⟨0x8100, 8, 8⟩
abbrev CANARY_POS_CELL : Fld := ⟨0x8104, 0, 12⟩
abbrev CANARY_POS_REGION : Fld := ⟨0x8104, 12, 3⟩
abbrev CANARY_PASSES_COUNT : Fld := ⟨0x8108, 0, 32⟩
abbrev CANARY_ABORTS_COUNT : Fld := ⟨0x810C, 0, 32⟩
abbrev CANARY_SKIPPED_COUNT : Fld := ⟨0x8110, 0, 32⟩
abbrev CANARY_FAULTS_COUNT : Fld := ⟨0x8114, 0, 32⟩
abbrev CANARY_LAST_SKIP_CELL : Fld := ⟨0x8118, 0, 12⟩
abbrev CANARY_LAST_SKIP_REGION : Fld := ⟨0x8118, 12, 3⟩
/-! Fields of DRAMC. -/
abbrev DRAMC_SCRUB_HOURS : Fld := ⟨0xA100, 0, 8⟩
abbrev DRAMC_SCRUB_POS_FRAME : Fld := ⟨0xA104, 0, 12⟩
abbrev DRAMC_CORR_COUNT : Fld := ⟨0xA108, 0, 32⟩
abbrev DRAMC_UNCORR_COUNT : Fld := ⟨0xA10C, 0, 32⟩
abbrev DRAMC_LINK_ERR_COUNT : Fld := ⟨0xA110, 0, 32⟩
abbrev DRAMC_UNCORR_ADDR_LO_ADDR : Fld := ⟨0xA114, 0, 32⟩
abbrev DRAMC_UNCORR_ADDR_HI_ADDR : Fld := ⟨0xA118, 0, 32⟩
abbrev DRAMC_PASSES_COUNT : Fld := ⟨0xA11C, 0, 32⟩
/-! Fields of MAPS. -/
abbrev MAPS_POOL_LEFT_COUNT : Fld := ⟨0xB100, 0, 12⟩
abbrev MAPS_BAD_BLOCKS_COUNT : Fld := ⟨0xB104, 0, 14⟩
abbrev MAPS_CORR_BITS_COUNT : Fld := ⟨0xB108, 0, 32⟩
abbrev MAPS_UNCORR_PAGES_COUNT : Fld := ⟨0xB10C, 0, 32⟩
abbrev MAPS_REFRESH_DAYS : Fld := ⟨0xB110, 0, 10⟩
abbrev MAPS_ERASES_MAX_COUNT : Fld := ⟨0xB114, 0, 17⟩
abbrev MAPS_PART0_FIRST : Fld := ⟨0xB140, 0, 14⟩
abbrev MAPS_PART0_BLOCKS : Fld := ⟨0xB140, 16, 14⟩
abbrev MAPS_PART1_FIRST : Fld := ⟨0xB144, 0, 14⟩
abbrev MAPS_PART1_BLOCKS : Fld := ⟨0xB144, 16, 14⟩
abbrev MAPS_PART2_FIRST : Fld := ⟨0xB148, 0, 14⟩
abbrev MAPS_PART2_BLOCKS : Fld := ⟨0xB148, 16, 14⟩
abbrev MAPS_PART3_FIRST : Fld := ⟨0xB14C, 0, 14⟩
abbrev MAPS_PART3_BLOCKS : Fld := ⟨0xB14C, 16, 14⟩
abbrev MAPS_PART4_FIRST : Fld := ⟨0xB150, 0, 14⟩
abbrev MAPS_PART4_BLOCKS : Fld := ⟨0xB150, 16, 14⟩
abbrev MAPS_PART5_FIRST : Fld := ⟨0xB154, 0, 14⟩
abbrev MAPS_PART5_BLOCKS : Fld := ⟨0xB154, 16, 14⟩
/-! Fields of PSTORE. -/
abbrev PSTORE_STATUS_PENDING : Fld := ⟨0x4100, 0, 7⟩
abbrev PSTORE_WRITES_LO_COUNT : Fld := ⟨0x4104, 0, 32⟩
abbrev PSTORE_WRITES_HI_COUNT : Fld := ⟨0x4108, 0, 32⟩
abbrev PSTORE_WARN_ROWS_COUNT : Fld := ⟨0x410C, 0, 14⟩
abbrev PSTORE_WORN_ROWS_COUNT : Fld := ⟨0x4110, 0, 14⟩
abbrev PSTORE_MAX_WEAR_COUNT : Fld := ⟨0x4114, 0, 32⟩
abbrev PSTORE_MAX_ROW_ROW : Fld := ⟨0x4118, 0, 13⟩
/-! Fields of MAINT. -/
abbrev MAINT_REQ_ACTIVITY : Fld := ⟨0x7100, 0, 3⟩
abbrev MAINT_REQ_GO : Fld := ⟨0x7100, 31, 1⟩
abbrev MAINT_STATE_STATE : Fld := ⟨0x7104, 0, 14⟩
abbrev MAINT_QUEUE_ENTRIES : Fld := ⟨0x7108, 0, 24⟩
abbrev MAINT_CLAIMS_TOKENS : Fld := ⟨0x710C, 0, 8⟩
abbrev MAINT_LAST_DONE_ACTIVITY : Fld := ⟨0x7110, 0, 3⟩
abbrev MAINT_LAST_DONE_STATUS : Fld := ⟨0x7110, 4, 2⟩
abbrev MAINT_DONE_COUNT : Fld := ⟨0x7114, 0, 32⟩
abbrev MAINT_ABANDONED_COUNT : Fld := ⟨0x7118, 0, 32⟩
abbrev MAINT_EVT_RING : Fld := ⟨0x711C, 0, 6⟩
/-! Fields of FORE. -/
abbrev FORE_MBOX_ARGn_ARG (i : Nat) : Fld := ⟨0x6100 + 0x4 * i, 0, 32⟩
abbrev FORE_MBOX_CMD_OP : Fld := ⟨0x6110, 0, 8⟩
abbrev FORE_MBOX_CMD_SEQ : Fld := ⟨0x6110, 8, 8⟩
abbrev FORE_MBOX_STATUS_BUSY : Fld := ⟨0x6114, 0, 1⟩
abbrev FORE_MBOX_STATUS_SEQ : Fld := ⟨0x6114, 8, 8⟩
abbrev FORE_MBOX_STATUS_RESULT : Fld := ⟨0x6114, 16, 8⟩
abbrev FORE_MBOX_STATUS_DETAIL : Fld := ⟨0x6114, 24, 8⟩
abbrev FORE_MBOX_OUTn_OUT (i : Nat) : Fld := ⟨0x6118 + 0x4 * i, 0, 32⟩
abbrev FORE_FW_STATUS_IMAGE : Fld := ⟨0x6120, 0, 1⟩
abbrev FORE_FW_STATUS_TRIAL : Fld := ⟨0x6120, 1, 1⟩
abbrev FORE_FW_STATUS_RECOVERY : Fld := ⟨0x6120, 2, 1⟩
abbrev FORE_FW_STATUS_OTHER_OK : Fld := ⟨0x6120, 3, 1⟩
abbrev FORE_FW_RELEASE_RELEASE : Fld := ⟨0x6124, 0, 32⟩
abbrev FORE_WDOG_MS : Fld := ⟨0x6128, 0, 16⟩
abbrev FORE_RESTARTS_COUNT : Fld := ⟨0x612C, 0, 32⟩
abbrev FORE_SPLASH_PAGES_FIRST : Fld := ⟨0x6130, 0, 20⟩
abbrev FORE_SPLASH_PAGES_COUNT : Fld := ⟨0x6130, 20, 12⟩
abbrev FORE_EVT_RING : Fld := ⟨0x6134, 0, 6⟩
/-! Fields of TMON. -/
abbrev TMON_TJ_TEMP : Fld := ⟨0x5100, 0, 12⟩
abbrev TMON_TJ_VALID : Fld := ⟨0x5100, 31, 1⟩
abbrev TMON_TJ_MAX_TEMP : Fld := ⟨0x5104, 0, 12⟩
abbrev TMON_WARN_DEG : Fld := ⟨0x5108, 0, 8⟩
abbrev TMON_FATAL_LIM_DEG : Fld := ⟨0x510C, 0, 8⟩
/-! Fields of PCIEX. -/
abbrev PCIEX_CTRL_RO_DATA : Fld := ⟨0x10100, 0, 1⟩
abbrev PCIEX_CTRL_NS_DATA : Fld := ⟨0x10100, 1, 1⟩
abbrev PCIEX_LINK_STATUS_SPEED : Fld := ⟨0x10104, 0, 3⟩
abbrev PCIEX_LINK_STATUS_WIDTH : Fld := ⟨0x10104, 4, 4⟩
abbrev PCIEX_LINK_STATUS_PM_STATE : Fld := ⟨0x10104, 8, 3⟩
abbrev PCIEX_LINK_STATUS_DL_UP : Fld := ⟨0x10104, 16, 1⟩
abbrev PCIEX_LINK_DOWNS_COUNT : Fld := ⟨0x10108, 0, 32⟩
abbrev PCIEX_RECOVERIES_COUNT : Fld := ⟨0x1010C, 0, 32⟩
abbrev PCIEX_CORR_ERRS_COUNT : Fld := ⟨0x10110, 0, 32⟩
abbrev PCIEX_UR_COUNT_COUNT : Fld := ⟨0x10114, 0, 32⟩
abbrev PCIEX_CA_COUNT_COUNT : Fld := ⟨0x10118, 0, 32⟩
abbrev PCIEX_DOWN_ACCESS_COUNT : Fld := ⟨0x1011C, 0, 32⟩
abbrev PCIEX_CPL_TIMEOUTS_COUNT : Fld := ⟨0x10120, 0, 32⟩
abbrev PCIEX_POISON_SENT_COUNT : Fld := ⟨0x10124, 0, 32⟩
abbrev PCIEX_LTR_CFG_REMOTE_VAL : Fld := ⟨0x10128, 0, 10⟩
abbrev PCIEX_LTR_CFG_REMOTE_SCALE : Fld := ⟨0x10128, 10, 3⟩
abbrev PCIEX_LTR_CFG_IDLE_VAL : Fld := ⟨0x10128, 16, 10⟩
abbrev PCIEX_LTR_CFG_IDLE_SCALE : Fld := ⟨0x10128, 26, 3⟩
abbrev PCIEX_LTR_LAST_LTR : Fld := ⟨0x1012C, 0, 13⟩
abbrev PCIEX_PTM_CFG_PERIOD_MS : Fld := ⟨0x10130, 0, 8⟩
abbrev PCIEX_PTM_CFG_VALID_MS : Fld := ⟨0x10130, 8, 8⟩
abbrev PCIEX_PTM_CMD_NOW : Fld := ⟨0x10134, 0, 1⟩
abbrev PCIEX_PTM_STATUS_VALID : Fld := ⟨0x10138, 0, 1⟩
abbrev PCIEX_PTM_STATUS_RATIO_OK : Fld := ⟨0x10138, 1, 1⟩
abbrev PCIEX_PTM_LO_L : Fld := ⟨0x1013C, 0, 32⟩
abbrev PCIEX_PTM_HI_L : Fld := ⟨0x10140, 0, 32⟩
abbrev PCIEX_PTM_HOST_LO_H : Fld := ⟨0x10144, 0, 32⟩
abbrev PCIEX_PTM_HOST_HI_H : Fld := ⟨0x10148, 0, 32⟩
abbrev PCIEX_PTM_RATIO_RATIO : Fld := ⟨0x1014C, 0, 32⟩
abbrev PCIEX_LOCAL_TIME_LO_TIME : Fld := ⟨0x10150, 0, 32⟩
abbrev PCIEX_LOCAL_TIME_HI_TIME : Fld := ⟨0x10154, 0, 32⟩
abbrev PCIEX_BAR4_SIZE_SIZE : Fld := ⟨0x10158, 0, 3⟩
abbrev PCIEX_L1_ENTRIES_COUNT : Fld := ⟨0x1015C, 0, 32⟩

end F

namespace R

/-! BAR0 offsets of the registers. -/
abbrev SURF_CTRL : Nat := 0x14100
abbrev SURF_RSVD_FRAMES : Nat := 0x14104
abbrev SURF_BAR4_WINDOW : Nat := 0x14108
abbrev SURF_FENCE_RING : Nat := 0x1410C
abbrev SURF_RETIRE_COOKIE : Nat := 0x14110
abbrev SURF_RETIRE_CMD : Nat := 0x14114
abbrev SURF_RETIRE_STATUS : Nat := 0x14118
abbrev SURF_RCACHE_INVAL : Nat := 0x1411C
abbrev SURF_RCACHE_HITS : Nat := 0x14120
abbrev SURF_RCACHE_MISSES : Nat := 0x14124
abbrev SURF_REMOTE_ERR : Nat := 0x14128
abbrev SURF_PROT_READS : Nat := 0x1412C
abbrev SURF_RSVD_ACCESS : Nat := 0x14130
abbrev SURF_FAULT_COUNT : Nat := 0x14134
abbrev SURF_FAULT_PAGE : Nat := 0x14138
abbrev SURF_MAPPED_PAGES : Nat := 0x1413C
abbrev QCTX_BASE_LO (i : Nat) : Nat := 0x100000 + 0x20 * i
abbrev QCTX_BASE_HI (i : Nat) : Nat := 0x100004 + 0x20 * i
abbrev QCTX_CFG (i : Nat) : Nat := 0x100008 + 0x20 * i
abbrev QCTX_PTRS (i : Nat) : Nat := 0x10000C + 0x20 * i
abbrev QCTX_STATE (i : Nat) : Nat := 0x100010 + 0x20 * i
abbrev QCTX_DONE (i : Nat) : Nat := 0x100014 + 0x20 * i
abbrev RING_BASE_LO (i : Nat) : Nat := 0x140000 + 0x20 * i
abbrev RING_BASE_HI (i : Nat) : Nat := 0x140004 + 0x20 * i
abbrev RING_CFG (i : Nat) : Nat := 0x140008 + 0x20 * i
abbrev RING_MOD (i : Nat) : Nat := 0x14000C + 0x20 * i
abbrev RING_HEAD (i : Nat) : Nat := 0x140010 + 0x20 * i
abbrev RING_TAIL (i : Nat) : Nat := 0x140014 + 0x20 * i
abbrev RING_LOST (i : Nat) : Nat := 0x140018 + 0x20 * i
abbrev RING_HOLD (i : Nat) : Nat := 0x14001C + 0x20 * i
abbrev QMGR_QCMD : Nat := 0x11100
abbrev QMGR_QCMD_STATUS : Nat := 0x11104
abbrev QMGR_DB_DROPPED : Nat := 0x11108
abbrev QMGR_ACTIVE_QUEUES : Nat := 0x1110C
abbrev QMGR_ERR_QUEUE : Nat := 0x11110
abbrev QMGR_DESC_DONE : Nat := 0x11114
abbrev HOIST_ARB : Nat := 0x12100
abbrev HOIST_CH_EVT : Nat := 0x12104
abbrev HOIST_BUSY_CAGES : Nat := 0x12108
abbrev HOIST_BYTES_LO : Nat := 0x1210C
abbrev HOIST_BYTES_HI : Nat := 0x12110
abbrev HOIST_PREEMPTS : Nat := 0x12114
abbrev HOIST_ABORTS : Nat := 0x12118
abbrev HOIST_CH_ABORT : Nat := 0x1211C
abbrev HOIST_CH_SH_SRC_LO (i : Nat) : Nat := 0x12200 + 0x40 * i
abbrev HOIST_CH_SH_SRC_HI (i : Nat) : Nat := 0x12204 + 0x40 * i
abbrev HOIST_CH_SH_DST_LO (i : Nat) : Nat := 0x12208 + 0x40 * i
abbrev HOIST_CH_SH_DST_HI (i : Nat) : Nat := 0x1220C + 0x40 * i
abbrev HOIST_CH_SH_LEN (i : Nat) : Nat := 0x12210 + 0x40 * i
abbrev HOIST_CH_SH_CTRL (i : Nat) : Nat := 0x12214 + 0x40 * i
abbrev HOIST_CH_ACT_SRC_LO (i : Nat) : Nat := 0x12218 + 0x40 * i
abbrev HOIST_CH_ACT_SRC_HI (i : Nat) : Nat := 0x1221C + 0x40 * i
abbrev HOIST_CH_ACT_DST_LO (i : Nat) : Nat := 0x12220 + 0x40 * i
abbrev HOIST_CH_ACT_DST_HI (i : Nat) : Nat := 0x12224 + 0x40 * i
abbrev HOIST_CH_ACT_LEN (i : Nat) : Nat := 0x12228 + 0x40 * i
abbrev HOIST_CH_STATUS (i : Nat) : Nat := 0x1222C + 0x40 * i
abbrev HOIST_CH_RESIDUE (i : Nat) : Nat := 0x12230 + 0x40 * i
abbrev EVT_LOST_TOTAL : Nat := 0x15100
abbrev EVT_FULL_LO : Nat := 0x15104
abbrev EVT_FULL_HI : Nat := 0x15108
abbrev EVT_ENABLED_LO : Nat := 0x1510C
abbrev EVT_ENABLED_HI : Nat := 0x15110
abbrev SLOT_STAGE_ADDR (i : Nat) : Nat := 0x150000 + 0x20 * i
abbrev SLOT_STAGE_DATA (i : Nat) : Nat := 0x150004 + 0x20 * i
abbrev SLOT_TARGET (i : Nat) : Nat := 0x150008 + 0x20 * i
abbrev SLOT_CMD (i : Nat) : Nat := 0x15000C + 0x20 * i
abbrev SLOT_STATE (i : Nat) : Nat := 0x150010 + 0x20 * i
abbrev SLOT_WRITES (i : Nat) : Nat := 0x150014 + 0x20 * i
abbrev SLOT_APPLIED_FRAME (i : Nat) : Nat := 0x150018 + 0x20 * i
abbrev SLOT_FIRST_CLAMP (i : Nat) : Nat := 0x15001C + 0x20 * i
abbrev TXN_OPEN : Nat := 0x13100
abbrev TXN_OPEN_SLOTS_LO : Nat := 0x13104
abbrev TXN_OPEN_SLOTS_HI : Nat := 0x13108
abbrev TXN_PENDING_LO : Nat := 0x1310C
abbrev TXN_PENDING_HI : Nat := 0x13110
abbrev TXN_EXPIRY : Nat := 0x13114
abbrev TXN_EVT_RING : Nat := 0x13118
abbrev TXN_TARGETS : Nat := 0x1311C
abbrev TXN_COMMITS : Nat := 0x13120
abbrev TXN_ABORTS : Nat := 0x13124
abbrev TXN_LATE : Nat := 0x13128
abbrev TXN_STAGE_DROPPED : Nat := 0x1312C
abbrev TXN_LAST_ABORT : Nat := 0x13130
abbrev CHIP_RESET_CTRL : Nat := 0x100
abbrev CHIP_RESET_CAUSE : Nat := 0x104
abbrev CHIP_HOST_RESETS : Nat := 0x108
abbrev CHIP_STATE : Nat := 0x10C
abbrev CHIP_ERR_SUMMARY : Nat := 0x110
abbrev CHIP_PORT_TIMEOUT : Nat := 0x114
abbrev CHIP_ISOLATE_LIMIT : Nat := 0x118
abbrev CHIP_FATAL_FORCE : Nat := 0x11C
abbrev CHIP_FATAL_LOG_NEXT : Nat := 0x120
abbrev CHIP_ERR_EVT : Nat := 0x124
abbrev CHIP_UPTIME : Nat := 0x128
abbrev CHIP_BOOT_STATUS : Nat := 0x12C
abbrev CHIP_PART_ID : Nat := 0x130
abbrev CHIP_FEATURES : Nat := 0x134
abbrev CHIP_CONFIG_GEN : Nat := 0x140
abbrev CHIP_CONFIG_DIGEST : Nat := 0x144
abbrev CHIP_DIGEST_GEN : Nat := 0x148
abbrev CHIP_DIGEST_STATUS : Nat := 0x14C
abbrev CHIP_REGION_DIGESTn (i : Nat) : Nat := 0x150 + 0x4 * i
abbrev CHIP_AUDIT_CTRL : Nat := 0x168
abbrev CHIP_AUDIT_CMD : Nat := 0x16C
abbrev CHIP_AUDIT_STATUS : Nat := 0x170
abbrev CHIP_AUDIT_EVT : Nat := 0x174
abbrev CHIP_CLAMP_LOG_NEXT : Nat := 0x178
abbrev CHIP_CLAMP_LOG_TOTAL : Nat := 0x17C
abbrev CHIP_INT_SUM0 : Nat := 0x180
abbrev CHIP_INT_SUM1 : Nat := 0x184
abbrev CHIP_INT_SUM2 : Nat := 0x188
abbrev CHIP_INT_CTRL : Nat := 0x18C
abbrev LAYER_ADDR_LO (i : Nat) : Nat := 0x160000 + 0x20 * i
abbrev LAYER_ADDR_HI (i : Nat) : Nat := 0x160004 + 0x20 * i
abbrev LAYER_POS (i : Nat) : Nat := 0x160008 + 0x20 * i
abbrev LAYER_SIZE (i : Nat) : Nat := 0x16000C + 0x20 * i
abbrev LAYER_FMT (i : Nat) : Nat := 0x160010 + 0x20 * i
abbrev LAYER_ALPHA (i : Nat) : Nat := 0x160014 + 0x20 * i
abbrev SCAN_CTRL : Nat := 0x20100
abbrev SCAN_H_TIMING : Nat := 0x20104
abbrev SCAN_V_TIMING : Nat := 0x20108
abbrev SCAN_V_TOTAL : Nat := 0x2010C
abbrev SCAN_COMMIT_GUARD : Nat := 0x20110
abbrev SCAN_FETCH_LEAD : Nat := 0x20114
abbrev SCAN_LIST : Nat := 0x20118
abbrev SCAN_BG_COLOR : Nat := 0x2011C
abbrev SCAN_REPLAY_CTRL : Nat := 0x20120
abbrev SCAN_FRAME_SEQ : Nat := 0x20124
abbrev SCAN_LINE : Nat := 0x20128
abbrev SCAN_STATUS : Nat := 0x2012C
abbrev SCAN_LAST_TOTAL : Nat := 0x20130
abbrev SCAN_LINE_EVT : Nat := 0x20134
abbrev SCAN_EVT_CTRL : Nat := 0x20138
abbrev SCAN_REPEATS : Nat := 0x2013C
abbrev COMP_LAYER_COUNT (h : Half) : Nat := 0x21100 + halfOff h
abbrev COMP_UNDERRUN (h : Half) : Nat := 0x21104 + halfOff h
abbrev COMP_UNDERRUN_LAST (h : Half) : Nat := 0x21108 + halfOff h
abbrev COMP_UNDERRUN_FRAME (h : Half) : Nat := 0x2110C + halfOff h
abbrev COMP_OVERFLOW (h : Half) : Nat := 0x21110 + halfOff h
abbrev COMP_OVERFLOW_LAST (h : Half) : Nat := 0x21114 + halfOff h
abbrev COMP_FETCH_BYTES (h : Half) : Nat := 0x21118 + halfOff h
abbrev HIST_CTRL (h : Half) : Nat := 0x22100 + halfOff h
abbrev HIST_CMD (h : Half) : Nat := 0x22104 + halfOff h
abbrev HIST_BASE_FRAME (h : Half) : Nat := 0x22108 + halfOff h
abbrev HIST_ROLES (h : Half) : Nat := 0x2210C + halfOff h
abbrev HIST_SET_STATUS (h : Half) : Nat := 0x22110 + halfOff h
abbrev HIST_SETn_FRAME (h : Half) (i : Nat) : Nat := 0x22114 + halfOff h + 0x4 * i
abbrev HIST_REFETCHES (h : Half) : Nat := 0x22120 + halfOff h
abbrev HIST_HIST_FAULTS (h : Half) : Nat := 0x22124 + halfOff h
abbrev HIST_FAULT_LAST (h : Half) : Nat := 0x22128 + halfOff h
abbrev HIST_FAULT_FRAME (h : Half) : Nat := 0x2212C + halfOff h
abbrev HIST_LT_ERRORS (h : Half) : Nat := 0x22130 + halfOff h
abbrev HIST_RAW_STRIPS (h : Half) : Nat := 0x22134 + halfOff h
abbrev HIST_BYTES_WRITTEN (h : Half) : Nat := 0x22138 + halfOff h
abbrev HIST_EVT (h : Half) : Nat := 0x2213C + halfOff h
abbrev OD_STATUS (h : Half) : Nat := 0x23100 + halfOff h
abbrev OD_PASS_STRIPS (h : Half) : Nat := 0x23104 + halfOff h
abbrev OD_CTRL : Nat := 0x23120
abbrev OD_TABLE_CRC : Nat := 0x23124
abbrev OD_TEMP_PTS_LO : Nat := 0x23128
abbrev OD_TEMP_PTS_HI : Nat := 0x2312C
abbrev OD_TEMP_CFG : Nat := 0x23130
abbrev OD_BUCKET_A : Nat := 0x23134
abbrev OD_BUCKET_B : Nat := 0x23138
abbrev OD_TEMP_NOW : Nat := 0x2313C
abbrev OD_STAGE_CMD : Nat := 0x23140
abbrev OD_STAGE_STATUS : Nat := 0x23144
abbrev OD_BANK0_CRC : Nat := 0x23148
abbrev OD_BANK1_CRC : Nat := 0x2314C
abbrev OD_WIN_DROPPED : Nat := 0x23150
abbrev OD_EVT : Nat := 0x23154
abbrev CMP_CTRL : Nat := 0x16100
abbrev CMP_ENC_CFG : Nat := 0x16104
abbrev CMP_EVT : Nat := 0x16108
abbrev CMP_LANE_STATUS : Nat := 0x1610C
abbrev CMP_CTX_SUSP_LO : Nat := 0x16110
abbrev CMP_CTX_SUSP_HI : Nat := 0x16114
abbrev CMP_CTX_DROP : Nat := 0x16118
abbrev CMP_INFLATES : Nat := 0x1611C
abbrev CMP_FAULTS : Nat := 0x16120
abbrev CMP_OUTPUT_FULLS : Nat := 0x16124
abbrev CMP_AUTH_FAILS : Nat := 0x16128
abbrev CMP_CTX_REFUSED : Nat := 0x1612C
abbrev CMP_CTX_DISCARDED : Nat := 0x16130
abbrev CMP_CAPTURES : Nat := 0x16134
abbrev CMP_OUT_LO : Nat := 0x16138
abbrev CMP_OUT_HI : Nat := 0x1613C
abbrev JCTX_STATE (i : Nat) : Nat := 0x190000 + 0x40 * i
abbrev JCTX_INDEX (i : Nat) : Nat := 0x190004 + 0x40 * i
abbrev JCTX_IN_BIT (i : Nat) : Nat := 0x190008 + 0x40 * i
abbrev JCTX_OUT_TOTAL (i : Nat) : Nat := 0x19000C + 0x40 * i
abbrev JCTX_REM (i : Nat) : Nat := 0x190010 + 0x40 * i
abbrev JCTX_DIST (i : Nat) : Nat := 0x190014 + 0x40 * i
abbrev JCTX_SRC_LO (i : Nat) : Nat := 0x190018 + 0x40 * i
abbrev JCTX_SRC_HI (i : Nat) : Nat := 0x19001C + 0x40 * i
abbrev JCTX_LENGTH (i : Nat) : Nat := 0x190020 + 0x40 * i
abbrev JCTX_BLOCK_OUT (i : Nat) : Nat := 0x190024 + 0x40 * i
abbrev JCTX_CRC (i : Nat) : Nat := 0x190028 + 0x40 * i
abbrev UNI_STATUS (h : Half) : Nat := 0x24100 + halfOff h
abbrev UNI_LATE_WORDS (h : Half) : Nat := 0x24104 + halfOff h
abbrev UNI_LATE_LAST (h : Half) : Nat := 0x24108 + halfOff h
abbrev UNI_LATE_FRAME (h : Half) : Nat := 0x2410C + halfOff h
abbrev UNI_CTRL : Nat := 0x24120
abbrev UNI_MAP_CRC : Nat := 0x24124
abbrev UNI_PLANE_A : Nat := 0x24128
abbrev UNI_PLANE_B : Nat := 0x2412C
abbrev UNI_PLANE_C : Nat := 0x24130
abbrev UNI_WEIGHT_R : Nat := 0x24134
abbrev UNI_WEIGHT_G : Nat := 0x24138
abbrev UNI_WEIGHT_B : Nat := 0x2413C
abbrev UNI_WEIGHT_4 : Nat := 0x24140
abbrev UNI_STAGE_CMD : Nat := 0x24144
abbrev UNI_STAGE_STATUS : Nat := 0x24148
abbrev UNI_BANK0_CRC : Nat := 0x2414C
abbrev UNI_BANK1_CRC : Nat := 0x24150
abbrev UNI_BANK0_GEOM : Nat := 0x24154
abbrev UNI_BANK1_GEOM : Nat := 0x24158
abbrev UNI_BASE_FRAME : Nat := 0x2415C
abbrev UNI_EVT : Nat := 0x24160
abbrev AGE_CTRL : Nat := 0x40100
abbrev AGE_INTERVAL : Nat := 0x40104
abbrev AGE_CURVE : Nat := 0x40108
abbrev AGE_TEMP_PTS_LO : Nat := 0x4010C
abbrev AGE_TEMP_PTS_HI : Nat := 0x40110
abbrev AGE_TEMP_CFG : Nat := 0x40114
abbrev AGE_CKPT_CFG : Nat := 0x40118
abbrev AGE_CKPT_CMD : Nat := 0x4011C
abbrev AGE_STATUS : Nat := 0x40120
abbrev AGE_SAMPLES : Nat := 0x40124
abbrev AGE_LAST_SAMPLE : Nat := 0x40128
abbrev AGE_ACC_BASE : Nat := 0x4012C
abbrev AGE_SATURATED : Nat := 0x40130
abbrev AGE_LATE_WORDS : Nat := 0x40134
abbrev AGE_SKIPPED : Nat := 0x40138
abbrev AGE_CKPT_SEQ : Nat := 0x4013C
abbrev AGE_CKPT_COUNT : Nat := 0x40140
abbrev AGE_EVT : Nat := 0x40144
abbrev AGE_TEMP_K01 : Nat := 0x40150
abbrev AGE_TEMP_K23 : Nat := 0x40154
abbrev AGE_TEMP_K45 : Nat := 0x40158
abbrev AGE_TEMP_K67 : Nat := 0x4015C
abbrev AGE_LW_0 (i : Nat) : Nat := 0x40180 + 0x24 * i
abbrev AGE_LW_1 (i : Nat) : Nat := 0x40184 + 0x24 * i
abbrev AGE_LW_2 (i : Nat) : Nat := 0x40188 + 0x24 * i
abbrev AGE_LW_3 (i : Nat) : Nat := 0x4018C + 0x24 * i
abbrev AGE_LW_4 (i : Nat) : Nat := 0x40190 + 0x24 * i
abbrev AGE_LW_5 (i : Nat) : Nat := 0x40194 + 0x24 * i
abbrev AGE_LW_6 (i : Nat) : Nat := 0x40198 + 0x24 * i
abbrev AGE_LW_7 (i : Nat) : Nat := 0x4019C + 0x24 * i
abbrev AGE_LW_8 (i : Nat) : Nat := 0x401A0 + 0x24 * i
abbrev AGE_G (i : Nat) : Nat := 0x40200 + 0x4 * i
abbrev DITH_STATUS (h : Half) : Nat := 0x25100 + halfOff h
abbrev DITH_CTRL : Nat := 0x25120
abbrev LINK_CTRL : Nat := 0x41100
abbrev LINK_LINE_CFG : Nat := 0x41104
abbrev LINK_RESEND : Nat := 0x41108
abbrev LINK_TRAIN_CMD : Nat := 0x4110C
abbrev LINK_TRAIN_CFG : Nat := 0x41110
abbrev LINK_ERR_CFG : Nat := 0x41114
abbrev LINK_STATUS : Nat := 0x41118
abbrev LINK_LANE_RUN_LO : Nat := 0x4111C
abbrev LINK_LANE_RUN_HI : Nat := 0x41120
abbrev LINK_UNRECOVERED : Nat := 0x41124
abbrev LINK_RESENDS : Nat := 0x41128
abbrev LINK_LATE_BLOCKS : Nat := 0x4112C
abbrev LINK_CTL_CMD : Nat := 0x41130
abbrev LINK_EVT : Nat := 0x41134
abbrev LINK_LANE_CFG (i : Nat) : Nat := 0x41200 + 0x10 * i
abbrev LINK_LANE_STATE (i : Nat) : Nat := 0x41204 + 0x10 * i
abbrev LINK_LANE_RESENDS (i : Nat) : Nat := 0x41208 + 0x10 * i
abbrev LINK_LANE_UNREC (i : Nat) : Nat := 0x4120C + 0x10 * i
abbrev GATE_CTRL : Nat := 0x42100
abbrev GATE_ORIGIN : Nat := 0x42104
abbrev GATE_PERIOD : Nat := 0x42108
abbrev GATE_VWIN : Nat := 0x4210C
abbrev GATE_CLK_EN : Nat := 0x42110
abbrev GATE_STATUS : Nat := 0x42114
abbrev GATE_GCK_RISE (i : Nat) : Nat := 0x42200 + 0x8 * i
abbrev GATE_GCK_FALL (i : Nat) : Nat := 0x42204 + 0x8 * i
abbrev GATE_STV_RISE (i : Nat) : Nat := 0x42300 + 0x8 * i
abbrev GATE_STV_FALL (i : Nat) : Nat := 0x42304 + 0x8 * i
abbrev GATE_GRST_RISE (i : Nat) : Nat := 0x42320 + 0x8 * i
abbrev GATE_GRST_FALL (i : Nat) : Nat := 0x42324 + 0x8 * i
abbrev HVD_PANEL_CMD : Nat := 0x43100
abbrev HVD_PANEL_STATUS : Nat := 0x43104
abbrev HVD_RAIL_AVDD : Nat := 0x43108
abbrev HVD_RAIL_VGL : Nat := 0x4310C
abbrev HVD_RAIL_VGH : Nat := 0x43110
abbrev HVD_RAIL_REQ : Nat := 0x43114
abbrev HVD_SEQ_UP : Nat := 0x43118
abbrev HVD_SEQ_DOWN : Nat := 0x4311C
abbrev HVD_SEQ_PFW : Nat := 0x43120
abbrev HVD_VCOM : Nat := 0x43124
abbrev HVD_OUT_EN : Nat := 0x43128
abbrev HVD_BL : Nat := 0x4312C
abbrev HVD_BL_PERIOD : Nat := 0x43130
abbrev HVD_BL_DUTY : Nat := 0x43134
abbrev HVD_THERM_CFG : Nat := 0x43138
abbrev HVD_THERM0 : Nat := 0x4313C
abbrev HVD_THERM1 : Nat := 0x43140
abbrev HVD_RAIL_FAILS : Nat := 0x43144
abbrev HVD_PFW_COUNT : Nat := 0x43148
abbrev HVD_DISCHARGES : Nat := 0x4314C
abbrev HVD_EVT : Nat := 0x43150
abbrev HVD_GAMMA (i : Nat) : Nat := 0x43200 + 0x4 * i
abbrev HVD_TLIN_0 (i : Nat) : Nat := 0x43240 + 0x24 * i
abbrev HVD_TLIN_1 (i : Nat) : Nat := 0x43244 + 0x24 * i
abbrev HVD_TLIN_2 (i : Nat) : Nat := 0x43248 + 0x24 * i
abbrev HVD_TLIN_3 (i : Nat) : Nat := 0x4324C + 0x24 * i
abbrev HVD_TLIN_4 (i : Nat) : Nat := 0x43250 + 0x24 * i
abbrev HVD_TLIN_5 (i : Nat) : Nat := 0x43254 + 0x24 * i
abbrev HVD_TLIN_6 (i : Nat) : Nat := 0x43258 + 0x24 * i
abbrev HVD_TLIN_7 (i : Nat) : Nat := 0x4325C + 0x24 * i
abbrev HVD_TLIN_8 (i : Nat) : Nat := 0x43260 + 0x24 * i
abbrev ASSAY_HALF_CRC (h : Half) : Nat := 0x26100 + halfOff h
abbrev ASSAY_HALF_FRAME (h : Half) : Nat := 0x26104 + halfOff h
abbrev ASSAY_CTRL : Nat := 0x26120
abbrev ASSAY_FRAME_EXPECT : Nat := 0x26124
abbrev ASSAY_FRAME_CRC : Nat := 0x26128
abbrev ASSAY_RESULT_FRAME : Nat := 0x2612C
abbrev ASSAY_STATUS : Nat := 0x26130
abbrev ASSAY_MISMATCH_LO : Nat := 0x26134
abbrev ASSAY_MISMATCH_HI : Nat := 0x26138
abbrev ASSAY_PROT_LO : Nat := 0x2613C
abbrev ASSAY_PROT_HI : Nat := 0x26140
abbrev ASSAY_MISMATCH_FRAMES : Nat := 0x26144
abbrev ASSAY_EVT : Nat := 0x26148
abbrev ASSAY_RECT_POS (i : Nat) : Nat := 0x26200 + 0x10 * i
abbrev ASSAY_RECT_SIZE (i : Nat) : Nat := 0x26204 + 0x10 * i
abbrev ASSAY_RECT_EXPECT (i : Nat) : Nat := 0x26208 + 0x10 * i
abbrev ASSAY_RECT_CTRL (i : Nat) : Nat := 0x2620C + 0x10 * i
abbrev ASSAY_RECT_RESULT (i : Nat) : Nat := 0x26600 + 0x4 * i
abbrev SEAL_KEY_DATAn (i : Nat) : Nat := 0x17100 + 0x4 * i
abbrev SEAL_KEY_CMD : Nat := 0x17120
abbrev SEAL_KEY_RESULT : Nat := 0x17124
abbrev SEAL_KEY_STATE : Nat := 0x17128
abbrev SEAL_POLICY : Nat := 0x1712C
abbrev SEAL_CAPT_REDACTED : Nat := 0x17130
abbrev SEAL_EVT : Nat := 0x17134
abbrev SEAL_KCVn (i : Nat) : Nat := 0x17140 + 0x4 * i
abbrev LABEL_CTRL : Nat := 0x44100
abbrev LABEL_PHASE : Nat := 0x44104
abbrev LABEL_TEMP_MAN : Nat := 0x44108
abbrev LABEL_TEMP_BNDn (i : Nat) : Nat := 0x4410C + 0x4 * i
abbrev LABEL_PWR : Nat := 0x4411C
abbrev LABEL_STATUS : Nat := 0x44120
abbrev LABEL_WF_STATUS : Nat := 0x44124
abbrev LABEL_WF_VER : Nat := 0x44128
abbrev LABEL_JOURNAL_FREE : Nat := 0x4412C
abbrev LABEL_INTR_TOTAL : Nat := 0x44130
abbrev LABEL_UPDATES : Nat := 0x44134
abbrev LABEL_INTERRUPTED : Nat := 0x44138
abbrev LABEL_PWR_FAILS : Nat := 0x4413C
abbrev LABEL_EVT : Nat := 0x44140
abbrev LABEL_LAST_REFUSE : Nat := 0x44144
abbrev LABEL_PANEL_GEOM (i : Nat) : Nat := 0x44200 + 0x10 * i
abbrev LABEL_PANEL_STATE (i : Nat) : Nat := 0x44204 + 0x10 * i
abbrev LABEL_PANEL_DONE (i : Nat) : Nat := 0x44208 + 0x10 * i
abbrev LABEL_PANEL_REFUSED (i : Nat) : Nat := 0x4420C + 0x10 * i
abbrev LABEL_WF_LEN (i : Nat) : Nat := 0x44300 + 0x4 * i
abbrev PWR_REQ : Nat := 0x1100
abbrev PWR_REQ_STATUS : Nat := 0x1104
abbrev PWR_STATE : Nat := 0x1108
abbrev PWR_WAKE_FLAG : Nat := 0x110C
abbrev PWR_OFF_FLAG : Nat := 0x1110
abbrev PWR_LAST_REFUSER : Nat := 0x1114
abbrev PWR_LAST_REASON : Nat := 0x1118
abbrev PWR_PAD_HELD : Nat := 0x111C
abbrev PWR_PAD_RELEASE : Nat := 0x1120
abbrev PWR_WAKE_FAIL_LAST : Nat := 0x1124
abbrev PWR_WAKE_FAILS : Nat := 0x1128
abbrev PWR_COMP_RET : Nat := 0x112C
abbrev PWR_CFG : Nat := 0x1130
abbrev PWR_PERST_CFG : Nat := 0x1134
abbrev PWR_WAKE_PENDING : Nat := 0x1138
abbrev PWR_TIMER : Nat := 0x113C
abbrev PWR_WAKE_SRC (i : Nat) : Nat := 0x1140 + 0x4 * i
abbrev PWR_LAST_WAKE : Nat := 0x1168
abbrev PWR_ENTRIES : Nat := 0x116C
abbrev PWR_EVT : Nat := 0x1170
abbrev PWR_FREQ : Nat := 0x1180
abbrev PWR_FREQ_STATUS : Nat := 0x1184
abbrev CLK_STATUS : Nat := 0x2100
abbrev CLK_CTRL : Nat := 0x2104
abbrev CLK_XTAL_START : Nat := 0x2108
abbrev CLK_XTAL_LOSSES : Nat := 0x210C
abbrev CLK_DOMAIN_CLK : Nat := 0x2110
abbrev RGL_REQ_CFG : Nat := 0x3100
abbrev RGL_AVS_CTRL : Nat := 0x3104
abbrev RGL_AVS_SET : Nat := 0x3108
abbrev RGL_AVS_LIMITS : Nat := 0x310C
abbrev RGL_AVS_NOW : Nat := 0x3110
abbrev RGL_ALERTS : Nat := 0x3114
abbrev RGL_FAILS : Nat := 0x3118
abbrev RGL_LAST_FAIL : Nat := 0x311C
abbrev RGL_BIND_0 (i : Nat) : Nat := 0x3210 + 0x10 * i
abbrev RGL_BIND_1 (i : Nat) : Nat := 0x3214 + 0x10 * i
abbrev RGL_BIND_2 (i : Nat) : Nat := 0x3218 + 0x10 * i
abbrev SRAMC_SP_CFG : Nat := 0x9100
abbrev SRAMC_COLLISIONS : Nat := 0x9104
abbrev SRAMC_SP_STALLS : Nat := 0x9108
abbrev SRAMC_SP_DROPPED : Nat := 0x910C
abbrev SRAMC_CORR_TOTAL : Nat := 0x9110
abbrev SRAMC_UNCORR_TOTAL : Nat := 0x9114
abbrev SRAMC_REPAIR_CFG : Nat := 0x9118
abbrev SRAMC_REPAIRS : Nat := 0x911C
abbrev SRAMC_EXHAUSTED : Nat := 0x9120
abbrev SRAMC_LAST_ERR : Nat := 0x9124
abbrev SRAMC_MARCH_CMD : Nat := 0x9128
abbrev SRAMC_MARCH_STATUS : Nat := 0x912C
abbrev CANARY_CTRL : Nat := 0x8100
abbrev CANARY_POS : Nat := 0x8104
abbrev CANARY_PASSES : Nat := 0x8108
abbrev CANARY_ABORTS : Nat := 0x810C
abbrev CANARY_SKIPPED : Nat := 0x8110
abbrev CANARY_FAULTS : Nat := 0x8114
abbrev CANARY_LAST_SKIP : Nat := 0x8118
abbrev DRAMC_SCRUB : Nat := 0xA100
abbrev DRAMC_SCRUB_POS : Nat := 0xA104
abbrev DRAMC_CORR : Nat := 0xA108
abbrev DRAMC_UNCORR : Nat := 0xA10C
abbrev DRAMC_LINK_ERR : Nat := 0xA110
abbrev DRAMC_UNCORR_ADDR_LO : Nat := 0xA114
abbrev DRAMC_UNCORR_ADDR_HI : Nat := 0xA118
abbrev DRAMC_PASSES : Nat := 0xA11C
abbrev MAPS_POOL_LEFT : Nat := 0xB100
abbrev MAPS_BAD_BLOCKS : Nat := 0xB104
abbrev MAPS_CORR_BITS : Nat := 0xB108
abbrev MAPS_UNCORR_PAGES : Nat := 0xB10C
abbrev MAPS_REFRESH : Nat := 0xB110
abbrev MAPS_ERASES_MAX : Nat := 0xB114
abbrev MAPS_PART0 : Nat := 0xB140
abbrev MAPS_PART1 : Nat := 0xB144
abbrev MAPS_PART2 : Nat := 0xB148
abbrev MAPS_PART3 : Nat := 0xB14C
abbrev MAPS_PART4 : Nat := 0xB150
abbrev MAPS_PART5 : Nat := 0xB154
abbrev PSTORE_STATUS : Nat := 0x4100
abbrev PSTORE_WRITES_LO : Nat := 0x4104
abbrev PSTORE_WRITES_HI : Nat := 0x4108
abbrev PSTORE_WARN_ROWS : Nat := 0x410C
abbrev PSTORE_WORN_ROWS : Nat := 0x4110
abbrev PSTORE_MAX_WEAR : Nat := 0x4114
abbrev PSTORE_MAX_ROW : Nat := 0x4118
abbrev MAINT_REQ : Nat := 0x7100
abbrev MAINT_STATE : Nat := 0x7104
abbrev MAINT_QUEUE : Nat := 0x7108
abbrev MAINT_CLAIMS : Nat := 0x710C
abbrev MAINT_LAST_DONE : Nat := 0x7110
abbrev MAINT_DONE : Nat := 0x7114
abbrev MAINT_ABANDONED : Nat := 0x7118
abbrev MAINT_EVT : Nat := 0x711C
abbrev FORE_MBOX_ARGn (i : Nat) : Nat := 0x6100 + 0x4 * i
abbrev FORE_MBOX_CMD : Nat := 0x6110
abbrev FORE_MBOX_STATUS : Nat := 0x6114
abbrev FORE_MBOX_OUTn (i : Nat) : Nat := 0x6118 + 0x4 * i
abbrev FORE_FW_STATUS : Nat := 0x6120
abbrev FORE_FW_RELEASE : Nat := 0x6124
abbrev FORE_WDOG : Nat := 0x6128
abbrev FORE_RESTARTS : Nat := 0x612C
abbrev FORE_SPLASH_PAGES : Nat := 0x6130
abbrev FORE_EVT : Nat := 0x6134
abbrev TMON_TJ : Nat := 0x5100
abbrev TMON_TJ_MAX : Nat := 0x5104
abbrev TMON_WARN : Nat := 0x5108
abbrev TMON_FATAL_LIM : Nat := 0x510C
abbrev PCIEX_CTRL : Nat := 0x10100
abbrev PCIEX_LINK_STATUS : Nat := 0x10104
abbrev PCIEX_LINK_DOWNS : Nat := 0x10108
abbrev PCIEX_RECOVERIES : Nat := 0x1010C
abbrev PCIEX_CORR_ERRS : Nat := 0x10110
abbrev PCIEX_UR_COUNT : Nat := 0x10114
abbrev PCIEX_CA_COUNT : Nat := 0x10118
abbrev PCIEX_DOWN_ACCESS : Nat := 0x1011C
abbrev PCIEX_CPL_TIMEOUTS : Nat := 0x10120
abbrev PCIEX_POISON_SENT : Nat := 0x10124
abbrev PCIEX_LTR_CFG : Nat := 0x10128
abbrev PCIEX_LTR_LAST : Nat := 0x1012C
abbrev PCIEX_PTM_CFG : Nat := 0x10130
abbrev PCIEX_PTM_CMD : Nat := 0x10134
abbrev PCIEX_PTM_STATUS : Nat := 0x10138
abbrev PCIEX_PTM_LO : Nat := 0x1013C
abbrev PCIEX_PTM_HI : Nat := 0x10140
abbrev PCIEX_PTM_HOST_LO : Nat := 0x10144
abbrev PCIEX_PTM_HOST_HI : Nat := 0x10148
abbrev PCIEX_PTM_RATIO : Nat := 0x1014C
abbrev PCIEX_LOCAL_TIME_LO : Nat := 0x10150
abbrev PCIEX_LOCAL_TIME_HI : Nat := 0x10154
abbrev PCIEX_BAR4_SIZE : Nat := 0x10158
abbrev PCIEX_L1_ENTRIES : Nat := 0x1015C

end R

end Sys2Proof.Machine
end

