-- ==== Sys2Proof/Machine/StripCodec.lean ====
section
/-! DEFINITION. The strip slot (R130, R131, R136) and the QZ strip format: decoder (R153 to R158) and encoder (R160). -/

namespace Sys2Proof.Machine

/-- One pixel of 10 bits per channel. -/
structure Px where
  r : Nat
  g : Nat
  b : Nat
deriving DecidableEq, Repr

/-- A pixel as the 32-bit word of a RAW strip (R131). -/
def Px.word (p : Px) : Nat := p.b % 1024 + p.g % 1024 * 1024 + p.r % 1024 * 1048576

/-- The pixel in a word. -/
def pxOfWord (w : Nat) : Px := ⟨w / 1048576 % 1024, w / 1024 % 1024, w % 1024⟩

def Px.zero : Px := ⟨0, 0, 0⟩

/-- Pixels of a strip. -/
abbrev stripW : Nat := 32

/-! ### Codes (R154, R156) -/

/-- Code lengths of the token symbols (R154). -/
def tokenLens : List Nat :=
  (List.range 36).map fun s => if s = 0 || s = 32 then 2 else if s < 10 then 6 else if s < 32 then 7 else 4

def tokenCode : List CodeWord := canonical tokenLens

/-- The classes in the order in which table `n` ranks them (R156). -/
def classOrder (n : Nat) : List Nat :=
  (n :: (List.range 11).flatMap fun d => (if n + (d + 1) ≤ 10 then [n + (d + 1)] else []) ++ (if d + 1 ≤ n then [n - (d + 1)] else []))

/-- Code lengths of the classes in table `n` (R156). -/
def classLens (n : Nat) : List Nat := (List.range 11).map fun c => min ((classOrder n).idxOf c + 1) 10

def classCode (n : Nat) : List CodeWord := canonical (classLens n)

/-- The class of a difference (R155): the number of bits of its magnitude. -/
def diffClass (d : Int) : Nat := if d.natAbs = 0 then 0 else Nat.log2 d.natAbs + 1

/-! ### Decoding -/

/-- The reference line at an offset (R153): `refs` holds the lines L − 1 and L − 2 of the strip that lie in its band. -/
def refLine (refs : List (List Px)) (l : Nat) : Option (List Px) := if l = 0 then none else refs[l - 1]?

/-- The predictor of a LIT at column `out.length` (R155). -/
def predictor (refs : List (List Px)) (out : List Px) : Px :=
  match refs with
  | up :: _ => up.getD out.length Px.zero
  | [] => out.getLast?.getD ⟨512, 512, 512⟩

/-- One difference code: the value decoded and the bits after it (R155). -/
def readDiff (code : List CodeWord) (bits : List Bool) : Option (Int × List Bool) :=
  match readSym code bits with
  | .sym k n =>
    let bits := bits.drop n
    if k = 0 then some (0, bits)
    else if bits.length < k then none
    else
      let neg := bits.headD false
      let m := 2 ^ (k - 1) + ofBits ((bits.drop 1).take (k - 1))
      some (if neg then -(m : Int) else m, bits.drop k)
  | _ => none

/-- A LIT channel value: predictor plus difference, within 0 to 1,023 (R158). -/
def litValue (p : Nat) (d : Int) : Option Nat :=
  let v : Int := p + d
  if 0 ≤ v && v ≤ 1023 then some v.toNat else none

/-- The pixels that a copy produces (R157), or none where its source is illegal (R158). -/
def copyPx (refs : List (List Px)) (out : List Px) (l : Nat) (o : Int) (len : Nat) : Option (List Px) :=
  let x := out.length
  if stripW < x + len then none
  else if l = 0 then
    let src : Int := x + o
    if 0 ≤ o || src < 0 then none
    else some ((List.range len).foldl (fun acc i => acc ++ [acc.getD (src.toNat + i) Px.zero]) out |>.drop x)
  else
    match refLine refs l with
    | none => none
    | some line =>
      let src : Int := x + o
      if src < 0 || (stripW : Int) < src + len then none
      else some ((line.drop src.toNat).take len)

/-- Decode tokens until 32 pixels stand (R154 to R158). -/
def decodeGo (cls : List CodeWord) (refs : List (List Px)) : Nat → List Bool → List Px → Option (List Px)
  | 0, _, _ => none
  | fuel + 1, bits, out =>
    if out.length = stripW then (if bits.length < 8 && bits.all (!·) then some out else none)
    else
      match readSym tokenCode bits with
      | .sym t n =>
        let bits := bits.drop n
        if t = 0 then
          let p := predictor refs out
          match readDiff cls bits with
          | none => none
          | some (dr, bits) =>
            match readDiff cls bits with
            | none => none
            | some (dg, bits) =>
              match readDiff cls bits with
              | none => none
              | some (db, bits) =>
                match litValue p.r dr, litValue p.g dg, litValue p.b db with
                | some r, some g, some b => decodeGo cls refs fuel bits (out ++ [⟨r, g, b⟩])
                | _, _, _ => none
        else if t ≤ 32 then
          match copyPx refs out 1 0 t with
          | some ps => decodeGo cls refs fuel bits (out ++ ps)
          | none => none
        else if bits.length < 11 then none
        else
          let col := ofBits (bits.take 6)
          let len := ofBits ((bits.drop 6).take 5) + 1
          if col = 63 then none
          else
            match copyPx refs out (t - 33) ((col : Int) - 31) len with
            | some ps => decodeGo cls refs fuel (bits.drop 11) (out ++ ps)
            | none => none
      | _ => none

/-- Decode a CODED payload with prefix table `table`. -/
def decodeStrip (table : Nat) (refs : List (List Px)) (payload : List Byte) : Option (List Px) :=
  decodeGo (classCode table) refs 33 (bytesBits payload) []

/-- The pixels of a RAW payload; bits [31:30] of each word are zero (R131, R136). -/
def rawPixels (payload : List Byte) : Option (List Px) :=
  let ws := (List.range stripW).map fun i => (wordAt payload (4 * i)).toNat
  if ws.all (· < 2 ^ 30) then some (ws.map pxOfWord) else none

/-- Check a strip slot and decode it (R136): `len?` is the length-table byte, absent where the table check is skipped.
`slot` holds the slot's 134 bytes. -/
def readSlot (len? : Option Nat) (table : Nat) (refs : List (List Px)) (slot : List Byte) : Option (List Px) :=
  let hdr := ofLe (slot.take 2)
  let len := hdr % 256
  let mode := hdr / 256 % 4
  let payload := (slot.drop 2).take len
  if len = 0 || 128 < len || 1024 ≤ hdr || 2 ≤ mode then none
  else if mode = 0 && len != 128 then none
  else if (match len? with | some t => t == 0 || t != len | none => false) then none
  else if crc32c (slot.take (2 + len)) != wordAt slot 130 then none
  else if mode = 0 then rawPixels payload
  else decodeStrip table refs payload

/-! ### Encoding (R160) -/

/-- Bits of one difference code. -/
def diffBits (cls : List CodeWord) (d : Int) : List Bool :=
  let k := diffClass d
  symBits cls k ++ (if k = 0 then [] else decide (d < 0) :: bitsLsb (k - 1) (d.natAbs - 2 ^ (k - 1)))

/-- The three differences of a LIT. -/
def litDiffs (p v : Px) : List Int := [(v.r : Int) - p.r, (v.g : Int) - p.g, (v.b : Int) - p.b]

/-- Code bits of a difference in table `n`. -/
def diffCost (n : Nat) (d : Int) : Nat := (classLens n).getD (diffClass d) 10 + diffClass d

/-- How far a copy from line offset `l`, source column `src`, matches the strip from column `x` on (R157, R158). -/
def matchLen (refs : List (List Px)) (px : List Px) (x l src : Nat) : Nat :=
  let line : List Px := if l = 0 then px else (refLine refs l).getD []
  let ok (i : Nat) : Bool :=
    decide (x + i < stripW) && decide (src + i < stripW) && line.getD (src + i) Px.zero == px.getD (x + i) Px.zero
  (((List.range stripW).takeWhile ok)).length

/-- A copy candidate: length, whether it is RUN, line offset, column offset. -/
structure Cand where
  len : Nat
  run : Bool
  l : Nat
  o : Int
deriving DecidableEq, Repr

/-- `a` is preferred to `b` (R160 step 2). -/
def Cand.better (a b : Cand) : Bool :=
  b.len < a.len ||
    (b.len == a.len && ((a.run && !b.run) || (a.run == b.run && (a.l < b.l || (a.l == b.l && a.o.natAbs < b.o.natAbs)))))

/-- The window positions before column `x`, nearest first: the strip itself from right to left, then line L − 1, then
line L − 2, each from right to left. (Log 59: DEDUCED, unsafe.) -/
def windowPos (refs : List (List Px)) (x : Nat) : List (Nat × Nat) :=
  ((List.range x).reverse.map fun c => (0, c)) ++
    (List.range refs.length).flatMap fun l => (List.range stripW).reverse.map fun c => (l + 1, c)

/-- The candidates at column `x`: RUN, and up to `depth` positions whose pixel has the current value (R160 step 1).
(Log 59: DEDUCED, unsafe.) -/
def candidates (refs : List (List Px)) (px : List Px) (depth x : Nat) : List Cand :=
  let v := px.getD x Px.zero
  let at_ (p : Nat × Nat) : Option Px := if p.1 = 0 then px[p.2]? else (refLine refs p.1).bind (·[p.2]?)
  let chain := ((windowPos refs x).filter fun p => at_ p == some v).take depth
  (if refs.isEmpty then [] else [⟨matchLen refs px x 1 x, true, 1, 0⟩]) ++
    chain.map fun p => ⟨matchLen refs px x p.1 p.2, false, p.1, (p.2 : Int) - x⟩

/-- Bits of a candidate's token. -/
def candBits (c : Cand) : List Bool :=
  if c.run then symBits tokenCode c.len
  else symBits tokenCode (33 + c.l) ++ bitsLsb 6 (c.o + 31).toNat ++ bitsLsb 5 (c.len - 1)

/-- What encoding gives: the bits, or none when they exceed 1,024, and the class bits of the LITs for each table. -/
structure Encoded where
  bits : Option (List Bool)
  totals : List Nat
deriving DecidableEq, Repr

/-- Class code bits of a LIT under each of the 8 tables (R161). (Log 59: DEDUCED, unsafe.) -/
def litTotals (ds : List Int) : List Nat :=
  (List.range 8).map fun n => ds.foldl (fun a d => a + (classLens n).getD (diffClass d) 10) 0

def addLists (a b : List Nat) : List Nat := List.zipWith (· + ·) a b

/-- The encoder's pass over a strip (R160). -/
def encodeGo (table depth : Nat) (refs : List (List Px)) (px : List Px) :
    Nat → Nat → List Bool → List Nat → Encoded
  | 0, _, bits, tot => ⟨some bits, tot⟩
  | fuel + 1, x, bits, tot =>
    if stripW ≤ x then ⟨some bits, tot⟩
    else
      let best := (candidates refs px depth x).foldl
        (fun (b : Option Cand) c => if c.len = 0 then b else match b with | none => some c | some y => if c.better y then some c else some y) none
      let litAt (i : Nat) : List Int := litDiffs (predictor refs (px.take i)) (px.getD i Px.zero)
      let litCost (i : Nat) : Nat := 2 + (litAt i).foldl (fun a d => a + diffCost table d) 0
      let use (c : Cand) : Bool := (candBits c).length ≤ ((List.range c.len).foldl (fun a i => a + litCost (x + i)) 0)
      match best.filter use with
      | some c =>
        let bits' := bits ++ candBits c
        if 1024 < bits'.length then ⟨none, tot⟩ else encodeGo table depth refs px fuel (x + c.len) bits' tot
      | none =>
        let ds := litAt x
        let bits' := bits ++ symBits tokenCode 0 ++ ds.flatMap (diffBits (classCode table))
        if 1024 < bits'.length then ⟨none, tot⟩
        else encodeGo table depth refs px fuel (x + 1) bits' (addLists tot (litTotals ds))

/-- What is written for a strip: whether RAW, the payload, and the class totals (R131, R160). -/
structure StripOut where
  raw : Bool
  payload : List Byte
  totals : List Nat
deriving DecidableEq, Repr

/-- Encode a strip of 32 pixels. -/
def encodeStrip (table depth : Nat) (refs : List (List Px)) (px : List Px) : StripOut :=
  let e := encodeGo table depth refs px 32 0 [] (List.replicate 8 0)
  match e.bits with
  | some bits => ⟨false, packBits 129 bits, e.totals⟩
  | none => ⟨true, px.flatMap fun p => leBytes 4 p.word, e.totals⟩

/-- The header and payload of a slot, and its CRC (R130). -/
def StripOut.head (o : StripOut) : List Byte := leBytes 2 (o.payload.length + (if o.raw then 0 else 256)) ++ o.payload

end Sys2Proof.Machine
end

