-- ==== Sys2Proof/Machine/State.lean ====
section
/-! DEFINITION. The state of the part: the register file, the stores, the engines' hidden state, what the part has sent,
and the queue of waiting commands; and the state right after COLD. -/

namespace Sys2Proof.Machine

/-- Why the model stops. No command of this block ends in a fault: the spec gives every command an effect. -/
inductive Fault where
  /-- Raised by nothing: every command of the table has an effect or none (safe: no run ends in it). -/
  | unreachable
deriving DecidableEq, Repr

/-- Commands the model gives no meaning to. -/
inductive Refusal where
  /-- A command without a meaning yet, by its mnemonic; raised only by an arm of `exec` (safe: the model stops). -/
  | notModelled (mnemonic : String)
deriving DecidableEq, Repr

/-- One part of the scan of a label panel (R274): the row that it stands for, and the shift words that go out in it. -/
inductive LblPart where
  | preamble
  | lead (row : Nat) (words : List (BitVec 16))
  | active (row : Nat) (next : List (BitVec 16))
  | skipped (row : Nat)
  | tail
deriving DecidableEq, Repr

/-- What the part sends, newest first in `State.sent`: requests on the link, replies, messages, rail requests,
column-driver words, gate levels and label scans. -/
inductive Out where
  /-- A memory read request to the host (R386). -/
  | hostRead (addr len : Nat)
  /-- A memory write to the host: data, write-backs, event entries, fences, interrupt messages (R386). -/
  | hostWrite (addr : Nat) (bytes : List Byte) (relaxed noSnoop : Bool)
  /-- The successful completion of a read. -/
  | reply (bytes : List Byte)
  /-- A poisoned completion of a read (R382). -/
  | replyPoisoned
  /-- Completer Abort (R382). -/
  | completerAbort
  /-- Unsupported Request (R392). -/
  | unsupported
  /-- Configuration Request Retry Status (R356, R392). -/
  | retryStatus
  /-- The completion of a configuration request. -/
  | configReply (v : Word)
  /-- A message of Advanced Error Reporting: the error's bit number in its status register, and whether it is an
  uncorrectable one (R390). -/
  | aer (uncorrectable : Bool) (bit : Nat)
  /-- An LTR message (R389). -/
  | ltr (v : Nat)
  /-- The request of a PTM dialog (R393). -/
  | ptmRequest
  /-- What the PMBus master sends in one transaction (R247, R302). -/
  | pmbus (bytes : List Byte)
  /-- An AVSBus voltage write in mV (R303). -/
  | avs (mv : Nat)
  /-- One 66-bit link word of a lane: its sync header and its body as it is sent, scrambled (R215). -/
  | laneWord (lane : Nat) (header : BitVec 2) (payload : DWord)
  /-- The scan of a label panel in one phase (R274). -/
  | labelScan (panel : Nat) (parts : List LblPart)
  /-- The label port drives LBL_SDOE and LBL_GDOE low, then every LBL_CS line, and then LBL_PWREN (R287). -/
  | labelOff
deriving DecidableEq, Repr

/-! ### Surface space (02) -/

/-- A staged page-entry write outside a transaction (R18, R19): which halves were written. -/
structure EntryStage where
  lo : Option Word
  loWritten : Bool
  hi : Word
deriving DecidableEq, Repr

/-- A pending retire command (R34 to R38). `left` are the pages it marked that are not yet released, `zeroing` the
frames whose zero fill it waits for. -/
structure RetireCmd where
  first : Nat
  count : Nat
  cookie : Word
  left : List Nat
  zeroing : List Nat
  frame : Nat
deriving DecidableEq, Repr

/-- A line of the remote-surface cache (R27): line `line` of page `page`, with its 4 KiB. -/
structure CacheLine where
  page : Nat
  line : Nat
  data : List Byte
deriving DecidableEq, Repr

/-- Who needs a fill: a half, for a line of a frame (R29). -/
structure FillNeed where
  half : Half
  line : Nat
deriving DecidableEq, Repr

/-- A fill in flight. An empty `needs` is a prefetch. -/
structure Fill where
  page : Nat
  line : Nat
  needs : List FillNeed
  discard : Bool
deriving DecidableEq, Repr

structure Surf where
  /-- Page entries (R16), unlisted 0. -/
  pageTab : SMap DWord
  /-- Lower halves held for the next upper-half write (R18). -/
  heldLo : SMap Word
  /-- Entry writes staged for the next latch (R19). -/
  staged : SMap EntryStage
  /-- Pending retire commands, at most 256 (R34). -/
  retires : List RetireCmd
  /-- Cache sets, each a list of lines, most recently used first (R27). -/
  cache : SMap (List CacheLine)
  /-- Fills in flight. -/
  fills : List Fill
  /-- Fills lost with the host that a line still to be composed needs (R29). -/
  lost : List Fill
  /-- Frames whose zero fill runs (R36). -/
  zeroing : List Nat
  /-- The last frame that read a page, by page (R35). -/
  lastRead : SMap Nat
  /-- SURF_FAULT was raised in this frame (R432). -/
  faultRaised : Bool
  /-- REMOTE_FETCH_ERROR was raised in this frame (R432). -/
  remoteRaised : Bool
deriving DecidableEq, Repr

/-! ### Queues, Hoist and event rings (03) -/

/-- A descriptor (R44). -/
structure Desc where
  src : DWord
  dst : DWord
  len : Word
  param : Word
  tok : Word
  ctl : Word
deriving DecidableEq, Repr

/-- What the part holds of a queue beside its context (R51 to R55). -/
structure QueueHid where
  /-- The descriptor read at HEAD with OWN = 1, until it has completed. -/
  desc : Option Desc
  /-- It is in a cage. -/
  incage : Bool
  /-- A read of the descriptor at HEAD is in flight. -/
  reading : Bool
  /-- Descriptors after HEAD that were read ahead with OWN = 1, in ring order, and the reads in flight of those that follow
  (R51). -/
  ahead : List Desc
  more : Nat
  /-- The descriptor that follows them was read ahead with OWN = 0 (R51). -/
  ended : Bool
  /-- Earlier reads in flight whose results are discarded (R64). -/
  stale : Nat
  /-- A doorbell arrived while the descriptor at HEAD was being read (R52). -/
  noted : Bool
  /-- The descriptor has been granted its event slot, and holds a reservation for it in the ring (R69). -/
  granted : Bool
  reserved : Bool
  /-- The descriptor at HEAD, held by a transaction, has been released (R55). -/
  released : Bool
  /-- The slot whose transaction holds the descriptor at HEAD (R55). -/
  heldBy : Option Nat
deriving DecidableEq, Repr

/-- Who a cage works for (R60). -/
inductive Owner where
  | queue (q : Nat)
  | chan (c : Nat)
deriving DecidableEq, Repr

/-- Where a transfer stands in its cage. -/
inductive CagePhase where
  /-- In the cage, not yet looked at: its DESC_ step is next. -/
  | start
  /-- Moving bursts (R56). -/
  | bursts
  /-- A FENCE that waits for a latch after its release (R49). -/
  | waitLatch
  /-- An INFLATE that waits for a lane (R170), or works in one. -/
  | waitLane
  | inflating (lane : Nat)
  /-- A CAPTURE that waits for the buffer, or holds it (R180). -/
  | waitBuffer
  | capturing
  /-- A LABEL whose rows move into LANDING (R283). -/
  | landing
  /-- All writes made: TRANSFER_COMPLETE writes it back with this status and residue (R54). -/
  | done (status residue : Nat)
deriving DecidableEq, Repr

/-- What an abort does to the queue once the descriptor has completed (R64). -/
inductive AbortKind where
  | stop
  | disable
  | reset
deriving DecidableEq, Repr

/-- Where a descriptor was read, kept for its completion after its queue has been disabled and may have changed (R42): the
host address and index of the descriptor, the index after it, its event ring, whether it holds a reservation there, and
whether the queue has been enabled anew. -/
structure Home where
  addr : Nat
  index : Nat
  next : Nat
  ring : Nat
  reserved : Bool
  anew : Bool
deriving DecidableEq, Repr

/-- A cage with a transfer (R60, R61). -/
structure Cage where
  owner : Owner
  desc : Desc
  phase : CagePhase
  /-- Address the next burst reads from and writes to. -/
  src : Nat
  dst : Nat
  /-- Bytes still to move. -/
  left : Nat
  /-- Bytes that no burst moves: the remainder of R57. -/
  rest : Nat
  /-- The unit a fixed source was read into (R57). -/
  unit : Option (List Byte)
  /-- Bytes of a LABEL's source that have landed (R283). -/
  landed : List Byte
  /-- Aborts that are due at the end of the burst, in their order, with their reason codes (R64). -/
  aborts : List (AbortKind × Nat)
  /-- The queue was disabled since the descriptor entered. -/
  home : Option Home
  /-- WAIT_LATCH: the number of the frame during which the FENCE was released (R49). -/
  relFrame : Word
deriving DecidableEq, Repr

/-- The active set of a channel holds the flags it was armed with (R63). -/
structure ChanHid where
  srcHost : Bool
  dstHost : Bool
  evt : Bool
  /-- CH_ABORT named the channel while its active set moves: the armed shadow set is aborted after it (R64). -/
  shAbort : Bool
  /-- The transfer is part of a STAGE: its destination is an address of device DRAM (R360). -/
  dram : Bool
deriving DecidableEq, Repr

/-- An event entry before its PHASE bit is known (R68). -/
structure Ev where
  w0 : Word
  w1 : Word
  w2 : Word
  w3 : Word
deriving DecidableEq, Repr

/-- What the part holds of an event ring beside its context (R69, R70). -/
structure RingHid where
  /-- The PHASE bit of the next entry. -/
  phase : Bool
  /-- Events waiting in the hold, with whether each has a reservation. -/
  hold : List (Ev × Bool)
  /-- Reservations held (R69). -/
  rsv : Nat
  /-- Events dropped since the hold was full, for EVENTS_LOST. -/
  dropped : Nat
  /-- Entries written since the last signal. -/
  unsig : Nat
  /-- The HOLDOFF timer runs. -/
  timer : Bool
deriving DecidableEq, Repr

structure Hoist where
  cages : SMap Cage
  chans : SMap ChanHid
  /-- The channel and the queue (by PRIO) served last (R60). -/
  lastChan : Nat
  lastQueue : Nat
  /-- The cage whose burst ended last, by priority (R61, R62). -/
  lastBurst : SMap Nat
deriving DecidableEq, Repr

/-! ### Transactions (04) -/

/-- One staged write (R79): register offset and value. -/
structure StagedWrite where
  off : Nat
  v : Word
deriving DecidableEq, Repr

/-- The instant at which a commit takes effect (R81, R82). -/
inductive Instant where
  | latch (frame : Word)
  | blanking
  | line
  | now (slot : Nat)
deriving DecidableEq, Repr

/-- A FLIP with TXN = 0 that is pending (R117, R118). -/
structure Flip where
  layer : Nat
  addr : DWord
  lineMode : Bool
  tag : Nat
  queue : Nat
deriving DecidableEq, Repr

/-- What the shadow store holds of a slot (R77 to R90). -/
structure SlotHid where
  /-- Held writes, oldest first. -/
  writes : List StagedWrite
  /-- Queues whose descriptor at HEAD this transaction holds, oldest first (R55). -/
  held : List Nat
  /-- Queues held while the slot was FAILED: not counted, not content (R55). -/
  heldFailed : List Nat
  /-- FLIPs of a waiting commit whose queues were lost as HOST went OFF (R93). -/
  flips : List Flip
  /-- DETAIL of the failure that made the slot FAILED (R90). -/
  detail : Word
  /-- Latches since opening (R90). -/
  age : Nat
  /-- Parameters of the accepted CMD. -/
  mode : Nat
  strictLate : Bool
  asap : Bool
  evt : Bool
  /-- The instant, once arrived. -/
  instant : Option Instant
deriving DecidableEq, Repr

structure Txn where
  slots : SMap SlotHid
  /-- Slots MERGING, in the order of their CMD writes (R83). -/
  merging : List Nat
  /-- Slots PENDING, in arrival order (R86). -/
  arrived : List Nat
  /-- Values staged outside transactions (R75), in the order in which they were staged: register offset and the word last
  written. -/
  direct : List (Nat × Word)
  /-- Latches counted for periodic audits (R99). -/
  auditCount : Nat
  /-- An audit's start is due at this latch (R99). -/
  auditDue : Bool
deriving DecidableEq, Repr

/-- One entry of the chip clamp log (R89). -/
structure ClampEntry where
  w0 : Word
  w1 : Word
  w2 : Word
  w3 : Word
deriving DecidableEq, Repr

/-! ### Scan and composition (05) -/

/-- What was fixed at the fetch start of a line: the addresses of the composed layers, and the 4 KiB lines of remote
pages that have arrived, keyed by page * 512 + line (R106, R27). -/
structure FetchLine where
  addrs : List Nat
  bufs : List (Nat × List Byte)
  missing : List Nat
  /-- Blocks of 64 B of device DRAM that were read with an uncorrectable error, by address / 64, with the bytes that came
  in their place (R326). -/
  bad : List (Nat × List Byte)
deriving DecidableEq, Repr

/-- What one half records over a frame. -/
structure HalfFrame where
  underFirst : Nat
  underCount : Nat
  overFirst : Nat
  overCount : Nat
  overMax : Nat
  fetchBytes : Nat
  /-- Late map words: first line, count (R190). -/
  uniFirst : Nat
  uniCount : Nat
  /-- Late aging words (R201). -/
  ageFirst : Nat
  ageCount : Nat
  /-- History faults: first line, strips, first strip, roles (R137). -/
  histFirst : Nat
  histStrip : Nat
  histCount : Nat
  histRoles : Nat
deriving DecidableEq, Repr

structure Scan where
  /-- Index of the blanking line, 0 at the latch line (R108). -/
  k : Nat
  /-- The end of the blanking has been fixed at index `e` (R108). -/
  endFixed : Bool
  e : Nat
  /-- A commit was applied in this frame, at its latch or in its blanking (R108). -/
  applied : Bool
  /-- The frame ran to b_max without a commit (R108). -/
  repeated : Bool
  /-- Length of the frame in progress so far, in lines. -/
  lines : Nat
  /-- The frame latch of the frame in progress has begun a frame at all: scan started. -/
  started : Bool
  /-- Pending flips with TXN = 0, oldest first (R117). -/
  flips : List Flip
  /-- Flips that raise FLIP_LINE when their line starts: layer and line (R117). -/
  flipLines : List (Nat × Nat)
  /-- H_ACTIVE and V_ACTIVE as the last latch left them (R133). -/
  geo : Nat × Nat
  /-- What was fixed at the fetch start of the lines ahead, by line (R106). -/
  fetch : SMap FetchLine
  /-- Per half, what this frame recorded. -/
  dawn : HalfFrame
  dusk : HalfFrame
deriving DecidableEq, Repr

/-! ### PCI Express (16) -/

structure Pcie where
  /-- Configuration space by byte offset of the 32-bit word (R380, R381). -/
  cfg : SMap Word
  /-- MSI-X table words by index of the 32-bit word (R384). -/
  msix : SMap Word
  /-- Vectors with a pending bit in the PBA, rising (R384). -/
  pba : List Nat
  /-- The function is in D3hot (R387). -/
  d3hot : Bool
  /-- The LTR value last required, once one was sent (R389). -/
  ltr : Option Nat
  /-- A PTM dialog is in progress (R393). -/
  ptmBusy : Bool
  /-- L and H of the dialog before the last, and whether a dialog has completed since HOST was last ON (R393, R394). -/
  ptmPrev : Option (DWord × DWord)
  ptmFresh : Bool
  /-- LOCAL_TIME of the last dialog's end. -/
  ptmAt : Nat
  /-- Requests that wait while the function is in D3hot, oldest first (R387). -/
  deferred : List Out
  /-- Values latched by reads of _LO registers: BAR0 offset of the _HI register, value (R395). -/
  hiLatch : List (Nat × Word)
deriving DecidableEq, Repr

/-! ### Power domains and clocks (13) -/

/-- Who issued a power request (R305, R311, R312, R354). -/
inductive ReqBy where
  | port (p : Port)
  | wake
  | autoOff
  | boot
deriving DecidableEq, Repr

/-- A running power request (R305, R306, R308). -/
structure PowerReq where
  by' : ReqBy
  mask : Nat
  /-- 0 ON, 1 RET, 2 OFF. -/
  target : Nat
  force : Bool
  /-- 1 QUIESCE, 2 GATE, 3 RAILS, 4 WAKE (R316). -/
  phase : Nat
  /-- Domains still to quiesce, to gate, to free of their rails, or to wake, in order; the first is worked on. -/
  todo : List Nat
  /-- Domains that the entry gates, in order. -/
  entry : List Nat
  /-- Pages of the domain worked on that are still to answer, and pages that have agreed. -/
  asking : List Nat
  agreed : List Nat
  /-- The page whose refusal a forced action resolves, and the reason (R306). -/
  forcing : Option (Nat × Nat)
  /-- Bindings of the domain worked on that are still to switch (R301), and the attempts made for the first of them. -/
  rails : List Nat
  attempts : Nat
  /-- The waking domain waits for its PLL (R308). -/
  pll : Bool
  /-- Domains that reached the target, as a mask. -/
  done : Nat
  /-- A wake has failed; the domains that have failed or been refused (R309). -/
  failed : List Nat
  /-- State of the domain worked on before its transition. -/
  was : Nat
  /-- Reason and page of its last refusal (R314). -/
  reason : Nat
  page : Nat
  /-- Blocks that did not answer, which their regions isolate (R306). -/
  isolated : List Nat
deriving DecidableEq, Repr

structure Power where
  req : Option PowerReq
  /-- GPIO inputs that are high (R311). -/
  levels : List Nat
  /-- The latch of wake source 8, and the level of PERST#: low (R311). -/
  perstLatch : Bool
  perstLow : Bool
  /-- Retention of each composer: 0 none, 1 held, 2 leaving (R296). -/
  compDawn : Nat
  compDusk : Nat
  /-- ROOT does not run: the crystal is stopped under R300 or restarts after it; ROOT relocks on RC under R299. -/
  asleep : Bool
  starting : Bool
  relock : Bool
  /-- An AVSBus write is outstanding: its target in mV and the attempts made; MODE 1 stepping is stopped; the last
  requested target (R303). -/
  avsWrite : Option (Nat × Nat)
  avsStopped : Bool
  avsTarget : Nat
  /-- KCLK cycles towards the next count of PWR.TIMER (R311). -/
  msPhase : Nat
  /-- The bit in RESET_CAUSE of a HOST-SIDE reset that waits for the wake of HOST to end (R313); 0 none. -/
  resetDue : Nat
  /-- The request of AUTO_OFF is to be issued (R312). -/
  autoOff : Bool
deriving DecidableEq, Repr
/-! ### History and overdrive (06) -/

/-- What a half holds of its history beside its registers (R127 to R137, R160, R161). Keys of the tables are
set × 2^20 + slot index. -/
structure HistHid where
  /-- Length-table bytes (R129), unlisted 0. -/
  lengths : SMap Nat
  /-- Protection flags of the strips written (R264), unlisted 0. -/
  prot : SMap Nat
  /-- Causes 3 and 4 of R133 that wait for the latch. -/
  causeOff : Bool
  causeCmd : Bool
  /-- Prefix table of the frame being composed (R161). -/
  tableUsed : Nat
  /-- Class code bits of the frame for each table (R161). -/
  totals : List Nat
  /-- A composed frame has been coded since RUN last went to 1 (R161). -/
  coded : Bool
  /-- The copy of ENC_CFG (R160). -/
  depth : Nat
  /-- Strips of the lines above in the band being written, nearest line first (R153). -/
  recent : List (List (List Px))
  /-- Reads of this band and of the lines ahead that did not simply pass, keyed by (role × 2^14 + line) × 2^7 + strip:
  1 re-fetch in flight, 2 re-fetch of the whole slot in flight, 3 passed, 4 failed, 5 passed with the header's length,
  6 failed through its reference line (R136, R159). -/
  reads : SMap Nat
  /-- RAW strips and bytes of the frame in progress (R149). -/
  rawStrips : Nat
  bytes : Nat
deriving DecidableEq, Repr

/-- What overdrive holds beside its registers (R140 to R145). -/
structure OdHid where
  /-- A reading was valid since RUN last went to 1, and the present invalid reading was reported (R141). -/
  everValid : Bool
  stale : Bool
  /-- The temperature index and the frame-time bucket of the current frame, for both halves (R141, R142). -/
  idx : Nat
  bucket : Nat
  /-- Table entries of both halves, keyed by ((half × 2 + bank) × 2^16 + entry), unlisted 0 (R143). -/
  tables : SMap Nat
  /-- The bank whose seal runs (R145). -/
  sealing : Option Nat
  /-- The half's active bank lost its seal through a march (R140). -/
  lostDawn : Bool
  lostDusk : Bool
deriving DecidableEq, Repr

def HistHid.init : HistHid := ⟨[], [], false, false, 1, List.replicate 8 0, false, 8, [], [], 0, 0⟩
def OdHid.init : OdHid := ⟨false, false, 0, 0, [], none, false, false⟩

/-! ### Compression (07) -/

/-- A job context (R173, R185), SUSPENDED or, while a continuation holds it, ACTIVE. (Log 126: DESIGN CHOICE, safe.) -/
structure JobCtx where
  active : Bool
  queue : Nat
  index : Nat
  src : DWord
  len : Word
  sealed : Bool
  keySlot : Nat
  qz : QzState
  /-- Of a sealed job: its IV and additional data, its ciphertext length, and the ciphertext read so far (R177). -/
  iv : List Byte
  aad : List Byte
  ctLen : Nat
  ctSeen : List Byte
deriving DecidableEq, Repr

/-- The CAPTURE that holds the capture buffer (R180). (Log 126: DESIGN CHOICE, safe.) -/
structure Capture where
  cage : Nat
  /-- Its target frame, and whether that frame runs. -/
  target : Word
  running : Bool
  /-- The target frame has ended. -/
  ready : Bool
  lane : Option Nat
  /-- The buffer: the rectangle's pixels so far. -/
  buf : List Byte
deriving DecidableEq, Repr

structure CmpHid where
  ctxs : SMap JobCtx
  capture : Option Capture
deriving DecidableEq, Repr

def CmpHid.init : CmpHid := ⟨[], none⟩

/-! ### Assay and keys (11) -/

structure SealHid where
  /-- Words staged in KEY_DATA, with their written marks. -/
  data : SMap Word
  /-- The running command: slot and operation. -/
  op : Option (Nat × Nat)
  /-- The key words taken by a running PROGRAM. -/
  opKey : List Byte
deriving DecidableEq, Repr

def SealHid.init : SealHid := ⟨[], none, []⟩

/-- The running checksums of a frame (R260), before the final XOR, and the protection seen (R266). -/
structure AssayRun where
  frame : Word
  dawn : Word
  dusk : Word
  rects : SMap Word
  protDawn : Bool
  protDusk : Bool
  protRects : List Nat
deriving DecidableEq, Repr

def AssayRun.init : AssayRun := ⟨0xFFFFFFFF#32, 0xFFFFFFFF#32, 0xFFFFFFFF#32, [], false, false, []⟩

/-- One rectangle of a frame that has ended: its CRC, whether it is hidden, and whether it fails its comparison. -/
structure RectResult where
  n : Nat
  crc : Word
  prot : Bool
  failed : Bool
deriving DecidableEq, Repr

/-- The results of a frame that wait to be published (R263). -/
structure AssayPub where
  frameNo : Word
  crc : Word
  dawn : Word
  dusk : Word
  protDawn : Bool
  protDusk : Bool
  failed : Bool
  onceMode : Bool
  rects : List RectResult
deriving DecidableEq, Repr

structure Assay where
  run : AssayRun
  pub : Option AssayPub
  /-- With EVT_MODE = 1 the next failing frame raises the event (R263). -/
  armed : Bool
  /-- Which published checksums cover protected strips: of the frame, of each half, and of the rectangles (R266). -/
  protFrame : Bool
  protDawn : Bool
  protDusk : Bool
  protRects : List Nat
deriving DecidableEq, Repr

def Assay.init : Assay := ⟨AssayRun.init, none, true, false, false, false, []⟩

/-! ### Uniformity and aging (08) -/

/-- A running seal of a map bank (R192). -/
structure UniSeal where
  bank : Nat
  mode : Bool
  bw : Nat
  bh : Nat
deriving DecidableEq, Repr

/-- The place of an aging checkpoint record in the NAND ring (R202): its first erase block of the ring, its length in bytes,
and the SEQ that it was given. What the record holds is read from the NAND. -/
structure RingRec where
  block : Nat
  len : Nat
  seq : Word
deriving DecidableEq, Repr

structure AgeHid where
  /-- PCLK cycles and latches since the last sample (R199). -/
  cycles : Nat
  latches : Nat
  /-- The frame in progress is a sample frame, with its temperature weight (R199, R200). -/
  sampling : Bool
  weight : Nat
  /-- The last valid temperature since RUN went to 1 (R200). -/
  lastTemp : Option Int
  /-- New saturations in the sample frame (R199). -/
  saturated : Nat
  /-- The y2 values of the line above, both halves, while a sample frame runs. -/
  above : List (List Nat)
  /-- Late compensation words and unreadable updates of the block row in progress. -/
  late : List LateWord
  skip : List LateWord
  /-- A checkpoint is requested and waits for its domains (R202). -/
  wanted : Bool
  /-- The next checkpoint is a BASE because the last one failed, or the last restore was not complete (R202). -/
  needBase : Bool
  /-- STORE has stayed ON since READY was last set (R198). -/
  intact : Bool
  /-- Records in the ring, oldest first. -/
  ring : List RingRec
  /-- The next erased block of the ring (R202). -/
  ringPos : Nat
  /-- Checkpoints completed since COLD. -/
  made : Nat
deriving DecidableEq, Repr

def AgeHid.init : AgeHid := ⟨0, 0, false, 0, none, 0, [], [], [], false, true, false, [], 0, 0⟩

/-! ### SahkanLink (09) -/

/-- A data block that has been sent and whose LINK_NACK sample is still to come (R225): its line, its index, when its
sample is taken in eighths of a PCLK cycle of that link line, whether LOAD of the line has been sent, and whether the block has
been counted as unrecovered. -/
structure SentBlock where
  line : Nat
  index : Nat
  due : Nat
  closed : Bool
  counted : Bool
deriving DecidableEq, Repr

/-- What a lane holds beside its registers (R226 to R230). -/
structure LaneHid where
  /-- Training: attempts made, and CONFIG and test lines are being sent. -/
  attempts : Nat
  testing : Bool
  /-- Blocks queued for re-send, each with the time from which it may go, and the re-sends of this line. -/
  queue : List (Nat × Nat)
  resent : Nat
  /-- The time at which the lane's next word begins, in eighths of a PCLK cycle of the link line in progress. -/
  free : Nat
  /-- The last 58 bits sent after scrambling, the newest in bit 0 (R215). -/
  scr : Nat
  /-- The number of words since the last listed one is known, and with it `free` and `scr`. -/
  synced : Bool
  /-- A link line is in progress, before its LOAD. -/
  inLine : Bool
  /-- Blocks sent whose samples are to come, oldest first. -/
  waiting : List SentBlock
  /-- Every sample so far of the line whose samples are being taken read high; consecutive lines of only such samples. -/
  allHigh : Bool
  sampled : Bool
  stuck : Nat
  /-- Unrecovered blocks of the frame. -/
  unrec : Nat
deriving DecidableEq, Repr

def LaneHid.init : LaneHid := ⟨0, false, [], 0, 0, 0, false, false, [], true, false, 0, 0⟩

/-- A scan line on its way to the lanes: its pixels after stage 6, and the LINK settings of its frame (R107, R221). A line of
vertical blanking carries no blocks. -/
structure LinkLine where
  line : Nat
  blank : Bool
  pixels : List (List Nat)
  /-- START, LOAD_POS and the length of the line, in PCLK cycles. -/
  start : Nat
  loadPos : Nat
  len : Nat
  resendMax : Nat
  depth8 : Bool
  cfgs : List Word
deriving DecidableEq, Repr

structure Link where
  lanes : SMap LaneHid
  /-- Lines not yet sent, oldest first, and the line being sent. -/
  lines : List LinkLine
  cur : Option LinkLine
  /-- Length of the link line in progress, in PCLK cycles. -/
  len : Nat
  /-- Lanes of the running training command. -/
  training : List Nat
  /-- A SOURCE_MODE that waits for a link line without blocks (R231). -/
  mode : Option Nat
  /-- Of this frame: first unrecovered block's lane and line, unrecovered blocks, late blocks. -/
  firstLane : Nat
  firstLine : Nat
  unrec : Nat
  late : Nat
deriving DecidableEq, Repr

def Link.init : Link := ⟨[], [], none, 0, [], none, 0, 0, 0, 0⟩


/-! ### Panel power (10) -/

/-- What HVD holds beside its registers (R242 to R252). Rails are 0 AVDD, 1 VGL, 2 VGH. -/
structure Hvd where
  /-- Discharge switches: closed (R243). Those of the references follow `refs` and OUT_EN. -/
  swAvdd : Bool
  swVgl : Bool
  swVgh : Bool
  swGates : Bool
  /-- The reference buffers are powered: from step 2 of power-up to step 6 of power-down (R242). -/
  refs : Bool
  /-- The running power-down uses the power-fail variant (R252), and a rail request has failed (R254). -/
  powerFail : Bool
  failed : Bool
  /-- Rails requested on since power-up began (R251). -/
  requested : List Nat
  /-- Magnitudes of AVDD, VGL and VGH in mV, as their monitors last saw them (R246). -/
  railMv : List Nat
  /-- Attempts made of the request that the step waits for (R247). -/
  attempts : Nat
  /-- Latches since START (R250). -/
  latches : Nat
  /-- The level of PFW# as the part has detected it: low. -/
  pfwLow : Bool
  /-- KCLK cycles since the backlight's PWM period began (R244). -/
  blPhase : Nat
  /-- The last conversions of each thermistor since its EN was set, newest first, at most 8 (R245). -/
  therm0 : List Nat
  therm1 : List Nat
  /-- The registers of GATE and the scan timing of the frame that the last latch ended (R107, R234). -/
  gateEnded : SMap Word
deriving DecidableEq, Repr

/-- (Log 3: DESIGN CHOICE, unsafe.) -/
def Hvd.init : Hvd := ⟨true, true, true, true, false, false, false, [], [0, 0, 0], 0, 0, false, 0, [], [], []⟩

/-! ### The label port (12) -/

/-- A label update, pending or running (R283, R284). -/
structure LabelUpd where
  panel : Nat
  mode : Nat
  x : Nat
  y : Nat
  w : Nat
  h : Nat
  clear : Bool
  queue : Nat
  tag : Nat
  /-- Of a running update: slot, range, length in phases, phase index, journal word. -/
  slot : Nat
  range : Nat
  len : Nat
  phase : Nat
  word : Nat
  /-- Of a running update: its part of the working store, one byte per pixel, present gray and target gray × 16. -/
  store : List Nat
deriving DecidableEq, Repr

/-- An interrupted record: its panel, its journal word's index and the grid cells that the word names (R286, R287). -/
structure LabelRec where
  panel : Nat
  word : Nat
  x0 : Nat
  x1 : Nat
  y0 : Nat
  y1 : Nat
deriving DecidableEq, Repr

/-- (Log 126: DESIGN CHOICE, safe.) -/
structure LabelHid where
  /-- CURRENT and REQUEST planes, keyed by (panel × 2^11 + line) × 2^11 + column; an unlisted pixel of CURRENT shows
  `fill`, one of REQUEST 0 (R277, R278). -/
  cur : SMap Nat
  fill : Nat
  req : SMap Nat
  /-- The CURRENT planes are still to be filled (R278). -/
  stale : Bool
  /-- Bytes of the waveform store, keyed by ((mode × 16 + range) × 256 + phase) × 64 + byte (R281). -/
  wf : SMap Byte
  /-- Pending entries of all panels in arrival order, running updates, interrupted records. -/
  pend : List LabelUpd
  run : List LabelUpd
  recs : List LabelRec
  /-- Descriptors that use or wait for LANDING: panel and cage, in the order in which they came (R283). -/
  landing : List (Nat × Nat)
  /-- A stop is due at the next phase boundary (R287). -/
  stopDue : Bool
  /-- The port refuses new descriptors for a shutdown (R362). -/
  closing : Bool
  /-- The journal pointer, held in KEEP (R286). -/
  ptr : Nat
deriving DecidableEq, Repr

def LabelHid.init : LabelHid := ⟨[], 15, [], true, [], [], [], [], [], false, false, 0⟩

/-! ### Memories and maintenance (14) -/

/-- The persistent store (R332 to R335): words by index, unlisted 0; accepted writes still to be made, oldest first; the
number of writes made to each word. -/
structure PStore where
  words : SMap Word
  buf : List (Nat × Word)
  wear : SMap Nat
deriving DecidableEq, Repr

/-- (Log 10: PRESUMED, unsafe.) -/
def PStore.init : PStore := ⟨[], [], []⟩

/-- A maintenance activity, running or queued (R342, R343). -/
structure MaintReq where
  act : Nat
  /-- Of a MAPLOAD: the kind of its image, and the image's location (R353, R360). -/
  kind : Nat
  loc : Word
  /-- Of a MARCH: first cell, number of cells, PRESERVE mode. -/
  first : Nat
  count : Nat
  preserve : Bool
  /-- KCLK cycles since COLD at its start. -/
  start : Nat
deriving DecidableEq, Repr

structure Mem where
  /-- The scratchpad by word, unlisted 0. -/
  scratch : SMap Word
  /-- Redirections in force: cell × 256 + row, with the spare row that serves it (R321). -/
  repairs : SMap Nat
  /-- Spare rows used, by cell. -/
  spares : SMap Nat
  /-- Cells counted as exhausted. -/
  exhausted : List Nat
  /-- Corrected errors counted in a row since COLD, by cell × 256 + row (R321). -/
  corrs : SMap Nat
  /-- Repairs and exhausted cells that SRAMC's registers have yet to show, because STORE was OFF (R322, R337). -/
  offRepairs : Nat
  offExhausted : Nat
  /-- KCLK cycles that the scrub has spent on the frame of SCRUB_POS (R327). -/
  scrubPhase : Nat
  /-- Aborts in a row of the region that Canary tests, and a retry is due (R341). -/
  aborts : Nat
  retry : Bool
  /-- NAND: bytes of the partitions by logical address, unlisted 0xFF. -/
  nand : SMap Byte
  /-- The remap table: logical block to physical block, unlisted itself; erase counts by physical block; blocks of the
  spare pool taken in ascending order, and blocks that went back to it; blocks replaced (R329, R331). -/
  remap : SMap Nat
  erases : SMap Nat
  poolTaken : Nat
  poolBack : List Nat
  bad : Nat
  /-- Blocks to be rewritten at the next NANDREFRESH (R331). -/
  refresh : List Nat
  /-- The maintenance arbiter (R343). -/
  running : List MaintReq
  queued : List MaintReq
deriving DecidableEq, Repr

/-- (Log 10: PRESUMED, unsafe.) -/
def Mem.init : Mem := ⟨[], [], [], [], [], 0, 0, 0, 0, false, [], [], [], 0, [], 0, [], [], []⟩


/-! ### Start-up, resets and the mailbox (15) -/

/-- Where start-up stands (R354, R355). -/
inductive BootStep where
  /-- ROOT is to lock. -/
  | root
  /-- The march of R337 runs. -/
  | march
  /-- STORE, MAP and FORE wake; whether the request has been issued. -/
  | wake (asked : Bool)
  /-- The DRAM is trained. -/
  | dram
  /-- Foreman applies the register list, from pair `n` on (R354). -/
  | list (n : Nat)
  /-- HOST wakes, before READY; whether the request has been issued. -/
  | host (asked : Bool)
  /-- Nothing is waited for. -/
  | idle
  /-- The part is in COLD: VDD_KEEP is below its threshold (R413). -/
  | cold
deriving DecidableEq, Repr

/-- The result of a mailbox command (R361); none where the spec states no value. -/
structure MboxResult where
  code : Nat
  detail : Option Nat
  out0 : Option Word
  out1 : Option Word
deriving DecidableEq, Repr

/-- A mailbox command that runs (R360). -/
structure Mbox where
  op : Nat
  seq : Nat
  /-- MBOX_ARG0 to ARG2 as the command found them. -/
  a0 : Word
  a1 : Word
  a2 : Word
  /-- Its result, once it is known. -/
  result : Option MboxResult
  /-- STAGE: bytes copied so far, and whether a transfer of CH12 runs. -/
  pos : Nat
  moving : Bool
  /-- SHUTDOWN: its step of R362; updates interrupted before it; records in the aging ring before it. -/
  step : Nat
  interrupted : Nat
  ckpts : Nat
deriving DecidableEq, Repr

structure Boot where
  step : BootStep
  /-- The step has failed once (R355); at rest, FORE has not woken, and start-up is to go on from step 5 once it does. -/
  again : Bool
  /-- BOOTSEL as sampled (R409). -/
  bootsel : Nat
  /-- The boot record in use: its first word in PERS_BOOT (R353). -/
  record : Option Nat
  /-- Foreman runs (R354); the boot sequencer serves the mailbox instead, in recovery (R359). -/
  foreman : Bool
  recovery : Bool
  /-- The image that runs, 0 A or 1 B, and whether it is in its trial (R364). -/
  image : Nat
  trial : Bool
  /-- Images that passed their last check (R376). -/
  passed : List Nat
  /-- Kinds of images still to load after start-up or a wake, in order (R354). -/
  loads : List Nat
  /-- Domains that have left OFF and whose reserved stores Foreman is still to place (R328, R352). -/
  unplaced : List Nat
  /-- The splash list is committed; RUN follows once its merge has ended (R354). -/
  runDue : Bool
  mbox : Option Mbox
  /-- An MBOX_DONE that waits for the end of a HOST-SIDE reset (R373). -/
  owed : Option Ev
  /-- Step of the full-scope sequence in progress (R350); 0 none. -/
  full : Nat
  /-- The fatal path waits for the end of the discharge: its checkpoint is then due (R371). -/
  fatalWait : Bool
  fatalCkpt : Bool
  /-- Port timeouts since the last frame latch: region, and KCLK cycles since COLD (R368). -/
  timeouts : List (Nat × Nat)
  /-- Consecutive readings at FATAL_LIM, and TJ_WARN not yet armed again (R369). -/
  hot : Nat
  warned : Bool
deriving DecidableEq, Repr

/-- (Log 3: DESIGN CHOICE, unsafe.) -/
def Boot.init : Boot := ⟨.root, false, 0, none, false, false, 0, false, [], [], [], false, none, none, 0, false, false, [], 0, false⟩

/-! ### The whole state -/

/-- The state of the part. -/
structure State where
  /-- The commands waiting, first in, first out. -/
  pending : List Instr
  /-- What the part has sent, newest first. -/
  sent : List Out
  /-- The model's counter of free values. -/
  freeCtr : Nat
  /-- KCLK cycles since COLD (R297). -/
  keepCycles : Nat
  /-- KCLK cycles towards the next second of CHIP.UPTIME (R375). -/
  secPhase : Nat
  /-- The register file by BAR0 offset; an unlisted register holds its reset value. -/
  regs : SMap Word
  /-- A summary signal is owed because HOST was not ON (R401). -/
  summaryOwed : Bool
  /-- A HOST-SIDE reset is in progress (R349). -/
  hostReset : Bool
  /-- The chip clamp log, by entry index (R89). -/
  clampLog : SMap ClampEntry
  /-- Device DRAM by byte address (R21). -/
  dram : SMap Byte
  surf : Surf
  queues : SMap QueueHid
  rings : SMap RingHid
  hoist : Hoist
  txn : Txn
  scan : Scan
  pcie : Pcie
  power : Power
  histDawn : HistHid
  histDusk : HistHid
  od : OdHid
  cmp : CmpHid
  keys : SealHid
  assay : Assay
  uniSeal : Option UniSeal
  uniLate : List LateWord
  age : AgeHid
  link : Link
  hvd : Hvd
  label : LabelHid
  pstore : PStore
  mem : Mem
  boot : Boot
deriving DecidableEq, Repr

def QueueHid.init : QueueHid := ⟨none, false, false, [], 0, false, 0, false, false, false, false, none⟩
def RingHid.init : RingHid := ⟨true, [], 0, 0, 0, false⟩
def ChanHid.init : ChanHid := ⟨false, false, false, false, false⟩
def SlotHid.init : SlotHid := ⟨[], [], [], [], 0, 0, 0, false, false, false, none⟩
def HalfFrame.init : HalfFrame := ⟨0, 0, 0, 0, 0, 0, 0, 0, 0, 0, 0, 0, 0, 0⟩
def Surf.init : Surf := ⟨[], [], [], [], [], [], [], [], [], false, false⟩
def Hoist.init : Hoist := ⟨[], [], 15, 8191, []⟩
def Txn.init : Txn := ⟨[], [], [], [], 0, false⟩
def Scan.init : Scan := ⟨0, false, 0, false, false, 0, false, [], [], (8, 16), [], HalfFrame.init, HalfFrame.init⟩
def Pcie.init : Pcie := ⟨[], [], [], false, none, false, none, false, 0, [], []⟩
/-- (Log 3: DESIGN CHOICE, unsafe.) -/
def Power.init : Power := ⟨none, [], false, false, 0, 0, false, false, false, none, false, 750, 0, 0, false⟩

/-- The part right after COLD (R348, R354): every register at its reset value, every store that COLD clears empty,
KEEP ON and every other domain OFF, nothing sent and no command waiting. (Log 3: DESIGN CHOICE, unsafe.) -/
def State.reset : State where
  pending := []
  sent := []
  freeCtr := 0
  keepCycles := 0
  secPhase := 0
  regs := []
  summaryOwed := false
  hostReset := false
  clampLog := []
  dram := []
  surf := Surf.init
  queues := []
  rings := []
  hoist := Hoist.init
  txn := Txn.init
  scan := Scan.init
  pcie := Pcie.init
  power := Power.init
  histDawn := HistHid.init
  histDusk := HistHid.init
  od := OdHid.init
  cmp := CmpHid.init
  keys := SealHid.init
  assay := Assay.init
  uniSeal := none
  uniLate := []
  age := AgeHid.init
  link := Link.init
  hvd := Hvd.init
  label := LabelHid.init
  pstore := PStore.init
  mem := Mem.init
  boot := Boot.init

end Sys2Proof.Machine
end

