-- ==== Sys2Proof/Machine/Ops.lean ====
section
/-! DEFINITION. Shared operations over the state: registers and their fields, domains, sparse stores, counters, and what
the part sends. -/

namespace Sys2Proof.Machine

/-! ### Pages, regions and domains (R8, R293, R96) -/

/-- Power domain of a register page (R8), as numbered in R293. -/
def pageDomain (page : Nat) : Nat :=
  if page = 0x06 then 1
  else if page = 0x16 then 3
  else if page ≤ 0x07 then 0
  else if page ≤ 0x0A then 4
  else if page = 0x0B then 5
  else if page ≤ 0x17 then 2
  else if page = 0x20 then 0
  else if page ≤ 0x26 then 6
  else if page ≤ 0x36 then 7
  else if page = 0x41 then 8
  else if page = 0x44 then 10
  else 9

/-- Region of a register page (R96): 0 Keep, 1 Host, 2 Store, 3 Dawn, 4 Dusk, 5 Panel; 7 for CHIP and SCAN. -/
def pageRegion (page : Nat) : Nat :=
  if page = 0x00 || page = 0x20 then 7
  else if page ≤ 0x07 then 0
  else if page ≤ 0x0B then 2
  else if page ≤ 0x17 then 1
  else if page ≤ 0x26 then 3
  else if page ≤ 0x36 then 4
  else 5

/-- The register pages of a domain, rising (R8). -/
def domainPages (d : Nat) : List Nat := pageList.filter fun p => pageDomain p == d

/-- The domain that a BAR0 offset belongs to (R8, R396). -/
def offDomain (off : Nat) : Nat :=
  if off < 0x100000 then pageDomain (off / 0x1000)
  else if off < 0x150000 then 2
  else if 0x151000 ≤ off && off < 0x152000 then 0
  else if off < 0x170000 then 4
  else if off < 0x190000 then 6
  else if off < 0x1A0000 then 3
  else if off < 0x1C0000 then 10
  else if off < 0x400000 then 0
  else if off < 0x800000 then 1
  else 4

/-! ### Reset words -/

/-- The registers of a page that hold RWS fields, with the mask of those fields, in ascending offset (R95). -/
def rwsMasks (page : Nat) : SMap Nat :=
  let base := if isDuskPage page then page - 0x10 else page
  let add (m : SMap Nat) (f : FieldSpec) : SMap Nat :=
    if f.acc = .rws then
      (List.range f.cnt).foldl
        (fun m i =>
          let o := f.off + f.stride * i
          if isDuskPage page && dawnOnly page (o % 0x1000) then m
          else SMap.insert m (o % 0x1000) (SMap.get (fun _ => 0) m (o % 0x1000) + place f.lo f.w (2 ^ f.w - 1)))
        m
    else m
  (pageSpecs base).foldl add []

/-- The digest of a page whose registers read as `val` says, by offset within the page (R95). -/
def digestOf (page : Nat) (val : Nat → Word) : Word :=
  match rwsMasks page with
  | [] => 0
  | ms => crc32c (ms.flatMap fun e => leBytes 4 (val e.1 &&& BitVec.ofNat 32 e.2).toNat)

/-- The reset values of the fields of a register, as one word. -/
def fieldResets (fs : List FieldSpec) : Nat := fs.foldl (fun a f => a + place f.lo f.w f.rst) 0

/-- BLK_ID of a page (R398): page, domain, region and revision 0x01. -/
def blkId (page : Nat) : Nat := page + pageDomain page * 0x100 + pageRegion page * 0x1000 + 0x10000

/-- The word an unlisted register holds: its reset value (R5, R398). (Log 15: DEDUCED, safe.) -/
def resetWord (off : Nat) : Word :=
  if off < 0x100000 && off % 0x1000 = 0 && pageUsed (off / 0x1000) then BitVec.ofNat 32 (blkId (off / 0x1000))
  else if off < 0x100000 && off % 0x1000 = 0x34 && pageUsed (off / 0x1000) then
    digestOf (off / 0x1000) fun po => BitVec.ofNat 32 (fieldResets (fieldsAt (off / 0x1000 * 0x1000 + po)))
  else BitVec.ofNat 32 (fieldResets (fieldsAt off))

/-! ### Registers -/

/-- The word held at a BAR0 offset. -/
def State.rd (s : State) (off : Nat) : Word := SMap.get resetWord s.regs off

/-- The state with `v` held at a BAR0 offset. -/
def State.wr (s : State) (off : Nat) (v : Word) : State := { s with regs := SMap.set resetWord s.regs off v }

/-- A word with the bits [lo + w - 1 : lo] replaced by `v` cut to `w` bits. -/
def putBits (x : Word) (lo w v : Nat) : Word :=
  (x &&& ~~~(BitVec.ofNat 32 (place lo w (2 ^ w - 1)))) ||| BitVec.ofNat 32 (place lo w v)

/-- The value of a field. -/
def State.fld (s : State) (f : Fld) : Nat := bitsOf (s.rd f.off) f.lo f.w

/-- Whether a one-bit field is 1. -/
def State.bit (s : State) (f : Fld) : Bool := s.fld f == 1

/-- The state with a field set; the value is cut to the field's width. -/
def State.setFld (s : State) (f : Fld) (v : Nat) : State := s.wr f.off (putBits (s.rd f.off) f.lo f.w v)

/-- The state with a one-bit field set from a truth value. -/
def State.setBit (s : State) (f : Fld) (b : Bool) : State := s.setFld f (b2n b)

/-- A counter raised by `n`; it saturates at its all-ones value (R398, R72, R100 and others). -/
def State.bump (s : State) (f : Fld) (n : Nat := 1) : State := s.setFld f (min (s.fld f + n) (2 ^ f.w - 1))

/-- A field of the common header (R398). -/
def hdrFld (page off lo w : Nat) : Fld := ⟨page * 0x1000 + off, lo, w⟩

/-! ### Domains (R293) -/

/-- 0 OFF, 1 RET, 2 ON, 3 in transition (R316). -/
def State.domState (s : State) (d : Nat) : Nat := s.fld F.PWR_STATE_STATE / 4 ^ d % 4

def State.domOn (s : State) (d : Nat) : Bool := s.domState d == 2

def State.setDom (s : State) (d v : Nat) : State :=
  let x := s.fld F.PWR_STATE_STATE
  s.setFld F.PWR_STATE_STATE (x - s.domState d * 4 ^ d + v % 4 * 4 ^ d)

abbrev dKEEP : Nat := 0
abbrev dFORE : Nat := 1
abbrev dHOST : Nat := 2
abbrev dCMP : Nat := 3
abbrev dSTORE : Nat := 4
abbrev dMAP : Nat := 5
abbrev dDAWN : Nat := 6
abbrev dDUSK : Nat := 7
abbrev dLINK : Nat := 8
abbrev dPANEL : Nat := 9
abbrev dLABEL : Nat := 10

/-- The pads of a domain are latched (R310). -/
def State.padHeld (s : State) (d : Nat) : Bool := s.bit ⟨R.PWR_PAD_HELD, d, 1⟩

/-- The domain of a scan half. -/
def halfDomain : Half → Nat
  | .dawn => dDAWN
  | .dusk => dDUSK

/-- 0 for Dawn and 1 for Dusk, as events number them (R124, R432). -/
def halfNum : Half → Nat
  | .dawn => 0
  | .dusk => 1

/-- The halves. -/
def halves : List Half := [.dawn, .dusk]

/-- A register page of a half from its Dawn index. -/
def halfPage (dawnPage : Nat) : Half → Nat
  | .dawn => dawnPage
  | .dusk => dawnPage + 0x10

/-- The Host region answers and writes events: HOST is ON and no HOST-SIDE reset runs (R66, R349). -/
def State.hostUp (s : State) : Bool := s.domOn dHOST && !s.hostReset

/-! ### Sending, free values -/

/-- (Log 11: DESIGN CHOICE, safe.) -/
def State.emit (s : State) (o : Out) : State := { s with sent := o :: s.sent }

/-- A free value, and the state that will draw another one next. (Log 5: DESIGN CHOICE, safe.) -/
def State.draw (s : State) : Word × State := (Config.freeWord s.freeCtr, { s with freeCtr := s.freeCtr + 1 })

/-- `n` free bytes. -/
def State.freeBytes (s : State) (n : Nat) : List Byte × State :=
  ((List.range n).map fun i => (Config.freeWord (s.freeCtr + i)).truncate 8, { s with freeCtr := s.freeCtr + n })

/-- A left fold over a list with the state threaded through. -/
def State.each {α : Type} (s : State) (xs : List α) (f : State → α → State) : State := xs.foldl f s

/-! ### Device DRAM (R21) -/

/-- What a byte of DRAM that nothing has written reads as. (Log 9: DESIGN CHOICE, unsafe.) -/
def dramDefault (_ : Nat) : Byte := 0

def State.dramByte (s : State) (a : Nat) : Byte := SMap.get dramDefault s.dram a

def State.dramRead (s : State) (a n : Nat) : List Byte := (List.range n).map fun i => s.dramByte (a + i)

def dramWriteGo (m : SMap Byte) : Nat → List Byte → SMap Byte
  | _, [] => m
  | a, b :: bs => dramWriteGo (SMap.set dramDefault m a b) (a + 1) bs

def State.dramWrite (s : State) (a : Nat) (bs : List Byte) : State := { s with dram := dramWriteGo s.dram a bs }

/-- Number of bytes of a frame (R21). -/
abbrev frameBytes : Nat := 0x200000

/-- The first reserved frame (R21). -/
def State.rsvdFirst (s : State) : Nat := 4096 - s.fld F.SURF_RSVD_FRAMES_COUNT

/-! ### Wrapping differences -/

/-- `a - b` of 32-bit numbers as a signed difference (R82, R98). -/
def sdiff (a b : Word) : Int := (a - b).toInt

end Sys2Proof.Machine
end

