-- ==== Sys2Proof/Machine/PcieConfig.lean ====
section
/-! DEFINITION. Configuration space as the part reads it: the values of R380 and R381 at the places that the PCI Express
specification gives its capability structures, and the settings that the part's requests and signals follow. -/

namespace Sys2Proof.Machine

/-- The configuration word at a byte offset after reset (R380, R381, R383).
(Log 8: DESIGN CHOICE, safe; log 16: PRESUMED, unsafe.) -/
def cfgReset (off : Nat) : Word :=
  match off with
  | 0x000 => 0x48801E6D#32
  | 0x004 => 0x00100000#32
  | 0x008 => 0x03800010#32
  | 0x010 => 0x00000004#32
  | 0x018 => 0x00000004#32
  | 0x020 => 0x0000000C#32
  | 0x02C => 0x48801E6D#32
  | 0x034 => 0x00000040#32
  | 0x040 => 0x00035001#32
  | 0x044 => 0x00000008#32
  | 0x050 => 0x018A7005#32
  | 0x070 => 0x0002B010#32
  | 0x074 => 0x10008022#32
  | 0x078 => 0x00002810#32
  | 0x094 => 0x0003081F#32
  | 0x0B0 => 0x07FF0011#32
  | 0x0B4 => 0x00010002#32
  | 0x0B8 => 0x00018002#32
  | 0x100 => 0x14820001#32
  | 0x10C => 0x00462030#32
  | 0x114 => 0x00006000#32
  | 0x148 => 0x15810003#32
  | 0x14C => Config.serialNumber.truncate 32
  | 0x150 => (Config.serialNumber >>> 32).truncate 32
  | 0x158 => 0x16010018#32
  | 0x160 => 0x1701001E#32
  | 0x164 => 0x00281E1F#32
  | 0x170 => 0x1A010019#32
  | 0x1A0 => 0x1B010025#32
  | 0x1B0 => 0x1E010026#32
  | 0x1E0 => 0x21010027#32
  | 0x210 => 0x2501002A#32
  | 0x250 => 0x26010015#32
  | 0x254 => 0x0003F000#32
  | 0x258 => 0x00000824#32
  | 0x260 => 0x0001001F#32
  | 0x264 => 0x00000001#32
  | _ => 0

/-- The bits of a configuration word that software writes. (Log 16: PRESUMED, unsafe.) -/
def cfgMask (off : Nat) : Word :=
  match off with
  | 0x004 => 0x00000546#32
  | 0x00C => 0x000000FF#32
  | 0x010 => 0xFF000000#32
  | 0x014 => 0xFFFFFFFF#32
  | 0x018 => 0xFFF00000#32
  | 0x01C => 0xFFFFFFFF#32
  | 0x020 => 0xF0000000#32
  | 0x024 => 0xFFFFFFFF#32
  | 0x03C => 0x000000FF#32
  | 0x044 => 0x00000003#32
  | 0x050 => 0x00710000#32
  | 0x054 => 0xFFFFFFFC#32
  | 0x058 => 0xFFFFFFFF#32
  | 0x05C => 0x0000FFFF#32
  | 0x060 => 0xFFFFFFFF#32
  | 0x078 => 0x000079FF#32
  | 0x080 => 0x000001FB#32
  | 0x098 => 0x0000141F#32
  | 0x0B0 => 0xC0000000#32
  | 0x108 => 0x00400000#32 ||| 0x003FF030#32
  | 0x10C => 0x00400000#32 ||| 0x003FF030#32
  | 0x114 => 0x0000F1C1#32
  | 0x118 => 0x00000140#32
  | 0x15C => 0x1FFF1FFF#32
  | 0x168 => 0xE3FFFFFF#32
  | 0x16C => 0x000000FF#32
  | 0x258 => 0x00003F00#32
  | 0x268 => 0x0000FF03#32
  | _ => 0

/-- Status bits that software clears by writing 1. (Log 16: PRESUMED, unsafe.) -/
def cfgW1c (off : Nat) : Word :=
  match off with
  | 0x004 => 0xF9000000#32
  | 0x078 => 0x000F0000#32
  | 0x104 => 0x007FF030#32
  | 0x110 => 0x0000F1C1#32
  | _ => 0

def State.cfg (s : State) (off : Nat) : Word := SMap.get cfgReset s.pcie.cfg off

def State.setCfg (s : State) (off : Nat) (v : Word) : State :=
  { s with pcie := { s.pcie with cfg := SMap.set cfgReset s.pcie.cfg off v } }

/-- Max_Payload_Size in bytes: Device Control [7:5], at most 512 (R386). -/
def State.maxPayload (s : State) : Nat := min 512 (128 * 2 ^ bitsOf (s.cfg 0x78) 5 3)

/-- Max_Read_Request_Size in bytes: Device Control [14:12], at most 4,096 (R386). -/
def State.maxReadReq (s : State) : Nat := min 4096 (128 * 2 ^ bitsOf (s.cfg 0x78) 12 3)

/-- Relaxed Ordering on data writes (R386). -/
def State.relaxedData (s : State) : Bool := bitOf (s.cfg 0x78) 4 && s.bit F.PCIEX_CTRL_RO_DATA

/-- No Snoop on host buffer data (R386). -/
def State.noSnoopData (s : State) : Bool := bitOf (s.cfg 0x78) 11 && s.bit F.PCIEX_CTRL_NS_DATA

def State.msixEnabled (s : State) : Bool := bitOf (s.cfg 0xB0) 31

def State.msiEnabled (s : State) : Bool := bitOf (s.cfg 0x50) 16

def State.ltrEnabled (s : State) : Bool := bitOf (s.cfg 0x98) 10

def State.ptmEnabled (s : State) : Bool := bitOf (s.cfg 0x268) 0

/-- Entries of the MSI-X table start masked, as the PCI Express specification requires. (Log 16: PRESUMED, unsafe.) -/
def msixReset (i : Nat) : Word := if i % 4 = 3 then 1 else 0

def State.msixWord (s : State) (i : Nat) : Word := SMap.get msixReset s.pcie.msix i

/-- A vector inserted into the rising list of pending ones. -/
def insertNat (n : Nat) : List Nat → List Nat
  | [] => [n]
  | m :: ms => if n < m then n :: m :: ms else if n = m then m :: ms else m :: insertNat n ms

/-- The message write of MSI-X vector `v`. -/
def State.msixSend (s : State) (v : Nat) : State :=
  let addr := (s.msixWord (4 * v)).toNat / 4 * 4 + (s.msixWord (4 * v + 1)).toNat * 2 ^ 32
  s.emit (.hostWrite addr (leBytes 4 (s.msixWord (4 * v + 2)).toNat) false false)

/-- The message write of MSI vector `v` of `m` allocated ones: the low bits of the data name the vector. -/
def State.msiSend (s : State) (v m : Nat) : State :=
  let addr := (s.cfg 0x54).toNat / 4 * 4 + (s.cfg 0x58).toNat * 2 ^ 32
  let d := (s.cfg 0x5C).toNat % 65536
  s.emit (.hostWrite addr (leBytes 4 (d / m * m + v)) false false)

/-- The number of MSI vectors allocated: Multiple Message Enable, at most 32. -/
def State.msiCount (s : State) : Nat := min 32 (2 ^ bitsOf (s.cfg 0x50) 20 3)

/-- Signal a vector (R385): MSI-X, else MSI, else nothing. A masked vector and every vector in D3hot (R387) becomes
pending. -/
def State.signal (s : State) (v : Nat) : State :=
  if s.msixEnabled then
    if s.pcie.d3hot || bitOf (s.cfg 0xB0) 30 || bitOf (s.msixWord (4 * v + 3)) 0 then
      { s with pcie := { s.pcie with pba := insertNat v s.pcie.pba } }
    else s.msixSend v
  else if s.msiEnabled then
    let m := s.msiCount
    let mv := v % m
    if s.pcie.d3hot || bitOf (s.cfg 0x60) mv then s.setCfg 0x64 (s.cfg 0x64 ||| BitVec.ofNat 32 (2 ^ mv))
    else s.msiSend mv m
  else s

/-- Send the pending vectors that are no longer masked (R384, R387). -/
def State.flushVectors (s : State) : State :=
  if s.pcie.d3hot || !s.hostUp then s
  else if s.msixEnabled then
    if bitOf (s.cfg 0xB0) 30 then s
    else
      let go := s.pcie.pba.filter fun v => !bitOf (s.msixWord (4 * v + 3)) 0
      let s := { s with pcie := { s.pcie with pba := s.pcie.pba.filter fun v => !go.contains v } }
      s.each go fun s v => s.msixSend v
  else if s.msiEnabled then
    s.each (List.range 32) fun s v =>
      if bitOf (s.cfg 0x64) v && !bitOf (s.cfg 0x60) v then
        (s.setCfg 0x64 (s.cfg 0x64 &&& ~~~(BitVec.ofNat 32 (2 ^ v)))).msiSend v s.msiCount
      else s
  else s

/-- The summary bit of a page (R401). -/
def State.pageSummary (s : State) (p : Nat) : Bool :=
  s.domOn (pageDomain p) && s.rd (p * 0x1000 + 0x0C) &&& s.rd (p * 0x1000 + 0x10) ≠ 0

/-- The OR of all summary bits (R401). -/
def State.anySummary (s : State) : Bool := pageList.any s.pageSummary

/-- After a change of INT_STATUS, INT_ENABLE or a domain: signal the summary vector on a rise from 0 to 1 (R401).
`before` is the OR just before. -/
def State.summaryEdge (before : Bool) (s : State) : State :=
  if !before && s.anySummary && s.bit F.CHIP_INT_CTRL_EN then
    if s.hostUp then s.signal (s.fld F.CHIP_INT_CTRL_VECTOR) else { s with summaryOwed := true }
  else s

/-- Set a bit of a page's INT_STATUS (R398, R400). -/
def State.raise (s : State) (page bit : Nat) : State :=
  let before := s.anySummary
  State.summaryEdge before (s.wr (page * 0x1000 + 0x0C) (s.rd (page * 0x1000 + 0x0C) ||| BitVec.ofNat 32 (2 ^ bit)))

/-- Report an error through Advanced Error Reporting (R390): its status bit is set, and a message is sent unless it is
masked. Bit numbers are those of the PCI Express specification. -/
def State.aerUncorr (s : State) (bit : Nat) : State :=
  let s := s.setCfg 0x104 (s.cfg 0x104 ||| BitVec.ofNat 32 (2 ^ bit))
  if bitOf (s.cfg 0x108) bit then s else s.emit (.aer true bit)

/-- A request of the part to the host (R386): in D3hot it waits (R387), in L1 it brings the link back to L0 (R388). -/
def State.request (s : State) (o : Out) : State :=
  if s.pcie.d3hot then { s with pcie := { s.pcie with deferred := s.pcie.deferred ++ [o] } }
  else (if s.fld F.PCIEX_LINK_STATUS_PM_STATE = 0 then s else s.setFld F.PCIEX_LINK_STATUS_PM_STATE 0).emit o

/-- The bytes of a long write cut at the maximum payload size (R386). -/
def splitWrite (fuel mps addr : Nat) (bs : List Byte) : List (Nat × List Byte) :=
  match fuel with
  | 0 => []
  | fuel + 1 =>
    match bs with
    | [] => []
    | _ =>
      let n := mps - addr % mps
      (addr, bs.take n) :: splitWrite fuel mps (addr + n) (bs.drop n)

/-- A data write to the host (R386), split at Max_Payload_Size, with the attributes of data. -/
def State.hostData (s : State) (addr : Nat) (bs : List Byte) : State :=
  s.each (splitWrite (bs.length + 1) s.maxPayload addr bs) fun s p =>
    s.request (.hostWrite p.1 p.2 s.relaxedData s.noSnoopData)

/-- A control write to the host: descriptor write-back, event entry, fence (R386): no attribute is set. -/
def State.hostCtl (s : State) (addr : Nat) (bs : List Byte) : State := s.request (.hostWrite addr bs false false)

/-- The sizes of the reads a long read is split into at Max_Read_Request_Size (R386). -/
def splitRead (fuel mrrs addr n : Nat) : List (Nat × Nat) :=
  match fuel with
  | 0 => []
  | fuel + 1 => if n = 0 then [] else let k := min n mrrs; (addr, k) :: splitRead fuel mrrs (addr + k) (n - k)

/-- A read request to the host, split at Max_Read_Request_Size (R386). -/
def State.hostReadReq (s : State) (addr n : Nat) : State :=
  s.each (splitRead (n + 1) s.maxReadReq addr n) fun s p => s.request (.hostRead p.1 p.2)

/-- What every failed host read does beside its requester's own outcome (R386): a timeout counts. -/
def State.noteRead (s : State) (r : ReadRes) : State :=
  match r with
  | .timeout => (s.bump F.PCIEX_CPL_TIMEOUTS_COUNT).aerUncorr 14
  | _ => s

end Sys2Proof.Machine
end

