-- ==== Sys2Proof/Machine/Events.lean ====
section
/-! DEFINITION. Event entries and event rings (R68 to R71), and the clamp reports and the chip clamp log (R88, R89). -/

namespace Sys2Proof.Machine

/-! ### Entries (R68) -/

/-- Where the next field of an event goes: word (0 for ARG), the next free bit of it, and the four words so far. -/
structure EvCursor where
  word : Nat
  bit : Nat
  ws : List Nat
deriving DecidableEq, Repr

/-- Free bits in word `i` of an entry: 15 in ARG, 32 in a data word (R68). -/
def evRoom (i : Nat) : Nat := if i = 0 then 15 else 32

/-- The first word from `i` on in which a field of `w` bits fits, starting at bit `b` of word `i`. -/
def evPlace (i b w : Nat) : Nat × Nat :=
  if b + w ≤ evRoom i then (i, b) else (i + 1, 0)

/-- One field into the entry (R68): into the lowest free bits, or at bit 0 of the next word if it does not fit. -/
def evField (c : EvCursor) (f : Nat × Nat) : EvCursor :=
  let p := evPlace c.word c.bit f.1
  ⟨p.1, p.2 + f.1, c.ws.modify p.1 fun x => x + place p.2 f.1 f.2⟩

/-- An event of a code with its fields, each a width and a value, in the order of its table (R68). -/
def mkEv (code : Nat) (fields : List (Nat × Nat)) : Ev :=
  let ws := (fields.foldl evField ⟨0, 0, [0, 0, 0, 0]⟩).ws
  ⟨BitVec.ofNat 32 (code + ws.getD 0 0 * 2 ^ 17), BitVec.ofNat 32 (ws.getD 1 0), BitVec.ofNat 32 (ws.getD 2 0),
   BitVec.ofNat 32 (ws.getD 3 0)⟩

/-- The 16 bytes of an entry with its PHASE bit (R68). -/
def evBytes (e : Ev) (phase : Bool) : List Byte :=
  wordBytes [e.w0 ||| BitVec.ofNat 32 (b2n phase * 2 ^ 16), e.w1, e.w2, e.w3]

/-! ### Rings (R69, R70) -/

def ringHidDefault (_ : Nat) : RingHid := RingHid.init

def State.ring (s : State) (r : Nat) : RingHid := SMap.get ringHidDefault s.rings r

def State.setRing (s : State) (r : Nat) (h : RingHid) : State := { s with rings := SMap.set ringHidDefault s.rings r h }

/-- Number of entries of a ring. -/
def State.ringSize (s : State) (r : Nat) : Nat := 2 ^ s.fld (F.RING_CFG_SIZE_LOG2 r)

/-- Room of a ring (R69): 2^SIZE_LOG2 − 1 − ((TAIL − HEAD) mod 2^SIZE_LOG2). -/
def State.ringRoom (s : State) (r : Nat) : Nat :=
  let n := s.ringSize r
  n - 1 - (s.fld (F.RING_TAIL_TAIL r) + n - s.fld (F.RING_HEAD_HEAD r) % n) % n

/-- Room minus the reservations held (R69). -/
def State.ringUnreserved (s : State) (r : Nat) : Nat := s.ringRoom r - (s.ring r).rsv

/-- An event dropped by a ring (R69, R74). (Log 35: DESIGN CHOICE, unsafe.) -/
def State.ringLose (s : State) (r n : Nat) : State :=
  if n = 0 then s
  else (((s.bump (F.RING_LOST_COUNT r) n).bump F.EVT_LOST_TOTAL_COUNT n)).raise 0x15 0

/-- The number of events in the hold that count against its 16 entries (R69). -/
def holdCount (h : List (Ev × Bool)) : Nat := (h.filter fun e => !e.2).length

/-- The register HOLD.COUNT follows the hold (R69): every event that waits counts in it, and the field stops at 31.
(Log 137: DESIGN CHOICE, unsafe.) -/
def State.setHold (s : State) (r : Nat) (h : RingHid) : State :=
  (s.setRing r h).setFld (F.RING_HOLD_COUNT r) (min 31 h.hold.length)

/-- Signal a ring's vector and restart its count and timer (R70). -/
def State.ringSignal (s : State) (r : Nat) : State :=
  let h := s.ring r
  (s.setRing r { h with unsig := 0, timer := false }).signal (s.fld (F.RING_CFG_VECTOR r))

/-- Write one entry at TAIL and advance it; signal at THRESHOLD, start the HOLDOFF timer at the first entry since the
last signal (R69, R70). -/
def State.ringWrite (s : State) (r : Nat) (e : Ev) : State :=
  let h := s.ring r
  let tail := s.fld (F.RING_TAIL_TAIL r)
  let base := s.fld (F.RING_BASE_LO_BASE r) + s.fld (F.RING_BASE_HI_BASE r) * 2 ^ 32
  let s := s.hostCtl (base + 16 * tail) (evBytes e h.phase)
  let next := (tail + 1) % s.ringSize r
  let s := s.setFld (F.RING_TAIL_TAIL r) next
  let n := h.unsig + 1
  let h := { h with phase := if next = 0 then !h.phase else h.phase, unsig := n,
                    timer := h.timer || (n == 1 && s.fld (F.RING_MOD_HOLDOFF r) != 0) }
  let s := s.setRing r h
  if s.fld (F.RING_MOD_THRESHOLD r) ≤ n then s.ringSignal r else s

/-- An event entry may be written now: the function is not in D3hot (R387). (Log 14: DEDUCED, safe.) -/
def State.canPost (s : State) : Bool := !s.pcie.d3hot

/-- Write held entries while room allows, oldest first (R69). (Log 35: DESIGN CHOICE, unsafe.) -/
def ringDrainGo : Nat → Nat → State → State
  | 0, _, s => s
  | fuel + 1, r, s =>
    let h := s.ring r
    match h.hold with
    | [] => s
    | (e, reserved) :: rest =>
      if reserved then
        ringDrainGo fuel r (((s.setHold r { h with hold := rest, rsv := h.rsv - 1 })).ringWrite r e)
      else if 0 < s.ringUnreserved r then
        ringDrainGo fuel r ((s.setHold r { h with hold := rest }).ringWrite r e)
      else s

/-- Room has returned: the held entries, then one EVENTS_LOST with the number dropped (R69). An EVENTS_LOST that finds
no room waits in the hold like any other event. -/
def State.ringDrain (s : State) (r : Nat) : State :=
  if !s.canPost || !s.bit (F.RING_CFG_ENABLE r) then s
  else
    let s := ringDrainGo ((s.ring r).hold.length + 1) r s
    let h := s.ring r
    if h.hold.isEmpty && h.dropped != 0 then
      let e := mkEv 0x0004 [(6, r), (32, h.dropped)]
      let s := s.setRing r { h with dropped := 0 }
      if 0 < s.ringUnreserved r then s.ringWrite r e
      else s.setHold r { s.ring r with hold := [(e, false)] }
    else s

/-- Post an event to a ring (R69). `reserved`: it uses a reservation made for its descriptor. While HOST is not ON, or a
HOST-SIDE reset runs, the event is dropped (R66, R124, R315, R432). -/
def State.postR (s : State) (r : Nat) (reserved : Bool) (e : Ev) : State :=
  if !s.hostUp then s
  else if !s.bit (F.RING_CFG_ENABLE r) then s.ringLose r 1
  else
    let h := s.ring r
    if h.hold.isEmpty && s.canPost && (reserved || 0 < s.ringUnreserved r) then
      (if reserved then s.setRing r { h with rsv := h.rsv - 1 } else s).ringWrite r e
    else if reserved || holdCount h.hold < 16 then s.setHold r { h with hold := h.hold ++ [(e, reserved)] }
    else (s.setRing r { h with dropped := h.dropped + 1 }).ringLose r 1

/-- Post an event that has no reservation, to the ring a register names. -/
def State.post (s : State) (ring : Fld) (code : Nat) (fields : List (Nat × Nat)) : State :=
  s.postR (s.fld ring) false (mkEv code fields)

/-! ### Errors of a block (R365) -/

/-- The number of the frame in progress, as events carry it. -/
def State.frameNo (s : State) : Nat := (s.rd R.SCAN_FRAME_SEQ).toNat

/-- A bit of ERR_STATUS above CORR is set: it counts, and raises BLOCK_ERROR (R365, R374). The spec does not state the
event's DETAIL. (Log 110: DESIGN CHOICE, unsafe.) -/
def State.blockError (s : State) (page kind : Nat) : State :=
  let off := page * 0x1000 + 0x18
  let s := (s.wr off (s.rd off ||| BitVec.ofNat 32 (2 ^ kind))).bump (hdrFld page 0x20 0 32)
  let d := (s.raise 0x00 0).draw
  d.2.post F.CHIP_ERR_EVT_RING 0x0920 [(8, page), (3, kind), (32, d.1.toNat), (32, s.frameNo)]

/-- Corrected errors set CORR of ERR_STATUS, and count in ERR_COUNT_CORR (R320, R365). -/
def State.blockCorrs (s : State) (page : Nat) (n : Nat := 1) : State :=
  let off := page * 0x1000 + 0x18
  (s.wr off (s.rd off ||| 1#32)).bump (hdrFld page 0x1C 0 32) n

/-! ### Clamp reports (R88, R89) -/

/-- The page whose clamp registers report a write at a BAR0 offset (R79, R94, R69, R42, R112, R17): the page itself, or
the block that owns the window. (Log 122: DEDUCED, unsafe.) -/
def clampPage (off : Nat) : Nat :=
  if off < 0x100000 then (if pageUsed (off / 0x1000) then off / 0x1000 else 0x13)
  else if off < 0x140000 then 0x11
  else if off < 0x150000 then 0x15
  else if off < 0x160000 then 0x13
  else if off < 0x170000 then 0x20
  else if 0x800000 ≤ off then 0x14
  else 0x13

def clampLogDefault (_ : Nat) : ClampEntry := ⟨0, 0, 0, 0⟩

/-- One clamp report (R88, R89): the block's clamp registers, and one entry of the chip clamp log. `slot` is the
transaction's slot for a write that came through one. -/
def State.clampReportAt (s : State) (page : Nat) (slot : Option Nat) (kept : Bool) (off : Nat) (orig new : Word) : State :=
  let s := s.bump (hdrFld page 0x24 0 32)
  let s := s.wr (page * 0x1000 + 0x28) (BitVec.ofNat 32 (off % 2 ^ 24))
  let s := s.wr (page * 0x1000 + 0x2C) orig
  let s := s.wr (page * 0x1000 + 0x30) new
  let i := s.fld F.CHIP_CLAMP_LOG_NEXT_INDEX
  let w0 := off % 2 ^ 24 + slot.getD 0 % 64 * 2 ^ 24 + b2n slot.isSome * 2 ^ 30 + b2n kept * 2 ^ 31
  let s := { s with clampLog := SMap.set clampLogDefault s.clampLog i
                      ⟨BitVec.ofNat 32 w0, orig, new, s.rd R.SCAN_FRAME_SEQ⟩ }
  (s.setFld F.CHIP_CLAMP_LOG_NEXT_INDEX (i + 1)).bump F.CHIP_CLAMP_LOG_TOTAL_COUNT

/-- A clamp report in the block that owns the offset. (Log 122: DEDUCED, unsafe.) -/
def State.clampReport (s : State) (slot : Option Nat) (kept : Bool) (off : Nat) (orig new : Word) : State :=
  s.clampReportAt (clampPage off) slot kept off orig new

end Sys2Proof.Machine
end

