-- ==== Sys2Proof/Machine/Clamp.lean ====
section
/-! DEFINITION. Range checks of register writes (R88), with the ranges that depend on other fields and the dependent
clamps, and the one operation by which a checked value takes effect. -/

namespace Sys2Proof.Machine

/-- The outcome of a range check: the word that takes effect, and whether a field was clamped or kept. -/
structure Chk where
  new : Word
  clamped : Bool
  kept : Bool
deriving DecidableEq, Repr

/-- Put `v` into a field because of a numeric clamp; the flag tells whether that changes what was to be written. -/
def Chk.clampTo (c : Chk) (lo w v : Nat) : Chk :=
  if bitsOf c.new lo w = v then c else ⟨putBits c.new lo w v, true, c.kept⟩

/-- Put the old value back into a field that is kept; no report if the value written is the one held (R88). -/
def Chk.keep (c : Chk) (old : Word) (lo w : Nat) : Chk :=
  if bitsOf c.new lo w = bitsOf old lo w then c else ⟨putBits c.new lo w (bitsOf old lo w), c.clamped, true⟩

/-- The check of one field by its own range (R88). -/
def Chk.field (old : Word) (c : Chk) (f : FieldSpec) : Chk :=
  let v := bitsOf c.new f.lo f.w
  match f.rng with
  | .any => c
  | .clamp lo hi => c.clampTo f.lo f.w (if v < lo then lo else if hi < v then hi else v)
  | .keepAbove m => if m < v then c.keep old f.lo f.w else c
  | .keepZero => if v = 0 then c.keep old f.lo f.w else c

/-- Bytes per pixel of a surface format (R30). -/
def bytesPerPixel (fmt : Nat) : Nat := if fmt = 0 then 2 else if fmt = 1 then 3 else 4

/-- The smallest legal pitch for a width and a format (R112). -/
def minPitch (w fmt : Nat) : Nat := (w * bytesPerPixel fmt + 63) / 64 * 64

/-- PITCH as R112 makes it legal. -/
def legalPitch (p w fmt : Nat) : Nat := max (max 64 (min 262144 (p / 64 * 64))) (minPitch w fmt)

/-- The alignment of ADDR for a format (R112). -/
def addrAlign (fmt : Nat) : Nat := if fmt = 0 then 2 else if fmt = 1 then 1 else 4

/-- Limits on H_ACTIVE and H_TOTAL (R125). -/
def chkHTiming (s : State) (c : Chk) : Chk :=
  let v := s.fld F.SCAN_V_TIMING_V_ACTIVE
  let h := bitsOf c.new 0 10
  let h := max 8 (min 960 (h / 8 * 8))
  let h := min h (33177600 / (8 * v) / 8 * 8)
  let c := c.clampTo 0 10 h
  c.clampTo 16 13 (max (h + 32) (min 8191 (bitsOf c.new 16 13)))

/-- Limits on V_ACTIVE (R125). -/
def chkVTiming (s : State) (c : Chk) : Chk :=
  let h := s.fld F.SCAN_H_TIMING_H_ACTIVE
  c.clampTo 0 14 (min (max 16 (min 8640 (bitsOf c.new 0 14))) (33177600 / (8 * h)))

/-- Limits on V_TOTAL (R125). -/
def chkVTotal (s : State) (c : Chk) : Chk :=
  let mn := max (s.fld F.SCAN_V_TIMING_V_ACTIVE + 8) (min 32767 (bitsOf c.new 0 15))
  let c := c.clampTo 0 15 mn
  c.clampTo 16 15 (max mn (min 32767 (bitsOf c.new 16 15)))

/-- Limits on COMMIT_GUARD (R125). -/
def chkGuard (s : State) (c : Chk) : Chk :=
  c.clampTo 0 7 (max 1 (min (min 64 (s.fld F.SCAN_V_TIMING_V_ACTIVE - 1)) (bitsOf c.new 0 7)))

/-- Checks of a layer-list register against the entry's other values (R112). (Log 124: DEDUCED, unsafe.) -/
def chkLayer (s : State) (off : Nat) (c : Chk) : Chk :=
  let n := (off - 0x160000) / 0x20
  match off % 0x20 with
  | 0x00 => c.clampTo 0 32 (c.new.toNat / addrAlign (s.fld (F.LAYER_FMT_FORMAT n)) * addrAlign (s.fld (F.LAYER_FMT_FORMAT n)))
  | 0x10 => c.clampTo 0 19 (legalPitch (bitsOf c.new 0 19) (s.fld (F.LAYER_SIZE_SRC_W n)) (bitsOf c.new 20 4))
  | _ => c

/-- The multiple that BASE_FRAME must be of: the BAR4 size divided by 2 MiB (R22, R383). -/
def State.bar4Frames (s : State) : Nat := 128 * 2 ^ s.fld F.PCIEX_BAR4_SIZE_SIZE

/-- A signed byte of a word of temperature points. -/
def pointAt (w : Word) (i : Nat) : Int := signedOf 8 (bitsOf w (8 * i) 8)

/-- The eight points of two words do not decrease (R146, R203). -/
def pointsRise (lo hi : Word) : Bool :=
  let p (i : Nat) : Int := if i < 4 then pointAt lo i else pointAt hi (i - 4)
  (List.range 7).all fun i => p i ≤ p (i + 1)

/-- OD_EN, ACTIVE_BANK and TABLE_CRC are legal together (R146). -/
def odLegal (s : State) (ctrl : Word) (crc : Word) : Bool :=
  !bitOf ctrl 0 ||
    (if bitOf ctrl 4 then bitOf (s.rd R.OD_STAGE_STATUS) 1 && s.rd R.OD_BANK1_CRC == crc
     else bitOf (s.rd R.OD_STAGE_STATUS) 0 && s.rd R.OD_BANK0_CRC == crc)

/-- Checks of the overdrive registers (R146). -/
def chkOd (s : State) (old : Word) (off : Nat) (c : Chk) : Chk :=
  if off = R.OD_CTRL then (if odLegal s c.new (s.rd R.OD_TABLE_CRC) then c else c.keep old 0 5)
  else if off = R.OD_TABLE_CRC then (if odLegal s (s.rd R.OD_CTRL) c.new then c else c.keep old 0 32)
  else if off = R.OD_TEMP_PTS_LO then (if pointsRise c.new (s.rd R.OD_TEMP_PTS_HI) then c else c.keep old 0 32)
  else if off = R.OD_TEMP_PTS_HI then (if pointsRise (s.rd R.OD_TEMP_PTS_LO) c.new then c else c.keep old 0 32)
  else if off = R.OD_BUCKET_A then
    (if bitsOf c.new 0 15 ≤ bitsOf c.new 16 15 && bitsOf c.new 16 15 ≤ s.fld F.OD_BUCKET_B_LIM3 then c
     else (c.keep old 0 15).keep old 16 15)
  else if off = R.OD_BUCKET_B then (if s.fld F.OD_BUCKET_A_LIM2 ≤ bitsOf c.new 0 15 then c else c.keep old 0 15)
  else c

/-- UNI_EN, ACTIVE_BANK, MODE and MAP_CRC are legal together (R193). -/
def uniLegal (s : State) (ctrl crc : Word) : Bool :=
  !bitOf ctrl 0 ||
    (if bitOf ctrl 2 then
       bitOf (s.rd R.UNI_STAGE_STATUS) 1 && s.rd R.UNI_BANK1_CRC == crc && s.bit F.UNI_BANK1_GEOM_MODE == bitOf ctrl 1
     else bitOf (s.rd R.UNI_STAGE_STATUS) 0 && s.rd R.UNI_BANK0_CRC == crc && s.bit F.UNI_BANK0_GEOM_MODE == bitOf ctrl 1)

/-- Plane levels rise strictly (R189). -/
def planesRise (a b c : Word) : Bool :=
  bitsOf a 0 14 < bitsOf a 16 14 && bitsOf a 16 14 < bitsOf b 0 14 && bitsOf b 0 14 < bitsOf b 16 14 &&
    bitsOf b 16 14 < bitsOf c 0 14

/-- Checks of the uniformity and aging registers (R189, R193, R200). -/
def chkUni (s : State) (old : Word) (off : Nat) (c : Chk) : Chk :=
  if off = R.UNI_CTRL then (if uniLegal s c.new (s.rd R.UNI_MAP_CRC) then c else c.keep old 0 3)
  else if off = R.UNI_MAP_CRC then (if uniLegal s (s.rd R.UNI_CTRL) c.new then c else c.keep old 0 32)
  else if off = R.UNI_PLANE_A then
    (if planesRise c.new (s.rd R.UNI_PLANE_B) (s.rd R.UNI_PLANE_C) then c else (c.keep old 0 14).keep old 16 14)
  else if off = R.UNI_PLANE_B then
    (if planesRise (s.rd R.UNI_PLANE_A) c.new (s.rd R.UNI_PLANE_C) then c else (c.keep old 0 14).keep old 16 14)
  else if off = R.UNI_PLANE_C then
    (if planesRise (s.rd R.UNI_PLANE_A) (s.rd R.UNI_PLANE_B) c.new then c else c.keep old 0 14)
  else if off = R.AGE_TEMP_PTS_LO then (if pointsRise c.new (s.rd R.AGE_TEMP_PTS_HI) then c else c.keep old 0 32)
  else if off = R.AGE_TEMP_PTS_HI then (if pointsRise (s.rd R.AGE_TEMP_PTS_LO) c.new then c else c.keep old 0 32)
  else c

/-- Block time T_B in PCLK cycles by RATE (R214). -/
def blockTime (rate : Nat) : Nat := if rate = 2 then 66 else if rate = 1 then 132 else 264

/-- LOAD reservation T_LOAD in PCLK cycles by RATE (R214). -/
def loadTime (rate : Nat) : Nat := if rate = 2 then 39 else if rate = 1 then 76 else 150

/-- A lane's configuration names a driver: the lane is enabled, and no enabled pair before it takes it over (R214). -/
def laneDrives (cfg : Nat → Word) (n : Nat) : Bool :=
  bitOf (cfg n) 0 && !(n % 2 == 1 && bitOf (cfg (n - 1)) 0 && bitOf (cfg (n - 1)) 1)

/-- The lane is the even lane of a pair. (Log 80: DEDUCED, unsafe.) -/
def lanePaired (cfg : Nat → Word) (n : Nat) : Bool := n % 2 == 0 && bitOf (cfg n) 1

/-- The blocks that lane `n` carries per line (R214): all, or the even or odd ones of a pair. -/
def laneBlocks (cfg : Nat → Word) (n : Nat) : List Nat :=
  if laneDrives cfg n then
    (List.range (bitsOf (cfg n) 16 6)).filter fun j => !lanePaired cfg n || j % 2 == 0
  else if n % 2 = 1 && laneDrives cfg (n - 1) && lanePaired cfg (n - 1) then
    (List.range (bitsOf (cfg (n - 1)) 16 6)).filter fun j => j % 2 == 1
  else []

/-- First column and number of columns of a lane's driver (R214). -/
def laneSpan (w : Word) : Nat × Nat := (bitsOf w 2 13, 32 * bitsOf w 16 6)

/-- LANEn_CFG as the registers hold it. -/
def State.laneCfg (s : State) (n : Nat) : Word := s.rd (R.LINK_LANE_CFG n)

/-- The configuration of an enabled driver is legal (R223). (Log 80: DEDUCED, unsafe.) -/
def laneLegal (s : State) (n : Nat) (v : Word) : Bool :=
  let cfg (m : Nat) : Word := if m = n then v else s.laneCfg m
  if !laneDrives cfg n then true
  else
    let a := laneSpan v
    let w := 4 * s.fld F.SCAN_H_TIMING_H_ACTIVE
    (if a.1 < w then a.1 + a.2 ≤ w else a.1 + a.2 ≤ 2 * w) &&
      (List.range 48).all fun m =>
        m == n || !laneDrives cfg m ||
          let b := laneSpan (cfg m)
          a.1 + a.2 ≤ b.1 || b.1 + b.2 ≤ a.1 || a.2 == 0 || b.2 == 0

/-- The panel sequencer owns HALT, FORCE, the training and the control commands: the panel is neither OFF nor in FAULT
(R248, R249). -/
def State.panelOwns (s : State) : Bool :=
  let st := s.fld F.HVD_PANEL_STATUS_STATE
  s.domOn dPANEL && st != 0 && st != 4

/-- Checks of the LINK registers (R219, R223, R230, R249). (Log 80: DEDUCED, unsafe.) -/
def chkLink (s : State) (old : Word) (off : Nat) (c : Chk) : Chk :=
  if off = R.LINK_CTRL then
    let c := if (List.range 48).any fun n => s.fld (F.LINK_LANE_STATE_STATE n) != 0 then c.keep old 0 2 else c
    let c := if s.panelOwns then c.keep old F.LINK_CTRL_HALT.lo 1 else c
    if bitOf c.new 2 == s.bit F.DITH_CTRL_DEPTH then c else c.keep old 2 1
  else if off = R.LINK_LINE_CFG then
    let h := s.fld F.SCAN_H_TIMING_H_TOTAL
    let rate := s.fld F.LINK_CTRL_RATE
    let nmax := ((List.range 48).map fun n => (laneBlocks s.laneCfg n).length).foldl max 0
    let lo := nmax * blockTime rate
    if h < loadTime rate + lo then (c.keep old 0 14).keep old 16 14
    else (c.clampTo 0 14 (min (bitsOf c.new 0 14) (h + 150))).clampTo 16 14
      (max lo (min (h - loadTime rate) (bitsOf c.new 16 14)))
  else if 0x41200 ≤ off && off < 0x41500 && off % 0x10 = 0 then
    let n := (off - 0x41200) / 0x10
    let c := if n % 2 = 1 then ⟨putBits c.new 1 1 0, c.clamped, c.kept⟩ else c
    let c := (c.clampTo 2 13 (bitsOf c.new 2 13 / 32 * 32)).clampTo 16 6 (min 40 (bitsOf c.new 16 6))
    if laneLegal s n c.new then c else ((c.keep old 0 2).keep old 2 13).keep old 16 6
  else c

/-- The earliest of VWIN.FIRST and the STV rise lines (R237). -/
def gateFirst (s : State) : Int :=
  (List.range 4).foldl (fun a i => min a (signedOf 7 (s.fld (F.GATE_STV_RISE_LINE i)))) (signedOf 8 (s.fld F.GATE_VWIN_FIRST))

/-- How far the values that hold together are from breaking the two rules of R237 about the blanking: negative where one is
broken. -/
def gateSlacks (s : State) : List Int :=
  let h : Int := s.fld F.SCAN_H_TIMING_H_TOTAL
  let v : Int := s.fld F.SCAN_V_TIMING_V_ACTIVE
  let vrr := s.bit F.SCAN_CTRL_VRR
  let bigB : Int := if vrr then max (s.fld F.SCAN_COMMIT_GUARD_LINES : Int) (s.fld F.SCAN_FETCH_LEAD_LINES) else s.fld F.SCAN_V_TOTAL_MAX - v
  let b : Int := (if vrr then (s.fld F.SCAN_V_TOTAL_MIN : Int) else s.fld F.SCAN_V_TOTAL_MAX) - v
  let first := gateFirst s
  let tail (x : Int) : Int := b + first - 1 - x
  [(s.fld F.GATE_ORIGIN_CYCLES : Int) + first * h + bigB * h, tail ((s.fld F.GATE_VWIN_LAST : Int) - v)] ++
    (List.range 2).flatMap fun i => [tail (s.fld (F.GATE_GRST_RISE_LINE i)), tail (s.fld (F.GATE_GRST_FALL_LINE i))]

/-- The write of `new` over `old` breaks a rule of R237: one that does not hold after it, and is further from holding than with
the old value. (Log 145: DEDUCED, unsafe.) -/
def gateBreaks (s : State) (off : Nat) (old new : Word) : Bool :=
  ((gateSlacks (s.wr off new)).zip (gateSlacks (s.wr off old))).any fun p => decide (p.1 < 0) && decide (p.1 < p.2)

/-- Checks of the GATE registers (R237, R249). -/
def chkGate (s : State) (old : Word) (off : Nat) (c : Chk) : Chk :=
  let hmax := s.fld F.SCAN_H_TIMING_H_TOTAL - 1
  let c := if off = R.GATE_CTRL && s.panelOwns then c.keep old 4 2 else c
  let c := if 0x42200 ≤ off then c.clampTo 16 13 (min hmax (bitsOf c.new 16 13)) else c
  let c :=
    if 0x42200 ≤ off && off < 0x42300 then c.clampTo 0 6 (min (s.fld F.GATE_PERIOD_LINES - 1) (bitsOf c.new 0 6)) else c
  if off = R.GATE_CTRL || off = R.GATE_PERIOD || off = R.GATE_CLK_EN || (0x42200 ≤ off && off < 0x42300) then c
  else if !gateBreaks s off old c.new then c
  else if off = R.GATE_ORIGIN then c.keep old 0 15
  else if off = R.GATE_VWIN then (c.keep old 0 8).keep old 16 14
  else (c.keep old 0 7).keep old 16 13

/-- Checks of the HVD registers (R258). -/
def chkHvd (s : State) (old : Word) (off : Nat) (c : Chk) : Chk :=
  if off = R.HVD_BL_DUTY then
    let p := s.fld F.HVD_BL_PERIOD_PERIOD
    (c.clampTo 0 16 (min p (bitsOf c.new 0 16))).clampTo 16 16 (min p (bitsOf c.new 16 16))
  else if off = R.HVD_THERM_CFG then (if bitsOf c.new 16 12 < bitsOf c.new 4 12 then c.keep old 16 12 else c)
  else c

/-- The 15 label temperature boundaries do not decrease, with word `n` of them replaced (R282). -/
def labelBoundsRise (s : State) (n : Nat) (v : Word) : Bool :=
  let b (k : Nat) : Int := pointAt (if k / 4 = n then v else s.rd (R.LABEL_TEMP_BNDn (k / 4))) (k % 4)
  (List.range 14).all fun k => b k ≤ b (k + 1)

/-- Checks of the LABEL registers (R276, R282). -/
def chkLabel (s : State) (old : Word) (off : Nat) (c : Chk) : Chk :=
  let busy := !s.label.run.isEmpty || !s.label.pend.isEmpty
  if off = R.LABEL_CTRL then (if busy then c.keep old 1 2 else c)
  else if off = R.LABEL_PHASE then (if busy then c.keep old 0 7 else c)
  else if 0x44200 ≤ off && off < 0x44280 && off % 16 = 0 then
    if busy then ((c.keep old 0 11).keep old 16 11).keep old 31 1
    else (c.clampTo 0 11 (max 8 (min 1600 (bitsOf c.new 0 11) / 8 * 8))).clampTo 16 11 (max 1 (min 1200 (bitsOf c.new 16 11)))
  else if 0x4410C ≤ off && off < 0x4411C then
    let n := (off - 0x4410C) / 4
    let c := if n = 3 then ⟨putBits c.new 24 8 0, c.clamped, c.kept⟩ else c
    if labelBoundsRise s n c.new then c else c.keep old 0 32
  else c

/-- The bits of INT_STATUS that a page's block uses (R40, R72 to R74, R100, R125, R126, R149, R150, R184, R210 to R212, R239,
R240, R258, R270, R271, R292, R316 to R318, R346, R347, R375 to R377, R395, R403). (Log 82: DEDUCED, unsafe.) -/
def intBits (page : Nat) : Nat :=
  let p := if isDuskPage page then page - 0x10 else page
  if [0x10, 0x25, 0x42].contains p then 0
  else if [0x02, 0x04, 0x05, 0x07, 0x08, 0x09, 0x0A, 0x0B, 0x15, 0x17, 0x26].contains p then 1
  else if [0x03, 0x06, 0x11, 0x12, 0x21, 0x22, 0x24].contains p then 3
  else if [0x13, 0x23, 0x44].contains p then 7
  else if [0x01, 0x14, 0x16, 0x20, 0x40, 0x43].contains p then 15
  else if p = 0x41 then 31
  else if p = 0x00 then 0x17
  else 0

/-- Foreman applies the register list of start-up, bindings among it (R301, R354). (Log 148: DEDUCED, safe.) -/
def State.listRuns (s : State) : Bool := match s.boot.step with | .list _ => true | _ => false

/-- The checks whose range depends on other fields, by register. (Log 82: DEDUCED, unsafe.) -/
def chkSpecial (s : State) (old : Word) (off : Nat) (c : Chk) : Chk :=
  if off < 0x100000 && off % 0x1000 = 0x10 then { c with new := c.new &&& BitVec.ofNat 32 (intBits (off / 0x1000)) }
  else if 0x160000 ≤ off && off < 0x162000 then chkLayer s off c
  else if off = R.SCAN_H_TIMING then chkHTiming s c
  else if off = R.SCAN_V_TIMING then chkVTiming s c
  else if off = R.SCAN_V_TOTAL then chkVTotal s c
  else if off = R.SCAN_COMMIT_GUARD then chkGuard s c
  else if off = R.SURF_BAR4_WINDOW then
    c.clampTo 0 12 (bitsOf c.new 0 12 / s.bar4Frames * s.bar4Frames)
  else if off = R.RGL_AVS_LIMITS then
    c.clampTo 16 10 (max (bitsOf c.new 0 10) (min 850 (bitsOf c.new 16 10)))
  else if off = R.TMON_FATAL_LIM then
    c.clampTo 0 8 (max (s.fld F.TMON_WARN_DEG) (min 125 (bitsOf c.new 0 8)))
  else if 0x3210 ≤ off && off ≤ 0x32A8 then
    if s.domOn ((off - 0x3200) / 0x10) || s.listRuns then c else ((c.keep old 0 7).keep old 8 8).keep old 31 1
  else if 0x23120 ≤ off && off < 0x23140 then chkOd s old off c
  else if (0x24120 ≤ off && off < 0x24140) || off = R.AGE_TEMP_PTS_LO || off = R.AGE_TEMP_PTS_HI then chkUni s old off c
  else if off / 0x1000 = 0x41 then chkLink s old off c
  else if 0x42100 ≤ off && off < 0x42330 then chkGate s old off c
  else if off = R.DITH_CTRL then (if bitOf c.new 2 == s.bit F.LINK_CTRL_DEPTH then c else c.keep old 2 1)
  else if off / 0x1000 = 0x43 then chkHvd s old off c
  else if off = R.SCAN_CTRL then (if s.panelOwns && !bitOf c.new 0 then c.keep old 0 1 else c)
  else if off / 0x1000 = 0x44 then chkLabel s old off c
  else c

/-- The word that a write of `v` would leave, each field checked by its own range alone (R88). -/
def State.ownCheck (s : State) (sel : Acc → Bool) (off : Nat) (v : Word) : Chk :=
  let old := s.rd off
  let fs := (fieldsAt off).filter fun f => sel f.acc
  fs.foldl (Chk.field old) ⟨fs.foldl (fun w f => putBits w f.lo f.w (bitsOf v f.lo f.w)) old, false, false⟩

/-- The check of a write of `v` to the register at `off`, for the fields whose access type `sel` accepts (R88, R399).
`ctx` holds the values that will stand together with it. (Log 124: DEDUCED, unsafe.) -/
def State.checkIn (s ctx : State) (sel : Acc → Bool) (off : Nat) (v : Word) : Chk :=
  chkSpecial ctx (s.rd off) off (s.ownCheck sel off v)

def State.check (s : State) (sel : Acc → Bool) (off : Nat) (v : Word) : Chk := s.checkIn s sel off v

/-- Whether a check makes a report (R88). (Log 122: DEDUCED, unsafe.) -/
def Chk.reports (c : Chk) : Bool := c.clamped || c.kept

/-- Set a field as a dependent clamp, with its own report: ORIG holds the register just before (R88). -/
def State.dependent (s : State) (slot : Option Nat) (f : Fld) (v : Nat) : State :=
  if s.fld f = v then s
  else
    let orig := s.rd f.off
    let s := s.setFld f v
    s.clampReport slot false f.off orig (s.rd f.off)

/-- The dependent clamps that a write to `off` causes (R112, R125). -/
def State.dependents (s : State) (slot : Option Nat) (off : Nat) : State :=
  if off = R.SCAN_V_TIMING then
    let v := s.fld F.SCAN_V_TIMING_V_ACTIVE
    let mn := max (s.fld F.SCAN_V_TOTAL_MIN) (v + 8)
    let mx := max (s.fld F.SCAN_V_TOTAL_MAX) mn
    let orig := s.rd R.SCAN_V_TOTAL
    let s := if s.fld F.SCAN_V_TOTAL_MIN = mn && s.fld F.SCAN_V_TOTAL_MAX = mx then s
             else
               let s := (s.setFld F.SCAN_V_TOTAL_MIN mn).setFld F.SCAN_V_TOTAL_MAX mx
               s.clampReport slot false R.SCAN_V_TOTAL orig (s.rd R.SCAN_V_TOTAL)
    s.dependent slot F.SCAN_COMMIT_GUARD_LINES (min (s.fld F.SCAN_COMMIT_GUARD_LINES) (v - 1))
  else if 0x160000 ≤ off && off < 0x162000 && off % 0x20 = 0x0C then
    let n := (off - 0x160000) / 0x20
    s.dependent slot (F.LAYER_FMT_PITCH n)
      (max (s.fld (F.LAYER_FMT_PITCH n)) (minPitch (s.fld (F.LAYER_SIZE_SRC_W n)) (s.fld (F.LAYER_FMT_FORMAT n))))
  else s

/-- A checked value takes effect, and a clamp is reported (R88). -/
def State.applyIn (s ctx : State) (slot : Option Nat) (sel : Acc → Bool) (off : Nat) (v : Word) : State :=
  let c := s.checkIn ctx sel off v
  let s := s.wr off c.new
  if c.reports then s.clampReport slot c.kept off v c.new else s

/-- A write to the fields that `sel` accepts takes effect by itself: the checked value is written, a clamp is reported,
and the dependent clamps follow (R88). -/
def State.applyWrite (s : State) (slot : Option Nat) (sel : Acc → Bool) (off : Nat) (v : Word) : State :=
  (s.applyIn s slot sel off v).dependents slot off

/-- Fields that a write outside a transaction stages (R75). -/
def selStaged (a : Acc) : Bool := a == .rws || a == .rwl

/-- Fields that a write outside a transaction changes at once (R3). -/
def selNow (a : Acc) : Bool := a == .rw

/-- Fields that a held write changes when its commit takes effect (R79). -/
def selTxn (a : Acc) : Bool := a == .rw || a == .rws || a == .rwl

/-- Whether the register has a field of an access type. -/
def hasAcc (off : Nat) (p : Acc → Bool) : Bool := (fieldsAt off).any fun f => p f.acc

/-- A command that its chapter refuses, written to a WO register: kept, and reported with CLAMP_NEW 0 (R88). -/
def State.refuseCommand (s : State) (off : Nat) (v : Word) : State := s.clampReport none true off v 0

end Sys2Proof.Machine
end

