-- ==== Sys2Proof/Machine/Surf.lean ====
section
/-! DEFINITION. Surface space (02): page entries, the BAR4 aperture, the remote-surface cache, retirement and release. -/

namespace Sys2Proof.Machine

/-! ### Access from the host (R382, R392, R387) -/

/-- The boot stage READY (R375). -/
abbrev stageReady : Nat := 4

/-- Memory requests are served: not during a HOST-SIDE reset and not before STAGE is READY (R392). (Log 13: DEDUCED, safe.) -/
def State.memReady (s : State) : Bool := !s.hostReset && s.fld F.CHIP_BOOT_STATUS_STAGE == stageReady

/-- Region of a domain (R293). -/
def domainRegion (d : Nat) : Nat :=
  if d ≤ 1 then 0 else if d ≤ 3 then 1 else if d ≤ 5 then 2 else if d = 6 then 3 else if d = 7 then 4 else 5

/-- A block that did not answer a forced request is isolated while the request runs (R306). -/
def State.blockIsolated (s : State) (page : Nat) : Bool :=
  match s.power.req with
  | some r => r.isolated.contains page
  | none => false

/-- The region that an offset belongs to, or its block, is isolated (R368, R306). -/
def State.isolated (s : State) (off : Nat) : Bool :=
  s.fld F.CHIP_ERR_SUMMARY_ISOLATED / 2 ^ domainRegion (offDomain off) % 2 == 1 || s.blockIsolated (clampPage off)

/-- The part is in FATAL (R371). -/
def State.fatal (s : State) : Bool := s.bit F.CHIP_STATE_FATAL

/-- A write from the host to BAR0 or BAR2 at a BAR0 offset (R382, R387, R392): with HOST not ON the link is down and
nothing arrives; during a HOST-SIDE reset, before READY and in D3hot it is dropped; in FATAL it is dropped unless it goes
to CHIP.RESET_CTRL (R371); a block whose domain is not ON, or whose region is isolated (R368), drops it; otherwise `k` is
what it does. (Log 13: DEDUCED, safe.) -/
def State.hostWriteTo (s : State) (off : Nat) (k : State → State) : State :=
  if !s.domOn dHOST then s
  else if !s.memReady then s.bump F.PCIEX_UR_COUNT_COUNT
  else if s.pcie.d3hot || (s.fatal && off != R.CHIP_RESET_CTRL) || s.isolated off then s
  else if !s.domOn (offDomain off) then s.bump F.PCIEX_DOWN_ACCESS_COUNT
  else k s

/-- A write from either port: Foreman's accesses do not cross the link. (Log 13: DEDUCED, safe.) -/
def State.portWriteTo (s : State) (port : Port) (off : Nat) (k : State → State) : State :=
  match port with
  | .pcie => s.hostWriteTo off k
  | .foreman => if s.domOn dFORE && s.domOn (offDomain off) then k s else s

/-! ### Page entries (R16 to R20) -/

/-- Bit `i` of a page entry. -/
def entryBit (e : DWord) (i : Nat) : Bool := e.getLsbD i

/-- VALID (R16). -/
def entryValid (e : DWord) : Bool := entryBit e 0
/-- REMOTE (R16). -/
def entryRemote (e : DWord) : Bool := entryBit e 1
/-- PROT (R16). -/
def entryProt (e : DWord) : Bool := entryBit e 2
/-- VOLATILE (R16). -/
def entryVolatile (e : DWord) : Bool := entryBit e 3
/-- RETIRING (R16). -/
def entryRetiring (e : DWord) : Bool := entryBit e 4
/-- BASE[63:21] as a number of 2 MiB units (R16). -/
def entryBase (e : DWord) : Nat := e.toNat / 2 ^ 21

/-- The bits of an entry that a write changes: BASE, VOLATILE, PROT, REMOTE, VALID (R16, R4). -/
def entryMask : DWord := 0xFFFFFFFFFFE0000F#64

def State.entry (s : State) (p : Nat) : DWord := SMap.get (fun _ => 0) s.surf.pageTab p

/-- An entry set; the read-only count MAPPED_PAGES follows from the table. -/
def State.setEntry (s : State) (p : Nat) (e : DWord) : State :=
  { s with surf := { s.surf with pageTab := SMap.set (fun _ => 0) s.surf.pageTab p e } }

/-- The value is legal (R17). -/
def State.entryLegal (s : State) (e : DWord) : Bool :=
  !entryValid e ||
    (if entryRemote e then !entryProt e else entryBase e < s.rsvdFirst && !entryVolatile e)

/-- The change of a committed entry is refused (R20). -/
def entryRefused (old new : DWord) : Bool :=
  entryValid old &&
    (!entryValid new ||
     (entryProt old && (!entryProt new || entryRemote new != entryRemote old || entryBase new != entryBase old)) ||
     (entryRetiring old && new != old))

/-- BAR0 offset of an entry's lower half (R16). -/
def entryOff (p : Nat) : Nat := 0x800000 + 8 * p

/-- An entry write takes effect (R17, R18, R20): `lo` and `hi` are the halves as they were combined, `loWritten` tells
whether the lower half was written. A refused or illegal value is kept, with one report for each half written. -/
def State.applyEntry (s : State) (slot : Option Nat) (p : Nat) (lo : Word) (loWritten : Bool) (hi : Word) : State :=
  let old := s.entry p
  let new : DWord := ((hi ++ lo) &&& entryMask) ||| (old &&& 0x10#64)
  if !s.entryLegal new || entryRefused old new then
    let s := if loWritten then s.clampReport slot true (entryOff p) lo (old.truncate 32) else s
    s.clampReport slot true (entryOff p + 4) hi ((old >>> 32).truncate 32)
  else s.setEntry p new

/-- A direct entry write whose halves are known (R18, R19): at once if the committed entry is not valid, else staged. -/
def State.directEntry (s : State) (p : Nat) (lo : Option Word) (hi : Word) : State :=
  if entryValid (s.entry p) then
    let l : Option Word × Bool :=
      match lo with
      | some l => (some l, true)
      | none => ((SMap.find? s.surf.staged p).bind (·.lo), false)
    { s with surf := { s.surf with staged := SMap.insert s.surf.staged p ⟨l.1, l.2, hi⟩ } }
  else s.applyEntry none p (lo.getD ((s.entry p).truncate 32)) lo.isSome hi

/-- PAGE_ENTRY_WRITE, outside a transaction (R18). (Log 25: DESIGN CHOICE, unsafe.) -/
def State.pageEntryWrite (s : State) (p : Nat) (w : EntryWrite) : State :=
  match w with
  | .lower v => { s with surf := { s.surf with heldLo := SMap.insert s.surf.heldLo p v } }
  | .upper v =>
    let held := SMap.find? s.surf.heldLo p
    { s with surf := { s.surf with heldLo := SMap.erase s.surf.heldLo p } }.directEntry p held v
  | .both v =>
    { s with surf := { s.surf with heldLo := SMap.erase s.surf.heldLo p } }.directEntry p
      (some (v.truncate 32)) ((v >>> 32).truncate 32)

/-- The staged entry writes take effect at the latch (R19, R75), in ascending order of the page.
(Log 26: DEDUCED, unsafe; log 140: DESIGN CHOICE, unsafe.) -/
def State.applyStagedEntries (s : State) : State :=
  let st := s.surf.staged
  { s with surf := { s.surf with staged := [] } }.each st fun s e =>
    s.applyEntry none e.1 (e.2.lo.getD ((s.entry e.1).truncate 32)) e.2.loWritten e.2.hi

/-- MAPPED_PAGES: committed entries with VALID = 1 (R40). -/
def State.mappedPages (s : State) : Nat := (s.surf.pageTab.filter fun e => entryValid e.2).length

/-! ### Translation (R15) -/

/-- Where a surface address leads. -/
inductive Target where
  | invalid
  | dram (addr : Nat) (prot : Bool)
  | host (addr : Nat)
deriving DecidableEq, Repr

/-- The page index of a surface address, if bits [63:41] are zero (R15). -/
def surfPage (a : Nat) : Option Nat := if a < 2 ^ 41 then some (a / frameBytes) else none

/-- Translate one surface address (R15, R16). -/
def State.translate (s : State) (a : Nat) : Target :=
  match surfPage a with
  | none => .invalid
  | some p =>
    let e := s.entry p
    if !entryValid e then .invalid
    else if entryRemote e then .host (entryBase e * frameBytes + a % frameBytes)
    else .dram (entryBase e % 4096 * frameBytes + a % frameBytes) (entryProt e)

/-- The pages that `n` bytes from a surface address lie in; none outside surface space. -/
def pageSpan (a n : Nat) : List Nat :=
  if n = 0 then [] else
    (List.range ((a + n - 1) / frameBytes + 1 - a / frameBytes)).filterMap fun i =>
      let p := a / frameBytes + i
      if p < 2 ^ 20 then some p else none

/-! ### BAR4 (R22 to R24) -/

/-- A frame is protected: a valid entry with PROT names it, or its zero fill runs (R23). -/
def State.frameProtected (s : State) (f : Nat) : Bool :=
  (s.surf.pageTab.any fun e => entryValid e.2 && !entryRemote e.2 && entryProt e.2 && entryBase e.2 == f) ||
    s.surf.zeroing.contains f

/-- The DRAM address of a BAR4 offset (R22). -/
def State.bar4Addr (s : State) (o : Nat) : Nat := s.fld F.SURF_BAR4_WINDOW_BASE_FRAME * frameBytes + o

/-- An access of `n` bytes at `o` lies within BAR4 as sized (R383). (Log 30: PRESUMED, safe.) -/
def State.inBar4 (s : State) (o n : Nat) : Bool := o + n ≤ s.bar4Frames * frameBytes

/-- The frames a BAR4 access of `n` bytes at `o` reaches. -/
def State.bar4Frs (s : State) (o n : Nat) : List Nat := pageSpan (s.bar4Addr o) n

/-- Device DRAM is in use: STORE is ON, and its training did not fail (R355). -/
def State.dramUp (s : State) : Bool := s.domOn dSTORE && s.fld F.CHIP_BOOT_STATUS_BOOT_FAIL != 3

/-- BAR4_READ (R23): the bytes, zero from reserved and protected frames, which are counted once each per access.
(Log 27: DEDUCED, unsafe; log 30: PRESUMED, safe.) -/
def State.bar4Read (s : State) (o n : Nat) : State :=
  let a := s.bar4Addr o
  if !s.dramUp then s.emit (.reply (List.replicate n 0))
  else
    let fs := s.bar4Frs o n
    let bytes := (List.range n).map fun i =>
      let f := (a + i) / frameBytes
      if s.rsvdFirst ≤ f || s.frameProtected f then 0 else s.dramByte (a + i)
    let rs := (fs.filter fun f => s.rsvdFirst ≤ f).length
    let ps := (fs.filter fun f => f < s.rsvdFirst && s.frameProtected f).length
    let s := s.bump F.SURF_RSVD_ACCESS_COUNT (b2n (rs != 0))
    let s := if ps = 0 then s else (s.bump F.SURF_PROT_READS_COUNT).raise 0x14 3
    s.emit (.reply bytes)

/-- BAR4_WRITE (R23, R22): byte enables are honoured; writes to reserved frames are dropped and counted.
(Log 27: DEDUCED, unsafe; log 30: PRESUMED, safe.) -/
def State.bar4Write (s : State) (o : Nat) (bs : List (Option Byte)) : State :=
  if !s.dramUp then s
  else
    let a := s.bar4Addr o
    let rs := ((s.bar4Frs o bs.length).filter fun f => s.rsvdFirst ≤ f).length
    let put (m : SMap Byte) (e : Option Byte × Nat) : SMap Byte :=
      match e.1 with
      | none => m
      | some b => if s.rsvdFirst ≤ (a + e.2) / frameBytes then m else SMap.set dramDefault m (a + e.2) b
    ({ s with dram := bs.zipIdx.foldl put s.dram }).bump F.SURF_RSVD_ACCESS_COUNT (b2n (rs != 0))

/-! ### The remote-surface cache (R27, R28) -/

/-- The set of a line. (Log 6: DESIGN CHOICE, safe.) -/
def rcacheSet (page line : Nat) : Nat := Config.rcacheSet (page * 512 + line) % 256

def State.rcacheFind (s : State) (page line : Nat) : Option CacheLine :=
  (SMap.get (fun _ => []) s.surf.cache (rcacheSet page line)).find? fun l => l.page == page && l.line == line

/-- A line becomes the most recently used of its set; the least recently used of 16 is replaced (R27). -/
def State.rcacheTouch (s : State) (l : CacheLine) : State :=
  let k := rcacheSet l.page l.line
  let ways := SMap.get (fun _ => []) s.surf.cache k
  let ways' := (l :: ways.filter fun x => !(x.page == l.page && x.line == l.line)).take 16
  { s with surf := { s.surf with cache := SMap.set (fun _ => []) s.surf.cache k ways' } }

/-- Every cached line of the pages for which `p` holds is invalidated, and fills in flight for them will be discarded
(R28). -/
def State.rcacheInvalidate (s : State) (p : Nat → Bool) : State :=
  let cache := SMap.mapVals (fun _ => []) (fun _ (ls : List CacheLine) => ls.filter fun l => !p l.page) s.surf.cache
  let fills := s.surf.fills.map fun f => if p f.page then { f with discard := true } else f
  { s with surf := { s.surf with cache := cache, fills := fills } }

/-- Request a fill of one line, unless the cache is in use and one that is not to be discarded is in flight; without the
cache every fetch goes to host memory (R27). (Log 22: DEDUCED, unsafe.) -/
def State.rcacheRequest (s : State) (page line : Nat) (need : Option FillNeed) : State :=
  match s.surf.fills.find? fun f => s.bit F.SURF_CTRL_RCACHE_EN && f.page == page && f.line == line && !f.discard with
  | some _ =>
    let fills := s.surf.fills.map fun f =>
      if f.page == page && f.line == line && !f.discard then { f with needs := f.needs ++ need.toList } else f
    { s with surf := { s.surf with fills := fills } }
  | none =>
    let s := s.hostReadReq (entryBase (s.entry page) * frameBytes + line * 4096) 4096
    { s with surf := { s.surf with fills := s.surf.fills ++ [⟨page, line, need.toList, false⟩] } }

/-! ### References and release (R35, R36) -/

/-- The pages that layer `n` refers to, with the words of its entry given by `get` (R35): every page from its first byte
to its last, for an enabled layer that covers something. (Log 23: DEDUCED, unsafe.) -/
def layerPages (get : Nat → Word) (n : Nat) : List Nat :=
  let o := 0x160000 + 0x20 * n
  let fmt := get (o + 0x10)
  let w := bitsOf (get (o + 0x0C)) 0 16
  let h := bitsOf (get (o + 0x0C)) 16 16
  if bitOf fmt 31 && w != 0 && h != 0 then
    pageSpan ((get o).toNat + (get (o + 4)).toNat * 2 ^ 32) ((h - 1) * bitsOf fmt 0 19 + w * bytesPerPixel (bitsOf fmt 20 4))
  else []

/-- The pages a list refers to, its registers given by `get`. (Log 23: DEDUCED, unsafe.) -/
def listPages (get : Nat → Word) : List Nat :=
  (List.range (min 256 (bitsOf (get R.SCAN_LIST) 0 9))).flatMap (layerPages get)

/-- The LTR value that the part requires (R389): its latency and its scale. (Log 65: DESIGN CHOICE, unsafe.) -/
def State.ltrWant (s : State) : Nat :=
  if !s.bit F.SCAN_STATUS_REPLAY && (listPages s.rd).any fun p => entryValid (s.entry p) && entryRemote (s.entry p) then
    s.fld F.PCIEX_LTR_CFG_REMOTE_VAL + s.fld F.PCIEX_LTR_CFG_REMOTE_SCALE * 1024
  else s.fld F.PCIEX_LTR_CFG_IDLE_VAL + s.fld F.PCIEX_LTR_CFG_IDLE_SCALE * 1024

/-- One LTR message when the value required has changed (R389). (Log 65: DESIGN CHOICE, unsafe.) -/
def State.ltrUpdate (s : State) : State :=
  if !s.hostUp || !s.ltrEnabled || s.pcie.d3hot || s.pcie.ltr == some s.ltrWant then s
  else ({ s with pcie := { s.pcie with ltr := some s.ltrWant } }.setFld F.PCIEX_LTR_LAST_LTR s.ltrWant).emit (.ltr s.ltrWant)

/-- A register view with some words replaced. -/
def overlay (get : Nat → Word) (ws : List (Nat × Word)) : Nat → Word :=
  ws.foldl (fun g w => fun o => if o = w.1 then w.2 else g o) get

/-- The two address words of a layer as a flip writes them. -/
def flipWords (layer : Nat) (a : DWord) : List (Nat × Word) :=
  [(0x160000 + 0x20 * layer, a.truncate 32), (0x160004 + 0x20 * layer, (a >>> 32).truncate 32)]

/-- The pages of every committed list that waits for its latch or line, one change upon the other: the direct staged
writes, each pending flip, each commit that waits (R35). -/
def State.pendingPages (s : State) : List Nat :=
  let step (acc : (Nat → Word) × List Nat) (ws : List (Nat × Word)) : (Nat → Word) × List Nat :=
    match ws with
    | [] => acc
    | _ => let g := overlay acc.1 ws; (g, acc.2 ++ listPages g)
  let held (n : Nat) : List (Nat × Word) :=
    let h := SMap.get (fun _ => SlotHid.init) s.txn.slots n
    (h.writes.map fun w => (w.off, w.v)) ++
      h.held.flatMap fun q =>
        match (SMap.get (fun _ => QueueHid.init) s.queues q).desc with
        | some d => if d.ctl.toNat % 16 = 4 then flipWords (bitsOf d.param 0 8) d.dst else []
        | none => []
  let groups := [s.txn.direct] ++ (s.scan.flips.map fun f => flipWords f.layer f.addr) ++
    ((s.txn.arrived ++ s.txn.merging).map held)
  (groups.foldl step (s.rd, [])).2

/-- The pages that a descriptor names as its source or its destination, over their whole extents (R44, R47, R57): COPY 1,
INFLATE 2, CAPTURE 3, LABEL 5. -/
def descPages (d : Desc) : List Nat :=
  let ty := d.ctl.toNat % 16
  let unit (fixed : Bool) (n : Nat) : Nat := if fixed then min n 64 else n
  (if bitOf d.ctl 6 || !(ty = 1 || ty = 2 || ty = 5) then []
   else pageSpan d.src.toNat (unit (ty = 1 && bitOf d.ctl 4) d.len.toNat)) ++
  (if bitOf d.ctl 7 || !(ty = 1 || ty = 2 || ty = 3) then []
   else pageSpan d.dst.toNat (if ty = 2 then d.param.toNat else unit (ty = 1 && bitOf d.ctl 5) d.len.toNat))

/-- The pages that the transfers in flight have as a source or destination (R35): those in a cage, until they have been
written back. A STAGE moves host memory into a reserved frame, and names no page (R360). -/
def State.hoistPages (s : State) : List Nat :=
  let staged (o : Owner) : Bool :=
    match o with
    | .queue _ => false
    | .chan c => ((SMap.find? s.hoist.chans c).map (·.dram)).getD false
  s.hoist.cages.flatMap fun e => if staged e.2.owner then [] else descPages e.2.desc

/-- Write a RELEASE_FENCE (R37, R118). (Log 24: DEDUCED, unsafe.) -/
def State.releaseFence (s : State) (kind : Nat) (cookie : Word) (first count : Nat) (frame : Word) : State :=
  (s.post F.SURF_FENCE_RING_RING 0x0240
    [(4, kind), (32, cookie.toNat), (20, first), (12, count), (32, frame.toNat)]).raise 0x14 0

/-- The retire commands not yet fenced; PENDING counts them (R40). -/
def State.setRetires (s : State) (rs : List RetireCmd) : State := { s with surf := { s.surf with retires := rs } }

/-- Fence every command whose pages are all released and whose zero fills have ended (R36); during a HOST-SIDE reset no
fence is written (R38). (Log 24: DEDUCED, unsafe.) -/
def State.fenceDone (s : State) : State :=
  let ready := s.surf.retires.filter fun c => c.left.isEmpty && c.zeroing.isEmpty
  if ready.isEmpty then s
  else
    let s := s.setRetires (s.surf.retires.filter fun c => !(c.left.isEmpty && c.zeroing.isEmpty))
    s.each ready fun s c =>
      if s.hostReset then s else s.releaseFence 0 c.cookie c.first c.count (BitVec.ofNat 32 c.frame)

/-- Release one page (R36). -/
def State.releasePage (s : State) (p : Nat) : State :=
  let e := s.entry p
  let s := s.setEntry p (e &&& ~~~0x11#64)
  let s := s.rcacheInvalidate (· == p)
  let f := entryBase e
  let fill := entryProt e && !entryRemote e &&
    !(s.surf.pageTab.any fun x => entryValid x.2 && !entryRemote x.2 && entryBase x.2 == f)
  let rs := s.surf.retires.map fun c =>
    if c.left.contains p then
      { c with left := c.left.filter (· != p), frame := (s.rd R.SCAN_FRAME_SEQ).toNat,
               zeroing := if fill then c.zeroing ++ [f] else c.zeroing }
    else c
  { s with surf := { s.surf with retires := rs, lastRead := SMap.erase s.surf.lastRead p,
                                 zeroing := if fill then s.surf.zeroing ++ [f] else s.surf.zeroing } }

/-- The release check (R35): at every latch and at every Hoist completion. -/
def State.releaseCheck (s : State) : State :=
  let cand := s.surf.retires.flatMap (·.left)
  if cand.isEmpty then s
  else
    let refs := listPages s.rd ++ s.pendingPages ++ s.hoistPages
    let frame := s.rd R.SCAN_FRAME_SEQ
    let old (p : Nat) : Bool :=
      match SMap.find? s.surf.lastRead p with
      | none => true
      | some f => sdiff (BitVec.ofNat 32 f) frame < 0
    let go := cand.filter fun p => !refs.contains p && old p
    (s.each go State.releasePage).fenceDone

/-- A retire command takes effect (R34). (Log 24: DEDUCED, unsafe.) -/
def State.retire (s : State) (slot : Option Nat) (v cookie : Word) : State :=
  let first := bitsOf v 0 20
  let count := bitsOf v 20 12
  if 256 ≤ s.surf.retires.length then s.setFld F.SURF_RETIRE_STATUS_RESULT 2
  else
    let n := min count (2 ^ 20 - first)
    let s := if n = count then s
             else s.clampReport slot false R.SURF_RETIRE_CMD v (BitVec.ofNat 32 (first + n * 2 ^ 20))
    let pages := (List.range n).map (first + ·)
    let marked := pages.filter fun p => entryValid (s.entry p) && !entryRetiring (s.entry p)
    let s := s.each marked fun s p => s.setEntry p (s.entry p ||| 0x10#64)
    let s := s.setFld F.SURF_RETIRE_STATUS_RESULT (b2n (marked.length != n))
    let frame := s.rd R.SCAN_FRAME_SEQ
    if marked.isEmpty then s.releaseFence 0 cookie first n frame
    else s.setRetires (s.surf.retires ++ [⟨first, n, cookie, marked, [], frame.toNat⟩])

/-! ### Meanings -/

/-- PAGE_ENTRY_WRITE (R18, R19). -/
def execPageEntryWrite (p : BitVec 20) (w : EntryWrite) (s : State) : Host.Outcome State Fault Refusal :=
  .next (s.hostWriteTo 0x800000 fun s => (s.pageEntryWrite p.toNat w).ltrUpdate)

/-- A read of device DRAM met an uncorrectable block at a DRAM address (R326): counted, and an error of DRAMC (R365).
(Log 31: DEDUCED, safe.) -/
def State.dramUncorr (s : State) (a : Nat) : State :=
  let s := s.bump F.DRAMC_UNCORR_COUNT
  ((s.setFld F.DRAMC_UNCORR_ADDR_LO_ADDR (a / 64 * 64)).setFld F.DRAMC_UNCORR_ADDR_HI_ADDR (a / 64 * 64 / 2 ^ 32)).blockError 0x0A 1

/-- Reads of device DRAM that were corrected (R346, R365). -/
def State.dramCorr (s : State) (n : Nat) : State :=
  if n = 0 then s else (s.bump F.DRAMC_CORR_COUNT n).blockCorrs 0x0A n

/-- A BAR4 read whose data are uncorrectable is completed as poisoned (R326, R390). (Log 31: DEDUCED, safe.) -/
def State.bar4Poisoned (s : State) (a : Nat) : State :=
  ((s.dramUncorr a).bump F.PCIEX_POISON_SENT_COUNT).emit .replyPoisoned

/-- BAR4_READ (R22, R23, R326); before READY and during a reset it is Unsupported Request (R392). `bad` is the offset in
BAR4 of an uncorrectable block that the read meets. (Log 31: DEDUCED, safe.) -/
def execBar4Read (o n : Nat) (bad : Option Nat) (s : State) : Host.Outcome State Fault Refusal :=
  .next
    (if !s.domOn dHOST then s
     else if !s.memReady then (s.bump F.PCIEX_UR_COUNT_COUNT).emit .unsupported
     else if s.pcie.d3hot || !s.inBar4 o n then s.emit .unsupported
     else
       match bad with
       | none => s.bar4Read o n
       | some b =>
         let a := s.bar4Addr b
         let f := a / frameBytes
         if s.dramUp && o ≤ b && b < o + n && f < s.rsvdFirst && !s.frameProtected f then s.bar4Poisoned a
         else s.bar4Read o n)

/-- BAR4_WRITE (R22, R23). (Log 13: DEDUCED, safe.) -/
def execBar4Write (o : Nat) (bs : List (Option Byte)) (s : State) : Host.Outcome State Fault Refusal :=
  .next
    (if !s.domOn dHOST then s
     else if !s.memReady then s.bump F.PCIEX_UR_COUNT_COUNT
     else if s.pcie.d3hot || s.fatal || !s.inBar4 o bs.length then s
     else s.bar4Write o bs)

/-- A new size of BAR4 takes effect (R383), and BASE_FRAME is forced to the new multiple (R22). `size` is the value of the
BAR Size field; one that names none of the sizes offered, 8 to 13 for 256 MiB to 8 GiB, does nothing. -/
def State.bar4Resize (s : State) (size : Nat) : State :=
  if size < 8 || 13 < size then s
  else
    let s := s.setCfg 0x258 (putBits (s.cfg 0x258) 8 6 size)
    let s := s.setFld F.PCIEX_BAR4_SIZE_SIZE (size - 8)
    let orig := s.rd R.SURF_BAR4_WINDOW
    let b := s.fld F.SURF_BAR4_WINDOW_BASE_FRAME
    let b' := b / s.bar4Frames * s.bar4Frames
    if b' = b then s
    else
      let s := s.setFld F.SURF_BAR4_WINDOW_BASE_FRAME b'
      s.clampReport none false R.SURF_BAR4_WINDOW orig (s.rd R.SURF_BAR4_WINDOW)

/-- BAR4_RESIZE (R383): a write of the BAR Size field, which configuration space takes while the link serves requests. -/
def execBar4Resize (size : BitVec 6) (s : State) : Host.Outcome State Fault Refusal :=
  .next (if !s.domOn dHOST || !s.memReady then s else s.bar4Resize size.toNat)

/-- A write to RETIRE_CMD (R34). -/
def State.retireWrite (s : State) (v : Word) : State :=
  if s.domOn dSTORE then s.retire none v (s.rd R.SURF_RETIRE_COOKIE) else s

/-- RETIRE_CMD (R34), outside a transaction. -/
def execRetireCmd (v : Word) (s : State) : Host.Outcome State Fault Refusal :=
  .next (s.hostWriteTo R.SURF_RETIRE_CMD fun s => s.retireWrite v)

/-- A write to RCACHE_INVAL (R28). -/
def State.rcacheInvalWrite (s : State) (v : Word) : State := s.rcacheInvalidate fun p => bitOf v 31 || p == bitsOf v 0 20

/-- RCACHE_INVAL (R28). -/
def execRcacheInval (v : Word) (s : State) : Host.Outcome State Fault Refusal :=
  .next (s.hostWriteTo R.SURF_RCACHE_INVAL fun s => s.rcacheInvalWrite v)

/-- ZERO_FILL_DONE (R36): the frame reads as zeros, and the fences that waited for the fill are written.
(Log 2: DESIGN CHOICE, safe.) -/
def execZeroFillDone (frame : BitVec 12) (s : State) : Host.Outcome State Fault Refusal :=
  .next
    (if !s.surf.zeroing.contains frame.toNat then s
     else
       let f := frame.toNat
       let s := { s with dram := SMap.drop (fun a => a / frameBytes == f) s.dram }
       let rs := s.surf.retires.map fun c => { c with zeroing := c.zeroing.filter (· != f) }
       ({ s with surf := { s.surf with zeroing := s.surf.zeroing.filter (· != f), retires := rs } }).fenceDone)

end Sys2Proof.Machine
end

