-- ==== Sys2Proof/Machine/Queues.lean ====
section
/-! DEFINITION. Submission queues, cages, channels and event rings (03, R41 to R74). -/

namespace Sys2Proof.Machine

def queueDefault (_ : Nat) : QueueHid := QueueHid.init
def chanDefault (_ : Nat) : ChanHid := ChanHid.init
def slotDefault (_ : Nat) : SlotHid := SlotHid.init

def State.queue (s : State) (q : Nat) : QueueHid := SMap.get queueDefault s.queues q
def State.setQueue (s : State) (q : Nat) (h : QueueHid) : State := { s with queues := SMap.set queueDefault s.queues q h }
def State.chan (s : State) (c : Nat) : ChanHid := SMap.get chanDefault s.hoist.chans c
def State.setChan (s : State) (c : Nat) (h : ChanHid) : State :=
  { s with hoist := { s.hoist with chans := SMap.set chanDefault s.hoist.chans c h } }
def State.cage? (s : State) (n : Nat) : Option Cage := SMap.find? s.hoist.cages n
def State.setCage (s : State) (n : Nat) (c : Cage) : State :=
  { s with hoist := { s.hoist with cages := SMap.insert s.hoist.cages n c } }
def State.freeCage (s : State) (n : Nat) : State :=
  { s with hoist := { s.hoist with cages := SMap.erase s.hoist.cages n } }
def State.slot (s : State) (n : Nat) : SlotHid := SMap.get slotDefault s.txn.slots n
def State.setSlot (s : State) (n : Nat) (h : SlotHid) : State :=
  { s with txn := { s.txn with slots := SMap.set slotDefault s.txn.slots n h } }

/-! ### Codes -/

/-- Queue states (R41). -/
abbrev qDISABLED : Nat := 0
abbrev qPARKED : Nat := 1
abbrev qACTIVE : Nat := 2
abbrev qHELD : Nat := 3
abbrev qSTALLED : Nat := 4
abbrev qSTOPPED : Nat := 5
abbrev qERROR : Nat := 6

/-- Status codes (R67). -/
abbrev stOK : Nat := 0x00
abbrev stOKZERO : Nat := 0x01
abbrev stABORTED : Nat := 0x02
abbrev stOUTPUTFULL : Nat := 0x03
abbrev stADDRFAULT : Nat := 0x20
abbrev stPCIEERROR : Nat := 0x21
abbrev stPROTECTED : Nat := 0x22
abbrev stCLAMPED : Nat := 0x30
abbrev stREFUSED : Nat := 0x31

/-- Slot states (R78). -/
abbrev slFREE : Nat := 0
abbrev slOPEN : Nat := 1
abbrev slFAILED : Nat := 2
abbrev slMERGING : Nat := 3
abbrev slPENDING : Nat := 4

/-! ### Descriptor fields (R44, R45) -/

def Desc.ty (d : Desc) : Nat := bitsOf d.ctl 0 4
def Desc.srcFixed (d : Desc) : Bool := bitOf d.ctl 4
def Desc.dstFixed (d : Desc) : Bool := bitOf d.ctl 5
def Desc.srcHost (d : Desc) : Bool := bitOf d.ctl 6
def Desc.dstHost (d : Desc) : Bool := bitOf d.ctl 7
def Desc.evt (d : Desc) : Bool := bitOf d.ctl 8
def Desc.inTxn (d : Desc) : Bool := bitOf d.ctl 9
def Desc.tflags (d : Desc) : Nat := bitsOf d.ctl 10 6
def Desc.own (d : Desc) : Bool := bitOf d.ctl 31
def Desc.token (d : Desc) : Nat := bitsOf d.tok 0 16
def Desc.tag (d : Desc) : Nat := bitsOf d.tok 16 16

/-- The descriptor in 32 bytes (R44). -/
def descOf (bs : List Byte) : Desc :=
  ⟨dwordAt bs 0, dwordAt bs 8, wordAt bs 16, wordAt bs 20, wordAt bs 24, wordAt bs 28⟩

/-! ### Queues (R41, R51 to R55) -/

def State.qEnabled (s : State) (q : Nat) : Bool := s.bit (F.QCTX_CFG_ENABLE q)
def State.qState (s : State) (q : Nat) : Nat := s.fld (F.QCTX_STATE_STATE q)
def State.setQState (s : State) (q st : Nat) : State := s.setFld (F.QCTX_STATE_STATE q) st
def State.qRing (s : State) (q : Nat) : Nat := s.fld (F.QCTX_CFG_EVT_RING q)
def State.qSize (s : State) (q : Nat) : Nat := 2 ^ s.fld (F.QCTX_CFG_SIZE_LOG2 q)
def State.qHead (s : State) (q : Nat) : Nat := s.fld (F.QCTX_PTRS_HEAD q)

/-- Host address of the descriptor `i` after HEAD (R44). -/
def State.qAddrAt (s : State) (q i : Nat) : Nat :=
  s.fld (F.QCTX_BASE_LO_BASE q) + s.fld (F.QCTX_BASE_HI_BASE q) * 2 ^ 32 + 32 * ((s.qHead q + i) % s.qSize q)

/-- Host address of the descriptor at HEAD (R44). -/
def State.qAddr (s : State) (q : Nat) : Nat := s.qAddrAt q 0

/-- How many descriptors, that at HEAD first, the part reads: those up to TAIL, at most 8 (R51), and that at HEAD in any
case (R52). -/
def State.readSpan (s : State) (q : Nat) : Nat :=
  max 1 (min 8 ((s.fld (F.QCTX_PTRS_TAIL q) + s.qSize q - s.qHead q) % s.qSize q))

/-- The descriptors that follow the one at HEAD, which is read or being read, are read ahead as far as R51 allows.
(Log 32: DESIGN CHOICE, unsafe.) -/
def State.readMore (s : State) (q : Nat) : State :=
  let h := s.queue q
  if h.ended then s
  else
    let done := 1 + h.ahead.length + h.more
    let n := s.readSpan q - done
    (s.setQueue q { h with more := h.more + n }).each (List.range n) fun s i => s.hostReadReq (s.qAddrAt q (done + i)) 32

/-- Reads ahead in flight are given up: what they return is discarded (R51, R64). -/
def State.dropReads (s : State) (q : Nat) : State :=
  let h := s.queue q
  s.setQueue q { h with more := 0, stale := h.stale + h.more }

/-- Start a read of the descriptor at HEAD, and of those after it (R51, R52). (Log 32: DESIGN CHOICE, unsafe.) -/
def State.startRead (s : State) (q : Nat) : State :=
  let s := s.setQState q qACTIVE
  let s := s.setQueue q { s.queue q with reading := true, noted := false, ended := false }
  (s.hostReadReq (s.qAddr q) 32).readMore q

/-- Try to give the descriptor at HEAD its event slot (R69): at once from a disabled ring, else from unreserved room;
without room the queue is STALLED. -/
def State.grant (s : State) (q : Nat) : State :=
  let r := s.qRing q
  if !s.bit (F.RING_CFG_ENABLE r) then
    (s.setQueue q { s.queue q with granted := true, reserved := false }).setQState q qACTIVE
  else if 0 < s.ringUnreserved r then
    let s := s.setRing r { s.ring r with rsv := (s.ring r).rsv + 1 }
    (s.setQueue q { s.queue q with granted := true, reserved := true }).setQState q qACTIVE
  else s.setQState q qSTALLED

/-- Queues bound to ring `r` that are STALLED try again (R69). -/
def State.unstall (s : State) (r : Nat) : State :=
  s.each (s.queues.map (·.1)) fun s q =>
    if s.qState q == qSTALLED && s.qRing q == r then s.grant q else s

/-- Room has returned to a ring: held events first, then stalled queues (R69). -/
def State.roomBack (s : State) (r : Nat) : State := (s.ringDrain r).unstall r

/-- The event of a completed descriptor, on the queue's reservation if it has one; a reservation that is not needed is
dropped (R69, R71). -/
def State.descEvent (s : State) (q : Nat) (d : Desc) (index status residue : Nat) : State :=
  let r := s.qRing q
  let h := s.queue q
  let s := s.setQueue q { h with reserved := false, granted := false }
  let held := h.reserved && s.bit (F.RING_CFG_ENABLE r)
  if d.evt || stABORTED ≤ status then
    s.postR r held (mkEv 0x0000
      [(13, q), (16, index), (8, status), (4, d.ty), (16, d.tag), (32, residue)])
  else if held then (s.setRing r { s.ring r with rsv := (s.ring r).rsv - 1 }).roomBack r
  else s

/-- The write-back of a descriptor at host address `a` (R54): RESIDUE, then the control word with OWN = 0; it is counted. -/
def State.writeDesc (s : State) (a q : Nat) (d : Desc) (status residue : Nat) : State :=
  let s := s.hostCtl (a + 0x10) (leBytes 4 residue)
  let s := s.hostCtl (a + 0x1C) (leBytes 4 (d.ctl.toNat % 2 ^ 16 + status * 2 ^ 16))
  (s.bump (F.QCTX_DONE_COUNT q)).bump F.QMGR_DESC_DONE_COUNT

/-- Write back the descriptor at HEAD (R54), then the event; HEAD moves on. -/
def State.writeBack (s : State) (q : Nat) (d : Desc) (status residue : Nat) : State :=
  let i := s.qHead q
  let s := s.writeDesc (s.qAddr q) q d status residue
  let s := s.setFld (F.QCTX_PTRS_HEAD q) ((i + 1) % s.qSize q)
  s.descEvent q d i status residue

/-- What CMP counts and raises for a completed INFLATE or CAPTURE (R184). -/
def State.cmpCount (s : State) (ty status : Nat) : State :=
  if !s.domOn dCMP || !(ty == 2 || ty == 3) then s
  else
    let s := s.bump (if ty = 2 then F.CMP_INFLATES_COUNT else F.CMP_CAPTURES_COUNT)
    if status = stOUTPUTFULL then (s.bump F.CMP_OUTPUT_FULLS_COUNT).raise 0x16 1
    else if 0x10 ≤ status && status ≤ 0x16 then (s.bump F.CMP_FAULTS_COUNT).raise 0x16 0
    else if status = 0x17 then (s.bump F.CMP_AUTH_FAILS_COUNT).raise 0x16 2
    else s

/-- A completed transfer that was aborted (R64). -/
def State.countAbort (s : State) : State := (s.bump F.HOIST_ABORTS_COUNT).raise 0x12 1

/-- The descriptor at HEAD completes without being in a cage: held, or not yet started (R55, R64, R184).
(Log 38: DEDUCED, unsafe.) -/
def State.completeHead (s : State) (q status residue : Nat) : State :=
  match (s.queue q).desc with
  | none => s
  | some d =>
    ((s.setQueue q { s.queue q with desc := none, heldBy := none, released := false }).cmpCount d.ty status).writeBack q d
      status residue

/-- QUEUE_STOPPED (R71), in the queue's ring. -/
def State.queueStopped (s : State) (q reason index : Nat) : State :=
  s.postR (s.qRing q) false (mkEv 0x0001 [(13, q), (8, reason), (16, index)])

/-- Stop a queue that has nothing in a cage (R64, R42): a descriptor held or not yet started completes ABORTED, reads in
flight are discarded, QUEUE_STOPPED is written, and the queue is STOPPED, DISABLED or, after RESET, PARKED at 0. -/
def State.halt (s : State) (q : Nat) (kind : AbortKind) (reason : Nat) : State :=
  let h := s.queue q
  let s := s.setQueue q { h with reading := false, ahead := [], more := 0, ended := false, noted := false,
                                 stale := h.stale + b2n h.reading + h.more }
  let s :=
    match h.desc with
    | some d => (s.completeHead q stABORTED d.len.toNat).countAbort
    | none => s
  let s := s.queueStopped q reason (s.qHead q)
  match kind with
  | .reset =>
    ((((s.setFld (F.QCTX_PTRS_HEAD q) 0).setFld (F.QCTX_PTRS_TAIL q) 0).setQState q qPARKED).setFld
      (F.QCTX_STATE_CAUSE q) 0)
  | .stop => (s.setQState q qSTOPPED).setFld (F.QCTX_STATE_CAUSE q) reason
  | .disable => (s.setQState q qDISABLED).setFld (F.QCTX_STATE_CAUSE q) reason


/-- Make a slot FAILED with its reason and detail (R79, R90). -/
def State.failSlot (s : State) (n reason : Nat) (detail : Word) : State :=
  ((s.setFld (F.SLOT_STATE_STATE n) slFAILED).setFld (F.SLOT_STATE_REASON n) reason).setSlot n
    { s.slot n with detail := detail }

/-- The token of a slot (R77). -/
def State.token (s : State) (n : Nat) : Nat := s.fld (F.SLOT_STATE_SEQ n) * 64 + n

/-- A descriptor with TXN = 1 reaches HEAD (R55): it is held; none where it names no open transaction. -/
def State.holdHead (s : State) (q : Nat) (d : Desc) : Option State :=
  let n := d.token % 64
  let st := s.fld (F.SLOT_STATE_STATE n)
  if s.token n = d.token && st = slOPEN then
    let s := (s.setQueue q { s.queue q with heldBy := some n }).setQState q qHELD
    some
      (if s.fld (F.SLOT_WRITES_COUNT n) < 4096 then
         (s.setSlot n { s.slot n with held := (s.slot n).held ++ [q] }).bump (F.SLOT_WRITES_COUNT n)
       else (s.setSlot n { s.slot n with heldFailed := (s.slot n).heldFailed ++ [q] }).failSlot n 4 0x00FFFFFF#32)
  else if s.token n = d.token && st = slFAILED then
    let s := (s.setQueue q { s.queue q with heldBy := some n }).setQState q qHELD
    some (s.setSlot n { s.slot n with heldFailed := (s.slot n).heldFailed ++ [q] })
  else none

/-- HEAD has reached the next descriptor (R51, R55): one read ahead is taken, its read in flight becomes that of HEAD, the
queue parks where OWN was 0, or else the descriptor is read. One that is refused completes, and HEAD moves on. -/
def headGo : Nat → State → Nat → State
  | 0, s, _ => s
  | fuel + 1, s, q =>
    let h := s.queue q
    match h.ahead with
    | d :: rest =>
      let s := (s.setQueue q { h with desc := some d, ahead := rest }).readMore q
      if !d.inTxn then s.grant q
      else
        match s.holdHead q d with
        | some t => t
        | none =>
          let s := s.completeHead q stREFUSED d.len.toNat
          if s.bit (F.QCTX_CFG_STOP_ON_ERR q) then s.halt q .stop 2 else headGo fuel s q
    | [] =>
      if h.more != 0 then (s.setQueue q { h with reading := true, more := h.more - 1 }).setQState q qACTIVE
      else if h.ended then (s.setQueue q { h with ended := false }).setQState q qPARKED
      else s.startRead q

/-- Descriptors that the part can have read ahead, and one more step (R51). -/
abbrev headFuel : Nat := 9

/-- After a completion (R53, R41): STOP_ON_ERR stops the queue, else the next descriptor follows. -/
def State.queueNext (s : State) (q status : Nat) : State :=
  if s.bit (F.QCTX_CFG_STOP_ON_ERR q) && 0x10 ≤ status then s.halt q .stop 2
  else if s.qEnabled q && s.qState q != qSTOPPED && s.qState q != qERROR && s.qState q != qDISABLED then headGo headFuel s q
  else s

/-- A descriptor leaves its transaction's lists: completed by its queue (R55). -/
def State.unhold (s : State) (q : Nat) : State :=
  match (s.queue q).heldBy with
  | none => s
  | some n =>
    let h := s.slot n
    s.setSlot n { h with held := h.held.filter (· != q), heldFailed := h.heldFailed.filter (· != q) }

/-! ### Cages (R60) -/

/-- The transfer of a channel's active set, as the COPY descriptor it is (R63). -/
def State.chanDesc (s : State) (c : Nat) : Desc :=
  let h := s.chan c
  ⟨s.rd (R.HOIST_CH_ACT_SRC_HI c) ++ s.rd (R.HOIST_CH_ACT_SRC_LO c),
   s.rd (R.HOIST_CH_ACT_DST_HI c) ++ s.rd (R.HOIST_CH_ACT_DST_LO c),
   BitVec.ofNat 32 (s.fld (F.HOIST_CH_ACT_LEN_LENGTH c)), 0, 0,
   BitVec.ofNat 32 (1 + b2n h.srcHost * 64 + b2n h.dstHost * 128 + b2n h.evt * 256)⟩

/-- Put a transfer into a free cage. A reserved TYPE completes at once with REFUSED_RANGE (R47). (Log 33: DESIGN CHOICE, unsafe.) -/
def State.enterCage (s : State) (n : Nat) (o : Owner) (d : Desc) : State :=
  s.setCage n ⟨o, d, if 7 ≤ d.ty then .done stREFUSED d.len.toNat else .start, d.src.toNat, d.dst.toNat, d.len.toNat, 0,
    none, [], [], none, s.rd R.SCAN_FRAME_SEQ⟩

/-- The free cage used next: the lowest-numbered one. (Log 33: DESIGN CHOICE, unsafe; log 123: DEDUCED, unsafe.) -/
def State.nextCage (s : State) : Option Nat := (List.range 32).find? fun n => (s.cage? n).isNone

/-- Whether a channel's active set waits for a cage. -/
def State.chanWaits (s : State) (c : Nat) : Bool :=
  s.bit (F.HOIST_CH_STATUS_ACTIVE c) && !(s.hoist.cages.any fun e => e.2.owner == .chan c)

/-- Numbers below `n` in round-robin order after `last`. -/
def rrOrder (n last : Nat) : List Nat := (List.range n).map fun i => (last + 1 + i) % n

/-- A queue is ready (R60): its descriptor at HEAD is not held and has its event slot, and no cage holds one of its
descriptors (R53). -/
def State.queueReady (s : State) (q : Nat) : Bool :=
  let h := s.queue q
  h.desc.isSome && h.granted && !h.incage && h.heldBy.isNone && s.qEnabled q &&
    !s.hoist.cages.any fun e => e.2.owner == .queue q

/-- Distance of `q` after `last` in queue-number order. -/
def rrDist (n last q : Nat) : Nat := (q + n - (last + 1) % n) % n

/-- The ready queue served next (R60): highest PRIO, then round-robin; below PRIO 4 only while more than CAGE_RSV cages
are free. -/
def State.nextQueue (s : State) (free : Nat) : Option Nat :=
  let better (a b : Nat) : Bool :=
    let pa := s.fld (F.QCTX_CFG_PRIO a)
    let pb := s.fld (F.QCTX_CFG_PRIO b)
    pb < pa || (pa == pb && rrDist 8192 s.hoist.lastQueue a < rrDist 8192 s.hoist.lastQueue b)
  let ok (q : Nat) : Bool :=
    s.queueReady q && (4 ≤ s.fld (F.QCTX_CFG_PRIO q) || s.fld F.HOIST_ARB_CAGE_RSV < free)
  ((s.queues.map (·.1)).filter ok).foldl
    (fun b q => match b with | none => some q | some x => if better q x then some q else some x) none

/-- CAGE_ASSIGN (R60), until no cage or no candidate is left. (Log 123: DEDUCED, unsafe.) -/
def assignGo : Nat → State → State
  | 0, s => s
  | fuel + 1, s =>
    match s.nextCage with
    | none => s
    | some n =>
      match (rrOrder 16 s.hoist.lastChan).find? s.chanWaits with
      | some c =>
        let s := s.enterCage n (.chan c) (s.chanDesc c)
        assignGo fuel { s with hoist := { s.hoist with lastChan := c } }
      | none =>
        match s.nextQueue (32 - s.hoist.cages.length) with
        | none => s
        | some q =>
          match (s.queue q).desc with
          | none => s
          | some d =>
            let s := s.setQueue q { s.queue q with incage := true, released := false }
            let s := s.enterCage n (.queue q) d
            assignGo fuel { s with hoist := { s.hoist with lastQueue := q } }

/-- Hoist accepts no new work: it has agreed to an entry, or its transfers are being aborted for one (R306). -/
def State.hoistQuiet (s : State) : Bool :=
  match s.power.req with
  | some r => r.agreed.contains 0x12 || r.forcing.any fun f => f.2 == 1
  | none => false

/-- CAGE_ASSIGN (R60). While the function is in D3hot no cage takes work (R387), nor while Hoist quiesces (R306), nor in
FATAL (R371). (Log 123: DEDUCED, unsafe.) -/
def State.assign (s : State) : State :=
  if s.pcie.d3hot || !s.hostUp || s.hoistQuiet || s.fatal then s else assignGo 33 s

/-- BUSY_CAGES (R73). -/
def State.busyCages (s : State) : Nat := s.hoist.cages.foldl (fun a e => a + 2 ^ e.1) 0

/-- A descriptor after HEAD has been read ahead (R51). A read that failed is made again when HEAD gets there.
(Log 32: DESIGN CHOICE, unsafe.) -/
def State.aheadFetched (s : State) (q : Nat) (res : ReadRes) : State :=
  let h := s.queue q
  match res with
  | .data bs =>
    let d := descOf bs
    if d.own then s.setQueue q { h with more := h.more - 1, ahead := h.ahead ++ [d] }
    else (s.setQueue q { h with more := h.more - 1, ended := true }).dropReads q
  | _ => (s.setQueue q { h with more := h.more - 1 }).dropReads q

/-- A read of a descriptor returned, the oldest one in flight (R51, R52, R71). (Log 32: DESIGN CHOICE, unsafe.) -/
def State.descFetched (s : State) (q : Nat) (res : ReadRes) : State :=
  let h := s.queue q
  let s := s.noteRead res
  if 0 < h.stale then s.setQueue q { h with stale := h.stale - 1 }
  else if !h.reading then (if h.more = 0 then s else s.aheadFetched q res)
  else
    let s := s.setQueue q { h with reading := false }
    match res with
    | .data bs =>
      let d := descOf bs
      if !d.own then (if h.noted then (s.dropReads q).startRead q else (s.dropReads q).setQState q qPARKED)
      else (headGo headFuel (s.setQueue q { s.queue q with ahead := [d] }) q).assign
    | _ =>
      let s := s.dropReads q
      let cause := if res = .timeout then 2 else 1
      let s := (s.setQState q qERROR).setFld (F.QCTX_STATE_CAUSE q) cause
      let s := (s.setFld F.QMGR_ERR_QUEUE_QUEUE q).raise 0x11 0
      s.postR (s.qRing q) false (mkEv 0x0002 [(13, q), (8, cause), (16, s.qHead q)])

/-! ### Completion (R54, R63) -/

/-- Move a channel's shadow set into its idle active set (R63). -/
def State.moveShadow (s : State) (c : Nat) : State :=
  let s := s.wr (R.HOIST_CH_ACT_SRC_LO c) (s.rd (R.HOIST_CH_SH_SRC_LO c))
  let s := s.wr (R.HOIST_CH_ACT_SRC_HI c) (s.rd (R.HOIST_CH_SH_SRC_HI c))
  let s := s.wr (R.HOIST_CH_ACT_DST_LO c) (s.rd (R.HOIST_CH_SH_DST_LO c))
  let s := s.wr (R.HOIST_CH_ACT_DST_HI c) (s.rd (R.HOIST_CH_SH_DST_HI c))
  let s := s.setFld (F.HOIST_CH_ACT_LEN_LENGTH c) (s.fld (F.HOIST_CH_SH_LEN_LENGTH c))
  let s := s.setChan c ⟨s.bit (F.HOIST_CH_SH_CTRL_SRC_HOST c), s.bit (F.HOIST_CH_SH_CTRL_DST_HOST c),
    s.bit (F.HOIST_CH_SH_CTRL_EVT c), false, false⟩
  (s.setFld (F.HOIST_CH_STATUS_ARMED c) 0).setFld (F.HOIST_CH_STATUS_ACTIVE c) 1

/-- STATUS, RESIDUE and CHANNEL_DONE of one finished transfer of a channel (R63). -/
def State.chanStatus (s : State) (c : Nat) (evt : Bool) (status residue : Nat) : State :=
  let s := (s.setFld (F.HOIST_CH_STATUS_STATUS c) status).setFld (F.HOIST_CH_RESIDUE_RESIDUE c) residue
  let s := s.raise 0x12 0
  if evt || stABORTED ≤ status then s.post F.HOIST_CH_EVT_RING 0x0003 [(4, c), (8, status), (32, residue)] else s

/-- The armed shadow set is aborted: disarmed, no byte moved, completed by itself (R64). (Log 40: DESIGN CHOICE, unsafe.) -/
def State.abortShadow (s : State) (c : Nat) : State :=
  if s.bit (F.HOIST_CH_STATUS_ARMED c) then
    ((s.setFld (F.HOIST_CH_STATUS_ARMED c) 0).countAbort).chanStatus c (s.bit (F.HOIST_CH_SH_CTRL_EVT c)) stABORTED
      (s.fld (F.HOIST_CH_SH_LEN_LENGTH c))
  else s

/-- Bytes of one transfer of a STAGE (R360). -/
abbrev stageChunk : Nat := 2 ^ 19

/-- A transfer of CH12 for a STAGE has ended (R360, R361). -/
def State.stageMoved (s : State) (status residue : Nat) : State :=
  match s.boot.mbox with
  | none => s
  | some m =>
    let n := min stageChunk (m.a2.toNat - m.pos) - residue
    let pos := m.pos + n
    let r := if status = stOK then m.result else some ⟨7, some status, some (BitVec.ofNat 32 pos), none⟩
    { s with boot := { s.boot with mbox := some { m with pos := pos, moving := false, result := r } } }

/-- The active transfer of a channel has completed (R63, R64). -/
def State.chanDone (s : State) (c status residue : Nat) : State :=
  let h := s.chan c
  let s := if h.dram then s.stageMoved status residue else s
  let s := s.setFld (F.HOIST_CH_STATUS_ACTIVE c) 0
  let s := if status = stABORTED then s.countAbort else s
  let s := s.chanStatus c h.evt status residue
  let s := s.setChan c { h with shAbort := false, dram := false }
  if h.shAbort then s.abortShadow c
  else if s.bit (F.HOIST_CH_STATUS_ARMED c) then s.moveShadow c
  else s

/-- QCMD_STATUS of a command that waited for a burst becomes DONE (R72). -/
def State.qcmdFinish (s : State) (q : Nat) : State :=
  if s.fld F.QMGR_QCMD_STATUS_QUEUE == q && s.fld F.QMGR_QCMD_STATUS_RESULT == 1 then
    s.setFld F.QMGR_QCMD_STATUS_RESULT 0 else s

/-- A descriptor of a queue that was disabled while it ran is written back where it was read, with its event and
QUEUE_STOPPED (R42, R54, R64). Where the queue has been enabled anew, that is all. (Log 129: DESIGN CHOICE, unsafe.) -/
def State.homeDone (s : State) (q : Nat) (c : Cage) (w : Home) (status residue : Nat) : State :=
  let s := s.writeDesc w.addr q c.desc status residue
  let held := w.reserved && s.bit (F.RING_CFG_ENABLE w.ring)
  let s :=
    if c.desc.evt || stABORTED ≤ status then
      s.postR w.ring held (mkEv 0x0000
        [(13, q), (16, w.index), (8, status), (4, c.desc.ty), (16, c.desc.tag), (32, residue)])
    else if held then (s.setRing w.ring { s.ring w.ring with rsv := (s.ring w.ring).rsv - 1 }).roomBack w.ring
    else s
  let s := s.each c.aborts fun s a => s.postR w.ring false (mkEv 0x0001 [(13, q), (8, a.2), (16, w.next)])
  if w.anew then s
  else
    let s := s.setQueue q { QueueHid.init with stale := (s.queue q).stale + b2n (s.queue q).reading + (s.queue q).more }
    ((s.setFld (F.QCTX_PTRS_HEAD q) w.next).setQState q qDISABLED).setFld (F.QCTX_STATE_CAUSE q) 4

/-- The descriptor in a cage of a queue has completed (R53, R54, R64). -/
def State.queueDone (s : State) (q : Nat) (c : Cage) (status residue : Nat) : State :=
  let s := if status = stABORTED then s.countAbort else s
  let s := s.cmpCount c.desc.ty status
  match c.home with
  | some w => (s.homeDone q c w status residue).qcmdFinish q
  | none =>
    let s := (s.setQueue q { s.queue q with desc := none, incage := false }).writeBack q c.desc status residue
    if c.aborts.isEmpty then s.queueNext q status
    else (s.each c.aborts fun s a => s.halt q a.1 a.2).qcmdFinish q

/-- A cage whose transfer is done is written back, the release check is made and the free cage is given on (R54, R35,
R60). -/
def State.transferComplete (s : State) (n : Nat) : State :=
  match s.cage? n with
  | some c =>
    match c.phase with
    | .done status residue =>
      let s := s.freeCage n
      let s :=
        match c.owner with
        | .chan ch => s.chanDone ch status residue
        | .queue q => s.queueDone q c status residue
      s.releaseCheck.assign
    | _ => s
  | none => s

/-! ### COPY (R56 to R59) -/

/-- The next burst of a cage is `n` bytes: up to the next 4 KiB boundary of either advancing address (R56). -/
def burstLen (c : Cage) : Nat :=
  let bs := if c.desc.srcFixed then 4096 else 4096 - c.src % 4096
  let bd := if c.desc.dstFixed then 4096 else 4096 - c.dst % 4096
  min c.left (min bs bd)

/-- FIXED_UNIT in bytes (R46). -/
def fixedUnit (d : Desc) : Nat := 4 * 2 ^ (d.tflags % 8)

/-- Where a burst reads. -/
def State.burstSrc (s : State) (c : Cage) : Target := if c.desc.srcHost then .host c.src else s.translate c.src

/-- The transfer of a cage goes to device DRAM by its address: part of a STAGE (R360). -/
def State.toDram (s : State) (c : Cage) : Bool :=
  match c.owner with
  | .chan n => (s.chan n).dram
  | .queue _ => false

/-- Where a burst writes; a remote page is no destination (R26, R58). -/
def State.burstDst (s : State) (c : Cage) : Target :=
  if c.desc.dstHost then .host c.dst
  else if s.toDram c then .dram c.dst false
  else match s.translate c.dst with
    | .host _ => .invalid
    | t => t

/-- Set a cage to a finished transfer. -/
def State.finish (s : State) (n : Nat) (c : Cage) (status residue : Nat) : State :=
  s.setCage n { c with phase := .done status residue }

/-- Issue the read of the next burst, if it comes from host memory; an address that does not lead anywhere ends the
transfer with ADDR_FAULT (R58). -/
def State.startBurst (s : State) (n : Nat) (c : Cage) : State :=
  match s.burstSrc c, s.burstDst c with
  | .invalid, _ => s.finish n c stADDRFAULT (c.left + c.rest)
  | _, .invalid => s.finish n c stADDRFAULT (c.left + c.rest)
  | .host a, _ =>
    let s := s.setCage n { c with phase := .bursts }
    if c.desc.srcFixed then (if c.unit.isSome then s else s.hostReadReq a (fixedUnit c.desc)) else s.hostReadReq a (burstLen c)
  | _, _ => s.setCage n { c with phase := .bursts }

/-- The source lies in a protected page. -/
def State.srcProtected (s : State) (a n : Nat) : Bool :=
  (pageSpan a n).any fun p => entryValid (s.entry p) && !entryRemote (s.entry p) && entryProt (s.entry p)

/-- Every page of the destination is a protected local page. -/
def State.dstAllProtected (s : State) (a n : Nat) : Bool :=
  a + n ≤ 2 ^ 41 &&
    (pageSpan a n).all fun p => entryValid (s.entry p) && !entryRemote (s.entry p) && entryProt (s.entry p)

/-- The checks of a COPY and its first burst (R47, R48, R57 to R59). -/
def State.descCopy (s : State) (n : Nat) (c : Cage) : State :=
  let d := c.desc
  let u := fixedUnit d
  let fixed := d.srcFixed || d.dstFixed
  let len := d.len.toNat
  if (d.srcHost && d.dstHost) || 5 ≤ d.tflags % 8 ||
      (d.srcFixed && c.src % u != 0) || (d.dstFixed && c.dst % u != 0) then s.finish n c stREFUSED len
  else if len = 0 then s.finish n c stOKZERO 0
  else if !d.srcHost && s.srcProtected c.src (if d.srcFixed then u else len) &&
      (d.dstHost || !s.dstAllProtected c.dst (if d.dstFixed then u else len)) then s.finish n c stPROTECTED len
  else
    let rest := if fixed then len % u else 0
    let c := { c with left := len - rest, rest := rest }
    if c.left = 0 then s.finish n c stCLAMPED rest else s.startBurst n c

/-- Repeat a unit up to `n` bytes. -/
def repeatUnit (fuel : Nat) (u : List Byte) (n : Nat) : List Byte :=
  match fuel with
  | 0 => []
  | fuel + 1 => if n = 0 then [] else (u ++ repeatUnit fuel u (n - u.length)).take n

/-- Bytes moved (R73): those of the bursts of COPY, of the channels and of LABEL. (Log 139: DESIGN CHOICE, unsafe.) -/
def State.countBytes (s : State) (n : Nat) : State :=
  let t := s.fld F.HOIST_BYTES_LO_COUNT + s.fld F.HOIST_BYTES_HI_COUNT * 2 ^ 32 + n
  (s.setFld F.HOIST_BYTES_LO_COUNT t).setFld F.HOIST_BYTES_HI_COUNT (t / 2 ^ 32)

/-- How far into a unit of `u` bytes the next byte of a transfer with a fixed address lies: what it moves is a whole
number of units (R57), and a burst may end inside one. (Log 37: DEDUCED, unsafe.) -/
def Cage.unitPhase (c : Cage) (u : Nat) : Nat := (u - c.left % u) % u

/-- The bytes of a burst as the units they belong to, each with the offset in its unit at which it begins.
(Log 37: DEDUCED, unsafe.) -/
def unitChunks (fuel u p : Nat) (data : List Byte) : List (Nat × List Byte) :=
  match fuel with
  | 0 => []
  | fuel + 1 => if data.isEmpty then [] else (p, data.take (u - p)) :: unitChunks fuel u 0 (data.drop (u - p))

/-- The data of a burst are written (R56, R57). -/
def State.burstWrite (s : State) (c : Cage) (data : List Byte) : State :=
  let u := fixedUnit c.desc
  let parts := if c.desc.dstFixed then unitChunks data.length u (c.unitPhase u) data else [(0, data)]
  match s.burstDst c with
  | .host a => s.each parts fun s x => s.hostData (a + x.1) x.2
  | .dram a _ => s.each parts fun s x => s.dramWrite (a + x.1) x.2
  | .invalid => s

/-- Pad or cut what a read returned to `n` bytes. -/
def fitBytes (n : Nat) (bs : List Byte) : List Byte := bs.take n ++ List.replicate (n - bs.length) 0

/-- A channel's active registers advance with its cage (R73). -/
def State.showChan (s : State) (c : Cage) : State :=
  match c.owner with
  | .queue _ => s
  | .chan ch =>
    let s := (s.wr (R.HOIST_CH_ACT_SRC_LO ch) (BitVec.ofNat 32 c.src)).wr (R.HOIST_CH_ACT_SRC_HI ch) (BitVec.ofNat 32 (c.src / 2 ^ 32))
    let s := (s.wr (R.HOIST_CH_ACT_DST_LO ch) (BitVec.ofNat 32 c.dst)).wr (R.HOIST_CH_ACT_DST_HI ch) (BitVec.ofNat 32 (c.dst / 2 ^ 32))
    s.setFld (F.HOIST_CH_ACT_LEN_LENGTH ch) c.left

/-- The next thing a moving transfer does after a burst (R56, R57, R64). -/
def State.afterBurst (s : State) (n : Nat) (c : Cage) : State :=
  if c.left = 0 then s.finish n c (if c.rest = 0 then stOK else stCLAMPED) c.rest
  else if !c.aborts.isEmpty then s.finish n c stABORTED (c.left + c.rest)
  else s.startBurst n c

/-- A burst of a COPY or channel transfer is over (R56 to R58). (Log 50: DESIGN CHOICE, safe.) -/
def State.burstDone (s : State) (n : Nat) (c : Cage) (res : ReadRes) : State :=
  let k := burstLen c
  let u := fixedUnit c.desc
  let raw : Option (List Byte) :=
    if c.desc.srcFixed then
      match c.unit, s.burstSrc c, res with
      | some x, _, _ => some x
      | none, .dram a _, _ => some (s.dramRead a u)
      | none, .host _, .data bs => some (fitBytes u bs)
      | _, _, _ => none
    else
      match s.burstSrc c, res with
      | .dram a _, _ => some (s.dramRead a k)
      | .host _, .data bs => some (fitBytes k bs)
      | _, _ => none
  match s.burstSrc c, s.burstDst c, raw with
  | .invalid, _, _ => s.finish n c stADDRFAULT (c.left + c.rest)
  | _, .invalid, _ => s.finish n c stADDRFAULT (c.left + c.rest)
  | _, _, none => (s.noteRead res).finish n c stPCIEERROR (c.left + c.rest)
  | _, _, some bs =>
    let p := c.unitPhase u
    let data := if c.desc.srcFixed then (repeatUnit (p + k + 1) bs (p + k)).drop p else bs
    let s := (s.burstWrite c data).countBytes k
    let c := { c with src := if c.desc.srcFixed then c.src else c.src + k,
                      dst := if c.desc.dstFixed then c.dst else c.dst + k, left := c.left - k,
                      unit := if c.desc.srcFixed then some bs else none }
    (s.showChan c).afterBurst n c

/-! ### Aborts (R64) -/

/-- What a transfer has not moved, when it is aborted outside a burst. -/
def Cage.residue (c : Cage) : Nat :=
  match c.phase with
  | .start => c.desc.len.toNat
  | .bursts => c.left + c.rest
  | .landing => c.desc.len.toNat - c.landed.length
  | _ => c.desc.len.toNat

/-- The number of a job context that a queue holds (R173). -/
def State.ctxOf (s : State) (q : Nat) : Option Nat := (List.find? (fun e : Nat × JobCtx => e.2.queue == q) s.cmp.ctxs).map (·.1)

/-- A context becomes FREE. -/
def State.freeCtx (s : State) (c : Nat) : State := { s with cmp := { s.cmp with ctxs := SMap.erase s.cmp.ctxs c } }

/-- A descriptor leaves LANDING, or its place behind the one that uses it (R283). -/
def State.unland (s : State) (n : Nat) : State :=
  { s with label := { s.label with landing := s.label.landing.filter fun e => e.2 != n } }

/-- The descriptor in a cage uses LANDING of its panel: it is the first one there. -/
def State.landsNow (s : State) (n : Nat) : Bool :=
  match s.label.landing.find? fun e => e.2 == n with
  | none => false
  | some e => (s.label.landing.find? fun x => x.1 == e.1) == some e

/-- The priority of a cage on the datapath (R61). -/
def State.cagePrio (s : State) (c : Cage) : Nat :=
  match c.owner with
  | .queue q => s.fld (F.QCTX_CFG_PRIO q)
  | .chan _ => 8

/-- A cage has a burst to move. -/
def State.moves (s : State) (n : Nat) (c : Cage) : Bool :=
  match c.phase with
  | .bursts => c.left != 0
  | .landing => c.left != 0 && s.landsNow n
  | _ => false

/-- The next burst to end may be that of cage `n` (R61, R62): no cage whose data come from device DRAM, and so are ready,
has a higher priority, or the same priority and an earlier turn. (Log 127: DESIGN CHOICE, unsafe.) -/
def State.burstTurn (s : State) (n : Nat) (c : Cage) : Bool :=
  let p := s.cagePrio c
  let last := SMap.get (fun _ => 31) s.hoist.lastBurst p
  !(s.hoist.cages.any fun e =>
    let q := s.cagePrio e.2
    e.1 != n && s.moves e.1 e.2 && (match s.burstSrc e.2 with | .dram .. => true | _ => false) &&
      (p < q || (p == q && rrDist 32 last e.1 < rrDist 32 last n)))

/-- A burst of cage `n` has ended (R61, R62): `lost` beats were lost to pre-emption, and `waits` cycles to conflicts of a
transfer of Foreman at the scratchpad (R323). -/
def State.burstEnd (s : State) (n : Nat) (c : Cage) (lost waits : Nat) : State :=
  let s := { s with hoist := { s.hoist with lastBurst := SMap.insert s.hoist.lastBurst (s.cagePrio c) n } }
  let s := if s.bit F.HOIST_ARB_ARB_MODE then s else s.bump F.HOIST_PREEMPTS_COUNT lost
  match c.owner with
  | .chan k => if 12 ≤ k && s.domOn dSTORE then s.bump F.SRAMC_SP_STALLS_COUNT waits else s
  | .queue _ => s

/-- A job that ends early gives up the context that it resumed, the capture buffer and LANDING (R175, R180, R283). -/
def State.dropJob (s : State) (n : Nat) (c : Cage) : State :=
  let s := s.unland n
  let s :=
    match c.owner with
    | .queue q =>
      match s.ctxOf q with
      | some x => if c.desc.ty = 2 && c.desc.tflags % 2 = 1 then s.freeCtx x else s
      | none => s
    | .chan _ => s
  match s.cmp.capture with
  | some cp => if cp.cage = n then { s with cmp := { s.cmp with capture := none } } else s
  | none => s

/-- Abort the transfer in a cage (R64): a burst in progress ends first, every other wait ends at once. -/
def State.abortCage (s : State) (n : Nat) (c : Cage) (kind : AbortKind) (reason : Nat) : State :=
  let c := { c with aborts := c.aborts ++ [(kind, reason)] }
  match c.phase with
  | .bursts => s.setCage n c
  | .landing => if s.landsNow n && c.left != 0 then s.setCage n c else (s.dropJob n c).finish n c stABORTED c.residue
  | .done .. => s.setCage n c
  | _ => (s.dropJob n c).finish n c stABORTED c.residue

/-- The cage of a queue's descriptor. -/
def State.cageOf (s : State) (o : Owner) : Option (Nat × Cage) :=
  List.find? (fun e : Nat × Cage => e.2.owner == o) s.hoist.cages

/-- Where the descriptor of a queue that is now disabled was read (R42). -/
def State.homeOf (s : State) (q : Nat) : Home :=
  ⟨s.qAddr q, s.qHead q, (s.qHead q + 1) % s.qSize q, s.qRing q, (s.queue q).reserved, false⟩

/-- Stop a queue (R64, R42): the descriptor in its cage is aborted, or the queue is halted at once. A cage left from before
the queue was last enabled is none of its descriptors. (Log 36: DEDUCED, unsafe.) -/
def State.stopQueue (s : State) (q : Nat) (kind : AbortKind) (reason : Nat) : State :=
  match s.cageOf (.queue q) with
  | some (n, c) =>
    if c.home.isSome then ((s.unhold q).halt q kind reason)
    else s.abortCage n (if kind = .disable then { c with home := some (s.homeOf q) } else c) kind reason
  | none => ((s.unhold q).halt q kind reason)

/-! ### Meanings -/

/-- QUEUE_CFG_WRITE (R41, R42). -/
def State.queueCfgWrite (s : State) (slot : Option Nat) (q reg : Nat) (v : Word) : State :=
  let off := 0x100000 + 0x20 * q + 4 * reg
  let en := s.qEnabled q
  let old := s.rd off
  match reg with
  | 0 =>
    if en then (if v = old then s else s.clampReport slot true off v old)
    else
      let new := v &&& 0xFFFFF000#32
      let s := s.wr off new
      if new = v then s else s.clampReport slot false off v new
  | 1 => if en then (if v = old then s else s.clampReport slot true off v old) else s.wr off v
  | 2 =>
    let c : Chk := ⟨v &&& 0xA03F071F#32, false, false⟩
    let c := if en then (((c.keep old 0 5).keep old 16 6).keep old 29 1)
             else c.clampTo 0 5 (max 4 (min 16 (bitsOf v 0 5)))
    let s := s.wr off c.new
    let s := if c.reports then s.clampReport slot c.kept off v c.new else s
    if !en && bitOf v 31 then
      let s := ((s.setFld (F.QCTX_PTRS_HEAD q) 0).setFld (F.QCTX_PTRS_TAIL q) 0)
      let s := (s.setQState q qPARKED).setFld (F.QCTX_STATE_CAUSE q) 0
      let h := s.queue q
      let s := s.setQueue q { QueueHid.init with stale := h.stale + b2n h.reading + h.more }
      match s.cageOf (.queue q) with
      | some (n, c) => s.setCage n { c with home := c.home.map fun w => { w with anew := true } }
      | none => s
    else if en && !bitOf v 31 then (s.stopQueue q .disable 4).assign
    else s
  | _ => s

def execQueueCfgWrite (q : BitVec 13) (reg : BitVec 3) (v : Word) (s : State) : Host.Outcome State Fault Refusal :=
  .next (s.hostWriteTo 0x100000 fun s => s.queueCfgWrite none q.toNat reg.toNat v)

/-- DOORBELL (R43, R52). -/
def State.doorbell (s : State) (q : Nat) (v : Word) : State :=
  if !s.qEnabled q then (s.bump F.QMGR_DB_DROPPED_COUNT).raise 0x11 1
  else
    let s := s.setFld (F.QCTX_PTRS_TAIL q) (v.toNat % s.qSize q)
    let h := s.queue q
    if h.reading then (s.setQueue q { h with noted := true }).readMore q
    else if s.qState q = qPARKED then s.startRead q
    else if h.desc.isSome then (s.setQueue q { h with ended := false }).readMore q
    else s

def execDoorbell (q : BitVec 13) (v : Word) (s : State) : Host.Outcome State Fault Refusal :=
  .next (s.hostWriteTo 0x100000 fun s => s.doorbell q.toNat v)

/-- DESC_FETCH_DONE (R51, R52, R71). -/
def execDescFetchDone (q : BitVec 13) (res : ReadRes) (s : State) : Host.Outcome State Fault Refusal :=
  .next (s.descFetched q.toNat res)

/-- Apply `f` to a cage whose transfer is of type `ty` and has not been looked at. -/
def State.onStart (s : State) (n ty : Nat) (f : Cage → State) : State :=
  match s.cage? n with
  | some c => if c.phase = .start && c.desc.ty = ty then f c else s
  | none => s

/-- DESC_NOP (R49, R48). -/
def execDescNop (n : BitVec 5) (s : State) : Host.Outcome State Fault Refusal :=
  .next (s.onStart n.toNat 0 fun c =>
    if c.desc.srcHost || c.desc.dstHost then s.finish n.toNat c stREFUSED c.desc.len.toNat
    else s.finish n.toNat c stOK 0)

/-- DESC_COPY (R47, R56 to R59), for a queue's COPY and for a channel's transfer. -/
def execDescCopy (n : BitVec 5) (s : State) : Host.Outcome State Fault Refusal :=
  .next (s.onStart n.toNat 1 fun c => s.descCopy n.toNat c)

/-- The write of a FENCE, and its completion (R49). -/
def State.fenceWrite (s : State) (n : Nat) (c : Cage) : State :=
  let s := if c.desc.dst = 0 then s else s.hostCtl c.desc.dst.toNat (leBytes 4 c.desc.param.toNat)
  s.finish n c stOK 0

/-- DESC_FENCE (R48, R49). -/
def execDescFence (n : BitVec 5) (s : State) : Host.Outcome State Fault Refusal :=
  .next (s.onStart n.toNat 6 fun c =>
    if c.desc.srcHost || (c.desc.dst != 0 && !c.desc.dstHost) then s.finish n.toNat c stREFUSED c.desc.len.toNat
    else if c.desc.tflags % 2 = 1 && c.relFrame = s.rd R.SCAN_FRAME_SEQ then s.setCage n.toNat { c with phase := .waitLatch }
    else s.fenceWrite n.toNat c)

/-- FENCE_LATCH_COMPLETE (R49): at a latch, every FENCE that was released before it completes. -/
def State.fenceLatch (s : State) : State :=
  s.each s.hoist.cages fun s e => if e.2.phase = .waitLatch then s.fenceWrite e.1 e.2 else s

/-- RESULT of a command that stops a queue: PENDING while its descriptor is in a cage (R72). -/
def State.qcmdResult (s : State) (q : Nat) : State :=
  s.setFld F.QMGR_QCMD_STATUS_RESULT (match s.cageOf (.queue q) with | some (_, c) => b2n c.home.isNone | none => 0)

/-- A write to QCMD (R64, R72): 1 ABORT, 2 RESUME, 3 RESET; a refused one is kept and reported. (Log 36: DEDUCED, unsafe.) -/
def State.qcmdWrite (s : State) (q cmd : Nat) : State :=
  if cmd = 0 || 3 < cmd then s
  else
    let s := s.setFld F.QMGR_QCMD_STATUS_QUEUE q
    let st := s.qState q
    if !s.qEnabled q || (cmd = 2 && st != qSTOPPED) || (cmd = 1 && st = qERROR) then
      (s.setFld F.QMGR_QCMD_STATUS_RESULT 2).refuseCommand R.QMGR_QCMD (BitVec.ofNat 32 (q + cmd * 2 ^ 16))
    else if cmd = 1 then ((s.qcmdResult q).stopQueue q .stop 1).assign
    else if cmd = 2 then (s.setFld F.QMGR_QCMD_STATUS_RESULT 0).startRead q
    else ((s.qcmdResult q).stopQueue q .reset 5).assign

/-- QCMD_ABORT (R64). -/
def execQcmdAbort (q : BitVec 13) (s : State) : Host.Outcome State Fault Refusal :=
  .next (s.hostWriteTo R.QMGR_QCMD fun s => s.qcmdWrite q.toNat 1)

/-- QCMD_RESUME (R64). -/
def execQcmdResume (q : BitVec 13) (s : State) : Host.Outcome State Fault Refusal :=
  .next (s.hostWriteTo R.QMGR_QCMD fun s => s.qcmdWrite q.toNat 2)

/-- QCMD_RESET (R64). -/
def execQcmdReset (q : BitVec 13) (s : State) : Host.Outcome State Fault Refusal :=
  .next (s.hostWriteTo R.QMGR_QCMD fun s => s.qcmdWrite q.toNat 3)

/-- Abort one channel (R64). (Log 40: DESIGN CHOICE, unsafe.) -/
def State.abortChan (s : State) (c : Nat) : State :=
  match s.cageOf (.chan c) with
  | some (n, cg) => (s.setChan c { s.chan c with shAbort := s.bit (F.HOIST_CH_STATUS_ARMED c) }).abortCage n cg .stop 1
  | none =>
    if s.bit (F.HOIST_CH_STATUS_ACTIVE c) then
      (s.setChan c { s.chan c with shAbort := true }).chanDone c stABORTED (s.fld (F.HOIST_CH_ACT_LEN_LENGTH c))
    else s.abortShadow c

/-- A write to CH_ABORT (R64, R63): from PCIe, bits 12 to 15 are ignored and reported. -/
def State.chAbortWrite (s : State) (port : Port) (v : Word) : State :=
  let lim := if port = .pcie then 12 else 16
  let s := if port = .pcie && bitsOf v 12 4 != 0 then s.refuseCommand R.HOIST_CH_ABORT v else s
  (s.each ((List.range lim).filter fun c => bitOf v c) State.abortChan).assign

/-- A write to a channel's shadow registers is kept: the set is armed, or PCIe writes to a channel of Foreman (R63). -/
def State.chanKept (s : State) (port : Port) (c : Nat) : Bool :=
  s.bit (F.HOIST_CH_STATUS_ARMED c) || (port == .pcie && 12 ≤ c)

/-- A write to a channel's SH_CTRL (R63). -/
def State.chCtrlWrite (s : State) (port : Port) (c : Nat) (v : Word) : State :=
  let off := R.HOIST_CH_SH_CTRL c
  if s.chanKept port c then
    if v &&& 0xF#32 = s.rd off &&& 0xE#32 then s else s.clampReport none true off v (s.rd off &&& 0xE#32)
  else
    let s := s.applyWrite none selNow off v
    if !bitOf v 0 then s
    else if s.bit (F.HOIST_CH_STATUS_ACTIVE c) then s.setFld (F.HOIST_CH_STATUS_ARMED c) 1
    else (s.moveShadow c).assign

/-- CH_GO (R63). -/
def execChGo (port : Port) (ch : BitVec 4) (v : Word) (s : State) : Host.Outcome State Fault Refusal :=
  .next (s.portWriteTo port (R.HOIST_CH_SH_CTRL ch.toNat) fun s => s.chCtrlWrite port ch.toNat v)

/-- EVENT_RING_CFG_WRITE (R69). A HOLDOFF written while events stand unsignalled starts no timer for them.
(Log 138: DESIGN CHOICE, unsafe.) -/
def State.ringCfgWrite (s : State) (slot : Option Nat) (r reg : Nat) (v : Word) : State :=
  let off := 0x140000 + 0x20 * r + 4 * reg
  let en := s.bit (F.RING_CFG_ENABLE r)
  let old := s.rd off
  match reg with
  | 0 =>
    if en then (if v = old then s else s.clampReport slot true off v old)
    else
      let new := v &&& 0xFFFFF000#32
      let s := s.wr off new
      if new = v then s else s.clampReport slot false off v new
  | 1 => if en then (if v = old then s else s.clampReport slot true off v old) else s.wr off v
  | 2 =>
    let c : Chk := ⟨v &&& 0x87FF001F#32, false, false⟩
    let c := if en then ((c.keep old 0 5).keep old 16 11)
             else c.clampTo 0 5 (max 4 (min 16 (bitsOf v 0 5)))
    let s := s.wr off c.new
    let s := if c.reports then s.clampReport slot c.kept off v c.new else s
    if !en && bitOf v 31 then
      let s := ((s.setFld (F.RING_HEAD_HEAD r) 0).setFld (F.RING_TAIL_TAIL r) 0).setFld (F.RING_LOST_COUNT r) 0
      s.setHold r RingHid.init
    else if en && !bitOf v 31 then
      let n := (s.ring r).hold.length
      let s := (s.setHold r RingHid.init).ringLose r n
      let s := s.each (s.queues.map (·.1)) fun s q =>
        if s.qRing q == r then s.setQueue q { s.queue q with reserved := false } else s
      let s := s.each (s.hoist.cages : List (Nat × Cage)) fun s e =>
        match e.2.home with
        | some w => if w.ring = r then s.setCage e.1 { e.2 with home := some { w with reserved := false } } else s
        | none => s
      (s.unstall r).assign
    else s
  | 3 =>
    let s := s.applyWrite slot selNow off v
    let h := s.ring r
    s.setRing r { h with timer := h.timer && s.fld (F.RING_MOD_HOLDOFF r) != 0 }
  | _ => s

def execEventRingCfgWrite (r : BitVec 6) (reg : BitVec 3) (v : Word) (s : State) : Host.Outcome State Fault Refusal :=
  .next (s.hostWriteTo 0x140000 fun s => s.ringCfgWrite none r.toNat reg.toNat v)

/-- EVENT_RING_HEAD_WRITE (R69). (Log 34: DEDUCED, unsafe.) -/
def State.ringHeadWrite (s : State) (slot : Option Nat) (r : Nat) (v : Word) : State :=
  let off := R.RING_HEAD r
  let n := s.ringSize r
  let s :=
    if bitsOf v 0 16 < n then s.setFld (F.RING_HEAD_HEAD r) (bitsOf v 0 16)
    else
      let s := s.setFld (F.RING_HEAD_HEAD r) (s.fld (F.RING_TAIL_TAIL r))
      s.clampReport slot false off v (s.rd off)
  (s.roomBack r).assign

def execEventRingHeadWrite (r : BitVec 6) (v : Word) (s : State) : Host.Outcome State Fault Refusal :=
  .next (s.hostWriteTo 0x140000 fun s => s.ringHeadWrite none r.toNat v)

/-- HOLDOFF_EXPIRE (R70): the timer of a ring with unsignalled entries runs out. -/
def execHoldoffExpire (r : BitVec 6) (s : State) : Host.Outcome State Fault Refusal :=
  .next (if (s.ring r.toNat).timer && s.hostUp then s.ringSignal r.toNat else s)

end Sys2Proof.Machine
end

