-- ==== Sys2Proof/Machine/Txn.lean ====
section
/-! DEFINITION. Transactions (04, R77 to R93): opening, staging, the checks of a commit, its arrival, and aborts. What a
commit does when it takes effect stands in Commit.lean. -/

namespace Sys2Proof.Machine

/-! ### What a held write is (R79, R80) -/

/-- The kinds of content of R80 and R79. -/
inductive Content where
  | rws
  | rwl
  | rw
  | entry
  | retire
  | nothing
  | persist
deriving DecidableEq, Repr

/-- The windows of the persistent pages that the host may not write (R332): PERS_KEYS, PERS_JOURNAL and PERS_LOG. -/
def persReadOnly (off : Nat) : Bool :=
  (0x1C4000 ≤ off && off < 0x1C5000) || (0x1C9000 ≤ off && off < 0x1CA000) || (0x1CB000 ≤ off && off < 0x1DB000)

/-- What a staged write to an offset is: R79 lists the targets that are held as writes that change nothing. -/
def contentOf (off : Nat) : Content :=
  if 0x800000 ≤ off then .entry
  else if off = R.SURF_RETIRE_COOKIE || off = R.SURF_RETIRE_CMD then .retire
  else if 0x1C0000 ≤ off && off < 0x1DB000 then (if persReadOnly off then .nothing else .persist)
  else if off / 0x1000 = 0x13 || (0x150000 ≤ off && off < 0x151000) then .nothing
  else if hasAcc off (· == .rwp) then .persist
  else if hasAcc off (· == .rws) then .rws
  else if hasAcc off (· == .rwl) then .rwl
  else if hasAcc off (· == .rw) then .rw
  else .nothing

/-- A mode accepts a kind of write (R80): 0 AT_FRAME, 1 AT_LINE, 2 NOW. -/
def modeAccepts (mode : Nat) (c : Content) : Bool :=
  match c with
  | .nothing => true
  | .rws | .entry | .persist => mode == 0
  | .rwl => mode == 0 || mode == 1
  | .rw | .retire => mode == 0 || mode == 2

/-- A mode accepts a held descriptor (R80). -/
def modeAcceptsDesc (mode : Nat) (d : Desc) : Bool :=
  if d.ty = 4 then (if bitOf d.param 8 then mode == 0 || mode == 1 else mode == 0) else mode == 0 || mode == 2

/-- The content of a slot fits a mode (R80). -/
def State.contentFits (s : State) (n mode : Nat) : Bool :=
  let h := s.slot n
  (h.writes.all fun w => modeAccepts mode (contentOf w.off)) &&
    h.held.all fun q => match (s.queue q).desc with
      | some d => modeAcceptsDesc mode d
      | none => true

/-- A value carries something in a WO or RW1C field of the register (R79). -/
def woNonzero (off : Nat) (v : Word) : Bool :=
  (fieldsAt off).any fun f => (f.acc == .wo || f.acc == .rw1c) && bitsOf v f.lo f.w != 0

/-- The fields of a queue or ring context that are kept while it is enabled, and the forced bits of BASE (R42, R69). -/
def State.contextClamps (s : State) (off : Nat) (v : Word) : Bool :=
  let reg := off % 0x20 / 4
  let isRing := 0x140000 ≤ off
  let old := s.rd off
  let en := bitOf (s.rd (off / 0x20 * 0x20 + 8)) 31
  match reg with
  | 0 => if en then v != old else v &&& 0xFFF#32 != 0
  | 1 => en && v != old
  | 2 =>
    let m : Word := if isRing then 0x07FF001F#32 else 0x203F001F#32
    if en then v &&& m != old &&& m else bitsOf v 0 5 < 4 || 16 < bitsOf v 0 5
  | 3 => isRing && bitsOf v 0 8 == 0
  | 4 => isRing && 2 ^ bitsOf (s.rd (off / 0x20 * 0x20 + 8)) 0 5 ≤ bitsOf v 0 16
  | _ => false

/-- The registers with register writes placed, each field checked by its own range: the values that will stand together
(R79, R88). -/
def State.withWrites (s : State) (ws : List StagedWrite) : State :=
  s.each ws fun s w =>
    match contentOf w.off with
    | .rws | .rwl | .rw => s.wr w.off (s.ownCheck selTxn w.off w.v).new
    | _ => s

/-- A staged write will be clamped or kept, checked with the values that will stand together as far as they are known
(R79, R88). -/
def State.stagedClamps (s : State) (ws : List StagedWrite) (off : Nat) (v : Word) : Bool :=
  if 0x100000 ≤ off && off < 0x150000 then (s.withWrites ws).contextClamps off v
  else (s.checkIn (s.withWrites ws) selTxn off v).reports || woNonzero off v

/-- The half of a page entry held last in the transaction, or the committed one (R79). (Log 25: DESIGN CHOICE, unsafe.) -/
def State.predictHalf (s : State) (ws : List StagedWrite) (off : Nat) : Word :=
  match (ws.filter fun w => w.off == off).getLast? with
  | some w => w.v
  | none =>
    let e := s.entry ((off - 0x800000) / 8)
    if off % 8 = 0 then e.truncate 32 else (e >>> 32).truncate 32

/-- The prediction of CLAMPS for one more staged write (R79). (Log 42: DEDUCED, unsafe.) -/
def State.predictClamp (s : State) (ws : List StagedWrite) (off : Nat) (v : Word) : Bool :=
  match contentOf off with
  | .nothing | .persist => true
  | .retire => off == R.SURF_RETIRE_CMD && 2 ^ 20 < bitsOf v 0 20 + bitsOf v 20 12
  | .entry =>
    let p := (off - 0x800000) / 8
    let old := s.entry p
    let lo := if off % 8 = 0 then v else s.predictHalf ws (entryOff p)
    let hi := if off % 8 = 0 then s.predictHalf ws (entryOff p + 4) else v
    let new : DWord := ((hi ++ lo) &&& entryMask) ||| (old &&& 0x10#64)
    !s.entryLegal new || entryRefused old new
  | _ => s.stagedClamps ws off v

/-! ### Opening and staging (R77 to R79) -/

/-- TXN_OPEN (R77): the lowest FREE slot is opened, and the read returns its token. -/
def State.txnOpen (s : State) : State :=
  match (List.range 64).find? fun n => s.fld (F.SLOT_STATE_STATE n) == slFREE with
  | none => s.emit (.reply (leBytes 4 0))
  | some n =>
    let s := s.setFld (F.SLOT_STATE_SEQ n) (s.fld (F.SLOT_STATE_SEQ n) + 1)
    let s := s.setFld (F.SLOT_STATE_STATE n) slOPEN
    let s := ((s.setFld (F.SLOT_WRITES_COUNT n) 0).setFld (F.SLOT_WRITES_CLAMPS n) 0).setFld (F.SLOT_FIRST_CLAMP_OFFSET n) 0
    (s.setSlot n SlotHid.init).emit (.reply (leBytes 4 (s.token n + 2 ^ 31)))

/-- A read from the host at a BAR0 offset: what a block that is down or a part that is not ready answers (R382, R392).
(Log 12: DESIGN CHOICE, safe.) -/
def State.hostReadFrom (s : State) (off : Nat) (k : State → State) : State :=
  if !s.domOn dHOST then s
  else if !s.memReady then (s.bump F.PCIEX_UR_COUNT_COUNT).emit .unsupported
  else if s.pcie.d3hot then s.emit .unsupported
  else if s.isolated off then s.emit .replyPoisoned
  else if !s.domOn (offDomain off) then (s.bump F.PCIEX_DOWN_ACCESS_COUNT).emit (.reply (leBytes 4 0))
  else k s

def execTxnOpen (s : State) : Host.Outcome State Fault Refusal := .next (s.hostReadFrom R.TXN_OPEN State.txnOpen)

/-- A write to STAGE_DATA (R79). Bits [1:0] of an OFFSET that breaks R78 are taken as zero.
(Log 42: DEDUCED, unsafe; log 130: DESIGN CHOICE, unsafe.) -/
def State.stage (s : State) (n : Nat) (v : Word) : State :=
  let off := s.fld (F.SLOT_STAGE_ADDR_OFFSET n) / 4 * 4
  if s.fld (F.SLOT_STATE_STATE n) != slOPEN then (s.bump F.TXN_STAGE_DROPPED_COUNT).raise 0x13 2
  else if s.fld (F.SLOT_WRITES_COUNT n) = 4096 then s.failSlot n 4 (BitVec.ofNat 32 off)
  else if contentOf off = .persist then s.failSlot n 3 (BitVec.ofNat 32 off)
  else
    let h := s.slot n
    let clamp := s.predictClamp h.writes off v
    let s := s.setSlot n { h with writes := h.writes ++ [⟨off, v⟩] }
    let s := s.bump (F.SLOT_WRITES_COUNT n)
    if !clamp then s
    else
      let s := if s.fld (F.SLOT_WRITES_CLAMPS n) = 0 then s.setFld (F.SLOT_FIRST_CLAMP_OFFSET n) off else s
      s.bump (F.SLOT_WRITES_CLAMPS n)

/-- STAGE_WRITE (R78, R79): a 32-bit write of STAGE_DATA, or a 64-bit write that carries OFFSET as well. -/
def execStageWrite (n : BitVec 6) (off : Option Word) (v : Word) (s : State) : Host.Outcome State Fault Refusal :=
  .next (s.hostWriteTo (R.SLOT_STAGE_DATA n.toNat) fun s =>
    let s := match off with
      | some o => s.setFld (F.SLOT_STAGE_ADDR_OFFSET n.toNat) o.toNat
      | none => s
    s.stage n.toNat v)

/-! ### Aborts (R90) -/

/-- A descriptor held by an aborting transaction completes with ABORTED, and its queue goes on (R55). (Log 38: DEDUCED, unsafe.) -/
def State.abortHeld (s : State) (q : Nat) : State :=
  match (s.queue q).desc with
  | some d => (s.completeHead q stABORTED d.len.toNat).queueNext q stABORTED
  | none => s

/-- A transaction ends in abort (R90). (Log 42: DEDUCED, unsafe.) -/
def State.abortTxn (s : State) (n reason : Nat) (detail : Word) : State :=
  let h := s.slot n
  let tok := s.token n
  let s := s.setSlot n SlotHid.init
  let s := { s with txn := { s.txn with merging := s.txn.merging.filter (· != n), arrived := s.txn.arrived.filter (· != n) } }
  let s := (s.setFld (F.SLOT_STATE_STATE n) slFREE).setFld (F.SLOT_STATE_REASON n) reason
  let s := ((s.setFld (F.SLOT_WRITES_COUNT n) 0).setFld (F.SLOT_WRITES_CLAMPS n) 0).setFld (F.SLOT_FIRST_CLAMP_OFFSET n) 0
  let s := (s.setFld F.TXN_LAST_ABORT_TOKEN tok).setFld F.TXN_LAST_ABORT_REASON reason
  let s := (s.bump F.TXN_ABORTS_COUNT).raise 0x13 1
  let s := s.each (h.held ++ h.heldFailed) State.abortHeld
  s.post F.TXN_EVT_RING_RING 0x0101
    [(6, n), (4, reason), (10, tok / 64), (32, detail.toNat), (32, (s.rd R.SCAN_FRAME_SEQ).toNat)]

/-- The slot holds an OPEN or FAILED transaction. -/
def State.slotOpen (s : State) (n : Nat) : Bool :=
  s.fld (F.SLOT_STATE_STATE n) == slOPEN || s.fld (F.SLOT_STATE_STATE n) == slFAILED

/-- The slot holds a MERGING or PENDING commit. -/
def State.slotWaits (s : State) (n : Nat) : Bool :=
  s.fld (F.SLOT_STATE_STATE n) == slMERGING || s.fld (F.SLOT_STATE_STATE n) == slPENDING

/-- TXN_ABORT (R82): CMD with OP 2. -/
def State.txnAbort (s : State) (n : Nat) (v : Word) : State :=
  if bitsOf v 16 3 != 2 then s
  else if bitsOf v 0 16 != s.token n || !s.slotOpen n then s.setFld (F.SLOT_STATE_RESULT n) 1
  else (s.abortTxn n 7 0).setFld (F.SLOT_STATE_RESULT n) 6

def execTxnAbort (n : BitVec 6) (v : Word) (s : State) : Host.Outcome State Fault Refusal :=
  .next ((s.hostWriteTo (R.SLOT_CMD n.toNat) fun s => s.txnAbort n.toNat v).assign)

/-- TXN_EXPIRE (R90): the transaction has seen EXPIRY.FRAMES latches. -/
def execTxnExpire (n : BitVec 6) (s : State) : Host.Outcome State Fault Refusal :=
  .next
    (if s.slotOpen n.toNat && s.fld F.TXN_EXPIRY_FRAMES ≤ (s.slot n.toNat).age then
       (s.abortTxn n.toNat 6 (s.rd R.SCAN_FRAME_SEQ)).assign
     else s)

/-! ### Instants (R81 to R85) -/

/-- Scan stands in vertical blanking: the line number is V_ACTIVE or above (R104). -/
def State.inBlanking (s : State) : Bool := s.fld F.SCAN_V_TIMING_V_ACTIVE ≤ s.fld F.SCAN_LINE_SCAN_LINE

/-- The deadline for the next latch has begun (R84, R106): an active line at or after V_ACTIVE − G. -/
def State.pastDeadline (s : State) : Bool :=
  s.bit F.SCAN_STATUS_RUNNING && !s.inBlanking &&
    s.fld F.SCAN_V_TIMING_V_ACTIVE - s.fld F.SCAN_COMMIT_GUARD_LINES ≤ s.fld F.SCAN_LINE_SCAN_LINE

/-- Where an AT_FRAME commit takes effect if it arrives now, and whether it is late (R84, R85, R108). -/
def State.frameInstant (s : State) (asap : Bool) (target : Word) : Instant × Bool :=
  let f := s.rd R.SCAN_FRAME_SEQ
  let d := sdiff target f
  let vrr := s.bit F.SCAN_CTRL_VRR && s.bit F.SCAN_STATUS_RUNNING
  if vrr && s.inBlanking && !s.scan.endFixed && (asap || d ≤ 0) then (.blanking, !asap && d < 0)
  else if vrr && s.pastDeadline && (asap || d ≤ 1) then (.blanking, !asap && d < 1)
  else
    let first := if s.pastDeadline then f + 2 else f + 1
    if asap then (.latch first, false)
    else if sdiff target first < 0 then (.latch first, true)
    else (.latch target, false)

/-- The instant of a slot's commit if it arrives now, and whether it is late. -/
def State.arrivalInstant (s : State) (n mode : Nat) (asap : Bool) (target : Word) : Instant × Bool :=
  if mode = 1 then (.line, false)
  else if mode = 2 then (.now n, false)
  else s.frameInstant asap target

/-- A fetch start still comes before the next latch (R106): lines ahead remain to be fetched in this frame. -/
def State.lineBeforeLatch (s : State) : Bool :=
  s.inBlanking || s.fld F.SCAN_LINE_SCAN_LINE + 1 + s.fld F.SCAN_FETCH_LEAD_LINES < s.fld F.SCAN_V_TIMING_V_ACTIVE

/-- The rank of an instant in time (R87): a smaller rank is earlier. A NOW commit switches before the next line or latch
begins (`State.nowFirst`). (Log 45: DESIGN CHOICE, unsafe.) -/
def State.rank (s : State) (i : Instant) : Int :=
  match i with
  | .now _ => 0
  | .line => if s.lineBeforeLatch then 2 else 6
  | .blanking => if s.inBlanking then 1 else 5
  | .latch f => 4 * sdiff f (s.rd R.SCAN_FRAME_SEQ)

/-- X, arriving, would take effect at the same instant as T or earlier (R87). NOW commits switch in the order of their
arrival, each in a cycle of its own (`State.nowUpTo`). (Log 45: DESIGN CHOICE, unsafe.) -/
def State.notAfter (s : State) (x t : Instant) : Bool :=
  match x, t with
  | .now _, .now _ => false
  | _, _ => s.rank x ≤ s.rank t

/-- The distinct instants that MERGING and PENDING commits hold (R82). -/
def State.instants (s : State) : List Instant :=
  let pend := s.txn.arrived.filterMap fun n => (s.slot n).instant
  let merge := s.txn.merging.map fun n =>
    (s.arrivalInstant n (s.slot n).mode (s.slot n).asap (s.rd (R.SLOT_TARGET n))).1
  (pend ++ merge).eraseDups

/-! ### Committing (R82, R83) -/

/-- A held write belongs to a block: it changes a register, or it is reported in the registers of a listed page (R79).
(Log 41: DEDUCED, unsafe.) -/
def offOfBlock (off : Nat) : Bool := contentOf off != .nothing || (off < 0x100000 && pageUsed (off / 0x1000))

/-- Some written register belongs to a block whose domain is not ON (R82). (Log 41: DEDUCED, unsafe.) -/
def State.domainDown (s : State) (n : Nat) : Bool :=
  (s.slot n).writes.any fun w => offOfBlock w.off && !s.domOn (offDomain w.off)

/-- TXN_COMMIT (R82): CMD with OP 1, checked in order. -/
def State.txnCommit (s : State) (n : Nat) (v : Word) : State :=
  let res (s : State) (r : Nat) := s.setFld (F.SLOT_STATE_RESULT n) r
  let mode := bitsOf v 19 2
  let asap := bitOf v 23
  let target := s.rd (R.SLOT_TARGET n)
  if bitsOf v 16 3 != 1 then s
  else if bitsOf v 0 16 != s.token n || !s.slotOpen n then res s 1
  else if s.fld (F.SLOT_STATE_STATE n) = slFAILED then
    res (s.abortTxn n (s.fld (F.SLOT_STATE_REASON n)) (s.slot n).detail) 6
  else if mode = 3 || !s.contentFits n mode then res s 2
  else if s.domainDown n then res s 3
  else if mode = 0 && !asap && 65535 < sdiff target (s.rd R.SCAN_FRAME_SEQ) then res s 4
  else if 16 ≤ s.instants.length && !s.instants.contains (s.arrivalInstant n mode asap target).1 then res s 5
  else if bitOf v 21 && s.fld (F.SLOT_WRITES_CLAMPS n) != 0 then
    res (s.abortTxn n 2 (BitVec.ofNat 32 (s.fld (F.SLOT_FIRST_CLAMP_OFFSET n)))) 6
  else
    let h := s.slot n
    let s := s.setSlot n { h with mode := mode, strictLate := bitOf v 22, asap := asap, evt := bitOf v 24, instant := none }
    let s := { s with txn := { s.txn with merging := s.txn.merging ++ [n] } }
    res (s.setFld (F.SLOT_STATE_STATE n) slMERGING) 0

def execTxnCommit (n : BitVec 6) (v : Word) (s : State) : Host.Outcome State Fault Refusal :=
  .next ((s.hostWriteTo (R.SLOT_CMD n.toNat) fun s => s.txnCommit n.toNat v).assign)

/-- The writes of a transaction that R87 compares. -/
def comparedOffs (h : SlotHid) : List Nat :=
  (h.writes.map (·.off)).filter fun o => contentOf o != .nothing && contentOf o != .retire

/-- The first register of X that a PENDING commit, taking effect at the same instant or later, also writes (R87).
(Log 45: DESIGN CHOICE, unsafe.) -/
def State.conflictWith (s : State) (n : Nat) (i : Instant) : Option Nat :=
  let later := (s.txn.arrived.filter fun t =>
    match (s.slot t).instant with
    | some j => s.notAfter i j
    | none => false).flatMap fun t => comparedOffs (s.slot t)
  (comparedOffs (s.slot n)).find? fun o => later.contains o

/-- The frame that an instant lies in, for COMMIT_LATE and LATE aborts. -/
def State.instantFrame (s : State) (i : Instant) : Word :=
  match i with
  | .latch f => f
  | .blanking => if s.inBlanking then s.rd R.SCAN_FRAME_SEQ else s.rd R.SCAN_FRAME_SEQ + 1
  | _ => s.rd R.SCAN_FRAME_SEQ

/-- MERGE_DONE (R83, R84, R87): the oldest merging commit arrives. TARGET counts as it stands at the arrival.
(Log 2: DESIGN CHOICE, safe; log 131: DESIGN CHOICE, unsafe.) -/
def State.mergeDone (s : State) (n : Nat) : State :=
  if s.txn.merging.head? != some n then s
  else
    let h := s.slot n
    let target := s.rd (R.SLOT_TARGET n)
    let a := s.arrivalInstant n h.mode h.asap target
    if a.2 && h.strictLate then s.abortTxn n 5 (s.instantFrame a.1)
    else
      match s.conflictWith n a.1 with
      | some o => s.abortTxn n 1 (BitVec.ofNat 32 o)
      | none =>
        let s := { s with txn := { s.txn with merging := s.txn.merging.drop 1, arrived := s.txn.arrived ++ [n] } }
        let s := s.setSlot n { h with instant := some a.1 }
        let s := (s.setFld (F.SLOT_STATE_STATE n) slPENDING).setBit (F.SLOT_STATE_LATE n) a.2
        if a.2 then
          (s.raise 0x13 0).post F.TXN_EVT_RING_RING 0x0102
            [(6, n), (10, s.fld (F.SLOT_STATE_SEQ n)), (32, target.toNat), (32, (s.instantFrame a.1).toNat)]
        else s

/-- The flip that a descriptor asks for (R117). -/
def flipOf (q : Nat) (d : Desc) : Flip := ⟨bitsOf d.param 0 8, d.dst, bitOf d.param 8, d.tag, q⟩

/-- The FLIPs that a slot's transaction holds, in the order in which they were held; one that R47 refuses is none. -/
def State.heldFlips (s : State) (n : Nat) : List Flip :=
  (s.slot n).flips ++ (s.slot n).held.filterMap fun q =>
    match (s.queue q).desc with
    | some d => if d.ty = 4 && !d.srcHost && !d.dstHost then some (flipOf q d) else none
    | none => none

/-- HOST goes OFF: the shadow store keeps the MERGING and PENDING commits, and the FLIPs that their queues held; what is
OPEN or FAILED is lost (R93). (Log 132: DEDUCED, unsafe.) -/
def State.keepCommits (s : State) : State :=
  s.each (List.range 64) fun s n =>
    if s.slotWaits n then s.setSlot n { s.slot n with flips := s.heldFlips n, held := [], heldFailed := [] }
    else ((s.setFld (F.SLOT_STATE_STATE n) slFREE).setFld (F.SLOT_WRITES_COUNT n) 0).setSlot n SlotHid.init

/-- Every transaction that has not taken effect is discarded, with no event and no count (R92, R93). -/
def State.discardTxns (s : State) : State :=
  let s := s.each (List.range 64) fun s n =>
    if s.fld (F.SLOT_STATE_STATE n) = slFREE then s
    else (s.setFld (F.SLOT_STATE_STATE n) slFREE).setFld (F.SLOT_WRITES_COUNT n) 0
  { s with txn := { s.txn with slots := [], merging := [], arrived := [] } }

end Sys2Proof.Machine
end

