-- ==== Sys2Proof/Machine/History.lean ====
section
/-! DEFINITION. Frame history (06, R127 to R137, R148, R149, R160, R161): sets and roles, writing and reading strips. -/

namespace Sys2Proof.Machine

def State.hist (s : State) : Half → HistHid
  | .dawn => s.histDawn
  | .dusk => s.histDusk

def State.setHist (s : State) (h : Half) (x : HistHid) : State :=
  match h with
  | .dawn => { s with histDawn := x }
  | .dusk => { s with histDusk := x }

def State.halfFrame (s : State) : Half → HalfFrame
  | .dawn => s.scan.dawn
  | .dusk => s.scan.dusk

def State.setHalfFrame (s : State) (h : Half) (x : HalfFrame) : State :=
  match h with
  | .dawn => { s with scan := { s.scan with dawn := x } }
  | .dusk => { s with scan := { s.scan with dusk := x } }

/-- No set (R149). -/
abbrev noSet : Nat := 3

/-- Strips per line of a half (R128). -/
def State.strips (s : State) : Nat := s.fld F.SCAN_H_TIMING_H_ACTIVE / 8

/-- Set `k` of a half is valid. -/
def State.setValid (s : State) (h : Half) (k : Nat) : Bool := k < 3 && s.fld (F.HIST_SET_STATUS_VALID h) / 2 ^ k % 2 == 1

/-- The prefix table recorded for a set (R131, R132). -/
def setTable (h : Half) (k : Nat) : Fld :=
  match k with
  | 0 => F.HIST_SET_STATUS_TABLE0 h
  | 1 => F.HIST_SET_STATUS_TABLE1 h
  | _ => F.HIST_SET_STATUS_TABLE2 h

/-- Slot index of a strip (R128), and its key in the length table of set `k`. -/
def State.slotIndex (s : State) (line strip : Nat) : Nat := line * s.strips + strip
def State.lenKey (s : State) (k line strip : Nat) : Nat := k * 2 ^ 20 + s.slotIndex line strip

/-- DRAM address of a slot (R127, R128). -/
def State.slotAddr (s : State) (h : Half) (k line strip : Nat) : Nat :=
  s.fld (F.HIST_BASE_FRAME_FRAME h) * frameBytes + k * 83886080 + s.slotIndex line strip * 160

/-! ### Roles (R132, R133) -/

/-- The set written next (R132): neither back1 nor back2; of two, an invalid one, else the one with the older frame. -/
def State.pickWriteSet (s : State) (h : Half) : Nat :=
  let cand := (List.range 3).filter fun k => k != s.fld (F.HIST_ROLES_BACK1 h) && k != s.fld (F.HIST_ROLES_BACK2 h)
  match cand.find? fun k => !s.setValid h k with
  | some k => k
  | none =>
    let fr (k : Nat) : Word := s.rd (R.HIST_SETn_FRAME h k)
    cand.foldl (fun b k => if sdiff (fr k) (fr b) < 0 then k else b) (cand.headD 0)

def State.clearValid (s : State) (h : Half) (k : Nat) : State :=
  let v := s.fld (F.HIST_SET_STATUS_VALID h)
  s.setFld (F.HIST_SET_STATUS_VALID h) (v - v / 2 ^ k % 2 * 2 ^ k)

/-- The index of the least total, the lowest index among equal ones (R161). -/
def argMin (ts : List Nat) : Nat :=
  (ts.zipIdx.foldl (fun (b : Nat × Nat) e => if e.1 < b.1 then e else b) (ts.headD 0, 0)).2

/-- The table of a new composed frame (R161). (Log 59: DEDUCED, unsafe.) -/
def State.chooseTable (s : State) (h : Half) : Nat :=
  if s.bit (F.HIST_CTRL_TABLE_MODE h) then s.fld (F.HIST_CTRL_TABLE_FIXED h)
  else if (s.hist h).coded then argMin (s.hist h).totals else 1

/-- HIST_FAULT of the frame that ended (R137, R148). -/
def State.histFaultReport (s : State) (h : Half) (ended : Word) : State :=
  let f := s.halfFrame h
  if f.histCount = 0 then s
  else
    ((s.raise (halfPage 0x22 h) 0).post (F.HIST_EVT_RING h) 0x0300
      [(1, halfNum h), (14, f.histFirst), (32, ended.toNat), (32, f.histCount), (7, f.histStrip), (3, f.histRoles)]).setHalfFrame h
        { f with histFirst := 0, histStrip := 0, histCount := 0, histRoles := 0 }

/-- The invalidations of a half at a latch, and HIST_INVALIDATED with the lowest cause (R133): `geometry` and `started` are
causes 1 and 2. -/
def State.histInvalidate (s : State) (h : Half) (geometry started : Bool) : State :=
  let x := s.hist h
  let cause := if geometry then 1 else if started then 2 else if x.causeOff then 3 else if x.causeCmd then 4 else 0
  let s := s.setHist h { x with causeOff := false, causeCmd := false }
  if cause = 0 then s
  else
    ((s.setFld (F.HIST_SET_STATUS_VALID h) 0).raise (halfPage 0x22 h) 1).post (F.HIST_EVT_RING h) 0x0301
      [(1, halfNum h), (4, cause), (32, (s.rd R.SCAN_FRAME_SEQ).toNat)]

/-- The sets of a half at a frame latch (R132, R133, R160, R161). `ended`: the ended frame was composed; `composes`: the
new one will be; `geometry` and `started` are causes 1 and 2. Of a half in RET the sets it retains are invalidated, and
nothing else happens. (Log 58: DESIGN CHOICE, unsafe.) -/
def State.histLatch (s : State) (h : Half) (ended composes geometry started : Bool) : State :=
  let frame := s.rd R.SCAN_FRAME_SEQ
  let s := s.histFaultReport h (frame - 1)
  let s := if started then s.setHist h { s.hist h with coded := false } else s
  if s.domState (halfDomain h) = 0 then s
  else if !s.domOn (halfDomain h) then s.histInvalidate h geometry started
  else
    let w := s.fld (F.HIST_ROLES_WRITE h)
    let x := s.hist h
    let s :=
      if ended && w < 3 then
        let s := s.setFld (F.HIST_SET_STATUS_VALID h) (s.fld (F.HIST_SET_STATUS_VALID h) / 2 ^ (w + 1) * 2 ^ (w + 1) +
          2 ^ w + s.fld (F.HIST_SET_STATUS_VALID h) % 2 ^ w)
        let s := (s.setFld (F.HIST_SETn_FRAME_FRAME h w) (frame - 1).toNat).setFld (setTable h w) x.tableUsed
        let s := (s.setFld (F.HIST_RAW_STRIPS_COUNT h) x.rawStrips).setFld (F.HIST_BYTES_WRITTEN_COUNT h) x.bytes
        (s.setFld (F.HIST_ROLES_BACK2 h) (s.fld (F.HIST_ROLES_BACK1 h))).setFld (F.HIST_ROLES_BACK1 h) w
      else s.setFld (F.HIST_ROLES_BACK2 h) (s.fld (F.HIST_ROLES_BACK1 h))
    let s := s.histInvalidate h geometry started
    let x := { s.hist h with reads := [], recent := [], rawStrips := 0, bytes := 0, coded := x.coded || (ended && w < 3),
                             depth := if s.domOn dCMP then s.fld F.CMP_ENC_CFG_CHAIN_DEPTH else x.depth }
    if composes then
      let k := s.pickWriteSet h
      let inSet (key : Nat) : Bool := key / 2 ^ 20 == k
      let s := s.setHist h { x with lengths := SMap.drop inSet x.lengths, prot := SMap.drop inSet x.prot }
      let t := s.chooseTable h
      let s := s.setHist h { s.hist h with tableUsed := t, totals := List.replicate 8 0 }
      (s.clearValid h k).setFld (F.HIST_ROLES_WRITE h) k
    else (s.setHist h x).setFld (F.HIST_ROLES_WRITE h) noSet

/-! ### Writing (R128 to R131, R160) -/

/-- Write one strip of the frame being composed; `refs` are the lines above it in its band. -/
def State.histWriteStrip (s : State) (h : Half) (line strip : Nat) (refs : List (List Px)) (px : List Px) (prot : Bool) :
    State :=
  let x := s.hist h
  let w := s.fld (F.HIST_ROLES_WRITE h)
  let o := encodeStrip x.tableUsed x.depth refs px
  let hd := o.head
  let a := s.slotAddr h w line strip
  let s := (s.dramWrite a hd).dramWrite (a + 130) (leBytes 4 (crc32c hd).toNat)
  let key := s.lenKey w line strip
  s.setHist h { x with lengths := SMap.set (fun _ => 0) x.lengths key o.payload.length,
                       prot := SMap.set (fun _ => 0) x.prot key (b2n prot),
                       totals := addLists x.totals o.totals,
                       rawStrips := x.rawStrips + b2n o.raw, bytes := x.bytes + 6 + o.payload.length }

/-- Write one line of strips, each with its protection flag (R128, R153). -/
def State.histWriteLine (s : State) (h : Half) (line : Nat) (strips : List (List Px × Bool)) : State :=
  if noSet ≤ s.fld (F.HIST_ROLES_WRITE h) then s
  else
    let above := if line % 8 = 0 then [] else (s.hist h).recent
    let s := s.each strips.zipIdx fun s e =>
      s.histWriteStrip h line e.2 (above.map fun l => l.getD e.2 []) e.1.1 e.1.2
    s.setHist h { s.hist h with recent := (strips.map (·.1) :: above).take 2 }

/-! ### Reading (R134 to R137, R159) -/

/-- A field of DAWN_OD, whose settings hold for both halves (R141, R150); while DAWN is OFF they stand at their reset values.
(Log 60: DEDUCED, unsafe.) -/
def State.odFld (s : State) (f : Fld) : Nat := bitsOf (if s.domState dDAWN = 0 then resetWord f.off else s.rd f.off) f.lo f.w

/-- OD_EN (R140). -/
def State.odOn (s : State) : Bool := s.odFld F.OD_CTRL_OD_EN == 1

/-- Key of a read: role 1 one back or replayed, 2 two back, 3 the fall-back set of replay. -/
def readKey (role line strip : Nat) : Nat := (role * 2 ^ 14 + line) * 2 ^ 7 + strip

def State.readCode (s : State) (h : Half) (role line strip : Nat) : Nat :=
  SMap.get (fun _ => 0) (s.hist h).reads (readKey role line strip)

def State.setReadCode (s : State) (h : Half) (role line strip c : Nat) : State :=
  s.setHist h { s.hist h with reads := SMap.set (fun _ => 0) (s.hist h).reads (readKey role line strip) c }

/-- The role as events and FAULT_LAST number it (R148, R149): 1 one back, 2 two back, 4 replay. -/
def State.roleBit (s : State) (role : Nat) : Nat := if role = 2 then 2 else if s.bit F.SCAN_STATUS_REPLAY then 4 else 1

/-- A strip read failed after its re-fetch (R137). (Log 58: DESIGN CHOICE, unsafe.) -/
def State.histFail (s : State) (h : Half) (role line strip : Nat) : State :=
  let s := s.setReadCode h role line strip 4
  let s := s.bump (F.HIST_HIST_FAULTS_COUNT h)
  let b := s.roleBit role
  let s := ((s.setFld (F.HIST_FAULT_LAST_LINE h) line).setFld (F.HIST_FAULT_LAST_STRIP h) strip).setFld (F.HIST_FAULT_LAST_ROLE h) b
  let s := s.setFld (F.HIST_FAULT_FRAME_FRAME h) (s.rd R.SCAN_FRAME_SEQ).toNat
  let f := s.halfFrame h
  let f := if f.histCount = 0 then { f with histFirst := line, histStrip := strip } else f
  s.setHalfFrame h { f with histCount := f.histCount + 1, histRoles := f.histRoles ||| b }

/-- Check one slot of a set and decode it, its reference lines given (R136). -/
def State.slotPixels (s : State) (h : Half) (k line strip : Nat) (whole : Bool) (refs : List (List Px)) : Option (List Px) :=
  let len? := if whole then none else some (SMap.get (fun _ => 0) (s.hist h).lengths (s.lenKey k line strip))
  readSlot len? (s.fld (setTable h k)) refs (s.dramRead (s.slotAddr h k line strip) 134)

/-- The reference lines of `line` in its band, read in role `role` from set `k`; none where one of them has failed. The
list holds what each line of the band gave, nearest first. (Log 58: DESIGN CHOICE, unsafe.) -/
def bandRefs (lines : List (Option (List Px))) : Option (List (List Px)) := (lines.take 2).mapM id

/-- The lines of a band from its first down to `line`. -/
def bandLines (line : Nat) : List Nat := (List.range (line % 8 + 1)).map fun i => line / 8 * 8 + i

/-- Read a strip of one line whose lines above gave `above` (R136, R159): its pixels, if it has not failed.
(Log 57: DEDUCED, safe.) -/
def State.histReadLine (s : State) (h : Half) (role k line strip : Nat) (above : List (Option (List Px))) :
    State × Option (List Px) :=
  match bandRefs above with
  | none => (s.setReadCode h role line strip 6, none)
  | some refs =>
    match s.readCode h role line strip with
    | 4 => (s, none)
    | 6 => (s, none)
    | 5 => (s, s.slotPixels h k line strip true refs)
    | 1 => (s.histFail h role line strip, none)
    | 2 => (s.histFail h role line strip, none)
    | _ =>
      match s.slotPixels h k line strip false refs with
      | some px => (s, some px)
      | none => (s.histFail h role line strip, none)

/-- Read a strip in a role, its band from the first line downwards (R153, R159). -/
def State.histRead (s : State) (h : Half) (role k line strip : Nat) : State × Option (List Px) :=
  let r := (bandLines line).foldl
    (fun (a : State × List (Option (List Px))) l =>
      let x := a.1.histReadLine h role k l strip a.2
      (x.1, x.2 :: a.2))
    (s, [])
  (r.1, (r.2.headD none))

/-- The same strip from a set, checked and decoded down its band without any accounting (R137, R159). (Log 57: DEDUCED, safe.) -/
def State.histPeek (s : State) (h : Half) (k line strip : Nat) : Option (List Px) :=
  ((bandLines line).foldl
    (fun (a : List (Option (List Px))) l =>
      (match bandRefs a with
       | some refs => s.slotPixels h k l strip false refs
       | none => none) :: a) []).headD none

/-- The most recent valid set other than `k` (R137). -/
def State.otherSet (s : State) (h : Half) (k : Nat) : Option Nat :=
  let cand := (List.range 3).filter fun j => j != k && s.setValid h j
  cand.foldl (fun b j =>
    match b with
    | none => some j
    | some i => if sdiff (s.rd (R.HIST_SETn_FRAME h i)) (s.rd (R.HIST_SETn_FRAME h j)) < 0 then some j else some i) none

/-- The protection flag of a stored strip (R264). -/
def State.histProt (s : State) (h : Half) (k line strip : Nat) : Bool :=
  SMap.get (fun _ => 0) (s.hist h).prot (s.lenKey k line strip) == 1

/-- The band of `line` has begun: reads of lines above it are forgotten. -/
def State.histForget (s : State) (h : Half) (line : Nat) : State :=
  let x := s.hist h
  s.setHist h { x with reads := SMap.drop (fun k => k / 2 ^ 7 % 2 ^ 14 < line / 8 * 8) x.reads }

/-! ### Meanings -/

/-- A write to a half's history CMD (R133). -/
def State.histCmdWrite (s : State) (h : Half) (v : Word) : State :=
  if bitOf v 0 then s.setHist h { s.hist h with causeCmd := true } else s

/-- HIST_INVALIDATE_CMD (R133): CMD with INVALIDATE = 1. -/
def execHistInvalidateCmd (h : Half) (v : Word) (s : State) : Host.Outcome State Fault Refusal :=
  .next (s.hostWriteTo (R.HIST_CMD h) fun s => s.histCmdWrite h v)

/-- A history read of a role can be in flight: its line is being fetched, and its set is valid (R134, R135). With overdrive
off, the frame one back is read only where R120 needs it, which no state shows before the line is composed: such a read's
return is taken as that of a read the part made. (Log 57: DEDUCED, safe.) -/
def State.histReadMade (s : State) (h : Half) (role line strip : Nat) : Bool :=
  let replay := s.bit F.SCAN_STATUS_REPLAY
  let k := if role = 1 then s.fld (F.HIST_ROLES_BACK1 h) else s.fld (F.HIST_ROLES_BACK2 h)
  s.bit F.SCAN_STATUS_RUNNING && s.domOn (halfDomain h) && strip < s.strips && (SMap.find? s.scan.fetch line).isSome &&
    s.setValid h k && s.setValid h (s.fld (F.HIST_ROLES_BACK1 h)) &&
    (role == 1 || (!replay && s.odOn && role == 2))

/-- HIST_READ_DONE (R136, R137): a read returns and is checked; a failed one is fetched again, and a failed re-fetch
leaves the strip failed. Checks that need the reference lines are made with what the lines above gave. -/
def State.histReadDone (s : State) (h : Half) (role line strip : Nat) (res : StripRead) : State :=
  if !s.histReadMade h role line strip then s
  else
    let k := if role = 1 then s.fld (F.HIST_ROLES_BACK1 h) else s.fld (F.HIST_ROLES_BACK2 h)
    let above := (bandLines line).dropLast.foldl
      (fun (a : List (Option (List Px))) l =>
        (match bandRefs a, s.readCode h role l strip with
         | none, _ => none
         | some _, 4 => none
         | some _, 6 => none
         | some refs, c => s.slotPixels h k l strip (c == 5) refs) :: a) []
    let intact : Bool :=
      match res with
      | .intact | .lengthUpset _ => true
      | .upset | .uncorrectable _ => false
    let s :=
      match res with
      | .uncorrectable a => s.dramUncorr a
      | _ => s
    let good (whole : Bool) : Bool :=
      intact &&
        match bandRefs above with
        | none => true
        | some refs => (s.slotPixels h k line strip whole refs).isSome
    match s.readCode h role line strip with
    | 0 =>
      match res with
      | .lengthUpset _ => (s.bump (F.HIST_LT_ERRORS_COUNT h)).setReadCode h role line strip 2
      | _ => if good false then s.setReadCode h role line strip 3 else s.setReadCode h role line strip 1
    | 1 =>
      if good false then (s.bump (F.HIST_REFETCHES_COUNT h)).setReadCode h role line strip 3
      else s.histFail h role line strip
    | 2 =>
      if good true then (s.bump (F.HIST_REFETCHES_COUNT h)).setReadCode h role line strip 5
      else s.histFail h role line strip
    | _ => s


end Sys2Proof.Machine
end

