-- ==== Sys2Proof/Machine/Overdrive.lean ====
section
/-! DEFINITION. Overdrive (06, R138 to R147, R150): the table lookup, the temperature index and the bucket, the table
window and the seal. -/

namespace Sys2Proof.Machine

/-! ### Lookup (R138) -/

/-- Bilinear lookup in a 17 x 17 table (R138). -/
def odLookup (t : Nat → Nat → Nat) (a b : Nat) : Nat :=
  let i := a / 64
  let fa := a % 64
  let j := b / 64
  let fb := b % 64
  let top := t i j * (64 - fb) + t i (j + 1) * fb
  let bot := t (i + 1) j * (64 - fb) + t (i + 1) (j + 1) * fb
  (top * (64 - fa) + bot * fa + 2048) / 4096

/-- Stage 4 for one subpixel: current value `c`, `p1` one back, `p2` two back (R138). -/
def odValue (t1 t2 : Nat → Nat → Nat) (p2 p1 c : Nat) : Nat :=
  let e := min 1023 (odLookup t1 p2 p1)
  min 16383 (odLookup t2 e c)

/-- Entry number of (t, b, k, ch, i, j) in a bank (R143). -/
def odEntry (t b k ch i j : Nat) : Nat := (((t * 4 + b) * 2 + k) * 3 + ch) * 289 + i * 17 + j

/-- Entries and bytes of a bank (R143). -/
abbrev odEntries : Nat := 55488

def odKey (h : Half) (bank e : Nat) : Nat := (halfNum h * 2 + bank) * 65536 + e

def State.odTable (s : State) (h : Half) (bank e : Nat) : Nat := SMap.get (fun _ => 0) s.od.tables (odKey h bank e)

/-- Stage 4 of one pixel of a half with the tables in use (R138, R141, R142). -/
def State.odPixel (s : State) (h : Half) (p2 p1 c : Px) : List Nat :=
  let t := s.od.idx
  let b := s.od.bucket
  let bank := s.odFld F.OD_CTRL_ACTIVE_BANK
  let ch (n : Nat) (v2 v1 v : Nat) : Nat :=
    odValue (fun i j => s.odTable h bank (odEntry t b 0 n i j)) (fun i j => s.odTable h bank (odEntry t b 1 n i j)) v2 v1 v
  [ch 0 p2.r p1.r c.r, ch 1 p2.g p1.g c.g, ch 2 p2.b p1.b c.b]

/-- A pixel passed through: o = 16c (R140). -/
def odPass (c : Px) : List Nat := [16 * c.r, 16 * c.g, 16 * c.b]

/-! ### The latch (R140 to R142) -/

/-- The reading of a temperature source: source 2 is the mean of both thermistors, rounded down; absent where it is not
valid. -/
def State.thermReading (s : State) (src : Nat) : Option Int :=
  let t0 := signedOf 12 (s.fld F.HVD_THERM0_TEMP)
  let t1 := signedOf 12 (s.fld F.HVD_THERM1_TEMP)
  let v0 := s.domOn dPANEL && s.bit F.HVD_THERM0_VALID
  let v1 := s.domOn dPANEL && s.bit F.HVD_THERM1_VALID
  match src with
  | 0 => if v0 then some t0 else none
  | 1 => if v1 then some t1 else none
  | 2 => if v0 && v1 then some ((t0 + t1) / 2) else none
  | _ => none

/-- Point `k` of TEMP_PTS in °C (R141). (Log 60: DEDUCED, unsafe.) -/
def State.odPoint (s : State) (k : Nat) : Int :=
  let w (off : Nat) : Word := BitVec.ofNat 32 (s.odFld ⟨off, 0, 32⟩)
  if k < 4 then pointAt (w R.OD_TEMP_PTS_LO) k else pointAt (w R.OD_TEMP_PTS_HI) (k - 4)

/-- The index rises while the next point is reached (R141). -/
def odRise (pts : Nat → Int) (t : Int) : Nat → Nat → Nat
  | 0, i => i
  | fuel + 1, i => if i < 7 && pts (i + 1) * 8 ≤ t then odRise pts t fuel (i + 1) else i

/-- The index falls while the reading lies below its point by more than the hysteresis (R141). -/
def odFall (pts : Nat → Int) (hyst t : Int) : Nat → Nat → Nat
  | 0, i => i
  | fuel + 1, i => if 0 < i && t < pts i * 8 - hyst * 4 then odFall pts hyst t fuel (i - 1) else i

/-- The bucket of a frame length (R142). -/
def State.odBucket (s : State) : Nat :=
  let n := s.fld F.SCAN_LAST_TOTAL_LINES
  if n < s.odFld F.OD_BUCKET_A_LIM1 then 0
  else if n < s.odFld F.OD_BUCKET_A_LIM2 then 1
  else if n < s.odFld F.OD_BUCKET_B_LIM3 then 2
  else 3

/-- The bank's seal was lost through a march (R140). -/
def State.odLost (s : State) : Half → Bool
  | .dawn => s.od.lostDawn
  | .dusk => s.od.lostDusk

/-- No pixel of the current frame is overdriven, and no history is read for it (R134, R140). -/
def State.odIdle (s : State) (h : Half) : Bool := !s.odOn || !s.setValid h (s.fld (F.HIST_ROLES_BACK1 h))

/-- The current frame passes through in full (R140, R150). -/
def State.odPassFrame (s : State) (h : Half) : Bool := s.odIdle h || s.odLost h

/-- What DAWN_OD reports at a latch (R141, R148): TEMP_NOW, OD_TEMP_STALE once per invalid spell, OD_TEMP_INDEX. -/
def State.odReport (s : State) (src old idx : Nat) (r : Option Int) : State :=
  let frame := (s.rd R.SCAN_FRAME_SEQ).toNat
  let temp : Nat := match r with | some t => wrapInt 12 t | none => s.fld F.OD_TEMP_NOW_TEMP
  let s := (s.setFld F.OD_TEMP_NOW_TEMP temp).setBit F.OD_TEMP_NOW_VALID r.isSome
  let s :=
    if src != 3 && r.isNone && !s.od.stale then
      ({ s with od := { s.od with stale := true } }.raise 0x23 0).post F.OD_EVT_RING 0x0303 [(2, src), (3, idx), (32, frame)]
    else if r.isSome || src = 3 then { s with od := { s.od with stale := false } }
    else s
  if idx = old then s
  else (s.raise 0x23 2).post F.OD_EVT_RING 0x0304 [(3, old), (3, idx), (12, temp), (32, frame)]

/-- Overdrive at a frame latch (R141, R142): one index and one bucket for both halves. `started`: RUN has gone from 0 to 1.
While DAWN is not ON, DAWN_OD reports nothing. (Log 60: DEDUCED, unsafe.) -/
def State.odLatch (s : State) (started : Bool) : State :=
  let s := if started then { s with od := { s.od with everValid := false, stale := false } } else s
  let src := s.odFld F.OD_CTRL_TEMP_SRC
  let old := s.od.idx
  let fb := s.odFld F.OD_TEMP_CFG_FALLBACK_IDX
  let r := s.thermReading src
  let idx :=
    if src = 3 then fb
    else
      match r with
      | none => if s.od.everValid then old else fb
      | some t => odFall s.odPoint (s.odFld F.OD_TEMP_CFG_HYST) t 8 (odRise s.odPoint t 8 old)
  let s := if s.domOn dDAWN then s.odReport src old idx r else s
  let s := { s with od := { s.od with idx := idx, bucket := s.odBucket, everValid := s.od.everValid || r.isSome } }
  s.each halves fun s h =>
    if !s.domOn (halfDomain h) then s
    else
      let s := (s.setFld (F.OD_STATUS_TEMP_IDX h) s.od.idx).setFld (F.OD_STATUS_BUCKET h) s.od.bucket
      (s.setFld (F.OD_STATUS_BANK h) (s.odFld F.OD_CTRL_ACTIVE_BANK)).setBit (F.OD_STATUS_PASS_FRAME h) (s.odPassFrame h)

/-! ### The window and the seal (R143 to R145) -/

/-- The staging bank (R143). -/
def State.odStaging (s : State) : Nat := 1 - s.fld F.OD_CTRL_ACTIVE_BANK

/-- A change of ACTIVE_BANK is staged outside a transaction, or pending in a commit (R144). -/
def State.odSwitchPending (s : State) : Bool :=
  let b := s.rd R.OD_CTRL
  let changes (v : Word) : Bool := bitOf v 4 != bitOf b 4
  (match SMap.find? s.txn.direct R.OD_CTRL with | some v => changes v | none => false) ||
    (s.txn.arrived ++ s.txn.merging).any fun n =>
      (SMap.get slotDefault s.txn.slots n).writes.any fun w => w.off == R.OD_CTRL && changes w.v

/-- A write into the table window (R144): both entries of the word, into the staging banks of both halves. -/
def State.odWrite (s : State) (o : Nat) (v : Word) : State :=
  if odEntries * 2 ≤ o then s
  else if s.od.sealing.isSome || s.odSwitchPending then s.bump F.OD_WIN_DROPPED_COUNT
  else
    let b := s.odStaging
    let put (s : State) (h : Half) : State :=
      if !s.domOn (halfDomain h) then s
      else
        let t := SMap.set (fun _ => 0) s.od.tables (odKey h b (o / 2)) (bitsOf v 0 16)
        let t := SMap.set (fun _ => 0) t (odKey h b (o / 2 + 1)) (bitsOf v 16 16)
        { s with od := { s.od with tables := t } }
    let s := s.each halves put
    let x := s.fld F.OD_STAGE_STATUS_SEALED
    s.setFld F.OD_STAGE_STATUS_SEALED (x - x / 2 ^ b % 2 * 2 ^ b)

/-- OD_TABLE_WRITE (R144). -/
def execOdTableWrite (off : BitVec 24) (v : Word) (s : State) : Host.Outcome State Fault Refusal :=
  .next (s.hostWriteTo R.OD_CTRL fun s => s.odWrite ((off.toNat - 0x170000) / 4 * 4) v)

/-- Start the seal of the staging bank (R145). -/
def State.odSeal (s : State) : State :=
  if s.bit F.OD_STAGE_STATUS_BUSY then s
  else { s.setFld F.OD_STAGE_STATUS_BUSY 1 with od := { s.od with sealing := some s.odStaging } }

/-- OD_SEAL (R145): STAGE_CMD with SEAL = 1. -/
def execOdSeal (v : Word) (s : State) : Host.Outcome State Fault Refusal :=
  .next (s.hostWriteTo R.OD_STAGE_CMD fun s => if bitOf v 0 then s.odSeal else s)

/-- CRC-32C of a half's bank (R145). -/
def State.odCrc (s : State) (h : Half) (bank : Nat) : Word :=
  crc32c ((List.range odEntries).flatMap fun e => leBytes 2 (s.odTable h bank e))

/-- OD_SEAL_DONE (R145). -/
def State.odSealDone (s : State) : State :=
  match s.od.sealing with
  | none => s
  | some b =>
    let c := s.odCrc .dawn b
    let agree := s.odCrc .dusk b == c
    let s := { s.setFld F.OD_STAGE_STATUS_BUSY 0 with od := { s.od with sealing := none } }
    let s := if b = 0 then s.setFld F.OD_BANK0_CRC_CRC c.toNat else s.setFld F.OD_BANK1_CRC_CRC c.toNat
    let x := s.fld F.OD_STAGE_STATUS_SEALED
    let s := s.setFld F.OD_STAGE_STATUS_SEALED (if agree then x ||| 2 ^ b else x - x / 2 ^ b % 2 * 2 ^ b)
    (s.raise 0x23 1).post F.OD_EVT_RING 0x0302 [(1, b), (1, b2n agree), (32, c.toNat)]

def execOdSealDone (s : State) : Host.Outcome State Fault Refusal := .next s.odSealDone

end Sys2Proof.Machine
end

