-- ==== Sys2Proof/Machine/PStore.lean ====
section
/-! DEFINITION. The persistent store (14, R332 to R335): its words, its write buffer and its wear counters. -/

namespace Sys2Proof.Machine

/-- First words of the persistent pages (R332). -/
abbrev persCal : Nat := 0
abbrev persKeys : Nat := 4096
abbrev persBoot : Nat := 5120
abbrev persJournal : Nat := 9216
abbrev persAudit : Nat := 10240
abbrev persLog : Nat := 11264

/-- Words of the store, and words of the pages of R332. -/
abbrev persWords : Nat := 524288
abbrev persPaged : Nat := 27648

/-- The newest value of a word, the buffer included (R333). (Log 10: PRESUMED, unsafe.) -/
def State.persRead (s : State) (i : Nat) : Word :=
  match (s.pstore.buf.filter fun e => e.1 == i).getLast? with
  | some e => e.2
  | none => SMap.get (fun _ => 0) s.pstore.words i

/-- A write is accepted into the buffer (R333). (Log 107: DESIGN CHOICE, safe.) -/
def State.persWrite (s : State) (i : Nat) (v : Word) : State :=
  { s with pstore := { s.pstore with buf := s.pstore.buf ++ [(i, v)] } }

/-- The word of PERS_BOOT that holds the only RWP register of the register pages, SEAL.POLICY (R332).
(Log 73: DESIGN CHOICE, unsafe.) -/
abbrev persPolicy : Nat := persBoot + 3072

/-- ASSAY_HIDE, as the persistent store holds it (R266, R332). -/
def State.assayHide (s : State) : Bool := bitOf (s.persRead persPolicy) 0

/-- PENDING (R347). (Log 107: DESIGN CHOICE, safe.) -/
def State.persPending (s : State) : Nat := min 64 s.pstore.buf.length

/-- The wear counter of a row (R335). -/
def rowWear (m : SMap Nat) (r : Nat) : Nat :=
  m.foldl (fun a e => if e.1 / 64 = r then max a e.2 else a) 0

/-- Writes reported as PSTORE_WEAR, and writes up to which retention is specified (R335). -/
abbrev wearWarn : Nat := 9000000
abbrev wearWorn : Nat := 10000000

/-- One more write to a word wears its row (R335). -/
def State.persWear (s : State) (i : Nat) : State :=
  let old := rowWear s.pstore.wear (i / 64)
  let m := SMap.set (fun _ => 0) s.pstore.wear i (SMap.get (fun _ => 0) s.pstore.wear i + 1)
  let s := { s with pstore := { s.pstore with wear := m } }
  let n := s.fld F.PSTORE_WRITES_LO_COUNT + s.fld F.PSTORE_WRITES_HI_COUNT * 2 ^ 32 + 1
  let s := (s.setFld F.PSTORE_WRITES_LO_COUNT n).setFld F.PSTORE_WRITES_HI_COUNT (n / 2 ^ 32)
  let new := rowWear m (i / 64)
  if old < wearWarn && wearWarn ≤ new then
    (s.raise 0x04 0).post F.MAINT_EVT_RING 0x0904 [(13, i / 64), (32, new)]
  else s

/-- PSTORE_WORD_WRITE (R333): the oldest accepted write is made. (Log 107: DESIGN CHOICE, safe.) -/
def State.pstoreStep (s : State) : State :=
  match s.pstore.buf with
  | [] => s
  | (i, v) :: rest =>
    { s with pstore := { s.pstore with buf := rest, words := SMap.set (fun _ => 0) s.pstore.words i v } }.persWear i

def execPstoreWordWrite (s : State) : Host.Outcome State Fault Refusal := .next s.pstoreStep

/-- Every row's wear, for WARN_ROWS and WORN_ROWS: rows at `n` writes or more (R335, R347). -/
def State.rowsAt (s : State) (n : Nat) : Nat :=
  ((s.pstore.wear.map fun e => e.1 / 64).eraseDups.filter fun r => n ≤ rowWear s.pstore.wear r).length

/-- MAX_WEAR and the lowest row with that count (R347). -/
def State.maxWear (s : State) : Nat × Nat :=
  s.pstore.wear.foldl (fun a e => if a.1 < e.2 then (e.2, e.1 / 64) else a) (0, 0)

/-- A host write to a persistent window (R332, R333): RWP pages take it, the others drop it. ASSAY_HIDE can only be set
(R266). (Log 20: DEDUCED, safe; log 73: DESIGN CHOICE, unsafe.) -/
def State.persHostWrite (s : State) (off : Nat) (v : Word) : State :=
  let i := (off - 0x1C0000) / 4
  if i = persPolicy then s.persWrite i (v ||| (s.persRead i &&& 1#32))
  else if i < persKeys || (persBoot ≤ i && i < persJournal) || (persAudit ≤ i && i < persLog) then s.persWrite i v else s

/-- What a host read of a persistent window returns (R332). -/
def State.persHostRead (s : State) (off : Nat) : Word :=
  let i := (off - 0x1C0000) / 4
  if persKeys ≤ i && i < persBoot then 0 else s.persRead i

/-! ### The fatal log (R372) -/

/-- The 16 words of fatal record `k`. -/
def State.logWords (s : State) (k : Nat) : List Word := (List.range 16).map fun i => s.persRead (persLog + 16 * k + i)

/-- A record passes its CRC (R372); a slot of zeros, whose CRC-32C is not zero, does not. -/
def logValid (ws : List Word) : Bool := ws.any (· != 0) && crc32c (wordBytes (ws.take 15)) == ws.getD 15 0

/-- The valid record with the highest SEQ: its number and SEQ. -/
def State.logNewest (s : State) : Option (Nat × Word) :=
  (List.range 512).foldl
    (fun b k =>
      let ws := s.logWords k
      if !logValid ws then b
      else
        match b with
        | some x => if x.2 < ws.getD 0 0 then some (k, ws.getD 0 0) else b
        | none => some (k, ws.getD 0 0))
    none

/-- The slot that the next record takes (R372). -/
def State.logNext (s : State) : Nat := match s.logNewest with | some x => (x.1 + 1) % 512 | none => 0

end Sys2Proof.Machine
end

