-- ==== Sys2Proof/Machine/Assay.lean ====
section
/-! DEFINITION. Assay checksums (11, R259 to R266): accumulation over a frame, the results at its end, and publication. -/

namespace Sys2Proof.Machine

/-- The bytes of pixels as Assay takes them (R260). -/
def pxBytes (ps : List Px) : List Byte := ps.flatMap fun p => leBytes 4 p.word

/-- Panel columns per half. -/
def State.halfW (s : State) : Nat := 4 * s.fld F.SCAN_H_TIMING_H_ACTIVE

/-- A rectangle clipped to the active area: left, right, top, bottom, the right and bottom excluded (R261). -/
def State.rectClip (s : State) (n : Nat) : Nat × Nat × Nat × Nat :=
  let w := 2 * s.halfW
  let v := s.fld F.SCAN_V_TIMING_V_ACTIVE
  let x := s.fld (F.ASSAY_RECT_POS_X n)
  let y := s.fld (F.ASSAY_RECT_POS_Y n)
  (min x w, min (x + s.fld (F.ASSAY_RECT_SIZE_W n)) w, min y v, min (y + s.fld (F.ASSAY_RECT_SIZE_H n)) v)

/-- The clipped area is not zero. -/
def clipFull (c : Nat × Nat × Nat × Nat) : Bool := c.1 < c.2.1 && c.2.2.1 < c.2.2.2

def rectDefault (_ : Nat) : Word := 0xFFFFFFFF#32

/-- One line of a frame enters the checksums: its pixels and the protection of each strip, both halves (R260, R264).
(Log 63: DEDUCED, unsafe.) -/
def State.assayLine (s : State) (line : Nat) (dawn dusk : List (List Px × Bool)) : State :=
  let all := dawn ++ dusk
  let px := all.flatMap (·.1)
  let r := s.assay.run
  let anyProt (l : List (List Px × Bool)) : Bool := l.any (·.2)
  let r := { r with
    frame := crc32cRun r.frame (pxBytes px),
    dawn := crc32cRun r.dawn (pxBytes (dawn.flatMap (·.1))),
    dusk := crc32cRun r.dusk (pxBytes (dusk.flatMap (·.1))),
    protDawn := r.protDawn || anyProt dawn,
    protDusk := r.protDusk || anyProt dusk }
  let one (r : AssayRun) (n : Nat) : AssayRun :=
    if !s.bit (F.ASSAY_RECT_CTRL_EN n) then r
    else
      let c := s.rectClip n
      if !clipFull c || line < c.2.2.1 || c.2.2.2 ≤ line then r
      else
        let v := crc32cRun (SMap.get rectDefault r.rects n) (pxBytes ((px.drop c.1).take (c.2.1 - c.1)))
        let hit := all.zipIdx.any fun e => e.1.2 && c.1 < 32 * (e.2 + 1) && 32 * e.2 < c.2.1
        { r with rects := SMap.set rectDefault r.rects n v,
                 protRects := if hit then insertNat n r.protRects else r.protRects }
  { s with assay := { s.assay with run := if s.domOn dDAWN then (List.range 64).foldl one r else r } }

/-- Publish the results that wait (R263): those of each half that is ON, and with Dawn those of the frame and of the
rectangles. The true values are held; what a read shows of them follows from the protection recorded here (R266). -/
def State.assayPublish (s : State) : State :=
  match s.assay.pub with
  | none => s
  | some p =>
    let s := { s with assay := { s.assay with pub := none } }
    let half (s : State) (h : Half) (c : Word) : State :=
      if !s.domOn (halfDomain h) then s
      else (s.setFld (F.ASSAY_HALF_CRC_CRC h) c.toNat).setFld (F.ASSAY_HALF_FRAME_FRAME h) p.frameNo.toNat
    let s := half (half s .dawn p.dawn) .dusk p.dusk
    let s := { s with assay := { s.assay with
      protDawn := if s.domOn dDAWN then p.protDawn else s.assay.protDawn,
      protDusk := if s.domOn dDUSK then p.protDusk else s.assay.protDusk } }
    if !s.domOn dDAWN then s
    else
      let s := { s with assay := { s.assay with
        protFrame := p.protDawn || p.protDusk, protRects := (p.rects.filter fun (r : RectResult) => r.prot).map fun (r : RectResult) => r.n } }
      let s := s.setFld F.ASSAY_FRAME_CRC_CRC p.crc.toNat
      let s := s.each (List.range 64) fun s n =>
        s.setFld (F.ASSAY_RECT_RESULT_CRC n) (match p.rects.find? (·.n == n) with | some r => r.crc.toNat | none => 0)
      let s := s.setFld F.ASSAY_RESULT_FRAME_FRAME p.frameNo.toNat
      let fails := p.rects.foldl (fun a r => if r.failed then a + 2 ^ r.n else a) 0
      let count := (p.rects.filter (·.failed)).length
      let s := (s.setFld F.ASSAY_MISMATCH_LO_MAP fails).setFld F.ASSAY_MISMATCH_HI_MAP (fails / 2 ^ 32)
      let s := (s.setBit F.ASSAY_STATUS_FRAME_FAIL p.failed).setFld F.ASSAY_STATUS_COUNT count
      if !p.failed && count = 0 then { s with assay := { s.assay with armed := true } }
      else
        let s := s.bump F.ASSAY_MISMATCH_FRAMES_COUNT
        if p.onceMode && !s.assay.armed then s
        else
          ({ s with assay := { s.assay with armed := false } }.raise 0x26 0).post F.ASSAY_EVT_RING 0x0A00
            [(1, b2n p.failed), (7, count), (32, p.frameNo.toNat), (32, fails), (32, fails / 2 ^ 32)]

/-- The end of a frame: results that still wait are published, and the ended frame's results are fixed with the settings
that held for it (R261, R263). Called before the latch applies any change; `frame` is the frame that ended.
(Log 63: DEDUCED, unsafe.) -/
def State.assayEnd (s : State) (frame : Word) (ran : Bool) : State :=
  let s := s.assayPublish
  if !ran then { s with assay := { s.assay with run := AssayRun.init } }
  else
    let r := s.assay.run
    let fin (c : Word) : Word := c ^^^ 0xFFFFFFFF#32
    let rect (n : Nat) : Option RectResult :=
      if s.bit (F.ASSAY_RECT_CTRL_EN n) && clipFull (s.rectClip n) then
        let c := fin (SMap.get rectDefault r.rects n)
        some ⟨n, c, r.protRects.contains n, s.bit (F.ASSAY_RECT_CTRL_CHECK n) && c != s.rd (R.ASSAY_RECT_EXPECT n)⟩
      else none
    let pub : AssayPub :=
      ⟨frame, fin r.frame, fin r.dawn, fin r.dusk, r.protDawn, r.protDusk,
       s.bit F.ASSAY_CTRL_FRAME_CHECK && fin r.frame != s.rd R.ASSAY_FRAME_EXPECT, s.bit F.ASSAY_CTRL_EVT_MODE,
       (List.range 64).filterMap rect⟩
    { s with assay := { s.assay with run := AssayRun.init, pub := some pub } }

/-- The checksums that ASSAY_HIDE hides at present, by the register that shows them (R266). -/
def State.assayHidden (s : State) (off : Nat) : Bool :=
  s.assayHide &&
    (if off = R.ASSAY_FRAME_CRC then s.assay.protFrame
     else if off = R.ASSAY_HALF_CRC .dawn then s.assay.protDawn
     else if off = R.ASSAY_HALF_CRC .dusk then s.assay.protDusk
     else s.assay.protRects.any fun n => off == R.ASSAY_RECT_RESULT n)

/-- PROT_LO and PROT_HI as one number: the rectangles that are hidden (R266). -/
def State.assayProtMap (s : State) : Nat :=
  if s.assayHide then s.assay.protRects.foldl (fun a n => a + 2 ^ n) 0 else 0

/-- ASSAY_PUBLISH (R263). -/
def execAssayPublish (s : State) : Host.Outcome State Fault Refusal := .next s.assayPublish

/-- A write to SEAL.POLICY (R3, R266, R332): ASSAY_HIDE is set only, and written to the persistent store.
(Log 73: DESIGN CHOICE, unsafe.) -/
def State.policyWrite (s : State) (v : Word) : State :=
  if bitOf v 0 then s.persWrite persPolicy (s.persRead persPolicy ||| 1#32) else s

/-- ASSAY_HIDE_SET (R266): set only; the bit is held in the persistent store. -/
def execAssayHideSet (v : Word) (s : State) : Host.Outcome State Fault Refusal :=
  .next (s.hostWriteTo R.SEAL_POLICY fun s => s.policyWrite v)

end Sys2Proof.Machine
end

