-- ==== Sys2Proof/Machine/Ecdsa.lean ====
section
/-! DEFINITION. SHA-384, and the ECDSA signature over the NIST P-384 curve, as the standards define them (R358 names them).
(Log 7: DESIGN CHOICE, safe; log 149: PRESUMED, unsafe.) -/

namespace Sys2Proof.Machine

/-! ### SHA-384 -/

/-- The greatest number of `b` bits above `r` whose power `d` is at most `x`. -/
def rootGo (d x : Nat) : Nat → Nat → Nat
  | 0, r => r
  | b + 1, r => rootGo d x b (if (r + 2 ^ b) ^ d ≤ x then r + 2 ^ b else r)

/-- The first 64 bits of the fraction of the root of degree `d` of `x`. -/
def rootBits (d x : Nat) : DWord := BitVec.ofNat 64 (rootGo d (x * 2 ^ (64 * d)) 72 0)

def primesTo (n : Nat) : List Nat := (List.range n).filter fun p => 2 ≤ p && (List.range p).all fun d => d < 2 || p % d != 0

/-- The round constants: cube roots of the first 80 primes. -/
def shaK : List DWord := (primesTo 410).map (rootBits 3)

/-- The first hash value: square roots of the ninth to the sixteenth prime. -/
def shaStart : List DWord := ((primesTo 54).drop 8).map (rootBits 2)

def shaRot (x : DWord) (n : Nat) : DWord := x.rotateRight n

/-- The message schedule goes on by `n` words; the last 16 words, the newest first. -/
def shaSchedule : Nat → List DWord → List DWord
  | 0, _ => []
  | n + 1, ws =>
    let s0 := fun (x : DWord) => shaRot x 1 ^^^ shaRot x 8 ^^^ (x >>> 7)
    let s1 := fun (x : DWord) => shaRot x 19 ^^^ shaRot x 61 ^^^ (x >>> 6)
    let w := s1 (ws.getD 1 0) + ws.getD 6 0 + s0 (ws.getD 14 0) + ws.getD 15 0
    w :: shaSchedule n (w :: ws.take 15)

/-- One round, with its constant and its word of the schedule. -/
def shaRound (v : List DWord) (k w : DWord) : List DWord :=
  match v with
  | [a, b, c, d, e, f, g, h] =>
    let t1 := h + (shaRot e 14 ^^^ shaRot e 18 ^^^ shaRot e 41) + ((e &&& f) ^^^ (~~~e &&& g)) + k + w
    let t2 := (shaRot a 28 ^^^ shaRot a 34 ^^^ shaRot a 39) + ((a &&& b) ^^^ (a &&& c) ^^^ (b &&& c))
    [t1 + t2, a, b, c, d + t1, e, f, g]
  | _ => v

/-- One block of 128 bytes. -/
def shaBlock (ks h : List DWord) (block : List Byte) : List DWord :=
  let ws := (List.range 16).map fun i => BitVec.ofNat 64 (ofBe ((block.drop (8 * i)).take 8))
  let v := (ks.zip (ws ++ shaSchedule 64 ws.reverse)).foldl (fun v e => shaRound v e.1 e.2) h
  List.zipWith (· + ·) h v

/-- The blocks of a padded message. -/
def shaRun (ks : List DWord) : Nat → List DWord → List Byte → List DWord
  | 0, h, _ => h
  | n + 1, h, bs => shaRun ks n (shaBlock ks h (bs.take 128)) (bs.drop 128)

/-- SHA-384 of a byte string. (Log 149: PRESUMED, unsafe.) -/
def sha384 (bs : List Byte) : List Byte :=
  let zeros := (239 - bs.length % 128) % 128
  let m := bs ++ 0x80#8 :: List.replicate zeros 0 ++ beBytes 16 (8 * bs.length)
  ((shaRun shaK (m.length / 128) shaStart m).take 6).flatMap fun w => beBytes 8 w.toNat

/-! ### The curve P-384 -/

abbrev ecP : Nat := 2 ^ 384 - 2 ^ 128 - 2 ^ 96 + 2 ^ 32 - 1
/-- (Log 149: PRESUMED, unsafe.) -/
abbrev ecN : Nat :=
  0xFFFFFFFFFFFFFFFFFFFFFFFFFFFFFFFFFFFFFFFFFFFFFFFFC7634D81F4372DDF581A0DB248B0A77AECEC196ACCC52973

/-- The base point. (Log 149: PRESUMED, unsafe.) -/
def ecG : Nat × Nat :=
  (0xAA87CA22BE8B05378EB1C71EF320AD746E1D3B628BA79B9859F741E082542A385502F25DBF55296C3A545E3872760AB7,
   0x3617DE4A96262C6F5D9E98BF9292DC29F8F41DBD289A147CE9DA3113B5F0B8C00A60B1CE1D7E819D7A431D7C90EA0E5F)

/-- `b` to the power `e`, of which `n` bits count, modulo `m`. -/
def powMod (b e m : Nat) : Nat → Nat → Nat
  | 0, acc => acc
  | n + 1, acc => powMod b e m n (if e.testBit n then acc * acc % m * b % m else acc * acc % m)

/-- The inverse modulo a prime of 384 bits. -/
def invMod (b m : Nat) : Nat := powMod b (m - 2) m 384 1

def subMod (a b m : Nat) : Nat := (a + (m - b % m)) % m

/-- The sum of two points, none being the point at infinity. -/
def ecAdd : Option (Nat × Nat) → Option (Nat × Nat) → Option (Nat × Nat)
  | none, q => q
  | p, none => p
  | some p, some q =>
    if p.1 = q.1 && (p.2 + q.2) % ecP = 0 then none
    else
      let l :=
        if p.1 = q.1 then subMod (3 * p.1 * p.1) 3 ecP * invMod (2 * p.2 % ecP) ecP % ecP
        else subMod q.2 p.2 ecP * invMod (subMod q.1 p.1 ecP) ecP % ecP
      let x := subMod (subMod (l * l) p.1 ecP) q.1 ecP
      some (x, subMod (l * subMod p.1 x ecP) p.2 ecP)

/-- A multiple of a point, `n` bits of the factor, the most significant first. -/
def ecMul (k : Nat) (p : Nat × Nat) : Nat → Option (Nat × Nat) → Option (Nat × Nat)
  | 0, acc => acc
  | n + 1, acc => ecMul k p n (if k.testBit n then ecAdd (ecAdd acc acc) (some p) else ecAdd acc acc)

/-- A signature is valid for a message under a public key (R358): r and s, 48 bytes each, big-endian. (Log 149: PRESUMED, unsafe.) -/
def ecdsaValid (key : Nat × Nat) (msg sig : List Byte) : Bool :=
  let r := ofBe (sig.take 48)
  let t := ofBe ((sig.drop 48).take 48)
  if r = 0 || t = 0 || ecN ≤ r || ecN ≤ t then false
  else
    let w := invMod t ecN
    let e := ofBe (sha384 msg)
    match ecAdd (ecMul (e * w % ecN) ecG 384 none) (ecMul (r * w % ecN) key 384 none) with
    | none => false
    | some x => x.1 % ecN == r

/-- A vendor signature over the bytes of an image is valid (R358). (Log 7: DESIGN CHOICE, safe.) -/
def signatureValid (msg sig : List Byte) : Bool := ecdsaValid Config.vendorKey msg sig

end Sys2Proof.Machine
end

