-- ==== Sys2Proof/Machine/Aes.lean ====
section
/-! DEFINITION. AES-256 and Galois/Counter Mode, as the standards define them (R176, R267 name them). -/

namespace Sys2Proof.Machine

/-! ### The field of AES -/

/-- Multiplication by x in the field of 256 elements. -/
def xtime (a : Byte) : Byte := if a.getLsbD 7 then (a <<< 1) ^^^ 0x1B#8 else a <<< 1

/-- Multiplication in the field of 256 elements, `n` bits of the second factor. -/
def gmulGo : Nat → Byte → Byte → Byte
  | 0, _, _ => 0
  | n + 1, a, b => (if b.getLsbD 0 then a else 0) ^^^ gmulGo n (xtime a) (b >>> 1)

def gmul (a b : Byte) : Byte := gmulGo 8 a b

/-- `a` to the power 2^n - 1 times two: by squaring and multiplying, `ginv a` is a to the 254. -/
def ginvGo : Nat → Byte → Byte → Byte
  | 0, _, acc => acc
  | n + 1, sq, acc => let sq := gmul sq sq; ginvGo n sq (gmul acc sq)

/-- The inverse in the field, 0 for 0. -/
def ginv (a : Byte) : Byte := ginvGo 7 a 1

/-- The substitution of one byte. -/
def sbox (a : Byte) : Byte :=
  let b := ginv a
  b ^^^ b.rotateLeft 1 ^^^ b.rotateLeft 2 ^^^ b.rotateLeft 3 ^^^ b.rotateLeft 4 ^^^ 0x63#8

def xorBytes (a b : List Byte) : List Byte := List.zipWith (· ^^^ ·) a b

/-! ### AES-256 -/

/-- Round constant `i`, from 1. -/
def rcon : Nat → Byte
  | 0 => 0x8D#8
  | n + 1 => xtime (rcon n)

/-- The next word of the key schedule: `ws` holds the words so far, newest first. -/
def nextKeyWord (ws : List (List Byte)) : List Byte :=
  let i := ws.length
  let t := ws.headD []
  let t' :=
    if i % 8 = 0 then
      match (t.rotateLeft 1).map sbox with
      | b :: bs => (b ^^^ (if i / 8 = 1 then 1 else rcon (i / 8))) :: bs
      | [] => []
    else if i % 8 = 4 then t.map sbox
    else t
  xorBytes (ws.getD 7 []) t'

def keyScheduleGo : Nat → List (List Byte) → List (List Byte)
  | 0, ws => ws
  | n + 1, ws => keyScheduleGo n (nextKeyWord ws :: ws)

/-- The 15 round keys of 16 bytes. -/
def roundKeys (key : List Byte) : List (List Byte) :=
  let k := (List.range 8).map fun i => (key.drop (4 * i)).take 4
  let ws := (keyScheduleGo 52 k.reverse).reverse
  (List.range 15).map fun r => ((ws.drop (4 * r)).take 4).flatten

/-- Byte `4c + r` of the state comes from column `c + r` (rows rotate left by their number). -/
def shiftRows (s : List Byte) : List Byte :=
  (List.range 16).map fun i => s.getD ((i / 4 + i % 4) % 4 * 4 + i % 4) 0

def mixColumn (s : List Byte) (c : Nat) : List Byte :=
  (List.range 4).map fun r =>
    let a (i : Nat) : Byte := s.getD (4 * c + (r + i) % 4) 0
    gmul 2 (a 0) ^^^ gmul 3 (a 1) ^^^ a 2 ^^^ a 3

def mixColumns (s : List Byte) : List Byte := (List.range 4).flatMap (mixColumn s)

/-- AES-256 encryption of one block under round keys. (Log 70: PRESUMED, unsafe.) -/
def aesBlock (rks : List (List Byte)) (block : List Byte) : List Byte :=
  let s := xorBytes block (rks.getD 0 [])
  let s := (List.range 13).foldl (fun s r => xorBytes (mixColumns (shiftRows (s.map sbox))) (rks.getD (r + 1) [])) s
  xorBytes (shiftRows (s.map sbox)) (rks.getD 14 [])

/-! ### GCM -/

/-- Multiplication in the field of GCM; numbers hold the block with bit 0 of the standard as their highest bit. -/
def ghashMulGo : Nat → Nat → Nat → Nat → Nat
  | 0, _, _, z => z
  | n + 1, x, v, z =>
    let z := if x / 2 ^ n % 2 = 1 then z ^^^ v else z
    let v := if v % 2 = 1 then (v / 2) ^^^ (0xE1 * 2 ^ 120) else v / 2
    ghashMulGo n x v z

def ghashMul (x y : Nat) : Nat := ghashMulGo 128 x y 0

/-- Blocks of 16 bytes; the last one is completed with zeros. -/
def blocks16 : Nat → List Byte → List (List Byte)
  | 0, _ => []
  | fuel + 1, bs =>
    match bs with
    | [] => []
    | _ => (bs.take 16 ++ List.replicate (16 - min 16 bs.length) 0) :: blocks16 fuel (bs.drop 16)

def ghash (h : Nat) (bs : List (List Byte)) : Nat := bs.foldl (fun y b => ghashMul (y ^^^ ofBe b) h) 0

/-- Counter-mode encryption or decryption: counter values from 2 on. -/
def gcmCtr (rks : List (List Byte)) (iv bs : List Byte) : List Byte :=
  ((blocks16 (bs.length + 1) bs).zipIdx.flatMap fun e => xorBytes e.1 (aesBlock rks (iv ++ beBytes 4 (e.2 + 2)))).take bs.length

/-- The 16-byte tag of a ciphertext with its additional data. (Log 70: PRESUMED, unsafe.) -/
def gcmTag (rks : List (List Byte)) (iv aad ct : List Byte) : List Byte :=
  let h := ofBe (aesBlock rks (List.replicate 16 0))
  let y := ghash h (blocks16 (aad.length + 1) aad ++ blocks16 (ct.length + 1) ct ++
    [beBytes 8 (8 * aad.length) ++ beBytes 8 (8 * ct.length)])
  xorBytes (beBytes 16 y) (aesBlock rks (iv ++ beBytes 4 1))

/-- The check value of a key (R267): the first three bytes of the encryption of zeros, in the order in which a field of
24 bits holds bytes. (Log 70: PRESUMED, unsafe.) -/
def keyCheck (key : List Byte) : Nat := ofLe ((aesBlock (roundKeys key) (List.replicate 16 0)).take 3)

end Sys2Proof.Machine
end

