-- ==== Sys2Proof/Machine/Seal.lean ====
section
/-! DEFINITION. Key slots (11, R267, R268). -/

namespace Sys2Proof.Machine

/-- States of a key slot (R271). -/
abbrev keyEMPTY : Nat := 0
abbrev keyVALID : Nat := 1
abbrev keyLOCKED : Nat := 2
abbrev keyFAULT : Nat := 3

/-- One copy of a key slot as it is read (R267). -/
structure KeyCopy where
  seq : Word
  key : List Byte
  state : Nat
  good : Bool
deriving DecidableEq, Repr

/-- The first of the 11 words of copy `i`, of which slot `n` has 2 × n and 2 × n + 1 (R267). (Log 71: DESIGN CHOICE, unsafe.) -/
def keyWord (i : Nat) : Nat := persKeys + 11 * i

/-- A copy as the persistent store holds it (R267): SEQ, 8 key words, the state, and a CRC-32C over these ten words. -/
def State.keyCopy (s : State) (i : Nat) : KeyCopy :=
  let ws := (List.range 11).map fun k => s.persRead (keyWord i + k)
  ⟨ws.getD 0 0, wordBytes ((ws.drop 1).take 8), (ws.getD 9 0).toNat, crc32c (wordBytes (ws.take 10)) == ws.getD 10 0⟩

/-- A copy is written, its CRC last (R267, R334). -/
def State.writeKey (s : State) (i : Nat) (seq : Word) (key : List Byte) (state : Nat) : State :=
  let ws := seq :: ((List.range 8).map fun k => BitVec.ofNat 32 (ofLe ((key.drop (4 * k)).take 4))) ++ [BitVec.ofNat 32 state]
  (ws ++ [crc32c (wordBytes ws)]).zipIdx.foldl (fun s e => s.persWrite (keyWord i + e.2) e.1) s

/-- The copy that a slot is read from (R267): CRC passes, and the higher SEQ of two. -/
def State.keyUsed (s : State) (slot : Nat) : Option Nat :=
  let a := s.keyCopy (2 * slot)
  let b := s.keyCopy (2 * slot + 1)
  if a.good && b.good then some (if sdiff b.seq a.seq > 0 then 1 else 0)
  else if a.good then some 0
  else if b.good then some 1
  else none

/-- The state that KEY_STATE shows (R267, R271). -/
def State.keyState (s : State) (slot : Nat) : Nat :=
  match s.keyUsed slot with
  | some i => (s.keyCopy (2 * slot + i)).state
  | none => keyFAULT

/-- The key of a VALID or LOCKED slot. -/
def State.keyOf (s : State) (slot : Nat) : Option (List Byte) :=
  match s.keyUsed slot with
  | some i =>
    let c := s.keyCopy (2 * slot + i)
    if c.state = keyVALID || c.state = keyLOCKED then some c.key else none
  | none => none

/-- KCV of a slot; 0 when it is not VALID or LOCKED (R271). (Log 70: PRESUMED, unsafe.) -/
def State.keyKcv (s : State) (slot : Nat) : Nat :=
  match s.keyOf slot with
  | some k => keyCheck k
  | none => 0

/-- KEY_STATE: two bits per slot (R271). -/
def State.keyStates (s : State) : Nat := (List.range 16).foldl (fun a n => a + s.keyState n * 4 ^ n) 0

/-- A running INFLATE or a SUSPENDED context names the slot (R268). -/
def State.keyBusy (s : State) (slot : Nat) : Bool :=
  (s.cmp.ctxs.any fun e => e.2.sealed && e.2.keySlot == slot) ||
    s.hoist.cages.any fun e =>
      let d := e.2.desc
      d.ty == 2 && d.tflags / 2 % 2 == 1 && d.tflags / 4 % 16 == slot &&
        match e.2.phase with | .waitLane | .inflating _ => true | _ => false

/-- KEY_DATA words and their marks are cleared (R267). (Log 72: DEDUCED, unsafe.) -/
def State.clearKeyData (s : State) : State := { s with keys := { s.keys with data := [] } }

/-- KEY_CMD (R267, R268): refused with its result, or the write of a new copy begins. (Log 72: DEDUCED, unsafe.) -/
def State.keyCmd (s : State) (slot op : Nat) : State :=
  let st := s.keyState slot
  let refuse (r : Nat) : State :=
    ((s.setFld F.SEAL_KEY_RESULT_RESULT r).clearKeyData).refuseCommand R.SEAL_KEY_CMD (BitVec.ofNat 32 (slot + op * 256))
  if s.keys.op.isSome then refuse 2
  else if (op != 3 && st == keyLOCKED) || (op == 3 && st != keyVALID) then refuse 1
  else if op != 3 && s.keyBusy slot then refuse 2
  else if op = 1 && !((List.range 8).all fun i => (SMap.find? s.keys.data i).isSome) then refuse 3
  else
    let words := (List.range 8).map fun i => (SMap.find? s.keys.data i).getD 0
    let key := if op = 1 then wordBytes words else if op = 3 then (s.keyOf slot).getD [] else List.replicate 32 0
    { s.setFld F.SEAL_KEY_RESULT_RESULT 4 with keys := { s.keys with op := some (slot, op), opKey := key, data := [] } }

def execKeyProgram (slot : BitVec 4) (s : State) : Host.Outcome State Fault Refusal :=
  .next (s.hostWriteTo R.SEAL_KEY_CMD fun s => s.keyCmd slot.toNat 1)

def execKeyErase (slot : BitVec 4) (s : State) : Host.Outcome State Fault Refusal :=
  .next (s.hostWriteTo R.SEAL_KEY_CMD fun s => s.keyCmd slot.toNat 2)

def execKeyLock (slot : BitVec 4) (s : State) : Host.Outcome State Fault Refusal :=
  .next (s.hostWriteTo R.SEAL_KEY_CMD fun s => s.keyCmd slot.toNat 3)

/-- KEY_WRITE_DONE (R267): the copy not in use holds the new key and state, with the next SEQ; the persistent store has made
every write that it accepted up to the copy's CRC (R333). (Log 71: DESIGN CHOICE, unsafe.) -/
def State.keyWriteDone (s : State) : State :=
  match s.keys.op with
  | none => s
  | some (slot, op) =>
    let used := s.keyUsed slot
    let i := match used with | some 0 => 1 | _ => 0
    let seq := match used with | some u => (s.keyCopy (2 * slot + u)).seq + 1 | none => 1
    let st := if op = 1 then keyVALID else if op = 2 then keyEMPTY else keyLOCKED
    let s := s.writeKey (2 * slot + i) seq s.keys.opKey st
    let s := s.each s.pstore.buf fun s _ => s.pstoreStep
    let s := { s with keys := { s.keys with op := none, opKey := [] } }
    if !s.domOn dHOST then s
    else
      ((s.setFld F.SEAL_KEY_RESULT_RESULT 0).raise 0x17 0).post F.SEAL_EVT_RING 0x0A01
        [(4, slot), (2, op), (2, st), (24, s.keyKcv slot)]

end Sys2Proof.Machine
end

