-- ==== Sys2Proof/Machine/Inflate.lean ====
section
/-! DEFINITION. INFLATE (R170 to R178) and CAPTURE (R179 to R182): lanes, job contexts, the capture buffer. -/

namespace Sys2Proof.Machine

/-! ### Lanes (R170, R180) -/

/-- The lanes in use. -/
def State.lanesBusy (s : State) : List Nat :=
  (s.hoist.cages.filterMap fun e => match e.2.phase with | .inflating l => some l | _ => none) ++
    (match s.cmp.capture with | some c => c.lane.toList | none => [])

/-- The lowest enabled lane that is free. (Log 67: DESIGN CHOICE, unsafe.) -/
def State.freeLane (s : State) : Option Nat :=
  (List.range 4).find? fun l => s.fld F.CMP_CTRL_LANE_EN / 2 ^ l % 2 == 1 && !s.lanesBusy.contains l

/-- The cage that waits for a lane and has the highest priority, the lowest-numbered among equals.
(Log 67: DESIGN CHOICE, unsafe.) -/
def State.laneWaiter (s : State) : Option (Nat × Cage) :=
  let waits (e : Nat × Cage) : Bool :=
    match e.2.phase with
    | .waitLane => true
    | .capturing => (match s.cmp.capture with | some c => c.cage == e.1 && c.ready && c.lane.isNone | none => false)
    | _ => false
  (List.filter waits s.hoist.cages).foldl
    (fun b e => match b with | none => some e | some x => if s.cagePrio x.2 < s.cagePrio e.2 then some e else some x) none

def assignLanesGo : Nat → State → State
  | 0, s => s
  | fuel + 1, s =>
    match s.freeLane, s.laneWaiter with
    | some l, some (n, c) =>
      match c.phase with
      | .waitLane =>
        let s := s.setCage n { c with phase := .inflating l }
        let s := if c.desc.srcHost then s.hostReadReq c.desc.src.toNat c.desc.len.toNat else s
        assignLanesGo fuel s
      | _ =>
        match s.cmp.capture with
        | some cp => assignLanesGo fuel { s with cmp := { s.cmp with capture := some { cp with lane := some l } } }
        | none => s
    | _, _ => s

/-- Free lanes are taken in cage priority (R170, R180). (Log 67: DESIGN CHOICE, unsafe.) -/
def State.assignLanes (s : State) : State := if s.domOn dCMP then assignLanesGo 33 s else s

/-! ### Extents -/

/-- An extent cut at page boundaries: address and length of each piece. -/
def pieces : Nat → Nat → Nat → List (Nat × Nat)
  | 0, _, _ => []
  | fuel + 1, a, n =>
    if n = 0 then [] else
      let k := min n (frameBytes - a % frameBytes)
      (a, k) :: pieces fuel (a + k) (n - k)

def piecesOf (a n : Nat) : List (Nat × Nat) := pieces (n / frameBytes + 2) a n

/-- The input of a job as far as it can be read, and the status that ends it early. Bytes from host memory, the source
itself or its remote pages, are those that the reads returned. -/
def State.jobInput (s : State) (d : Desc) (res : ReadRes) : List Byte × Option Nat :=
  if d.srcHost then
    match res with
    | .data bs => (fitBytes d.len.toNat bs, none)
    | _ => ([], some stPCIEERROR)
  else
    let r := (piecesOf d.src.toNat d.len.toNat).foldl
      (fun (a : List Byte × Option Nat × List Byte) p =>
        match a.2.1 with
        | some _ => a
        | none =>
          match s.translate p.1, res with
          | .dram x _, _ => (a.1 ++ s.dramRead x p.2, none, a.2.2)
          | .host _, .data _ => (a.1 ++ fitBytes p.2 a.2.2, none, a.2.2.drop p.2)
          | .host _, _ => (a.1, some stPCIEERROR, a.2.2)
          | .invalid, _ => (a.1, some stADDRFAULT, a.2.2))
      ([], none, match res with | .data bs => bs | _ => [])
    (r.1, r.2.1)

/-- How many bytes from `a` on lie in local pages, up to `n`. -/
def State.localRoom (s : State) (a n : Nat) : Nat :=
  ((piecesOf a n).foldl
    (fun (acc : Nat × Bool) p =>
      if acc.2 then match s.translate p.1 with | .dram _ _ => (acc.1 + p.2, true) | _ => (acc.1, false) else acc)
    (0, true)).1

/-- Write bytes to surface space, page by page; only local pages are reached. (Log 68: DESIGN CHOICE, unsafe.) -/
def State.surfWrite (s : State) (a : Nat) (bs : List Byte) : State :=
  ((piecesOf a bs.length).foldl
    (fun (acc : State × List Byte) p =>
      match acc.1.translate p.1 with
      | .dram x _ => (acc.1.dramWrite x (acc.2.take p.2), acc.2.drop p.2)
      | _ => (acc.1, acc.2.drop p.2))
    (s, bs)).1

/-- Bytes written by lanes, a 64-bit counter that saturates (R184). -/
def State.countOut (s : State) (n : Nat) : State :=
  let t := min (2 ^ 64 - 1) (s.fld F.CMP_OUT_LO_COUNT + s.fld F.CMP_OUT_HI_COUNT * 2 ^ 32 + n)
  (s.setFld F.CMP_OUT_LO_COUNT t).setFld F.CMP_OUT_HI_COUNT (t / 2 ^ 32)

/-! ### INFLATE -/

def Desc.cont (d : Desc) : Bool := d.tflags % 2 == 1
def Desc.sealed (d : Desc) : Bool := d.tflags / 2 % 2 == 1
def Desc.keySlot (d : Desc) : Nat := d.tflags / 4 % 16

/-- The queue of a cage's transfer; channels carry no INFLATE. -/
def Cage.queue (c : Cage) : Nat := match c.owner with | .queue q => q | .chan _ => 0

/-- The checks of an INFLATE (R170, R173, R174, R178); one that passes waits for a lane. (Log 69: DEDUCED, unsafe.) -/
def State.descInflate (s : State) (n : Nat) (c : Cage) : State :=
  let d := c.desc
  let len := d.len.toNat
  let ctx := s.ctxOf c.queue
  let fits : Bool :=
    match ctx with
    | some x =>
      match SMap.find? s.cmp.ctxs x with
      | some j => j.src == d.src && j.len == d.len && j.sealed == d.sealed && j.keySlot == d.keySlot
      | none => false
    | none => false
  if d.dstHost then s.finish n c stREFUSED len
  else if len = 0 then s.finish n c stOKZERO 0
  else if 536870912 < len || !s.domOn dCMP then s.finish n c stREFUSED len
  else if d.cont && !fits then s.finish n c stREFUSED len
  else
    let s :=
      match ctx with
      | some x =>
        if d.cont then
          let act (e : Nat × JobCtx) : Nat × JobCtx := if e.1 = x then (e.1, { e.2 with active := true }) else e
          { s with cmp := { s.cmp with ctxs := List.map act s.cmp.ctxs } }
        else (s.freeCtx x).bump F.CMP_CTX_DISCARDED_COUNT
      | none => s
    if d.sealed && !s.dstAllProtected d.dst.toNat d.param.toNat then
      (if d.cont then s.dropJob n c else s).finish n c stPROTECTED len
    else (s.setCage n { c with phase := .waitLane }).assignLanes

def execDescInflate (n : BitVec 5) (s : State) : Host.Outcome State Fault Refusal :=
  .next (s.onStart n.toNat 2 fun c => s.descInflate n.toNat c)

/-- What the input of a job decodes to: the bytes of the QZ stream, how many of them the job counts, and what ends the
job before decoding: status and bit offset. -/
structure JobSource where
  plain : List Byte
  count : Nat
  fail : Option (Nat × Nat)
  iv : List Byte
  aad : List Byte
  ct : List Byte
  /-- The tag of the second pass verifies (R177). -/
  tagOk : Bool
deriving DecidableEq, Repr

/-- The parts of an envelope (R176): ciphertext and tag, for a ciphertext of `ctLen` bytes. -/
def envCt (env : List Byte) (ctLen : Nat) : List Byte := (env.drop 24).take ctLen
def envTag (env : List Byte) (ctLen : Nat) : List Byte := (env.drop (24 + ctLen)).take 16

/-- The plaintext of a sealed job (R176, R177). `held` is the context that a continuation resumes; `env` what the first pass
read, or a continuation reads; `env2` what the second pass of a first descriptor reads. `guess` stands for a CT_LEN of
which the input does not hold all four bytes. (Log 69: DEDUCED, unsafe.) -/
def State.sealedSource (s : State) (d : Desc) (held : Option JobCtx) (env env2 : List Byte) (guess : Nat) : JobSource :=
  let ctLen := match held with | some j => j.ctLen | none => if env.length < 24 then guess else ofLe ((env.drop 20).take 4)
  let fail (st bit : Nat) : JobSource := ⟨[], ctLen, some (st, bit), [], [], [], false⟩
  if env.length < 40 + ctLen then fail 0x14 (8 * ctLen)
  else
    match s.keyOf d.keySlot with
    | none => fail 0x17 0
    | some key =>
      let rks := roundKeys key
      let tag := envTag env ctLen
      match held with
      | some j =>
        let ct := j.ctSeen ++ (envCt env ctLen).drop j.ctSeen.length
        ⟨gcmCtr rks j.iv ct, ctLen, none, j.iv, j.aad, ct, gcmTag rks j.iv j.aad ct == tag⟩
      | none =>
        let head := env.take 3 == [0x51#8, 0x53#8, 0x01#8] && (env.getD 3 0).toNat == d.keySlot
        if !head || gcmTag rks ((env.drop 8).take 12) (env.take 24) (envCt env ctLen) != tag then fail 0x17 0
        else
          let iv := (env2.drop 8).take 12
          let ct := envCt env2 ctLen
          ⟨gcmCtr rks iv ct, ctLen, none, iv, env2.take 24, ct, gcmTag rks iv (env2.take 24) ct == tag⟩

/-- The lowest-numbered free context (R173). -/
def State.nextCtx (s : State) : Option Nat := (List.range 64).find? fun c => (SMap.find? s.cmp.ctxs c).isNone

/-- INFLATE_END (R172, R183). -/
def State.inflateEnd (s : State) (q inBit total index status : Nat) (ctx : Option Nat) : State :=
  s.post F.CMP_EVT_RING 0x0400
    [(13, q), (32, inBit), (32, total), (16, index), (8, status), (6, ctx.getD 0), (1, b2n ctx.isSome)]

/-- A job ends: its context is freed, and the descriptor is written back. -/
def State.jobDone (s : State) (n : Nat) (c : Cage) (status residue : Nat) : State :=
  ((s.dropJob n c).finish n c status residue).transferComplete n

/-- Save the job in a context (R173): the one its queue holds, or the lowest free one. -/
def State.saveJob (s : State) (c : Cage) (src : JobSource) (q : QzState) : State × Option Nat :=
  let d := c.desc
  let slot := match s.ctxOf c.queue with | some x => some x | none => s.nextCtx
  match slot with
  | none => ((s.bump F.CMP_CTX_REFUSED_COUNT).raise 0x16 3, none)
  | some x =>
    let j : JobCtx :=
      ⟨false, c.queue, s.qHead c.queue, d.src, d.len, d.sealed, d.keySlot, q, src.iv, src.aad, src.count,
       if d.sealed then src.ct.take ((q.bit + 7) / 8) else []⟩
    ({ s with cmp := { s.cmp with ctxs := SMap.insert s.cmp.ctxs x j } }, some x)

/-- A lane runs the decoder over the plaintext of a job from `start` on; `early` is the status that ends it where the input
ends (R169 to R175, R177). -/
def State.inflateRun (s : State) (n : Nat) (c : Cage) (src : JobSource) (start : QzState) (early : Option Nat) : State :=
  let d := c.desc
  let q := c.queue
  let room := s.localRoom d.dst.toNat d.param.toNat
  let r := qzRun start src.plain room
  let rest (bit : Nat) : Nat := src.count - (bit + 7) / 8
  let s := (s.surfWrite d.dst.toNat r.out).countOut r.out.length
  match r.stop with
  | .done =>
    if src.tagOk then s.jobDone n c stOK (rest r.q.bit)
    else
      let s := s.surfWrite d.dst.toNat (List.replicate r.out.length 0)
      (s.inflateEnd q 0 r.q.total (s.qHead q) 0x17 none).jobDone n c 0x17 (rest r.q.bit)
  | .full =>
    if room < d.param.toNat then s.jobDone n c stADDRFAULT (rest r.q.bit)
    else
      let sv := s.saveJob c src r.q
      ((sv.1.inflateEnd q r.q.bit r.q.total (s.qHead q) stOUTPUTFULL sv.2).finish n c stOUTPUTFULL (rest r.q.bit)).transferComplete n
  | .fault st bit used =>
    match early with
    | some e => if st = 0x14 then s.jobDone n c e (rest r.q.bit) else
        (s.inflateEnd q bit r.q.total (s.qHead q) st none).jobDone n c st (rest used)
    | none => (s.inflateEnd q bit r.q.total (s.qHead q) st none).jobDone n c st (rest used)

/-- INFLATE_COMPLETE (R169 to R177): the lane decodes the input into the output extent. `again`: what the second pass of a
sealed upload read, where it differs from the first. (Log 68: DESIGN CHOICE, unsafe.) -/
def State.inflateComplete (s : State) (n : Nat) (c : Cage) (res : ReadRes) (again : Option ReadRes) : State :=
  let d := c.desc
  let q := c.queue
  let held := if d.cont then (s.ctxOf q).bind fun x => SMap.find? s.cmp.ctxs x else none
  let first := s.jobInput d res
  let second := s.jobInput d (again.getD res)
  let x := s.draw
  let src : JobSource :=
    if d.sealed then s.sealedSource d held first.1 second.1 x.1.toNat else ⟨first.1, d.len.toNat, none, [], [], [], true⟩
  let two := d.sealed && held.isNone && first.2.isNone && src.fail.isNone
  let inp := if two then second else first
  let start := match held with | some j => j.qz | none => QzState.init
  let s := if d.sealed && first.1.length < 24 then x.2 else s
  let s := if two && d.srcHost then s.hostReadReq d.src.toNat d.len.toNat else s
  let s := match inp.2 with | some _ => s.noteRead (if two then again.getD res else res) | none => s
  match src.fail, inp.2 with
  | _, some st => if d.sealed then s.jobDone n c st src.count else s.inflateRun n c src start inp.2
  | some (st, bit), none => (s.inflateEnd q bit start.total (s.qHead q) st none).jobDone n c st src.count
  | none, none => s.inflateRun n c src start none

def execInflateComplete (n : BitVec 5) (r : SourceReads) (s : State) : Host.Outcome State Fault Refusal :=
  let s := s.assignLanes
  .next
    (match s.cage? n.toNat with
     | some c => (match c.phase with | .inflating _ => (s.inflateComplete n.toNat c r.first r.again).assignLanes | _ => s)
     | none => s)
/-- A write to CTX_DROP (R184): a SUSPENDED context is freed and counted. -/
def State.ctxDropWrite (s : State) (v : Word) : State :=
  match SMap.find? s.cmp.ctxs (bitsOf v 0 6) with
  | some j => if j.active then s else (s.freeCtx (bitsOf v 0 6)).bump F.CMP_CTX_DISCARDED_COUNT
  | none => s

/-- CTX_DROP (R184). -/
def execCtxDrop (v : Word) (s : State) : Host.Outcome State Fault Refusal :=
  .next (s.hostWriteTo R.CMP_CTX_DROP fun s => s.ctxDropWrite v)

/-! ### CAPTURE -/

/-- The rectangle of a CAPTURE: X, Y, WIDTH, HEIGHT (R46). -/
def Desc.rect (v : DWord) : Nat × Nat × Nat × Nat :=
  (v.toNat % 65536, v.toNat / 65536 % 65536, v.toNat / 2 ^ 32 % 65536, v.toNat / 2 ^ 48)

/-- DESC_CAPTURE (R47, R48, R59, R179): checked, then waiting for the buffer. -/
def State.descCapture (s : State) (n : Nat) (c : Cage) : State :=
  let d := c.desc
  let r := Desc.rect d.src
  if d.srcHost || 2 ≤ bitsOf d.param 0 2 then s.finish n c stREFUSED d.len.toNat
  else if d.len = 0 then s.finish n c stOKZERO 0
  else if !s.domOn dCMP then s.finish n c stREFUSED d.len.toNat
  else if r.2.2.1 = 0 || r.2.2.2 = 0 then s.finish n c stOKZERO 0
  else s.setCage n { c with phase := .waitBuffer }

def execDescCapture (n : BitVec 5) (s : State) : Host.Outcome State Fault Refusal :=
  .next (s.onStart n.toNat 3 fun c => s.descCapture n.toNat c)

/-- CAPTURE_BUFFER_TAKEN (R180): the target frame is the first whose latch comes after. -/
def execCaptureBufferTaken (n : BitVec 5) (s : State) : Host.Outcome State Fault Refusal :=
  .next
    (match s.cage? n.toNat with
     | some c =>
       if c.phase = .waitBuffer && s.cmp.capture.isNone then
         let cp : Capture := ⟨n.toNat, s.rd R.SCAN_FRAME_SEQ + 1, false, false, none, []⟩
         { s.setCage n.toNat { c with phase := .capturing } with cmp := { s.cmp with capture := some cp } }
       else s
     | none => s)

/-- The buffer is released. -/
def State.releaseBuffer (s : State) : State :=
  { s with cmp := { s.cmp with capture := none } }

/-- The capture at a latch that begins frame `f` (R179, R180). Of a target frame that scan did not complete, the spec does
not state what the buffer holds for the lines that were not reached: they are free. (Log 62: DESIGN CHOICE, safe.) -/
def State.captureLatch (s : State) (f : Word) : State :=
  match s.cmp.capture with
  | none => s
  | some cp =>
    match s.cage? cp.cage with
    | none => s.releaseBuffer
    | some c =>
      if cp.running then
        let r := Desc.rect c.desc.src
        let x := s.freeBytes (4 * r.2.2.1 * r.2.2.2 - cp.buf.length)
        { x.2 with cmp := { s.cmp with capture := some { cp with running := false, ready := true, buf := cp.buf ++ x.1 } } }.assignLanes
      else if cp.ready || cp.target != f then s
      else
        let r := Desc.rect c.desc.src
        if r.1 + r.2.2.1 ≤ 2 * s.halfW && r.2.1 + r.2.2.2 ≤ s.fld F.SCAN_V_TIMING_V_ACTIVE then
          { s with cmp := { s.cmp with capture := some { cp with running := true } } }
        else (s.releaseBuffer).finish cp.cage c stREFUSED c.desc.len.toNat

/-- A 10-bit channel as 8 bits (R179). -/
def to8 (v : Nat) : Nat := min 255 ((v + 2) / 4)

/-- A pixel in a capture format (R179). -/
def capturePx (fmt : Nat) (p : Px) : List Byte :=
  if fmt = 0 then leBytes 4 p.word else leBytes 4 (to8 p.b + to8 p.g * 256 + to8 p.r * 65536)

/-- One line of the target frame enters the buffer, protected strips as zeros (R180, R265). (Log 62: DESIGN CHOICE, safe.) -/
def State.captureLine (s : State) (line : Nat) (strips : List (List Px × Bool)) : State :=
  match s.cmp.capture with
  | none => s
  | some cp =>
    match s.cage? cp.cage with
    | none => s
    | some c =>
      let r := Desc.rect c.desc.src
      if !cp.running || line < r.2.1 || r.2.1 + r.2.2.2 ≤ line then s
      else
        let row := strips.flatMap fun e => if e.2 then e.1.map fun _ => Px.zero else e.1
        let hits := (strips.zipIdx.filter fun e => e.1.2 && r.1 < 32 * (e.2 + 1) && 32 * e.2 < r.1 + r.2.2.1).length
        let bytes := ((row.drop r.1).take r.2.2.1).flatMap (capturePx (bitsOf c.desc.param 0 2))
        { s with cmp := { s.cmp with capture := some { cp with buf := cp.buf ++ bytes } } }.bump F.SEAL_CAPT_REDACTED_COUNT hits

/-- CAPTURE_END (R182, R183). -/
def State.captureEnd (s : State) (q : Nat) (target : Word) (out index status : Nat) : State :=
  s.post F.CMP_EVT_RING 0x0401 [(13, q), (32, target.toNat), (32, out), (16, index), (8, status)]

/-- CAPTURE_ENCODE_DONE (R181, R182, R48). -/
def State.captureEncodeDone (s : State) (n : Nat) (c : Cage) (cp : Capture) : State :=
  let d := c.desc
  let len := d.len.toNat
  let e := encodeStream (s.fld F.CMP_ENC_CFG_CHAIN_DEPTH) len (bitOf d.param 4) cp.buf
  let room := if d.dstHost then len else s.localRoom d.dst.toNat len
  let s := s.releaseBuffer
  if room < e.1.length then
    let s := (s.surfWrite d.dst.toNat (e.1.take room)).countOut room
    (s.finish n c stADDRFAULT (len - room)).transferComplete n
  else
    let s := (if d.dstHost then s.hostData d.dst.toNat e.1 else s.surfWrite d.dst.toNat e.1).countOut e.1.length
    let st := if e.2 then stOK else stOUTPUTFULL
    ((s.captureEnd c.queue cp.target e.1.length (s.qHead c.queue) st).finish n c st (len - e.1.length)).transferComplete n

def execCaptureEncodeDone (n : BitVec 5) (s : State) : Host.Outcome State Fault Refusal :=
  let s := s.assignLanes
  .next
    (match s.cage? n.toNat, s.cmp.capture with
     | some c, some cp =>
       if cp.cage = n.toNat && cp.ready && cp.lane.isSome && c.phase = .capturing then
         (s.captureEncodeDone n.toNat c cp).assignLanes
       else s
     | _, _ => s)

end Sys2Proof.Machine
end

