-- ==== Sys2Proof/Machine/Correct.lean ====
section
/-! DEFINITION. Stages 5 and 6 (08): uniformity, aging gain and sampling, dither; map seals. -/

namespace Sys2Proof.Machine

/-! ### Blocks (R186) -/

/-- Blocks per row, and block rows. W is the active width per half. -/
def State.blocksW (s : State) : Nat := s.halfW
def State.blocksH (s : State) : Nat := (s.fld F.SCAN_V_TIMING_V_ACTIVE + 1) / 2

/-- The half that owns a block (R186). -/
def State.blockHalf (s : State) (bx : Nat) : Half := if bx < s.halfW / 2 then .dawn else .dusk

/-! ### Uniformity (R187 to R193) -/

/-- DRAM address of a map bank (R191). -/
def State.mapBase (s : State) (bank : Nat) : Nat :=
  (if bank = 0 then s.fld F.UNI_BASE_FRAME_BANK0 else s.fld F.UNI_BASE_FRAME_BANK1) * frameBytes

/-- The sealed geometry of a bank: BW, BH, MODE. -/
def State.mapGeom (s : State) (bank : Nat) : Nat × Nat × Bool :=
  if bank = 0 then (s.fld F.UNI_BANK0_GEOM_BW, s.fld F.UNI_BANK0_GEOM_BH, s.bit F.UNI_BANK0_GEOM_MODE)
  else (s.fld F.UNI_BANK1_GEOM_BW, s.fld F.UNI_BANK1_GEOM_BH, s.bit F.UNI_BANK1_GEOM_MODE)

/-- Bytes of a bank (R187). -/
def mapBytes (bw bh : Nat) (decimated : Bool) : Nat := bw * bh * (if decimated then 15 else 24)

/-- The sealed geometry of the active bank equals the frame's (R193). -/
def State.uniGeomOk (s : State) : Bool :=
  let g := s.mapGeom (s.fld F.UNI_CTRL_ACTIVE_BANK)
  g.1 == s.blocksW && g.2.1 == s.blocksH

/-- Correction is active in the frame (R193). -/
def State.uniActive (s : State) : Bool := s.domState dDAWN != 0 && s.bit F.UNI_CTRL_UNI_EN && s.uniGeomOk

/-- Plane level k (R189). -/
def State.plane (s : State) : Nat → Nat
  | 0 => s.fld F.UNI_PLANE_A_P0
  | 1 => s.fld F.UNI_PLANE_A_P1
  | 2 => s.fld F.UNI_PLANE_B_P2
  | 3 => s.fld F.UNI_PLANE_B_P3
  | _ => s.fld F.UNI_PLANE_C_P4

/-- Plane weight w[k][ch] (R188). -/
def State.planeWeight (s : State) (k ch : Nat) : Nat :=
  if k = 4 then bitsOf (s.rd R.UNI_WEIGHT_4) (8 * ch) 8
  else bitsOf (s.rd (match ch with | 0 => R.UNI_WEIGHT_R | 1 => R.UNI_WEIGHT_G | _ => R.UNI_WEIGHT_B)) (8 * k) 8

/-- The coarse offsets and the fine offset of a subpixel (R187). -/
def State.mapWord (s : State) (x y ch : Nat) : (Nat → Int) × Int :=
  let bank := s.fld F.UNI_CTRL_ACTIVE_BANK
  let i := (y / 2 * s.blocksW + x / 2) * 3 + ch
  if s.bit F.UNI_CTRL_MODE then
    let bs := s.dramRead (s.mapBase bank + i * 5) 5
    (fun k => signedOf 8 (bs.getD k 0).toNat, 0)
  else
    let w := ofLe (s.dramRead (s.mapBase bank + i * 8) 8)
    (fun k => signedOf 8 (w / 2 ^ (8 * k)), signedOf 6 (w / 2 ^ (40 + 6 * (x % 2 + 2 * (y % 2)))))

/-- The offset at plane k (R188). -/
def planeOffset (c : Nat → Int) (f : Int) (w : Nat → Nat) (k : Nat) : Int := 4 * c k + f * w k / 16

/-- The offset of a value u between the planes (R188). -/
def uniOffset (p : Nat → Nat) (o : Nat → Int) (u : Nat) : Int :=
  if u ≤ p 0 then o 0
  else if p 4 ≤ u then o 4
  else
    let k := if p 3 ≤ u then 3 else if p 2 ≤ u then 2 else if p 1 ≤ u then 1 else 0
    let recip : Int := (65536 / (p (k + 1) - p k) : Nat)
    o k + ((o (k + 1) - o k) * ((u : Int) - p k) * recip + 32768) / 65536

/-- u plus an offset, within 14 bits (R188). -/
def addOffset (u : Nat) (off : Int) : Nat := (min 16383 (max 0 ((u : Int) + off))).toNat

/-! ### Aging gain (R201) -/

/-- DRAM address of a live accumulator (R197). -/
def State.accAddr (s : State) (b ch : Nat) : Nat := s.fld F.AGE_ACC_BASE_LIVE * frameBytes + (b * 3 + ch) * 4
def State.shadowAddr (s : State) (i : Nat) : Nat := s.fld F.AGE_ACC_BASE_SHADOW * frameBytes + i * 4

/-- Compensation acts (R201). -/
def State.compActive (s : State) : Bool := s.domOn dPANEL && s.bit F.AGE_CTRL_COMP_EN && s.bit F.AGE_STATUS_READY

/-- Point i of the gain curve of a channel (R211). -/
def State.gainPoint (s : State) (ch i : Nat) : Nat :=
  let w := s.rd (0x40200 + ch * 0x80 + i / 2 * 4)
  bitsOf w (16 * (i % 2)) 16

/-- The gain of an accumulator value (R201). -/
def State.gainOf (s : State) (ch acc : Nat) : Nat :=
  let pos := min (acc / 2 ^ (s.fld F.AGE_CURVE_SHIFT - 8)) 16128
  let i := min 62 (pos / 256)
  let f := pos - i * 256
  (s.gainPoint ch i * (256 - f) + s.gainPoint ch (i + 1) * f + 128) / 256

/-- The late list names the word of a subpixel: word 3 × bx + ch of a half's block row. -/
def lateHas (l : List LateWord) (h : Half) (bx ch : Nat) : Bool := l.any fun w => w.half == h && w.pos == 3 * bx + ch

/-- Stage 5 of one subpixel at panel column x, line y (R188). -/
def State.stage5 (s : State) (h : Half) (x y ch u : Nat) : Nat :=
  let off : Int :=
    if !s.uniActive || lateHas s.uniLate h (x / 2) ch then 0
    else
      let m := s.mapWord x y ch
      uniOffset s.plane (planeOffset m.1 m.2 fun k => s.planeWeight k ch) u
  let v := addOffset u off
  if s.compActive then
    let g := if lateHas s.age.late h (x / 2) ch then 0x4000
             else s.gainOf ch (ofLe (s.dramRead (s.accAddr (y / 2 * s.blocksW + x / 2) ch) 4))
    min 16383 ((v * g + 8192) / 16384)
  else v

/-! ### Dither (R207, R208) -/

/-- The threshold tile (R207). -/
def ditherTile (x y : Nat) : Nat :=
  let a := (x % 64) ^^^ (y % 64)
  let b := y % 64
  (List.range 6).foldl (fun t i => t + a / 2 ^ i % 2 * 2 ^ (11 - 2 * i) + b / 2 ^ i % 2 * 2 ^ (10 - 2 * i)) 0

/-- The offsets of a phase (R208). -/
def phaseOffset (p : Nat) : Nat × Nat :=
  match p with
  | 0 => (0, 0)
  | 1 => (1, 0)
  | 2 => (1, 1)
  | _ => (0, 1)

/-- The phase of a frame (R208). -/
def State.ditherPhase (s : State) : Nat :=
  if s.bit F.DITH_CTRL_TEMPORAL then (s.rd R.SCAN_FRAME_SEQ).toNat % 4 else 0

/-- Stage 6 of one value with the given settings (R208). -/
def ditherValue (en : Bool) (depth phase x y v : Nat) : Nat :=
  let sh := 14 - depth
  let o := phaseOffset phase
  let add := if en then ditherTile (x + o.1) (y + o.2) / 2 ^ (12 - sh) else 2 ^ (sh - 1)
  min (2 ^ depth - 1) ((v + add) / 2 ^ sh)

/-- Bits per channel that stage 6 leaves (R208). -/
def State.ditherDepth (s : State) : Nat := if s.bit F.DITH_CTRL_DEPTH then 8 else 10

/-- Stage 6 of one subpixel. -/
def State.stage6 (s : State) (x y v : Nat) : Nat :=
  ditherValue (s.bit F.DITH_CTRL_EN) s.ditherDepth s.ditherPhase x y v

/-! ### Sampling (R199, R200) -/

/-- Level-weight node i of a channel (R211). -/
def State.levelNode (s : State) (ch i : Nat) : Nat := bitsOf (s.rd (0x40180 + ch * 0x24 + i / 2 * 4)) (16 * (i % 2)) 16

/-- lw(v) of R199. -/
def State.levelWeight (s : State) (ch v : Nat) : Nat :=
  let i := v / 1024
  let f := v % 1024
  (s.levelNode ch i * (1024 - f) + s.levelNode ch (i + 1) * f + 512) / 1024

/-- The threshold of a block in sample frame n (R199). -/
def ageThr (bx by' n : Nat) : Nat := ((bx * 0x9E37) ^^^ (by' * 0x7F4B) ^^^ (n * 0x2545)) % 65536

/-- The accumulator after one update (R199): `inc` in counts × 65,536. -/
def ageAdd (acc inc thr : Nat) : Nat := min 0xFFFFFFFF (acc + inc / 65536 + (if thr < inc % 65536 then 1 else 0))

/-- Accumulation is active (R199). -/
def State.ageActive (s : State) : Bool :=
  s.domOn dPANEL && s.bit F.AGE_CTRL_SAMPLE_EN && s.bit F.AGE_STATUS_READY && s.bit F.SCAN_STATUS_RUNNING

/-- A line's PCLK cycles count while accumulation is active (R199). (Log 74: DEDUCED, unsafe.) -/
def State.ageCycles (s : State) : State :=
  if s.ageActive then { s with age := { s.age with cycles := s.age.cycles + s.fld F.SCAN_H_TIMING_H_TOTAL } } else s

/-- Update one accumulator of a block from its subpixels' values (R199). (Log 74: DEDUCED, unsafe.) -/
def State.ageUpdate (s : State) (bx by' ch : Nat) (vs : List Nat) : State :=
  let n := vs.length
  let w := ((vs.map (s.levelWeight ch)).foldl (· + ·) 0 + n / 2) / n
  if lateHas s.age.skip (s.blockHalf bx) bx ch then s.bump F.AGE_SKIPPED_COUNT
  else
    let inc := w * s.age.weight * s.age.cycles / 153600000000
    let a := s.accAddr (by' * s.blocksW + bx) ch
    let acc := ofLe (s.dramRead a 4)
    let new := ageAdd acc inc (ageThr bx by' (s.rd R.AGE_SAMPLES).toNat)
    let s := s.dramWrite a (leBytes 4 new)
    if new = 0xFFFFFFFF && acc != 0xFFFFFFFF then
      { s.bump F.AGE_SATURATED_COUNT with age := { s.age with saturated := s.age.saturated + 1 } }
    else s

/-- A line of y2 values of the whole panel, three per pixel, has passed stage 5 in a sample frame (R199). A half that composes
nothing has no values, and its blocks gain nothing. (Log 74: DEDUCED, unsafe.) -/
def State.ageLine (s : State) (y : Nat) (row : List (List Nat)) : State :=
  let s := s.ageCycles
  if !s.age.sampling then s
  else if y % 2 = 0 && y + 1 < s.fld F.SCAN_V_TIMING_V_ACTIVE then { s with age := { s.age with above := row } }
  else
    let up := if y % 2 = 0 then row else s.age.above
    let s := s.each (List.range s.blocksW) fun s bx =>
      if (row.getD (2 * bx) []).isEmpty then s else s.each (List.range 3) fun s ch =>
        let at' (r : List (List Nat)) (x : Nat) : Nat := (r.getD x []).getD ch 0
        let vs := [at' up (2 * bx), at' up (2 * bx + 1)] ++
          (if y % 2 = 0 then [] else [at' row (2 * bx), at' row (2 * bx + 1)])
        s.ageUpdate bx (y / 2) ch vs
    { s with age := { s.age with above := [] } }

/-- The temperature weight of node i (R211). -/
def State.tempNode (s : State) (i : Nat) : Int := (bitsOf (s.rd (0x40150 + i / 2 * 4)) (16 * (i % 2)) 16 : Nat)

/-- Point i of AGE.TEMP_PTS. -/
def State.agePoint (s : State) (k : Nat) : Int :=
  if k < 4 then pointAt (s.rd R.AGE_TEMP_PTS_LO) k else pointAt (s.rd R.AGE_TEMP_PTS_HI) (k - 4)

/-- The temperature weight k of R200, for the temperature used; none means without a reading. -/
def State.ageWeight (s : State) (t? : Option Int) : Nat :=
  match t? with
  | none => (s.tempNode (s.fld F.AGE_TEMP_CFG_FALLBACK_PT)).toNat
  | some t =>
    let pt := s.agePoint
    if t ≤ 8 * pt 0 then (s.tempNode 0).toNat
    else if 8 * pt 7 ≤ t then (s.tempNode 7).toNat
    else
      let i := ((List.range 7).filter fun i => 8 * pt i ≤ t).getLast?.getD 0
      (s.tempNode i + ((s.tempNode (i + 1) - s.tempNode i) * (t - 8 * pt i)).tdiv (8 * (pt (i + 1) - pt i))).toNat

/-- Aging at a frame latch (R199, R200), whose line counts as well. `started`: RUN has gone from 0 to 1.
(Log 74: DEDUCED, unsafe.) -/
def State.ageLatch (s : State) (started : Bool) : State :=
  if !s.domOn dPANEL then s
  else State.ageCycles <|
    let frame := (s.rd R.SCAN_FRAME_SEQ).toNat
    let sat := s.age.saturated
    let s :=
      if s.age.sampling && sat != 0 then (s.raise 0x40 2).post F.AGE_EVT_RING 0x0213 [(32, frame + 2 ^ 32 - 1), (32, sat)] else s
    let s :=
      if s.age.sampling then
        { s with age := { s.age with sampling := false, cycles := 0, latches := 0, saturated := 0, above := [] } }
      else s
    let src := s.fld F.AGE_CTRL_TEMP_SRC
    let r := s.thermReading src
    let last := if r.isSome then r else if started then none else s.age.lastTemp
    let s := { s with age := { s.age with lastTemp := last, latches := s.age.latches + (if s.ageActive then 1 else 0) } }
    if s.ageActive && s.fld F.AGE_INTERVAL_FRAMES ≤ s.age.latches then
      let s := { s with age := { s.age with sampling := true, weight := s.ageWeight (if src = 3 then none else last) } }
      (s.setFld F.AGE_SAMPLES_COUNT (s.fld F.AGE_SAMPLES_COUNT + 1)).setFld F.AGE_LAST_SAMPLE_FRAME frame
    else s

/-! ### Late words (R190, R201) -/

/-- The late words of a block row, which begins with its even line (R190, R201). (Log 52: DESIGN CHOICE, safe.) -/
def State.lateWords (s : State) (line : Nat) (uni age skip : List LateWord) : State :=
  if line % 2 = 1 then s
  else
    let ok (w : LateWord) : Bool := w.pos < 3 * s.blocksW && s.blockHalf (w.pos / 3) == w.half
    let uni := if s.uniActive then uni.filter ok else []
    let age := if s.compActive then age.filter ok else []
    let s := { s with uniLate := uni, age := { s.age with late := age, skip := skip.filter ok } }
    let frame := (s.rd R.SCAN_FRAME_SEQ).toNat
    let s := s.each halves fun s h =>
      let n := (uni.filter fun w => w.half == h).length
      let a := (age.filter fun w => w.half == h).length
      let f := s.halfFrame h
      let s := s.setHalfFrame h { f with
        uniFirst := if f.uniCount = 0 && n != 0 then line else f.uniFirst, uniCount := f.uniCount + n,
        ageCount := f.ageCount + a }
      if n = 0 then s
      else ((s.bump (F.UNI_LATE_WORDS_COUNT h) n).setFld (F.UNI_LATE_LAST_LINE h) line).setFld (F.UNI_LATE_FRAME_FRAME h) frame
    s.bump F.AGE_LATE_WORDS_COUNT age.length

/-- UNI_LATE and AGE_LATE of the frame that ended, and the status of the new one (R190, R193, R201, R209). -/
def State.correctLatch (s : State) (ended : Word) : State :=
  let s := s.each halves fun s h =>
    let f := s.halfFrame h
    if f.uniCount = 0 || !s.domOn (halfDomain h) then s
    else
      (s.raise (halfPage 0x24 h) 0).post F.UNI_EVT_RING 0x0211
        [(1, halfNum h), (14, f.uniFirst), (32, ended.toNat), (32, f.uniCount)]
  let n := s.scan.dawn.ageCount + s.scan.dusk.ageCount
  let s := if n = 0 || !s.domOn dPANEL then s else (s.raise 0x40 1).post F.AGE_EVT_RING 0x0212 [(32, ended.toNat), (32, n)]
  let s := s.each halves fun s h =>
    s.setHalfFrame h { s.halfFrame h with uniFirst := 0, uniCount := 0, ageFirst := 0, ageCount := 0 }
  let s := { s with uniLate := [], age := { s.age with late := [], skip := [] } }
  s.each halves fun s h =>
    if !s.domOn (halfDomain h) then s
    else
      let s := (s.setFld (F.UNI_STATUS_BANK h) (s.fld F.UNI_CTRL_ACTIVE_BANK)).setBit (F.UNI_STATUS_ACTIVE h) s.uniActive
      (s.setBit (F.UNI_STATUS_GEOM_OK h) s.uniGeomOk).setFld (F.DITH_STATUS_PHASE h) s.ditherPhase

/-! ### Map seals (R192) -/

/-- A change of ACTIVE_BANK is staged or pending (R191, R192). -/
def State.mapSwitchPending (s : State) : Bool :=
  let b := s.rd R.UNI_CTRL
  let changes (v : Word) : Bool := bitOf v 2 != bitOf b 2
  (match SMap.find? s.txn.direct R.UNI_CTRL with | some v => changes v | none => false) ||
    (s.txn.arrived ++ s.txn.merging).any fun n =>
      (SMap.get slotDefault s.txn.slots n).writes.any fun w => w.off == R.UNI_CTRL && changes w.v

/-- Start the seal of the staging bank (R192). -/
def State.startUniSeal (s : State) (mode : Bool) : State :=
  if s.bit F.UNI_STAGE_STATUS_BUSY || s.mapSwitchPending then s
  else
    { s.setFld F.UNI_STAGE_STATUS_BUSY 1 with
      uniSeal := some ⟨1 - s.fld F.UNI_CTRL_ACTIVE_BANK, mode, s.blocksW, s.blocksH⟩ }

/-- UNI_SEAL (R192): STAGE_CMD with SEAL = 1. -/
def execUniSeal (v : Word) (s : State) : Host.Outcome State Fault Refusal :=
  .next (s.hostWriteTo R.UNI_STAGE_CMD fun s => if bitOf v 0 then s.startUniSeal (bitOf v 1) else s)

/-- The CRC of a map bank (R192). -/
def State.mapCrc (s : State) (bank bw bh : Nat) (mode : Bool) : Word :=
  crc32c (s.dramRead (s.mapBase bank) (mapBytes bw bh mode))

/-- UNI_SEAL_DONE (R192). -/
def State.uniSealDone (s : State) : State :=
  match s.uniSeal with
  | none => s
  | some u =>
    let c := s.mapCrc u.bank u.bw u.bh u.mode
    let s := { s.setFld F.UNI_STAGE_STATUS_BUSY 0 with uniSeal := none }
    let s :=
      if u.bank = 0 then
        ((((s.setFld F.UNI_BANK0_CRC_CRC c.toNat).setFld F.UNI_BANK0_GEOM_BW u.bw).setFld F.UNI_BANK0_GEOM_BH u.bh).setBit
          F.UNI_BANK0_GEOM_MODE u.mode)
      else
        ((((s.setFld F.UNI_BANK1_CRC_CRC c.toNat).setFld F.UNI_BANK1_GEOM_BW u.bw).setFld F.UNI_BANK1_GEOM_BH u.bh).setBit
          F.UNI_BANK1_GEOM_MODE u.mode)
    let s := s.setFld F.UNI_STAGE_STATUS_SEALED (s.fld F.UNI_STAGE_STATUS_SEALED ||| 2 ^ u.bank)
    (s.raise 0x24 1).post F.UNI_EVT_RING 0x0210 [(1, u.bank), (1, b2n u.mode), (32, c.toNat)]

def execUniSealDone (s : State) : Host.Outcome State Fault Refusal := .next s.uniSealDone

end Sys2Proof.Machine
end

