-- ==== Sys2Proof/Machine/Link.lean ====
section
/-! DEFINITION. SahkanLink (09, R213 to R231, R238, R239) and the gate outputs (R233 to R236). -/

namespace Sys2Proof.Machine

def laneDefault (_ : Nat) : LaneHid := LaneHid.init

def State.lane (s : State) (n : Nat) : LaneHid := SMap.get laneDefault s.link.lanes n

def State.setLane (s : State) (n : Nat) (x : LaneHid) : State :=
  { s with link := { s.link with lanes := SMap.set laneDefault s.link.lanes n x } }

/-- Number of lanes (R213). -/
abbrev lanes : Nat := 48

/-- Lane states (R229). -/
abbrev laneOFF : Nat := 0
abbrev laneTRAIN : Nat := 1
abbrev laneRUN : Nat := 2
abbrev laneFAULT : Nat := 3

def State.laneState (s : State) (n : Nat) : Nat := s.fld (F.LINK_LANE_STATE_STATE n)
def State.setLaneState (s : State) (n v : Nat) : State := s.setFld (F.LINK_LANE_STATE_STATE n) v

/-- The lanes in RUN. -/
def State.runLanes (s : State) : List Nat := (List.range lanes).filter fun n => s.laneState n == laneRUN

/-- The mask of the lanes in RUN. -/
def State.runMask (s : State) : Nat := s.runLanes.foldl (fun a n => a + 2 ^ n) 0

/-! ### Coding (R215 to R220) -/

/-- The scrambler of R215 over one body, bit 0 first: `st` holds the last 58 bits sent, the newest in bit 0. -/
def scrambleGo : Nat → Nat → Nat → List Bool → Nat × List Bool
  | 0, st, _, acc => (st, acc.reverse)
  | n + 1, st, body, acc =>
    let b := (body % 2 + st / 2 ^ 38 + st / 2 ^ 57) % 2
    scrambleGo n ((st * 2 + b) % 2 ^ 58) (body / 2) ((b == 1) :: acc)

/-- The 64 bits sent for a body, and the scrambler after it. (Log 77: DESIGN CHOICE, safe.) -/
def scramble (st : Nat) (body : DWord) : Nat × List Bool := scrambleGo 64 st body.toNat []

/-- The words of a string of block bits: 64 bits to a word, bit 0 first (R216). -/
def bodyWords : Nat → List Bool → List DWord
  | 0, _ => []
  | n + 1, bs => BitVec.ofNat 64 (ofBits (bs.take 64)) :: bodyWords n (bs.drop 64)

/-- The 16 bodies of a data block (R217, R218): its header and its 96 payload fields. -/
def dataBlock (index : Nat) (resend hold : Bool) (tag : Nat) (payload : List Nat) : List DWord :=
  let hdr := index % 64 + b2n resend * 64 + b2n hold * 128 + tag % 8 * 256
  let bits := bitsLsb 16 hdr ++ payload.flatMap (bitsLsb 10)
  let crc := crc16 (packBits 123 bits)
  bodyWords 16 (bits ++ bitsLsb 16 crc.toNat ++ List.replicate 32 false)

/-- The 8 bodies of a control packet (R220). -/
def ctlPacket (op arg : Nat) : List DWord :=
  (List.range 8).map fun copy =>
    let c := op % 256 + copy * 256 + arg % 2 ^ 24 * 65536
    let ccrc := crc16 (leBytes 5 c)
    BitVec.ofNat 64 (0x78 + (c + ccrc.toNat * 2 ^ 40) * 256)

/-- Length of a word in eighths of a PCLK cycle, by RATE (R214). -/
def wordTime (rate : Nat) : Nat := if rate = 2 then 33 else if rate = 1 then 66 else 132

/-- The words IDLE and TS1 (R215). -/
def idleWord : DWord := 0x1E
def trainWord : DWord := 0x4B4B4B4B4B4B4B2D

/-- A lane's scrambler stands where the words that are not listed have left it: a free value. -/
def State.seedLane (s : State) (n : Nat) : State :=
  let a := s.draw
  let b := a.2.draw
  b.2.setLane n { b.2.lane n with scr := (a.1.toNat + b.1.toNat * 2 ^ 32) % 2 ^ 58 }

/-- Words with one sync header go out on a lane, scrambled, back to back (R215); a latched pad stays at electrical idle
(R310). (Log 77: DESIGN CHOICE, safe.) -/
def State.laneSend (s : State) (n : Nat) (hdr : BitVec 2) (ws : List DWord) : State :=
  let s := if (s.lane n).synced || ws.isEmpty then s else s.seedLane n
  let x := s.lane n
  let r := ws.foldl
    (fun (a : Nat × List Out) w =>
      let e := scramble a.1 w
      (e.1, Out.laneWord n hdr (BitVec.ofNat 64 (ofBits e.2)) :: a.2)) (x.scr, [])
  { s.setLane n { x with scr := r.1, free := x.free + ws.length * wordTime (s.fld F.LINK_CTRL_RATE) } with
    sent := (if s.padHeld dLINK then [] else r.2) ++ s.sent }

/-- Send the words of a data block on a lane. -/
def State.sendData (s : State) (n : Nat) (ws : List DWord) : State := s.laneSend n 1#2 ws

/-- Send a control packet on a lane. -/
def State.sendCtl (s : State) (n op arg : Nat) : State := s.laneSend n 2#2 (ctlPacket op arg)

/-- IDLE words up to the first word boundary at or after a time (R221). -/
def State.idleTo (s : State) (n t : Nat) : State :=
  let tw := wordTime (s.fld F.LINK_CTRL_RATE)
  s.laneSend n 2#2 (List.replicate ((t - (s.lane n).free + tw - 1) / tw) idleWord)

/-- How many words go out from here on is not known. -/
def State.unsync (s : State) (ns : List Nat) : State := s.each ns fun s n => s.setLane n { s.lane n with synced := false }

/-- The payload fields of block `j` of the driver whose configuration is `w` (R214, R217, R219). -/
def LinkLine.payload (l : LinkLine) (w : Word) (j : Nat) : List Nat :=
  (List.range 96).map fun k =>
    let c := 96 * j + k
    let v := (l.pixels.getD ((laneSpan w).1 + c / 3) []).getD (c % 3) 0
    if l.depth8 then v * 4 else v

/-- The configuration word of the driver that a lane serves (R214). -/
def LinkLine.driver (l : LinkLine) (n : Nat) : Word :=
  let cfg (m : Nat) : Word := l.cfgs.getD m 0
  if laneDrives cfg n then cfg n else cfg (n - 1)

/-- The data of a block never come: its half composes nothing (R222, R297). -/
def LinkLine.missing (l : LinkLine) (n j : Nat) : Bool := (l.pixels.getD ((laneSpan (l.driver n)).1 + 32 * j) []).isEmpty

/-- Send one block of a line on a lane; without its data it goes on HOLD. -/
def State.sendBlock (s : State) (l : LinkLine) (n j : Nat) (resend hold : Bool) : State :=
  let hold := hold || l.missing n j
  let pay := if hold then List.replicate 96 0 else l.payload (l.driver n) j
  s.sendData n (dataBlock j resend hold l.line pay)

/-! ### The link line (R221, R222, R226, R227) -/

/-- Blocks are being sent: RUN is 1 and HALT is 0 (R231). -/
def State.linkSends (s : State) : Bool := s.bit F.SCAN_CTRL_RUN && !s.bit F.LINK_CTRL_HALT

/-- A SOURCE_MODE packet on every lane in RUN (R231). (Log 81: DEDUCED, unsafe.) -/
def State.sendAll (s : State) (m : Nat) : State :=
  if s.runLanes.isEmpty then s
  else (s.each s.runLanes fun s n => s.sendCtl n 0x03 m).setFld F.LINK_STATUS_SRC_MODE m

/-- SOURCE_MODE goes at once, between words that are not counted. -/
def State.sendMode (s : State) (m : Nat) : State := ((s.unsync s.runLanes).sendAll m).unsync s.runLanes

/-- A link line without blocks starts: a SOURCE_MODE that waits is sent (R231). -/
def State.flushMode (s : State) : State :=
  match s.link.mode with
  | some m => { s with link := { s.link with mode := none } }.sendAll m
  | none => s

/-- The data of block `j` are not complete when its slot begins at `t` of the link line (R222): they are so at cycle
158 + x / 4 of the scan line, `x` being the local column of its first pixel. -/
def LinkLine.lateAt (l : LinkLine) (n j t : Nat) : Bool :=
  let x := ((laneSpan (l.driver n)).1 + 32 * j) % max 1 (l.pixels.length / 2)
  l.missing n j || 8 * l.start + t < 8 * (158 + x / 4)

/-- A lane comes to link cycle 0 of a new line, the line before it having lasted `prev` cycles: it ends that line with IDLE
words. Where the words before are not known, its first word boundary is a free value. (Log 77: DESIGN CHOICE, safe.) -/
def State.laneStart (s : State) (prev n : Nat) : State :=
  if (s.lane n).synced then
    let s := s.idleTo n (8 * prev)
    s.setLane n { s.lane n with free := (s.lane n).free - 8 * prev }
  else
    let s := s.seedLane n
    let d := s.draw
    d.2.setLane n { d.2.lane n with free := d.1.toNat % wordTime (s.fld F.LINK_CTRL_RATE), synced := true }

/-- The first pass of one lane (R221, R222): blocks back to back from the first word boundary on, late ones on HOLD and queued
as their slots begin. -/
def State.lanePass (s : State) (l : LinkLine) (n : Nat) : State :=
  let tb := 16 * wordTime (s.fld F.LINK_CTRL_RATE)
  let t0 := (s.lane n).free
  let bs := (laneBlocks (fun m => l.cfgs.getD m 0) n).zipIdx.map fun e => (e.1, t0 + e.2 * tb)
  let s := s.each bs fun s e => s.sendBlock l n e.1 false (l.lateAt n e.1 e.2)
  let x := s.lane n
  let q := bs.filter fun e => l.lateAt n e.1 e.2
  let x := { x with queue := q, resent := 0, inLine := true,
                    waiting := (x.waiting.map fun w => { w with closed := true }) ++
                      bs.map fun e => ⟨l.line, e.1, e.2 + 2 * tb, false, false⟩ }
  let s := s.setLane n x
  let s := { s with link := { s.link with late := s.link.late + q.length } }
  s.bump F.LINK_LATE_BLOCKS_COUNT q.length

/-- LINK_LINE_START (R221, R231): the link line of a scan line, the oldest that has none, begins; one of vertical blanking,
and any while no blocks are being sent, carries none. (Log 2: DESIGN CHOICE, safe.) -/
def State.linkLineStart (s : State) (line : Nat) : State :=
  if !s.domOn dLINK then s
  else
    match s.link.lines with
    | [] => { s with link := { s.link with cur := none } }.flushMode
    | l :: rest =>
      if l.line ≠ line then s else
      let s := s.each s.runLanes (State.laneStart · s.link.len)
      let carries := s.linkSends && !l.blank
      let s := { s with link := { s.link with lines := rest, len := l.len, cur := if carries then some l else none } }
      if carries then s.each s.runLanes fun s n => s.lanePass l n else s.flushMode

def execLinkLineStart (line : Nat) (s : State) : Host.Outcome State Fault Refusal := .next (s.linkLineStart line)

/-- The first word boundary of a lane at or after a time. -/
def LaneHid.boundary (x : LaneHid) (tw t : Nat) : Nat := x.free + (t - x.free + tw - 1) / tw * tw

/-- Re-send queued blocks while the lane is free before `limit` and time and budget allow (R226). -/
def resendGo (l : LinkLine) (tw n limit : Nat) : Nat → State → State
  | 0, s => s
  | fuel + 1, s =>
    let x := s.lane n
    match x.queue with
    | [] => s
    | (j, from') :: rest =>
      let t := x.boundary tw from'
      if t < limit && x.resent < l.resendMax && t + 16 * tw ≤ 8 * l.loadPos then
        let s := (s.idleTo n t).sendBlock l n j true false
        let x := s.lane n
        let x := { x with queue := rest, resent := x.resent + 1,
                          waiting := x.waiting ++ [⟨l.line, j, t + 32 * tw, false, false⟩] }
        let s := ((s.setLane n x).bump F.LINK_RESENDS_COUNT).bump (F.LINK_LANE_RESENDS_COUNT n)
        resendGo l tw n limit fuel s
      else s

def State.resendUpTo (s : State) (l : LinkLine) (n limit : Nat) : State :=
  resendGo l (wordTime (s.fld F.LINK_CTRL_RATE)) n limit 9 s

/-- A block joins the queue of its lane at its time: late blocks whose slots begin later stay behind it (R226). -/
def queueBlock (q : List (Nat × Nat)) (j t : Nat) : List (Nat × Nat) :=
  q.takeWhile (fun e => e.2 ≤ t) ++ (j, t) :: q.dropWhile (fun e => e.2 ≤ t)

/-- A block is unrecovered (R227). -/
def State.unrecovered (s : State) (n line : Nat) : State :=
  let k := s.link
  let k := if k.unrec = 0 then { k with firstLane := n, firstLine := line } else k
  let s := { s with link := { k with unrec := k.unrec + 1 } }
  let x := s.lane n
  ((s.setLane n { x with unrec := x.unrec + 1 }).bump F.LINK_UNRECOVERED_COUNT).bump (F.LINK_LANE_UNREC_COUNT n)

/-- LINK_LANE_FAULT (R228). -/
def State.laneFault (s : State) (n cause : Nat) (frame : Word) : State :=
  ((s.setFld (F.LINK_LANE_STATE_CAUSE n) cause).raise 0x41 1).post F.LINK_EVT_RING 0x0503
    [(6, n), (4, cause), (32, frame.toNat)]

/-- The samples of a line have all been taken: lines of only high samples are counted (R228). -/
def State.lineSampled (s : State) (n : Nat) : State :=
  let x := s.lane n
  if !x.sampled then s
  else
    let stuck := if x.allHigh then x.stuck + 1 else 0
    let s := s.setLane n { x with stuck := stuck, allHigh := true, sampled := false }
    if s.fld F.LINK_ERR_CFG_STUCK_LINES ≤ stuck && !s.bit (F.LINK_LANE_STATE_NACK_MASKED n) then
      (s.setFld (F.LINK_LANE_STATE_NACK_MASKED n) 1).laneFault n 1 (s.rd R.SCAN_FRAME_SEQ)
    else s

/-- NACK_SAMPLE (R225 to R228): the level that the oldest block without a sample gets. -/
def State.nackSample (s : State) (n : Nat) (level : Bool) : State :=
  let s := s.setBit (F.LINK_LANE_STATE_NACK_PIN n) level
  if s.laneState n != laneRUN then s
  else
    match (s.lane n).waiting with
    | [] => s
    | b :: _ =>
      let s := if b.closed then s else (match s.link.cur with | some l => s.resendUpTo l n b.due | none => s)
      let x := s.lane n
      let rest := x.waiting.drop 1
      let masked := s.bit (F.LINK_LANE_STATE_NACK_MASKED n)
      let x := { x with waiting := rest, allHigh := x.allHigh && level, sampled := true }
      let s :=
        if level && !masked && !b.closed then s.setLane n { x with queue := queueBlock x.queue b.index b.due }
        else
          let s := s.setLane n x
          let last := !(rest.any fun w => w.line == b.line && w.index == b.index)
          if level && !masked && last && !b.counted then s.unrecovered n b.line else s
      if rest.any fun w => w.line == b.line then s
      else if b.closed then s.lineSampled n
      else s

def execNackSample (n : BitVec 6) (level : Bool) (s : State) : Host.Outcome State Fault Refusal :=
  .next (if s.domOn dLINK && n.toNat < lanes then s.nackSample n.toNat level else s)

/-- A link line is in progress: some lane has not sent its LOAD yet (R221). -/
def State.lineInProgress (s : State) : Bool := s.link.cur.isSome && (List.range lanes).any fun n => (s.lane n).inLine

/-- Step 2 of power-down begins (R251): SOURCE_MODE VCOM on every lane in RUN. -/
def State.panelVcom (s : State) : State :=
  (if s.domOn dLINK then s.sendMode 1 else s).setFld F.HVD_PANEL_STATUS_STEP 2

/-- Step 1 of power-down ends with the link line in progress (R251). -/
def State.panelLineEnd (s : State) : State :=
  if s.fld F.HVD_PANEL_STATUS_STATE = 3 && s.fld F.HVD_PANEL_STATUS_STEP = 1 && !s.lineInProgress then s.panelVcom else s

/-- Step 5 of power-up ends with LINK_TRAINED (R250): SOURCE_MODE NORMAL goes at once. -/
def State.panelTrained (s : State) : State :=
  if s.fld F.HVD_PANEL_STATUS_STATE = 1 && s.fld F.HVD_PANEL_STATUS_STEP = 5 && !s.bit F.LINK_STATUS_TRAINING then
    (if s.domOn dLINK then s.sendMode 0 else s).setFld F.HVD_PANEL_STATUS_STEP 6
  else s

/-- No blocks are being sent any more, and no line is in progress: a SOURCE_MODE that waits goes at once (R231). -/
def State.modeDue (s : State) : State :=
  match s.link.mode with
  | some m => if s.linkSends || s.lineInProgress then s else { s with link := { s.link with mode := none } }.sendMode m
  | none => s

/-- LINK_LOAD (R221, R226, R227): the last re-sends that fit, LOAD, and every block still queued is unrecovered. -/
def State.linkLoad (s : State) (n : Nat) : State :=
  match s.link.cur with
  | none => s
  | some l =>
    if !(s.lane n).inLine || s.laneState n != laneRUN then s
    else
      let s := s.resendUpTo l n (8 * l.loadPos + 1)
      let s := (s.idleTo n (8 * l.loadPos)).sendCtl n 0x01 (l.line % 8)
      let x := s.lane n
      let js := (x.queue.map (·.1)).eraseDups
      let close (w : SentBlock) : SentBlock :=
        { w with closed := true, counted := w.counted || (w.line == l.line && !w.closed && js.contains w.index) }
      let s := s.setLane n { x with queue := [], inLine := false, waiting := x.waiting.map close }
      let s := s.each js fun s _ => s.unrecovered n l.line
      (if x.waiting.isEmpty then s.lineSampled n else s).modeDue

def execLinkLoad (n : BitVec 6) (s : State) : Host.Outcome State Fault Refusal :=
  .next (if s.domOn dLINK && n.toNat < lanes then (s.linkLoad n.toNat).panelLineEnd else s)

/-- A scan line goes to the lanes, with the LINK settings of its frame (R107, R221). -/
def State.linkPush (s : State) (line : Nat) (blank : Bool) (pixels : List (List Nat)) : State :=
  if !s.domOn dLINK then s
  else
    let l : LinkLine :=
      ⟨line, blank, pixels, s.fld F.LINK_LINE_CFG_START, s.fld F.LINK_LINE_CFG_LOAD_POS, s.fld F.SCAN_H_TIMING_H_TOTAL,
        s.fld F.LINK_RESEND_MAX, s.bit F.LINK_CTRL_DEPTH, (List.range lanes).map s.laneCfg⟩
    { s with link := { s.link with lines := s.link.lines ++ [l] } }

/-- RUN is 0: no block and no LOAD goes any more, and a SOURCE_MODE that waits goes at once (R231). (Log 143: DEDUCED, unsafe.) -/
def State.linkStop (s : State) : State :=
  let quiet (x : LaneHid) : LaneHid :=
    { x with queue := [], inLine := false, synced := false, waiting := x.waiting.map fun w => { w with closed := true } }
  let s := { s with link := { s.link with lines := [], cur := none, len := 0 } }
  (s.each (List.range lanes) fun s n => s.setLane n (quiet (s.lane n))).modeDue

/-- LINK at the latch that ends a frame (R227, R228, R238). -/
def State.linkLatch (s : State) (ended : Word) : State :=
  if !s.domOn dLINK then s
  else
    let k := s.link
    let s :=
      if k.unrec = 0 then s
      else (s.raise 0x41 0).post F.LINK_EVT_RING 0x0500 [(6, k.firstLane), (14, k.firstLine), (32, ended.toNat), (32, k.unrec)]
    let s := if k.late = 0 then s else (s.raise 0x41 4).post F.LINK_EVT_RING 0x0504 [(32, ended.toNat), (32, k.late)]
    let s := s.each (List.range lanes) fun s n =>
      let x := s.lane n
      if x.unrec = 0 then s
      else
        let s := s.setLane n { x with unrec := 0 }
        if s.fld F.LINK_ERR_CFG_UNREC_LIMIT ≤ x.unrec then s.laneFault n 2 ended else s
    { s with link := { s.link with unrec := 0, late := 0, firstLane := 0, firstLine := 0 } }

/-! ### Training (R229, R230) -/

/-- The lanes that a training command trains (R230). -/
def State.trainable (s : State) : List Nat :=
  (List.range lanes).filter fun n =>
    let idle := s.laneState n == laneOFF || s.laneState n == laneFAULT
    let partner := n % 2 == 1 && bitOf (s.laneCfg (n - 1)) 0 && bitOf (s.laneCfg (n - 1)) 1
    idle && (partner || (bitOf (s.laneCfg n) 0))

/-- The training command ends when no lane of it trains any more (R230). -/
def State.trainEnd (s : State) : State :=
  if !s.bit F.LINK_STATUS_TRAINING || s.link.training.any fun n => s.laneState n == laneTRAIN then s
  else
    let s := { s.setFld F.LINK_STATUS_TRAINING 0 with link := { s.link with training := [] } }
    ((s.raise 0x41 2).post F.LINK_EVT_RING 0x0501
      [(32, s.runMask), (16, s.runMask / 2 ^ 32), (2, s.fld F.LINK_CTRL_RATE)]).panelTrained

/-- A lane leaves electrical idle and sends TS1 words (R230, step 1): the first is listed, and they go on until the next word
listed for the lane. Its unrecovered blocks of the frame stay counted (R228). (Log 77: DESIGN CHOICE, safe.) -/
def State.trainStart (s : State) (n attempts : Nat) : State :=
  (s.setLane n { LaneHid.init with attempts := attempts, unrec := (s.lane n).unrec }).laneSend n 2#2 [trainWord]

/-- GO (R230). -/
def State.trainGo (s : State) : State :=
  if s.bit F.LINK_STATUS_TRAINING then s
  else
    let ls := s.trainable
    let s := { s.setFld F.LINK_STATUS_TRAINING 1 with link := { s.link with training := ls } }
    let s := s.each ls fun s n => (s.setLaneState n laneTRAIN).trainStart n 1
    s.trainEnd

/-- STOP (R229): every lane to OFF at once, even inside a block. Unrecovered blocks of the frame stay counted (R228).
(Log 78: DEDUCED, unsafe.) -/
def State.trainStop (s : State) : State :=
  let s := s.each (List.range lanes) fun s n =>
    (s.setLaneState n laneOFF).setLane n { LaneHid.init with unrec := (s.lane n).unrec }
  s.trainEnd

/-- A write to TRAIN_CMD (R229, R230, R249): GO, then STOP where both are set. (Log 78: DEDUCED, unsafe.) -/
def State.trainCmdWrite (s : State) (v : Word) : State :=
  if !bitOf v 0 && !bitOf v 1 then s
  else if s.panelOwns then s.refuseCommand R.LINK_TRAIN_CMD v
  else
    let s := if bitOf v 0 then s.trainGo else s
    if bitOf v 1 then s.trainStop else s

/-- TRAIN_GO (R230): TRAIN_CMD with GO = 1. -/
def execTrainGo (v : Word) (s : State) : Host.Outcome State Fault Refusal :=
  .next (s.hostWriteTo R.LINK_TRAIN_CMD fun s => if bitOf v 0 then s.trainCmdWrite v else s)

/-- TRAIN_STOP (R229): TRAIN_CMD with STOP = 1. -/
def execTrainStop (v : Word) (s : State) : Host.Outcome State Fault Refusal :=
  .next (s.hostWriteTo R.LINK_TRAIN_CMD fun s => if bitOf v 1 then s.trainCmdWrite v else s)

/-- A training attempt of a lane fails (R230). (Log 79: DEDUCED, unsafe.) -/
def State.trainFail (s : State) (n cause : Nat) : State :=
  let x := s.lane n
  let s := s.setFld (F.LINK_LANE_STATE_CAUSE n) cause
  if x.attempts < 3 then s.trainStart n (x.attempts + 1)
  else
    (((s.setLaneState n laneFAULT).setLane n { LaneHid.init with unrec := x.unrec }).raise 0x41 3).post F.LINK_EVT_RING 0x0502 [(6, n), (4, cause)] |>.trainEnd

/-- `n` payload fields of the part's own pseudo-random sequence, whose values the spec does not state: free values. -/
def State.testPayload (s : State) (n : Nat) : List Nat × State :=
  ((List.range n).map fun i => (Config.freeWord (s.freeCtr + i)).toNat % 1024, { s with freeCtr := s.freeCtr + n })

/-- One test block: HOLD = 1 (R230, step 4); its line's tag is a free value. -/
def State.testBlock (s : State) (n tag j : Nat) : State :=
  let p := s.testPayload 96
  p.2.sendData n (dataBlock j false true tag p.1)

/-- One link line of test blocks, with no re-send and no LOAD (R230, step 4). -/
def State.testLine (s : State) (n : Nat) : State :=
  let d := s.draw
  let len := 8 * d.2.fld F.SCAN_H_TIMING_H_TOTAL
  let s := (d.2.each (laneBlocks d.2.laneCfg n) fun s j => s.testBlock n (d.1.toNat % 8) j).idleTo n len
  s.setLane n { s.lane n with free := (s.lane n).free - len }

/-- LANE_LOCK (R230 steps 2 to 4): LINK_NACK has been low; the CONFIG packet of the lane's driver, and the test lines.
(Log 77: DESIGN CHOICE, safe.) -/
def execLaneLock (n : BitVec 6) (s : State) : Host.Outcome State Fault Refusal :=
  let k := n.toNat
  .next
    (if s.domOn dLINK && k < lanes && s.laneState k == laneTRAIN && !(s.lane k).testing then
       let drives := laneDrives s.laneCfg k
       let w := if drives then s.laneCfg k else s.laneCfg (k - 1)
       let arg := bitsOf w 16 6 + b2n (bitOf w 1) * 64 + b2n (!drives) * 128 + b2n (s.bit F.LINK_CTRL_DEPTH) * 256
       let s := (s.setBit (F.LINK_LANE_STATE_NACK_PIN k) false).seedLane k
       let d := s.draw
       let s := d.2.setLane k { d.2.lane k with testing := true, synced := true, free := d.1.toNat % wordTime (s.fld F.LINK_CTRL_RATE) }
       let s := s.sendCtl k 0x02 arg
       let s := s.setLane k { s.lane k with free := (s.lane k).free % wordTime (s.fld F.LINK_CTRL_RATE) }
       (s.each (List.range (s.fld F.LINK_TRAIN_CFG_TEST_LINES)) fun s _ => s.testLine k).unsync [k]
     else s)

/-- LANE_LOCK_TIMEOUT (R230 step 2). -/
def execLaneLockTimeout (n : BitVec 6) (s : State) : Host.Outcome State Fault Refusal :=
  let k := n.toNat
  .next
    (if s.domOn dLINK && k < lanes && s.laneState k == laneTRAIN && !(s.lane k).testing then s.trainFail k 1 else s)

/-- LANE_TEST_DONE (R230 step 5, R228). (Log 79: DEDUCED, unsafe.) -/
def execLaneTestDone (n : BitVec 6) (highs : Nat) (s : State) : Host.Outcome State Fault Refusal :=
  let k := n.toNat
  .next
    (if s.domOn dLINK && k < lanes && s.laneState k == laneTRAIN && (s.lane k).testing then
       if highs ≤ s.fld F.LINK_TRAIN_CFG_TEST_NACK_MAX then
         (((s.setLaneState k laneRUN).setFld (F.LINK_LANE_STATE_NACK_MASKED k) 0).setLane k
           { LaneHid.init with unrec := (s.lane k).unrec }).trainEnd
       else s.trainFail k 2
     else s)

/-- SOURCE_MODE is requested (R231): it waits for a link line without blocks while blocks are being sent or a line is in
progress. (Log 81: DEDUCED, unsafe.) -/
def State.requestMode (s : State) (m : Nat) : State := { s with link := { s.link with mode := some m } }.modeDue

def State.ctlCmdGo (s : State) (v : Word) : State :=
  if !bitOf v 31 then s
  else if bitsOf v 0 2 = 3 then s.refuseCommand R.LINK_CTL_CMD v
  else s.requestMode (bitsOf v 0 2)

/-- A write to CTL_CMD (R231, R249). -/
def State.ctlCmdWrite (s : State) (v : Word) : State :=
  if s.panelOwns then s.refuseCommand R.LINK_CTL_CMD v else s.ctlCmdGo v

/-- CTL_CMD_GO (R231, R249). -/
def execCtlCmdGo (v : Word) (s : State) : Host.Outcome State Fault Refusal :=
  .next (s.hostWriteTo R.LINK_CTL_CMD fun s => s.ctlCmdWrite v)

/-- Every active column is covered exactly once (R223). -/
def State.linkCover (s : State) : Bool :=
  let w := 2 * s.halfW
  let spans := ((List.range lanes).filter fun n => laneDrives s.laneCfg n).map fun n => laneSpan (s.laneCfg n)
  (List.range (w / 32)).all fun b =>
    (spans.filter fun p => p.1 ≤ 32 * b && 32 * b < p.1 + p.2).length == 1

/-- The LINK domain leaves ON (R229): every lane is OFF, and nothing is on its way. -/
def State.linkLost (s : State) : State := { s with link := Link.init }

/-- LINK is gated: its lanes leave RUN as on STOP (R229). -/
def State.linkGated (s : State) : State := s.trainStop.linkLost

/-! ### Gate outputs (R233 to R236) -/

/-- A gate clock, start pulse or reset output: side 0 left, 1 right. -/
inductive GateOut where
  | gck (side n : Nat)
  | stv (side k : Nat)
  | grst (side : Nat)
deriving DecidableEq, Repr

/-- The level of a clock after gate line `g` at cycle `cyc`, coming in with `level` (R235). -/
def clockEdge (rise fall : Option Nat) (cyc : Nat) (level : Bool) : Bool :=
  match rise.filter (· ≤ cyc), fall.filter (· ≤ cyc) with
  | none, none => level
  | some _, none => true
  | none, some _ => false
  | some r, some f => f < r

/-- The level of gate clock registers `i` in gate line `g` at a cycle (R235). -/
def State.clockLevel (s : State) (i : Nat) (g : Int) (cyc : Nat) : Bool :=
  let first := signedOf 8 (s.fld F.GATE_VWIN_FIRST)
  let last : Int := s.fld F.GATE_VWIN_LAST
  let p : Int := max 1 (s.fld F.GATE_PERIOD_LINES)
  let rise (x : Int) : Option Nat := if x % p = s.fld (F.GATE_GCK_RISE_LINE i) then some (s.fld (F.GATE_GCK_RISE_CYCLE i)) else none
  let fall (x : Int) : Option Nat := if x % p = s.fld (F.GATE_GCK_FALL_LINE i) then some (s.fld (F.GATE_GCK_FALL_CYCLE i)) else none
  if g < first || last < g then false
  else
    let before := (List.range (g - first).toNat).foldl (fun l k => clockEdge (rise (first + k)) (fall (first + k)) 0xFFFFFFFF l) false
    clockEdge (rise g) (fall g) cyc before

/-- The level of a pulse that rises and falls once per frame (R236). -/
def pulseLevel (rl : Int) (rc : Nat) (fl : Int) (fc : Nat) (g : Int) (cyc : Nat) : Bool :=
  let before (a : Int) (b : Nat) (x : Int) (y : Nat) : Bool := a < x || (a == x && b < y)
  before rl rc fl fc && !before g cyc rl rc && before g cyc fl fc

/-- The side is driven (R240). -/
def State.gateSide (s : State) (side : Nat) : Bool := s.fld F.GATE_CTRL_SIDES / 2 ^ side % 2 == 1

/-- The frame that the last latch ended, as its gate lines use it (R107, R234). -/
def State.gateFrame (s : State) (ended : Bool) : State := if ended then { s with regs := s.hvd.gateEnded } else s

/-- What the ended frame's gate lines need is kept at a latch, before its commits; the first latch of a scan ends no frame. -/
def State.gateKeep (s : State) (start : Bool) : State :=
  let used (o : Nat) : Bool := o / 0x1000 == 0x42 || o == R.SCAN_V_TIMING || o == R.SCAN_H_TIMING
  { s with hvd := { s.hvd with gateEnded := if start then [] else SMap.drop (fun o => !used o) s.regs } }

/-- The level of an output in gate line `g` of the frame whose registers `s` holds, at a cycle of it (R235, R236). -/
def State.gateEdge (s : State) (o : GateOut) (g : Int) (cyc : Nat) : Bool :=
  match o with
  | .gck side n =>
    let en := if side = 0 then s.fld F.GATE_CLK_EN_LEFT else s.fld F.GATE_CLK_EN_RIGHT
    let i := if side = 1 && !s.bit F.GATE_CTRL_MIRROR then 16 + n else n
    s.gateSide side && en / 2 ^ n % 2 == 1 && s.clockLevel i g cyc
  | .stv side k =>
    let i := 2 * side + k
    s.gateSide side && pulseLevel (signedOf 7 (s.fld (F.GATE_STV_RISE_LINE i))) (s.fld (F.GATE_STV_RISE_CYCLE i))
      (signedOf 7 (s.fld (F.GATE_STV_FALL_LINE i))) (s.fld (F.GATE_STV_FALL_CYCLE i)) g cyc
  | .grst side =>
    let v : Int := s.fld F.SCAN_V_TIMING_V_ACTIVE
    s.gateSide side && pulseLevel (v + s.fld (F.GATE_GRST_RISE_LINE side)) (s.fld (F.GATE_GRST_RISE_CYCLE side))
      (v + s.fld (F.GATE_GRST_FALL_LINE side)) (s.fld (F.GATE_GRST_FALL_CYCLE side)) g cyc

/-- The gate line in progress at the start of scan line `line` of a frame, blanking lines before line 0 being negative
(R234). -/
def State.gateLineAt (s : State) (line : Int) : Int :=
  let h := max 1 (s.fld F.SCAN_H_TIMING_H_TOTAL)
  line - ((s.fld F.GATE_ORIGIN_CYCLES + h - 1) / h : Nat)

/-- The gate line in progress as the scanned line starts: of the frame in progress, where it is known how far its line 0 is,
and of the frame that the last latch ended (R234). -/
def State.gateLines (s : State) : Option Int × Option Int :=
  let l : Int := s.fld F.SCAN_LINE_SCAN_LINE
  let v : Int := s.fld F.SCAN_V_TIMING_V_ACTIVE
  let old := s.gateFrame true
  let since : Int := if s.inBlanking then l - v else s.scan.e + l
  let mine : Option Int :=
    if !s.inBlanking then some (s.gateLineAt l) else if s.scan.endFixed then some (s.gateLineAt (l - v - s.scan.e)) else none
  let theirs : Option Int :=
    if s.hvd.gateEnded.isEmpty then none else some (old.gateLineAt (old.fld F.SCAN_V_TIMING_V_ACTIVE + since))
  (mine, theirs)

/-- The level of a gate output at a cycle of the gate line in progress: true is VGH (R233 to R236). (Log 11: DESIGN CHOICE, safe.) -/
def State.gateLevel (s : State) (o : GateOut) (cyc : Nat) : Bool :=
  if !s.domOn dPANEL then false
  else
    match s.fld F.GATE_CTRL_FORCE with
    | 1 => false
    | 2 => true
    | _ =>
      s.bit F.SCAN_CTRL_RUN && (s.gateLines.1.any (fun g => s.gateEdge o g cyc) ||
        s.gateLines.2.any fun g => (s.gateFrame true).gateEdge o g cyc)

/-- The gate line that GATE.STATUS shows: that of the frame in progress from its first line with an edge on, until then that
of the frame before (R240). (Log 144: DESIGN CHOICE, unsafe.) -/
def State.gateShown (s : State) : Int :=
  match s.gateLines with
  | (some g, some h) => if gateFirst s ≤ g then g else h
  | (some g, none) => g
  | (none, some h) => h
  | (none, none) => 0

end Sys2Proof.Machine
end

