-- ==== Sys2Proof/Machine/PanelPower.lean ====
section
/-! DEFINITION. The panel sequencer, its rail requests, its discharge, the backlight and the thermistors (10, R241 to
R257). -/

namespace Sys2Proof.Machine

/-- Panel states (R248). -/
abbrev pOFF : Nat := 0
abbrev pUP : Nat := 1
abbrev pON : Nat := 2
abbrev pDOWN : Nat := 3
abbrev pFAULT : Nat := 4

/-- Causes of power-down (R252). -/
abbrev cauCMD : Nat := 1
abbrev cauPFW : Nat := 2
abbrev cauRAILFAIL : Nat := 3
abbrev cauRAILLOSS : Nat := 4
abbrev cauFATAL : Nat := 5
abbrev cauRESET : Nat := 6
abbrev cauPOWERREQ : Nat := 7
abbrev cauWAKEFAIL : Nat := 8

def State.panelState (s : State) : Nat := s.fld F.HVD_PANEL_STATUS_STATE
def State.panelStep (s : State) : Nat := s.fld F.HVD_PANEL_STATUS_STEP
def State.setStep (s : State) (k : Nat) : State := s.setFld F.HVD_PANEL_STATUS_STEP k

/-- A change of the panel's state, with PANEL_STATE (R257). -/
def State.setPanel (s : State) (st cause : Nat) : State :=
  let prev := s.panelState
  let s := (s.setFld F.HVD_PANEL_STATUS_STATE st).raise 0x43 0
  s.post F.HVD_EVT_RING 0x0600 [(3, st), (3, prev), (4, cause), (32, (s.rd R.SCAN_FRAME_SEQ).toNat)]

/-- GATE.CTRL.FORCE set by the sequencer. -/
def State.setForce (s : State) (v : Nat) : State := s.setFld F.GATE_CTRL_FORCE v

/-- LINK.CTRL.HALT set by the sequencer. -/
def State.setHalt (s : State) (b : Bool) : State := if s.domOn dLINK then s.setBit F.LINK_CTRL_HALT b else s

/-! ### Rail requests (R246, R247) -/

/-- PMBus address and page of a rail. -/
def State.railAddr (s : State) (r : Nat) : Nat × Nat :=
  let w := s.rd (R.HVD_RAIL_AVDD + 4 * r)
  (bitsOf w 0 7, bitsOf w 8 8)

/-- The magnitude of a rail's voltage in mV, as its monitor last saw it. -/
def State.railMv (s : State) (r : Nat) : Nat := s.hvd.railMv.getD r 0

/-- The magnitude in mV from which a rail is OK (R246). -/
def State.railTh (s : State) (r : Nat) : Nat :=
  bitsOf (s.rd (R.HVD_RAIL_AVDD + 4 * r)) 16 8 * (if r = 2 then 250 else 100)

/-- The magnitude in mV up to which a rail is LOW (R246). -/
def railFloor (r : Nat) : Nat := if r = 2 then 2000 else 1000

/-- Set OK and LOW of a rail as its monitor shows them. -/
def State.setRail (s : State) (r : Nat) (ok low : Bool) : State :=
  (s.setBit ⟨R.HVD_PANEL_STATUS, 17 + r, 1⟩ ok).setBit ⟨R.HVD_PANEL_STATUS, 20 + r, 1⟩ low

def State.railOk (s : State) (r : Nat) : Bool := bitOf (s.rd R.HVD_PANEL_STATUS) (17 + r)
def State.railLow (s : State) (r : Nat) : Bool := bitOf (s.rd R.HVD_PANEL_STATUS) (20 + r)

/-- The monitor of a rail compares its voltage (R246). (Log 86: DEDUCED, unsafe.) -/
def State.railJudge (s : State) (r : Nat) : State :=
  if s.domOn dPANEL then s.setRail r (s.railTh r ≤ s.railMv r) (s.railMv r ≤ railFloor r) else s

/-- The monitor of a rail sees a voltage (R246). -/
def State.railReport (s : State) (r mv : Nat) : State :=
  { s with hvd := { s.hvd with railMv := (List.range 3).map fun i => if i = r then mv else s.railMv i } }.railJudge r

/-- The two transactions of a rail's PAGE and OPERATION (R247, R302). -/
def State.pmbusSwitch (s : State) (addr page : Nat) (on : Bool) : State :=
  (s.emit (.pmbus (writeByte addr 0x00 page))).emit (.pmbus (writeByte addr 0x01 (if on then 0x80 else 0x00)))

/-- Send one attempt of a rail request. -/
def State.railSend (s : State) (r : Nat) (on : Bool) : State :=
  let a := s.railAddr r
  s.pmbusSwitch a.1 a.2 on

/-- The rail that a step of power-up or power-down requests. -/
def stepRail (up : Bool) (k : Nat) : Option Nat :=
  if up then (match k with | 1 => some 0 | 3 => some 1 | 4 => some 2 | _ => none)
  else (match k with | 4 => some 2 | 5 => some 1 | 6 => some 0 | _ => none)

/-- Request a rail on in power-up. -/
def State.requestOn (s : State) (r : Nat) : State :=
  { s with hvd := { s.hvd with requested := s.hvd.requested ++ [r], attempts := 1 } }.railSend r true

/-! ### Power-down (R251) -/

/-- Step 7 of power-down (R251, R254). -/
def State.downEnd (s : State) : State :=
  let s := s.setForce 1
  let s := { s with hvd := { s.hvd with swGates := true } }
  let s := if s.domOn dLINK then s.trainStop else s
  let s := s.bump F.HVD_DISCHARGES_COUNT
  let st := if s.hvd.failed then pFAULT else pOFF
  let s := { s with hvd := { s.hvd with failed := false, powerFail := false, requested := [] } }
  (s.setPanel st (s.fld F.HVD_PANEL_STATUS_CAUSE)).setStep 0

/-- The action of a power-down step that removes a rail: its switch closes, and in step 6 the references go off. -/
def State.downAction (s : State) (k : Nat) : State :=
  let h := s.hvd
  { s.setStep k with hvd :=
      { h with swVgh := h.swVgh || k == 4, swVgl := h.swVgl || k == 5, swAvdd := h.swAvdd || k == 6,
               refs := h.refs && k != 6, attempts := 1 } }

/-- Enter step `k` of power-down, 4 to 7; a rail that was never requested is skipped (R251). (Log 83: DEDUCED, unsafe.) -/
def downEnter : Nat → Nat → State → State
  | 0, _, s => s
  | fuel + 1, k, s =>
    match stepRail false k with
    | none => s.downEnd
    | some r =>
      let s := s.downAction k
      if s.hvd.requested.contains r then s.railSend r false else downEnter fuel (k + 1) s

/-- The step of power-down in progress, which waits for a rail, ends. (Log 83: DEDUCED, unsafe.) -/
def State.downNext (s : State) : State := downEnter 5 (s.panelStep + 1) s

/-- Start a power-down, or let a power-fail cause switch the running one (R251, R252, R255). -/
def State.panelDown (s : State) (cause : Nat) (powerFail : Bool) : State :=
  if !s.domOn dPANEL then s
  else if s.panelState = pDOWN then
    (if powerFail then { s with hvd := { s.hvd with powerFail := true } } else s)
  else if s.panelState = pUP || s.panelState = pON then
    let s := { s with hvd := { s.hvd with powerFail := powerFail } }
    let s := s.setFld F.HVD_PANEL_STATUS_CAUSE cause
    let s := ((s.setPanel pDOWN cause).setHalt true).setStep 1
    s.panelLineEnd
  else s

/-! ### Power-up (R250) -/

/-- Step 1. (Log 88: DEDUCED, unsafe.) -/
def State.upStart (s : State) : State :=
  let s := { s with hvd := { s.hvd with failed := false, powerFail := false, requested := [], latches := 0, swAvdd := false } }
  let s := (s.setPanel pUP 0).setStep 1
  ((s.setForce 1).setHalt true).requestOn 0

/-- Step 2. -/
def State.upRefs (s : State) : State := { s.setStep 2 with hvd := { s.hvd with refs := true } }

/-- Step 3. -/
def State.upVgl (s : State) : State :=
  { s.setStep 3 with hvd := { s.hvd with swVgl := false, swGates := false } }.requestOn 1

/-- Step 4. -/
def State.upVgh (s : State) : State := { s.setStep 4 with hvd := { s.hvd with swVgh := false } }.requestOn 2

/-- Step 5. -/
def State.upLink (s : State) : State :=
  let s := s.setStep 5
  (if s.domOn dLINK && !s.bit F.LINK_STATUS_TRAINING && !s.trainable.isEmpty then s.trainGo else s).panelTrained

/-- HVD at a frame latch, after the commits of the latch: START, the backlight and the PWM period (R244, R250).
(Log 83: DEDUCED, unsafe.) -/
def State.panelLatch (s : State) : State :=
  if !s.domOn dPANEL then s
  else
    let s := if s.bit F.HVD_BL_SYNC then { s with hvd := { s.hvd with blPhase := 0 } } else s
    let bl (s : State) : State :=
      if !s.bit F.HVD_SEQ_UP_BL_AUTO then s.setStep 0
      else if s.fld F.HVD_SEQ_UP_BL_FRAMES ≤ s.hvd.latches then (s.setFld F.HVD_BL_EN 1).setStep 0
      else s
    if s.panelState = pUP && s.panelStep = 6 then
      let s := (s.setHalt false).setForce 0
      let s := { s with hvd := { s.hvd with latches := 0 } }
      bl ((s.setPanel pON 0).setStep 7)
    else if s.panelState = pON && s.panelStep = 7 then bl { s with hvd := { s.hvd with latches := s.hvd.latches + 1 } }
    else s

/-! ### The commands of R248 -/

def State.setResult (s : State) (r : Nat) : State := s.setFld F.HVD_PANEL_STATUS_RESULT r

/-- UP (R248). With PFW# low the power-up it starts meets the cause of R252 at once. (Log 84: DEDUCED, unsafe.) -/
def State.panelUp (s : State) : State :=
  if s.panelState = pDOWN then s.setResult 1
  else if s.panelState = pOFF || s.panelState = pFAULT then
    if s.bit F.SCAN_CTRL_RUN then
      let s := (s.setResult 0).upStart
      if s.hvd.pfwLow then s.panelDown cauPFW true else s
    else s.setResult 2
  else s.setResult 3

def execPanelUp (s : State) : Host.Outcome State Fault Refusal := .next (s.hostWriteTo R.HVD_PANEL_CMD State.panelUp)

/-- DOWN (R248). (Log 88: DEDUCED, unsafe.) -/
def State.panelDownCmd (s : State) : State :=
  if s.panelState = pUP || s.panelState = pON then (s.setResult 0).panelDown cauCMD false
  else if s.panelState = pFAULT then (s.setResult 3).setPanel pOFF cauCMD
  else s.setResult 3

def execPanelDown (s : State) : Host.Outcome State Fault Refusal :=
  .next (s.hostWriteTo R.HVD_PANEL_CMD State.panelDownCmd)

/-! ### What ends a step -/

/-- The monitor shows what a rail request waits for (R247). -/
def State.railShows (s : State) (up : Bool) (r : Nat) : Bool := if up then s.railOk r else s.railLow r

/-- The step that waits for a rail ends (R250, R251). -/
def State.railNext (s : State) (up : Bool) : State :=
  if up then
    match s.panelStep with
    | 1 => s.upRefs
    | 3 => s.upVgh
    | _ => s.upLink
  else s.downNext

/-- The step in progress waits for a rail. -/
def State.railAwaited (s : State) : Option Nat :=
  if !s.domOn dPANEL then none
  else if s.panelState = pUP then stepRail true s.panelStep
  else if s.panelState = pDOWN then stepRail false s.panelStep
  else none

/-- A voltage that a rail's monitor sees as its request is acknowledged: any from its threshold on after an on request, any up
to its LOW limit after an off request (R246, R247). (Log 86: DEDUCED, unsafe.) -/
def State.ackMv (s : State) (up : Bool) (r : Nat) : Nat :=
  if up then s.railTh r + s.draw.1.toNat else s.draw.1.toNat % (railFloor r + 1)

/-- The request that is awaited is acknowledged, or in the power-fail variant the rail reads LOW: its monitor shows OK after
an on request and LOW after an off request, and the step ends (R247, R250, R251). (Log 86: DEDUCED, unsafe.) -/
def State.railAck (s : State) : State :=
  match s.railAwaited with
  | none => s
  | some r =>
    let up := s.panelState == pUP
    (s.draw.2.railReport r (s.ackMv up r)).railNext up

/-- RAIL_FAIL (R254, R257). The ATTEMPTS field holds three bits. (Log 87: DESIGN CHOICE, safe.) -/
def State.railFail (s : State) (r phase cause attempts : Nat) : State :=
  let s := (s.bump F.HVD_RAIL_FAILS_COUNT).raise 0x43 1
  let d := if attempts < 8 then (attempts, s) else (s.draw.1.toNat % 8, s.draw.2)
  d.2.post F.HVD_EVT_RING 0x0601 [(2, r), (2, phase), (4, cause), (3, d.1)]

/-- An attempt of a rail request is NACKed or times out, with the rail at the voltage its monitor then sees (R247, R254).
The power-fail variant waits for the rail alone (R251). (Log 86: DEDUCED, unsafe.) -/
def State.railTimeout (s : State) (nacked : Bool) (mv : Nat) : State :=
  match s.railAwaited with
  | none => s
  | some r =>
    let up := s.panelState == pUP
    let s := s.railReport r mv
    let timed := !up && s.hvd.powerFail
    if (timed || !nacked) && s.railShows up r then s.railNext up
    else if timed then s
    else if s.hvd.attempts ≤ s.fld F.HVD_RAIL_REQ_RETRIES then
      { s with hvd := { s.hvd with attempts := s.hvd.attempts + 1 } }.railSend r up
    else
      let s := s.railFail r (b2n (!up)) (if nacked then 1 else 2) s.hvd.attempts
      let s := { s with hvd := { s.hvd with failed := true } }
      if up then s.panelDown cauRAILFAIL false else s.downNext

/-- A step timer expires (R250 step 2; R251 steps 2 and 3, and the power-fail limits of steps 4 to 6, with the rail at
whatever voltage its monitor then sees). (Log 86: DEDUCED, unsafe.) -/
def State.seqTimer (s : State) : State :=
  if !s.domOn dPANEL then s
  else if s.panelState = pUP && s.panelStep = 2 then s.upVgl
  else if s.panelState = pDOWN then
    match s.panelStep with
    | 2 => (s.setForce 2).setStep 3
    | 3 => s.downNext
    | 4 | 5 | 6 =>
      if s.hvd.powerFail then
        (match stepRail false s.panelStep with
         | some r => s.draw.2.railReport r s.draw.1.toNat
         | none => s).downNext
      else s
    | _ => s
  else s

/-- A rail has had a voltage for 4 KCLK cycles: if its OK condition is lost by it, a power-fail discharge starts (R252, R254,
R255). (Log 86: DEDUCED, unsafe.) -/
def State.railLoss (s : State) (r mv : Nat) : State :=
  if 3 ≤ r then s
  else
    let was := s.domOn dPANEL && s.railOk r
    let s := s.railReport r mv
    if was && !s.railOk r && (s.panelState == pUP || s.panelState == pON) then (s.railFail r 2 0 0).panelDown cauRAILLOSS true
    else s

/-- RAIL_LOSS (R252). (Log 86: DEDUCED, unsafe.) -/
def execRailLoss (d : RailDrop) (s : State) : Host.Outcome State Fault Refusal :=
  .next (s.railLoss d.rail.toNat d.mv.toNat)

/-- What HVD sees of its pins as PANEL wakes (R246, R258): PFW#, and the rails, whose bits stand at their reset values after
OFF until a voltage or a threshold comes. (Log 86: DEDUCED, unsafe.) -/
def State.panelWoke (s : State) (fromOff : Bool) : State :=
  (if fromOff then s else s.each [0, 1, 2] State.railJudge).setBit F.HVD_PANEL_STATUS_PFW s.hvd.pfwLow

/-- PFW# has been low for 4 KCLK cycles, as HVD sees it (R252, R257). (Log 88: DEDUCED, unsafe.) -/
def State.pfwPanel (s : State) : State :=
  let s := { s with hvd := { s.hvd with pfwLow := true } }
  if !s.domOn dPANEL then s
  else
    let s := ((s.setFld F.HVD_PANEL_STATUS_PFW 1).bump F.HVD_PFW_COUNT_COUNT).raise 0x43 2
    let s := s.post F.HVD_EVT_RING 0x0602 [(3, s.panelState), (32, (s.rd R.SCAN_FRAME_SEQ).toNat)]
    s.panelDown cauPFW true

/-- PFW# is high again (R252, R287): nothing restarts by itself; the label port accepts updates again. -/
def State.pfwHigh (s : State) : State :=
  let s := { s with hvd := { s.hvd with pfwLow := false } }
  let s := if s.domOn dLABEL then s.setFld F.LABEL_STATUS_STOPPED 0 else s
  if s.domOn dPANEL then s.setFld F.HVD_PANEL_STATUS_PFW 0 else s

/-! ### Outputs of the panel-power die (R241 to R244) -/

/-- The code that GAMMA[j], or VCOM[j − 18], drives; none while its discharge switch holds it at 0 V (R242). -/
def State.refCode (s : State) (j : Nat) : Option Nat :=
  let en := if j < 18 then s.fld F.HVD_OUT_EN_GAMMA / 2 ^ j % 2 else s.fld F.HVD_OUT_EN_VCOM / 2 ^ (j - 18) % 2
  let code :=
    if j = 18 then s.fld F.HVD_VCOM_VCOM0
    else if j = 19 then s.fld F.HVD_VCOM_VCOM1
    else if j % 2 = 0 then s.fld (F.HVD_GAMMA_LO (j / 2)) else s.fld (F.HVD_GAMMA_HI (j / 2))
  if s.domOn dPANEL && s.hvd.refs && en == 1 then some code else none

/-- The voltage that GAMMA[j], or VCOM[j − 18], drives, in units of 1/1,023 mV (R242). -/
def State.refLevel (s : State) (j : Nat) : Nat := s.railMv 0 * (s.refCode j).getD 0

/-- BL_EN (R244). (Log 84: DEDUCED, unsafe.) -/
def State.blEn (s : State) : Bool := s.domOn dPANEL && !s.padHeld dPANEL && s.panelState == pON && s.bit F.HVD_BL_EN

/-- BL_PWM[k] (R244). (Log 11: DESIGN CHOICE, safe.) -/
def State.blPwm (s : State) (k : Nat) : Bool :=
  s.blEn && s.hvd.blPhase < s.fld (if k = 0 then F.HVD_BL_DUTY_DUTY0 else F.HVD_BL_DUTY_DUTY1)

/-- One KCLK cycle of the backlight's PWM. -/
def State.blTick (s : State) : State :=
  { s with hvd := { s.hvd with blPhase := if s.hvd.blPhase + 1 < s.fld F.HVD_BL_PERIOD_PERIOD then s.hvd.blPhase + 1 else 0 } }

/-! ### Thermistors (R245) -/

/-- Node `i` of a channel's linearization table. -/
def State.thermNode (s : State) (ch i : Nat) : Int :=
  signedOf 16 (bitsOf (s.rd (0x43240 + 0x24 * ch + i / 2 * 4)) (16 * (i % 2)) 16)

/-- The temperature of a mean code, in units of 0.125 °C (R245). (Log 85: DESIGN CHOICE, safe.) -/
def State.thermTemp (s : State) (ch c : Nat) : Int :=
  let i := c / 256
  let f : Int := c % 256
  let t := (s.thermNode ch i * (256 - f) + s.thermNode ch (i + 1) * f + 128) / 256
  min 2047 (max (-2048) t)

/-- The fields of a channel's reading. -/
def thermFlds (ch : Nat) : Fld × Fld × Fld :=
  if ch = 0 then (F.HVD_THERM0_TEMP, F.HVD_THERM0_CODE, F.HVD_THERM0_VALID)
  else (F.HVD_THERM1_TEMP, F.HVD_THERM1_CODE, F.HVD_THERM1_VALID)

/-- (Log 85: DESIGN CHOICE, safe.) -/
def State.thermWindow (s : State) (ch : Nat) : List Nat := if ch = 0 then s.hvd.therm0 else s.hvd.therm1

def State.setThermWindow (s : State) (ch : Nat) (w : List Nat) : State :=
  { s with hvd := if ch = 0 then { s.hvd with therm0 := w } else { s.hvd with therm1 := w } }

/-- Whether a channel's reading is valid (R245). A valid reading that becomes invalid raises THERM_INVALID; its CAUSE is open
where the code is within the limits. (Log 85: DESIGN CHOICE, safe.) -/
def State.thermJudge (s : State) (ch : Nat) : State :=
  let f := thermFlds ch
  let c := s.fld f.2.1
  let low := c < s.fld F.HVD_THERM_CFG_SHORT_LIM
  let high := s.fld F.HVD_THERM_CFG_OPEN_LIM < c
  let valid := (s.thermWindow ch).length = 8 && !low && !high
  let was := s.bit f.2.2
  let s := s.setBit f.2.2 valid
  if was && !valid then
    let x := if high then (1, s) else if low then (2, s) else (s.draw.1.toNat % 4, s.draw.2)
    (x.2.raise 0x43 3).post F.HVD_EVT_RING 0x0603 [(1, ch), (2, x.1), (12, c)]
  else s

/-- THERM_CONVERT (R245). Before the eighth conversion the mean and the temperature are open. (Log 85: DESIGN CHOICE, safe.) -/
def State.thermConvert (s : State) (ch code : Nat) : State :=
  if !s.domOn dPANEL || s.fld F.HVD_THERM_CFG_EN / 2 ^ ch % 2 != 1 then s
  else
    let w := (code :: s.thermWindow ch).take 8
    let s := s.setThermWindow ch w
    let f := thermFlds ch
    if w.length < 8 then
      let x := s.draw
      ((x.2.setFld f.1 x.1.toNat).setFld f.2.1 (x.1.toNat / 2 ^ 12)).setFld f.2.2 0
    else
      let c := w.foldl (· + ·) 0 / 8
      ((s.setFld f.1 (wrapInt 12 (s.thermTemp ch c))).setFld f.2.1 c).thermJudge ch

def execThermConvert (ch : Bool) (code : BitVec 12) (s : State) : Host.Outcome State Fault Refusal :=
  .next (s.thermConvert (b2n ch) code.toNat)

/-- THERM_CFG takes effect: with EN clear the conversions of a channel count anew, and every reading is judged (R245). -/
def State.thermConfig (s : State) : State :=
  s.each [0, 1] fun s ch =>
    (if s.fld F.HVD_THERM_CFG_EN / 2 ^ ch % 2 = 1 then s else s.setThermWindow ch []).thermJudge ch

end Sys2Proof.Machine
end

