-- ==== Sys2Proof/Machine/Label.lean ====
section
/-! DEFINITION. The label port for bistable panels (12, R272 to R291). -/

namespace Sys2Proof.Machine

/-! ### Geometry and time (R274 to R276) -/

def State.lblW (s : State) (p : Nat) : Nat := s.fld (F.LABEL_PANEL_GEOM_WIDTH p)
def State.lblH (s : State) (p : Nat) : Nat := s.fld (F.LABEL_PANEL_GEOM_HEIGHT p)

/-- LBL_SDCLK in Hz (R274). -/
def State.lblClock (s : State) : Nat := 40000000 / 2 ^ s.fld F.LABEL_CTRL_DIV

/-- P: cycles of a phase (R275). -/
def State.lblPhase (s : State) : Nat := s.lblClock / max 1 (s.fld F.LABEL_PHASE_RATE)

/-- B: the budget of a phase in cycles (R275). -/
def State.lblBudget (s : State) : Nat := s.lblPhase - (s.lblClock * 120 + 999999) / 1000000

/-- Two updates share a pixel. -/
def LabelUpd.overlaps (a b : LabelUpd) : Bool :=
  a.panel == b.panel && a.x < b.x + b.w && b.x < a.x + a.w && a.y < b.y + b.h && b.y < a.y + a.h

/-- Pixels of an update. -/
def LabelUpd.area (u : LabelUpd) : Nat := u.w * u.h

/-- A line of the panel is covered by one of the updates (R274). -/
def lineActive (us : List LabelUpd) (y : Nat) : Bool := us.any fun u => u.y ≤ y && y < u.y + u.h

/-- S: cycles of the scan of a panel with these running updates (R274). -/
def scanCycles (w h : Nat) (us : List LabelUpd) : Nat :=
  let n := w / 8
  let a := ((List.range h).filter (lineActive us)).length
  let k := ((List.range h).filter fun y => lineActive us y && (y == 0 || !lineActive us (y - 1))).length
  80 + k * n + a * (n + 8) + (h - a) * 4

/-- Running updates of a panel. -/
def State.lblRunning (s : State) (p : Nat) : List LabelUpd := s.label.run.filter fun u => u.panel == p

/-- The scans of one phase with the given running updates (R274, R275). -/
def State.lblScanTime (s : State) (us : List LabelUpd) : Nat :=
  (List.range 8).foldl
    (fun t p =>
      let own := us.filter fun u => u.panel == p
      if own.isEmpty then t else t + scanCycles (s.lblW p) (s.lblH p) own) 0

/-! ### Planes and waveforms (R277 to R282) -/

def lblKey (p y x : Nat) : Nat := (p * 2048 + y) * 2048 + x

/-- The pixels of an update, row by row. -/
def LabelUpd.pixels (u : LabelUpd) : List (Nat × Nat) :=
  (List.range u.h).flatMap fun j => (List.range u.w).map fun i => (u.x + i, u.y + j)

/-- CURRENT of a pixel. (Log 91: DESIGN CHOICE, safe.) -/
def State.lblCur (s : State) (p x y : Nat) : Nat := SMap.get (fun _ => s.label.fill) s.label.cur (lblKey p y x)

/-- Set pixels of CURRENT. -/
def State.lblSetCur (s : State) (p : Nat) (px : List ((Nat × Nat) × Nat)) : State :=
  let f := fun (m : SMap Nat) (e : (Nat × Nat) × Nat) => SMap.set (fun _ => s.label.fill) m (lblKey p e.1.2 e.1.1) e.2
  { s with label := { s.label with cur := px.foldl f s.label.cur } }

/-- The drive code of a transition at a phase (R279, R281); code 3 is sent as 0. -/
def State.lblCode (s : State) (m r k f t : Nat) : Nat :=
  let i := f * 16 + t
  let b := SMap.get (fun _ => 0) s.label.wf (((m * 16 + r) * 256 + k) * 64 + i / 4)
  let c := b.toNat / 4 ^ (i % 4) % 4
  if c = 3 then 0 else c

/-- L(m, r) (R281). -/
def State.lblLen (s : State) (m r : Nat) : Nat :=
  let i := (m * 16 + r) / 2
  if r % 2 = 0 then s.fld (F.LABEL_WF_LEN_LO i) else s.fld (F.LABEL_WF_LEN_HI i)

/-- Temperature boundary `k` in °C. -/
def State.lblBound (s : State) (k : Nat) : Int := pointAt (s.rd (R.LABEL_TEMP_BNDn (k / 4))) (k % 4)

/-- The temperature range of an update that starts now (R282). -/
def State.lblRange (s : State) : Nat :=
  let t : Int :=
    match s.thermReading (s.fld F.LABEL_CTRL_TEMP_SRC) with
    | some t => t
    | none => 8 * signedOf 8 (s.fld F.LABEL_TEMP_MAN_TEMP)
  ((List.range 15).filter fun k => 8 * s.lblBound k ≤ t).length

/-! ### The journal (R286, R288) -/

/-- The word of a rectangle (R286). -/
def journalWord (u : LabelUpd) : Word :=
  BitVec.ofNat 32 (u.x / 16 + (u.x + u.w - 1) / 16 * 2 ^ 7 + u.y / 16 * 2 ^ 14 + (u.y + u.h - 1) / 16 * 2 ^ 21 +
    u.panel % 8 * 2 ^ 28 + 2 ^ 31)

/-- The record that a VALID word names. -/
def recordOf (i : Nat) (w : Word) : LabelRec := ⟨bitsOf w 28 3, i, bitsOf w 0 7, bitsOf w 7 7, bitsOf w 14 7, bitsOf w 21 7⟩

/-- A rectangle shares a pixel with a record's area. -/
def LabelRec.touches (r : LabelRec) (u : LabelUpd) : Bool :=
  r.panel == u.panel && u.x < 16 * r.x1 + 16 && 16 * r.x0 < u.x + u.w && u.y < 16 * r.y1 + 16 && 16 * r.y0 < u.y + u.h

/-- A rectangle contains a record's whole area, clipped to a panel of `w` × `h` (R286, R288). -/
def LabelRec.inside (r : LabelRec) (u : LabelUpd) (w h : Nat) : Bool :=
  r.panel == u.panel && u.x ≤ 16 * r.x0 && min w (16 * r.x1 + 16) ≤ u.x + u.w && u.y ≤ 16 * r.y0 &&
    min h (16 * r.y1 + 16) ≤ u.y + u.h

/-- Word `i` of the journal. -/
def State.journal (s : State) (i : Nat) : Word := s.persRead (persJournal + i)

/-- Free words of the journal (R286). -/
def State.journalFree (s : State) : Nat := ((List.range 1024).filter fun i => s.journal i == 0).length

/-- The next free word in circular order from the pointer (R286). -/
def State.journalNext (s : State) : Option Nat :=
  ((List.range 1024).map fun i => (s.label.ptr + i) % 1024).find? fun i => s.journal i == 0

/-- The port reads the journal (R288): every VALID word becomes an interrupted record. (Log 92: DEDUCED, unsafe.) -/
def State.labelRecover (s : State) : State :=
  let rs := (List.range 1024).filterMap fun i =>
    let w := s.journal i
    if bitOf w 31 then some (recordOf i w) else none
  let s := { s with label := { s.label with recs := rs } }
  s.post F.LABEL_EVT_RING 0x0703 [(2, 0), (3, 0), (11, rs.length)]

/-- The journal pointer after COLD (R286). (Log 92: DEDUCED, unsafe.) -/
def State.journalPointer (s : State) : Nat :=
  match ((List.range 1024).filter fun i => s.journal i != 0).getLast? with
  | some i => (i + 1) % 1024
  | none => 0

/-! ### Ends -/

/-- LABEL_END (R291). -/
def State.labelEnd (s : State) (u : LabelUpd) (slot result phases : Nat) : State :=
  s.post F.LABEL_EVT_RING 0x0701 [(3, u.panel), (5, slot), (3, result), (13, u.queue), (16, u.tag), (9, phases)]

/-- Every pending entry ends (R285, R287). -/
def State.dropPending (s : State) (result : Nat) : State :=
  let ps := s.label.pend
  let s := { s with label := { s.label with pend := [] } }
  s.each ps fun s u => s.labelEnd u 0 result 0

/-- LABEL_POWER (R285, R291). -/
def State.labelPower (s : State) (cause : Nat) : State :=
  ((s.bump F.LABEL_PWR_FAILS_COUNT).raise 0x44 2).post F.LABEL_EVT_RING 0x0704 [(2, cause)]

/-- A running update becomes an interrupted record (R287). (Log 90: DEDUCED, unsafe.) -/
def State.labelInterrupt (s : State) (u : LabelUpd) : State :=
  let s := { s with label := { s.label with recs := s.label.recs ++ [recordOf u.word (journalWord u)] } }
  let s := s.lblSetCur u.panel (u.pixels.map fun p => (p, s.fld F.LABEL_CTRL_CLEAR_ROW))
  ((s.bump F.LABEL_INTERRUPTED_COUNT).raise 0x44 1).labelEnd u u.slot 1 (u.phase + 1)

/-- The port stops (R287). (Log 90: DEDUCED, unsafe.) -/
def State.labelStop (s : State) : State :=
  let run := s.label.run
  let s := ((s.emit .labelOff).setFld F.LABEL_STATUS_PWREN 0).setFld F.LABEL_STATUS_SCANNING 0
  let s := { s with label := { s.label with run := [], stopDue := false } }
  let s := s.each run State.labelInterrupt
  let s := s.dropPending 2
  let s := s.setBit F.LABEL_STATUS_STOPPED s.hvd.pfwLow
  s.post F.LABEL_EVT_RING 0x0703 [(2, 2), (3, 0), (11, run.length)]

/-- A running update has applied its last phase (R284). -/
def State.labelComplete (s : State) (u : LabelUpd) : State :=
  let s := s.lblSetCur u.panel (u.pixels.zip (u.store.map (· / 16)))
  let s := s.persWrite (persJournal + u.word) 0
  let s := (s.bump F.LABEL_UPDATES_COUNT).bump (F.LABEL_PANEL_DONE_COUNT u.panel)
  s.labelEnd u u.slot 0 u.len

/-- A CLEAR update has completed: the records it contains end (R288). (Log 90: DEDUCED, unsafe.) -/
def State.labelClear (s : State) (u : LabelUpd) : State :=
  let gone := s.label.recs.filter fun r => r.inside u (s.lblW r.panel) (s.lblH r.panel)
  let s := { s with label := { s.label with recs := s.label.recs.filter fun r => !gone.contains r } }
  s.each gone fun s r =>
    (s.persWrite (persJournal + r.word) 0).post F.LABEL_EVT_RING 0x0703 [(2, 1), (3, r.panel), (11, 1)]

/-- Every running update advances by a phase; those that reach their length end (R284). -/
def State.labelAdvance (s : State) : State :=
  let run := s.label.run.map fun u => { u with phase := u.phase + 1 }
  let ended := run.filter fun u => u.len ≤ u.phase
  let s := { s with label := { s.label with run := run.filter fun u => u.phase < u.len } }
  let s := s.each ended State.labelComplete
  s.each (ended.filter (·.clear)) State.labelClear

/-! ### Starts (R284, R285) -/

/-- An entry starts (R280, R282, R284, R286). -/
def State.labelStart (s : State) (u : LabelUpd) (word : Nat) : State :=
  let used := (s.lblRunning u.panel).map (·.slot)
  let slot := ((List.range 32).find? fun n => !used.contains n).getD 0
  let r := s.lblRange
  let clr := s.fld F.LABEL_CTRL_CLEAR_ROW
  let store := u.pixels.map fun p =>
    (if u.clear then clr else s.lblCur u.panel p.1 p.2) + 16 * SMap.get (fun _ => 0) s.label.req (lblKey u.panel p.2 p.1)
  let v := { u with slot := slot, range := r, len := s.lblLen u.mode r, phase := 0, word := word, store := store }
  let s := { s with label := { s.label with pend := s.label.pend.erase u, run := s.label.run ++ [v], ptr := (word + 1) % 1024 } }
  let s := s.persWrite (persJournal + word) (journalWord v)
  s.post F.LABEL_EVT_RING 0x0700
    [(3, v.panel), (5, v.slot), (4, v.range), (13, v.queue), (16, v.tag), (9, v.len), (10, v.word)]

/-- One entry of the start loop (R284): `acc` holds the state, whether later entries are blocked, and the entries of this
panel that were passed over. -/
def labelTry (acc : State × Bool × List LabelUpd) (e : LabelUpd) : State × Bool × List LabelUpd :=
  let s := acc.1
  let skip : State × Bool × List LabelUpd := (s, acc.2.1, acc.2.2 ++ [e])
  let stop : State × Bool × List LabelUpd := (s, true, acc.2.2 ++ [e])
  if 32 ≤ (s.lblRunning e.panel).length || (s.label.run.any fun u => u.overlaps e) || (acc.2.2.any fun u => u.overlaps e) then skip
  else if acc.2.1 then stop
  else if 4194304 < (s.label.run.foldl (fun a u => a + u.area) 0) + e.area then stop
  else if s.lblBudget < s.lblScanTime (s.label.run ++ [e]) then stop
  else if !s.bit F.LABEL_STATUS_PWRGOOD then (s.setFld F.LABEL_STATUS_PWREN 1, true, acc.2.2 ++ [e])
  else
    match s.journalNext with
    | none => stop
    | some w => (s.labelStart e w, acc.2)

/-- The start loop over the panels (R284). -/
def State.labelStarts (s : State) : State :=
  ((List.range 8).foldl
    (fun (acc : State × Bool) p =>
      let r := (s.label.pend.filter fun u => u.panel == p).foldl labelTry (acc.1, acc.2, [])
      (r.1, r.2.1))
    (s, false)).1

/-- What one pixel of a panel is sent in a phase (R279). -/
def State.lblDrive (s : State) (p x y : Nat) : Nat :=
  match (s.lblRunning p).find? fun u => u.x ≤ x && x < u.x + u.w && u.y ≤ y && y < u.y + u.h with
  | none => 0
  | some u =>
    let b := u.store.getD ((y - u.y) * u.w + (x - u.x)) 0
    s.lblCode u.mode u.range u.phase (b % 16) (b / 16)

/-- The shift words of a row: pixel 8 k + i of word k in bits [2 i + 1 : 2 i] (R272). -/
def State.rowWords (s : State) (p y : Nat) : List (BitVec 16) :=
  (List.range (s.lblW p / 8)).map fun k =>
    BitVec.ofNat 16 ((List.range 8).foldl (fun a i => a + s.lblDrive p (8 * k + i) y * 4 ^ i) 0)

/-- The parts of a row of a panel's scan (R274). -/
def State.rowParts (s : State) (p y : Nat) : List LblPart :=
  let act := lineActive (s.lblRunning p)
  if !act y then [.skipped y]
  else
    (if y = 0 || !act (y - 1) then [.lead y (s.rowWords p y)] else []) ++
      [.active y (if y + 1 < s.lblH p && act (y + 1) then s.rowWords p (y + 1) else [])]

/-- The scan of a panel in one phase (R274). -/
def State.scanParts (s : State) (p : Nat) : List LblPart :=
  .preamble :: (List.range (s.lblH p)).flatMap (s.rowParts p) ++ [.tail]

/-- LBL_SDCLK cycles of a part, with N cycles to a row (R274). -/
def LblPart.cycles (n : Nat) : LblPart → Nat
  | .preamble => 64
  | .lead .. => n
  | .active .. => n + 8
  | .skipped _ => 4
  | .tail => 16

/-- The levels of the port in one LBL_SDCLK cycle of a scan (R272). `sd` is the word that LBL_SDCLK shifts, none where none is
shifted; `cs` is the line of the panel scanned. -/
structure LblPins where
  sd : Option (BitVec 16)
  sdle : Bool
  sdoe : Bool
  gdclk : Bool
  gdsp : Bool
  gdoe : Bool
  cs : Bool
deriving DecidableEq, Repr

/-- The levels in cycle `c` of a part (R274). LBL_GDSP stays high to the fall of row 0's LBL_GDCLK. (Log 91: DESIGN CHOICE,
safe.) -/
def LblPart.pins (c : Nat) : LblPart → LblPins
  | .preamble => ⟨none, false, false, false, 16 ≤ c, 8 ≤ c, true⟩
  | .lead y ws => ⟨ws[c]?, false, false, false, y = 0, true, true⟩
  | .active y ws => ⟨if c < 8 then none else ws[c - 8]?, c < 2, 2 ≤ c, c < 4, y = 0 && c < 4, true, true⟩
  | .skipped y => ⟨none, false, false, c < 2, y = 0 && c < 2, true, true⟩
  | .tail => ⟨none, false, false, false, false, c < 8, c < 16⟩

/-- The scans of a phase (R274): every panel that has a running update, in ascending number. Latched pads show none of them
(R310). (Log 91: DESIGN CHOICE, safe.) -/
def State.labelScan (s : State) : State :=
  let s := s.setBit F.LABEL_STATUS_SCANNING (!s.label.run.isEmpty)
  s.each (List.range 8) fun s p =>
    if (s.lblRunning p).isEmpty || s.padHeld dLABEL then s else s.emit (.labelScan p (s.scanParts p))

/-- LBL_PWREN (R285, R310). -/
def State.lblPwren (s : State) : Bool := s.domOn dLABEL && !s.padHeld dLABEL && s.bit F.LABEL_STATUS_PWREN

/-- LBL_PWRGOOD has fallen while an update runs (R285, R287). -/
def State.labelLost (s : State) : State := s.labelStop.labelPower 2

/-- PHASE_BOUNDARY (R284), with the level of LBL_PWRGOOD. A stopped port starts nothing (R287).
(Log 90: DEDUCED, unsafe; log 91: DESIGN CHOICE, safe.) -/
def State.phaseBoundary (s : State) (good : Bool) : State :=
  if !s.domOn dLABEL then s
  else
    let s := s.setBit F.LABEL_STATUS_PWRGOOD good
    if !good && !s.label.run.isEmpty then s.labelLost
    else if s.label.stopDue then s.labelStop
    else
      let s := s.labelAdvance
      (if s.hvd.pfwLow || s.bit F.LABEL_STATUS_STOPPED then s else s.labelStarts).labelScan

/-- LABEL_PWR_TIMEOUT (R285). -/
def State.labelPwrTimeout (s : State) : State :=
  if !s.domOn dLABEL || !s.bit F.LABEL_STATUS_PWREN || s.bit F.LABEL_STATUS_PWRGOOD then s
  else ((s.setFld F.LABEL_STATUS_PWREN 0).dropPending 3).labelPower 1

/-- LABEL_PWRGOOD_LOST (R285, R287). (Log 90: DEDUCED, unsafe.) -/
def State.labelPwrgoodLost (s : State) : State :=
  if !s.domOn dLABEL then s
  else
    let s := s.setFld F.LABEL_STATUS_PWRGOOD 0
    if s.label.run.isEmpty then s else s.labelLost

/-- LABEL_PWR_HOLD_EXPIRE (R285). -/
def execLabelPwrHoldExpire (s : State) : Host.Outcome State Fault Refusal :=
  .next (if s.domOn dLABEL && s.label.run.isEmpty then s.setFld F.LABEL_STATUS_PWREN 0 else s)

/-! ### Submission (R283) -/

/-- Bytes of the source of an update. -/
def LabelUpd.bytes (u : LabelUpd) : Nat := u.h * ((u.w + 1) / 2)

/-- The update that a descriptor describes (R46, R283). -/
def State.labelOf (_ : State) (c : Cage) : LabelUpd :=
  let d := c.desc
  let q := match c.owner with | .queue q => q | .chan _ => 0
  { panel := bitsOf d.param 0 3, mode := bitsOf d.param 8 8, x := d.dst.toNat % 65536, y := d.dst.toNat / 2 ^ 16 % 65536,
    w := d.dst.toNat / 2 ^ 32 % 65536, h := d.dst.toNat / 2 ^ 48, clear := bitOf d.ctl 11, queue := q, tag := d.tag,
    slot := 0, range := 0, len := 0, phase := 0, word := 0, store := [] }

/-- The reason for which a descriptor is refused, 0 for none (R283, cases 2 to 10). -/
def State.labelReason (s : State) (c : Cage) (u : LabelUpd) : Nat :=
  if !s.domOn dLABEL || !s.bit F.LABEL_CTRL_EN || !s.bit (F.LABEL_PANEL_GEOM_EN u.panel) then 1
  else if s.hvd.pfwLow || s.bit F.LABEL_STATUS_STOPPED || s.label.closing then 9
  else if s.lblW u.panel < u.x + u.w || s.lblH u.panel < u.y + u.h then 2
  else if !s.bit F.LABEL_WF_STATUS_LOADED || s.fld F.LABEL_WF_STATUS_MODES ≤ u.mode then 3
  else if c.desc.len.toNat < u.bytes then 4
  else if !u.clear && !bitOf c.desc.ctl 10 && s.label.recs.any fun r => r.touches u then 5
  else if s.lblBudget < scanCycles (s.lblW u.panel) (s.lblH u.panel) [u] then 7
  else if 64 ≤ (s.label.pend.filter fun x => x.panel == u.panel).length then 6
  else if 1024 ≤ s.label.recs.length + s.label.run.length + s.label.pend.length then 8
  else 0

/-- LABEL_REFUSED (R283, R291). -/
def State.labelRefused (s : State) (n : Nat) (c : Cage) (u : LabelUpd) (reason : Nat) : State :=
  let s :=
    if !s.domOn dLABEL then s
    else
      let s := s.bump (F.LABEL_PANEL_REFUSED_COUNT u.panel)
      let s := ((s.setFld F.LABEL_LAST_REFUSE_REASON reason).setFld F.LABEL_LAST_REFUSE_PANEL u.panel).setFld
        F.LABEL_LAST_REFUSE_QUEUE u.queue
      s.raise 0x44 0
  let s := s.post F.LABEL_EVT_RING 0x0702 [(3, u.panel), (4, reason), (13, u.queue), (16, u.tag), (16, s.qHead u.queue)]
  s.finish n c stREFUSED c.desc.len.toNat

/-- Bytes of the next burst into LANDING (R56). -/
def landLen (c : Cage) : Nat := min c.left (4096 - c.src % 4096)

/-- A LABEL ends early: it moves no more, and LANDING goes to the next (R283). -/
def State.landFail (s : State) (n : Nat) (c : Cage) (status : Nat) : State :=
  (s.unland n).finish n c status (c.desc.len.toNat - c.landed.length)

/-- The next burst into LANDING begins (R56, R58). (Log 89: DESIGN CHOICE, unsafe.) -/
def State.landBurst (s : State) (n : Nat) (c : Cage) : State :=
  match s.burstSrc c with
  | .invalid => s.landFail n c stADDRFAULT
  | .host a => (s.setCage n c).hostReadReq a (landLen c)
  | .dram .. => s.setCage n c

/-- The descriptor in a cage is checked, and its rows begin to move if LANDING is free (R283). (Log 89: DESIGN CHOICE, unsafe.) -/
def State.landTry (s : State) (n : Nat) (c : Cage) : State :=
  let u := s.labelOf c
  let r := s.labelReason c u
  if r != 0 then (s.unland n).labelRefused n c u r
  else
    let c := { c with phase := .landing, left := u.bytes }
    let s := if s.label.landing.any fun e => e.2 == n then s
             else { s with label := { s.label with landing := s.label.landing ++ [(u.panel, n)] } }
    if !s.landsNow n then s.setCage n c
    else
      let c := { c with unit := some [] }
      let s := if s.label.stale then
                 { s with label := { s.label with stale := false, cur := [], fill := s.fld F.LABEL_CTRL_CLEAR_ROW } } else s
      if !c.desc.srcHost && s.srcProtected c.src c.left then s.landFail n c stPROTECTED else s.landBurst n c

/-- A descriptor that waited for LANDING may have it now; it is checked again (R283). -/
def landGo : Nat → State → State
  | 0, s => s
  | fuel + 1, s =>
    let next := s.label.landing.find? fun e =>
      s.landsNow e.2 && match s.cage? e.2 with | some c => c.phase == .landing && c.unit.isNone | none => false
    match next with
    | none => s
    | some e =>
      match s.cage? e.2 with
      | none => s
      | some c => landGo fuel (s.landTry e.2 c)

/-- LANDING has been given back. (Log 89: DESIGN CHOICE, unsafe.) -/
def State.landNext (s : State) : State := landGo 32 s

/-- DESC_LABEL (R47, R48, R283). -/
def State.descLabel (s : State) (n : Nat) (c : Cage) : State :=
  let u := s.labelOf c
  if c.desc.dstHost then s.finish n c stREFUSED c.desc.len.toNat
  else if u.w = 0 || u.h = 0 then s.finish n c stOKZERO 0
  else (s.landTry n c).landNext

def execDescLabel (n : BitVec 5) (s : State) : Host.Outcome State Fault Refusal :=
  .next (s.onStart n.toNat 5 fun c => s.descLabel n.toNat c)

/-- HOIST_BURST_DONE of a LABEL (R56, R58, R64, R283). -/
def State.landBurstDone (s : State) (n : Nat) (c : Cage) (res : ReadRes) : State :=
  if !s.landsNow n || c.left = 0 then s
  else
    let k := landLen c
    let got : Option (List Byte) :=
      match s.burstSrc c, res with
      | .dram a _, _ => some (s.dramRead a k)
      | .host _, .data bs => some (fitBytes k bs)
      | _, _ => none
    let s :=
      match s.burstSrc c, got with
      | .invalid, _ => s.landFail n c stADDRFAULT
      | _, none => (s.noteRead res).landFail n c stPCIEERROR
      | _, some bs =>
        let s := s.countBytes k
        let c := { c with landed := c.landed ++ bs, src := c.src + k, left := c.left - k }
        if c.left = 0 then s.setCage n c else if !c.aborts.isEmpty then s.landFail n c stABORTED else s.landBurst n c
    s.landNext

/-- HOIST_BURST_DONE (R56 to R58, R61, R62, R283): the burst of a cage whose turn it is ends. (Log 127: DESIGN CHOICE, unsafe.) -/
def execHoistBurstDone (n : BitVec 5) (res : ReadRes) (w : BurstWaits) (s : State) : Host.Outcome State Fault Refusal :=
  .next
    (match s.cage? n.toNat with
     | some c =>
       if !s.moves n.toNat c || !s.burstTurn n.toNat c then s
       else
         let s := s.burstEnd n.toNat c w.lostBeats w.spWaits
         if c.phase = .bursts then s.burstDone n.toNat c res else s.landBurstDone n.toNat c res
     | none => s)

/-- The pixel of a row of landed bytes, packed as in R277. -/
def landedPixel (bs : List Byte) (w x y : Nat) : Nat :=
  let b := (bs.getD (y * ((w + 1) / 2) + x / 2) 0).toNat
  if x % 2 = 0 then b % 16 else b / 16

/-- LABEL_LANDED (R283): the rectangle goes into REQUEST, and the update into the panel's pending list. -/
def State.labelLanded (s : State) (n : Nat) (c : Cage) : State :=
  let u := s.labelOf c
  let put := fun (m : SMap Nat) (p : Nat × Nat) =>
    SMap.set (fun _ => 0) m (lblKey u.panel p.2 p.1) (landedPixel c.landed u.w (p.1 - u.x) (p.2 - u.y))
  let s := { s with label := { s.label with req := u.pixels.foldl put s.label.req, pend := s.label.pend ++ [u] } }
  ((s.unland n).finish n c stOK (c.desc.len.toNat - u.bytes)).landNext

def execLabelLanded (n : BitVec 5) (s : State) : Host.Outcome State Fault Refusal :=
  .next
    (match s.cage? n.toNat with
     | some c => if c.phase = .landing && c.left = 0 && s.landsNow n.toNat then s.labelLanded n.toNat c else s
     | none => s)

/-- PFW# has fallen: the port stops at the next phase boundary (R287). -/
def State.labelPfw (s : State) : State :=
  if s.domOn dLABEL then { s with label := { s.label with stopDue := true } } else s

end Sys2Proof.Machine
end

