-- ==== Sys2Proof/Machine/Mepa.lean ====
section
/-! DEFINITION. Images in the NAND (08, R194 to R196; 15, R353, R357, R358): partitions, the Mepa header and its checks,
and the loads of maps, overdrive tables and label waveforms. -/

namespace Sys2Proof.Machine

/-! ### Partitions (R329) -/

/-- First logical block and number of blocks of a partition. -/
def partition : Nat → Nat × Nat
  | 0 => (0, 256)
  | 1 => (256, 256)
  | 2 => (512, 4096)
  | 3 => (4608, 1024)
  | 4 => (5632, 8192)
  | _ => (13824, 2560)

/-- The partition of a logical block. -/
def partOf (b : Nat) : Nat := if b < 256 then 0 else if b < 512 then 1 else if b < 4608 then 2 else if b < 5632 then 3
  else if b < 13824 then 4 else 5

/-- Bytes of an erase block. -/
abbrev nandBlock : Nat := 262144

/-- What a byte of the NAND that nothing has written reads as. (Log 10: PRESUMED, unsafe.) -/
def nandDefault (_ : Nat) : Byte := 0xFF

/-- Bytes of the NAND at a logical address. -/
def State.nandRead (s : State) (a n : Nat) : List Byte := (List.range n).map fun i => SMap.get nandDefault s.mem.nand (a + i)

/-- An image location (R353): its partition, and its first byte; none if it lies beyond its partition. -/
def locStart (loc : Word) : Option Nat :=
  let p := bitsOf loc 16 3
  let b := bitsOf loc 0 14
  if p ≤ 5 && b < (partition p).2 then some (((partition p).1 + b) * nandBlock) else none

/-- Bytes from a location to the end of its partition. -/
def locRoom (loc : Word) : Nat := ((partition (bitsOf loc 16 3)).2 - bitsOf loc 0 14) * nandBlock

/-! ### The header and its checks (R194, R195) -/

/-- The fields of a header (R194). -/
structure Mepa where
  kind : Nat
  compressed : Bool
  ver : Nat
  width : Nat
  height : Nat
  stored : Nat
  len : Nat
  crc : Nat
deriving DecidableEq, Repr

/-- A number of `n` bytes at byte `i`. -/
def numAt (bs : List Byte) (i n : Nat) : Nat := ofLe ((bs.drop i).take n)

def mepaOf (h : List Byte) : Mepa :=
  ⟨numAt h 8 2, numAt h 10 2 % 2 == 1, numAt h 12 4, numAt h 16 2, numAt h 18 2, numAt h 20 4, numAt h 24 4, numAt h 28 4⟩

/-- Reasons of R195 and R358. -/
abbrev rsMAGIC : Nat := 1
abbrev rsHEADER : Nat := 2
abbrev rsKIND : Nat := 3
abbrev rsGEOMETRY : Nat := 4
abbrev rsDECODE : Nat := 5
abbrev rsPAYLOAD : Nat := 6
abbrev rsBANK : Nat := 7
abbrev rsSIGNATURE : Nat := 8
abbrev rsUNSUITABLE : Nat := 9

/-- Reasons 1 and 2: of the header alone. -/
def headerReason (h : List Byte) : Nat :=
  if numAt h 0 4 != 0x4150454D || numAt h 4 2 != 1 || numAt h 6 2 != 64 then rsMAGIC
  else if numAt h 60 4 != (crc32c (h.take 60)).toNat || 1 < numAt h 10 2 || ((h.drop 32).take 28).any (· != 0) then rsHEADER
  else 0

/-- The bytes of a header (R194). -/
def Mepa.bytes (m : Mepa) : List Byte :=
  let b := leBytes 4 0x4150454D ++ leBytes 2 1 ++ leBytes 2 64 ++ leBytes 2 m.kind ++ leBytes 2 (b2n m.compressed) ++ leBytes 4 m.ver ++
    leBytes 2 m.width ++ leBytes 2 m.height ++ leBytes 4 m.stored ++ leBytes 4 m.len ++ leBytes 4 m.crc ++ List.replicate 28 0
  b ++ leBytes 4 (crc32c b).toNat

/-- The payload after decompression, or reason 5 or 6. `want` is the length that the payload's definition gives it. -/
def mepaPayload (m : Mepa) (stored : List Byte) (want : List Byte → Option Nat) : Nat × List Byte :=
  let out : Option (List Byte) :=
    if m.compressed then
      let r := qzRun QzState.init stored m.len
      if r.stop = .done && r.out.length = m.len then some r.out else none
    else if m.stored = m.len then some stored else none
  match out with
  | none => (rsDECODE, [])
  | some p =>
    if want p != some m.len then (rsDECODE, [])
    else if (crc32c p).toNat != m.crc then (rsPAYLOAD, [])
    else (0, p)

/-- An image of a kind, checked in the order of R195: a reason, the header and the payload. `geom` is what the panel's
geometry is to be, where the kind carries it; `bytes` reads the image. -/
def mepaCheck (bytes : Nat → Nat → List Byte) (kind : Option Nat) (geom : Option (Nat × Nat))
    (want : Mepa → List Byte → Option Nat) : Nat × Mepa × List Byte :=
  let h := bytes 0 64
  let m := mepaOf h
  let r := headerReason h
  if r != 0 then (r, m, [])
  else if kind.any (· != m.kind) then (rsKIND, m, [])
  else if geom.any (· != (m.width, m.height)) then (rsGEOMETRY, m, [])
  else
    let p := mepaPayload m (bytes 64 m.stored) (want m)
    (p.1, m, p.2)

/-! ### Payload lengths -/

/-- The value that a scan register will hold when scan starts: the staged one while scan is stopped (R75), else the
committed one. -/
def State.scanWill (s : State) (off : Nat) : Word :=
  if s.bit F.SCAN_STATUS_RUNNING then s.rd off else (SMap.find? s.txn.direct off).getD (s.rd off)

/-- The committed panel width and height in pixels (R195). -/
def State.panelGeom (s : State) : Nat × Nat := (8 * bitsOf (s.rd R.SCAN_H_TIMING) 0 10, bitsOf (s.rd R.SCAN_V_TIMING) 0 14)

/-- The panel's width and height that hold once the splash is shown: the register list is still staged then (R354, step 7).
(Log 109: DEDUCED, unsafe.) -/
def State.splashGeom (s : State) : Nat × Nat :=
  (8 * bitsOf (s.scanWill R.SCAN_H_TIMING) 0 10, bitsOf (s.scanWill R.SCAN_V_TIMING) 0 14)

/-- The length of a payload by its kind (R147, R196, R203, R281, R357, R358). -/
def payloadLen (m : Mepa) (p : List Byte) : Option Nat :=
  match m.kind with
  | 1 => some (128 + numAt p 4 4)
  | 2 =>
    let bw := m.width / 2
    let bh := (m.height + 1) / 2
    some (128 + mapBytes bw bh (numAt p 10 1 != 0))
  | 3 => some (128 + 2 * odEntries)
  | 4 => if 1 ≤ numAt p 0 1 && numAt p 0 1 ≤ 32 then some (1088 + numAt p 0 1 * 262144) else none
  | 5 => some (64 + numAt p 2 2 * numAt p 8 4)
  | 6 => some (64 + numAt p 12 4 * 12)
  | _ => some m.len

/-- Which of the reasons an image fails with that has a page uncorrectable after ECC (R330): a stream may also decode and
miss its CRC. (Log 108: DESIGN CHOICE, unsafe.) -/
def State.uncorrReason (s : State) (compressed : Bool) : Nat × State :=
  if compressed then
    let d := s.draw
    (if d.1.toNat % 2 = 0 then rsDECODE else rsPAYLOAD, d.2)
  else (rsPAYLOAD, s)

/-! ### Commits by Foreman -/

/-- Foreman commits a set of writes in one transaction, AT_FRAME with ASAP (R147, R193, R354): in the lowest FREE slot. In
FATAL no commit is accepted (R371). (Log 109: DEDUCED, unsafe.) -/
def State.foremanCommit (s : State) (ws : List (Nat × Word)) : State :=
  match (List.range 64).find? fun n => s.fld (F.SLOT_STATE_STATE n) == slFREE && !s.fatal with
  | none => s
  | some n =>
    let s := s.setFld (F.SLOT_STATE_SEQ n) (s.fld (F.SLOT_STATE_SEQ n) + 1)
    let s := s.setFld (F.SLOT_STATE_STATE n) slOPEN
    let s := ((s.setFld (F.SLOT_WRITES_COUNT n) 0).setFld (F.SLOT_WRITES_CLAMPS n) 0).setFld (F.SLOT_FIRST_CLAMP_OFFSET n) 0
    let s := s.setSlot n SlotHid.init
    let s := s.each ws fun s w => (s.setFld (F.SLOT_STAGE_ADDR_OFFSET n) w.1).stage n w.2
    s.txnCommit n (BitVec.ofNat 32 (s.token n + 2 ^ 16 + 2 ^ 23))

/-! ### Loads -/

/-- A bank that a load would write is named by a staged or pending change (R144, R191), or updates of the label port run or
wait (R281). -/
def State.loadBlocked (s : State) (kind : Nat) : Bool :=
  (kind == 2 && s.mapSwitchPending) || (kind == 3 && s.odSwitchPending) ||
    (kind == 4 && !(s.label.run.isEmpty && s.label.pend.isEmpty))

/-- A bank or store that a load has begun to write loses its seal (R144, R191, R195). -/
def State.unseal (s : State) (kind : Nat) : State :=
  let clear (f : Fld) (b : Nat) : State := s.setFld f (s.fld f - s.fld f / 2 ^ b % 2 * 2 ^ b)
  match kind with
  | 2 => if s.domOn dDAWN then clear F.UNI_STAGE_STATUS_SEALED (1 - s.fld F.UNI_CTRL_ACTIVE_BANK) else s
  | 3 => if s.domOn dDAWN then clear F.OD_STAGE_STATUS_SEALED s.odStaging else s
  | 4 => if s.domOn dLABEL then s.setFld F.LABEL_WF_STATUS_LOADED 0 else s
  | _ => s

/-- The content of a map bank is written and sealed (R192, R196): reason 7 on a mismatch. -/
def State.loadMap (s : State) (p : List Byte) (commit : Bool) : Nat × State :=
  let bank := 1 - s.fld F.UNI_CTRL_ACTIVE_BANK
  let mode := numAt p 10 1 != 0
  let s := s.dramWrite (s.mapBase bank) (p.drop 128)
  let s := { s.setFld F.UNI_STAGE_STATUS_BUSY 1 with uniSeal := some ⟨bank, mode, s.blocksW, s.blocksH⟩ }
  let s := s.uniSealDone
  let crc := if bank = 0 then s.rd R.UNI_BANK0_CRC else s.rd R.UNI_BANK1_CRC
  if crc.toNat != numAt p 28 4 then (rsBANK, s)
  else if !commit then (0, s)
  else
    let lv (k : Nat) : Nat := numAt p (2 * k) 2
    let wt (k ch : Nat) : Nat := numAt p (12 + 3 * k + ch) 1
    let weights (ch : Nat) : Word := BitVec.ofNat 32 (wt 0 ch + wt 1 ch * 2 ^ 8 + wt 2 ch * 2 ^ 16 + wt 3 ch * 2 ^ 24)
    (0, s.foremanCommit
      [(R.UNI_CTRL, BitVec.ofNat 32 (1 + b2n mode * 2 + bank * 4)), (R.UNI_MAP_CRC, crc),
       (R.UNI_PLANE_A, BitVec.ofNat 32 (lv 0 + lv 1 * 2 ^ 16)), (R.UNI_PLANE_B, BitVec.ofNat 32 (lv 2 + lv 3 * 2 ^ 16)),
       (R.UNI_PLANE_C, BitVec.ofNat 32 (lv 4)), (R.UNI_WEIGHT_R, weights 0), (R.UNI_WEIGHT_G, weights 1),
       (R.UNI_WEIGHT_B, weights 2), (R.UNI_WEIGHT_4, BitVec.ofNat 32 (wt 4 0 + wt 4 1 * 2 ^ 8 + wt 4 2 * 2 ^ 16))])

/-- The content of an overdrive bank is written and sealed (R145, R147): reason 7 on a mismatch. -/
def State.loadOd (s : State) (p : List Byte) (commit : Bool) : Nat × State :=
  let bank := s.odStaging
  let body := p.drop 128
  let put (h : Half) (t : SMap Nat) (e : Nat) : SMap Nat := SMap.set (fun _ => 0) t (odKey h bank e) (numAt body (2 * e) 2)
  let s := s.each halves fun s h =>
    if s.domOn (halfDomain h) then
      { s with od := { s.od with tables := (List.range odEntries).foldl (put h) s.od.tables } }
    else s
  let s := { s.setFld F.OD_STAGE_STATUS_BUSY 1 with od := { s.od with sealing := some bank } }
  let s := s.odSealDone
  let crc := if bank = 0 then s.rd R.OD_BANK0_CRC else s.rd R.OD_BANK1_CRC
  if crc.toNat != numAt p 16 4 || s.fld F.OD_STAGE_STATUS_SEALED / 2 ^ bank % 2 = 0 then (rsBANK, s)
  else if !commit then (0, s)
  else
    (0, s.foremanCommit
      [(R.OD_CTRL, putBits (s.rd R.OD_CTRL ||| 1#32) 4 1 bank), (R.OD_TABLE_CRC, crc),
       (R.OD_TEMP_PTS_LO, BitVec.ofNat 32 (numAt p 0 4)), (R.OD_TEMP_PTS_HI, BitVec.ofNat 32 (numAt p 4 4)),
       (R.OD_BUCKET_A, BitVec.ofNat 32 (numAt p 8 2 + numAt p 10 2 * 2 ^ 16)),
       (R.OD_BUCKET_B, BitVec.ofNat 32 (numAt p 12 2))])

/-- One register of the length window, loaded and checked (R281, R88). -/
def State.loadWfLen (s : State) (i : Nat) (v : Nat) : State :=
  let lim (x : Nat) : Nat := max 1 (min 256 x)
  let new := lim (v % 65536) + lim (v / 65536) * 65536
  let off := R.LABEL_WF_LEN i
  let s := s.wr off (BitVec.ofNat 32 new)
  if new = v then s else s.clampReport none false off (BitVec.ofNat 32 v) (BitVec.ofNat 32 new)

/-- A waveform image goes into the waveform store (R281). -/
def State.loadWf (s : State) (m : Mepa) (p : List Byte) : State :=
  let modes := numAt p 0 1
  let bounds : List (Nat × Word) := (List.range 4).map fun n =>
    (R.LABEL_TEMP_BNDn n, BitVec.ofNat 32 (if n = 3 then numAt p 16 3 else numAt p (4 + 4 * n) 4))
  let ctx := s.each bounds fun s b => s.wr b.1 b.2
  let s := s.each bounds fun s b => s.applyIn ctx none selNow b.1 b.2
  let s := s.each (List.range (8 * modes)) fun s i => s.loadWfLen i (numAt p (64 + 4 * i) 4)
  let wf := (List.range (modes * 262144)).foldl
    (fun w i => SMap.set (fun _ => 0) w i ((p.drop 1088).getD i 0)) ([] : SMap Byte)
  let s := { s with label := { s.label with wf := wf } }
  ((s.setFld F.LABEL_WF_STATUS_LOADED 1).setFld F.LABEL_WF_STATUS_MODES modes).setFld F.LABEL_WF_VER_VER m.ver

/-- The domains in which a load writes are ON. -/
def State.loadDomains (s : State) (kind : Nat) : Bool :=
  match kind with
  | 2 | 3 => s.domOn dDAWN
  | 4 => s.domOn dLABEL
  | _ => true

/-- The splash image is shown (R357): its pixels go into the highest surface frames, its pages are mapped, and one layer
is committed with the background colour. (Log 109: DEDUCED, unsafe.) -/
def State.showSplash (s : State) (first : Nat) (m : Mepa) (p : List Byte) : Nat × State :=
  let w := numAt p 0 2
  let h := numAt p 2 2
  let pitch := numAt p 8 4
  let count := (h * pitch + frameBytes - 1) / frameBytes
  if w = 0 || m.width < w || h = 0 || m.height < h || 2 ^ 20 < first + count then (rsGEOMETRY, s)
  else
    let f0 := s.rsvdFirst - count
    let s := s.dramWrite (f0 * frameBytes) (p.drop 64)
    let s := s.each (List.range count) fun s i => s.pageEntryWrite (first + i) (.both (BitVec.ofNat 64 ((f0 + i) * frameBytes + 1)))
    let s := (s.setFld F.FORE_SPLASH_PAGES_FIRST first).setFld F.FORE_SPLASH_PAGES_COUNT count
    let a := first * frameBytes
    (0, s.foremanCommit
      [(R.LAYER_ADDR_LO 0, BitVec.ofNat 32 a), (R.LAYER_ADDR_HI 0, BitVec.ofNat 32 (a / 2 ^ 32)),
       (R.LAYER_POS 0, BitVec.ofNat 32 (numAt p 16 4)), (R.LAYER_SIZE 0, BitVec.ofNat 32 (w + h * 2 ^ 16)),
       (R.LAYER_FMT 0, BitVec.ofNat 32 (pitch + numAt p 4 1 % 16 * 2 ^ 20 + 2 ^ 31)), (R.SCAN_LIST, 1),
       (R.SCAN_BG_COLOR, BitVec.ofNat 32 (numAt p 12 4))])

/-- An image is loaded from the NAND (R195, R354, R360): a reason, 0 for success. A splash goes to page `first`. An image
whose header passes has begun to be written when its payload fails. (Log 109: DEDUCED, unsafe.) -/
def State.loadImage (s : State) (kind : Nat) (loc : Word) (commit bad : Bool) (first : Nat) : Nat × State :=
  match locStart loc with
  | none => (rsMAGIC, s)
  | some a =>
    let geom := if kind = 2 then some s.panelGeom else if kind = 5 then some s.splashGeom else none
    let r := mepaCheck (fun o n => s.nandRead (a + o) n) (some kind) geom payloadLen
    let x := if bad && (r.1 = 0 || rsDECODE ≤ r.1) then s.uncorrReason r.2.1.compressed else (r.1, s)
    if x.1 != 0 then (x.1, if rsDECODE ≤ x.1 then x.2.unseal kind else x.2)
    else
      match kind with
      | 2 => (x.2.unseal kind).loadMap r.2.2 commit
      | 3 => (x.2.unseal kind).loadOd r.2.2 commit
      | 4 => (0, (x.2.unseal kind).loadWf r.2.1 r.2.2)
      | _ => x.2.showSplash first r.2.1 r.2.2

/-! ### Firmware images (R358) -/

/-- Revision ID of the part (00). -/
abbrev revisionId : Nat := 0x10

/-- The checks of a firmware image (R195, R358): a reason, and the payload. (Log 7: DESIGN CHOICE, safe.) -/
def firmwareCheck (bytes : Nat → Nat → List Byte) : Nat × List Byte :=
  let r := mepaCheck bytes (some 1) none payloadLen
  let p := r.2.2
  if r.1 != 0 then (r.1, [])
  else if !signatureValid (p.take 16 ++ p.drop 128) ((p.drop 16).take 96) then (rsSIGNATURE, [])
  else if 3145728 < numAt p 4 4 || revisionId < numAt p 12 1 then (rsUNSUITABLE, [])
  else (0, p)

/-- The firmware image in partition 0 (A) or 1 (B). -/
def State.firmwareIn (s : State) (image : Nat) : Nat × List Byte :=
  firmwareCheck fun o n => s.nandRead ((partition image).1 * nandBlock + o) n

end Sys2Proof.Machine
end

