-- ==== Sys2Proof/Machine/Maint.lean ====
section
/-! DEFINITION. SRAM cells, the march engine, Canary, the scratchpad, DRAM scrub, the map store's upkeep, aging checkpoints
and restores, and the maintenance arbiter (14, R319 to R347; 08, R197 to R206). -/

namespace Sys2Proof.Machine

/-! ### Cells and repairs (R319 to R322) -/

/-- Power domain of a cell (R319). -/
def cellDomain (c : Nat) : Nat :=
  if c < 512 then dSTORE
  else if c < 896 then dDAWN
  else if c < 1280 then dDUSK
  else if c < 1536 then dDAWN
  else if c < 1792 then dDUSK
  else if c < 1920 then dDAWN
  else if c < 2048 then dDUSK
  else if c < 2176 then dHOST
  else if c < 2432 then dSTORE
  else if c < 2688 then dFORE
  else if c < 3712 then dHOST
  else if c < 3968 then dLABEL
  else if c < 3982 then dDAWN
  else if c < 3996 then dDUSK
  else if c < 4012 then dCMP
  else if c < 4021 then dHOST
  else dSTORE

/-- The cell belongs to the remote-surface cache. -/
def rcacheCell (c : Nat) : Bool := 2688 ≤ c && c < 3712

/-- Words of the repair records (R322). -/
abbrev repairWords : List Nat := (List.range 1024).map (persLog + 8192 + ·)

/-- A repair record (R322). -/
def repairWord (cell row spare : Nat) : Word := BitVec.ofNat 32 (cell + row * 2 ^ 12 + spare * 2 ^ 20 + 2 ^ 31)

/-- SRAMC and the other blocks of this chapter report into ring MAINT.EVT.RING (R345). -/
def State.maintPost (s : State) (page code : Nat) (fields : List (Nat × Nat)) : State :=
  (s.raise page 0).post F.MAINT_EVT_RING code fields

/-- SRAMC counts a repair, or a cell without a spare row: in its register, or, while STORE is OFF, for its registers to show
once STORE wakes (R322, R337). -/
def State.sramcCount (s : State) (f : Fld) : State :=
  if s.domState dSTORE != 0 then s.bump f
  else if f = F.SRAMC_REPAIRS_COUNT then { s with mem := { s.mem with offRepairs := s.mem.offRepairs + 1 } }
  else { s with mem := { s.mem with offExhausted := s.mem.offExhausted + 1 } }

/-- A failing row is repaired (R321, R322); `source` is 1 READ, 2 CANARY or 3 MARCH. (Log 104: DEDUCED, unsafe.) -/
def State.repairRow (s : State) (cell row source : Nat) : State :=
  let used := SMap.get (fun _ => 0) s.mem.spares cell
  if 2 ≤ used then
    if s.mem.exhausted.contains cell then s
    else
      let s := { s with mem := { s.mem with exhausted := cell :: s.mem.exhausted } }
      (s.sramcCount F.SRAMC_EXHAUSTED_COUNT).maintPost 0x09 0x0901 [(12, cell)]
  else
    let s := { s with mem := { s.mem with
      spares := SMap.set (fun _ => 0) s.mem.spares cell (used + 1),
      repairs := SMap.insert s.mem.repairs (cell * 256 + row) used } }
    let free := repairWords.find? fun i => s.persRead i == 0
    let s := match free with | some i => s.persWrite i (repairWord cell row used) | none => s
    (s.sramcCount F.SRAMC_REPAIRS_COUNT).maintPost 0x09 0x0900
      [(12, cell), (8, row), (1, used), (2, source), (1, b2n free.isSome)]

/-- The counts that SRAMC's registers could not take while STORE was OFF. -/
def State.sramcWoke (s : State) : State :=
  let m := s.mem
  { (s.bump F.SRAMC_REPAIRS_COUNT m.offRepairs).bump F.SRAMC_EXHAUSTED_COUNT m.offExhausted with
    mem := { m with offRepairs := 0, offExhausted := 0 } }

/-- A corrected error of a row counts; at CORR_LIMIT the row is repaired (R321). -/
def State.rowCorrected (s : State) (cell row : Nat) : State :=
  let k := cell * 256 + row
  let n := SMap.get (fun _ => 0) s.mem.corrs k + 1
  let s := { s with mem := { s.mem with corrs := SMap.set (fun _ => 0) s.mem.corrs k n } }
  if s.fld F.SRAMC_REPAIR_CFG_CORR_LIMIT ≤ n && (SMap.find? s.mem.repairs k).isNone then s.repairRow cell row 1 else s

/-- A read of an SRAM word for the block of a page finds an error (R320, R321, R346). `stated`: a chapter states what an
uncorrectable one does to its requester, so that no BLOCK_ERROR reports it. A spare row is not itself repaired.
(Log 104: DEDUCED, unsafe.) -/
def State.sramError (s : State) (page : Nat) (w : CellWord) (uncorr stated : Bool) : State :=
  let cell := w.cell.toNat
  let row := w.word.toNat / 8
  if 2064 ≤ w.word.toNat || !s.domOn (cellDomain cell) || !s.domOn (pageDomain page) then s
  else
    let s := s.wr R.SRAMC_LAST_ERR (BitVec.ofNat 32 (cell + w.word.toNat * 2 ^ 12 + b2n uncorr * 2 ^ 31))
    if uncorr then
      let s := s.bump F.SRAMC_UNCORR_TOTAL_COUNT
      let s := if stated then s.bump (hdrFld page 0x20 0 32) else s.blockError page 1
      if row < 256 then s.repairRow cell row 1 else s
    else
      let s := (s.bump F.SRAMC_CORR_TOTAL_COUNT).blockCorrs page
      if row < 256 then s.rowCorrected cell row else s

/-- At COLD every VALID record is applied, in ascending word order (R322). (Log 104: DEDUCED, unsafe.) -/
def State.applyRepairs (s : State) : State :=
  s.each repairWords fun s i =>
    let w := s.persRead i
    if !bitOf w 31 then s
    else
      let cell := bitsOf w 0 12
      let m := { s.mem with
        repairs := SMap.insert s.mem.repairs (cell * 256 + bitsOf w 12 8) (bitsOf w 20 1),
        spares := SMap.set (fun _ => 0) s.mem.spares cell (max (SMap.get (fun _ => 0) s.mem.spares cell) (bitsOf w 20 1 + 1)) }
      ({ s with mem := m }).sramcCount F.SRAMC_REPAIRS_COUNT

/-! ### The scratchpad (R323 to R325) -/

/-- Word `i` of the scratchpad. -/
def State.scratch (s : State) (i : Nat) : Word := SMap.get (fun _ => 0) s.mem.scratch i

def State.setScratch (s : State) (i : Nat) (v : Word) : State :=
  { s with mem := { s.mem with scratch := SMap.set (fun _ => 0) s.mem.scratch i v } }

/-- The word after two writes of the same cycle: a byte that Foreman enables holds Foreman's data (R325). -/
def mergeBytes (host fore : Word) (en : BitVec 4) : Word :=
  BitVec.ofNat 32 ((List.range 4).foldl
    (fun a i => a + bitsOf (if en.getLsbD i then fore else host) (8 * i) 8 * 2 ^ (8 * i)) 0)

/-- A host write through the window (R323 to R325). (Log 103: DESIGN CHOICE, unsafe.) -/
def State.scratchWrite (s : State) (off : Nat) (v : Word) (m : SpMeet) : State :=
  if !s.bit F.SRAMC_SP_CFG_HOST_WR then s.bump F.SRAMC_SP_DROPPED_COUNT
  else if !s.domOn dFORE then s
  else
    let i := (off - 0x400000) / 4
    match m with
    | .free => s.setScratch i v
    | .conflict n => (s.setScratch i v).bump F.SRAMC_SP_STALLS_COUNT (if s.bit F.SRAMC_SP_CFG_MODE then 1 else min 3 n)
    | .sameWord d en => (s.setScratch i (mergeBytes v d en)).bump F.SRAMC_COLLISIONS_COUNT

/-- SCRATCHPAD_WRITE (R324). -/
def execScratchpadWrite (off : BitVec 24) (v : Word) (m : SpMeet) (s : State) : Host.Outcome State Fault Refusal :=
  .next (s.hostWriteTo R.SRAMC_SP_CFG fun s => s.scratchWrite off.toNat v m)

/-! ### The map store (R329 to R331) -/

/-- The physical block that serves a logical one. -/
def State.physBlock (s : State) (b : Nat) : Nat := SMap.get (fun b => b) s.mem.remap b

/-- Unused pool blocks (R347). -/
def State.poolLeft (s : State) : Nat := 2558 - s.mem.poolTaken + s.mem.poolBack.length

/-- A block leaves the pool. -/
def State.poolTake (s : State) : Option (Nat × State) :=
  if s.mem.poolTaken < 2558 then
    some (13826 + s.mem.poolTaken, { s with mem := { s.mem with poolTaken := s.mem.poolTaken + 1 } })
  else
    match s.mem.poolBack with
    | [] => none
    | b :: rest => some (b, { s with mem := { s.mem with poolBack := rest } })

/-- A physical block is erased. -/
def State.eraseBlock (s : State) (b : Nat) : State :=
  { s with mem := { s.mem with erases := SMap.set (fun _ => 0) s.mem.erases b (SMap.get (fun _ => 0) s.mem.erases b + 1) } }

/-- (Log 108: DESIGN CHOICE, unsafe.) -/
def State.remapTo (s : State) (logical phys : Nat) : State :=
  { s with mem := { s.mem with remap := SMap.set (fun b => b) s.mem.remap logical phys } }

/-- MAPS shows what the remap table in the NAND says (R347). -/
def State.mapsShow (s : State) : State :=
  if !s.domOn dMAP then s
  else
    let top := s.mem.erases.foldl (fun a e => max a e.2) 0
    ((s.setFld F.MAPS_POOL_LEFT_COUNT (min 4095 s.poolLeft)).setFld F.MAPS_BAD_BLOCKS_COUNT (min 16383 s.mem.bad)).setFld
      F.MAPS_ERASES_MAX_COUNT (min 131071 top)

/-- A logical block failed to program or erase: a pool block replaces it (R329). -/
def State.badBlock (s : State) (logical : Nat) : State :=
  match s.poolTake with
  | none => s
  | some (b, s) =>
    let old := s.physBlock logical
    let s := s.remapTo logical b
    let s := { s with mem := { s.mem with bad := s.mem.bad + 1 } }
    s.mapsShow.maintPost 0x0B 0x0903 [(14, old), (3, partOf logical), (16, s.poolLeft)]

/-- A block is rewritten: copied to a pool block, then the old one is erased and goes back (R331). -/
def State.rewriteBlock (s : State) (logical : Nat) : State :=
  match s.poolTake with
  | none => s
  | some (b, s) =>
    let old := s.physBlock logical
    let s := (s.remapTo logical b).eraseBlock old
    { s with mem := { s.mem with poolBack := s.mem.poolBack ++ [old] } }

/-- What an activity met in the NAND (R329 to R331). (Log 108: DESIGN CHOICE, unsafe.) -/
def State.nandReport (s : State) (r : ActReport) : State :=
  let s := (s.bump F.MAPS_CORR_BITS_COUNT r.corrBits).bump F.MAPS_UNCORR_PAGES_COUNT r.uncorrPages
  let weak := (r.weakBlocks.map (·.toNat)).filter fun b => b < 5632
  let s := { s with mem := { s.mem with refresh := (s.mem.refresh ++ weak).eraseDups } }
  s.each (r.badBlocks.map (·.toNat)) State.badBlock

/-- Bytes are programmed at a logical address; the blocks they lie in are erased first. -/
def State.nandProgram (s : State) (a : Nat) (bs : List Byte) : State :=
  let blocks := (List.range ((bs.length + nandBlock - 1) / nandBlock)).map (a / nandBlock + ·)
  let s := s.each blocks fun s b => s.eraseBlock (s.physBlock b)
  let put := fun (acc : SMap Byte × Nat) (b : Byte) => (SMap.set nandDefault acc.1 acc.2 b, acc.2 + 1)
  ({ s with mem := { s.mem with nand := (bs.foldl put (s.mem.nand, a)).1 } }).mapsShow

/-! ### Aging records (R202 to R205) -/

/-- Blocks of the panel. -/
def State.ageBlocks (s : State) : Nat := s.blocksW * s.blocksH

/-- The words of one of the two arrays. -/
def State.ageWord (s : State) (base i : Nat) : Nat := ofLe (s.dramRead (base * frameBytes + 4 * i) 4)

/-- What a record of the ring holds (R203). -/
structure AgeImage where
  seq : Word
  delta : Bool
  baseSeq : Word
  blocks : Nat
  accCrc : Word
  words : List Word
deriving DecidableEq, Repr

/-- First byte of a record of the ring (R329). -/
def RingRec.addr (r : RingRec) : Nat := ((partition 4).1 + r.block) * nandBlock

/-- Erase blocks that `n` bytes take. -/
def eraseBlocks (n : Nat) : Nat := (n + nandBlock - 1) / nandBlock

/-- The payload of a record, read as R203 lays it out. -/
def ageImageOf (p : List Byte) : AgeImage :=
  ⟨BitVec.ofNat 32 (numAt p 0 4), numAt p 4 1 != 0, BitVec.ofNat 32 (numAt p 8 4), numAt p 12 4, BitVec.ofNat 32 (numAt p 16 4),
    (List.range (numAt p 12 4 * 3)).map fun i => BitVec.ofNat 32 (numAt p (64 + 4 * i) 4)⟩

/-- A record as it stands in the NAND, if it passes R195; `geom` is the geometry that it has to match. -/
def State.ageImage (s : State) (geom : Option (Nat × Nat)) (r : RingRec) : Option AgeImage :=
  let x := mepaCheck (fun o n => s.nandRead (r.addr + o) n) (some 6) geom payloadLen
  if x.1 = 0 then some (ageImageOf x.2.2) else none

/-- The records that pass R195, oldest first, each with its place. -/
def State.ageRecords (s : State) : List (RingRec × AgeImage) :=
  s.age.ring.filterMap fun r => (s.ageImage none r).map fun a => (r, a)

/-- SEQ of the newest record that passes R195. -/
def State.lastSeq (s : State) : Option Word := (s.ageRecords.getLast?).map (·.2.seq)

/-- The records of the newest complete chain: the newest base and the deltas that follow it (R202). -/
def State.chainRecords (s : State) : List (RingRec × AgeImage) :=
  let newer := s.ageRecords.reverse.takeWhile (·.2.delta)
  ((s.ageRecords.reverse.drop newer.length).take 1) ++ newer.reverse

/-- The next record is a BASE (R202, step 1). -/
def State.ckptBase (s : State) : Bool :=
  s.age.needBase || s.chainRecords.all (·.2.delta) || s.fld F.AGE_CKPT_CFG_BASE_EVERY - 1 ≤ s.chainRecords.length - 1

/-- SEQ of the next record, one more than that of the last one written; the spec does not state the first one.
(Log 75: DESIGN CHOICE, unsafe.) -/
def State.nextSeq (s : State) : Word × State :=
  match s.age.ring.getLast? with
  | some r => (r.seq + 1, s)
  | none => s.draw

/-- SEQ of the base of the chain that the next record joins. -/
def State.chainBase (s : State) : Option Word := (s.chainRecords.head?).map (·.2.seq)

/-- The payload of the next record, with the shadow array brought up to the live one (R202, R203). -/
def State.captureAge (s : State) (seq : Word) (base : Bool) : List Byte × State :=
  let live := s.fld F.AGE_ACC_BASE_LIVE
  let shadow := s.fld F.AGE_ACC_BASE_SHADOW
  let n := s.ageBlocks * 3
  let words := (List.range n).map fun i =>
    let v := BitVec.ofNat 32 (s.ageWord live i)
    if base then v else v - BitVec.ofNat 32 (s.ageWord shadow i)
  let bseq := if base then seq else s.chainBase.getD seq
  let s := s.dramWrite (shadow * frameBytes) (s.dramRead (live * frameBytes) (4 * n))
  let crc := crc32c (s.dramRead (shadow * frameBytes) (4 * n))
  (leBytes 4 seq.toNat ++ leBytes 4 (b2n (!base)) ++ leBytes 4 bseq.toNat ++ leBytes 4 s.ageBlocks ++ leBytes 4 crc.toNat ++
    List.replicate 44 0 ++ wordBytes words, s)

/-- A record as an image of KIND 6 (R194, R202, R203): the QZ stream is that of CMP's coder at its default depth. CONTENT_VER
is a free value. (Log 75: DESIGN CHOICE, unsafe.) -/
def State.ageBytes (s : State) (p : List Byte) : List Byte × State :=
  let z := (encodeStream 8 (2 * p.length + 1024) false p).1
  let d := s.draw
  let g := s.panelGeom
  ((Mepa.bytes ⟨6, true, d.1.toNat, g.1, g.2, z.length, p.length, (crc32c p).toNat⟩) ++ z, d.2)

/-- Where the next record goes (R202): the next erase block, or the ring's first where the rest of the ring is too short; nowhere
if a record of the newest complete chain stands there. (Log 75: DESIGN CHOICE, unsafe.) -/
def State.ringPlace (s : State) (n : Nat) : Option Nat :=
  let k := eraseBlocks n
  let b := if (partition 4).2 < s.age.ringPos + k then 0 else s.age.ringPos
  if s.chainRecords.any fun r => r.1.block < b + k && b < r.1.block + eraseBlocks r.1.len then none else some b

/-- Bytes are written to the ring as a record; older records whose blocks that erases are gone (R202). -/
def State.ringWriteAge (s : State) (b : Nat) (seq : Word) (bs : List Byte) : State :=
  let k := eraseBlocks bs.length
  let keep := s.age.ring.filter fun r => !(r.block < b + k && b < r.block + eraseBlocks r.len)
  let r : RingRec := ⟨b, bs.length, seq⟩
  { s.nandProgram r.addr bs with age := { s.age with ring := keep ++ [r], ringPos := b + k } }

/-- A checkpoint waits or runs. -/
def State.ckptBusy (s : State) : Bool := s.age.wanted || (s.mem.running ++ s.mem.queued).any fun m => m.act == 3

/-- CKPT_BUSY follows (R211). -/
def State.ckptShow (s : State) : State := if s.domOn dPANEL then s.setBit F.AGE_STATUS_CKPT_BUSY s.ckptBusy else s

/-- The end of a checkpoint (R202, R205, R209): 0 OK, 1 NAND_ERROR, 2 ABANDONED. A record that was being written and
failed leaves its place without a header, so that it fails R195; one for which the ring has no place fails too.
(Log 75: DESIGN CHOICE, unsafe.) -/
def State.ckptEnd (s : State) (status : Nat) : State :=
  let base := s.ckptBase
  let x := s.nextSeq
  let p := x.2.captureAge x.1 base
  let b := p.2.ageBytes p.1
  let place := s.ringPlace b.1.length
  let status := if status = 0 && place.isNone then 1 else status
  let s := match place with
    | some k => b.2.ringWriteAge k x.1 (if status = 0 then b.1 else b.1.map fun _ => 0xFF)
    | none => b.2
  let s := { s with age := { s.age with needBase := status != 0, made := s.age.made + b2n (status == 0) } }
  let s := if !s.domOn dPANEL then s
           else
             let s := if status = 0 then (s.setFld F.AGE_CKPT_SEQ_SEQ x.1.toNat).bump F.AGE_CKPT_COUNT_COUNT else s
             s.raise 0x40 3
  let d := if status = 0 then (BitVec.ofNat 32 b.1.length, s) else s.draw
  d.2.post F.AGE_EVT_RING 0x0215 [(4, status), (1, b2n (!base)), (32, x.1.toNat), (32, d.1.toNat)]

/-- One record applied to the words of an array (R204). -/
def applyRec (words : List Word) (r : AgeImage) : List Word :=
  words.mapIdx fun i w =>
    let v := r.words.getD i 0
    if r.delta then w + v else v

/-- Apply the deltas that follow, one by one, until one is missing or fails: the words, the last SEQ reached, and whether a
record was left. -/
def chainGo : List (Option AgeImage) → List Word → Word → Word → List Word × Word × Bool
  | [], words, _, seq => (words, seq, false)
  | none :: _, words, _, seq => (words, seq, true)
  | some r :: rest, words, base, seq =>
    let w := applyRec words r
    if r.delta && r.seq == seq + 1 && r.baseSeq == base && crc32c (wordBytes w) == r.accCrc then chainGo rest w base r.seq
    else (words, seq, true)

/-- The newest base that may be used, and the records after it. -/
def newestBase (blocks : Nat) : List (Option AgeImage) → Option (AgeImage × List (Option AgeImage))
  | [] => none
  | r :: rest =>
    match newestBase blocks rest with
    | some x => some x
    | none =>
      match r with
      | some a => if !a.delta && a.blocks == blocks then some (a, rest) else none
      | none => none

/-- A restore of both arrays from the ring (R204): 0 COMPLETE, 1 NONE, 2 PARTIAL, with the SEQs it names.
(Log 75: DESIGN CHOICE, unsafe.) -/
def State.restoreAge (s : State) : Nat × Option (Word × Word) × State :=
  let n := s.ageBlocks * 3
  let write (s : State) (ws : List Word) : State :=
    let bs := wordBytes ws
    (s.dramWrite (s.fld F.AGE_ACC_BASE_LIVE * frameBytes) bs).dramWrite (s.fld F.AGE_ACC_BASE_SHADOW * frameBytes) bs
  match newestBase s.ageBlocks (s.age.ring.map (s.ageImage (some s.panelGeom))) with
  | none => (1, none, write s (List.replicate n 0))
  | some (b, after) =>
    let r := chainGo after (applyRec (List.replicate n 0) b) b.seq b.seq
    (if r.2.2 then 2 else 0, some (b.seq, r.2.1), write s r.1)

/-- AGE_RESTORE_DONE (R198, R204): Foreman, with the domains it needs, ends the restore and sets READY.
(Log 75: DESIGN CHOICE, unsafe.) -/
def State.ageRestoreDone (s : State) : State :=
  if !(s.boot.foreman && s.domOn dFORE && s.domOn dPANEL && s.domOn dSTORE) || s.bit F.AGE_STATUS_READY then s
  else if !s.age.intact && !s.domOn dMAP then s
  else
    let s := (s.setFld F.AGE_ACC_BASE_LIVE 3886).setFld F.AGE_ACC_BASE_SHADOW 3934
    let r := if s.age.intact then (0, s.lastSeq.map fun n => (n, n), s) else s.restoreAge
    let s := r.2.2
    let s := { s with age := { s.age with needBase := if s.age.intact then s.age.needBase else r.1 != 0, intact := true } }
    let s := ((s.setFld F.AGE_STATUS_READY 1).setFld F.AGE_STATUS_RESTORE r.1).raise 0x40 0
    let q := match r.2.1 with
      | some p => (p.1, p.2, s)
      | none => (s.draw.1, s.draw.2.draw.1, s.draw.2.draw.2)
    q.2.2.post F.AGE_EVT_RING 0x0214 [(4, r.1), (32, q.1.toNat), (32, q.2.1.toNat)]

def execAgeRestoreDone (s : State) : Host.Outcome State Fault Refusal := .next s.ageRestoreDone

/-! ### The arbiter (R342 to R344) -/

/-- Tokens that an activity claims (R342). (Log 106: DESIGN CHOICE, unsafe.) -/
def MaintReq.tokens (m : MaintReq) : List Nat :=
  match m.act with
  | 0 | 1 => [0]
  | 2 => if 2 ≤ m.kind && m.kind ≤ 4 then [1, m.kind] else [1]
  | 3 => [1, 5]
  | 4 => [6]
  | 5 => [1]
  | _ => [1, 7]

/-- Domains that an activity needs ON (R342). -/
def MaintReq.needs (m : MaintReq) : List Nat :=
  match m.act with
  | 0 => (dSTORE :: (List.range m.count).map fun i => cellDomain (m.first + i)).eraseDups
  | 4 => [dSTORE]
  | 1 => []
  | 5 => [dFORE, dMAP]
  | _ => [dFORE, dMAP, dSTORE]

/-- A request for the same activity; of MAPLOADs, the same kind and location (R343). (Log 106: DESIGN CHOICE, unsafe.) -/
def MaintReq.same (a b : MaintReq) : Bool := a.act == b.act && (a.act != 2 || (a.kind == b.kind && a.loc == b.loc))

/-- An activity of the plain kind. -/
def plainReq (act : Nat) : MaintReq := ⟨act, 0, 0, 0, 0, false, 0⟩

/-- Claims overlap. -/
def MaintReq.overlaps (a b : MaintReq) : Bool := a.tokens.any b.tokens.contains

/-- STATE, QUEUE and CLAIMS (R347). -/
def State.maintShow (s : State) : State :=
  let st (a : Nat) : Nat := if s.mem.running.any (·.act == a) then 2 else if s.mem.queued.any (·.act == a) then 1 else 0
  let q := (List.range 8).foldl
    (fun t i => t + (match s.mem.queued[i]? with | some m => m.act | none => 7) * 8 ^ i) 0
  let c := (s.mem.running.flatMap (·.tokens)).eraseDups.foldl (fun t k => t + 2 ^ k) 0
  (((s.setFld F.MAINT_STATE_STATE ((List.range 7).foldl (fun t a => t + st a * 4 ^ a) 0)).setFld F.MAINT_QUEUE_ENTRIES q).setFld
    F.MAINT_CLAIMS_TOKENS c).ckptShow

/-- Both banks of a half lose their seals, and its overdrive passes through (R339). -/
def State.odCleared (s : State) (h : Half) : State :=
  let s := { s with od := { s.od with
    tables := SMap.drop (fun k => k / 131072 == halfNum h) s.od.tables,
    lostDawn := s.od.lostDawn || h == Half.dawn, lostDusk := s.od.lostDusk || h == Half.dusk } }
  if s.domOn dDAWN then s.setFld F.OD_STAGE_STATUS_SEALED 0 else s

/-- What a DESTRUCTIVE march does to the cells of its range (R339). -/
def State.marchClears (s : State) (m : MaintReq) : State :=
  let hits (a b : Nat) : Bool := m.first < b && a < m.first + m.count
  let s := if hits 2688 3712 then s.rcacheInvalidate fun _ => true else s
  let s := s.each halves fun s h =>
    let o := halfNum h
    let s := if hits (1792 + 128 * o) (1920 + 128 * o) then s.setHist h { s.hist h with causeCmd := true } else s
    if hits (3968 + 14 * o) (3982 + 14 * o) then s.odCleared h else s
  s

/-- An activity starts. -/
def State.maintStart (s : State) (m : MaintReq) : State :=
  let s := { s with mem := { s.mem with running := s.mem.running ++ [{ m with start := s.keepCycles }] } }
  match m.act with
  | 0 =>
    let s := if s.domOn dSTORE then s.setFld F.SRAMC_MARCH_STATUS_RESULT 2 else s
    if m.preserve then s else s.marchClears m
  | _ => s

/-- FW_SWITCH waits for Foreman's activities to end, and starts none of those queued (R363). -/
def State.foremanHolds (s : State) (m : MaintReq) : Bool :=
  (m.act == 2 || m.act == 3 || m.act == 5 || m.act == 6) &&
    match s.boot.mbox with
    | some b => b.op == 6 && b.result.isNone
    | none => false

/-- The arbiter scans its queue in arrival order (R343). -/
def State.maintScan (s : State) : State :=
  let r := s.mem.queued.foldl
    (fun (acc : State × List MaintReq) m =>
      if (acc.1.mem.running ++ acc.2).any m.overlaps || acc.1.foremanHolds m then (acc.1, acc.2 ++ [m])
      else (acc.1.maintStart m, acc.2))
    (s, [])
  ({ r.1 with mem := { r.1.mem with queued := r.2 } }).maintShow

/-- A request is merged, started or queued (R343). (Log 106: DESIGN CHOICE, unsafe.) -/
def State.maintRequest (s : State) (m : MaintReq) : State :=
  if (s.mem.running ++ s.mem.queued).any m.same then s
  else
    let s := if m.act = 0 && s.domOn dSTORE then s.setFld F.SRAMC_MARCH_STATUS_RESULT 1 else s
    ({ s with mem := { s.mem with queued := s.mem.queued ++ [m] } }).maintScan

/-- KCLK cycles in a millisecond as the part counts it; on RC they last 1.25 times as long (R297, R299). -/
abbrev msCycles : Nat := 25000

/-- Canary gives its token back, or withdraws its request (R340, R343): no event, and no count. -/
def State.canaryRelease (s : State) : State :=
  let others (l : List MaintReq) : List MaintReq := l.filter fun m => m.act != 1
  ({ s with mem := { s.mem with running := others s.mem.running, queued := others s.mem.queued } }).maintScan

/-- An activity ends (R343): 0 OK, 1 ABANDONED, 2 FAILED. -/
def State.maintEnd (s : State) (m : MaintReq) (status : Nat) : State :=
  let ran := s.mem.running.contains m
  let s := { s with mem := { s.mem with running := s.mem.running.erase m, queued := s.mem.queued.erase m } }
  let s := s.bump F.MAINT_DONE_COUNT
  let s := if status = 1 then s.bump F.MAINT_ABANDONED_COUNT else s
  let s := (s.setFld F.MAINT_LAST_DONE_ACTIVITY m.act).setFld F.MAINT_LAST_DONE_STATUS status
  let s := s.maintPost 0x07 0x0906
    [(3, m.act), (2, status), (32, if ran then (s.keepCycles - m.start) / msCycles else 0)]
  let s := if m.act = 0 && s.domOn dSTORE then s.setFld F.SRAMC_MARCH_STATUS_RESULT 0 else s
  s.maintScan

/-- The result of the running mailbox command is known (R361). -/
def State.mboxResult (s : State) (r : MboxResult) : State :=
  match s.boot.mbox with
  | some m => if m.result.isSome then s else { s with boot := { s.boot with mbox := some { m with result := some r } } }
  | none => s

/-- The mailbox command that an activity serves: LOAD_IMAGE, STORE_IMAGE or FW_INSTALL (R360). -/
def State.servesMbox (s : State) (m : MaintReq) : Bool :=
  match s.boot.mbox with
  | some b =>
    (m.act == 2 && b.op == 2 && m.kind == bitsOf b.a0 0 4 && m.loc == b.a1) ||
      (m.act == 6 && (b.op == 4 || b.op == 5))
  | none => false

/-- An activity is abandoned (R344). -/
def State.maintAbandon (s : State) (m : MaintReq) : State :=
  let ran := s.mem.running.contains m
  let s := if m.act = 3 && ran then s.ckptEnd 2 else s
  let s := if m.act = 2 && ran then s.unseal m.kind else s
  let s := if s.servesMbox m then s.mboxResult ⟨8, none, none, none⟩ else s
  s.maintEnd m 1

/-- Every activity for which `p` holds is abandoned, the queued ones first, so that none of them starts. -/
def State.abandonAll (s : State) (p : MaintReq → Bool) : State :=
  let s := s.each (s.mem.queued.filter p) State.maintAbandon
  s.each (s.mem.running.filter p) State.maintAbandon

/-- A running or queued activity needs a domain ON (R344). -/
def State.maintNeeds (s : State) (d : Nat) : Bool := (s.mem.running ++ s.mem.queued).any fun m => m.needs.contains d

/-- A periodic scrub is requested when none runs (R327). -/
def State.scrubGo (s : State) : State :=
  if s.domOn dSTORE && s.fld F.DRAMC_SCRUB_HOURS != 0 then s.maintRequest (plainReq 4) else s

/-- A waiting checkpoint is handed to the arbiter once its domains are ON (R202). PFW# low starts none (R205).
(Log 76: DEDUCED, unsafe.) -/
def State.ckptTry (s : State) : State :=
  if s.age.wanted && s.boot.foreman && s.domOn dFORE && s.domOn dMAP && s.domOn dSTORE && !s.hvd.pfwLow then
    ({ s with age := { s.age with wanted := false } }).maintRequest (plainReq 3)
  else s.ckptShow

/-- A checkpoint is requested (R202). (Log 76: DEDUCED, unsafe.) -/
def State.ckptRequest (s : State) : State :=
  if s.ckptBusy then s else ({ s with age := { s.age with wanted := true } }).ckptTry

/-- CKPT_GO (R202). -/
def execCkptGo (v : Word) (s : State) : Host.Outcome State Fault Refusal :=
  .next (s.hostWriteTo R.AGE_CKPT_CMD fun s => if bitOf v 0 then s.ckptRequest else s)

/-- CKPT_PERIODIC (R202): HOURS hours of KEEP time have passed since the last completed checkpoint. -/
def execCkptPeriodic (s : State) : Host.Outcome State Fault Refusal :=
  .next (if s.domOn dPANEL && s.fld F.AGE_CKPT_CFG_HOURS != 0 then s.ckptRequest else s)

/-- The running checkpoint. -/
def State.ckptRunning (s : State) : Option MaintReq := s.mem.running.find? fun m => m.act == 3

/-- The running checkpoint has written its record, or has failed (R202). -/
def State.checkpointDone (s : State) (status : Nat) : State :=
  match s.ckptRunning with
  | none => s
  | some m => (s.ckptEnd status).maintEnd m (if status = 0 then 0 else if status = 1 then 2 else 1)

/-! ### March (R337 to R339) -/

/-- MARCH_GO (R338). (Log 104: DEDUCED, unsafe.) -/
def State.marchGo (s : State) (v : Word) : State :=
  let first := bitsOf v 0 12
  let n := bitsOf v 12 13
  let preserve := bitOf v 28
  let res (s : State) (r : Nat) : State := s.setFld F.SRAMC_MARCH_STATUS_RESULT r
  if !bitOf v 31 then s
  else if (s.mem.running ++ s.mem.queued).any fun m => m.act == 0 then (res s 4).refuseCommand R.SRAMC_MARCH_CMD v
  else if n = 0 then res s 0
  else
    let k := min n (4096 - first)
    let m : MaintReq := ⟨0, 0, 0, first, k, preserve, 0⟩
    let allCache := 2688 ≤ first && first + k ≤ 3712
    if (!preserve && s.bit F.SCAN_CTRL_RUN && !allCache) || !m.needs.all s.domOn then
      (res s 3).refuseCommand R.SRAMC_MARCH_CMD v
    else
      let s := if k = n then s else s.clampReport none false R.SRAMC_MARCH_CMD v (putBits v 12 13 k)
      s.maintRequest m

def execMarchGo (v : Word) (s : State) : Host.Outcome State Fault Refusal :=
  .next (s.hostWriteTo R.SRAMC_MARCH_CMD fun s => s.marchGo v)

/-- The failing rows that a march found are counted and repaired (R321, R339). (Log 104: DEDUCED, unsafe.) -/
def State.marchRows (s : State) (rows : List (BitVec 12 × BitVec 9)) : State :=
  let rows := rows.filter fun r => r.2.toNat < 258
  let s := s.setFld F.SRAMC_MARCH_STATUS_FAILS (min 4095 rows.length)
  s.each (rows.filter fun r => r.2.toNat < 256) fun s r => s.repairRow r.1.toNat r.2.toNat 3

/-! ### Canary (R340, R341) -/

/-- The next region; a pass ends after the last one (R345). (Log 105: DESIGN CHOICE, unsafe.) -/
def State.canaryNext (s : State) : State :=
  let s := { s with mem := { s.mem with aborts := 0, retry := false } }
  let i := s.fld F.CANARY_POS_CELL * 8 + s.fld F.CANARY_POS_REGION + 1
  let s := (s.setFld F.CANARY_POS_CELL (i / 8 % 4096)).setFld F.CANARY_POS_REGION (i % 8)
  if i < 32768 then s
  else
    let s := s.bump F.CANARY_PASSES_COUNT
    s.maintPost 0x08 0x0905 [(15, s.fld F.CANARY_PASSES_COUNT), (32, s.fld F.CANARY_SKIPPED_COUNT), (32, s.fld F.CANARY_FAULTS_COUNT)]

/-- Canary works: it is enabled, and STORE is ON (R340, R342). -/
def State.canaryOn (s : State) : Bool := s.domOn dSTORE && s.bit F.CANARY_CTRL_EN

/-- Canary may work on its region: it works, and no march holds or awaits SRAM_TEST before it (R340, R342, R343). -/
def State.canaryReady (s : State) : Bool :=
  s.canaryOn &&
    (s.mem.running.any (fun m => m.act == 1) || !(s.mem.running ++ s.mem.queued).any fun m => m.tokens.contains 0)

/-- Canary's request for SRAM_TEST waits behind a march (R343). -/
def State.canaryAsk (s : State) : State :=
  if s.canaryOn && !s.mem.retry && s.domOn (cellDomain (s.fld F.CANARY_POS_CELL)) then s.maintRequest (plainReq 1) else s

/-- CANARY_REGION_TEST (R340): a region is tested to its end; `failing` are its failing rows, of which 256 and 257 are the
cell's spare rows, and `poisoned` its words that were saved with an uncorrectable error. A region of a domain that is not
ON is passed over. While a march holds the token, Canary's request is queued. (Log 105: DESIGN CHOICE, unsafe.) -/
def State.canaryTest (s : State) (failing poisoned : List Nat) : State :=
  let cell := s.fld F.CANARY_POS_CELL
  let region := s.fld F.CANARY_POS_REGION
  if !s.canaryOn then s.canaryRelease
  else if !s.canaryReady then s.canaryAsk
  else if s.mem.retry then s
  else if !s.domOn (cellDomain cell) then s.canaryRelease.canaryNext
  else
    let spare (r : Nat) : Bool := 256 ≤ r && r < 258 && region == 7 && SMap.get (fun _ => 0) s.mem.spares cell ≤ r - 256
    let mine (r : Nat) : Bool := r / 32 == region && r < 256 || spare r
    let rows := failing.filter mine
    let s := s.each (poisoned.filter fun w => mine (w / 8)) fun s w =>
      s.sramError 0x08 ⟨BitVec.ofNat 12 cell, BitVec.ofNat 12 w⟩ true false
    let s := s.bump F.CANARY_FAULTS_COUNT rows.length
    (s.each (rows.filter (· < 256)) fun s r => s.repairRow cell r 2).canaryRelease.canaryNext

def execCanaryRegionTest (t : RegionTest) (s : State) : Host.Outcome State Fault Refusal :=
  .next (s.canaryTest (t.failing.map (·.toNat)) (t.poisoned.map (·.toNat)))

/-- CANARY_ABORT (R341): the region is given back, to be tested again. -/
def execCanaryAbort (s : State) : Host.Outcome State Fault Refusal :=
  .next
    (if s.canaryReady && !s.mem.retry && s.domOn (cellDomain (s.fld F.CANARY_POS_CELL)) then
       (({ s with mem := { s.mem with aborts := s.mem.aborts + 1, retry := true } }).bump F.CANARY_ABORTS_COUNT).canaryRelease
     else s)

/-- CANARY_RETRY (R341): the region is tested again, or skipped for the pass after 16 aborts in a row.
(Log 105: DESIGN CHOICE, unsafe.) -/
def execCanaryRetry (s : State) : Host.Outcome State Fault Refusal :=
  .next
    (if !s.mem.retry || !s.domOn dSTORE then s
     else if s.mem.aborts < 16 then { s with mem := { s.mem with retry := false } }
     else
       let s := s.bump F.CANARY_SKIPPED_COUNT
       let s := (s.setFld F.CANARY_LAST_SKIP_CELL (s.fld F.CANARY_POS_CELL)).setFld F.CANARY_LAST_SKIP_REGION
         (s.fld F.CANARY_POS_REGION)
       s.canaryNext)

/-! ### DRAM scrub and NAND refresh (R327, R331) -/

/-- A scrub pass has read every block (R327): DRAM_ERRORS, and the next pass begins. -/
def State.scrubPassDone (s : State) (corrected : Nat) (uncorr : List Nat) : State :=
  match s.mem.running.find? fun m => m.act == 4 with
  | none => s
  | some m =>
    let s := s.dramCorr corrected
    let s := s.each uncorr State.dramUncorr
    let s := (s.bump F.DRAMC_PASSES_COUNT).setFld F.DRAMC_SCRUB_POS_FRAME 0
    let s := { s with mem := { s.mem with scrubPhase := 0 } }
    let s := s.maintPost 0x0A 0x0902 [(15, s.fld F.DRAMC_PASSES_COUNT), (32, s.fld F.DRAMC_CORR_COUNT), (32, s.fld F.DRAMC_UNCORR_COUNT)]
    (s.maintEnd m 0).scrubGo

def execScrubPassDone (corrected : Nat) (uncorr : List Nat) (s : State) : Host.Outcome State Fault Refusal :=
  .next (s.scrubPassDone corrected uncorr)

/-- MAINT_REQ_SCRUB (R343). -/
def State.maintReqScrub (s : State) : State := if s.domOn dSTORE then s.maintRequest (plainReq 4) else s

def execMaintReqScrub (s : State) : Host.Outcome State Fault Refusal :=
  .next (s.hostWriteTo R.MAINT_REQ State.maintReqScrub)

/-- A NAND refresh is requested; it needs Foreman and the MAP domain (R342). -/
def State.nandRefreshGo (s : State) : State :=
  if s.domOn dFORE && s.domOn dMAP then s.maintRequest (plainReq 5) else s

/-- MAINT_REQ_NANDREFRESH (R343). -/
def execMaintReqNandrefresh (s : State) : Host.Outcome State Fault Refusal :=
  .next (s.hostWriteTo R.MAINT_REQ State.nandRefreshGo)

/-- NANDREFRESH_DUE (R331): a block of partitions 0 to 3 has stood for REFRESH.DAYS days. -/
def execNandrefreshDue (block : BitVec 14) (s : State) : Host.Outcome State Fault Refusal :=
  .next
    (if s.domOn dMAP && s.fld F.MAPS_REFRESH_DAYS != 0 && block.toNat < 5632 then
       ({ s with mem := { s.mem with refresh := (s.mem.refresh ++ [block.toNat]).eraseDups } }).nandRefreshGo
     else s)

/-- A refresh has rewritten the blocks due (R331). -/
def State.nandRefreshed (s : State) : State :=
  let due := s.mem.refresh
  (({ s with mem := { s.mem with refresh := [] } }).each due State.rewriteBlock).mapsShow

end Sys2Proof.Machine
end

