-- ==== Sys2Proof/Machine/Domains.lean ====
section
/-! DEFINITION. What a domain loses in OFF and how its registers return (R6, R295, R352), what a HOST-SIDE reset clears
(R349, R352), and the resets of register fields by class (R5). -/

namespace Sys2Proof.Machine

/-! ### Register resets (R5, R6) -/

/-- The fields of a register whose reset class `p` accepts take their reset values. -/
def resetFields (p : RstCls → Bool) (off : Nat) (v : Word) : Word :=
  (fieldsAt off).foldl (fun w f => if p f.cls then putBits w f.lo f.w f.rst else w) v

/-- Every field of the classes that `p` accepts takes its reset value (R5). -/
def State.resetClass (s : State) (p : RstCls → Bool) : State :=
  { s with regs := SMap.mapVals resetWord (resetFields p) s.regs }

/-- Registers whose value the KEEP domain holds, or that report a store (R5, R398, R393, R332, R21). (Log 28: DEDUCED, unsafe.) -/
def keptInOff (off : Nat) : Bool :=
  (off < 0x100000 && off % 0x1000 == 0x3C) || off == 0x10150 || off == 0x10154 || off == R.SURF_RSVD_FRAMES

/-- The word of a register of a domain that leaves OFF (R6). The sequence number of a slot is held in KEEP (R77). -/
def offWord (off : Nat) (v : Word) : Word :=
  if keptInOff off then v
  else if 0x150000 ≤ off && off < 0x150800 && off % 0x20 = 0x10 then
    putBits (resetWord off) 6 10 (bitsOf v 6 10)
  else resetWord off

/-- A register of the port of a slot whose commit waits: the shadow store keeps it while STORE holds (R93).
(Log 132: DEDUCED, unsafe.) -/
def State.waitingPort (s : State) (off : Nat) : Bool :=
  0x150000 ≤ off && off < 0x150800 && s.slotWaits ((off - 0x150000) / 0x20)

/-- The registers of a domain return to their reset values as it leaves OFF (R6). (Log 15: DEDUCED, safe.) -/
def State.domainRegs (s : State) (d : Nat) : State :=
  let back (off : Nat) (v : Word) : Word := if offDomain off = d && !s.waitingPort off then offWord off v else v
  { s with regs := SMap.mapVals resetWord back s.regs }

/-! ### Digests of blocks (R95, R97) -/

/-- The digest of a page over its registers as they are held. -/
def State.pageDigest (s : State) (p : Nat) : Word := digestOf p fun o => s.rd (p * 0x1000 + o)

/-- The DIGEST header register of a page. -/
def State.heldDigest (s : State) (p : Nat) : Word := s.rd (p * 0x1000 + 0x34)

/-- A page's digest is computed. -/
def State.holdDigest (s : State) (p : Nat) : State := s.setFld (hdrFld p 0x34 0 32) (s.pageDigest p).toNat

/-- The digests of a domain that is to leave ON are those in use until it wakes (R97). (Log 66: DEDUCED, unsafe.) -/
def State.holdDigests (s : State) (d : Nat) : State := s.each (domainPages d) State.holdDigest

/-- A digest of a domain no longer covers its registers. -/
def State.digestsStale (s : State) (d : Nat) : Bool := (domainPages d).any fun p => s.heldDigest p != s.pageDigest p

/-! ### Content that OFF loses (R6, R295, R352) -/

/-- What the Host region's engines hold beside registers: lost in OFF, and cleared by a HOST-SIDE reset (R66, R352). -/
def State.hostClear (s : State) : State :=
  let s := s.rcacheInvalidate fun _ => true
  { s with
    queues := [], rings := [], hoist := Hoist.init,
    surf := { s.surf with heldLo := [], fills := [], lost := s.surf.lost ++ s.surf.fills.filter fun (f : Fill) => !f.needs.isEmpty },
    keys := { s.keys with data := [], op := none, opKey := [] },
    cmp := CmpHid.init,
    label := { s.label with landing := [] },
    pcie := { s.pcie with d3hot := false, deferred := [], hiLatch := [], ltr := none, ptmBusy := false, ptmPrev := none, ptmFresh := false } }

/-- Values staged for a latch that have not taken effect are discarded (R352), in every domain.
(Log 48: DEDUCED, unsafe; log 141: DESIGN CHOICE, unsafe.) -/
def State.dropStaged (s : State) : State :=
  { s with txn := { s.txn with direct := [] }, surf := { s.surf with staged := [] }, scan := { s.scan with flips := [] } }

/-- HOLD is set when replay cause 2 or 3 begins (R122). (Log 49: DEDUCED, unsafe.) -/
def State.setHold0 (s : State) : State := s.setFld F.SCAN_STATUS_HOLD 1

/-- A half loses what its domain holds. The checksum of the other half's columns goes on (R259, R263). -/
def State.halfLost (s : State) (h : Half) : State :=
  let s := (s.setHist h HistHid.init).odCleared h
  match h with
  | .dawn =>
    { s with
      assay := { Assay.init with run := { AssayRun.init with dusk := s.assay.run.dusk, protDusk := s.assay.run.protDusk },
                                 pub := s.assay.pub, protDusk := s.assay.protDusk },
      uniSeal := none,
      od := { s.od with idx := 0, bucket := 0, everValid := false, stale := false, sealing := none, lostDawn := false },
      power := { s.power with compDawn := 0 } }
  | .dusk => { s with od := { s.od with lostDusk := false }, power := { s.power with compDusk := 0 } }

/-- STORE loses its content: DRAM, page entries, the shadow store (R38, R93, R295). -/
def State.storeLost (s : State) : State :=
  let s := s.discardTxns.dropStaged
  let s := { s with
    dram := [],
    surf := { s.surf with pageTab := [], heldLo := [], retires := [], zeroing := [], lastRead := [] },
    label := { s.label with cur := [], req := [], wf := [], stale := true },
    age := { s.age with intact := false },
    uniSeal := none }
  s.setFld F.AGE_STATUS_READY 0

/-- What a domain holds beside its registers is lost as it goes to OFF, and with it what was staged for them (R6, R295,
R352). (Log 66: DEDUCED, unsafe.) -/
def State.domainLost (s : State) (d : Nat) : State :=
  let s := { s with txn := { s.txn with direct := SMap.drop (fun o => offDomain o == d) s.txn.direct } }
  match d with
  | 1 => { s with mem := { s.mem with scratch := [] }, boot := { s.boot with foreman := false, recovery := false, mbox := none } }
  | 2 => { s.keepCommits.hostClear with pcie := { Pcie.init with cfg := SMap.drop (fun o => o != 0x2C) s.pcie.cfg } }
  | 3 => { s with cmp := CmpHid.init }
  | 4 => s.storeLost
  | 6 => s.halfLost .dawn
  | 7 => s.halfLost .dusk
  | 8 => s.linkLost
  | 9 => { s with hvd := { Hvd.init with pfwLow := s.hvd.pfwLow, railMv := s.hvd.railMv },
                  age := { s.age with cycles := 0, latches := 0, sampling := false, weight := 0, lastTemp := none, saturated := 0,
                                      above := [], late := [], skip := [] } }
  | 10 => { s with label := { s.label with pend := [], run := [], recs := [], landing := [], stopDue := false, closing := false } }
  | _ => s

/-! ### HOST-SIDE resets (R349, R352) -/

/-- A HOST-SIDE reset begins (R349): `cls` are the classes of fields it resets, `bit` its bit of RESET_CAUSE. -/
def State.hostResetBegin (s : State) (cls : RstCls → Bool) (bit : Nat) : State :=
  let s := s.setFld F.CHIP_RESET_CAUSE_CAUSES (s.fld F.CHIP_RESET_CAUSE_CAUSES ||| 2 ^ bit)
  let s := s.bump F.CHIP_HOST_RESETS_COUNT
  let s := s.hostClear.discardTxns.dropStaged
  let s := { s.resetClass cls with hostReset := true }
  (s.raise 0x00 2).setHold0

/-- The classes that each reset restores. -/
def clsHot (c : RstCls) : Bool := c == .host || c == .perstHot
def clsPerst (c : RstCls) : Bool := c == .host || c == .perstHot || c == .perst

/-- MBOX_DONE is posted with bit 0 of FORE.INT_STATUS (R360, R374); during a HOST-SIDE reset it waits for the end (R373).
(Log 14: DEDUCED, safe.) -/
def State.mboxPost (s : State) (e : Ev) : State :=
  let s := s.raise 0x06 0
  if s.hostReset then { s with boot := { s.boot with owed := some e } } else s.postR (s.fld F.FORE_EVT_RING) false e

/-- A HOST-SIDE reset ends (R349, R373, R368): the Host region answers again and leaves isolation. -/
def State.hostResetEnd (s : State) : State :=
  if !s.hostReset then s
  else
    let s := { s with hostReset := false }
    let iso := s.fld F.CHIP_ERR_SUMMARY_ISOLATED
    let s := s.setFld F.CHIP_ERR_SUMMARY_ISOLATED (iso - iso / 2 % 2 * 2)
    let s :=
      match s.boot.owed with
      | none => s
      | some e => ({ s with boot := { s.boot with owed := none } }).postR (s.fld F.FORE_EVT_RING) false e
    if s.summaryOwed && s.hostUp && s.anySummary then
      ({ s with summaryOwed := false }).signal (s.fld F.CHIP_INT_CTRL_VECTOR)
    else s

end Sys2Proof.Machine
end

