-- ==== Sys2Proof/Machine/Power.lean ====
section
/-! DEFINITION. Power requests, their phases and refusals, wakes and their failures, wake sources, regulator requests and
clocks (13, R293 to R318). -/

namespace Sys2Proof.Machine

/-! ### Orders and prerequisites (R293, R306, R308) -/

/-- Entry order (R306). -/
abbrev entryOrder : List Nat := [3, 10, 9, 7, 6, 2, 5, 8, 4, 1]

/-- Wakes run in the reverse order (R308). -/
abbrev wakeOrder : List Nat := [1, 4, 8, 5, 2, 6, 7, 9, 10, 3]

/-- The prerequisite of a domain other than KEEP (R293). -/
def prereq (d : Nat) : Nat := match d with | 1 | 4 | 8 => 0 | 3 => 2 | _ => 4

/-- The domains whose prerequisite is `d` (R293). -/
def dependentsOf (d : Nat) : List Nat := entryOrder.filter fun e => prereq e == d

/-- Results of R315. -/
abbrev prDONE : Nat := 0
abbrev prREFUSED : Nat := 1
abbrev prWAKEFAIL : Nat := 2
abbrev prINVALID : Nat := 3
abbrev prBUSY : Nat := 4
abbrev prGATING : Nat := 5

/-- The state a TARGET asks for, as `PWR.STATE` numbers it. -/
def targetState (t : Nat) : Nat := 2 - t

/-! ### Refusal reasons (R306, R65, R93, R256, R287, R344) -/

/-- A host range that a transfer uses meets the part's own scratchpad window, at BAR0 as software has placed it (R65). -/
def State.rangeScratch (s : State) (a n : Nat) : Bool :=
  let w := s.cfg 0x10 &&& 0xFFFFFFF0#32
  let b := w.toNat + (s.cfg 0x14).toNat * 2 ^ 32
  b != 0 && a < b + 0x800000 && b + 0x400000 < a + n

/-- A domain is a source or destination of the transfer in a cage (R65). A COPY, an INFLATE, a CAPTURE and a LABEL use the
page entries, for a surface address, or a reserved frame. -/
def State.cageUses (s : State) (c : Cage) (d : Nat) : Bool :=
  let ty := c.desc.ty
  let len := c.desc.len.toNat
  match d with
  | 2 => true
  | 3 => ty == 2 || ty == 3
  | 10 => ty == 5
  | 1 =>
    (match c.owner with | .chan n => 12 ≤ n | .queue _ => false) ||
      ((ty == 1 || ty == 2 || ty == 5) && c.desc.srcHost && s.rangeScratch c.desc.src.toNat len) ||
      (ty == 1 && c.desc.dstHost && s.rangeScratch c.desc.dst.toNat len)
  | 4 => ty == 1 || ty == 2 || ty == 3 || ty == 5
  | _ => false

/-- The cages whose transfers a domain takes part in. -/
def State.cagesOf (s : State) (d : Nat) : List (Nat × Cage) :=
  (s.hoist.cages : List (Nat × Cage)).filter fun e => s.cageUses e.2 d

/-- A transaction writes a block of a domain (R93, R94): page entries are SURF's, the layer list and FLIPs SCAN's, which
KEEP holds, and a held write that changes nothing writes no block. -/
def State.txnUses (s : State) (n d : Nat) : Bool :=
  (s.slot n).writes.any fun w => contentOf w.off != .nothing && pageDomain (clampPage w.off) == d

/-- The transactions that make a domain refuse with TXN_PENDING (R93). -/
def State.txnsPending (s : State) (d : Nat) : List Nat :=
  (s.txn.arrived ++ s.txn.merging).filter fun n => d == dSTORE || s.txnUses n d

/-- Slots OPEN or FAILED. -/
def State.txnsOpen (s : State) : List Nat := (List.range 64).filter s.slotOpen

/-- Why a domain refuses an entry: the lowest code that applies (R306). -/
def State.refusal (s : State) (d : Nat) : Option Nat :=
  if !(s.cagesOf d).isEmpty || (d == dHOST && (List.range 16).any s.chanWaits) then some 1
  else if !(s.txnsPending d).isEmpty then some 2
  else if d == dHOST && !s.txnsOpen.isEmpty then some 3
  else if [8, 9, 6, 7, 4].contains d && s.domOn dPANEL && s.panelState != pOFF && s.panelState != pFAULT then some 4
  else if d == dLABEL && !(s.label.run.isEmpty && s.label.pend.isEmpty) then some 5
  else if s.maintNeeds d then some 6
  else none

/-- The forced action of a reason (R306). -/
def State.forceAction (s : State) (d reason : Nat) : State :=
  match reason with
  | 1 =>
    let s := s.each (s.cagesOf d) fun s e => s.abortCage e.1 e.2 .stop 3
    if d = dHOST then s.each ((List.range 16).filter s.chanWaits) State.abortChan else s
  | 2 => s.each (s.txnsPending d) fun s n => s.abortTxn n 8 (BitVec.ofNat 32 d)
  | 3 => s.each s.txnsOpen fun s n => s.abortTxn n 8 (BitVec.ofNat 32 d)
  | 4 => s.panelDown cauPOWERREQ false
  | 5 =>
    if s.label.run.isEmpty then s.labelStop
    else { s with label := { s.label with stopDue := true } }
  | 6 => s.abandonAll fun m => m.needs.contains d
  | _ => s

/-! ### The running request -/

def State.setReq (s : State) (r : PowerReq) : State := { s with power := { s.power with req := some r } }

/-- The status register that shows a request: Foreman's own, or that of PCIe. -/
def ReqBy.isFore (b : ReqBy) : Bool := match b with | .port .foreman => true | _ => false

/-- PHASE of the request's status register. -/
def State.setPhase (s : State) (b : ReqBy) (p : Nat) : State :=
  s.setFld (if b.isFore then F.PWR_FREQ_STATUS_PHASE else F.PWR_REQ_STATUS_PHASE) p

/-- BUSY is shared by the two status registers (R316). -/
def State.setBusy (s : State) (b : Bool) : State :=
  (s.setBit F.PWR_REQ_STATUS_BUSY b).setBit F.PWR_FREQ_STATUS_BUSY b

/-- RESULT and DONE_MASK of a requester (R314); requests of the part itself have no status register. -/
def State.setReqResult (s : State) (b : ReqBy) (result done : Nat) : State :=
  match b with
  | .port .pcie => (s.setFld F.PWR_REQ_STATUS_RESULT result).setFld F.PWR_REQ_STATUS_DONE_MASK done
  | .port .foreman => (s.setFld F.PWR_FREQ_STATUS_RESULT result).setFld F.PWR_FREQ_STATUS_DONE_MASK done
  | _ => s

/-- POWER_DONE (R315). -/
def State.powerDone (s : State) (r : PowerReq) (result done : Nat) : State :=
  s.post F.PWR_EVT_RING 0x0800 [(4, result), (2, r.target), (11, r.mask), (11, done), (5, r.reason), (8, r.page)]

/-- A refusal is recorded (R314); page 0xFF: no block refuses. -/
def State.noteRefusal (s : State) (r : PowerReq) (reason d page : Nat) : PowerReq × State :=
  let s := s.setFld F.PWR_LAST_REFUSER_PAGE page
  let s := (s.setFld F.PWR_LAST_REASON_REASON reason).setFld F.PWR_LAST_REASON_DOMAIN d
  let s := if page = 0xFF then s else s.bump (hdrFld page 0x3C 0 16)
  ({ r with reason := reason, page := page }, s)

/-- R300: the crystal and ROOT stop while every domain other than KEEP is in RET or OFF and scan is stopped. -/
def State.sleepCheck (s : State) : State :=
  if s.bit F.CLK_CTRL_XTAL_SLEEP && !s.power.asleep && !s.power.relock && s.power.req.isNone && !s.bit F.SCAN_CTRL_RUN &&
      s.boot.step == .idle && !s.bit F.CLK_STATUS_ON_RC && (List.range 10).all fun d => s.domState (d + 1) < 2 then
    let s := { s with power := { s.power with asleep := true } }
    ((s.setFld F.CLK_STATUS_XTAL_OK 0).setFld F.CLK_STATUS_ROOT_LOCK 0).setFld F.CLK_STATUS_ON_RC 1
  else s

/-- The clocks of a domain run, or stop (R297, R308). -/
def State.setClk (s : State) (d : Nat) (on : Bool) : State := s.setBit ⟨R.CLK_DOMAIN_CLK, d, 1⟩ on

/-- The pads of a domain are latched or released (R310). -/
def State.setPads (s : State) (d : Nat) (held : Bool) : State := s.setBit ⟨R.PWR_PAD_HELD, d, 1⟩ held

/-- Enabled bindings of a domain, ascending, each as 4 × domain + k (R301). -/
def State.bindings (s : State) (d : Nat) : List Nat :=
  ((List.range 3).filter fun k => bitOf (s.rd (0x3200 + 0x10 * d + 4 * k)) 31).map (4 * d + ·)

/-- PMBus address and page of a binding. -/
def State.bindAddr (s : State) (b : Nat) : Nat × Nat :=
  let w := s.rd (0x3200 + 0x10 * (b / 4) + 4 * (b % 4))
  (bitsOf w 0 7, bitsOf w 8 8)

/-- The master reads STATUS_WORD of a rail (R302). -/
def State.bindRead (s : State) (b : Nat) : State := s.emit (.pmbus (readWord (s.bindAddr b).1 0x79))

/-- One attempt of a domain rail request, up to its first read (R302). (Log 97: DEDUCED, unsafe.) -/
def State.bindSend (s : State) (b : Nat) (on : Bool) : State :=
  let a := s.bindAddr b
  (s.pmbusSwitch a.1 a.2 on).bindRead b

/-- A domain's state changes; the summary is watched (R401). -/
def State.changeDom (s : State) (d v : Nat) : State := State.summaryEdge s.anySummary (s.setDom d v)

/-! ### What a wake lets happen -/

/-- Foreman places the reserved stores of a domain that has lost its settings (R328, R198). -/
def State.placeStore (s : State) (d : Nat) : State :=
  if !s.domOn d then s
  else match d with
    | 6 => ((s.setFld (F.HIST_BASE_FRAME_FRAME .dawn) 3456).setFld F.UNI_BASE_FRAME_BANK0 3696).setFld F.UNI_BASE_FRAME_BANK1 3791
    | 7 => s.setFld (F.HIST_BASE_FRAME_FRAME .dusk) 3576
    | 9 => (s.setFld F.AGE_ACC_BASE_LIVE 3886).setFld F.AGE_ACC_BASE_SHADOW 3934
    | _ => s

/-- The reserved stores of every domain that waits for Foreman to place them. -/
def State.placeStores (s : State) : State :=
  let ds := s.boot.unplaced
  { s with boot := { s.boot with unplaced := [] } }.each ds State.placeStore

/-- Kinds of maps that a domain's OFF has lost, in the order of step 8 of R354 (R352). -/
def lostKinds (d : Nat) : List Nat := match d with | 4 => [2, 4] | 6 => [3, 2] | 7 => [3] | 10 => [4] | _ => []

/-- The logic state of a domain that leaves RET is reset: what it was in the middle of is not resumed (R6). -/
def State.logicReset (s : State) (d : Nat) : State :=
  match d with
  | 6 =>
    { (s.setFld F.OD_STAGE_STATUS_BUSY 0).setFld F.UNI_STAGE_STATUS_BUSY 0 with
      od := { s.od with sealing := none }, uniSeal := none }
  | _ => s

/-- The wake of a half from OFF is cause 3 of R133 for its history. -/
def State.histWoke (s : State) (h : Half) : State := s.setHist h { s.hist h with causeOff := true }

/-- A domain has reached ON. -/
def State.domainUp (s : State) (d : Nat) (fromOff : Bool) : State :=
  let s :=
    if fromOff then
      let s := { s with boot := { s.boot with
        unplaced := s.boot.unplaced ++ [d],
        loads := [5, 3, 2, 4].filter fun k => s.boot.loads.contains k || (lostKinds d).contains k } }
      if s.boot.foreman then s.placeStores else s
    else s
  match d with
  | 2 =>
    let s := { s with power := { s.power with perstLatch := false }, pcie := { s.pcie with ptmFresh := false } }
    let s := if s.summaryOwed && s.anySummary && !s.hostReset then s.signal (s.fld F.CHIP_INT_CTRL_VECTOR) else s
    { s with summaryOwed := s.summaryOwed && s.hostReset }
  | 4 => (if fromOff then s.sramcWoke else s).scrubGo.ckptTry
  | 6 => if fromOff then s.histWoke .dawn else s
  | 7 => if fromOff then s.histWoke .dusk else s
  | 5 => s.mapsShow.ckptTry
  | 1 => s.ckptTry
  | 9 => s.panelWoke fromOff
  | 10 =>
    let s := if s.hvd.pfwLow then s else s.setFld F.LABEL_STATUS_STOPPED 0
    if fromOff then s.labelRecover else s
  | _ => s

/-! ### Ends and wakes (R308, R309, R314) -/

/-- A request ends with a result (R314, R315). What follows an end is `sources`. -/
def State.reqEnd (s : State) (r : PowerReq) (result : Nat) : State :=
  let at' (d : Nat) : Bool := if r.target = 0 then s.domOn d else s.domState d ≤ targetState r.target
  let done :=
    if result = prDONE || result = prWAKEFAIL then
      (entryOrder.filter fun d => r.mask / 2 ^ d % 2 == 1 && at' d).foldl (fun a d => a + 2 ^ d) 0
    else 0
  let s := ({ s with power := { s.power with req := none } }).setBusy false
  let s := (s.setPhase r.by' 0).setReqResult r.by' result done
  let s := if result = prDONE then s.bump F.PWR_ENTRIES_COUNT else s
  let s := if result ≤ 2 then s.raise 0x01 result else s
  (s.powerDone r result done).sleepCheck

/-- A waking domain reaches ON (R308, step 4). The digests of a domain that leaves OFF are refreshed (R97). -/
def State.woke (s : State) (r : PowerReq) (d : Nat) : State :=
  let off := r.was == 0
  let s := if off then s.domainRegs d else s.logicReset d
  let s := if off || s.digestsStale d then s.setFld F.CHIP_DIGEST_STATUS_BUSY 1 else s
  let s := s.setClk d true
  let s := if off then s.setBit ⟨R.PWR_OFF_FLAG, d, 1⟩ true else s.setBit ⟨R.PWR_WAKE_FLAG, d, 1⟩ true
  (s.changeDom d 2).domainUp d off

/-- The wake of a domain fails (R309): causes 1 REG_NACK, 2 REG_TIMEOUT, 3 PLL_NO_LOCK, 4 OSC_NO_START. -/
def State.wakeFail (s : State) (r : PowerReq) (d cause : Nat) (rail : Option Nat) : PowerReq × State :=
  let a := match rail with | some b => s.bindAddr b | none => (0, 0)
  let s := s.each (s.bindings d).reverse fun s b => s.bindSend b false
  let s := ((s.setClk d false).changeDom d 0).domainLost d
  let s := (s.setFld F.PWR_WAKE_FAIL_LAST_DOMAIN d).setFld F.PWR_WAKE_FAIL_LAST_CAUSE cause
  let s := (s.bump F.PWR_WAKE_FAILS_COUNT).raise 0x01 2
  let n := if rail.isSome then r.attempts else 0
  let x := if n < 8 then (n, s) else (s.draw.1.toNat % 8, s.draw.2)
  let s := x.2.post F.PWR_EVT_RING 0x0801 [(4, d), (3, cause), (7, a.1), (8, a.2), (3, x.1)]
  let s := if [6, 7, 4, 8].contains d then s.panelDown cauWAKEFAIL false else s
  ({ r with failed := r.failed ++ [d], todo := r.todo.drop 1, rails := [], pll := false }, s)

/-- The power of a waking domain is there; its PLL, if it has one, is waited for (R308, step 3). -/
def State.powered (s : State) (r : PowerReq) (d : Nat) : Option PowerReq × State :=
  if d = dHOST || d = dLINK then (none, s.setReq { r with rails := [], pll := true })
  else (some { r with rails := [], todo := r.todo.drop 1 }, s.woke r d)

/-- The wake goes on with the next domain (R308, R309). (Log 98: DESIGN CHOICE, unsafe.) -/
def wakeGo : Nat → PowerReq → State → State
  | 0, r, s => s.setReq r
  | fuel + 1, r, s =>
    match r.todo with
    | [] => s.reqEnd r (if r.failed.isEmpty then prDONE else prWAKEFAIL)
    | d :: rest =>
      if !s.domOn (prereq d) then
        let x := s.noteRefusal r 8 d 0xFF
        wakeGo fuel { x.1 with todo := rest } x.2
      else if s.power.asleep then
        { s.setReq r with power := { (s.setReq r).power with starting := true } }
      else
        let was := s.domState d
        let s := s.changeDom d 3
        let r := { r with was := was, rails := if was = 0 then s.bindings d else [], attempts := 1, pll := false }
        match r.rails with
        | b :: _ => (s.setReq r).bindSend b true
        | [] =>
          match s.powered r d with
          | (none, s) => s
          | (some r, s) => wakeGo fuel r s

/-- The wake in progress goes on. -/
def State.wakeOn (s : State) (r : PowerReq) : State := wakeGo 12 r s

/-! ### Entries (R306) -/

/-- The rails of an entry to OFF go off one by one, the last ones first (R301). -/
def State.railsOff (s : State) (r : PowerReq) : State :=
  match r.rails with
  | [] => s.reqEnd r prDONE
  | b :: _ => (s.setReq { r with phase := 3, attempts := 1 }).setPhase r.by' 3 |>.bindSend b false

/-- Phase 2 goes on: the next domain is being gated, or the rails follow (R306, R301). -/
def State.gateOn (s : State) (r : PowerReq) : State :=
  match r.todo with
  | d :: _ => (s.setReq { r with was := s.domState d }).changeDom d 3
  | [] =>
    if r.target = 2 then s.railsOff { r with rails := r.entry.flatMap fun d => (s.bindings d).reverse }
    else s.reqEnd r prDONE

/-- Phase 2 begins (R306, R315). -/
def State.gateBegin (s : State) (r : PowerReq) : State :=
  let r := { r with phase := 2, todo := r.entry, asking := [], forcing := none }
  let s := s.setPhase r.by' 2
  let s := if r.entry.contains dHOST && s.domOn dHOST then s.powerDone r prGATING 0 else s
  if r.entry.isEmpty then s.reqEnd r prDONE else s.gateOn r

/-- Phase 1 goes on with the next domain that is ON; the blocks of a domain in RET refuse nothing (R306, R307). -/
def askGo : Nat → PowerReq → State → State
  | 0, r, s => s.setReq r
  | fuel + 1, r, s =>
    match r.todo with
    | [] => s.gateBegin r
    | d :: rest =>
      if s.domOn d then s.setReq { r with asking := domainPages d, forcing := none }
      else askGo fuel { r with todo := rest } s

/-- An ordinary entry is rolled back (R306): the blocks of the domains that had agreed count ENTRY_ABORTED.
(Log 98: DESIGN CHOICE, unsafe.) -/
def State.rollback (s : State) (r : PowerReq) : State :=
  let cur := r.todo.head?
  let s := s.each (r.agreed.filter fun p => some (pageDomain p) != cur) fun s p => s.bump (hdrFld p 0x3C 16 16)
  (s.reqEnd r prREFUSED).assign

/-- A block has agreed. -/
def State.agree (s : State) (r : PowerReq) (page : Nat) : State :=
  let r := { r with asking := r.asking.filter (· != page), agreed := r.agreed ++ [page], forcing := none }
  if r.asking.isEmpty then askGo 12 { r with todo := r.todo.drop 1 } s else s.setReq r

/-- A block of the domain worked on answers (R306): it agrees, refuses, or waits for its forced action. (Log 93: DEDUCED, unsafe.) -/
def answerGo : Nat → Nat → PowerReq → State → State
  | 0, _, r, s => s.setReq r
  | fuel + 1, page, r, s =>
    match r.todo with
    | [] => s.setReq r
    | d :: _ =>
      match s.refusal d with
      | none => s.agree r page
      | some why =>
        if r.forcing.any (fun f => f.2 == why) && (why != 5 || s.label.stopDue) then s.setReq r
        else
          let x := s.noteRefusal r why d page
          if !r.force then x.2.rollback x.1
          else
            let r := { x.1 with forcing := some (page, why) }
            let s := ((x.2.setReq r).forceAction d why).assign
            answerGo fuel page r s

/-- BLOCK_QUIESCE_ANSWER (R306). (Log 93: DEDUCED, unsafe.) -/
def State.quiesceAnswer (s : State) (page : Nat) : State :=
  match s.power.req with
  | some r => if r.phase = 1 && r.asking.contains page && !s.fatal then answerGo 8 page r s else s
  | none => s

/-- A forced action for the block asked has not ended (R306). -/
def State.forcedRuns (s : State) (r : PowerReq) : Bool :=
  r.forcing.any fun f => s.refusal (r.todo.headD 0) == some f.2

/-- QUIESCE_TIMEOUT (R306): the block refuses with TIMEOUT; on a forced request its region isolates it, and the entry
proceeds. The timer does not run while a forced action does. (Log 98: DESIGN CHOICE, unsafe.) -/
def State.quiesceTimeout (s : State) (page : Nat) : State :=
  match s.power.req with
  | some r =>
    if r.phase = 1 && r.asking.contains page && !s.fatal && !s.forcedRuns r then
      let x := s.noteRefusal r 7 (pageDomain page) page
      if r.force then x.2.agree { x.1 with isolated := x.1.isolated ++ [page] } page else x.2.rollback x.1
    else s
  | none => s

/-- DOMAIN_GATED (R306, R310): a domain has been gated. -/
def State.domainGated (s : State) (d : Nat) : State :=
  match s.power.req with
  | some r =>
    if r.phase = 2 && r.todo.head? == some d && !s.fatal then
      let s := if d = dSTORE then s.canaryRelease else if d = dLINK then s.linkGated else s
      let s := (s.holdDigests d |>.setPads d true).setClk d false
      let s := s.changeDom d (targetState r.target)
      let s := if r.target = 2 then s.domainLost d else s
      let s := if d = dHOST then s.setHold0 else s
      let s := if d = dHOST && (s.power.perstLow || r.by' == .autoOff) then { s with power := { s.power with perstLatch := true } } else s
      s.gateOn { r with todo := r.todo.drop 1 }
    else s
  | none => s

/-! ### Issuing (R305) -/

/-- A named domain that breaks R294: a dependent that would stay above the target, or a prerequisite that is not ON.
(Log 98: DESIGN CHOICE, unsafe.) -/
def State.depBroken (s : State) (mask target : Nat) (d : Nat) : Bool :=
  let named (e : Nat) : Bool := mask / 2 ^ e % 2 == 1
  if target = 0 then !s.domOn (prereq d) && !named (prereq d)
  else (dependentsOf d).any fun e => targetState target < s.domState e && !named e

/-- A request is issued (R305, R308). (Log 94: DESIGN CHOICE, unsafe.) -/
def State.powerIssue (s : State) (b : ReqBy) (mask target : Nat) (force bad : Bool) : State :=
  if s.power.req.isSome then
    match b with
    | .port .pcie => s.setFld F.PWR_REQ_STATUS_RESULT prBUSY
    | .port .foreman => s.setFld F.PWR_FREQ_STATUS_RESULT prBUSY
    | _ => s
  else
    let r : PowerReq := ⟨b, mask, target, force, 0, [], [], [], [], none, [], 0, false, 0, [], 0, 0, 0xFF, []⟩
    if mask = 0 && !bad then s.reqEnd r prDONE
    else if bad || mask % 2 = 1 || target = 3 then s.reqEnd r prINVALID
    else
      let named (d : Nat) : Bool := mask / 2 ^ d % 2 == 1
      let list := if target = 0 then wakeOrder.filter fun d => named d && !s.domOn d
                  else entryOrder.filter fun d => named d && targetState target < s.domState d
      match list.find? (s.depBroken mask target) with
      | some d => let x := s.noteRefusal r 8 d 0xFF; x.2.reqEnd x.1 prREFUSED
      | none =>
        if target = 0 then
          match list with
          | d :: _ =>
            if s.hvd.pfwLow then let x := s.noteRefusal r 10 d 0xFF; x.2.reqEnd x.1 prREFUSED
            else ((s.setBusy true).setPhase b 4).wakeOn { r with phase := 4, todo := list }
          | [] => s.reqEnd r prDONE
        else askGo 12 { r with phase := 1, todo := list, entry := list } ((s.setBusy true).setPhase b 1)

/-! ### Wake sources (R311, R313) -/

/-- The domains that an enabled source names; bit 0 is reserved. -/
def State.srcMask (s : State) (n : Nat) : Nat :=
  if s.bit (F.PWR_WAKE_SRC_EN n) then s.fld (F.PWR_WAKE_SRC_MASK n) / 2 * 2 else 0

/-- A source latches edges. (Log 101: DEDUCED, unsafe.) -/
def State.srcEdge (s : State) (n : Nat) : Bool := n == 9 || (n < 8 && s.bit (F.PWR_WAKE_SRC_MODE n))

/-- A level source is active. (Log 95: DEDUCED, unsafe.) -/
def State.srcLevel (s : State) (n : Nat) : Bool :=
  if n = 8 then s.power.perstLatch && !s.power.perstLow
  else s.power.levels.contains n != s.bit (F.PWR_WAKE_SRC_POLARITY n)

def State.wakePending (s : State) (n : Nat) : Bool := s.fld F.PWR_WAKE_PENDING_SOURCES / 2 ^ n % 2 == 1

def State.setWakePending (s : State) (n : Nat) (b : Bool) : State := s.setBit ⟨R.PWR_WAKE_PENDING, n, 1⟩ b

/-- Domains not ON. -/
def State.notOn (s : State) : Nat := (entryOrder.filter fun d => !s.domOn d).foldl (fun a d => a + 2 ^ d) 0

/-- Source `n` fires (R311). (Log 95: DEDUCED, unsafe.) -/
def State.srcFire (s : State) (n : Nat) : State :=
  let m := s.srcMask n &&& s.notOn
  let s := if s.srcEdge n then s.setWakePending n false else s
  let s := (s.setFld F.PWR_LAST_WAKE_SOURCE n).setFld F.PWR_LAST_WAKE_MASK m
  let s := (s.raise 0x01 3).post F.PWR_EVT_RING 0x0802 [(4, n), (11, m)]
  s.powerIssue .wake m 0 false false

/-- A source may fire: an edge that is pending, or an active level for which `level` holds (R311). -/
def State.srcDue (s : State) (level : Nat → Bool) (n : Nat) : Bool :=
  s.srcMask n != 0 && (if s.srcEdge n then s.wakePending n else level n && s.srcLevel n)

/-- The sources that are due fire, each when no request runs (R311, R313). (Log 95: DEDUCED, unsafe.) -/
def State.sources (s : State) (level : State → Nat → Bool) : State :=
  s.each (List.range 10) fun s n =>
    if s.power.req.isNone && !s.fatal && s.srcDue (level s) n then s.srcFire n else s

/-- A level has a domain to wake. (Log 95: DEDUCED, unsafe.) -/
def State.srcWakes (s : State) (n : Nat) : Bool := s.srcMask n &&& s.notOn != 0

/-- After a step of a request: if it has ended, waiting wakes and those of active levels are issued (R313). `before` is the
state before the step. -/
def State.afterReq (before s : State) : State :=
  if before.power.req.isSome && s.power.req.isNone then s.sources State.srcWakes else s

/-- A wake event of source `n` meets a running request (R313), or is issued. (Log 95: DEDUCED, unsafe.) -/
def State.wakeEvent (s : State) (n : Nat) : State :=
  if s.srcMask n = 0 then s
  else
    let edge := s.srcEdge n
    match s.power.req with
    | none => (if edge then s.setWakePending n true else s).sources fun _ k => k == n
    | some r =>
      if edge && r.phase = 2 then s
      else
        let s := if edge then s.setWakePending n true else s
        if r.phase = 1 && !r.force && s.srcMask n &&& r.mask != 0 && !s.fatal then
          let x := s.noteRefusal r 9 (r.todo.headD 0) 0xFF
          (x.2.rollback x.1).sources fun t k => k == n || t.srcWakes k
        else s

/-- WAKE_SOURCE (R311): GPIO input `n` is now at a level. -/
def State.wakeSource (s : State) (n : Nat) (level : Bool) : State :=
  let was := s.power.levels.contains n
  let ls := s.power.levels.filter (· != n)
  let s := { s with power := { s.power with levels := if level then n :: ls else ls } }
  let active := level != s.bit (F.PWR_WAKE_SRC_POLARITY n)
  if !active || (was == level && s.srcEdge n) then s else s.wakeEvent n

/-- WAKE_TIMER_EXPIRE (R311): PWR.TIMER, while it runs, reaches 0; the command stands for the milliseconds left.
(Log 2: DESIGN CHOICE, safe; log 96: DEDUCED, safe.) -/
def State.timerExpire (s : State) : State :=
  if s.fld F.PWR_TIMER_MS ≠ 0 then (s.setFld F.PWR_TIMER_MS 0).wakeEvent 9 else s

/-! ### Rails and PLLs (R302, R308, R309) -/

/-- A rail or AVSBus request has finally failed (R302, R303, R318). -/
def State.regFailed (s : State) (addr page cause : Nat) : State :=
  let s := s.bump F.RGL_FAILS_COUNT
  ((s.setFld F.RGL_LAST_FAIL_ADDR addr).setFld F.RGL_LAST_FAIL_PAGE page).setFld F.RGL_LAST_FAIL_CAUSE cause

/-- REG_FAIL (R315). (Log 87: DESIGN CHOICE, safe.) -/
def State.regFailEvent (s : State) (bus addr page cause : Nat) : State :=
  (s.raise 0x03 0).post F.PWR_EVT_RING 0x0804 [(1, bus), (7, addr), (8, page), (4, cause)]

/-- Cause of a failed attempt (R302). -/
def railCause (r : RailRes) : Nat := match r with | .nacked => 1 | _ => 2

/-- A STATUS_WORD shows the wanted state: for on, POWER_GOOD# and OFF are 0; for off, OFF is 1 (R302). -/
def railWanted (on : Bool) (w : BitVec 16) : Bool := if on then !w.getLsbD 11 && !w.getLsbD 6 else w.getLsbD 6

/-- What a read or a failed attempt means for the request: acknowledged, or to be read again. -/
def railShown (res : RailRes) (on : Bool) : Bool := match res with | .status w => railWanted on w | _ => false

def railAgain (res : RailRes) (on : Bool) : Bool := match res with | .status w => !railWanted on w | _ => false

/-- DOMAIN_RAIL_POLL (R302). (Log 97: DEDUCED, unsafe.) -/
def State.railPoll (s : State) (res : RailRes) : State :=
  match s.power.req with
  | none => s
  | some r =>
    match r.rails with
    | [] => s
    | b :: rest =>
      let on := r.phase == 4
      let a := s.bindAddr b
      if s.fatal then s
      else if railAgain res on then s.bindRead b
      else if railShown res on then
        if !on then s.railsOff { r with rails := rest }
        else
          let r := { r with rails := rest, attempts := 1 }
          match rest with
          | b :: _ => (s.setReq r).bindSend b true
          | [] =>
            match s.powered r (b / 4) with
            | (none, s) => s
            | (some r, s) => s.wakeOn r
      else if r.attempts ≤ s.fld F.RGL_REQ_CFG_RETRIES then (s.setReq { r with attempts := r.attempts + 1 }).bindSend b on
      else
        let s := s.regFailed a.1 a.2 (railCause res)
        if on then
          let x := s.wakeFail r (b / 4) (railCause res) (some b)
          x.2.wakeOn x.1
        else (s.regFailEvent 0 a.1 a.2 (railCause res)).railsOff { r with rails := rest }

/-- DOMAIN_PLL_LOCK (R308). -/
def State.pllLock (s : State) (d : Nat) : State :=
  match s.power.req with
  | some r =>
    if r.pll && r.todo.head? == some d && !s.fatal then
      let s := s.woke r d
      s.wakeOn { r with pll := false, todo := r.todo.drop 1 }
    else s
  | none => s

/-- DOMAIN_PLL_TIMEOUT of a domain's own PLL (R309). -/
def State.pllTimeout (s : State) (d : Nat) : State :=
  match s.power.req with
  | some r =>
    if r.pll && r.todo.head? == some d && !s.fatal then
      let x := s.wakeFail r d 3 none
      x.2.wakeOn x.1
    else s
  | none => s

/-! ### Crystal and ROOT (R299, R300) -/

/-- The restart of the crystal or of ROOT for a wake fails (R300). -/
def State.oscFail (s : State) (cause : Nat) : State :=
  match s.power.req with
  | some r =>
    if s.power.starting && !s.fatal then
      let s := { s with power := { s.power with starting := false } }
      let x := s.wakeFail { r with was := s.domState (r.todo.headD 0) } (r.todo.headD 0) cause none
      x.2.wakeOn x.1
    else s
  | none => s

/-- The clocks of the domains that are ON. (Log 99: DEDUCED, unsafe.) -/
def State.clocksOn (s : State) : State :=
  s.setFld F.CLK_DOMAIN_CLK_MASK (1 + (entryOrder.filter s.domOn).foldl (fun a d => a + 2 ^ d) 0)

/-- ROOT locks after a restart under R300, or on RC under R299. (Log 99: DEDUCED, unsafe.) -/
def State.rootRelock (s : State) : State :=
  if s.power.relock then
    (({ s with power := { s.power with relock := false } }).setFld F.CLK_STATUS_ROOT_LOCK 1).clocksOn
  else if s.power.starting && !s.fatal then
    let s := { s with power := { s.power with starting := false, asleep := false } }
    let s := ((s.setFld F.CLK_STATUS_XTAL_OK 1).setFld F.CLK_STATUS_ROOT_LOCK 1).setFld F.CLK_STATUS_ON_RC 0
    match s.power.req with
    | some r => s.wakeOn r
    | none => s
  else s

/-- A crystal loss (R299), before its fatal path. -/
def State.xtalLoss (s : State) : State :=
  let s := { s with power := { s.power with relock := true } }
  let s := ((s.setFld F.CLK_STATUS_XTAL_OK 0).setFld F.CLK_STATUS_ON_RC 1).setFld F.CLK_STATUS_ROOT_REF 1
  let s := (s.setFld F.CLK_STATUS_ROOT_LOCK 0).setFld F.CLK_DOMAIN_CLK_MASK 1
  ((s.bump F.CLK_XTAL_LOSSES_COUNT).raise 0x02 0).post F.PWR_EVT_RING 0x0803 [(32, (s.rd R.SCAN_FRAME_SEQ).toNat)]

/-! ### VDD_CORE (R303) and the alert (R304) -/

/-- An AVSBus write of a target begins. -/
def State.avsGo (s : State) (mv : Nat) : State :=
  { s with power := { s.power with avsWrite := some (mv, 1), avsTarget := mv } }.emit (.avs mv)

/-- The registers of R303 have been written: a write of AVS_CTRL lets stepping go on, and MODE 0 requests AVS_SET. -/
def State.avsWritten (s : State) (off : Nat) : State :=
  let s := if off = R.RGL_AVS_CTRL then { s with power := { s.power with avsStopped := false } } else s
  if s.bit F.RGL_AVS_CTRL_MODE then s
  else if off = R.RGL_AVS_CTRL && s.power.avsWrite.isNone && s.fld F.RGL_AVS_SET_MV = s.fld F.RGL_AVS_NOW_MV then s
  else s.avsGo (s.fld F.RGL_AVS_SET_MV)

/-- A step of at most 5 mV towards the margin called for, into the limits or within them (R303). (Log 100: DEDUCED, unsafe.) -/
def avsTowards (lo hi t : Nat) (up : Bool) : Nat :=
  if hi < t then max hi (t - 5)
  else if t < lo then min lo (t + 5)
  else if up then min hi (t + 5)
  else max lo (t - 5)

/-- AVS_STEP (R303). (Log 100: DEDUCED, unsafe.) -/
def State.avsStep (s : State) (up : Bool) : State :=
  if !s.bit F.RGL_AVS_CTRL_MODE || s.power.avsStopped || s.power.avsWrite.isSome then s
  else
    let t := avsTowards (s.fld F.RGL_AVS_LIMITS_MIN) (s.fld F.RGL_AVS_LIMITS_MAX) s.power.avsTarget up
    if t = s.power.avsTarget then s else s.avsGo t

/-- A write is acknowledged: good status, and a read-back within 10 mV of the target (R303). -/
def avsAcked (res : AvsRes) (mv : Nat) : Bool :=
  match res with
  | .frame good v => good && v.toNat ≤ mv + 10 && mv ≤ v.toNat + 10
  | .timeout => false

/-- The cause with which a write fails (R303, R318). (Log 100: DEDUCED, unsafe.) -/
def avsCause (res : AvsRes) : Nat := match res with | .frame false _ => 1 | _ => 2

/-- AVS_WRITE_DONE (R303). (Log 100: DEDUCED, unsafe.) -/
def State.avsDone (s : State) (res : AvsRes) : State :=
  match s.power.avsWrite with
  | none => s
  | some (mv, n) =>
    if avsAcked res mv then
      ({ s with power := { s.power with avsWrite := none } }).setFld F.RGL_AVS_NOW_MV mv
    else if n ≤ s.fld F.RGL_REQ_CFG_RETRIES then
      ({ s with power := { s.power with avsWrite := some (mv, n + 1) } }).emit (.avs mv)
    else
      let s := { s with power := { s.power with avsWrite := none, avsTarget := s.fld F.RGL_AVS_NOW_MV,
                                                avsStopped := s.power.avsStopped || s.bit F.RGL_AVS_CTRL_MODE } }
      ((s.setFld F.RGL_AVS_NOW_FAIL 1).regFailed 0 0 (avsCause res)).regFailEvent 1 0 0 (avsCause res)

def execAvsStep (up : Bool) (s : State) : Host.Outcome State Fault Refusal := .next (s.avsStep up)

def execAvsWriteDone (res : AvsRes) (s : State) : Host.Outcome State Fault Refusal := .next (s.avsDone res)

/-- PMB_ALERT (R304). -/
def execPmbAlert (s : State) : Host.Outcome State Fault Refusal :=
  .next
    (if s.boot.step = .cold then s
     else
       let s := (s.bump F.RGL_ALERTS_COUNT).raise 0x03 1
       s.post F.PWR_EVT_RING 0x0805 [(32, s.fld F.RGL_ALERTS_COUNT)])

/-- Pads of the domains that are ON are released (R310). -/
def State.padRelease (s : State) (v : Word) : State :=
  s.each ((List.range 11).filter fun d => bitOf v d && d != 0 && s.domOn d) fun s d => s.setPads d false

/-- CLKREQ# is asserted, for REFCLK to run (R310): with HOST ON, and from step 3 of its wake. The rules of the L1 PM
substates, which the spec leaves to PCI Express, may then release it. (Log 147: DEDUCED, unsafe.) -/
def State.clkreq (s : State) : Bool :=
  s.domOn dHOST || match s.power.req with | some r => r.pll && r.todo.head? == some dHOST | none => false

/-- What a word written to a request register asks for (R305). (Log 94: DESIGN CHOICE, unsafe.) -/
def State.powerWord (s : State) (p : Port) (v : Word) : State :=
  if bitOf v 31 && !s.fatal then s.powerIssue (.port p) (bitsOf v 0 11) (bitsOf v 16 2) (bitOf v 20) (bitsOf v 11 5 != 0) else s

end Sys2Proof.Machine
end

