-- ==== Sys2Proof/Machine/Hooks.lean ====
section
/-! DEFINITION. What a write of RW fields does beside changing them, by register (R399, R79): the one operation that
direct writes and commits share. -/

namespace Sys2Proof.Machine

/-- A held write that carries something in a WO or RW1C field makes a report of a kept write (R79). -/
def heldWo (slot : Option Nat) (off : Nat) (v : Word) : Bool := slot.isSome && woNonzero off v

/-- A write whose RW fields are kept at what they hold; one that changes nothing makes no report (R88). -/
def State.keepWrite (s : State) (slot : Option Nat) (off : Nat) (v : Word) : State :=
  let old := s.rd off
  if (s.ownCheck selTxn off v).new = old && !heldWo slot off v then s else s.clampReport slot true off v old

/-- A checked value takes effect, with one report if a field is clamped or kept (R88, R79). -/
def State.applyHeld (s ctx : State) (slot : Option Nat) (sel : Acc → Bool) (off : Nat) (v : Word) : State :=
  let c := s.checkIn ctx sel off v
  let wo := heldWo slot off v
  let s := s.wr off c.new
  if c.reports || wo then s.clampReport slot (c.kept || wo) off v c.new else s

/-- Scan stops (R125): lines, latches and fetch stop at once, and what was fetched ahead is dropped. -/
def State.scanStop (s : State) : State :=
  let s := (s.setFld F.SCAN_STATUS_RUNNING 0).setFld F.SCAN_STATUS_STRETCH 0
  let s := { s with scan := { s.scan with k := 0, endFixed := false, e := 0, applied := false, repeated := false, lines := 0,
                                          started := false, flipLines := [], fetch := [] },
                    surf := { s.surf with fills := s.surf.fills.map fun (f : Fill) => { f with needs := [] }, lost := [] } }
  s.linkStop.sleepCheck

/-- RUN has been cleared while scan ran. -/
def State.scanHalt (s : State) : State :=
  if s.bit F.SCAN_STATUS_RUNNING && !s.bit F.SCAN_CTRL_RUN then s.scanStop else s

/-- The register is a shadow register of a Hoist channel (R63). -/
def chanShadow (off : Nat) : Option Nat :=
  if 0x12200 ≤ off && off < 0x12600 && off % 0x40 < 0x18 then some ((off - 0x12200) / 0x40) else none

/-- What follows when RW fields of a register have been written. -/
def State.rwEffect (s : State) (off : Nat) : State :=
  if off = R.RGL_AVS_CTRL || off = R.RGL_AVS_SET then s.avsWritten off
  else if R.PWR_WAKE_SRC 0 ≤ off && off ≤ R.PWR_WAKE_SRC 9 then s.sources State.srcWakes
  else if off = R.PWR_TIMER then { s with power := { s.power with msPhase := 0 } }
  else if off = R.CLK_CTRL then s.sleepCheck
  else if off = R.DRAMC_SCRUB then s.scrubGo
  else if off = R.CHIP_AUDIT_CTRL then { s with txn := { s.txn with auditCount := 0 } }
  else if off = R.CMP_CTRL then s.assignLanes
  else if off = R.HOIST_ARB then s.assign
  else if off = R.PCIEX_LTR_CFG then s.ltrUpdate
  else if off = R.SCAN_CTRL then s.scanHalt
  else if off = R.HVD_THERM_CFG then s.thermConfig
  else if off = R.HVD_RAIL_AVDD then s.railLoss 0 (s.railMv 0)
  else if off = R.HVD_RAIL_VGL then s.railLoss 1 (s.railMv 1)
  else if off = R.HVD_RAIL_VGH then s.railLoss 2 (s.railMv 2)
  else s

/-- A write of the RW fields of a register (R399), by itself or at a commit (R79): the fields that `sel` accepts are
checked against `ctx` and changed, and what depends on them follows. Layer entries change at commits alone, and their
dependent clamps come after all the writes of the commit (R112). -/
def State.rwWrite (s ctx : State) (slot : Option Nat) (port : Port) (sel : Acc → Bool) (off : Nat) (v : Word) : State :=
  if 0x100000 ≤ off && off < 0x140000 then
    if off % 0x20 < 0x0C then s.queueCfgWrite slot ((off - 0x100000) / 0x20) (off % 0x20 / 4) v else s
  else if 0x140000 ≤ off && off < 0x140800 then
    if off % 0x20 = 0x10 then s.ringHeadWrite slot ((off - 0x140000) / 0x20) v
    else s.ringCfgWrite slot ((off - 0x140000) / 0x20) (off % 0x20 / 4) v
  else
    let kept := match chanShadow off with
      | some c => s.chanKept port c
      | none => false
    if kept then s.keepWrite slot off v
    else
      let before := s.anySummary
      let s := s.applyHeld ctx slot sel off v
      let s := if off < 0x100000 then (s.dependents slot off).rwEffect off else s
      if off < 0x100000 && off % 0x1000 = 0x10 then State.summaryEdge before s else s

end Sys2Proof.Machine
end

