-- ==== Sys2Proof/Machine/Layers.lean ====
section
/-! DEFINITION. The layers of the current list (R111 to R113): their entries and what they cover. -/

namespace Sys2Proof.Machine

/-- A layer-list entry (R111). -/
structure Layer where
  index : Nat
  addr : Nat
  x : Int
  y : Int
  w : Nat
  h : Nat
  pitch : Nat
  fmt : Nat
  sx : Nat
  sy : Nat
  blend : Nat
  en : Bool
  galpha : Nat
deriving DecidableEq, Repr

/-- Entry `n` of the list in effect. -/
def State.layer (s : State) (n : Nat) : Layer :=
  let o := 0x160000 + 0x20 * n
  let pos := s.rd (o + 8)
  let size := s.rd (o + 0x0C)
  let f := s.rd (o + 0x10)
  ⟨n, (s.rd o).toNat + (s.rd (o + 4)).toNat * 2 ^ 32, signedOf 16 (bitsOf pos 0 16), signedOf 16 (bitsOf pos 16 16),
   bitsOf size 0 16, bitsOf size 16 16, bitsOf f 0 19, bitsOf f 20 4, bitsOf f 24 2 + 1, bitsOf f 26 2 + 1, bitsOf f 28 2,
   bitOf f 31, bitsOf (s.rd (o + 0x14)) 0 12⟩

/-- The layer covers something (R113). -/
def Layer.live (l : Layer) : Bool := l.en && l.w != 0 && l.h != 0

/-- The first column after the layer, and the first line after it. -/
def Layer.right (l : Layer) : Int := l.x + ((l.w * l.sx : Nat) : Int)
def Layer.bottom (l : Layer) : Int := l.y + ((l.h * l.sy : Nat) : Int)

/-- The layer covers a pixel of columns `a` to `b - 1` on line `y` (R113). -/
def Layer.covers (l : Layer) (y a b : Int) : Bool :=
  l.live && l.y ≤ y && y < l.bottom && l.x < b && a < l.right

/-- The layers of the list in effect, bottom first (R111). -/
def State.layers (s : State) : List Layer := (List.range (min 256 (s.fld F.SCAN_LIST_COUNT))).map s.layer

/-- First panel column of a half (R102). -/
def State.halfX (s : State) (h : Half) : Nat := halfNum h * s.halfW

/-- LAYER_COUNT (R126): enabled layers of the list that cover any pixel of the half. -/
def State.layerCount (s : State) (h : Half) : Nat :=
  let a : Int := s.halfX h
  let v : Int := s.fld F.SCAN_V_TIMING_V_ACTIVE
  (s.layers.filter fun l => l.live && l.x < a + s.halfW && a < l.right && l.y < v && 0 < l.bottom).length

end Sys2Proof.Machine
end

