-- ==== Sys2Proof/Machine/View.lean ====
section
/-! DEFINITION. What a read of a BAR0 offset returns (R382, R396, R399): the registers as they are held, and those whose
value follows from other state. -/

namespace Sys2Proof.Machine

/-- A 32-bit word of a map of truth values: bit `i` is `p (32 * n + i)`. -/
def mapWord32 (n : Nat) (p : Nat → Bool) : Nat :=
  (List.range 32).foldl (fun a i => if p (32 * n + i) then a + 2 ^ i else a) 0

/-- A page's block accepts work (R398): its domain is ON and no HOST-SIDE reset holds it. -/
def State.blockReady (s : State) (p : Nat) : Bool := s.domOn (pageDomain p) && !(pageRegion p == 1 && s.hostReset)

/-- BLK_STATUS (R398). -/
def State.blkStatus (s : State) (p : Nat) : Nat :=
  b2n (s.blockReady p) + 2 * b2n (match s.power.req with | some r => r.agreed.contains p | none => false) +
    4 * b2n (pageRegion p < 6 && s.fld F.CHIP_ERR_SUMMARY_ISOLATED / 2 ^ pageRegion p % 2 == 1) +
    8 * b2n (s.rd (p * 0x1000 + 0x18) != 0)

/-- ERR_SUMMARY.REGIONS (R365). -/
def State.errRegions (s : State) : Nat :=
  (List.range 6).foldl
    (fun a n => if pageList.any fun p => pageRegion p == n && s.rd (p * 0x1000 + 0x18) != 0 then a + 2 ^ n else a) 0

/-- The replay causes that are active (R122), by their codes. -/
def State.replayCauses (s : State) : List Nat :=
  [1, 2, 3, 4, 5].filter fun c =>
    match c with
    | 1 => s.bit F.SCAN_REPLAY_CTRL_REQ
    | 2 => !s.domOn dHOST
    | 3 => s.hostReset
    | 4 => s.bit F.SCAN_STATUS_HOLD
    | _ => s.power.compDawn != 0 || s.power.compDusk != 0

/-- Word `i` of job context `c` (R185). -/
def State.ctxView (s : State) (c i : Nat) : Nat :=
  match SMap.find? s.cmp.ctxs c with
  | none => 0
  | some x =>
    let q := x.qz
    match i with
    | 0 => (if x.active then 2 else 1) + 4 * b2n x.sealed + 8 * b2n q.final + 16 * q.btype +
        64 * q.owedKind + 256 * x.keySlot + 65536 * x.queue
    | 1 => x.index
    | 2 => q.bit
    | 3 => q.total
    | 4 => q.owed
    | 5 => q.dist
    | 6 => x.src.toNat
    | 7 => x.src.toNat / 2 ^ 32
    | 8 => x.len.toNat
    | 9 => q.blockOut
    | 10 => q.crc.toNat
    | _ => 0

/-- LABEL.PANELp_STATE (R292). -/
def State.labelPanelView (s : State) (p : Nat) : Nat :=
  (s.lblRunning p).length + 256 * (s.label.pend.filter fun u => u.panel == p).length +
    65536 * (s.label.recs.filter fun r => r.panel == p).length

/-- GATE.STATUS (R240): the gate line is shown as a 15-bit two's complement number. -/
def State.gateView (s : State) : Nat :=
  (if s.bit F.SCAN_STATUS_RUNNING then (s.gateShown % 32768).toNat else 0) + 65536 * b2n (s.fld F.GATE_CTRL_FORCE != 0)

/-- LOCAL_TIME (R393). -/
def State.localTime (s : State) : Nat := s.fld F.PCIEX_LOCAL_TIME_LO_TIME + s.fld F.PCIEX_LOCAL_TIME_HI_TIME * 2 ^ 32

/-- A latch now would carry a TIME (R394). -/
def State.ptmValid (s : State) : Bool :=
  s.ptmEnabled && s.pcie.ptmFresh && s.localTime ≤ s.pcie.ptmAt + s.fld F.PCIEX_PTM_CFG_VALID_MS * 1200000

/-- The host time of a latch now, or 0 (R394). -/
def State.ptmTime (s : State) : Nat :=
  if s.ptmValid then
    let dl := (s.localTime - (s.fld F.PCIEX_PTM_LO_L + s.fld F.PCIEX_PTM_HI_L * 2 ^ 32)) * 5 / 6
    let h := s.fld F.PCIEX_PTM_HOST_LO_H + s.fld F.PCIEX_PTM_HOST_HI_H * 2 ^ 32
    (h + (dl * s.fld F.PCIEX_PTM_RATIO_RATIO + 2 ^ 29) / 2 ^ 30) % 2 ^ 64
  else 0

/-- The registers whose value follows from other state; none for a register that is held. -/
def State.computed (s : State) (off : Nat) : Option Nat :=
  if off < 0x100000 && off % 0x1000 = 8 && pageUsed (off / 0x1000) then some (s.blkStatus (off / 0x1000))
  else if off = R.CHIP_ERR_SUMMARY then some (s.errRegions + 256 * s.fld F.CHIP_ERR_SUMMARY_ISOLATED)
  else if off = R.CHIP_FATAL_LOG_NEXT then some s.logNext
  else if off = R.CHIP_INT_SUM0 then some (mapWord32 0 fun p => pageUsed p && s.pageSummary p)
  else if off = R.CHIP_INT_SUM1 then some (mapWord32 1 fun p => pageUsed p && s.pageSummary p)
  else if off = R.CHIP_INT_SUM2 then some (mapWord32 2 fun p => pageUsed p && s.pageSummary p)
  else if off = R.SCAN_STATUS then
    some ((s.rd off).toNat % 16 + 16 * s.replayCauses.headD 0)
  else if s.assayHidden off then some 0
  else if off = R.ASSAY_PROT_LO then some (s.assayProtMap % 2 ^ 32)
  else if off = R.ASSAY_PROT_HI then some (s.assayProtMap / 2 ^ 32)
  else if off = R.ASSAY_STATUS then
    some ((s.rd off).toNat / 4 * 4 + (s.rd off).toNat % 2 + 2 * b2n (s.assayHide && s.assay.protFrame))
  else if off = R.SURF_MAPPED_PAGES then some s.mappedPages
  else if off = R.SURF_RETIRE_STATUS then some ((s.rd off).toNat % 4 + 65536 * s.surf.retires.length)
  else if off = R.QMGR_ACTIVE_QUEUES then
    some ((s.queues.filter fun e => s.qState e.1 == qACTIVE || s.qState e.1 == qHELD || s.qState e.1 == qSTALLED).length)
  else if off = R.HOIST_BUSY_CAGES then some s.busyCages
  else if off = R.EVT_FULL_LO then some (mapWord32 0 fun r => s.ringRoom r == 0)
  else if off = R.EVT_FULL_HI then some (mapWord32 1 fun r => s.ringRoom r == 0)
  else if off = R.EVT_ENABLED_LO then some (mapWord32 0 fun r => s.bit (F.RING_CFG_ENABLE r))
  else if off = R.EVT_ENABLED_HI then some (mapWord32 1 fun r => s.bit (F.RING_CFG_ENABLE r))
  else if off = R.TXN_OPEN_SLOTS_LO then some (mapWord32 0 s.slotOpen)
  else if off = R.TXN_OPEN_SLOTS_HI then some (mapWord32 1 s.slotOpen)
  else if off = R.TXN_PENDING_LO then some (mapWord32 0 s.slotWaits)
  else if off = R.TXN_PENDING_HI then some (mapWord32 1 s.slotWaits)
  else if off = R.TXN_TARGETS then some s.instants.length
  else if off = R.COMP_LAYER_COUNT .dawn then some (s.layerCount .dawn)
  else if off = R.COMP_LAYER_COUNT .dusk then some (s.layerCount .dusk)
  else if off = R.CMP_LANE_STATUS then
    some (s.lanesBusy.foldl (fun a l => a + 2 ^ l) 0 +
      (match s.cmp.capture with
       | some c => 256 + (match c.lane with | some l => 16 * 2 ^ l | none => 0)
       | none => 0))
  else if off = R.CMP_CTX_SUSP_LO || off = R.CMP_CTX_SUSP_HI then
    some (mapWord32 ((off - R.CMP_CTX_SUSP_LO) / 4) fun c =>
      match SMap.find? s.cmp.ctxs c with | some x => !x.active | none => false)
  else if off = R.LINK_STATUS then some ((s.rd off).toNat / 4 * 4 + (s.rd off).toNat % 2 + 2 * b2n s.linkCover)
  else if off = R.LINK_LANE_RUN_LO then some (s.runMask % 2 ^ 32)
  else if off = R.LINK_LANE_RUN_HI then some (s.runMask / 2 ^ 32)
  else if off = R.GATE_STATUS then some s.gateView
  else if off = R.SEAL_KEY_STATE then some s.keyStates
  else if off = R.SEAL_POLICY then some (b2n s.assayHide)
  else if R.SEAL_KCVn 0 ≤ off && off ≤ R.SEAL_KCVn 15 then some (s.keyKcv ((off - R.SEAL_KCVn 0) / 4))
  else if off = R.LABEL_STATUS then
    some ((s.rd off).toNat % 16 + 16 * s.label.run.length + 65536 * s.label.pend.length)
  else if off = R.LABEL_JOURNAL_FREE then some s.journalFree
  else if off = R.LABEL_INTR_TOTAL then some s.label.recs.length
  else if 0x44200 ≤ off && off < 0x44280 && off % 16 = 4 then some (s.labelPanelView ((off - 0x44200) / 16))
  else if off = R.PCIEX_PTM_STATUS then some ((s.rd off).toNat / 2 * 2 + b2n s.ptmValid)
  else if off = R.PSTORE_STATUS then some s.persPending
  else if off = R.PSTORE_WARN_ROWS then some (s.rowsAt wearWarn)
  else if off = R.PSTORE_WORN_ROWS then some (s.rowsAt wearWorn)
  else if off = R.PSTORE_MAX_WEAR then some s.maxWear.1
  else if off = R.PSTORE_MAX_ROW then some s.maxWear.2
  else none

/-- The word of a register without its WO fields, which read as zero (R3). -/
def State.plain (s : State) (off : Nat) : Word :=
  let v := s.rd off
  (fieldsAt off).foldl (fun w f => if f.acc = .wo then putBits w f.lo f.w 0 else w) v

/-- One word of a window onto an array (R396). -/
def State.windowView (s : State) (off : Nat) : Word :=
  if 0x800000 ≤ off then
    let e := s.entry ((off - 0x800000) / 8)
    if off % 8 < 4 then e.truncate 32 else (e >>> 32).truncate 32
  else if 0x400000 ≤ off then (if s.domOn dFORE then s.scratch ((off - 0x400000) / 4) else 0)
  else if 0x1E8000 ≤ off then 0
  else if 0x1E0000 ≤ off then BitVec.ofNat 32 (rowWear s.pstore.wear ((off - 0x1E0000) / 4))
  else if 0x1DB000 ≤ off then 0
  else if 0x1C0000 ≤ off then s.persHostRead off
  else if 0x1A1000 ≤ off then 0
  else if 0x1A0000 ≤ off then s.journal ((off - 0x1A0000) / 4)
  else if 0x191000 ≤ off then 0
  else if 0x190000 ≤ off then BitVec.ofNat 32 (s.ctxView ((off - 0x190000) / 0x40) (off % 0x40 / 4))
  else if 0x18B180 ≤ off then 0
  else if 0x170000 ≤ off then
    let e := (off - 0x170000) / 2
    BitVec.ofNat 32 (s.odTable .dawn s.odStaging e % 65536 + s.odTable .dawn s.odStaging (e + 1) % 65536 * 65536)
  else if 0x151000 ≤ off && off < 0x152000 then
    let c := SMap.get clampLogDefault s.clampLog ((off - 0x151000) / 16)
    [c.w0, c.w1, c.w2, c.w3].getD (off % 16 / 4) 0
  else s.plain off

/-- What a read of the word at a BAR0 offset returns, where its block answers (R382). (Log 12: DESIGN CHOICE, safe.) -/
def State.view (s : State) (off : Nat) : Word :=
  match s.computed off with
  | some v => BitVec.ofNat 32 v
  | none => if off < 0x100000 then s.plain off else s.windowView off

end Sys2Proof.Machine
end

