-- ==== Sys2Proof/Machine/Commit.lean ====
section
/-! DEFINITION. What a commit does at its instant (R79, R81, R86, R94, R117, R118): its writes, its flips, the generation,
the descriptors it releases and its retire commands. -/

namespace Sys2Proof.Machine

/-! ### Flips (R117, R118) -/


/-- A flip has lost (R118). (Log 61: DEDUCED, unsafe.) -/
def State.loseFlip (s : State) (f : Flip) : State :=
  s.releaseFence 1 (BitVec.ofNat 32 (f.tag % 2 ^ 16 + f.queue % 2 ^ 13 * 2 ^ 16)) (f.addr.toNat / 2 ^ 21 % 2 ^ 20) 0
    (s.rd R.SCAN_FRAME_SEQ)

/-- Of flips in the order of application, each with its commit, the ones that survive and the ones that lose (R118).
(Log 46: DEDUCED, unsafe; log 61: DEDUCED, unsafe.) -/
def flipWinners : List (Nat × Flip) → List (Nat × Flip) × List Flip
  | [] => ([], [])
  | e :: es =>
    let r := flipWinners es
    if es.any fun x => x.2.layer == e.2.layer then (r.1, e.2 :: r.2) else (e :: r.1, r.2)

/-- A flip takes effect: DST into ADDR of its layer, checked under R112. -/
def State.applyFlip (s : State) (slot : Option Nat) (f : Flip) : State :=
  s.each (flipWords f.layer f.addr) fun s w => s.applyIn s slot selTxn w.1 w.2

/-! ### Writes (R79, R18) -/

/-- A write is kept by a check against the values that stand together in `ctx`, where its own ranges let it pass (R88). -/
def State.breaksIn (s ctx : State) (w : StagedWrite) : Bool :=
  let c := s.checkIn ctx selTxn w.off w.v
  c.kept && c.new != (s.ownCheck selTxn w.off w.v).new

/-- The values that will hold together once register writes take effect: a write that a check keeps takes no part in them,
first those that break against the committed values as well (R88). (Log 124: DEDUCED, unsafe.) -/
def settleGo (s : State) : Nat → List StagedWrite → State
  | 0, ws => s.withWrites ws
  | fuel + 1, ws =>
    let ctx := s.withWrites ws
    let broken := ws.filter (s.breaksIn ctx)
    match (broken.find? fun w => s.breaksIn (s.withWrites [w]) w) <|> broken.head? with
    | some w => settleGo s fuel (ws.erase w)
    | none => ctx

/-- The values that will hold together once the writes take effect, for the checks of R88: the SCAN page as its own checks
leave it (R125), every other register as `settleGo` finds it. -/
def State.commitView (s : State) (ws : List StagedWrite) : State :=
  let scan (w : StagedWrite) : Bool := w.off / 0x1000 == 0x20
  let s := s.each (ws.filter scan) fun s w =>
    if contentOf w.off = .nothing then s else (s.applyIn s none selTxn w.off w.v).dependents none w.off
  let regs := ws.filter fun w => !scan w && [Content.rws, .rwl, .rw].contains (contentOf w.off)
  settleGo s regs.length regs

/-- A commit under way: the state, and the lower halves of page entries that wait for their upper halves (R18). -/
structure CommitRun where
  s : State
  halves : SMap Word

/-- A held write that changes nothing is reported where R79 says. -/
def State.nothingReport (s : State) (slot : Option Nat) (off : Nat) (v : Word) : State :=
  let page := if off < 0x100000 && pageUsed (off / 0x1000) then off / 0x1000 else 0x13
  s.clampReportAt page slot true off v (s.view off)

/-- One held write takes effect (R79); retire commands follow later. (Log 25: DESIGN CHOICE, unsafe.) -/
def CommitRun.write (slot : Option Nat) (sel : Acc → Bool) (ctx : State) (a : CommitRun) (w : StagedWrite) : CommitRun :=
  let p := (w.off - 0x800000) / 8
  match contentOf w.off with
  | .entry =>
    if w.off % 8 = 0 then { a with halves := SMap.insert a.halves p w.v }
    else
      let lo := SMap.find? a.halves p
      ⟨a.s.applyEntry slot p (lo.getD ((a.s.entry p).truncate 32)) lo.isSome w.v, SMap.erase a.halves p⟩
  | .nothing | .persist => { a with s := a.s.nothingReport slot w.off w.v }
  | .retire => a
  | _ => { a with s := a.s.rwWrite (if w.off / 0x1000 = 0x20 then a.s else ctx) slot .pcie sel w.off w.v }

/-- The dependent clamps of layer entries whose size has changed (R112). (Log 43: DEDUCED, unsafe.) -/
def State.layerClamps (s : State) (slot : Option Nat) (ws : List StagedWrite) : State :=
  s.each ws fun s w => if 0x160000 ≤ w.off && w.off < 0x162000 then s.dependents slot w.off else s

/-- A commit has written DAWN_ASSAY, DAWN_OD or REPLAY_CTRL: ASSAY_MISMATCH is armed again (R263), a sealed bank that is
named ends the pass-through of R140, and HOLD clears (R122). (Log 43: DEDUCED, unsafe; log 49: DEDUCED, unsafe.) -/
def State.afterWrites (s : State) (ws : List StagedWrite) : State :=
  let live := ws.filter fun w => contentOf w.off != .nothing
  let s := if live.any fun w => w.off / 0x1000 == 0x26 then { s with assay := { s.assay with armed := true } } else s
  let s :=
    if (live.any fun w => w.off == R.OD_CTRL || w.off == R.OD_TABLE_CRC) &&
        s.fld F.OD_STAGE_STATUS_SEALED / 2 ^ s.fld F.OD_CTRL_ACTIVE_BANK % 2 == 1 then
      { s with od := { s.od with lostDawn := false, lostDusk := false } }
    else s
  if (live.any fun w => w.off == R.SCAN_REPLAY_CTRL) && s.domOn dHOST && !s.hostReset then s.setFld F.SCAN_STATUS_HOLD 0 else s

/-- Every held write takes effect (R79). A lower half that no upper half followed waits as R18 says. (Log 43: DEDUCED, unsafe.) -/
def State.applyWrites (s : State) (slot : Option Nat) (sel : Acc → Bool) (ws : List StagedWrite) : State :=
  let ctx := s.commitView ws
  let a := ws.foldl (CommitRun.write slot sel ctx) ⟨s, []⟩
  let s := { a.s with surf := { a.s.surf with heldLo := List.foldl (fun m (e : Nat × Word) => SMap.insert m e.1 e.2) a.s.surf.heldLo a.halves } }
  (s.layerClamps slot ws).afterWrites ws

/-- The generation advances, and the blocks written take it (R94). -/
def State.advanceGen (s : State) (pages : List Nat) : State :=
  let s := s.setFld F.CHIP_CONFIG_GEN_GEN (s.fld F.CHIP_CONFIG_GEN_GEN + 1)
  let g := s.fld F.CHIP_CONFIG_GEN_GEN
  (s.each pages.eraseDups fun s p => s.setFld (hdrFld p 0x38 0 32) g).setFld F.CHIP_DIGEST_STATUS_BUSY 1

/-- The blocks that writes change (R94). -/
def pagesOf (ws : List StagedWrite) : List Nat :=
  (ws.filter fun w => contentOf w.off != .nothing && contentOf w.off != .persist).map fun w => clampPage w.off

/-- The retire commands of a transaction, in staging order, each with the cookie then in force (R34, R79). -/
def State.applyRetires (s : State) (n : Nat) (ws : List StagedWrite) : State :=
  s.each ws fun s w =>
    if w.off = R.SURF_RETIRE_COOKIE then s.wr R.SURF_RETIRE_COOKIE w.v
    else if w.off = R.SURF_RETIRE_CMD then s.retire (some n) w.v (s.rd R.SURF_RETIRE_COOKIE)
    else s

/-- The descriptors that a transaction held are released (R55, R69). -/
def State.releaseHeld (s : State) (qs : List Nat) : State :=
  s.each qs fun s q =>
    if (s.queue q).desc.isSome then
      (s.setQueue q { s.queue q with heldBy := none, released := true }).grant q
    else s

/-- A commit takes effect (R86), with the flips of it that survive.
(Log 42: DEDUCED, unsafe; log 44: DEDUCED, unsafe; log 46: DEDUCED, unsafe.) -/
def State.applyCommit (s : State) (n : Nat) (flips : List Flip) : State :=
  let h := s.slot n
  let seq := s.fld (F.SLOT_STATE_SEQ n)
  let late := s.bit (F.SLOT_STATE_LATE n)
  let frame := s.rd R.SCAN_FRAME_SEQ
  let fl := s.heldFlips n
  let s := s.applyWrites (some n) selTxn h.writes
  let s := s.each flips fun s f => s.applyFlip (some n) f
  let s := s.advanceGen (pagesOf h.writes ++ if fl.isEmpty then [] else [0x20])
  let gen := s.fld F.CHIP_CONFIG_GEN_GEN
  let s := { s with txn := { s.txn with arrived := s.txn.arrived.filter (· != n) } }.setSlot n SlotHid.init
  let s := (((s.setFld (F.SLOT_STATE_STATE n) slFREE).setFld (F.SLOT_WRITES_COUNT n) 0).setFld (F.SLOT_WRITES_CLAMPS n) 0).setFld
    (F.SLOT_FIRST_CLAMP_OFFSET n) 0
  let s := (s.setFld (F.SLOT_APPLIED_FRAME_FRAME n) frame.toNat).bump F.TXN_COMMITS_COUNT
  let s := s.bump F.TXN_LATE_COUNT (b2n late)
  let s := (s.releaseHeld h.held).applyRetires n h.writes
  if h.evt then
    s.post F.TXN_EVT_RING_RING 0x0100 [(6, n), (2, h.mode), (10, seq), (32, frame.toNat), (32, gen)]
  else s

/-- The commits of one instant, in arrival order, with flips of TXN = 0 that take effect there before them; each commit that
takes effect is handed its surviving flips (R86, R118). (Log 46: DEDUCED, unsafe.) -/
def State.applyCommits (s : State) (ns : List Nat) (direct : List Flip) (implicit : State → List Flip → State) : State :=
  let all := (direct.map fun f => (64, f)) ++ ns.flatMap fun n => (s.heldFlips n).map fun f => (n, f)
  let r := flipWinners all
  let mine (n : Nat) : List Flip := (r.1.filter fun e => e.1 == n).map (·.2)
  let s := s.each r.2 State.loseFlip
  let s := implicit s (mine 64)
  (s.each ns fun s n => s.applyCommit n (mine n)).assign

/-! ### The implicit commit of a latch (R75) -/

/-- The staged values that differ from what is committed, in the order in which they were staged. One that its check will
keep or clamp back counts among them. (Log 48: DEDUCED, unsafe; log 133: DESIGN CHOICE, unsafe.) -/
def State.directDue (s : State) : List StagedWrite :=
  (s.txn.direct.map fun e => ⟨e.1, e.2⟩ : List StagedWrite).filter fun w =>
    (fieldsAt w.off).any fun f => selStaged f.acc && bitsOf w.v f.lo f.w != bitsOf (s.rd w.off) f.lo f.w

/-- The implicit commit of R75 at a latch: staged fields, staged page entries and pending flips. It is made only when
something takes effect. (Log 26: DEDUCED, unsafe.) -/
def State.implicitCommit (s : State) (flips : List Flip) : State :=
  let ws := s.directDue
  let s := { s with txn := { s.txn with direct := [] } }.applyWrites none selStaged ws
  let tab := s.surf.pageTab
  let s := s.applyStagedEntries
  let entries := s.surf.pageTab != tab
  let s := s.each flips fun s f => s.applyFlip none f
  if ws.isEmpty && !entries && flips.isEmpty then s
  else
    s.advanceGen (pagesOf ws ++ (if entries then [0x14] else []) ++ (if flips.isEmpty then [] else [0x20]))

/-- Values staged outside a transaction (R75): a later write of a register replaces an earlier one. (Log 46: DEDUCED, unsafe.) -/
def State.stageDirect (s : State) (off : Nat) (v : Word) : State :=
  { s with txn := { s.txn with direct := SMap.erase s.txn.direct off ++ [(off, v)] } }

/-! ### NOW (R81) -/

/-- The NOW commits that wait to switch, in the order of their arrival. -/
def State.nowWaiting (s : State) : List Nat := s.txn.arrived.filter fun n => (s.slot n).instant == some (.now n)

/-- The NOW commits that switch when that of slot `n` does: it and those that arrived before it (R87).
(Log 45: DESIGN CHOICE, unsafe.) -/
def State.nowUpTo (s : State) (n : Nat) : List Nat := s.nowWaiting.takeWhile (· != n) ++ [n]

/-- NOW commits switch, one after the other. -/
def State.switchAll (s : State) (ns : List Nat) : State :=
  (s.each ns fun s n => s.applyCommits [n] [] fun s _ => s).ltrUpdate

/-- A NOW commit switches (R81). (Log 47: DEDUCED, unsafe.) -/
def State.nowSwitch (s : State) (n : Nat) : State :=
  if s.fld (F.SLOT_STATE_STATE n) = slPENDING && (s.slot n).instant = some (.now n) then s.switchAll (s.nowUpTo n) else s

/-- A line or a latch begins: the NOW commits that still wait have switched before it (R81, R87). (Log 45: DESIGN CHOICE, unsafe.) -/
def State.nowFirst (s : State) : State := if s.nowWaiting.isEmpty then s else s.switchAll s.nowWaiting

end Sys2Proof.Machine
end

