-- ==== Sys2Proof/Machine/Compose.lean ====
section
/-! DEFINITION. Layer fetch and composition (05, R106, R113 to R120; 02, R27, R29, R32, R39): what a half fetches for a
line, the remote-surface cache, and the strips of a line with their substitutions. -/

namespace Sys2Proof.Machine

/-! ### Pixels (R30, R32, R115, R116) -/

/-- A channel of `n` bits widened to 12 bits (R32). -/
def widen (n v : Nat) : Nat :=
  match n with
  | 2 => v * 0x555
  | 5 => v * 128 + v * 4 + v / 8
  | 6 => v * 64 + v
  | 8 => v * 16 + v / 16
  | _ => v * 4 + v / 256

/-- A source pixel with its channels and its alpha widened. -/
structure Texel where
  r : Nat
  g : Nat
  b : Nat
  a : Nat
deriving DecidableEq, Repr

/-- What an invalid page yields (R39). -/
def Texel.clear : Texel := ⟨0, 0, 0, 0⟩

/-- The little-endian value of a pixel in a surface format (R30, R32). -/
def texel (fmt v : Nat) : Texel :=
  match fmt with
  | 0 => ⟨widen 5 (v / 2048 % 32), widen 6 (v / 32 % 64), widen 5 (v % 32), 0xFFF⟩
  | 1 | 2 => ⟨widen 8 (v / 65536 % 256), widen 8 (v / 256 % 256), widen 8 (v % 256), 0xFFF⟩
  | 3 => ⟨widen 8 (v / 65536 % 256), widen 8 (v / 256 % 256), widen 8 (v % 256), widen 8 (v / 16777216 % 256)⟩
  | 4 => ⟨widen 10 (v / 1048576 % 1024), widen 10 (v / 1024 % 1024), widen 10 (v % 1024), 0xFFF⟩
  | _ => ⟨widen 10 (v / 1048576 % 1024), widen 10 (v / 1024 % 1024), widen 10 (v % 1024), widen 2 (v / 1073741824 % 4)⟩

/-- The product of two 12-bit fractions (R115). -/
def mulUnit (a b : Nat) : Nat := (a * b + 2047) / 4095

/-- One channel of one layer over the value composed so far (R115). -/
def blendCh (mode g as' c d : Nat) : Nat :=
  let a := mulUnit as' g
  match mode with
  | 0 => mulUnit c g + mulUnit d (4095 - g)
  | 1 => mulUnit c a + mulUnit d (4095 - a)
  | _ => min 4095 (mulUnit c g + mulUnit d (4095 - a))

/-- One layer's pixel over the pixel composed so far (R115). Pixels are 12-bit here. -/
def blendPx (l : Layer) (t : Texel) (d : Px) : Px :=
  ⟨blendCh l.blend l.galpha t.a t.r d.r, blendCh l.blend l.galpha t.a t.g d.g, blendCh l.blend l.galpha t.a t.b d.b⟩

/-- Stage 2 of one channel (R116). -/
def round10 (d : Nat) : Nat := min 1023 ((d + 2) / 4)

def Px.round (p : Px) : Px := ⟨round10 p.r, round10 p.g, round10 p.b⟩

/-- The background, widened (R116). -/
def State.bgWide (s : State) : Px :=
  ⟨widen 10 (s.fld F.SCAN_BG_COLOR_RED), widen 10 (s.fld F.SCAN_BG_COLOR_GREEN), widen 10 (s.fld F.SCAN_BG_COLOR_BLUE)⟩

/-- A strip of the background, rounded. -/
def State.bgStrip (s : State) : List Px := List.replicate stripW s.bgWide.round

/-! ### Which layers a strip uses (R113, R114) -/

/-- First panel column of strip `k` of a half. -/
def State.stripX (s : State) (h : Half) (k : Nat) : Nat := s.halfX h + 32 * k

/-- The layers that strip `k` of a half uses on line `y`, bottom first, and the number that cover it (R114). -/
def State.stripUse (s : State) (ls : List Layer) (h : Half) (y k : Nat) : List Layer × Nat :=
  let a : Int := s.stripX h k
  let c := ls.filter fun l => l.covers y a (a + 32)
  (c.drop (c.length - 16), c.length)

/-- The source row of a layer for line `y` (R113). -/
def Layer.row (l : Layer) (y : Nat) : Nat := (((y : Int) - l.y) / (l.sy : Int)).toNat

/-- The address of a layer's source pixel for panel column `x` on line `y` (R113). -/
def Layer.src (l : Layer) (x : Int) (y : Nat) : Nat :=
  l.addr + l.row y * l.pitch + ((x - l.x) / (l.sx : Int)).toNat * bytesPerPixel l.fmt

/-- The bytes of a layer that the 32 columns from `a` need on line `y`: first address, and the address after the last. -/
def Layer.span (l : Layer) (a : Int) (y : Nat) : Nat × Nat :=
  (l.src (max a l.x) y, l.src (min (a + 32) l.right - 1) y + bytesPerPixel l.fmt)

/-- The aligned 64 B blocks of a span, as multiples of 64 (R119). -/
def spanBlocks (r : Nat × Nat) : List Nat := (List.range ((r.2 + 63) / 64 - r.1 / 64)).map (r.1 / 64 + ·)

/-- The blocks that a half needs of one layer on line `y`, over the strips that use it. (Log 56: DESIGN CHOICE, unsafe.) -/
def State.layerBlocks (s : State) (ls : List Layer) (l : Layer) (h : Half) (y : Nat) : List Nat :=
  ((List.range s.strips).flatMap fun k =>
    if (s.stripUse ls h y k).1.any fun x => x.index == l.index then spanBlocks (l.span (s.stripX h k) y) else []).eraseDups

/-- The layers of the list with the addresses that were fixed at a fetch start (R106). -/
def State.layersAt (s : State) (addrs : List Nat) : List Layer :=
  (s.layers.zip addrs).map fun e => { e.1 with addr := e.2 }

/-! ### The remote-surface cache in fetch (R27, R29) -/

/-- Key of a 4 KiB line of a remote page. -/
def remoteKey (page line : Nat) : Nat := page * 512 + line

/-- A fill that a fetch needed has failed or is late (R29, R432): counted, and reported once per frame. Causes are
1 error, 2 timeout, 3 late. -/
def State.remoteFail (s : State) (h : Half) (line page cause : Nat) : State :=
  let s := s.bump F.SURF_REMOTE_ERR_COUNT
  if s.surf.remoteRaised then s
  else
    let s := { s with surf := { s.surf with remoteRaised := true } }
    (s.post F.SURF_FENCE_RING_RING 0x0242
      [(1, halfNum h), (2, cause), (14, line), (20, page), (32, (s.rd R.SCAN_FRAME_SEQ).toNat)]).raise 0x14 2

/-- The lines after one that missed are requested ahead (R27). -/
def State.prefetch (s : State) (page line : Nat) : State :=
  s.each (List.range (s.fld F.SURF_CTRL_PREFETCH_LINES)) fun s i =>
    let n := line + 1 + i
    if n < 512 && (s.rcacheFind page n).isNone then s.rcacheRequest page n none else s

/-- The fetch of line `L` in progress. -/
structure FetchRun where
  s : State
  f : FetchLine

/-- A half fetches one line of a remote page (R27): from the cache, or by a fill. Without the host neither is there, and in
D3hot (R387) a fill fails as late. (Log 22: DEDUCED, unsafe; log 56: DESIGN CHOICE, unsafe.) -/
def FetchRun.remote (a : FetchRun) (h : Half) (line page ln : Nat) : FetchRun :=
  let key := remoteKey page ln
  let s := a.s
  let miss (s : State) : FetchRun := ⟨s, { a.f with missing := if a.f.missing.contains key then a.f.missing else a.f.missing ++ [key] }⟩
  let cached := if s.bit F.SURF_CTRL_RCACHE_EN then s.rcacheFind page ln else none
  if !s.hostUp then miss (s.remoteFail h line page 3)
  else
    match cached with
    | some l => ⟨(s.rcacheTouch l).bump F.SURF_RCACHE_HITS_COUNT, { a.f with bufs := a.f.bufs ++ [(key, l.data)] }⟩
    | none =>
      let s := s.bump F.SURF_RCACHE_MISSES_COUNT
      if s.pcie.d3hot then miss (s.remoteFail h line page 3)
      else
        let s := s.rcacheRequest page ln (some ⟨h, line⟩)
        miss (if s.bit F.SURF_CTRL_RCACHE_EN then s.prefetch page ln else s)

/-- A line of a remote page that the line above has fetched already serves this line as well (R119). -/
def FetchRun.reuse (a : FetchRun) (prev : FetchLine) (h : Half) (line page ln : Nat) : FetchRun :=
  let key := remoteKey page ln
  match prev.bufs.find? fun e => e.1 == key with
  | some e => { a with f := { a.f with bufs := a.f.bufs ++ [e] } }
  | none =>
    let fills := a.s.surf.fills.map fun f =>
      if f.page == page && f.line == ln && !f.needs.isEmpty then { f with needs := f.needs ++ [⟨h, line⟩] } else f
    ⟨{ a.s with surf := { a.s.surf with fills := fills } },
     { a.f with missing := if a.f.missing.contains key then a.f.missing else a.f.missing ++ [key] }⟩

/-! ### Fetch of a line (R106, R119, R39, R35) -/

/-- A layer fetch met an invalid page entry (R39). (Log 29: DEDUCED, unsafe.) -/
def State.surfFault (s : State) (h : Half) (line page : Nat) : State :=
  let s := (s.bump F.SURF_FAULT_COUNT_COUNT).setFld F.SURF_FAULT_PAGE_PAGE page
  if s.surf.faultRaised then s
  else
    let s := { s with surf := { s.surf with faultRaised := true } }
    (s.post F.SURF_FENCE_RING_RING 0x0241
      [(1, halfNum h), (14, line), (20, page), (32, (s.rd R.SCAN_FRAME_SEQ).toNat)]).raise 0x14 1

/-- The lines of a remote page that blocks lie in, as page and line. -/
def remoteLines (bs : List Nat) : List (Nat × Nat) := (bs.map fun b => (b / 32768 % 2 ^ 20, b / 64 % 512)).eraseDups

/-- One half fetches what it needs of one layer for line `line`. `prev` is what was fetched for the line above: its blocks
of the same source row are not fetched again (R119). (Log 29: DEDUCED, unsafe; log 52: DESIGN CHOICE, safe.) -/
def FetchRun.layer (ls : List Layer) (prev : Option FetchLine) (h : Half) (line : Nat) (a : FetchRun) (l : Layer) : FetchRun :=
  let s := a.s
  let need := s.layerBlocks ls l h line
  let same : Option (FetchLine × List Nat) :=
    match prev with
    | some p =>
      let up := { l with addr := p.addrs.getD l.index 0 }
      if 0 < line && up.addr == l.addr && l.y < (line : Int) && l.row (line - 1) == l.row line then
        some (p, s.layerBlocks (s.layersAt p.addrs) up h (line - 1))
      else none
    | none => none
  let old := match same with | some e => need.filter e.2.contains | none => []
  let new := need.filter fun b => !old.contains b
  let isRemote (b : Nat) : Bool :=
    match surfPage (b * 64) with
    | some p => entryValid (s.entry p) && entryRemote (s.entry p)
    | none => false
  let pages := (new.map fun b => b / 32768).eraseDups
  let bad := pages.filter fun p => !(p < 2 ^ 20 && entryValid (s.entry p))
  let good := pages.filter fun p => p < 2 ^ 20 && entryValid (s.entry p)
  let bytes := 64 * (new.filter fun b => !bad.contains (b / 32768)).length
  let s := s.each bad fun s p => s.surfFault h line (p % 2 ^ 20)
  let s := s.each good fun s p =>
    { s with surf := { s.surf with lastRead := SMap.insert s.surf.lastRead p (s.rd R.SCAN_FRAME_SEQ).toNat } }
  let hf := s.halfFrame h
  let s := s.setHalfFrame h { hf with fetchBytes := hf.fetchBytes + bytes }
  let a := (remoteLines (new.filter isRemote)).foldl (fun (a : FetchRun) e => a.remote h line e.1 e.2) { a with s := s }
  match same with
  | some e => (remoteLines (old.filter isRemote)).foldl (fun (a : FetchRun) x => a.reuse e.1 h line x.1 x.2) a
  | none => a

/-- Fetch of line `line` starts (R106): the addresses in effect are fixed, and each half that is ON fetches what it needs.
In replay layer fetch is idle (R123). (Log 51: DESIGN CHOICE, unsafe.) -/
def State.fetchLine (s : State) (line : Nat) : State :=
  let ls := s.layers
  let f : FetchLine := ⟨ls.map (·.addr), [], [], []⟩
  let prev := if line = 0 then none else SMap.find? s.scan.fetch (line - 1)
  let a : FetchRun :=
    if s.bit F.SCAN_STATUS_REPLAY then ⟨s, f⟩
    else
      (halves.filter fun h => s.domOn (halfDomain h)).foldl
        (fun a h => (ls.filter fun l => l.covers line (a.s.halfX h) (a.s.halfX h + a.s.halfW)).foldl (FetchRun.layer ls prev h line) a)
        ⟨s, f⟩
  { a.s with scan := { a.s.scan with fetch := SMap.insert a.s.scan.fetch line a.f } }

/-! ### Composition of a strip (R106, R113 to R116) -/

/-- What a read of source bytes gives: they, transparent black, or nothing because a remote fill has not come. -/
inductive SrcRes where
  | bytes (bs : List Byte)
  | invalid
  | missing
deriving DecidableEq, Repr

/-- One byte of a source more. -/
def SrcRes.add : SrcRes → SrcRes → SrcRes
  | .missing, _ => .missing
  | _, .missing => .missing
  | .invalid, _ => .invalid
  | _, .invalid => .invalid
  | .bytes a, .bytes b => .bytes (a ++ b)

/-- One byte at a surface address, remote ones from what was fetched for the line; a block that was read with an
uncorrectable error gives what came in its place.
(Log 29: DEDUCED, unsafe; log 51: DESIGN CHOICE, unsafe; log 128: DESIGN CHOICE, safe.) -/
def State.srcByte (s : State) (f : FetchLine) (a : Nat) : SrcRes :=
  match s.translate a with
  | .invalid => .invalid
  | .dram d _ =>
    match f.bad.find? fun e => e.1 == d / 64 with
    | some e => .bytes [e.2.getD (d % 64) 0]
    | none => .bytes [s.dramByte d]
  | .host _ =>
    match f.bufs.find? fun e => e.1 == remoteKey (a / frameBytes) (a / 4096 % 512) with
    | some e => .bytes [e.2.getD (a % 4096) 0]
    | none => .missing

/-- The source pixel of a layer; none while its data are missing (R29, R39). -/
def State.srcTexel (s : State) (f : FetchLine) (l : Layer) (x : Int) (y : Nat) : Option Texel :=
  let a := l.src x y
  match (List.range (bytesPerPixel l.fmt)).foldl (fun (r : SrcRes) i => r.add (s.srcByte f (a + i))) (SrcRes.bytes []) with
  | .bytes bs => some (texel l.fmt (ofLe bs))
  | .invalid => some Texel.clear
  | .missing => none

/-- One pixel from the layers that its strip uses (R115, R116), before rounding; none while data are missing. -/
def State.composePx (s : State) (f : FetchLine) (used : List Layer) (x : Int) (y : Nat) : Option Px :=
  used.foldl
    (fun d l =>
      match d with
      | none => none
      | some d => if l.x ≤ x && x < l.right then (s.srcTexel f l x y).map fun t => blendPx l t d else some d)
    (some s.bgWide)

/-- A layer refers, for a strip, to a protected page (R264). -/
def State.spanProtected (s : State) (r : Nat × Nat) : Bool :=
  (pageSpan r.1 (r.2 - r.1)).any fun p => entryValid (s.entry p) && entryProt (s.entry p) && !entryRemote (s.entry p)

/-- A strip as stage 3 takes it: its 10-bit pixels, its protection, and whether overdrive must pass it through because the
set that it shows is not the replayed one (R137). -/
structure Strip where
  px : List Px
  prot : Bool
  pass : Bool
deriving DecidableEq, Repr

/-- A substituted strip (R120): counted, and taken from the frame one back, or else from the background. -/
def State.substitute (s : State) (h : Half) (line k : Nat) : State × Strip :=
  let s := s.bump (F.COMP_UNDERRUN_COUNT h)
  let s := (s.setFld (F.COMP_UNDERRUN_LAST_LINE h) line).setFld (F.COMP_UNDERRUN_FRAME_FRAME h) (s.rd R.SCAN_FRAME_SEQ).toNat
  let f := s.halfFrame h
  let s := s.setHalfFrame h { f with underFirst := if f.underCount = 0 then line else f.underFirst, underCount := f.underCount + 1 }
  let b := s.fld (F.HIST_ROLES_BACK1 h)
  if !s.setValid h b then (s, ⟨s.bgStrip, false, false⟩)
  else
    let r := s.histRead h 1 b line k
    match r.2 with
    | some px => (r.1, ⟨px, r.1.histProt h b line k, false⟩)
    | none => (r.1, ⟨r.1.bgStrip, false, false⟩)

/-- A strip that more than 16 layers cover (R114). -/
def State.overflow (s : State) (h : Half) (line n : Nat) : State :=
  let s := s.bump (F.COMP_OVERFLOW_COUNT h)
  let s := (s.setFld (F.COMP_OVERFLOW_LAST_LINE h) line).setFld (F.COMP_OVERFLOW_LAST_MAX_LAYERS h) n
  let f := s.halfFrame h
  s.setHalfFrame h { f with overFirst := if f.overCount = 0 then line else f.overFirst, overCount := f.overCount + 1,
                            overMax := max f.overMax n }

/-- Strip `k` of a composed line (R114 to R116, R120). `late`: its fetch is not complete. -/
def State.composeStrip (s : State) (f : FetchLine) (ls : List Layer) (h : Half) (line k : Nat) (late : Bool) : State × Strip :=
  let u := s.stripUse ls h line k
  let s := if 16 < u.2 then s.overflow h line u.2 else s
  let x0 : Int := s.stripX h k
  let px := if late && !u.1.isEmpty then none
            else (List.range stripW).mapM fun i => s.composePx f u.1 (x0 + i) line
  match px with
  | some ps => (s, ⟨ps.map Px.round, u.1.any fun l => s.spanProtected (l.span x0 line), false⟩)
  | none => s.substitute h line k

/-- Strip `k` of a replayed line (R123, R134, R137). -/
def State.replayStrip (s : State) (h : Half) (line k : Nat) : State × Strip :=
  let b := s.fld (F.HIST_ROLES_BACK1 h)
  if !s.setValid h b then (s, ⟨s.bgStrip, false, false⟩)
  else
    let r := s.histRead h 1 b line k
    let s := r.1
    match r.2 with
    | some px => (s, ⟨px, s.histProt h b line k, false⟩)
    | none =>
      match s.otherSet h b with
      | none => (s, ⟨s.bgStrip, false, true⟩)
      | some j =>
        match s.histPeek h j line k with
        | some px => (s, ⟨px, s.histProt h j line k, true⟩)
        | none => (s, ⟨s.bgStrip, false, true⟩)

/-- The strips of a line of a half, left to right. -/
def State.halfStrips (s : State) (h : Half) (one : State → Nat → State × Strip) : State × List Strip :=
  if !s.domOn (halfDomain h) then (s, [])
  else
    (List.range s.strips).foldl
      (fun (a : State × List Strip) k =>
        let r := one a.1 k
        (r.1, a.2 ++ [r.2]))
      (s, [])

/-! ### Stage 4 (R134, R137, R140) -/

/-- Overdrive of a strip: its 14-bit values, three per pixel. With the seal lost the history is read all the same, and every
pixel passes through, as does one whose table entry is at a local column of `bad` (R140). -/
def State.odStrip (s : State) (h : Half) (bad : List Nat) (line k : Nat) (t : Strip) : State × List (List Nat) :=
  if s.odIdle h then (s, t.px.map odPass)
  else
    let passed (s : State) : State × List (List Nat) := (s.bump (F.OD_PASS_STRIPS_COUNT h), t.px.map odPass)
    let drive (s : State) (ps : List (Px × Px × Px)) : State × List (List Nat) :=
      (s, ps.zipIdx.map fun e =>
        if s.odLost h || bad.contains (32 * k + e.2) then odPass e.1.2.2 else s.odPixel h e.1.1 e.1.2.1 e.1.2.2)
    if s.bit F.SCAN_STATUS_REPLAY then
      if t.pass then passed s else drive s (t.px.map fun c => (c, c, c))
    else
      let b1 := s.fld (F.HIST_ROLES_BACK1 h)
      let b2 := s.fld (F.HIST_ROLES_BACK2 h)
      let r1 := s.histRead h 1 b1 line k
      let r2 := if s.setValid h b2 then r1.1.histRead h 2 b2 line k else r1
      match r1.2, r2.2 with
      | some p1, some p2 => drive r2.1 (p2.zip (p1.zip t.px))
      | _, _ => passed r2.1

/-- Stage 4 of a line of a half: one row of values per pixel. -/
def State.odRow (s : State) (h : Half) (bad : List Nat) (line : Nat) (ts : List Strip) : State × List (List Nat) :=
  ts.zipIdx.foldl
    (fun (a : State × List (List Nat)) e =>
      let r := a.1.odStrip h bad line e.2 e.1
      (r.1, a.2 ++ r.2))
    (s, [])

/-! ### A line (R11, R106, R120) -/

/-- Fills that a line still waits for as it is composed are late, those lost with the host among them (R29). -/
def State.lateFills (s : State) (line : Nat) : State :=
  let waits (f : Fill) : Bool := f.needs.any fun (n : FillNeed) => n.line == line
  let late := (s.surf.fills ++ s.surf.lost).filter waits
  let fills := s.surf.fills.map fun (f : Fill) =>
    if waits f then { f with needs := f.needs.filter fun (n : FillNeed) => n.line != line, discard := true } else f
  { s with surf := { s.surf with fills := fills } }.each late fun s (f : Fill) =>
    match f.needs.find? fun (n : FillNeed) => n.line == line with
    | some n => s.remoteFail n.half line f.page 3
    | none => s

/-- A row padded so that a half that composes nothing has empty pixels. (Log 62: DESIGN CHOICE, safe.) -/
def padRow (n : Nat) (row : List (List Nat)) : List (List Nat) := row ++ List.replicate (n - row.length) []

/-- The pixels of a half that composes nothing have no stated value in a capture: they are free. -/
def State.captureStrips (s : State) (dawn dusk : List Strip) : State × List (List Px × Bool) :=
  let n := s.strips
  let d := s.draw
  let none' : List (List Px × Bool) := List.replicate n (List.replicate stripW (pxOfWord d.1.toNat), false)
  let pick (l : List Strip) : List (List Px × Bool) := if l.isEmpty then none' else l.map fun t => (t.px, t.prot)
  (if dawn.isEmpty || dusk.isEmpty then d.2 else s, pick dawn ++ pick dusk)

/-- The local columns of a half at which the table entry that overdrive reads is uncorrectable (R140). -/
def odBad (us : List Upset) (h : Half) : List Nat :=
  us.filterMap fun u =>
    match u with
    | .odEntry h' c _ => if h' == h then some c else none
    | _ => none

/-- A line meets an error in a read of memory: it is counted and reported (R140, R320, R326, R365), and a block of DRAM
that is uncorrectable gives a layer fetch free bytes in its place. (Log 128: DESIGN CHOICE, safe.) -/
def State.upset (a : State × FetchLine) (u : Upset) : State × FetchLine :=
  let s := a.1
  match u with
  | .sram p w un => (s.sramError p.toNat w un false, a.2)
  | .odEntry h _ w => (s.sramError (halfPage 0x23 h) w true true, a.2)
  | .dramLink n => (if s.domOn dSTORE then s.bump F.DRAMC_LINK_ERR_COUNT n else s, a.2)
  | .dram p x un =>
    if !s.domOn dSTORE then a
    else if !un then (s.dramCorr 1, a.2)
    else
      let s := s.dramUncorr x
      if p.toNat = 0x21 || p.toNat = 0x31 then
        let b := s.freeBytes 64
        (b.2, { a.2 with bad := a.2.bad ++ [(x / 64, b.1)] })
      else (s, a.2)

/-- Line `line` is composed or replayed, and goes down the pipeline (R11); `upsets` are what its reads of memory met.
(Log 51: DESIGN CHOICE, unsafe.) -/
def State.activeLine (s : State) (line : Nat) (lateStrips lateUni lateAge skipAge : List LateWord) (upsets : List Upset) :
    State :=
  let u := upsets.foldl State.upset (s, (SMap.find? s.scan.fetch line).getD ⟨[], [], [], []⟩)
  let f := u.2
  let s := u.1.lateFills line
  let s := s.each halves fun s h => s.histForget h line
  let ls := s.layersAt f.addrs
  let late (h : Half) (k : Nat) : Bool := lateStrips.any fun w => w.half == h && w.pos == k
  let one (h : Half) (s : State) (k : Nat) : State × Strip :=
    if s.bit F.SCAN_STATUS_REPLAY then s.replayStrip h line k else s.composeStrip f ls h line k (late h k)
  let a := s.halfStrips .dawn (one .dawn)
  let b := a.1.halfStrips .dusk (one .dusk)
  let flags (l : List Strip) : List (List Px × Bool) := l.map fun t => (t.px, t.prot)
  let s := b.1.assayLine line (flags a.2) (flags b.2)
  let c := s.captureStrips a.2 b.2
  let s := if s.cmp.capture.isSome then c.1.captureLine line c.2 else s
  let oa := s.odRow .dawn (odBad upsets .dawn) line a.2
  let ob := oa.1.odRow .dusk (odBad upsets .dusk) line b.2
  let s := ob.1
  let s := if s.domOn dDAWN then s.histWriteLine .dawn line (flags a.2) else s
  let s := if s.domOn dDUSK then s.histWriteLine .dusk line (flags b.2) else s
  let s := s.lateWords line lateUni lateAge skipAge
  let w := s.halfW
  let y1 := padRow w oa.2 ++ padRow w ob.2
  let y2 := y1.zipIdx.map fun e =>
    e.1.zipIdx.map fun c => s.stage5 (if e.2 < w then .dawn else .dusk) e.2 line c.2 c.1
  let out := y2.zipIdx.map fun e => e.1.map (s.stage6 e.2 line)
  (s.ageLine line y2).linkPush line false out

/-! ### Meanings -/

/-- The line that a fill brings reaches the fetches that need it. -/
def State.deliverFill (s : State) (key : Nat) (needs : List FillNeed) (bs : List Byte) : State :=
  s.each (needs.map (·.line)).eraseDups fun s l =>
    match SMap.find? s.scan.fetch l with
    | some f =>
      let f := { f with bufs := f.bufs ++ [(key, bs)], missing := f.missing.filter (· != key) }
      { s with scan := { s.scan with fetch := SMap.insert s.scan.fetch l f } }
    | none => s

/-- A fill that failed: counted once, and reported if a fetch needed it (R29). (Log 21: DEDUCED, unsafe.) -/
def State.fillFailed (s : State) (f : Fill) (cause : Nat) : State :=
  match f.needs with
  | [] => s.bump F.SURF_REMOTE_ERR_COUNT
  | n :: _ => s.remoteFail n.half n.line f.page cause

/-- REMOTE_FILL_DONE (R27 to R29): the oldest fill of a line ends, or is late for the lines that need it.
(Log 2: DESIGN CHOICE, safe; log 21: DEDUCED, unsafe.) -/
def State.remoteFillDone (s : State) (page line : Nat) (res : FillRes) : State :=
  let here (f : Fill) : Bool := f.page == page && f.line == line
  match s.surf.fills.find? here with
  | none => s
  | some f =>
    let gone := s.surf.fills.eraseP here
    match res with
    | .late =>
      if f.needs.isEmpty then s
      else
        ({ s with surf := { s.surf with fills := s.surf.fills.map fun x =>
            if x = f then { f with needs := [], discard := true } else x } }).fillFailed f 3
    | .data bs =>
      let bs := fitBytes 4096 bs
      let s := { s with surf := { s.surf with fills := gone } }
      let s := if f.discard || !s.bit F.SURF_CTRL_RCACHE_EN then s else s.rcacheTouch ⟨page, line, bs⟩
      s.deliverFill (remoteKey page line) f.needs bs
    | .error => { s with surf := { s.surf with fills := gone } }.fillFailed f 1
    | .timeout => ({ s with surf := { s.surf with fills := gone } }.noteRead .timeout).fillFailed f 2

def execRemoteFillDone (page : BitVec 20) (line : BitVec 9) (res : FillRes) (s : State) : Host.Outcome State Fault Refusal :=
  .next (s.remoteFillDone page.toNat line.toNat res)

/-- HIST_READ_DONE (R136, R137); the length table's byte may be uncorrectable (R320). -/
def execHistReadDone (h : Half) (back : BitVec 2) (line : BitVec 14) (strip : BitVec 7) (res : StripRead) (s : State) :
    Host.Outcome State Fault Refusal :=
  .next
    (let role := back.toNat
     let s' :=
       match res with
       | .lengthUpset w =>
         if s.histReadMade h role line.toNat strip.toNat && s.readCode h role line.toNat strip.toNat == 0 then
           s.sramError (halfPage 0x22 h) w true true
         else s
       | _ => s
     s'.histReadDone h role line.toNat strip.toNat res)

/-- A FLIP with TXN = 0 becomes pending; one that it supersedes loses at once (R117, R118). (Log 61: DEDUCED, unsafe.) -/
def State.addFlip (s : State) (f : Flip) : State :=
  let lost (x : Flip) : Bool := x.layer == f.layer && x.lineMode == f.lineMode
  let old := s.scan.flips.filter lost
  let s := { s with scan := { s.scan with flips := (s.scan.flips.filter fun x => !lost x) ++ [f] } }
  s.each old State.loseFlip

/-- DESC_FLIP (R47, R117, R118): a FLIP that a transaction has released has taken effect already. -/
def execDescFlip (n : BitVec 5) (s : State) : Host.Outcome State Fault Refusal :=
  .next (s.onStart n.toNat 4 fun c =>
    if c.desc.srcHost || c.desc.dstHost then s.finish n.toNat c stREFUSED c.desc.len.toNat
    else if c.desc.inTxn then s.finish n.toNat c stOK 0
    else
      match c.owner with
      | .queue q => (s.addFlip (flipOf q c.desc)).finish n.toNat c stOK 0
      | .chan _ => s)

end Sys2Proof.Machine
end

