-- ==== Sys2Proof/Machine/Scan.lean ====
section
/-! DEFINITION. Scan timing (05, R102 to R110, R122 to R125): the frame latch, blanking and active lines, line-mode flips,
replay and the start of scan. -/

namespace Sys2Proof.Machine

/-! ### The end of the blanking (R105, R108) -/

/-- The end of the blanking is fixed at blanking line `e`. -/
def State.fixEnd (s : State) (e : Nat) (repeated : Bool) : State :=
  { s with scan := { s.scan with endFixed := true, e := e, repeated := repeated } }

/-- The larger of the commit guard and the fetch lead (R108). -/
def State.scanGuard (s : State) : Nat := max (s.fld F.SCAN_COMMIT_GUARD_LINES) (s.fld F.SCAN_FETCH_LEAD_LINES)

/-- The start of blanking line `k` (R105, R108), after the commits that take effect there; `g` is `scanGuard` as it stood
before them. (Log 55: DEDUCED, unsafe.) -/
def State.blankingEnd (s : State) (g : Nat) : State :=
  let v := s.fld F.SCAN_V_TIMING_V_ACTIVE
  let bmin := s.fld F.SCAN_V_TOTAL_MIN - v
  let bmax := s.fld F.SCAN_V_TOTAL_MAX - v
  let k := s.scan.k
  let s :=
    if s.scan.endFixed then s
    else if k = 0 && !s.bit F.SCAN_CTRL_VRR then s.fixEnd bmax false
    else if s.scan.applied && bmin ≤ k + g then s.fixEnd (min bmax (max bmin (k + g))) false
    else if bmax ≤ k + g then s.fixEnd bmax true
    else s
  s.setBit F.SCAN_STATUS_STRETCH (!s.scan.endFixed && bmin ≤ k)

/-! ### Fetch starts (R106, R110, R117) -/

/-- The pages that layer `n` refers to count as read in the current frame (R35, R110). -/
def State.flipRead (s : State) (n : Nat) : State :=
  s.each (layerPages s.rd n) fun s p =>
    { s with surf := { s.surf with lastRead := SMap.insert s.surf.lastRead p (s.rd R.SCAN_FRAME_SEQ).toNat } }

/-- What layers show counts as read: as flips take effect at a line, the buffers that they replace and their own. -/
def State.flipsRead (s : State) (layers : List Nat) : State := s.each layers State.flipRead

/-- Commits of mode AT_LINE and line-mode flips take effect as fetch of line `line` starts (R110, R117, R118). -/
def State.lineCommits (s : State) (line : Nat) : State :=
  let due := s.txn.arrived.filter fun n => (s.slot n).instant == some .line
  let flips := s.scan.flips.filter (·.lineMode)
  if due.isEmpty && flips.isEmpty then s
  else
    let all := (flips.map fun f => (64, f)) ++ due.flatMap fun n => (s.heldFlips n).map fun f => (n, f)
    let won := (flipWinners all).1.map fun e => (e.2.layer, line)
    let layers := won.map (·.1)
    let s := s.flipsRead layers
    let s := { s with scan := { s.scan with flips := s.scan.flips.filter (!·.lineMode), flipLines := s.scan.flipLines ++ won } }
    ((s.applyCommits due flips fun s fs => s.each fs fun s f => (s.applyFlip none f).advanceGen [0x20]).flipsRead layers).ltrUpdate

/-- Fetch of the lines up to `last` that has not started yet starts; `first` is the first line still to be composed. -/
def State.fetchUpTo (s : State) (first last : Nat) : State :=
  let v := s.fld F.SCAN_V_TIMING_V_ACTIVE
  s.each ((List.range (last + 1 - first)).map (first + ·)) fun s l =>
    if v ≤ l || (SMap.find? s.scan.fetch l).isSome then s else (s.lineCommits l).fetchLine l

/-! ### Line events (R124) -/

/-- LINE_REACHED as a line begins. -/
def State.lineReached (s : State) : State :=
  if s.bit F.SCAN_LINE_EVT_EN && s.fld F.SCAN_LINE_EVT_LINE == s.fld F.SCAN_LINE_SCAN_LINE then
    (s.raise 0x20 1).post F.SCAN_EVT_CTRL_RING 0x0201
      [(15, s.fld F.SCAN_LINE_SCAN_LINE), (32, (s.rd R.SCAN_FRAME_SEQ).toNat)]
  else s

/-- FLIP_LINE for every flip whose first line begins (R117). -/
def State.flipLineEvents (s : State) (line : Nat) : State :=
  let now' := s.scan.flipLines.filter fun e => e.2 == line
  let s := { s with scan := { s.scan with flipLines := s.scan.flipLines.filter fun e => e.2 != line } }
  if !s.bit F.SCAN_EVT_CTRL_FLIP_EN then s
  else s.each now' fun s e =>
    s.post F.SCAN_EVT_CTRL_RING 0x0206 [(8, e.1), (14, line), (32, (s.rd R.SCAN_FRAME_SEQ).toNat)]

/-! ### Blanking and active lines -/

/-- What a blanking line does once its commits have taken effect: the end of the blanking, fetch starts and line events.
(Log 47: DEDUCED, unsafe.) -/
def State.blankingLine (s : State) (g : Nat) : State :=
  let s := s.blankingEnd g
  let fl := s.fld F.SCAN_FETCH_LEAD_LINES
  let s :=
    if s.scan.endFixed && s.scan.e ≤ s.scan.k + fl then s.fetchUpTo 0 (s.scan.k + fl - s.scan.e) else s
  s.lineReached

/-- Commits of mode AT_FRAME that wait for the blanking of a variable frame take effect (R108). (Log 47: DEDUCED, unsafe.) -/
def State.blankingCommits (s : State) : State :=
  let due := if s.scan.endFixed then [] else s.txn.arrived.filter fun n => (s.slot n).instant == some .blanking
  if due.isEmpty then s
  else
    ({ s with scan := { s.scan with applied := true } }.applyCommits due [] fun s _ => s).ltrUpdate

/-- The next blanking line begins. -/
def State.nextBlanking (s : State) : State :=
  let k := s.scan.k + 1
  let s := { s with scan := { s.scan with k := k, lines := s.scan.lines + 1 } }
  let s := s.setFld F.SCAN_LINE_SCAN_LINE (s.fld F.SCAN_V_TIMING_V_ACTIVE + k)
  let g := s.scanGuard
  let s := s.blankingCommits
  if !s.bit F.SCAN_STATUS_RUNNING then s
  else
    let s := (s.setFld F.SCAN_LINE_SCAN_LINE (s.fld F.SCAN_V_TIMING_V_ACTIVE + k)).ageCycles
    (s.linkPush (s.fld F.SCAN_LINE_SCAN_LINE) true []).blankingLine g

/-- Active line `line` begins: fetch of a line ahead starts, and this line is composed. -/
def State.nextActive (s : State) (line : Nat) (lateStrips lateUni lateAge skipAge : List LateWord) (upsets : List Upset) :
    State :=
  let s := { s with scan := { s.scan with lines := s.scan.lines + 1 } }
  let s := (s.setFld F.SCAN_LINE_SCAN_LINE line).setFld F.SCAN_STATUS_STRETCH 0
  let s := s.fetchUpTo line (line + s.fld F.SCAN_FETCH_LEAD_LINES)
  let s := (s.lineReached).flipLineEvents line
  let s := s.activeLine line lateStrips lateUni lateAge skipAge upsets
  { s with scan := { s.scan with fetch := SMap.drop (fun l => l < line) s.scan.fetch } }

/-- PCLK runs: ROOT is locked (R297, R299). -/
def State.pclk (s : State) : Bool := s.bit F.CLK_STATUS_ROOT_LOCK

/-- The line after the one that is scanned begins (R104 to R110), unless a NOW commit has ended the scan. A blanking line
composes nothing, but reads of memory may meet errors in it. -/
def State.nextLine (s : State) (lateStrips lateUni lateAge skipAge : List LateWord) (upsets : List Upset) : State :=
  let line := s.fld F.SCAN_LINE_SCAN_LINE
  let v := s.fld F.SCAN_V_TIMING_V_ACTIVE
  if !s.bit F.SCAN_STATUS_RUNNING then s
  else if v ≤ line then
    if s.scan.endFixed && s.scan.e ≤ s.scan.k + 1 then s.nextActive 0 lateStrips lateUni lateAge skipAge upsets
    else (upsets.foldl State.upset (s.nextBlanking, ⟨[], [], [], []⟩)).1
  else s.nextActive (line + 1) lateStrips lateUni lateAge skipAge upsets

/-- The scanned line is the last of its frame. -/
def State.lastLine (s : State) : Bool := s.fld F.SCAN_LINE_SCAN_LINE + 1 == s.fld F.SCAN_V_TIMING_V_ACTIVE

/-- LINE_START: scan runs, and the scanned line is not the last of its frame. -/
def State.lineStart (s : State) (lateStrips lateUni lateAge skipAge : List LateWord) (upsets : List Upset) : State :=
  if !s.bit F.SCAN_STATUS_RUNNING || !s.pclk || s.lastLine then s
  else s.nowFirst.nextLine lateStrips lateUni lateAge skipAge upsets

/-- (Log 52: DESIGN CHOICE, safe.) -/
def execLineStart (lateStrips lateUni lateAge : List LateWord) (m : LineMeet) (s : State) :
    Host.Outcome State Fault Refusal :=
  .next ((s.lineStart lateStrips lateUni lateAge m.skipAge m.upsets).assign)

/-! ### The frame latch -/

/-- A composer's retention at a latch (R296): 0 none, 1 held, 2 leaving. (Log 64: DEDUCED, safe.) -/
def nextRet (allowed replay on : Bool) (r : Nat) : Nat :=
  if allowed then (if replay && on then 1 else r) else if r = 1 then 2 else r

/-- Retention of both composers at a latch (R296). (Log 64: DEDUCED, safe.) -/
def State.retention (s : State) (replay : Bool) : State :=
  let m := s.fld F.PWR_COMP_RET_HALVES
  { s with power := { s.power with compDawn := nextRet (m % 2 == 1) replay (s.domOn dDAWN) s.power.compDawn,
                                   compDusk := nextRet (m / 2 % 2 == 1) replay (s.domOn dDUSK) s.power.compDusk } }

/-- Replay begins or ends at a latch (R122, R124). REPLAY_ENTERED names the lowest-numbered of the causes that hold then.
(Log 135: DESIGN CHOICE, unsafe.) -/
def State.replayLatch (s : State) : State :=
  let causes := s.replayCauses
  let was := s.bit F.SCAN_STATUS_REPLAY
  let now' := !causes.isEmpty
  let frame := (s.rd R.SCAN_FRAME_SEQ).toNat
  let s := (s.retention now').setBit F.SCAN_STATUS_REPLAY now'
  if was == now' then s
  else
    let s := s.raise 0x20 2
    if now' then s.post F.SCAN_EVT_CTRL_RING 0x0204 [(4, causes.headD 0), (32, frame)]
    else s.post F.SCAN_EVT_CTRL_RING 0x0205 [(32, frame)]

/-- FETCH_UNDERRUN, LAYER_OVERFLOW and FETCH_BYTES of the frame that ended (R114, R119, R120, R124). A frame that scan did
not complete gives no FETCH_BYTES. (Log 53: DESIGN CHOICE, unsafe.) -/
def State.compLatch (s : State) (ended : Word) (start : Bool) : State :=
  s.each halves fun s h =>
    let f := s.halfFrame h
    let page := halfPage 0x21 h
    let s := s.setHalfFrame h HalfFrame.init
    if !s.domOn (halfDomain h) then s
    else
      let s := if start then s else s.setFld (F.COMP_FETCH_BYTES_COUNT h) (min f.fetchBytes 0xFFFFFFFF)
      let s :=
        if f.underCount = 0 then s
        else (s.raise page 0).post F.SCAN_EVT_CTRL_RING 0x0202
          [(1, halfNum h), (14, f.underFirst), (32, ended.toNat), (32, f.underCount)]
      if f.overCount = 0 then s
      else (s.raise page 1).post F.SCAN_EVT_CTRL_RING 0x0203
        [(1, halfNum h), (14, f.overFirst), (32, ended.toNat), (32, f.overCount), (9, f.overMax)]

/-- Latches seen by open transactions (R90), and those that count towards a periodic audit (R99), with the PERIOD and the
count that the commits of the latch have left. (Log 134: DESIGN CHOICE, unsafe.) -/
def State.txnLatch (s : State) : State :=
  let s := s.each (List.range 64) fun s n =>
    if s.slotOpen n then s.setSlot n { s.slot n with age := (s.slot n).age + 1 } else s
  let p := s.fld F.CHIP_AUDIT_CTRL_PERIOD
  if p = 0 then s
  else if s.txn.auditCount + 1 < p then { s with txn := { s.txn with auditCount := s.txn.auditCount + 1 } }
  else { s with txn := { s.txn with auditCount := 0, auditDue := s.txn.auditDue || !s.bit F.CHIP_AUDIT_STATUS_BUSY } }

/-- SURF at a latch: what it reports once per frame, and the lines of VOLATILE pages (R28, R432). -/
def State.surfLatch (s : State) : State :=
  let s := { s with surf := { s.surf with faultRaised := false, remoteRaised := false } }
  s.rcacheInvalidate fun p => entryVolatile (s.entry p)

/-- The frame that ended was repeated (R108, R124). (Log 55: DEDUCED, unsafe.) -/
def State.repeatLatch (s : State) (ended : Word) : State :=
  let s := (s.bump F.SCAN_REPEATS_COUNT).raise 0x20 3
  if s.bit F.SCAN_EVT_CTRL_REPEAT_EN then
    s.post F.SCAN_EVT_CTRL_RING 0x0207 [(32, ended.toNat), (15, s.fld F.SCAN_LAST_TOTAL_LINES)]
  else s

/-- FRAME_START (R124). -/
def State.frameStart (s : State) : State :=
  let s := s.raise 0x20 0
  if s.bit F.SCAN_EVT_CTRL_FRAME_EN then
    s.post F.SCAN_EVT_CTRL_RING 0x0200
      [(32, (s.rd R.SCAN_FRAME_SEQ).toNat), (32, s.ptmTime % 2 ^ 32), (32, s.ptmTime / 2 ^ 32)]
  else s

/-- The commits of a latch (R75, R86, R108), with the frame-mode flips that wait for it. A FLIP with LINE_MODE = 1 of such a
commit takes effect here too, and no line reports it. (Log 54: DEDUCED, unsafe; log 136: DESIGN CHOICE, unsafe.) -/
def State.latchCommits (s : State) : State :=
  let f := s.rd R.SCAN_FRAME_SEQ
  let due := s.txn.arrived.filter fun n =>
    match (s.slot n).instant with
    | some (.latch t) => sdiff t f ≤ 0
    | some .blanking => true
    | _ => false
  let flips := s.scan.flips.filter (!·.lineMode)
  let gen := s.fld F.CHIP_CONFIG_GEN_GEN
  let s := { s with scan := { s.scan with flips := s.scan.flips.filter (·.lineMode) } }
  let s := s.applyCommits due flips State.implicitCommit
  { s with scan := { s.scan with applied := s.fld F.CHIP_CONFIG_GEN_GEN != gen } }

/-- The blocks of the pipeline at a latch, once the commits have taken effect (R107). (Log 53: DESIGN CHOICE, unsafe.) -/
def State.pipelineLatch (s : State) (ended : Word) (composed start : Bool) : State :=
  let geo := (s.fld F.SCAN_H_TIMING_H_ACTIVE, s.fld F.SCAN_V_TIMING_V_ACTIVE)
  let changed := geo != s.scan.geo
  let s := { s with scan := { s.scan with geo := geo } }
  let s := s.replayLatch
  let composes := !s.bit F.SCAN_STATUS_REPLAY
  let s := s.each halves fun s h => s.histLatch h composed composes changed start
  let s := (s.odLatch start).correctLatch ended
  let s := (s.ageLatch start).linkLatch ended
  let s := s.panelLatch.captureLatch (s.rd R.SCAN_FRAME_SEQ)
  (s.compLatch ended start).surfLatch

/-- The frame latch (R86, R104, R106). `start`: RUN went from 0 to 1, and no frame has ended. A commit that clears RUN at
the latch leaves what the latch does; no line follows (R125). (Log 53: DESIGN CHOICE, unsafe; log 54: DEDUCED, unsafe.) -/
def State.frameLatchAt (s : State) (start : Bool) : State :=
  let ended := s.rd R.SCAN_FRAME_SEQ
  let composed := !start && !s.bit F.SCAN_STATUS_REPLAY
  let repeated := !start && s.scan.repeated
  let s := s.assayEnd ended (!start)
  let s := if start then s else s.setFld F.SCAN_LAST_TOTAL_LINES (min s.scan.lines 32767)
  let s := (s.setFld F.SCAN_FRAME_SEQ_FRAME (ended + 1).toNat).setFld F.SCAN_STATUS_RUNNING 1
  let s := s.setFld F.SCAN_LINE_SCAN_LINE (s.fld F.SCAN_V_TIMING_V_ACTIVE)
  let s := { s with scan := { s.scan with k := 0, endFixed := false, e := 0, applied := false, repeated := false, lines := 1,
                                          started := true, flipLines := [], fetch := [] } }
  let s := (s.gateKeep start).latchCommits
  let runs := s.bit F.SCAN_STATUS_RUNNING
  let s := if runs then s.setFld F.SCAN_LINE_SCAN_LINE (s.fld F.SCAN_V_TIMING_V_ACTIVE) else s
  let s := s.pipelineLatch ended composed start
  let s := if repeated then s.repeatLatch ended else s
  let s := (s.frameStart.fenceLatch).txnLatch
  let s := { s with boot := { s.boot with timeouts := [] } }
  let s := s.releaseCheck.ltrUpdate
  if runs then (s.linkPush (s.fld F.SCAN_LINE_SCAN_LINE) true []).blankingLine s.scanGuard else s

/-- FRAME_LATCH: the last line of a frame has ended. -/
def State.frameLatch (s : State) : State :=
  if s.bit F.SCAN_STATUS_RUNNING && s.pclk && s.lastLine then
    let s := s.nowFirst
    if s.bit F.SCAN_STATUS_RUNNING then s.frameLatchAt false else s
  else s

def execFrameLatch (s : State) : Host.Outcome State Fault Refusal := .next s.frameLatch.assign

/-- Setting RUN from 0 to 1 starts scan with a latch (R125), once PCLK runs (R299). (Log 54: DEDUCED, unsafe.) -/
def State.scanRun (s : State) : State :=
  if s.bit F.SCAN_CTRL_RUN && !s.bit F.SCAN_STATUS_RUNNING && s.pclk then
    let s := s.nowFirst
    if s.bit F.SCAN_CTRL_RUN then (s.frameLatchAt true).assign else s
  else s

/-- A write to SCAN.CTRL (R125): RUN at once, VRR staged (R75). (Log 54: DEDUCED, unsafe.) -/
def State.scanCtrlWrite (s : State) (port : Port) (v : Word) : State :=
  ((s.stageDirect R.SCAN_CTRL v).rwWrite s none port selNow R.SCAN_CTRL v).scanRun

/-- SCAN_CTRL_WRITE (R125). -/
def execScanCtrlWrite (port : Port) (v : Word) (s : State) : Host.Outcome State Fault Refusal :=
  .next (s.portWriteTo port R.SCAN_CTRL fun s => s.scanCtrlWrite port v)

/-- COMPOSER_READY (R296): a composer that is leaving retention is ready. (Log 64: DEDUCED, safe.) -/
def execComposerReady (h : Half) (s : State) : Host.Outcome State Fault Refusal :=
  .next
    (match h with
     | .dawn => if s.power.compDawn = 2 then { s with power := { s.power with compDawn := 0 } } else s
     | .dusk => if s.power.compDusk = 2 then { s with power := { s.power with compDusk := 0 } } else s)

/-- NOW_COMMIT_SWITCH (R81): a NOW commit may start scan. (Log 50: DESIGN CHOICE, safe.) -/
def execNowCommitSwitch (n : BitVec 6) (s : State) : Host.Outcome State Fault Refusal :=
  .next ((s.nowSwitch n.toNat).scanRun)

end Sys2Proof.Machine
end

