-- ==== Sys2Proof/Machine/Digest.lean ====
section
/-! DEFINITION. Digests and audits (04, R94 to R99). -/

namespace Sys2Proof.Machine

/-! ### Digests (R95 to R97) -/


/-- REGION_DIGESTn over the digests held (R96). -/
def State.regionDigest (s : State) (n : Nat) : Word :=
  crc32c (wordBytes ((pageList.filter fun p => pageRegion p == n).map s.heldDigest))

/-- CONFIG_DIGEST over the digests held (R96). -/
def State.chipDigest (s : State) : Word :=
  crc32c (wordBytes ([s.heldDigest 0x00, s.heldDigest 0x20] ++ (List.range 6).map fun n => s.rd (R.CHIP_REGION_DIGESTn n)))

/-- DIGEST_REFRESH_DONE (R97): every digest covers the present generation; a block whose domain is not ON keeps the digest
computed before entry. (Log 66: DEDUCED, unsafe.) -/
def State.digestRefreshDone (s : State) : State :=
  if !s.bit F.CHIP_DIGEST_STATUS_BUSY then s
  else
    let s := s.each (pageList.filter fun p => s.domOn (pageDomain p)) State.holdDigest
    let s := s.each (List.range 6) fun s n => s.setFld (F.CHIP_REGION_DIGESTn_DIGEST n) (s.regionDigest n).toNat
    let s := s.setFld F.CHIP_CONFIG_DIGEST_DIGEST s.chipDigest.toNat
    (s.setFld F.CHIP_DIGEST_GEN_GEN (s.fld F.CHIP_CONFIG_GEN_GEN)).setFld F.CHIP_DIGEST_STATUS_BUSY 0

/-- (Log 50: DESIGN CHOICE, safe.) -/
def execDigestRefreshDone (s : State) : Host.Outcome State Fault Refusal := .next s.digestRefreshDone

/-! ### Audits (R98, R99) -/

/-- Words of a record of PERS_AUDIT at word `a` of the page, if its CRC matches (R98). -/
def State.auditRec (s : State) (a : Nat) : Option (List Word) :=
  let ws := (List.range 9).map fun i => s.persRead (persAudit + a + i)
  if crc32c (wordBytes (ws.take 8)) = ws.getD 8 0 then some ws else none

/-- The valid record with the higher SEQ (R98). (Log 125: DEDUCED, safe.) -/
def State.auditNewest (s : State) : Option (List Word) :=
  match s.auditRec 0, s.auditRec 16 with
  | some a, some b => if sdiff (a.getD 0 0) (b.getD 0 0) < 0 then some b else some a
  | some a, none => some a
  | none, r => r

/-- An audit starts, unless one waits or runs (R99). (Log 125: DEDUCED, safe.) -/
def State.auditStart (s : State) : State :=
  if s.bit F.CHIP_AUDIT_STATUS_BUSY then s else s.setFld F.CHIP_AUDIT_STATUS_BUSY 1

/-- AUDIT_GO (R99): AUDIT_CMD with GO = 1. -/
def execAuditGo (v : Word) (s : State) : Host.Outcome State Fault Refusal :=
  .next (s.hostWriteTo R.CHIP_AUDIT_CMD fun s => if bitOf v 0 then s.auditStart else s)

/-- AUDIT_CTRL_WRITE (R99): PERIOD, and the count of latches restarts. -/
def execAuditCtrlWrite (v : Word) (s : State) : Host.Outcome State Fault Refusal :=
  .next (s.hostWriteTo R.CHIP_AUDIT_CTRL fun s => s.rwWrite s none .pcie selNow R.CHIP_AUDIT_CTRL v)

/-- AUDIT_PERIODIC (R99): the audit that a latch has called for starts. -/
def execAuditPeriodic (s : State) : Host.Outcome State Fault Refusal :=
  .next (if s.txn.auditDue then { s with txn := { s.txn with auditDue := false } }.auditStart else s)

/-- The result of an audit that found a record (R99). (Log 125: DEDUCED, safe.) -/
def State.auditJudge (s : State) (r : List Word) : State :=
  let mask := (List.range 6).foldl (fun a n => if s.rd (R.CHIP_REGION_DIGESTn n) = r.getD (2 + n) 0 then a else a + 2 ^ n) 0
  let s := s.setFld F.CHIP_AUDIT_STATUS_REGIONS mask
  if s.rd R.CHIP_CONFIG_DIGEST = r.getD 1 0 && mask = 0 then s.setFld F.CHIP_AUDIT_STATUS_RESULT 1
  else
    ((s.setFld F.CHIP_AUDIT_STATUS_RESULT 2).raise 0x00 4).post F.CHIP_AUDIT_EVT_RING 0x0103
      [(6, mask), (32, s.fld F.CHIP_CONFIG_GEN_GEN), (32, (s.rd R.CHIP_CONFIG_DIGEST).toNat), (32, (r.getD 1 0).toNat)]

/-- AUDIT_RUN (R99): once the digests cover the present generation. -/
def State.auditRun (s : State) : State :=
  if !s.bit F.CHIP_AUDIT_STATUS_BUSY || s.bit F.CHIP_DIGEST_STATUS_BUSY ||
      s.fld F.CHIP_DIGEST_GEN_GEN != s.fld F.CHIP_CONFIG_GEN_GEN then s
  else
    let s := s.setFld F.CHIP_AUDIT_STATUS_BUSY 0
    match s.auditNewest with
    | none => (s.setFld F.CHIP_AUDIT_STATUS_RESULT 3).setFld F.CHIP_AUDIT_STATUS_REGIONS 0
    | some r => s.auditJudge r

def execAuditRun (s : State) : Host.Outcome State Fault Refusal := .next s.auditRun

end Sys2Proof.Machine
end

