-- ==== Sys2Proof/Machine/Pcie.lean ====
section
/-! DEFINITION. PCI Express (16, R382, R386 to R395): link power, failing reads, PTM, malformed accesses. Configuration
requests stand with the resets that they can ask for. -/

namespace Sys2Proof.Machine

/-! ### The link (R379, R391, R392) -/

/-- The data link comes up. The partner and the part negotiate speed and width (R379): both are free within what R378
lists. (Log 17: DESIGN CHOICE, safe.) -/
def State.linkUp (s : State) : State :=
  let a := s.draw
  let b := a.2.draw
  let s := ((b.2.setFld F.PCIEX_LINK_STATUS_SPEED (1 + a.1.toNat % 5)).setFld F.PCIEX_LINK_STATUS_WIDTH (2 ^ (b.1.toNat % 4)))
  (s.setFld F.PCIEX_LINK_STATUS_PM_STATE 0).setFld F.PCIEX_LINK_STATUS_DL_UP 1

/-- The data link is down. (Log 18: DEDUCED, safe.) -/
def State.linkDown (s : State) : State := s.wr R.PCIEX_LINK_STATUS 0

/-- A host read of a cage is outstanding. -/
def State.cageReads (s : State) (n : Nat) (c : Cage) : Bool :=
  match c.phase, s.burstSrc c with
  | .bursts, .host _ => !(c.desc.srcFixed && c.unit.isSome)
  | .landing, .host _ => s.moves n c
  | .inflating _, .host _ => true
  | _, _ => false

/-- A read of a descriptor is outstanding. -/
def QueueHid.reads (h : QueueHid) : Bool := h.reading || h.more != 0 || h.stale != 0

/-- A read of the part, a dialog or a request that waits is outstanding (R388). -/
def State.requestPending (s : State) : Bool :=
  !s.surf.fills.isEmpty || s.pcie.ptmBusy || !s.pcie.deferred.isEmpty || (s.queues.any fun e => e.2.reads) ||
    s.hoist.cages.any fun e => s.cageReads e.1 e.2

/-- L1_ENTRY (R388): the host takes the link to L1 (0), L1.1 (1) or L1.2 (2); the part accepts when no request is pending.
An entry is counted as the link leaves L0. -/
def execL1Entry (sub : BitVec 2) (s : State) : Host.Outcome State Fault Refusal :=
  .next
    (if !s.hostUp || !s.bit F.PCIEX_LINK_STATUS_DL_UP || s.requestPending || sub.toNat = 3 then s
     else
       let s := if s.fld F.PCIEX_LINK_STATUS_PM_STATE = 0 then s.bump F.PCIEX_L1_ENTRIES_COUNT else s
       s.setFld F.PCIEX_LINK_STATUS_PM_STATE (sub.toNat + 1))

/-! ### D3hot (R387) -/

/-- The function enters D3hot: no request is issued until it returns. -/
def State.d3Enter (s : State) : State :=
  { s with pcie := { s.pcie with d3hot := true } }.setCfg 0x44 (putBits (s.cfg 0x44) 0 2 3)

/-- The function returns to D0 (R387): the requests that waited, the held events and the pending vectors go out, and
paused transfers go on. -/
def State.d3Leave (s : State) : State :=
  let wait := s.pcie.deferred
  let s := { s with pcie := { s.pcie with d3hot := false, deferred := [] } }.setCfg 0x44 (putBits (s.cfg 0x44) 0 2 0)
  let s := s.each wait State.request
  ((s.each (List.range 64) State.roomBack).flushVectors.ltrUpdate).assign

/-- D3HOT_ENTRY (R387). -/
def execD3hotEntry (s : State) : Host.Outcome State Fault Refusal :=
  .next (if s.hostUp && !s.pcie.d3hot then s.d3Enter else s)

/-- D0_RETURN (R387). -/
def execD0Return (s : State) : Host.Outcome State Fault Refusal :=
  .next (if s.hostUp && s.pcie.d3hot then s.d3Leave else s)

/-! ### Precision Time Measurement (R393, R394) -/

/-- A dialog starts, with PTM Enable set, unless one runs. -/
def State.ptmStart (s : State) : State :=
  if !s.hostUp || !s.ptmEnabled || s.pcie.ptmBusy || s.pcie.d3hot then s
  else { s with pcie := { s.pcie with ptmBusy := true } }.request .ptmRequest

/-- PTM_PERIODIC (R393): PERIOD_MS has elapsed; 0 stops the periodic dialogs. -/
def execPtmPeriodic (s : State) : Host.Outcome State Fault Refusal :=
  .next (if s.fld F.PCIEX_PTM_CFG_PERIOD_MS = 0 then s else s.ptmStart)

/-- PTM_NOW (R393): PTM_CMD with NOW = 1. -/
def execPtmNow (v : Word) (s : State) : Host.Outcome State Fault Refusal :=
  .next (s.hostWriteTo R.PCIEX_PTM_CMD fun s => if bitOf v 0 then s.ptmStart else s)

/-- The rate in Q2.30 between two dialogs (R393). (Log 65: DESIGN CHOICE, unsafe.) -/
def ptmRate (l0 h0 l h : Nat) : Nat := (h - h0) * 6 * 2 ^ 30 / ((l - l0) * 5)

/-- A dialog ends (R393): L and H are stored, and the rate after the second consecutive dialog within 4 × PERIOD_MS.
(Log 65: DESIGN CHOICE, unsafe.) -/
def State.ptmDone (s : State) (l h : DWord) : State :=
  if !s.hostUp || !s.pcie.ptmBusy then s
  else
    let l' := l.toNat
    let h' := h.toNat
    let limit := 4 * s.fld F.PCIEX_PTM_CFG_PERIOD_MS * 1200000
    let s :=
      match s.pcie.ptmPrev with
      | some p =>
        if p.1.toNat < l' && l' ≤ p.1.toNat + limit then
          (s.setFld F.PCIEX_PTM_RATIO_RATIO (ptmRate p.1.toNat p.2.toNat l' h')).setFld F.PCIEX_PTM_STATUS_RATIO_OK 1
        else s
      | none => s
    let s := (s.setFld F.PCIEX_PTM_LO_L l').setFld F.PCIEX_PTM_HI_L (l' / 2 ^ 32)
    let s := (s.setFld F.PCIEX_PTM_HOST_LO_H h').setFld F.PCIEX_PTM_HOST_HI_H (h' / 2 ^ 32)
    { s with pcie := { s.pcie with ptmBusy := false, ptmPrev := some (l, h), ptmFresh := true, ptmAt := s.localTime } }

/-- PTM_DIALOG_DONE (R393). -/
def execPtmDialogDone (l h : DWord) (s : State) : Host.Outcome State Fault Refusal := .next (s.ptmDone l h)

/-! ### Reads that fail, and errors of TLPs (R386, R390) -/

/-- The read of a requester is outstanding. -/
def State.reads (s : State) (r : Requester) : Bool :=
  match r with
  | .cage n => match s.cage? n.toNat with | some c => s.cageReads n.toNat c | none => false
  | .queue q => (s.queue q.toNat).reads
  | .fill p l => s.surf.fills.any fun f => f.page == p.toNat && f.line == l.toNat

/-- The outstanding read of a cage ends with `res`. -/
def State.cageReadEnds (s : State) (n : Nat) (c : Cage) (res : ReadRes) : State :=
  match c.phase with
  | .bursts => s.burstDone n c res
  | .landing => s.landBurstDone n c res
  | .inflating _ => (s.inflateComplete n c res none).assignLanes
  | _ => s

/-- The outstanding read of a requester fails: by a timeout or, `timeout` being false, with an error. -/
def State.readFails (s : State) (r : Requester) (timeout : Bool) : State :=
  let res : ReadRes := if timeout then .timeout else .error
  if !s.reads r then s
  else
    match r with
    | .cage n => match s.cage? n.toNat with | some c => s.cageReadEnds n.toNat c res | none => s
    | .queue q => s.descFetched q.toNat res
    | .fill p l => s.remoteFillDone p.toNat l.toNat (if timeout then .timeout else .error)

/-- COMPLETION_TIMEOUT (R386). -/
def execCompletionTimeout (r : Requester) (s : State) : Host.Outcome State Fault Refusal := .next (s.readFails r true)

/-- POISONED_TLP (R390): a poisoned write is discarded, and a poisoned completion fails its requester's read. -/
def execPoisonedTlp (r : Option Requester) (s : State) : Host.Outcome State Fault Refusal :=
  .next
    (if !s.domOn dHOST then s
     else
       let s := s.aerUncorr 12
       match r with
       | some r => s.readFails r false
       | none => s)

/-- UNEXPECTED_COMPLETION (R390, R386): discarded and reported. -/
def execUnexpectedCompletion (s : State) : Host.Outcome State Fault Refusal :=
  .next (if s.domOn dHOST then s.aerUncorr 16 else s)

/-- An access to BAR0 of a form that R382 does not allow: a read is completed with Completer Abort, a write is dropped, and
both count. (Log 19: DESIGN CHOICE, safe.) -/
def State.malformed (s : State) (isRead : Bool) : State :=
  if !s.domOn dHOST then s
  else if !s.memReady then
    let s := s.bump F.PCIEX_UR_COUNT_COUNT
    if isRead then s.emit .unsupported else s
  else if s.pcie.d3hot then (if isRead then s.emit .unsupported else s)
  else
    let s := (s.bump F.PCIEX_CA_COUNT_COUNT).aerUncorr 15
    if isRead then s.emit .completerAbort else s

/-- MALFORMED_BAR0_ACCESS (R382). -/
def execMalformedBar0Access (isRead : Bool) (s : State) : Host.Outcome State Fault Refusal := .next (s.malformed isRead)

end Sys2Proof.Machine
end

