-- ==== Sys2Proof/Machine/Fatal.lean ====
section
/-! DEFINITION. Errors of blocks and the fatal path (15, R365 to R372). -/

namespace Sys2Proof.Machine

/-! ### The fatal path (R370 to R372) -/

/-- Fatal causes (R370). -/
abbrev fcXTAL : Nat := 1
abbrev fcWDOG : Nat := 2
abbrev fcISOLATED : Nat := 3
abbrev fcPARITY : Nat := 4
abbrev fcOVERTEMP : Nat := 5
abbrev fcFORCED : Nat := 6
abbrev fcBOOT : Nat := 7

/-- Words 1 to 14 of a fatal record, of which SEQ comes first and the CRC last (R372). -/
def State.fatalBody (s : State) (cause detail region page panel : Nat) : List Word :=
  [BitVec.ofNat 32 (cause + region * 16 + page * 256 + panel * 65536), BitVec.ofNat 32 detail, s.rd R.SCAN_FRAME_SEQ,
   s.rd R.CHIP_CONFIG_GEN, s.rd R.CHIP_UPTIME, s.view R.CHIP_ERR_SUMMARY, s.rd R.PWR_STATE, s.rd R.TMON_TJ,
   s.rd R.FORE_FW_RELEASE, 0, 0, 0, 0, 0]

/-- A fatal record takes the next slot (R372). SEQ is one above the highest valid one; the spec does not state the first.
(Log 110: DESIGN CHOICE, unsafe.) -/
def State.fatalRecord (s : State) (cause detail region page panel : Nat) : State :=
  let k := s.logNext
  let x := match s.logNewest with | some r => (r.2 + 1, s) | none => s.draw
  let ws := x.1 :: s.fatalBody cause detail region page panel
  let ws := ws ++ [crc32c (wordBytes ws)]
  x.2.each (List.range 16) fun s i => s.persWrite (persLog + 16 * k + i) (ws.getD i 0)

/-- Every cage stops, without write-back (R371, R66). (Log 97: DEDUCED, unsafe; log 111: DEDUCED, safe.) -/
def State.stopCages (s : State) : State :=
  { s with hoist := { s.hoist with cages := [] }, cmp := { s.cmp with capture := none }, label := { s.label with landing := [] } }

/-- Step 4 of R371, after the discharge: scan stops, and an aging checkpoint is requested if the cause allows one.
(Log 111: DEDUCED, safe.) -/
def State.fatalEnd (s : State) : State :=
  let s := { s with boot := { s.boot with fatalWait := false } }
  let s := (s.setFld F.SCAN_CTRL_RUN 0).scanHalt
  if s.boot.fatalCkpt && s.domOn dPANEL && s.bit F.AGE_STATUS_READY && s.bit F.AGE_CTRL_SAMPLE_EN then s.ckptRequest else s

/-- The panel has nothing left to discharge. -/
def State.panelDark (s : State) : Bool := !s.domOn dPANEL || s.panelState == pOFF || s.panelState == pFAULT

/-- A fatal cause (R371): the first one is entered in CHIP.STATE and acts; every one is recorded. `region` is where the
cause lies, 0 Keep to 5 Panel, or 7 for CHIP and SCAN. (Log 111: DEDUCED, safe.) -/
def State.fatalPath (s : State) (cause detail region page : Nat) : State :=
  let panel := if s.domOn dPANEL then s.panelState else pOFF
  if s.fatal then s.fatalRecord cause detail region page panel
  else
    let s := (s.setFld F.CHIP_STATE_FATAL 1).setFld F.CHIP_STATE_CAUSE cause
    let s := (s.panelDown cauFATAL true).labelPfw
    let s := s.stopCages
    let s := s.fatalRecord cause detail region page panel
    let s := s.post F.CHIP_ERR_EVT_RING 0x0F00 [(4, cause), (3, region), (8, page), (32, detail), (32, s.frameNo)]
    let s := if s.domOn dHOST then s.aerUncorr 22 else s
    let s := { s with boot := { s.boot with fatalWait := true, fatalCkpt := region != 0 && region != 2 } }
    if s.panelDark then s.fatalEnd else s

/-- A start-up failure is written to the fatal log only (R355, R370). -/
def State.bootFail (s : State) (code : Nat) : State :=
  (s.setFld F.CHIP_BOOT_STATUS_BOOT_FAIL code).fatalRecord fcBOOT code 0 0xFF pOFF

/-- FATAL_FORCE with GO = 1 and KEY 0xA5 (R370). -/
def State.fatalForce (s : State) (v : Word) : State :=
  if bitOf v 0 && bitsOf v 8 8 = 0xA5 then s.fatalPath fcFORCED 0 7 0x00 else s

/-- FATAL_FORCE (R370). -/
def execFatalForce (v : Word) (s : State) : Host.Outcome State Fault Refusal :=
  .next (s.hostWriteTo R.CHIP_FATAL_FORCE fun s => s.fatalForce v)

/-- XTAL_LOST (R299): no loss while the crystal is stopped under R300, nor once KCLK runs from RC. -/
def execXtalLost (s : State) : Host.Outcome State Fault Refusal :=
  .next
    (if s.boot.step = .cold || s.power.asleep || s.bit F.CLK_STATUS_ON_RC then s
     else s.xtalLoss.fatalPath fcXTAL 0 0 0x02)

/-! ### Parity (R366) -/

/-- The bits of a register that a field table gives. (Log 102: DESIGN CHOICE, safe.) -/
def fieldMask (off : Nat) : Word := BitVec.ofNat 32 ((fieldsAt off).foldl (fun a f => a + place f.lo f.w (2 ^ f.w - 1)) 0)

/-- The page of the block that owns a register. -/
def ownerPage (off : Nat) : Nat := clampPage off

/-- A register has a parity error (R366): it holds what the upset left, which is open; its block reports the error, or in
the KEEP domain, CHIP or SCAN the fatal path is taken. (Log 102: DESIGN CHOICE, safe.) -/
def State.parityError (s : State) (off : Nat) : State :=
  let page := ownerPage off
  if !s.domOn (offDomain off) || fieldMask off = 0 then s
  else
    let d := s.draw
    let s := (d.2.wr off (d.1 &&& fieldMask off)).blockError page 2
    if pageDomain page = dKEEP then s.fatalPath fcPARITY off (pageRegion page) page else s

/-- REG_PARITY_ERROR (R366). -/
def execRegParityError (off : BitVec 24) (s : State) : Host.Outcome State Fault Refusal := .next (if s.boot.step = .cold then s else s.parityError off.toNat)

/-! ### Temperature (R369, R377) -/

/-- TMON_READING (R369): a reading in units of 0.125 °C. (Log 112: DEDUCED, unsafe.) -/
def State.tmonReading (s : State) (code : Nat) : State :=
  let t := signedOf 12 code
  let first := !s.bit F.TMON_TJ_VALID
  let s := (s.setFld F.TMON_TJ_TEMP code).setFld F.TMON_TJ_VALID 1
  let s := if first || signedOf 12 (s.fld F.TMON_TJ_MAX_TEMP) < t then s.setFld F.TMON_TJ_MAX_TEMP code else s
  let warn : Int := 8 * s.fld F.TMON_WARN_DEG
  let s :=
    if warn ≤ t && !s.boot.warned then
      let s := { s with boot := { s.boot with warned := true } }.raise 0x05 0
      s.post F.CHIP_ERR_EVT_RING 0x0922 [(12, code), (32, s.frameNo)]
    else if t ≤ warn - 40 then { s with boot := { s.boot with warned := false } }
    else s
  if (8 * s.fld F.TMON_FATAL_LIM_DEG : Int) ≤ t then
    let n := s.boot.hot + 1
    let s := { s with boot := { s.boot with hot := n } }
    if n = 8 then s.fatalPath fcOVERTEMP code 0 0x05 else s
  else { s with boot := { s.boot with hot := 0 } }

/-- TMON_READING (R369). -/
def execTmonReading (temp : BitVec 12) (s : State) : Host.Outcome State Fault Refusal :=
  .next (if s.boot.step = .cold then s else s.tmonReading temp.toNat)

end Sys2Proof.Machine
end

