-- ==== Sys2Proof/Machine/Records.lean ====
section
/-! DEFINITION. Boot records, the start and restart of Foreman, recovery, and the state as COLD leaves it (15, R348 to
R364). -/

namespace Sys2Proof.Machine

/-! ### Boot records (R353) -/

/-- First word of boot record A (0) or B (1). -/
def recBase (r : Nat) : Nat := persBoot + 1536 * r

def State.recWord (s : State) (r i : Nat) : Word := s.persRead (recBase r + i)

/-- REG_COUNT. -/
def State.recPairs (s : State) (r : Nat) : Nat := (s.recWord r 8).toNat

/-- Words of the register list in use. -/
def State.recList (s : State) (r : Nat) : List Word := (List.range (2 * min 760 (s.recPairs r))).map fun i => s.recWord r (16 + i)

/-- The CRC of a record: over words 0 to 14 and the list. -/
def recCrc (head list : List Word) : Word := crc32c (wordBytes (head ++ list))

def State.recValid (s : State) (r : Nat) : Bool :=
  s.recPairs r ≤ 760 && recCrc ((List.range 15).map (s.recWord r)) (s.recList r) == s.recWord r 15

/-- The record that start-up uses: the valid one with the higher SEQ. -/
def State.chooseRecord (s : State) : Option Nat :=
  match s.recValid 0, s.recValid 1 with
  | true, true => if 0 < sdiff (s.recWord 1 0) (s.recWord 0 0) then some 1 else some 0
  | true, false => some 0
  | false, true => some 1
  | false, false => none

/-- A bit of FLAGS of the record in use; without one every flag is 0. -/
def State.recFlag (s : State) (i : Nat) : Bool :=
  match s.boot.record with
  | some r => bitOf (s.recWord r 1) i
  | none => false

/-- The location of the image of a kind, as the record in use gives it. -/
def State.recLoc (s : State) (kind : Nat) : Word :=
  match s.boot.record with
  | some r => s.recWord r (match kind with | 5 => 3 | 2 => 4 | 3 => 5 | _ => 6)
  | none => 0

/-- A boot record with another image and TRIAL is written over the older one (R363, R364, R334): the list and the header
words, then SEQ, then the CRC. Without a record in use there is nothing to copy, and the spec states no SEQ.
(Log 110: DESIGN CHOICE, unsafe.) -/
def State.writeRecord (s : State) (image : Nat) (trial : Bool) : State :=
  let dst := match s.boot.record with | some r => 1 - r | none => 0
  let x := match s.boot.record with | some r => (s.recWord r 0 + 1, s) | none => s.draw
  let head := match s.boot.record with
    | some r => (List.range 14).map fun i => s.recWord r (i + 1)
    | none => List.replicate 14 0
  let list := match s.boot.record with | some r => s.recList r | none => []
  let flags := putBits (putBits (head.getD 0 0) 0 1 image) 1 1 (b2n trial)
  let head := flags :: head.drop 1
  let b := recBase dst
  let s := x.2.each (List.range list.length) fun s i => s.persWrite (b + 16 + i) (list.getD i 0)
  let s := s.each (List.range 14) fun s i => s.persWrite (b + 1 + i) (head.getD i 0)
  let s := (s.persWrite b x.1).persWrite (b + 15) (recCrc (x.1 :: head) list)
  { s with boot := { s.boot with record := some dst } }

/-! ### Foreman's images (R354, R358, R364) -/

/-- FW_STATUS and FW_RELEASE (R376). -/
def State.fwShow (s : State) : State :=
  if !s.domOn dFORE then s
  else
    let s := (s.setFld F.FORE_FW_STATUS_IMAGE s.boot.image).setBit F.FORE_FW_STATUS_TRIAL s.boot.trial
    (s.setBit F.FORE_FW_STATUS_RECOVERY s.boot.recovery).setBit F.FORE_FW_STATUS_OTHER_OK
      (s.boot.passed.contains (1 - s.boot.image))

/-- An image in its partition is checked; whether it passed is kept (R376). -/
def State.fwCheck (s : State) (image : Nat) : Nat × List Byte × State :=
  let r := s.firmwareIn image
  let rest := s.boot.passed.filter (· != image)
  (r.1, r.2, { s with boot := { s.boot with passed := if r.1 = 0 then image :: rest else rest } })

/-- The code of an image goes into the scratchpad at offset 0 (R358). -/
def State.loadCode (s : State) (p : List Byte) : State :=
  let code := (p.drop 128).take (numAt p 4 4)
  let put (m : SMap Word) (i : Nat) : SMap Word :=
    SMap.set (fun _ => 0) m i (BitVec.ofNat 32 (ofLe ((code.drop (4 * i)).take 4)))
  { s with mem := { s.mem with scratch := (List.range ((code.length + 3) / 4)).foldl put s.mem.scratch } }

/-- Foreman runs from an image that passed its checks. -/
def State.foremanRun (s : State) (image : Nat) (p : List Byte) : State :=
  let s := s.loadCode p
  let s := { s with boot := { s.boot with foreman := true, recovery := false, image := image } }
  (s.fwShow.setFld F.FORE_FW_RELEASE_RELEASE (numAt p 0 4)).ckptTry

/-- Recovery (R359): the boot sequencer serves the mailbox. (Log 116: DEDUCED, unsafe.) -/
def State.enterRecovery (s : State) : State :=
  ({ s with boot := { s.boot with foreman := false, recovery := true, trial := false } }).fwShow

/-- Step 5 of R354: the image asked for, else the other one, else recovery. Without the MAP domain no image can be read
(R355). (Log 116: DEDUCED, unsafe.) -/
def State.firmwareStart (s : State) (want : Nat) : State :=
  if !s.domOn dMAP then s.enterRecovery
  else
    let a := s.fwCheck want
    if a.1 = 0 then a.2.2.foremanRun want a.2.1
    else
      let b := a.2.2.fwCheck (1 - want)
      if b.1 = 0 then
        let s := { b.2.2 with boot := { b.2.2.boot with trial := false } }
        (s.setFld F.CHIP_BOOT_STATUS_FALLBACK 1).foremanRun (1 - want) b.2.1
      else b.2.2.enterRecovery

/-- FW_REVERTED (R364, R374): the previous image is in force, and no trial runs. Causes 1 WDOG, 2 TRIAL_TIMEOUT, 3 COLD.
(Log 116: DEDUCED, unsafe.) -/
def State.revert (s : State) : State :=
  let image := 1 - s.boot.image
  let s := s.writeRecord image false
  { s with boot := { s.boot with image := image, trial := false } }

def State.revertedEvent (s : State) (cause : Nat) : State :=
  s.post F.FORE_EVT_RING 0x0912 [(1, s.boot.image), (2, cause), (32, (s.rd R.FORE_FW_RELEASE).toNat)]

/-- Foreman starts again (R374): causes 1 WDOG, 2 SWITCH, 3 REVERT. (Log 114: DEDUCED, unsafe.) -/
def State.restarted (s : State) (cause : Nat) : State :=
  let s := (s.bump F.FORE_RESTARTS_COUNT).raise 0x06 1
  s.post F.FORE_EVT_RING 0x0913 [(2, cause), (32, s.fld F.FORE_RESTARTS_COUNT)]

/-- The FORE domain is reset as by WDOG (R351): transfers of CH12 to CH15 are aborted. -/
def State.foreAbort (s : State) : State :=
  let s := (s.each [12, 13, 14, 15] State.abortChan).assign
  s.setFld F.FORE_FW_RELEASE_RELEASE 0

/-- Foreman is stopped where it stands (R351): its activities are abandoned, and its mailbox command ends ABANDONED. -/
def State.foreStop (s : State) : State :=
  (s.foreAbort.abandonAll fun m => [2, 3, 5, 6].contains m.act).mboxResult ⟨8, none, none, none⟩

/-- Foreman restarts after a WDOG reset (1) or the end of the trial period (2): from the image in force, or in a trial
from the previous one (R351, R364). (Log 114: DEDUCED, unsafe.) -/
def State.foreRestart (s : State) (cause : Nat) : State :=
  let s := s.foreStop
  if s.boot.trial then
    let s := s.revert
    let s := s.firmwareStart s.boot.image
    (s.revertedEvent cause).restarted 3
  else (s.firmwareStart s.boot.image).restarted 1

/-- FORE_WDOG_EXPIRE (R351). (Log 114: DEDUCED, unsafe.) -/
def State.foreWdog (s : State) : State :=
  if !s.domOn dFORE || !s.boot.foreman then s
  else
    let s := s.setFld F.CHIP_RESET_CAUSE_CAUSES (s.fld F.CHIP_RESET_CAUSE_CAUSES ||| 32)
    s.foreRestart 1

/-- TRIAL_TIMEOUT (R364): TRIAL_S seconds without FW_CONFIRM; TRIAL_S 0 gives no timer. -/
def State.trialTimeout (s : State) : State :=
  let secs := match s.boot.record with | some r => s.recWord r 2 | none => 0
  if !s.domOn dFORE || !s.boot.foreman || !s.boot.trial || secs == 0 then s else s.foreRestart 2

/-! ### COLD (R348, R352) -/

/-- The stores that keep their content without power: the persistent store without its buffer (R332), and the NAND with its
remap table (R328, R330); and the levels at the pins. -/
def State.coldCore (s : State) : State :=
  let r := State.reset
  { r with
    pending := s.pending, sent := s.sent, freeCtr := s.freeCtr,
    pstore := { s.pstore with buf := [] },
    mem := { r.mem with nand := s.mem.nand, remap := s.mem.remap, erases := s.mem.erases, poolTaken := s.mem.poolTaken,
                        poolBack := s.mem.poolBack, bad := s.mem.bad, refresh := s.mem.refresh },
    age := { r.age with ring := s.age.ring, ringPos := s.age.ringPos },
    power := { r.power with levels := s.power.levels, perstLow := s.power.perstLow },
    hvd := { r.hvd with pfwLow := s.hvd.pfwLow } }

/-- The Subsystem IDs, read from PERS_CAL word 0 (R380). -/
def State.readSubsystem (s : State) : State :=
  let w := s.persRead persCal
  let pick (lo dflt : Nat) : Nat := if bitsOf w lo 16 = 0 then dflt else bitsOf w lo 16
  s.setCfg 0x2C (BitVec.ofNat 32 (pick 0 0x1E6D + pick 16 0x4880 * 2 ^ 16))

/-- The part as COLD leaves it, before start-up: the label journal's pointer and the Subsystem IDs follow the persistent
store (R286, R380). (Log 113: DEDUCED, safe.) -/
def State.coldState (s : State) : State :=
  let s := s.coldCore
  let s := { s with label := { s.label with ptr := s.journalPointer }, hostReset := s.power.perstLow }
  s.readSubsystem

/-- COLD ends with BOOTSEL sampled, and start-up begins (R354, R409). (Log 119: DESIGN CHOICE, unsafe; log 121: DEDUCED, safe.) -/
def State.coldReset (s : State) (bootsel : Nat) : State :=
  let s := s.coldState
  { s with boot := { s.boot with bootsel := bootsel } }

/-- Step 5 of a full-scope SOFT reset (R350, R352): as COLD, but for the clamp log and RESET_CAUSE. -/
def State.fullReset (s : State) : State :=
  let t := s.coldReset s.boot.bootsel
  let t := { t with clampLog := s.clampLog }
  let t := (t.wr R.CHIP_CLAMP_LOG_NEXT (s.rd R.CHIP_CLAMP_LOG_NEXT)).wr R.CHIP_CLAMP_LOG_TOTAL (s.rd R.CHIP_CLAMP_LOG_TOTAL)
  t.setFld F.CHIP_RESET_CAUSE_CAUSES (s.fld F.CHIP_RESET_CAUSE_CAUSES ||| 16)

end Sys2Proof.Machine
end

