-- ==== Sys2Proof/Machine/Resets.lean ====
section
/-! DEFINITION. HOST-SIDE resets and what asks for them (15, R348, R349, R367, R368; 16, R391), and configuration requests
(16, R380, R381, R383, R387, R391, R392). -/

namespace Sys2Proof.Machine

/-! ### HOST-SIDE resets (R348, R349, R391) -/

/-- Bits of RESET_CAUSE (R375). -/
abbrev rcPERST : Nat := 1
abbrev rcHOT : Nat := 2
abbrev rcSOFT : Nat := 3
abbrev rcBLOCK : Nat := 6

/-- The classes of fields that a host-scope SOFT reset restores, and a reset recorded as BLOCK. -/
def clsSoft (c : RstCls) : Bool := c == .host

/-- The classes of fields that a HOST-SIDE reset restores, by its bit of RESET_CAUSE. -/
def causeCls (bit : Nat) : RstCls → Bool := if bit = rcPERST then clsPerst else if bit = rcHOT then clsHot else clsSoft

/-- Configuration words that stay through a reset: the sticky fields of Advanced Error Reporting and L1 PM Substates, and
the Subsystem IDs, which change at COLD and PERST alone (R391, R380). (Log 16: PRESUMED, unsafe.) -/
def cfgSticky (off : Nat) : Bool := off == 0x2C || (0x104 ≤ off && off ≤ 0x138) || off == 0x168 || off == 0x16C

/-- Configuration space returns to its reset values but for the words that `keep` names (R391). (Log 16: PRESUMED, unsafe.) -/
def State.cfgReset (s : State) (keep : Nat → Bool) : State :=
  { s with pcie := { s.pcie with cfg := SMap.drop (fun o => !keep o) s.pcie.cfg, msix := [], pba := [] } }

/-- A HOST-SIDE reset begins (R349). A STAGE whose transfer it stopped moves that part again after it (R373). -/
def State.hostBegin (s : State) (bit : Nat) : State :=
  let s := s.hostResetBegin (causeCls bit) bit
  match s.boot.mbox with
  | some m => { s with boot := { s.boot with mbox := some { m with moving := false } } }
  | none => s

/-- HOST is being woken (R313). -/
def State.hostWaking (s : State) : Bool :=
  s.domState dHOST == 3 && match s.power.req with | some r => r.phase == 4 | none => false

/-- What each reset does with configuration space and the link (R391). -/
def State.hostReset' (s : State) (bit : Nat) : State :=
  let s := s.hostBegin bit
  if bit = rcPERST then ((s.cfgReset cfgSticky).readSubsystem).linkDown
  else if bit = rcHOT then s.cfgReset cfgSticky
  else s

/-- A HOST-SIDE reset is asked for; one that finds HOST being woken takes effect when the wake ends (R313). -/
def State.hostSide (s : State) (bit : Nat) : State :=
  if s.hostWaking then { s with power := { s.power with resetDue := bit } } else s.hostReset' bit

/-- A reset that waited for the wake of HOST takes effect; a PERST# that is high again asks for none. (Log 101: DEDUCED, unsafe.) -/
def State.dueReset (s : State) : State :=
  let bit := s.power.resetDue
  let s := { s with power := { s.power with resetDue := 0 } }
  if bit = rcPERST && !s.power.perstLow then s else s.hostReset' bit

/-- PERST# goes low (R348, R311, R312). (Log 101: DEDUCED, unsafe; log 113: DEDUCED, safe.) -/
def State.perstAssert (s : State) : State :=
  if s.power.perstLow then s
  else
    let s := { s with power := { s.power with perstLow := true, perstLatch := s.power.perstLatch || !s.domOn dHOST } }
    if s.boot.step = .cold then s
    else
      let s := s.hostSide rcPERST
      { s with power := { s.power with autoOff := s.bit F.PWR_PERST_CFG_AUTO_OFF } }

/-- The request of AUTO_OFF is issued, once the reset has acted and no other request runs (R312). (Log 101: DEDUCED, unsafe.) -/
def State.autoOffIssue (s : State) : State :=
  { s with power := { s.power with autoOff := false } }.powerIssue .autoOff 0xC 2 true false

/-- PERST# goes high (R349, R356, R311): the PERST reset ends, and wake source 8 may fire. (Log 121: DEDUCED, safe.) -/
def State.perstDeassert (s : State) : State :=
  if !s.power.perstLow then s
  else
    let s := { s with power := { s.power with perstLow := false } }
    if s.boot.step = .cold then s
    else
      let s := s.hostResetEnd
      if s.power.perstLatch then s.wakeEvent 8 else s

/-- A hot reset, or the data link going down, while HOST is ON (R391). (Log 113: DEDUCED, safe.) -/
def State.hotReset (s : State) (down : Bool) : State :=
  if !s.domOn dHOST || s.power.perstLow || !s.bit F.PCIEX_LINK_STATUS_DL_UP then s
  else
    let s := if down then (s.bump F.PCIEX_LINK_DOWNS_COUNT).linkDown else s
    s.hostSide rcHOT

/-- A Function Level Reset (R391): the link stays up, and with it the link settings and Max_Payload_Size that the
specification exempts. -/
def State.flr (s : State) : State :=
  if !s.domOn dHOST || !s.memReady then s
  else
    let mps := bitsOf (s.cfg 0x78) 5 3
    let s := (s.hostBegin rcHOT).cfgReset fun o => cfgSticky o || o == 0x80
    s.setCfg 0x78 (putBits (s.cfg 0x78) 5 3 mps)

/-- HOST_RESET_END: a reset other than PERST ends (R349). -/
def State.hostEnd (s : State) : State := if s.hostReset && !s.power.perstLow then s.hostResetEnd else s

/-! ### RESET_CTRL (R350) -/

/-- The label port is told to stop as for a forced request (R287): at once if nothing runs, else at the phase boundary. -/
def State.labelHalt (s : State) : State :=
  if !s.domOn dLABEL then s
  else if s.label.run.isEmpty then s.labelStop
  else { s with label := { s.label with stopDue := true } }

/-- The full-scope sequence begins (R350); while one runs another is ignored. -/
def State.fullBegin (s : State) : State :=
  if s.boot.full != 0 then s else ({ s with boot := { s.boot with full := 1 } }).labelHalt

/-- A write to CHIP.RESET_CTRL (R350). -/
def State.resetCtrl (s : State) (v : Word) : State :=
  if !bitOf v 0 || bitsOf v 8 8 != 0xA5 then s else if bitOf v 1 then s.fullBegin else s.hostSide rcSOFT

/-! ### Block watchdogs and port timeouts (R367, R368) -/

/-- A running activity ends FAILED because its block restarts (R367). The result of a mailbox command that it served is
NAND_ERROR. (Log 114: DEDUCED, unsafe.) -/
def State.activityFailed (s : State) (m : MaintReq) : State :=
  let s := if m.act = 3 then s.ckptEnd 1 else s
  let s := if s.servesMbox m then s.mboxResult ⟨5, none, none, none⟩ else s
  s.maintEnd m 2

/-- Canary restarts (R367): a test that runs ends FAILED, and its region is tested anew. (Log 114: DEDUCED, unsafe.) -/
def State.canaryRestart (s : State) : State :=
  let runs := s.canaryReady && !s.mem.retry
  let s := { s with mem := { s.mem with aborts := 0, retry := false } }
  if runs then (s.activityFailed (plainReq 1)).canaryRelease else s.canaryRelease

/-- A block restart (R367): its logic is reset, registers and SRAM are kept, and the activities that run in the block fail.
(Log 114: DEDUCED, unsafe.) -/
def State.blockRestart (s : State) (page : Nat) : State :=
  match page with
  | 0x05 => { s with boot := { s.boot with hot := 0, warned := false } }
  | 0x07 => s.each s.mem.running State.activityFailed
  | 0x08 => s.canaryRestart
  | 0x0B => s.each (s.mem.running.filter fun m => m.tokens.contains 1) State.activityFailed
  | _ => s

/-- The watchdog of a block expires (R367). -/
def State.blockWdog (s : State) (page : Nat) : State :=
  if !pageUsed page || !s.domOn (pageDomain page) then s
  else
    let s := s.blockError page 3
    if page = 0x06 then s.foreWdog
    else if pageRegion page = 1 then s.hostSide rcBLOCK
    else if page = 0x05 || page = 0x07 || page = 0x08 || page = 0x0B then s.blockRestart page
    else if page = 0x44 then s.labelHalt
    else s.fatalPath fcWDOG page (pageRegion page) page

/-- A region isolates itself (R368). -/
def State.isolate (s : State) (region : Nat) : State :=
  let s := s.setFld F.CHIP_ERR_SUMMARY_ISOLATED (s.fld F.CHIP_ERR_SUMMARY_ISOLATED ||| 2 ^ region)
  let s := (s.raise 0x00 1).post F.CHIP_ERR_EVT_RING 0x0921 [(3, region), (32, s.frameNo)]
  if region = 1 then s.hostSide rcBLOCK else s.fatalPath fcISOLATED region region 0xFF

/-- The timeouts of a region that count now: since the last latch, or within 10 ms while scan is stopped (R368).
(Log 112: DEDUCED, unsafe.) -/
def State.timeoutCount (s : State) (region : Nat) : Nat :=
  (s.boot.timeouts.filter fun t =>
    t.1 == region && (s.bit F.SCAN_STATUS_RUNNING || s.keepCycles < t.2 + 10 * msCycles)).length

/-- A crossbar transaction times out at a block (R368). CHIP and SCAN lie in no region that could isolate itself.
(Log 112: DEDUCED, unsafe.) -/
def State.portTimeout (s : State) (page : Nat) : State :=
  if !pageUsed page || !s.domOn (pageDomain page) then s
  else
    let region := pageRegion page
    let s := s.blockError page 4
    if 6 ≤ region then s
    else
      let s := { s with boot := { s.boot with timeouts := (region, s.keepCycles) :: s.boot.timeouts } }
      if s.fld F.CHIP_ISOLATE_LIMIT_COUNT ≤ s.timeoutCount region && s.fld F.CHIP_ERR_SUMMARY_ISOLATED / 2 ^ region % 2 = 0 then
        s.isolate region
      else s

/-! ### Configuration requests (R356, R380, R381, R392) -/

/-- Bytes of BAR4 as sized (R383). -/
def State.bar4Bytes (s : State) : Nat := 2 ^ (28 + s.fld F.PCIEX_BAR4_SIZE_SIZE)

/-- What a configuration read returns: the address bits of BAR4 below its size read as zero (R383), and Link Status shows
the negotiated speed and width (R379). (Log 120: DEDUCED, safe.) -/
def State.cfgView (s : State) (off : Nat) : Word :=
  let v := s.cfg off
  if off = 0x20 then BitVec.ofNat 32 (v.toNat / s.bar4Bytes * s.bar4Bytes + 0xC)
  else if off = 0x24 then BitVec.ofNat 32 (v.toNat * 2 ^ 32 / s.bar4Bytes * s.bar4Bytes / 2 ^ 32)
  else if off = 0x80 then
    putBits (putBits v 16 4 (s.fld F.PCIEX_LINK_STATUS_SPEED)) 20 6 (s.fld F.PCIEX_LINK_STATUS_WIDTH)
  else v

/-- What follows a write of a configuration word (R384, R385, R387, R389). -/
def State.cfgEffect (s : State) (off : Nat) : State :=
  if off = 0x50 || off = 0x60 || off = 0xB0 then s.flushVectors
  else if off = 0x98 then s.ltrUpdate
  else s

/-- A configuration write. -/
def State.cfgWrite (s : State) (off : Nat) (v : Word) : State :=
  if off = 0x44 then
    (if bitsOf v 0 2 = 3 then (if s.pcie.d3hot then s else s.d3Enter)
     else if bitsOf v 0 2 = 0 then (if s.pcie.d3hot then s.d3Leave else s)
     else s)
  else if off = 0x258 then s.bar4Resize (bitsOf v 8 6)
  else
    let old := s.cfg off
    let m := cfgMask off
    let new := ((old &&& ~~~m) ||| (v &&& m)) &&& ~~~(v &&& cfgW1c off)
    let s := (s.setCfg off new).cfgEffect off
    if off = 0x78 && bitOf v 15 then s.flr else s

/-- CONFIG_REQUEST (R356, R392): Retry Status until STAGE is READY and during a reset, and a normal completion afterwards.
With HOST not ON or PERST# low there is no link. (Log 120: DEDUCED, safe.) -/
def State.configRequest (s : State) (isWrite : Bool) (off : Nat) (v : Word) : State :=
  if !s.domOn dHOST || s.power.perstLow then s
  else if !s.memReady then s.emit .retryStatus
  else if isWrite then (s.cfgWrite off v).emit (.reply [])
  else s.emit (.configReply (s.cfgView off))

end Sys2Proof.Machine
end

