-- ==== Sys2Proof/Machine/Mailbox.lean ====
section
/-! DEFINITION. The FORE mailbox (15, R360 to R364) and the ends of maintenance activities that Foreman drives (14, R343). -/

namespace Sys2Proof.Machine

/-- Results (R361). -/
abbrev mbOK : Nat := 0
abbrev mbINVALID : Nat := 2
abbrev mbREFUSED : Nat := 3
abbrev mbIMAGE : Nat := 4
abbrev mbNAND : Nat := 5
abbrev mbDOWN : Nat := 6
abbrev mbTRANSFER : Nat := 7
abbrev mbABANDONED : Nat := 8

/-- First byte of the firmware staging frames in device DRAM (R328). -/
abbrev stageBase : Nat := 4063 * frameBytes

/-- Bytes of the staged image. -/
def State.stagedBytes (s : State) (o n : Nat) : List Byte := s.dramRead (stageBase + o) n

/-- A command ends with a code alone. -/
def State.mboxCode (s : State) (code : Nat) : State := s.mboxResult ⟨code, none, none, none⟩

/-- A command ends with IMAGE_FAIL and the reason. -/
def State.mboxImage (s : State) (reason : Nat) : State := s.mboxResult ⟨mbIMAGE, some reason, none, none⟩

/-- The domains that Foreman's NAND activities need are ON, and device DRAM is in use (R342, R355). -/
def State.nandUp (s : State) : Bool := s.domOn dFORE && s.domOn dMAP && s.dramUp

/-- A MAPLOAD request of a kind and a location. -/
def mapLoad (kind : Nat) (loc : Word) : MaintReq := ⟨2, kind, loc, 0, 0, false, 0⟩

/-- PING. -/
def State.mbPing (s : State) : State :=
  s.mboxResult ⟨mbOK, none, some (s.rd R.FORE_FW_RELEASE), some (s.rd R.FORE_FW_STATUS)⟩

/-- A load of this kind is refused (R361): its bank or store may not be written, or another image of the kind is being
loaded. -/
def State.loadRefused (s : State) (m : MaintReq) : Bool :=
  s.loadBlocked m.kind || (s.mem.running ++ s.mem.queued).any fun x => x.act == 2 && x.kind == m.kind && x.loc != m.loc

/-- LOAD_IMAGE. (Log 117: DESIGN CHOICE, unsafe.) -/
def State.mbLoad (s : State) (m : Mbox) : State :=
  let kind := bitsOf m.a0 0 4
  if kind < 2 || 4 < kind || (locStart m.a1).isNone then s.mboxCode mbINVALID
  else if !s.nandUp || !s.loadDomains kind then s.mboxCode mbDOWN
  else if s.loadRefused (mapLoad kind m.a1) then s.mboxCode mbREFUSED
  else s.maintRequest (mapLoad kind m.a1)

/-- STAGE: its arguments; the transfers follow one by one. (Log 117: DESIGN CHOICE, unsafe.) -/
def State.mbStage (s : State) (m : Mbox) : State :=
  if m.a2.toNat < 64 || 67108864 < m.a2.toNat then s.mboxCode mbINVALID
  else if !s.dramUp || !s.domOn dHOST then s.mboxCode mbDOWN
  else s

/-- The next transfer of a STAGE (R360): CH12 copies from the host into the staging frames. -/
def State.stageNext (s : State) (m : Mbox) : State :=
  let n := min stageChunk (m.a2.toNat - m.pos)
  let src := m.a0.toNat + m.a1.toNat * 2 ^ 32 + m.pos
  let dst := stageBase + m.pos
  let s := { s with boot := { s.boot with mbox := some { m with moving := true } } }
  let s := (s.wr (R.HOIST_CH_ACT_SRC_LO 12) (BitVec.ofNat 32 src)).wr (R.HOIST_CH_ACT_SRC_HI 12) (BitVec.ofNat 32 (src / 2 ^ 32))
  let s := (s.wr (R.HOIST_CH_ACT_DST_LO 12) (BitVec.ofNat 32 dst)).wr (R.HOIST_CH_ACT_DST_HI 12) (BitVec.ofNat 32 (dst / 2 ^ 32))
  let s := s.setFld (F.HOIST_CH_ACT_LEN_LENGTH 12) n
  let s := s.setChan 12 ⟨true, false, false, false, true⟩
  (s.setFld (F.HOIST_CH_STATUS_ACTIVE 12) 1).assign

/-- A STAGE that runs goes on when CH12 is idle; it ends when every byte has been copied. (Log 117: DESIGN CHOICE, unsafe.) -/
def State.stageOn (s : State) (m : Mbox) : State :=
  if m.moving then s
  else if m.a2.toNat ≤ m.pos then s.mboxResult ⟨mbOK, none, some (BitVec.ofNat 32 m.pos), none⟩
  else if !s.dramUp || !s.domOn dHOST then s.mboxCode mbDOWN
  else if s.hostReset || s.bit (F.HOIST_CH_STATUS_ACTIVE 12) then s
  else s.stageNext m

/-- The staged image as a whole is 64 bytes of header and its stored payload (R194). (Log 117: DESIGN CHOICE, unsafe.) -/
def State.stagedLen (s : State) : Nat := 64 + (mepaOf (s.stagedBytes 0 64)).stored

/-- STORE_IMAGE: checks of the arguments and of the image, then FWUPDATE. -/
def State.mbStore (s : State) (m : Mbox) : State :=
  let part := bitsOf m.a0 16 3
  if !(part == 2 || part == 3) || (locStart m.a0).isNone then s.mboxCode mbINVALID
  else if !s.nandUp then s.mboxCode mbDOWN
  else
    let r := mepaCheck s.stagedBytes none none payloadLen
    if r.1 != 0 then s.mboxImage r.1
    else if locRoom m.a0 < s.stagedLen then s.mboxCode mbINVALID
    else s.maintRequest (plainReq 6)

/-- FW_INSTALL: checks of the target and of the image, then FWUPDATE. -/
def State.mbInstall (s : State) (m : Mbox) : State :=
  let image := bitsOf m.a0 0 1
  if !s.boot.recovery && image = s.boot.image then s.mboxCode mbINVALID
  else if !s.nandUp then s.mboxCode mbDOWN
  else
    let r := firmwareCheck s.stagedBytes
    if r.1 != 0 then s.mboxImage r.1 else s.maintRequest (plainReq 6)

/-- FW_SWITCH, step 1 (R363): the other image is checked. -/
def State.mbSwitch (s : State) : State :=
  if !s.domOn dMAP then s.mboxCode mbDOWN
  else
    let r := s.fwCheck (1 - s.boot.image)
    let s := r.2.2.fwShow
    if r.1 != 0 then s.mboxImage r.1 else s

/-- FW_SWITCH, steps 2 to 4 (R363): once none of Foreman's activities runs, a trial record is written and Foreman starts
from the other image. -/
def State.switchOn (s : State) : State :=
  if s.mem.running.any fun m => [2, 3, 5, 6].contains m.act then s
  else
    let image := 1 - s.boot.image
    let s := s.writeRecord image true
    let s := { s with boot := { s.boot with image := image, trial := true } }.foreAbort
    let s := (s.firmwareStart image).mboxCode mbOK
    let s := s.post F.FORE_EVT_RING 0x0911 [(1, s.boot.image), (1, b2n s.boot.trial), (32, (s.rd R.FORE_FW_RELEASE).toNat)]
    (s.restarted 2).maintScan

/-- FW_CONFIRM (R364): the trial ends, and a record with TRIAL = 0 is written. (Log 117: DESIGN CHOICE, unsafe.) -/
def State.mbConfirm (s : State) : State :=
  let s := if s.boot.record.isSome || s.boot.trial then s.writeRecord (b2n (if s.boot.trial then s.boot.image == 1 else s.recFlag 0)) false else s
  ({ s with boot := { s.boot with trial := false } }.fwShow).mboxCode mbOK

/-- The running SHUTDOWN takes its next step. -/
def State.setShutdown (s : State) (m : Mbox) (k : Nat) : State :=
  { s with boot := { s.boot with mbox := some { m with step := k } } }

/-- The end of a SHUTDOWN (R362). -/
def State.shutdownEnd (s : State) (m : Mbox) : State :=
  let off := !s.domOn dPANEL || s.panelState == pOFF
  let clean := !s.domOn dLABEL || s.fld F.LABEL_INTERRUPTED_COUNT == m.interrupted
  let ckpt := m.ckpts < s.age.made
  let out := b2n off + 2 * b2n clean + 4 * b2n ckpt
  s.mboxResult ⟨if out = 7 then mbOK else mbABANDONED, none, some (BitVec.ofNat 32 out), none⟩

/-- One step of a SHUTDOWN that is due (R362): 1 the label updates end, 2 the panel is powered down, 3 a checkpoint. -/
def State.shutdownOn (s : State) (m : Mbox) : State :=
  if m.step = 1 then
    if s.domOn dLABEL && !s.label.run.isEmpty then s
    else
      let s := if s.domOn dLABEL then s.labelStop else s
      (s.setShutdown m 2).panelDown cauCMD false
  else if m.step = 2 then (if s.panelDark then (s.setShutdown m 3).ckptRequest else s)
  else if s.ckptBusy then s
  else s.shutdownEnd m

/-- SHUTDOWN: the label port refuses new descriptors (R362). -/
def State.mbShutdown (s : State) (m : Mbox) : State :=
  { s.setShutdown { m with interrupted := s.fld F.LABEL_INTERRUPTED_COUNT, ckpts := s.age.made } 1 with
    label := { s.label with closing := true } }

/-- SHUTDOWN_LABEL_WAIT_EXPIRE (R362): the port is told to stop. -/
def State.shutdownExpire (s : State) : State :=
  match s.boot.mbox with
  | some m => if m.op = 8 && m.result.isNone && m.step = 1 then s.labelHalt else s
  | none => s

/-- A command begins (R360). In recovery only PING, STAGE and FW_INSTALL are served (R359). -/
def State.mboxBegin (s : State) (m : Mbox) : State :=
  if s.boot.recovery && !(m.op == 1 || m.op == 3 || m.op == 5) then s.mboxCode mbINVALID
  else
    match m.op with
    | 1 => s.mbPing
    | 2 => s.mbLoad m
    | 3 => s.mbStage m
    | 4 => s.mbStore m
    | 5 => s.mbInstall m
    | 6 => s.mbSwitch
    | 7 => s.mbConfirm
    | 8 => s.mbShutdown m
    | _ => s.mboxCode mbINVALID

/-- A write to MBOX_CMD (R360): ignored while a command runs, in FATAL (R373), and where nothing serves the mailbox. -/
def State.mboxCmd (s : State) (op seq : Nat) : State :=
  if !s.domOn dFORE || s.fatal || s.boot.mbox.isSome || !(s.boot.foreman || s.boot.recovery) then s
  else
    let m : Mbox := ⟨op, seq, s.rd (R.FORE_MBOX_ARGn 0), s.rd (R.FORE_MBOX_ARGn 1), s.rd (R.FORE_MBOX_ARGn 2), none, 0, false, 0, 0, 0⟩
    ({ s with boot := { s.boot with mbox := some m } }.setFld F.FORE_MBOX_STATUS_BUSY 1).mboxBegin m

/-- A running command goes on. -/
def State.mboxOn (s : State) : State :=
  match s.boot.mbox with
  | some m =>
    if m.result.isSome || !s.domOn dFORE then s
    else
      match m.op with
      | 3 => s.stageOn m
      | 6 => s.switchOn
      | 8 => s.shutdownOn m
      | _ => s
  | none => s

/-- A value that the result states, or an open one. (Log 117: DESIGN CHOICE, unsafe.) -/
def State.orFree (s : State) (v : Option Word) : Word × State := match v with | some w => (w, s) | none => s.draw

/-- MBOX_COMMAND_DONE (R360): the outputs, the status, BUSY and the event, in this order. -/
def State.mboxDone (s : State) : State :=
  match s.boot.mbox with
  | some m =>
    match m.result with
    | some r =>
      if !s.domOn dFORE then s
      else
        let a := s.orFree r.out0
        let b := a.2.orFree r.out1
        let d := b.2.orFree (r.detail.map (BitVec.ofNat 32))
        let s := ((d.2.wr (R.FORE_MBOX_OUTn 0) a.1).wr (R.FORE_MBOX_OUTn 1) b.1).setFld F.FORE_MBOX_STATUS_SEQ m.seq
        let s := (s.setFld F.FORE_MBOX_STATUS_RESULT r.code).setFld F.FORE_MBOX_STATUS_DETAIL d.1.toNat
        let s := { s with boot := { s.boot with mbox := none } }.setFld F.FORE_MBOX_STATUS_BUSY 0
        s.mboxPost (mkEv 0x0910 [(8, m.op), (8, m.seq), (8, r.code), (8, s.fld F.FORE_MBOX_STATUS_DETAIL), (32, a.1.toNat)])
    | none => s
  | none => s

/-! ### Ends of activities (R343) -/

/-- PANEL_AUTO (R354): UP is written once the splash is shown, has failed, or is not asked for. (Log 115: DEDUCED, unsafe.) -/
def State.panelAuto (s : State) : State :=
  if s.recFlag 4 && s.boot.foreman && s.domOn dPANEL then s.panelUp else s

/-- An image has been loaded, or has failed (R195, R354, R360). A splash that is shown lets scan start. A bank that has come
to be named meanwhile is not written (R191). (Log 109: DEDUCED, unsafe.) -/
def State.mapLoaded (s : State) (m : MaintReq) (failed : Bool) (report : ActReport) : State :=
  let serves := s.servesMbox m
  let commit :=
    if serves then match s.boot.mbox with | some b => bitOf b.a0 8 | none => false
    else (m.kind == 3 && s.recFlag 8) || (m.kind == 2 && s.recFlag 6)
  let first := match s.boot.record with | some r => (s.recWord r 7).toNat % 2 ^ 20 | none => 0
  if failed then (if serves then s.mboxCode mbNAND else if m.kind = 5 then s.panelAuto else s).maintEnd m 2
  else if s.loadBlocked m.kind then (if serves then s.mboxCode mbREFUSED else s).maintEnd m 2
  else
    let r := s.loadImage m.kind m.loc commit (report.uncorrPages != 0) first
    let s := r.2
    let s := if serves then (if r.1 = 0 then s.mboxCode mbOK else s.mboxImage r.1) else s
    let s :=
      if m.kind != 5 then s
      else if r.1 = 0 then { s with boot := { s.boot with runDue := true } }
      else s.panelAuto
    s.maintEnd m (if r.1 = 0 then 0 else 2)

/-- The image that a FWUPDATE writes goes into its partition (R360); one that failed leaves there what is open: its first
word is a free value. -/
def State.fwProgram (s : State) (a : Nat) (ok : Bool) : State :=
  let bs := s.stagedBytes 0 s.stagedLen
  let d := s.draw
  if ok then s.nandProgram a bs else d.2.nandProgram a (leBytes 4 d.1.toNat ++ bs.drop 4)

/-- A FWUPDATE ends (R360, R361). (Log 117: DESIGN CHOICE, unsafe.) -/
def State.fwUpdated (s : State) (m : MaintReq) (ok : Bool) : State :=
  let s :=
    match s.boot.mbox with
    | some b =>
      if b.op = 5 then
        let image := bitsOf b.a0 0 1
        let s := s.fwProgram ((partition image).1 * nandBlock) ok
        let rest := s.boot.passed.filter (· != image)
        let s := { s with boot := { s.boot with passed := if ok then image :: rest else rest } }.fwShow
        if ok then s.mboxResult ⟨mbOK, none, some (BitVec.ofNat 32 (numAt (firmwareCheck s.stagedBytes).2 0 4)), none⟩
        else s.mboxCode mbNAND
      else
        let s := match locStart b.a0 with | some a => s.fwProgram a ok | none => s
        s.mboxCode (if ok then mbOK else mbNAND)
    | none => s
  s.maintEnd m (if ok then 0 else 2)

/-- An activity of the arbiter ends (R343). -/
def State.activityDone (s : State) (act : Nat) (res : ActResult) (report : ActReport) : State :=
  match s.mem.running.find? fun m => m.act == act with
  | none => s
  | some m =>
    let ok := match res with | .ok => true | .failed _ => false
    let s := if [2, 3, 5, 6].contains act then s.nandReport report else s
    match act with
    | 0 => (s.marchRows report.rows).maintEnd m (if ok then 0 else 2)
    | 2 => s.mapLoaded m (!ok) report
    | 3 => s.checkpointDone (if ok then 0 else 1)
    | 4 => if ok then s.scrubPassDone 0 [] else s.maintEnd m 2
    | 5 => (if ok then s.nandRefreshed else s).maintEnd m (if ok then 0 else 2)
    | 6 => s.fwUpdated m ok
    | _ => s

end Sys2Proof.Machine
end

