-- ==== Sys2Proof/Machine/RegWrite.lean ====
section
/-! DEFINITION. A 32-bit write to BAR0 or BAR2 by its offset (R382, R384, R396 to R402): every register and window goes to the
operation of its own, and what a host read returns. -/

namespace Sys2Proof.Machine

/-! ### The common header (R398) -/

/-- CLAMP_CLR (R398). -/
def State.clampClr (s : State) (page : Nat) : State :=
  s.each [0x24, 0x28, 0x2C, 0x30] fun s o => s.wr (page * 0x1000 + o) 0

/-- ERR_CLR (R398). -/
def State.errClr (s : State) (page : Nat) : State := s.each [0x1C, 0x20] fun s o => s.wr (page * 0x1000 + o) 0

/-- INT_FORCE (R398): each 1 sets a bit that the block uses. (Log 82: DEDUCED, unsafe.) -/
def State.intForce (s : State) (page : Nat) (v : Word) : State :=
  let before := s.anySummary
  let off := page * 0x1000 + 0x0C
  State.summaryEdge before (s.wr off (s.rd off ||| (v &&& BitVec.ofNat 32 (intBits page))))

/-- The RW1C fields of a register are cleared where a 1 is written (R3). -/
def State.w1c (s : State) (off : Nat) (v : Word) : State :=
  s.wr off ((fieldsAt off).foldl (fun w f =>
    if f.acc = .rw1c then putBits w f.lo f.w (bitsOf (w &&& ~~~v) f.lo f.w) else w) (s.rd off))

/-- BLK_CTRL (R398). -/
def State.blkCtrl (s : State) (page : Nat) (v : Word) : State :=
  let s := if bitOf v 0 then s.clampClr page else s
  if bitOf v 1 then s.errClr page else s

/-! ### Registers that command (R399) -/

/-- A write to MAINT.REQ (R343, R347). (Log 106: DESIGN CHOICE, unsafe.) -/
def State.maintReqWrite (s : State) (v : Word) : State :=
  if !bitOf v 31 then s
  else if bitsOf v 0 3 = 4 then s.maintReqScrub
  else if bitsOf v 0 3 = 5 then s.nandRefreshGo
  else s.refuseCommand R.MAINT_REQ v

/-- A write to HVD.PANEL_CMD (R248). -/
def State.panelCmdWrite (s : State) (v : Word) : State :=
  if bitsOf v 0 2 = 1 then s.panelUp else if bitsOf v 0 2 = 2 then s.panelDownCmd else s

/-- A write to SEAL.KEY_CMD (R267): every write clears the key words; OP 0 does nothing else. (Log 72: DEDUCED, unsafe.) -/
def State.keyCmdWrite (s : State) (v : Word) : State :=
  if bitsOf v 8 2 = 0 then s.clearKeyData else s.keyCmd (bitsOf v 0 4) (bitsOf v 8 2)

/-- A write to a KEY_DATA word, which marks it as written (R267). -/
def State.keyDataWrite (s : State) (i : Nat) (v : Word) : State :=
  { s with keys := { s.keys with data := SMap.insert s.keys.data i v } }

/-- A write to a slot's CMD (R82): the slot's aborts and commits. -/
def State.slotCmdWrite (s : State) (n : Nat) (v : Word) : State := ((s.txnCommit n v).txnAbort n v).assign

/-- A write to a slot port (R78). -/
def State.slotWrite (s : State) (n reg : Nat) (v : Word) : State :=
  match reg with
  | 0 => s.setFld (F.SLOT_STAGE_ADDR_OFFSET n) v.toNat
  | 1 => s.stage n v
  | 2 => s.wr (R.SLOT_TARGET n) v
  | 3 => s.slotCmdWrite n v
  | _ => s

/-- Registers of a page whose writes start something by themselves; none for a register that only holds values. From PCIe
writes to FREQ are ignored (R316), and Foreman uses no other (R305). (Log 20: DEDUCED, safe.) -/
def State.commandWrite (s : State) (port : Port) (off : Nat) (v : Word) : Option State :=
  if off = R.SURF_RETIRE_COOKIE then some (s.wr off v)
  else if off = R.SURF_RETIRE_CMD then some (s.retireWrite v)
  else if off = R.SURF_RCACHE_INVAL then some (s.rcacheInvalWrite v)
  else if off = R.QMGR_QCMD then some (s.qcmdWrite (bitsOf v 0 13) (bitsOf v 16 3))
  else if off = R.HOIST_CH_ABORT then some (s.chAbortWrite port v)
  else if 0x12200 ≤ off && off < 0x12600 && off % 0x40 = 0x14 then some (s.chCtrlWrite port ((off - 0x12200) / 0x40) v)
  else if off = R.CHIP_AUDIT_CMD then some (if bitOf v 0 then s.auditStart else s)
  else if off = R.HIST_CMD .dawn then some (s.histCmdWrite .dawn v)
  else if off = R.HIST_CMD .dusk then some (s.histCmdWrite .dusk v)
  else if off = R.OD_STAGE_CMD then some (if bitOf v 0 then s.odSeal else s)
  else if off = R.CMP_CTX_DROP then some (s.ctxDropWrite v)
  else if off = R.UNI_STAGE_CMD then some (if bitOf v 0 then s.startUniSeal (bitOf v 1) else s)
  else if off = R.AGE_CKPT_CMD then some (if bitOf v 0 then s.ckptRequest else s)
  else if off = R.LINK_TRAIN_CMD then some (s.trainCmdWrite v)
  else if off = R.LINK_CTL_CMD then some (s.ctlCmdWrite v)
  else if off = R.HVD_PANEL_CMD then some (s.panelCmdWrite v)
  else if R.SEAL_KEY_DATAn 0 ≤ off && off ≤ R.SEAL_KEY_DATAn 7 then some (s.keyDataWrite ((off - R.SEAL_KEY_DATAn 0) / 4) v)
  else if off = R.SEAL_KEY_CMD then some (s.keyCmdWrite v)
  else if off = R.SEAL_POLICY then some (s.policyWrite v)
  else if off = R.PWR_REQ then some (s.powerWord .pcie v)
  else if off = R.PWR_FREQ then some (if port = .foreman then s.powerWord .foreman v else s)
  else if off = R.PWR_PAD_RELEASE then some (s.padRelease v)
  else if off = R.SRAMC_MARCH_CMD then some (s.marchGo v)
  else if off = R.MAINT_REQ then some (s.maintReqWrite v)
  else if off = R.CHIP_RESET_CTRL then some (s.resetCtrl v)
  else if off = R.CHIP_FATAL_FORCE then some (s.fatalForce v)
  else if off = R.FORE_MBOX_CMD then some (s.mboxCmd (bitsOf v 0 8) (bitsOf v 8 8))
  else if off = R.PCIEX_PTM_CMD then some (if bitOf v 0 then s.ptmStart else s)
  else if off = R.SCAN_CTRL then some (s.scanCtrlWrite port v)
  else none

/-- A write to a register that holds values (R3, R75, R399): RWS and RWL fields are staged, RW fields change at once, RW1C
fields clear. -/
def State.valueWrite (s : State) (port : Port) (off : Nat) (v : Word) : State :=
  let s := if hasAcc off selStaged then s.stageDirect off v else s
  let s := if hasAcc off selNow then s.rwWrite s none port selNow off v else s
  if hasAcc off (· == .rw1c) then s.w1c off v else s

/-- A write to a register page (R397 to R399). -/
def State.pageWrite (s : State) (port : Port) (off : Nat) (v : Word) : State :=
  let page := off / 0x1000
  if !pageUsed page then s
  else if off % 0x1000 = 0x04 then s.blkCtrl page v
  else if off % 0x1000 = 0x14 then s.intForce page v
  else
    match s.commandWrite port off v with
    | some t => t
    | none => s.valueWrite port off v

/-! ### BAR0 and BAR2 (R382, R384, R396) -/

/-- The offset lies in a register page in use or in a window (R396). -/
def mapped (off : Nat) : Bool :=
  if off < 0x100000 then pageUsed (off / 0x1000)
  else
    off < 0x140800 || (0x150000 ≤ off && off < 0x150800) || (0x151000 ≤ off && off < 0x152000) ||
      (0x160000 ≤ off && off < 0x162000) || (0x170000 ≤ off && off < 0x18B180) || (0x190000 ≤ off && off < 0x191000) ||
      (0x1A0000 ≤ off && off < 0x1A1000) || (0x1C0000 ≤ off && off < 0x1DB000) || (0x1E0000 ≤ off && off < 0x1E8000) ||
      0x400000 ≤ off

/-- A 32-bit write at a BAR0 offset that its block receives. (Log 15: DEDUCED, safe.) -/
def State.regWrite (s : State) (port : Port) (off : Nat) (v : Word) : State :=
  if !mapped off then s
  else if 0x800000 ≤ off then
    (s.pageEntryWrite ((off - 0x800000) / 8) (if off % 8 = 0 then .lower v else .upper v)).ltrUpdate
  else if 0x400000 ≤ off then
    match port with
    | .pcie => s.scratchWrite off v .free
    | .foreman => s.setScratch ((off - 0x400000) / 4) v
  else if 0x1C0000 ≤ off then (if off < 0x1DB000 then s.persHostWrite off v else s)
  else if 0x190000 ≤ off then s
  else if 0x170000 ≤ off then s.odWrite (off - 0x170000) v
  else if 0x160000 ≤ off then s.valueWrite port off v
  else if 0x151000 ≤ off then s
  else if 0x150000 ≤ off then s.slotWrite ((off - 0x150000) / 0x20) (off % 0x20 / 4) v
  else if 0x140000 ≤ off then
    (if off % 0x20 = 0x10 then s.ringHeadWrite none ((off - 0x140000) / 0x20) v
     else s.ringCfgWrite none ((off - 0x140000) / 0x20) (off % 0x20 / 4) v)
  else if 0x100000 ≤ off then s.queueCfgWrite none ((off - 0x100000) / 0x20) (off % 0x20 / 4) v
  else s.pageWrite port off v

/-- The offset whose block decides whether an access of a port is served: reserved offsets belong to none, and the
scratchpad window follows R324 (R382). (Log 103: DESIGN CHOICE, unsafe.) -/
def accessOff (port : Port) (off : Nat) : Nat :=
  if !mapped off then 0
  else if port = .pcie && 0x400000 ≤ off && off < 0x800000 then R.SRAMC_SP_CFG
  else off

/-- A write to the MSI-X table (R384): the low address bits and the reserved bits of Vector Control stay 0.
(Log 16: PRESUMED, unsafe.) -/
def State.msixWrite (s : State) (i : Nat) (v : Word) : State :=
  let v := if i % 4 = 0 then v &&& ~~~3#32 else if i % 4 = 3 then v &&& 1#32 else v
  { s with pcie := { s.pcie with msix := SMap.set msixReset s.pcie.msix i v } }.flushVectors

/-- A 32-bit write to BAR2 (R43, R384). (Log 39: DEDUCED, safe.) -/
def State.bar2Write (s : State) (off : Nat) (v : Word) : State :=
  if off < 0x10000 then
    (if off % 8 = 0 then s.hostWriteTo 0x100000 fun s => s.doorbell (off / 8) v else s)
  else if off < 0x18000 then
    (if !s.domOn dHOST then s
     else if !s.memReady then s.bump F.PCIEX_UR_COUNT_COUNT
     else if s.pcie.d3hot then s
     else s.msixWrite ((off - 0x10000) / 4) v)
  else s

/-- A 32-bit write of a port. (Log 19: DESIGN CHOICE, safe.) -/
def State.registerWrite (s : State) (port : Port) (bar2 : Bool) (off : Nat) (v : Word) : State :=
  if bar2 then (match port with | .pcie => s.bar2Write off v | .foreman => s)
  else if off % 4 != 0 then (match port with | .pcie => s.malformed false | .foreman => s)
  else s.portWriteTo port (accessOff port off) fun s => s.regWrite port off v

/-! ### What a host read returns (R382, R395, R396)

The table of operations has no row for a read of a register; what one returns, and the latch of R395 that it takes, are
defined here for the statements and for a reader. -/

/-- The _LO registers of PCIEX, whose read latches the _HI register after them (R395). -/
def isLo (off : Nat) : Bool := [R.PCIEX_LOCAL_TIME_LO, R.PCIEX_PTM_LO, R.PCIEX_PTM_HOST_LO].contains off

/-- The word that a read of a host returns where its block answers: a _HI register once latched returns the latched value
(R395), reserved offsets read zero (R382), and so do the FREQ registers from PCIe (R316). (Log 12: DESIGN CHOICE, safe.) -/
def State.hostView (s : State) (off : Nat) : Word :=
  if !mapped off || off = R.PWR_FREQ || off = R.PWR_FREQ_STATUS then 0
  else
    match s.pcie.hiLatch.find? fun e => e.1 == off with
    | some e => e.2
    | none => s.view off

/-- The word that a read of the host at a BAR2 offset returns where it is answered: a doorbell reads zero (R43), and the
MSI-X table and the PBA as they stand (R384). (Log 12: DESIGN CHOICE, safe.) -/
def State.bar2View (s : State) (off : Nat) : Word :=
  if off < 0x10000 then 0
  else if off < 0x18000 then SMap.get msixReset s.pcie.msix ((off - 0x10000) / 4)
  else if off < 0x18100 then BitVec.ofNat 32 (mapWord32 ((off - 0x18000) / 4) s.pcie.pba.contains)
  else 0

/-- A 32-bit read of the host at a BAR0 offset. (Log 12: DESIGN CHOICE, safe.) -/
def State.registerRead (s : State) (off : Nat) : State :=
  s.hostReadFrom (if 0x400000 ≤ off && off < 0x800000 then 0 else accessOff .pcie off) fun s =>
    let v := s.hostView off
    let rest := s.pcie.hiLatch.filter fun e => e.1 != off && !(isLo off && e.1 == off + 4)
    let latch := if isLo off then (off + 4, s.view (off + 4)) :: rest else rest
    ({ s with pcie := { s.pcie with hiLatch := latch } }).emit (.reply (leBytes 4 v.toNat))

end Sys2Proof.Machine
end

