-- ==== Sys2Proof/Machine/Boot.lean ====
section
/-! DEFINITION. What goes on by itself after a command: start-up (15, R354 to R359), the full-scope reset sequence (R350), the
resets and links that waited, and the running mailbox command. -/

namespace Sys2Proof.Machine

def State.setBootStep (s : State) (k : BootStep) : State := { s with boot := { s.boot with step := k } }

def State.setAgain (s : State) (b : Bool) : State := { s with boot := { s.boot with again := b } }

def State.setStage (s : State) (n : Nat) : State := s.setFld F.CHIP_BOOT_STATUS_STAGE n

/-! ### Steps 1 to 4 of R354 -/

/-- The march is over, or was skipped: the first domains are to wake. -/
def State.bootWake (s : State) : State := (s.setAgain false).setBootStep (.wake false)

/-- ROOT has locked (R354 steps 1 and 2, R409, R364, R322): the boot record is chosen, a trial that COLD ended is reverted,
and the repair records apply. -/
def State.bootRooted (s : State) : State :=
  let s := ((s.setFld F.CLK_STATUS_XTAL_OK 1).setFld F.CLK_STATUS_ROOT_LOCK 1).setAgain false
  if s.boot.bootsel = 7 then s.setBootStep .idle
  else
    let rec' := if s.boot.bootsel = 1 then none else s.chooseRecord
    let s := { s with boot := { s.boot with record := rec' } }
    let s := (s.setBit F.CHIP_BOOT_STATUS_DEFAULT rec'.isNone).setFld F.CHIP_BOOT_STATUS_RECORD (rec'.getD 0)
    let s := { s with boot := { s.boot with image := b2n (s.recFlag 0) } }
    let s := if s.recFlag 1 then (s.revert).revertedEvent 3 else s
    let s := s.applyRepairs
    if s.recFlag 2 then s.bootWake else (s.setStage 1).setBootStep .march

/-- ROOT has not locked (R355). -/
def State.bootNoRoot (s : State) : State :=
  if !s.boot.again then s.setAgain true else (s.setBootStep .idle).bootFail 1

/-- The march of start-up has ended (R337, R339). -/
def State.bootMarched (s : State) (rows : List (BitVec 12 × BitVec 9)) : State :=
  ((s.marchRows rows).setFld F.CHIP_BOOT_STATUS_MARCHED 1).bootWake

/-- Domains of step 4 that are not ON. (Log 115: DEDUCED, unsafe.) -/
def State.bootMissing (s : State) : Nat :=
  ([dFORE, dSTORE, dMAP].filter fun d => !s.domOn d).foldl (fun a d => a + 2 ^ d) 0

/-- The wake of step 4 has ended (R355). -/
def State.bootWoken (s : State) : State :=
  if s.bootMissing = 0 then ((s.setAgain false).setStage 2).setBootStep .dram
  else if !s.boot.again then (s.setAgain true).setBootStep (.wake false)
  else if !s.domOn dSTORE then (s.setBootStep .idle).bootFail 2
  else
    let s := if s.domOn dMAP then s else s.bootFail 4
    ((s.setAgain false).setStage 2).setBootStep .dram

/-! ### Steps 5 and 6 -/

/-- Foreman starts, or recovery (R354 step 5, R355, R359, R409). -/
def State.bootFirmware (s : State) : State :=
  let s := if s.fld F.CHIP_BOOT_STATUS_STAGE = stageReady then s else s.setStage 3
  if !s.domOn dFORE then ((s.bootFail 5).setAgain true).setBootStep (.host false)
  else
    let s :=
      if s.boot.bootsel = 2 || s.fld F.CHIP_BOOT_STATUS_BOOT_FAIL = 3 then s.enterRecovery else s.firmwareStart s.boot.image
    if s.boot.foreman then ((s.setFld F.SURF_RSVD_FRAMES_COUNT 640).placeStores).setBootStep (.list 0)
    else s.setBootStep (.host false)

/-- DRAM_TRAINING_DONE (R354 step 4, R355). (Log 115: DEDUCED, unsafe.) -/
def State.bootTrained (s : State) (ok : Bool) : State :=
  if ok then s.bootFirmware
  else if !s.boot.again then s.setAgain true
  else ((s.setAgain false).bootFail 3).bootFirmware

/-- A pair that Foreman skips (R353): a register with an RWP field, a persistent window, a register page of the Host
region. -/
def listSkips (off : Nat) : Bool :=
  hasAcc off (· == .rwp) || (0x1C0000 ≤ off && off < 0x1DB000) ||
    (off < 0x100000 && pageUsed (off / 0x1000) && pageRegion (off / 0x1000) == 1)

/-- `n` pairs of the register list, from pair `i` on (R354 step 6): Foreman waits while a request that it has issued runs. -/
def listGo (r : Nat) : Nat → Nat → State → State
  | 0, _, s => s.setBootStep (.host false)
  | n + 1, i, s =>
    let off := (s.recWord r (16 + 2 * i)).toNat
    let s :=
      if listSkips off then s.bump F.CHIP_BOOT_STATUS_SKIPPED
      else s.registerWrite .foreman false off (s.recWord r (17 + 2 * i))
    if s.power.req.isSome then s.setBootStep (.list (i + 1)) else listGo r n (i + 1) s

/-- Foreman goes on with the register list. (Log 115: DEDUCED, unsafe.) -/
def State.bootList (s : State) (i : Nat) : State :=
  match s.boot.record with
  | some r => listGo r (min 760 (s.recPairs r) - i) i s
  | none => s.setBootStep (.host false)

/-- The bit of a record's FLAGS that asks for the image of a kind at start-up (R353, R354). (Log 109: DEDUCED, unsafe.) -/
def loadFlag (kind : Nat) : Nat := match kind with | 5 => 3 | 3 => 7 | 2 => 5 | _ => 9

/-- HOST has been woken: its pads are released, and with Foreman running those of every domain that is ON (R310), and STAGE
is READY (R354 step 6, R355, R359). What step 8 loads follows. (Log 109: DEDUCED, unsafe; log 147: DEDUCED, unsafe.) -/
def State.bootReady (s : State) : State :=
  let s := ((s.padRelease (if s.boot.foreman then 0x7FE#32 else 4#32)).setStage stageReady).setBootStep .idle
  if !s.boot.foreman then s
  else
    let s := { s with boot := { s.boot with loads := [5, 3, 2, 4].filter fun k => s.recFlag (loadFlag k) } }
    if s.recFlag 3 then s else s.panelAuto

/-! ### Step 7 and later -/

/-- The splash is committed: RUN is set, and UP written (R354 step 7). (Log 115: DEDUCED, unsafe.) -/
def State.splashRun (s : State) : State :=
  let s := { s with boot := { s.boot with runDue := false } }
  ((s.setFld F.SCAN_CTRL_RUN 1).scanRun).panelAuto

/-- The next image to load, which the record in use asks for and whose domains are ON; one is loaded after another (R343,
R354 step 8, R352). (Log 109: DEDUCED, unsafe.) -/
def State.nextLoad (s : State) : Option Nat :=
  if s.boot.foreman && s.nandUp && !s.fatal && !s.boot.runDue && !(s.mem.running ++ s.mem.queued).any fun m => m.act == 2 then
    s.boot.loads.find? fun k => s.recFlag (loadFlag k) && s.loadDomains k && !s.loadBlocked k
  else none

/-- Foreman requests that image. -/
def State.loadNext (s : State) (kind : Nat) : State :=
  ({ s with boot := { s.boot with loads := s.boot.loads.erase kind } }).maintRequest (mapLoad kind (s.recLoc kind))

/-- FORE is ON again after OFF: Foreman starts from the image in force, or start-up goes on from step 5 (R354, R355). -/
def State.foreUp (s : State) : State :=
  if s.boot.again then (s.setAgain false).bootFirmware
  else
    let s := s.firmwareStart s.boot.image
    if s.boot.foreman then s.placeStores else s

/-- The label port has stopped, as the full-scope sequence asks (R350, R287). -/
def State.labelQuiet (s : State) : Bool := !s.domOn dLABEL || (s.label.run.isEmpty && !s.label.stopDue)

/-- The next step of a full-scope sequence that is due (R350). (Log 113: DEDUCED, safe.) -/
def State.fullStep (s : State) : Option State :=
  let at' (n : Nat) (s : State) : State := { s with boot := { s.boot with full := n } }
  match s.boot.full with
  | 1 => if s.labelQuiet then some (at' 2 (s.panelDown cauRESET false)) else none
  | 2 =>
    if s.panelDark then
      some (at' 3 (if s.domOn dPANEL && s.bit F.AGE_STATUS_READY && s.bit F.AGE_CTRL_SAMPLE_EN then s.ckptRequest else s))
    else none
  | 3 => if s.ckptBusy && !s.hvd.pfwLow then none else some (at' 4 s)
  | 4 => some ((s.each s.pstore.buf fun s _ => s.pstoreStep).fullReset)
  | _ => none

/-- The next step of start-up that is due, where no command is waited for. (Log 115: DEDUCED, unsafe.) -/
def State.bootStep' (s : State) : Option State :=
  match s.boot.step with
  | .wake false =>
    if s.power.req.isSome then none else some ((s.setBootStep (.wake true)).powerIssue .boot s.bootMissing 0 false false)
  | .wake true => if s.power.req.isSome then none else some s.bootWoken
  | .list i => if s.power.req.isSome then none else some (s.bootList i)
  | .host false =>
    if s.power.req.isSome then none else some ((s.setBootStep (.host true)).powerIssue .boot (2 ^ dHOST) 0 false false)
  | .host true => if s.power.req.isSome then none else some s.bootReady
  | .idle =>
    if s.fld F.CHIP_BOOT_STATUS_STAGE != stageReady then none
    else if s.domOn dFORE && !s.boot.foreman && !s.boot.recovery then some s.foreUp
    else if s.boot.runDue then (if s.txn.merging.isEmpty then some s.splashRun else none)
    else s.nextLoad.map s.loadNext
  | _ => none

/-- The data link follows HOST and its resets, whether or not HOST's pads are still latched (R391, R354, R312).
(Log 18: DEDUCED, safe.) -/
def State.linkStep (s : State) : Option State :=
  let up := s.bit F.PCIEX_LINK_STATUS_DL_UP
  if s.domOn dHOST && !s.hostReset && !up then some s.linkUp
  else if !s.domOn dHOST && up then some s.linkDown
  else none

/-- One thing that is due by itself; none when nothing is. -/
def State.goStep (s : State) : Option State :=
  if s.boot.step = .cold then none
  else if s.boot.fatalWait && s.panelDark then some s.fatalEnd
  else if s.power.resetDue != 0 && !s.hostWaking then some s.dueReset
  else if s.power.autoOff && s.power.req.isNone && !s.fatal then some s.autoOffIssue
  else
    match s.linkStep with
    | some t => some t
    | none =>
      if s.boot.full != 0 then s.fullStep
      else if s.fatal then none
      else s.bootStep'

/-- Everything that is due, one thing after another. -/
def goLoop : Nat → State → State
  | 0, s => s
  | n + 1, s =>
    match s.goStep with
    | some t => goLoop n (State.afterReq s t)
    | none => s

/-- What follows a command by itself. -/
def State.goOn (s : State) : State :=
  let s := goLoop 64 s
  goLoop 64 s.mboxOn.mboxOn.mboxOn.mboxOn

end Sys2Proof.Machine
end

