-- ==== Sys2Proof/Machine/Flow.lean ====
section
/-! DEFINITION. The meanings of the commands after which something else may be due: each makes its own effect, and then what
follows by itself takes place (Boot.lean). -/

namespace Sys2Proof.Machine

/-- A command of the running part: its effect, the wakes that waited for a request that it ended (R313), and what is due
after it. In COLD the part does nothing (R413). -/
def State.flow (s : State) (f : State → State) : State :=
  if s.boot.step = .cold then s else (State.afterReq s (f s)).goOn

/-! ### Registers -/

/-- REGISTER_WRITE (R3, R382, R384, R399). -/
def execRegisterWrite (port : Port) (bar2 : Bool) (off : BitVec 24) (v : Word) (s : State) : Host.Outcome State Fault Refusal :=
  .next (s.flow fun s => s.registerWrite port bar2 off.toNat v)

/-- CLAMP_CLR (R398). -/
def execClampClr (page : PageIdx) (s : State) : Host.Outcome State Fault Refusal :=
  .next (s.hostWriteTo (accessOff .pcie (page.toNat * 0x1000)) fun s => if pageUsed page.toNat then s.clampClr page.toNat else s)

/-- ERR_CLR (R398). -/
def execErrClr (page : PageIdx) (s : State) : Host.Outcome State Fault Refusal :=
  .next (s.hostWriteTo (accessOff .pcie (page.toNat * 0x1000)) fun s => if pageUsed page.toNat then s.errClr page.toNat else s)

/-- INT_FORCE (R398). -/
def execIntForce (page : PageIdx) (v : Word) (s : State) : Host.Outcome State Fault Refusal :=
  .next (s.hostWriteTo (accessOff .pcie (page.toNat * 0x1000)) fun s => if pageUsed page.toNat then s.intForce page.toNat v else s)

/-- GATE_FORCE_WRITE (R233, R249): a write of GATE.CTRL, whose FORCE acts at once. -/
def execGateForceWrite (v : Word) (s : State) : Host.Outcome State Fault Refusal :=
  .next (s.hostWriteTo R.GATE_CTRL fun s => s.valueWrite .pcie R.GATE_CTRL v)

/-- CH_ABORT (R64, R63). -/
def execChAbort (port : Port) (v : Word) (s : State) : Host.Outcome State Fault Refusal :=
  .next (s.flow fun s => s.portWriteTo port R.HOIST_CH_ABORT fun s => s.chAbortWrite port v)

/-! ### Hoist, transactions, keys, maintenance -/

/-- TRANSFER_COMPLETE (R54). -/
def execTransferComplete (n : BitVec 5) (s : State) : Host.Outcome State Fault Refusal :=
  .next (s.flow fun s => s.transferComplete n.toNat)

/-- MERGE_DONE (R83). -/
def execMergeDone (n : BitVec 6) (s : State) : Host.Outcome State Fault Refusal :=
  .next (s.flow fun s => (s.mergeDone n.toNat).assign)

/-- KEY_WRITE_DONE (R267). -/
def execKeyWriteDone (s : State) : Host.Outcome State Fault Refusal := .next s.keyWriteDone

/-- CHECKPOINT_DONE (R202): 0 OK, 1 NAND_ERROR, 2 ABANDONED. -/
def execCheckpointDone (status : BitVec 2) (s : State) : Host.Outcome State Fault Refusal :=
  .next (s.flow fun s => s.checkpointDone status.toNat)

/-- MAINT_ACTIVITY_DONE (R343); the march of start-up is one of them (R337). -/
def execMaintActivityDone (activity : BitVec 3) (res : ActResult) (report : ActReport) (s : State) :
    Host.Outcome State Fault Refusal :=
  .next (s.flow fun s =>
    if activity = 0 && s.boot.step == .march then s.bootMarched report.rows else s.activityDone activity.toNat res report)

/-! ### The panel and the label port -/

/-- RAIL_REQ_ACK (R247). -/
def execRailReqAck (s : State) : Host.Outcome State Fault Refusal :=
  .next (s.flow fun s => s.railAck)

/-- RAIL_REQ_TIMEOUT (R247). -/
def execRailReqTimeout (m : RailMiss) (s : State) : Host.Outcome State Fault Refusal :=
  .next (s.flow fun s => s.railTimeout m.nacked m.mv.toNat)

/-- PANEL_SEQ_TIMER (R250, R251). -/
def execPanelSeqTimer (s : State) : Host.Outcome State Fault Refusal :=
  .next (s.flow fun s => s.seqTimer)

/-- PFW# has fallen (R205, R252, R287, R333): the buffer of the persistent store is written, a running checkpoint is
abandoned, the panel is discharged and the label port stops. -/
def State.pfwFall (s : State) : State :=
  let s := s.each s.pstore.buf fun s _ => s.pstoreStep
  let s := s.pfwPanel.labelPfw
  s.abandonAll fun m => m.act == 3

/-- PFW_ASSERT (R252). -/
def execPfwAssert (s : State) : Host.Outcome State Fault Refusal :=
  .next
    (if s.boot.step = .cold then { s with hvd := { s.hvd with pfwLow := true } }
     else if s.hvd.pfwLow then s
     else s.flow State.pfwFall)

/-- PFW_DEASSERT (R252, R205): a checkpoint that waits may start again. (Log 76: DEDUCED, unsafe.) -/
def execPfwDeassert (s : State) : Host.Outcome State Fault Refusal :=
  .next (if s.boot.step = .cold then s.pfwHigh else s.flow fun s => s.pfwHigh.ckptTry)

/-- PHASE_BOUNDARY (R284). -/
def execPhaseBoundary (good : Bool) (s : State) : Host.Outcome State Fault Refusal :=
  .next (s.flow fun s => s.phaseBoundary good)

/-- LABEL_PWR_TIMEOUT (R285). -/
def execLabelPwrTimeout (s : State) : Host.Outcome State Fault Refusal := .next (s.flow State.labelPwrTimeout)

/-- LABEL_PWRGOOD_LOST (R285, R287). -/
def execLabelPwrgoodLost (s : State) : Host.Outcome State Fault Refusal := .next (s.flow State.labelPwrgoodLost)

/-! ### Power domains and clocks -/

/-- POWER_REQ (R305). -/
def execPowerReq (v : Word) (s : State) : Host.Outcome State Fault Refusal :=
  .next (s.flow fun s => s.hostWriteTo R.PWR_REQ fun s => s.powerWord .pcie v)

/-- POWER_FREQ (R305): Foreman's write to PWR.FREQ. -/
def execPowerFreq (v : Word) (s : State) : Host.Outcome State Fault Refusal :=
  .next (s.flow fun s => s.portWriteTo .foreman R.PWR_FREQ fun s => s.powerWord .foreman v)

/-- PAD_RELEASE (R310). The data link comes up with the pads of HOST. -/
def execPadRelease (v : Word) (s : State) : Host.Outcome State Fault Refusal :=
  .next (s.flow fun s => s.hostWriteTo R.PWR_PAD_RELEASE fun s => s.padRelease v)

/-- BLOCK_QUIESCE_ANSWER (R306). -/
def execBlockQuiesceAnswer (page : PageIdx) (s : State) : Host.Outcome State Fault Refusal :=
  .next (s.flow fun s => s.quiesceAnswer page.toNat)

/-- QUIESCE_TIMEOUT (R306). -/
def execQuiesceTimeout (page : PageIdx) (s : State) : Host.Outcome State Fault Refusal :=
  .next (s.flow fun s => s.quiesceTimeout page.toNat)

/-- DOMAIN_GATED (R306). -/
def execDomainGated (d : BitVec 4) (s : State) : Host.Outcome State Fault Refusal := .next (s.flow fun s => s.domainGated d.toNat)

/-- DOMAIN_RAIL_POLL (R302). -/
def execDomainRailPoll (res : RailRes) (s : State) : Host.Outcome State Fault Refusal := .next (s.flow fun s => s.railPoll res)

/-- DOMAIN_PLL_LOCK (R308). -/
def execDomainPllLock (d : BitVec 4) (s : State) : Host.Outcome State Fault Refusal := .next (s.flow fun s => s.pllLock d.toNat)

/-- DOMAIN_PLL_TIMEOUT (R309, R300, R355): of a domain's PLL, or with domain 0 of ROOT. -/
def execDomainPllTimeout (d : BitVec 4) (s : State) : Host.Outcome State Fault Refusal :=
  .next (s.flow fun s =>
    if d = 0 then (if s.boot.step = .root then s.bootNoRoot else s.oscFail 3) else s.pllTimeout d.toNat)

/-- WAKE_SOURCE (R311). -/
def execWakeSource (n : BitVec 3) (level : Bool) (s : State) : Host.Outcome State Fault Refusal :=
  .next (s.wakeSource n.toNat level).goOn

/-- WAKE_TIMER_EXPIRE (R311). -/
def execWakeTimerExpire (s : State) : Host.Outcome State Fault Refusal := .next (s.flow State.timerExpire)

/-- ROOT_LOCK (R299, R300, R354). Scan that waits for PCLK starts. -/
def execRootLock (s : State) : Host.Outcome State Fault Refusal :=
  .next (s.flow fun s => if s.boot.step = .root then s.bootRooted else s.rootRelock.scanRun)

/-- XTAL_START_TIMEOUT (R300). -/
def execXtalStartTimeout (s : State) : Host.Outcome State Fault Refusal := .next (s.flow fun s => s.oscFail 4)

/-- DRAM_TRAINING_DONE (R354, R355). -/
def execDramTrainingDone (ok : Bool) (s : State) : Host.Outcome State Fault Refusal :=
  .next (s.flow fun s => if s.boot.step = .dram then s.bootTrained ok else s)

/-! ### Resets -/

/-- COLD_RESET (R348, R354, R413): the end of COLD, with BOOTSEL as the balls show it. -/
def execColdReset (bootsel : BitVec 3) (s : State) : Host.Outcome State Fault Refusal := .next (s.coldReset bootsel.toNat)

/-- VDD_KEEP_LOSS (R413): the part is in COLD until COLD_RESET. -/
def execVddKeepLoss (s : State) : Host.Outcome State Fault Refusal := .next (s.coldState.setBootStep .cold)

/-- PERST_ASSERT (R348, R312). -/
def execPerstAssert (s : State) : Host.Outcome State Fault Refusal := .next s.perstAssert.goOn

/-- PERST_DEASSERT (R349, R356). -/
def execPerstDeassert (s : State) : Host.Outcome State Fault Refusal := .next s.perstDeassert.goOn

/-- HOT_RESET (R391). -/
def execHotReset (linkDown : Bool) (s : State) : Host.Outcome State Fault Refusal := .next (s.flow fun s => s.hotReset linkDown)

/-- FUNCTION_LEVEL_RESET (R391). -/
def execFunctionLevelReset (s : State) : Host.Outcome State Fault Refusal := .next (s.flow State.flr)

/-- HOST_RESET_END (R349). -/
def execHostResetEnd (s : State) : Host.Outcome State Fault Refusal := .next (s.flow State.hostEnd)

/-- SOFT_RESET_HOST (R350): RESET_CTRL with SCOPE 0. -/
def execSoftResetHost (v : Word) (s : State) : Host.Outcome State Fault Refusal :=
  .next (s.flow fun s => s.hostWriteTo R.CHIP_RESET_CTRL fun s => if bitOf v 1 then s else s.resetCtrl v)

/-- SOFT_RESET_FULL (R350): RESET_CTRL with SCOPE 1. -/
def execSoftResetFull (v : Word) (s : State) : Host.Outcome State Fault Refusal :=
  .next (s.flow fun s => s.hostWriteTo R.CHIP_RESET_CTRL fun s => if bitOf v 1 then s.resetCtrl v else s)

/-- FULL_SCOPE_SEQUENCE_TIMEOUT (R350): the sequence goes on to step 5. -/
def execFullScopeSequenceTimeout (s : State) : Host.Outcome State Fault Refusal :=
  .next (s.flow fun s => if s.boot.full = 0 then s else s.fullReset)

/-- FORE_WDOG_EXPIRE (R351). -/
def execForeWdogExpire (s : State) : Host.Outcome State Fault Refusal := .next (s.flow State.foreWdog)

/-- BLOCK_WDOG_EXPIRE (R367). -/
def execBlockWdogExpire (page : PageIdx) (s : State) : Host.Outcome State Fault Refusal :=
  .next (s.flow fun s => s.blockWdog page.toNat)

/-- PORT_TIMEOUT (R368). -/
def execPortTimeout (page : PageIdx) (s : State) : Host.Outcome State Fault Refusal :=
  .next (s.flow fun s => s.portTimeout page.toNat)

/-- CONFIG_REQUEST (R356, R381, R392). -/
def execConfigRequest (isWrite : Bool) (off : BitVec 12) (v : Word) (s : State) : Host.Outcome State Fault Refusal :=
  .next (s.flow fun s => s.configRequest isWrite off.toNat v)

/-- A boundary-scan instruction takes control of the pads (R407): scan, link and gate drive stop, with no discharge.
(Log 118: DEDUCED, safe.) -/
def State.boundaryScan (s : State) : State :=
  let s := (s.setFld F.SCAN_CTRL_RUN 0).scanHalt
  let s := if s.domOn dLINK then s.trainStop else s
  if s.domOn dPANEL then s.setForce 0 else s

/-- BOUNDARY_SCAN_INSTRUCTION (R407). -/
def execBoundaryScanInstruction (s : State) : Host.Outcome State Fault Refusal := .next (s.flow State.boundaryScan)

/-! ### The mailbox (R360) -/

/-- A write of MBOX_CMD with an OP. -/
def State.mboxWrite (s : State) (op : Nat) (seq : BitVec 8) : State :=
  s.flow fun s => s.hostWriteTo R.FORE_MBOX_CMD fun s => s.mboxCmd op seq.toNat

/-- MBOX_PING. -/
def execMboxPing (seq : BitVec 8) (s : State) : Host.Outcome State Fault Refusal := .next (s.mboxWrite 1 seq)

/-- MBOX_LOAD_IMAGE. -/
def execMboxLoadImage (seq : BitVec 8) (s : State) : Host.Outcome State Fault Refusal := .next (s.mboxWrite 2 seq)

/-- MBOX_STAGE. -/
def execMboxStage (seq : BitVec 8) (s : State) : Host.Outcome State Fault Refusal := .next (s.mboxWrite 3 seq)

/-- MBOX_STORE_IMAGE. -/
def execMboxStoreImage (seq : BitVec 8) (s : State) : Host.Outcome State Fault Refusal := .next (s.mboxWrite 4 seq)

/-- MBOX_FW_INSTALL. -/
def execMboxFwInstall (seq : BitVec 8) (s : State) : Host.Outcome State Fault Refusal := .next (s.mboxWrite 5 seq)

/-- MBOX_FW_SWITCH (R363). -/
def execMboxFwSwitch (seq : BitVec 8) (s : State) : Host.Outcome State Fault Refusal := .next (s.mboxWrite 6 seq)

/-- MBOX_FW_CONFIRM (R364). -/
def execMboxFwConfirm (seq : BitVec 8) (s : State) : Host.Outcome State Fault Refusal := .next (s.mboxWrite 7 seq)

/-- MBOX_SHUTDOWN (R362). -/
def execMboxShutdown (seq : BitVec 8) (s : State) : Host.Outcome State Fault Refusal := .next (s.mboxWrite 8 seq)

/-- MBOX_COMMAND_DONE (R360). -/
def execMboxCommandDone (s : State) : Host.Outcome State Fault Refusal := .next (s.flow State.mboxDone)

/-- SHUTDOWN_LABEL_WAIT_EXPIRE (R362). -/
def execShutdownLabelWaitExpire (s : State) : Host.Outcome State Fault Refusal := .next (s.flow State.shutdownExpire)

/-- TRIAL_TIMEOUT (R364). -/
def execTrialTimeout (s : State) : Host.Outcome State Fault Refusal := .next (s.flow State.trialTimeout)

end Sys2Proof.Machine
end

