-- ==== Sys2Proof/Machine/Dispatch.lean ====
section
/-! DEFINITION. The one dispatch from a command to its meaning. -/

namespace Sys2Proof.Machine

def exec (i : Instr) (s : State) : Host.Outcome State Fault Refusal :=
  match i with
  | .registerWrite port bar2 off v => Sys2Proof.Machine.execRegisterWrite port bar2 off v s
  | .malformedBar0Access isRead => Sys2Proof.Machine.execMalformedBar0Access isRead s
  | .pageEntryWrite page w => Sys2Proof.Machine.execPageEntryWrite page w s
  | .bar4Read off len bad => Sys2Proof.Machine.execBar4Read off len bad s
  | .bar4Write off bytes => Sys2Proof.Machine.execBar4Write off bytes s
  | .bar4Resize size => Sys2Proof.Machine.execBar4Resize size s
  | .retireCmd v => Sys2Proof.Machine.execRetireCmd v s
  | .rcacheInval v => Sys2Proof.Machine.execRcacheInval v s
  | .remoteFillDone page line res => Sys2Proof.Machine.execRemoteFillDone page line res s
  | .zeroFillDone frame => Sys2Proof.Machine.execZeroFillDone frame s
  | .queueCfgWrite q reg v => Sys2Proof.Machine.execQueueCfgWrite q reg v s
  | .doorbell q v => Sys2Proof.Machine.execDoorbell q v s
  | .descFetchDone q res => Sys2Proof.Machine.execDescFetchDone q res s
  | .descNop cage => Sys2Proof.Machine.execDescNop cage s
  | .descCopy cage => Sys2Proof.Machine.execDescCopy cage s
  | .descInflate cage => Sys2Proof.Machine.execDescInflate cage s
  | .descCapture cage => Sys2Proof.Machine.execDescCapture cage s
  | .descFlip cage => Sys2Proof.Machine.execDescFlip cage s
  | .descLabel cage => Sys2Proof.Machine.execDescLabel cage s
  | .descFence cage => Sys2Proof.Machine.execDescFence cage s
  | .hoistBurstDone cage res waits => Sys2Proof.Machine.execHoistBurstDone cage res waits s
  | .transferComplete cage => Sys2Proof.Machine.execTransferComplete cage s
  | .qcmdAbort q => Sys2Proof.Machine.execQcmdAbort q s
  | .qcmdResume q => Sys2Proof.Machine.execQcmdResume q s
  | .qcmdReset q => Sys2Proof.Machine.execQcmdReset q s
  | .chAbort port v => Sys2Proof.Machine.execChAbort port v s
  | .chGo port ch v => Sys2Proof.Machine.execChGo port ch v s
  | .eventRingCfgWrite ring reg v => Sys2Proof.Machine.execEventRingCfgWrite ring reg v s
  | .eventRingHeadWrite ring v => Sys2Proof.Machine.execEventRingHeadWrite ring v s
  | .holdoffExpire ring => Sys2Proof.Machine.execHoldoffExpire ring s
  | .txnOpen => Sys2Proof.Machine.execTxnOpen s
  | .stageWrite slot off v => Sys2Proof.Machine.execStageWrite slot off v s
  | .txnCommit slot v => Sys2Proof.Machine.execTxnCommit slot v s
  | .txnAbort slot v => Sys2Proof.Machine.execTxnAbort slot v s
  | .mergeDone slot => Sys2Proof.Machine.execMergeDone slot s
  | .nowCommitSwitch slot => Sys2Proof.Machine.execNowCommitSwitch slot s
  | .txnExpire slot => Sys2Proof.Machine.execTxnExpire slot s
  | .digestRefreshDone => Sys2Proof.Machine.execDigestRefreshDone s
  | .auditGo v => Sys2Proof.Machine.execAuditGo v s
  | .auditCtrlWrite v => Sys2Proof.Machine.execAuditCtrlWrite v s
  | .auditPeriodic => Sys2Proof.Machine.execAuditPeriodic s
  | .auditRun => Sys2Proof.Machine.execAuditRun s
  | .scanCtrlWrite port v => Sys2Proof.Machine.execScanCtrlWrite port v s
  | .lineStart lateStrips lateUni lateAge meet => Sys2Proof.Machine.execLineStart lateStrips lateUni lateAge meet s
  | .frameLatch => Sys2Proof.Machine.execFrameLatch s
  | .composerReady half => Sys2Proof.Machine.execComposerReady half s
  | .histInvalidateCmd half v => Sys2Proof.Machine.execHistInvalidateCmd half v s
  | .histReadDone half back line strip res => Sys2Proof.Machine.execHistReadDone half back line strip res s
  | .odTableWrite off v => Sys2Proof.Machine.execOdTableWrite off v s
  | .odSeal v => Sys2Proof.Machine.execOdSeal v s
  | .odSealDone => Sys2Proof.Machine.execOdSealDone s
  | .ctxDrop v => Sys2Proof.Machine.execCtxDrop v s
  | .inflateComplete cage input => Sys2Proof.Machine.execInflateComplete cage input s
  | .captureBufferTaken cage => Sys2Proof.Machine.execCaptureBufferTaken cage s
  | .captureEncodeDone cage => Sys2Proof.Machine.execCaptureEncodeDone cage s
  | .uniSeal v => Sys2Proof.Machine.execUniSeal v s
  | .uniSealDone => Sys2Proof.Machine.execUniSealDone s
  | .ckptGo v => Sys2Proof.Machine.execCkptGo v s
  | .ckptPeriodic => Sys2Proof.Machine.execCkptPeriodic s
  | .checkpointDone status => Sys2Proof.Machine.execCheckpointDone status s
  | .ageRestoreDone => Sys2Proof.Machine.execAgeRestoreDone s
  | .trainGo v => Sys2Proof.Machine.execTrainGo v s
  | .trainStop v => Sys2Proof.Machine.execTrainStop v s
  | .laneLock lane => Sys2Proof.Machine.execLaneLock lane s
  | .laneLockTimeout lane => Sys2Proof.Machine.execLaneLockTimeout lane s
  | .laneTestDone lane highs => Sys2Proof.Machine.execLaneTestDone lane highs s
  | .ctlCmdGo v => Sys2Proof.Machine.execCtlCmdGo v s
  | .linkLineStart line => Sys2Proof.Machine.execLinkLineStart line s
  | .nackSample lane level => Sys2Proof.Machine.execNackSample lane level s
  | .linkLoad lane => Sys2Proof.Machine.execLinkLoad lane s
  | .gateForceWrite v => Sys2Proof.Machine.execGateForceWrite v s
  | .panelUp => Sys2Proof.Machine.execPanelUp s
  | .panelDown => Sys2Proof.Machine.execPanelDown s
  | .railReqAck => Sys2Proof.Machine.execRailReqAck s
  | .railReqTimeout miss => Sys2Proof.Machine.execRailReqTimeout miss s
  | .panelSeqTimer => Sys2Proof.Machine.execPanelSeqTimer s
  | .pfwAssert => Sys2Proof.Machine.execPfwAssert s
  | .pfwDeassert => Sys2Proof.Machine.execPfwDeassert s
  | .railLoss drop => Sys2Proof.Machine.execRailLoss drop s
  | .thermConvert ch code => Sys2Proof.Machine.execThermConvert ch code s
  | .keyProgram slot => Sys2Proof.Machine.execKeyProgram slot s
  | .keyErase slot => Sys2Proof.Machine.execKeyErase slot s
  | .keyLock slot => Sys2Proof.Machine.execKeyLock slot s
  | .keyWriteDone => Sys2Proof.Machine.execKeyWriteDone s
  | .assayHideSet v => Sys2Proof.Machine.execAssayHideSet v s
  | .assayPublish => Sys2Proof.Machine.execAssayPublish s
  | .labelLanded cage => Sys2Proof.Machine.execLabelLanded cage s
  | .phaseBoundary pwrgood => Sys2Proof.Machine.execPhaseBoundary pwrgood s
  | .labelPwrTimeout => Sys2Proof.Machine.execLabelPwrTimeout s
  | .labelPwrgoodLost => Sys2Proof.Machine.execLabelPwrgoodLost s
  | .labelPwrHoldExpire => Sys2Proof.Machine.execLabelPwrHoldExpire s
  | .powerReq v => Sys2Proof.Machine.execPowerReq v s
  | .powerFreq v => Sys2Proof.Machine.execPowerFreq v s
  | .blockQuiesceAnswer page => Sys2Proof.Machine.execBlockQuiesceAnswer page s
  | .quiesceTimeout page => Sys2Proof.Machine.execQuiesceTimeout page s
  | .domainGated domain => Sys2Proof.Machine.execDomainGated domain s
  | .domainRailPoll res => Sys2Proof.Machine.execDomainRailPoll res s
  | .domainPllLock domain => Sys2Proof.Machine.execDomainPllLock domain s
  | .domainPllTimeout domain => Sys2Proof.Machine.execDomainPllTimeout domain s
  | .padRelease v => Sys2Proof.Machine.execPadRelease v s
  | .wakeSource n level => Sys2Proof.Machine.execWakeSource n level s
  | .wakeTimerExpire => Sys2Proof.Machine.execWakeTimerExpire s
  | .xtalLost => Sys2Proof.Machine.execXtalLost s
  | .rootLock => Sys2Proof.Machine.execRootLock s
  | .xtalStartTimeout => Sys2Proof.Machine.execXtalStartTimeout s
  | .avsStep up => Sys2Proof.Machine.execAvsStep up s
  | .avsWriteDone res => Sys2Proof.Machine.execAvsWriteDone res s
  | .pmbAlert => Sys2Proof.Machine.execPmbAlert s
  | .marchGo v => Sys2Proof.Machine.execMarchGo v s
  | .canaryRegionTest test => Sys2Proof.Machine.execCanaryRegionTest test s
  | .canaryAbort => Sys2Proof.Machine.execCanaryAbort s
  | .canaryRetry => Sys2Proof.Machine.execCanaryRetry s
  | .scrubPassDone corrected uncorrectable => Sys2Proof.Machine.execScrubPassDone corrected uncorrectable s
  | .maintReqScrub => Sys2Proof.Machine.execMaintReqScrub s
  | .maintReqNandrefresh => Sys2Proof.Machine.execMaintReqNandrefresh s
  | .nandrefreshDue block => Sys2Proof.Machine.execNandrefreshDue block s
  | .maintActivityDone activity res report => Sys2Proof.Machine.execMaintActivityDone activity res report s
  | .pstoreWordWrite => Sys2Proof.Machine.execPstoreWordWrite s
  | .scratchpadWrite off v meet => Sys2Proof.Machine.execScratchpadWrite off v meet s
  | .coldReset bootsel => Sys2Proof.Machine.execColdReset bootsel s
  | .perstAssert => Sys2Proof.Machine.execPerstAssert s
  | .perstDeassert => Sys2Proof.Machine.execPerstDeassert s
  | .hotReset linkDown => Sys2Proof.Machine.execHotReset linkDown s
  | .functionLevelReset => Sys2Proof.Machine.execFunctionLevelReset s
  | .hostResetEnd => Sys2Proof.Machine.execHostResetEnd s
  | .softResetHost v => Sys2Proof.Machine.execSoftResetHost v s
  | .softResetFull v => Sys2Proof.Machine.execSoftResetFull v s
  | .foreWdogExpire => Sys2Proof.Machine.execForeWdogExpire s
  | .blockWdogExpire page => Sys2Proof.Machine.execBlockWdogExpire page s
  | .regParityError off => Sys2Proof.Machine.execRegParityError off s
  | .portTimeout page => Sys2Proof.Machine.execPortTimeout page s
  | .tmonReading temp => Sys2Proof.Machine.execTmonReading temp s
  | .fatalForce v => Sys2Proof.Machine.execFatalForce v s
  | .mboxPing seq => Sys2Proof.Machine.execMboxPing seq s
  | .mboxLoadImage seq => Sys2Proof.Machine.execMboxLoadImage seq s
  | .mboxStage seq => Sys2Proof.Machine.execMboxStage seq s
  | .mboxStoreImage seq => Sys2Proof.Machine.execMboxStoreImage seq s
  | .mboxFwInstall seq => Sys2Proof.Machine.execMboxFwInstall seq s
  | .mboxFwSwitch seq => Sys2Proof.Machine.execMboxFwSwitch seq s
  | .mboxFwConfirm seq => Sys2Proof.Machine.execMboxFwConfirm seq s
  | .mboxShutdown seq => Sys2Proof.Machine.execMboxShutdown seq s
  | .mboxCommandDone => Sys2Proof.Machine.execMboxCommandDone s
  | .trialTimeout => Sys2Proof.Machine.execTrialTimeout s
  | .configRequest isWrite off v => Sys2Proof.Machine.execConfigRequest isWrite off v s
  | .d3hotEntry => Sys2Proof.Machine.execD3hotEntry s
  | .d0Return => Sys2Proof.Machine.execD0Return s
  | .l1Entry sub => Sys2Proof.Machine.execL1Entry sub s
  | .ptmPeriodic => Sys2Proof.Machine.execPtmPeriodic s
  | .ptmNow v => Sys2Proof.Machine.execPtmNow v s
  | .ptmDialogDone l h => Sys2Proof.Machine.execPtmDialogDone l h s
  | .completionTimeout req => Sys2Proof.Machine.execCompletionTimeout req s
  | .poisonedTlp req => Sys2Proof.Machine.execPoisonedTlp req s
  | .clampClr page => Sys2Proof.Machine.execClampClr page s
  | .errClr page => Sys2Proof.Machine.execErrClr page s
  | .intForce page v => Sys2Proof.Machine.execIntForce page v s
  | .vddKeepLoss => Sys2Proof.Machine.execVddKeepLoss s
  | .fullScopeSequenceTimeout => Sys2Proof.Machine.execFullScopeSequenceTimeout s
  | .shutdownLabelWaitExpire => Sys2Proof.Machine.execShutdownLabelWaitExpire s
  | .dramTrainingDone ok => Sys2Proof.Machine.execDramTrainingDone ok s
  | .unexpectedCompletion => Sys2Proof.Machine.execUnexpectedCompletion s
  | .boundaryScanInstruction => Sys2Proof.Machine.execBoundaryScanInstruction s

end Sys2Proof.Machine
end

