-- ==== Sys2Proof/Machine/Idle.lean ====
section
/-! DEFINITION. What happens when no command waits: one cycle of KCLK passes. -/

namespace Sys2Proof.Machine

/-- CHIP.UPTIME counts seconds since COLD (R375, R297). (Log 4: DESIGN CHOICE, safe.) -/
def State.uptimeTick (s : State) : State :=
  if s.secPhase + 1 < 1000 * msCycles then { s with secPhase := s.secPhase + 1 }
  else { s with secPhase := 0 }.bump F.CHIP_UPTIME_SECONDS

/-- LOCAL_TIME counts at 1.2 GHz while ROOT runs (R393). (Log 4: DESIGN CHOICE, safe.) -/
def State.localTick (s : State) : State :=
  if !s.bit F.CLK_STATUS_ROOT_LOCK then s
  else
    let t := s.fld F.PCIEX_LOCAL_TIME_LO_TIME + s.fld F.PCIEX_LOCAL_TIME_HI_TIME * 2 ^ 32 +
      (if s.bit F.CLK_STATUS_ON_RC then 60 else 48)
    (s.setFld F.PCIEX_LOCAL_TIME_LO_TIME t).setFld F.PCIEX_LOCAL_TIME_HI_TIME (t / 2 ^ 32)

/-- PWR.TIMER counts milliseconds down to 1; from there WAKE_TIMER_EXPIRE takes it to 0 (R311).
(Log 4: DESIGN CHOICE, safe; log 96: DEDUCED, safe.) -/
def State.timerTick (s : State) : State :=
  let ms := s.fld F.PWR_TIMER_MS
  if ms < 2 then s
  else if s.power.msPhase + 1 < msCycles then { s with power := { s.power with msPhase := s.power.msPhase + 1 } }
  else { s with power := { s.power with msPhase := 0 } }.setFld F.PWR_TIMER_MS (ms - 1)

/-- KCLK cycles of a pass over the 4,096 frames of device DRAM; where HOURS is 0, those of one hour. (Log 142: DESIGN CHOICE,
unsafe.) -/
def State.scrubCycles (s : State) : Nat := max 1 (s.fld F.DRAMC_SCRUB_HOURS) * 3600000 * msCycles

/-- A running SCRUB goes through the frames at an even rate (R327). (Log 4: DESIGN CHOICE, safe; log 142: DESIGN CHOICE, unsafe.) -/
def State.scrubTick (s : State) : State :=
  if !(s.domOn dSTORE && s.mem.running.any fun m => m.act == 4) then s
  else if s.mem.scrubPhase + 4096 < s.scrubCycles then { s with mem := { s.mem with scrubPhase := s.mem.scrubPhase + 4096 } }
  else
    { s with mem := { s.mem with scrubPhase := s.mem.scrubPhase + 4096 - s.scrubCycles } }.setFld F.DRAMC_SCRUB_POS_FRAME
      (min 4095 (s.fld F.DRAMC_SCRUB_POS_FRAME + 1))

/-- One cycle of KCLK; in COLD none passes (R413). (Log 4: DESIGN CHOICE, safe.) -/
def State.idle (s : State) : State :=
  if s.boot.step = .cold then s
  else
    let s := { s with keepCycles := s.keepCycles + 1 }.uptimeTick
    let s := (s.localTick.timerTick).scrubTick
    if s.domOn dPANEL then s.blTick else s

end Sys2Proof.Machine
end

