-- ==== Sys2Proof/Machine/Step.lean ====
section
/-! DEFINITION. One step of the block: the command at the front of the queue acts on the state with the queue's rest. -/

namespace Sys2Proof.Machine

/-- One step: the front command with the queue's rest, or one idle cycle on an empty queue. (Log 1: DESIGN CHOICE, safe.) -/
def step (s : State) : Host.Outcome State Fault Refusal :=
  match s.pending with
  | [] => .next s.idle
  | c :: rest => exec c { s with pending := rest }

/-- The state with the command that a table word spells put at the front of its queue; unchanged where the word spells
none. (Log 1: DESIGN CHOICE, safe.) -/
def State.withFetchWord (s : State) (nbits w : Nat) : State :=
  match decodeTableWord nbits w with
  | some c => { s with pending := c :: s.pending }
  | none => s

end Sys2Proof.Machine
end

