-- ==== Sys2Proof/Safety.lean ====
section
/-! DEFINITION. What counts as a safe run, and the terms in which statements speak of a command: what it yields, what it
leaves as it was, and when an access of the host is served. -/

namespace Sys2Proof.Machine

/-- The outcome of a command or of a step. -/
abbrev Out1 := Host.Outcome State Fault Refusal

/-- The part goes on: the outcome is a next state. -/
def Goes (o : Out1) : Prop := ∃ s, o = .next s

/-- A run of `k` steps goes on throughout. -/
def SafeFor (k : Nat) (s : State) : Prop := Goes (Sys2Proof.core.run k s)

/-- The outcome is a next state of which `P` holds. -/
def Yields (o : Out1) (P : State → Prop) : Prop := ∃ t, o = .next t ∧ P t

/-- A memory access of the host that targets BAR0 `off` reaches a block that serves it: HOST is ON, no HOST-SIDE reset runs
and STAGE is READY (R392), the function is not in D3hot (R387), the part is not in FATAL (R371), the region is not isolated
(R368), and the block's domain is ON (R382). -/
def State.serves (s : State) (off : Nat) : Bool :=
  s.domOn dHOST && s.memReady && !s.pcie.d3hot && !s.fatal && !s.isolated off && s.domOn (offDomain off)

/-- What follows a command by itself, once its own effect has taken the state from `s` to `u`: wakes that waited for a
request that it ended (R313), then everything that is due (R350, R354, R360, R391). -/
def State.after (s u : State) : State := (State.afterReq s u).goOn

/-- The part runs: it is not in COLD (R413). -/
def State.runs (s : State) : Bool := s.boot.step != .cold

/-! ### What a command leaves as it was -/

/-- Equality up to registers. -/
def SameButRegs (s t : State) : Prop := t = { s with regs := t.regs }

/-- Equality up to what an interrupt or a message of the part changes: registers, what was sent, the PCI Express interface
and the owed summary signal. -/
def SameButSignals (s t : State) : Prop :=
  t = { s with regs := t.regs, sent := t.sent, pcie := t.pcie, summaryOwed := t.summaryOwed }

/-- Equality up to what an event entry changes: the above and the event rings. -/
def SameButEvents (s t : State) : Prop :=
  t = { s with regs := t.regs, sent := t.sent, pcie := t.pcie, summaryOwed := t.summaryOwed, rings := t.rings }

/-- Equality up to registers and the chip clamp log. -/
def SameButLog (s t : State) : Prop := t = { s with regs := t.regs, clampLog := t.clampLog }

/-- Every register outside the listed ones reads as before. -/
def RegsBut (s t : State) (offs : List Nat) : Prop := ∀ k, k ∉ offs → t.rd k = s.rd k

/-- The registers of a page that a clamp report changes, with those of the chip clamp log (R88, R89). -/
def clampRegs (page : Nat) : List Nat :=
  [page * 0x1000 + 0x24, page * 0x1000 + 0x28, page * 0x1000 + 0x2C, page * 0x1000 + 0x30, R.CHIP_CLAMP_LOG_NEXT,
   R.CHIP_CLAMP_LOG_TOTAL]

/-- A register that an interrupt bit, a request on the link or an event entry of ring `r` may change: INT_STATUS of a page,
the link's power state, the ring's context and the count of lost events (R69, R70, R388, R398). -/
def eventReg (r k : Nat) : Bool :=
  (k < 0x100000 && k % 0x1000 == 0x0C) || k == R.PCIEX_LINK_STATUS || k == R.EVT_LOST_TOTAL ||
    (0x140000 + 0x20 * r ≤ k && k < 0x140020 + 0x20 * r)

/-- Every register outside the listed ones and those that events of ring `r` may change reads as before. -/
def RegsButEvents (r : Nat) (s t : State) (offs : List Nat) : Prop :=
  ∀ k, k ∉ offs → eventReg r k = false → t.rd k = s.rd k

/-- The value that a write of an entry combines to: BASE, VOLATILE, PROT, REMOTE and VALID as written, RETIRING as it stands
(R16, R18). -/
def State.combinedEntry (s : State) (p : Nat) (lo hi : Word) : DWord :=
  ((hi ++ lo) &&& entryMask) ||| (s.entry p &&& 0x10#64)

/-! ### What the end of a transaction leaves (R90) -/

/-- `u` is `s` once the transaction of slot `n` has ended with `reason`, before the descriptors that it held complete: the slot
is FREE and empty, LAST_ABORT names it, ABORTS counts it, no other slot changes, and nothing else does but an interrupt bit. -/
def TxnEnded (s u : State) (n reason : Nat) : Prop :=
  u.fld (F.SLOT_STATE_STATE n) = slFREE ∧ u.fld (F.SLOT_STATE_REASON n) = reason ∧ u.token n = s.token n ∧
  u.fld (F.SLOT_WRITES_COUNT n) = 0 ∧ u.fld (F.SLOT_WRITES_CLAMPS n) = 0 ∧ u.fld (F.SLOT_FIRST_CLAMP_OFFSET n) = 0 ∧
  u.fld F.TXN_LAST_ABORT_TOKEN = s.token n ∧ u.fld F.TXN_LAST_ABORT_REASON = reason ∧
  u.fld F.TXN_ABORTS_COUNT = min (s.fld F.TXN_ABORTS_COUNT + 1) (2 ^ 32 - 1) ∧
  u.slot n = SlotHid.init ∧ (∀ m, m ≠ n → u.slot m = s.slot m) ∧
  u.txn.merging = s.txn.merging.filter (· != n) ∧ u.txn.arrived = s.txn.arrived.filter (· != n) ∧
  RegsBut s u [R.SLOT_STATE n, R.SLOT_WRITES n, R.SLOT_FIRST_CLAMP n, R.TXN_LAST_ABORT, R.TXN_ABORTS, 0x1300C] ∧
  u = { s with regs := u.regs, sent := u.sent, pcie := u.pcie, summaryOwed := u.summaryOwed,
               txn := { s.txn with slots := u.txn.slots, merging := u.txn.merging, arrived := u.txn.arrived } }

/-- What then follows: the held descriptors `qs` complete with ABORTED, and TXN_ABORTED is written. -/
def State.endTxn (u : State) (n reason : Nat) (detail : Word) (qs : List Nat) : State :=
  let v := u.each qs State.abortHeld
  v.post F.TXN_EVT_RING_RING 0x0101
    [(6, n), (4, reason), (10, u.token n / 64), (32, detail.toNat), (32, (v.rd R.SCAN_FRAME_SEQ).toNat)]

/-! ### What a power request leaves (R314, R315) -/

/-- `u` is `s` once the power request of `b` has ended with `result` and `done`, before POWER_DONE: no request runs, and both
status registers show it. -/
def ReqEnded (s u : State) (b : ReqBy) (result done : Nat) : Prop :=
  u.bit F.PWR_REQ_STATUS_BUSY = false ∧ u.bit F.PWR_FREQ_STATUS_BUSY = false ∧
  u.fld F.PWR_REQ_STATUS_PHASE = (if b = .port .foreman then s.fld F.PWR_REQ_STATUS_PHASE else 0) ∧
  u.fld F.PWR_FREQ_STATUS_PHASE = (if b = .port .foreman then 0 else s.fld F.PWR_FREQ_STATUS_PHASE) ∧
  u.fld F.PWR_REQ_STATUS_RESULT = (if b = .port .pcie then result else s.fld F.PWR_REQ_STATUS_RESULT) ∧
  u.fld F.PWR_REQ_STATUS_DONE_MASK = (if b = .port .pcie then done else s.fld F.PWR_REQ_STATUS_DONE_MASK) ∧
  u.fld F.PWR_FREQ_STATUS_RESULT = (if b = .port .foreman then result else s.fld F.PWR_FREQ_STATUS_RESULT) ∧
  u.fld F.PWR_FREQ_STATUS_DONE_MASK = (if b = .port .foreman then done else s.fld F.PWR_FREQ_STATUS_DONE_MASK) ∧
  u.fld F.PWR_ENTRIES_COUNT =
    (if result = prDONE then min (s.fld F.PWR_ENTRIES_COUNT + 1) (2 ^ 32 - 1) else s.fld F.PWR_ENTRIES_COUNT) ∧
  u.rd 0x100C = (if result ≤ 2 then s.rd 0x100C ||| BitVec.ofNat 32 (2 ^ result) else s.rd 0x100C) ∧
  RegsBut s u [R.PWR_REQ_STATUS, R.PWR_FREQ_STATUS, R.PWR_ENTRIES, 0x100C] ∧
  u = { s with regs := u.regs, sent := u.sent, pcie := u.pcie, summaryOwed := u.summaryOwed,
               power := { s.power with req := none } }

/-- `u` is `s` once a refusal with a reason, a domain and a page has been recorded (R314); page 0xFF counts nowhere. -/
def RefusalNoted (s u : State) (reason d page : Nat) : Prop :=
  u.fld F.PWR_LAST_REFUSER_PAGE = page ∧ u.fld F.PWR_LAST_REASON_REASON = reason ∧ u.fld F.PWR_LAST_REASON_DOMAIN = d % 16 ∧
  (page ≠ 0xFF → u.fld (hdrFld page 0x3C 0 16) = min (s.fld (hdrFld page 0x3C 0 16) + 1) 65535 ∧
    u.fld (hdrFld page 0x3C 16 16) = s.fld (hdrFld page 0x3C 16 16)) ∧
  RegsBut s u ([R.PWR_LAST_REFUSER, R.PWR_LAST_REASON] ++ if page = 0xFF then [] else [page * 0x1000 + 0x3C]) ∧
  SameButRegs s u

/-! ### Invariants -/

/-- The stores that the part addresses are in canonical form: addresses rise strictly, and no entry equals what an unlisted
address reads as. -/
def State.canonical (s : State) : Bool :=
  SMap.wf resetWord s.regs && SMap.wf dramDefault s.dram && SMap.wf (fun _ => 0) s.surf.pageTab

end Sys2Proof.Machine
end

