-- ==== Sys2Proof/Certificates/Slice0/Obligations.lean ====
section
/-! DEFINITION. The statements about the part, for the provers. A statement about a command says that it yields a next state,
what that state holds, and what it leaves as it was. -/

open Sys2Proof Sys2Proof.Machine

/-! ### The queue of commands, and what every step keeps -/

/-- A step with a command at the front of the queue is that command's effect on the state with the queue's rest. -/
def Obligations.StepRunsFrontCommand : Prop :=
  ∀ (c : Instr) (rest : List Instr) (s : State), step { s with pending := c :: rest } = exec c { s with pending := rest }

/-- A step on an empty queue is one cycle of KCLK (log entry 4, a choice of the model): the count of KEEP cycles rises by one;
while ROOT runs, LOCAL_TIME advances by 48 counts of 1.2 GHz, or by 60 on the RC oscillator (R393); the phases of the seconds,
of the timer, of the backlight and of a running scrub advance, with UPTIME, TIMER and SCRUB_POS (log entries 4 and 142); and
nothing else changes. In COLD nothing happens. -/
def Obligations.IdleStepIsOneKeepCycle : Prop :=
  ∀ s : State, s.pending = [] →
    (s.runs = false → step s = .next s) ∧
    (s.runs = true →
      Yields (step s) fun t =>
        t.keepCycles = s.keepCycles + 1 ∧
        t.localTime % 2 ^ 64 =
          (if s.bit F.CLK_STATUS_ROOT_LOCK then s.localTime + (if s.bit F.CLK_STATUS_ON_RC then 60 else 48)
           else s.localTime) % 2 ^ 64 ∧
        RegsBut s t [R.CHIP_UPTIME, R.PCIEX_LOCAL_TIME_LO, R.PCIEX_LOCAL_TIME_HI, R.PWR_TIMER, R.DRAMC_SCRUB_POS] ∧
        t = { s with keepCycles := t.keepCycles, secPhase := t.secPhase, regs := t.regs,
                     power := { s.power with msPhase := t.power.msPhase },
                     hvd := { s.hvd with blPhase := t.hvd.blPhase },
                     mem := { s.mem with scrubPhase := t.mem.scrubPhase } })

/-- No command changes the queue of waiting commands. -/
def Obligations.ExecKeepsQueue : Prop :=
  ∀ (c : Instr) (s t : State), exec c s = .next t → t.pending = s.pending

/-- Every command of the table has a meaning in every state: none ends in a fault or a refusal. -/
def Obligations.EveryCommandGoesOn : Prop := ∀ (c : Instr) (s : State), Goes (exec c s)

/-- The register file, device DRAM and the page table stay in canonical form through every step. -/
def Obligations.StepKeepsCanonical : Prop :=
  ∀ s t : State, s.canonical = true → step s = .next t → t.canonical = true

/-- The state after COLD is in canonical form, with nothing waiting and nothing sent. -/
def Obligations.ResetIsCanonical : Prop :=
  State.reset.canonical = true ∧ State.reset.pending = [] ∧ State.reset.sent = []

/-- What reset leaves, as the register tables give it: KEEP is ON and every other domain OFF, RESET_CAUSE holds COLD alone,
STAGE is SEQUENCER, the part is not in FATAL, scan does not run, its timing registers hold 8, 40, 16 and 24, BAR4 has its
smallest size, every queue is DISABLED and every ring disabled with THRESHOLD 1, and no generation has been committed. -/
def Obligations.ResetHoldsTableValues : Prop :=
  (∀ d, d ≤ 10 → State.reset.domState d = if d = 0 then 2 else 0) ∧
  State.reset.fld F.CHIP_RESET_CAUSE_CAUSES = 1 ∧ State.reset.fld F.CHIP_BOOT_STATUS_STAGE = 0 ∧
  State.reset.fatal = false ∧ State.reset.bit F.SCAN_CTRL_RUN = false ∧ State.reset.bit F.SCAN_STATUS_RUNNING = false ∧
  State.reset.fld F.SCAN_H_TIMING_H_ACTIVE = 8 ∧ State.reset.fld F.SCAN_H_TIMING_H_TOTAL = 40 ∧
  State.reset.fld F.SCAN_V_TIMING_V_ACTIVE = 16 ∧ State.reset.fld F.SCAN_V_TOTAL_MIN = 24 ∧
  State.reset.fld F.SCAN_V_TOTAL_MAX = 24 ∧ State.reset.fld F.SCAN_COMMIT_GUARD_LINES = 2 ∧
  State.reset.fld F.SCAN_FETCH_LEAD_LINES = 1 ∧ State.reset.fld F.PCIEX_BAR4_SIZE_SIZE = 0 ∧
  State.reset.fld F.CHIP_CONFIG_GEN_GEN = 0 ∧
  (∀ q, q < 8192 → State.reset.qState q = qDISABLED ∧ State.reset.qEnabled q = false) ∧
  (∀ r, r < 64 → State.reset.bit (F.RING_CFG_ENABLE r) = false ∧ State.reset.fld (F.RING_MOD_THRESHOLD r) = 1) ∧
  (∀ n, n < 64 → State.reset.fld (F.SLOT_STATE_STATE n) = slFREE)

/-! ### Registers and accesses of the host -/

/-- The commands of a page's common header (R398): CLAMP_CLR and ERR_CLR set their registers to zero, INT_FORCE sets the bits
of INT_STATUS that the page's block uses; every other register and every store stays.

A write of the host to INT_STATUS or ERR_STATUS of a page clears the bits written as 1 and no other (R3, R398, R400). -/
def Obligations.HeaderAndStatusCommandsAct : Prop :=
  (∀ (s : State) (page : PageIdx), pageUsed page.toNat = true → s.serves (page.toNat * 0x1000) = true →
     (Yields (exec (.clampClr page) s) fun t =>
       (∀ o ∈ [0x24, 0x28, 0x2C, 0x30], t.rd (page.toNat * 0x1000 + o) = 0) ∧
       RegsBut s t ([0x24, 0x28, 0x2C, 0x30].map fun o => page.toNat * 0x1000 + o) ∧ SameButRegs s t) ∧
     (Yields (exec (.errClr page) s) fun t =>
       (∀ o ∈ [0x1C, 0x20], t.rd (page.toNat * 0x1000 + o) = 0) ∧
       RegsBut s t ([0x1C, 0x20].map fun o => page.toNat * 0x1000 + o) ∧ SameButRegs s t) ∧
     ∀ v, Yields (exec (.intForce page v) s) fun t =>
       t.rd (page.toNat * 0x1000 + 0x0C) =
         s.rd (page.toNat * 0x1000 + 0x0C) ||| (v &&& BitVec.ofNat 32 (intBits page.toNat)) ∧
       RegsBut s t [page.toNat * 0x1000 + 0x0C] ∧ SameButSignals s t) ∧
  (∀ (s : State) (page : PageIdx) (v : Word), s.runs = true → pageUsed page.toNat = true →
     s.serves (page.toNat * 0x1000 + 0x0C) = true →
     ∃ u : State, exec (.registerWrite .pcie false (BitVec.ofNat 24 (page.toNat * 0x1000 + 0x0C)) v) s = .next (s.after u) ∧
       u.rd (page.toNat * 0x1000 + 0x0C) = s.rd (page.toNat * 0x1000 + 0x0C) &&& ~~~v ∧
       RegsBut s u [page.toNat * 0x1000 + 0x0C] ∧ SameButRegs s u)

/-- A write of the host to a register whose every writable field is staged (RWS or RWL) changes no register: the word waits
for the next latch, after every word staged before it, in place of an earlier one of the same register (R75).

A register page that R404 does not list is reserved as a whole: a write of the host to any offset of it changes nothing
(R397).

A write of the host to GATE.CTRL: FORCE acts at once; the reserved value 3 is kept, and so is every value while the
panel sequencer owns the field (R233, R249, R88). -/
def Obligations.RegisterWritesFollowTheirClass : Prop :=
  (∀ (s : State) (off : BitVec 24) (v : Word),
     s.runs = true → off.toNat < 0x100000 → off.toNat % 4 = 0 → pageUsed (off.toNat / 0x1000) = true →
     off.toNat % 0x1000 ≠ 0x04 → off.toNat % 0x1000 ≠ 0x14 → (s.commandWrite .pcie off.toNat v).isNone = true →
     hasAcc off.toNat selStaged = true → hasAcc off.toNat selNow = false → hasAcc off.toNat (· == .rw1c) = false →
     s.serves off.toNat = true →
     ∃ u : State, exec (.registerWrite .pcie false off v) s = .next (s.after u) ∧
       u = { s with txn := { s.txn with direct := SMap.erase s.txn.direct off.toNat ++ [(off.toNat, v)] } } ∧
       ∀ k, u.rd k = s.rd k) ∧
  (∀ (s : State) (off : BitVec 24) (v : Word), s.runs = true → off.toNat < 0x100000 → off.toNat % 4 = 0 →
     pageUsed (off.toNat / 0x1000) = false → s.serves 0 = true →
     exec (.registerWrite .pcie false off v) s = .next (s.after s)) ∧
  (∀ (s : State) (v : Word), s.serves R.GATE_CTRL = true →
     Yields (exec (.gateForceWrite v) s) fun t =>
       t.fld F.GATE_CTRL_FORCE =
         (if s.panelOwns || 2 < bitsOf v 4 2 then s.fld F.GATE_CTRL_FORCE else bitsOf v 4 2) ∧
       RegsBut s t (R.GATE_CTRL :: clampRegs 0x42) ∧
       t = { s with regs := t.regs, clampLog := t.clampLog, txn := t.txn })

/-- A malformed access to BAR0, once memory requests are served: both kinds count in CA_COUNT, a read is completed with
Completer Abort, a write is dropped (R382).

A write of the host that meets a block whose domain is not ON is dropped and counted in DOWN_ACCESS; one that comes before
READY or during a HOST-SIDE reset is dropped and counted in UR_COUNT; one to a part in FATAL, other than to CHIP.RESET_CTRL, is
dropped (R371, R382, R392). Shown for the commands that write one register or window and nothing else. -/
def Obligations.UnservedAndMalformedAccesses : Prop :=
  (∀ (s : State) (isRead : Bool), s.domOn dHOST = true → s.memReady = true → s.pcie.d3hot = false →
     Yields (exec (.malformedBar0Access isRead) s) fun t =>
       t.fld F.PCIEX_CA_COUNT_COUNT = min (s.fld F.PCIEX_CA_COUNT_COUNT + 1) (2 ^ 32 - 1) ∧
       (isRead = true → t.sent.head? = some .completerAbort) ∧
       RegsBut s t [R.PCIEX_CA_COUNT] ∧ SameButSignals s t) ∧
  (∀ (s : State) (c : Instr) (off : Nat),
     ((∃ p w, c = .pageEntryWrite p w ∧ off = 0x800000) ∨ (∃ v, c = .retireCmd v ∧ off = R.SURF_RETIRE_CMD) ∨
      (∃ v, c = .rcacheInval v ∧ off = R.SURF_RCACHE_INVAL) ∨ (∃ q r v, c = .queueCfgWrite q r v ∧ off = 0x100000) ∨
      (∃ q v, c = .doorbell q v ∧ off = 0x100000) ∨ (∃ q, c = .qcmdAbort q ∧ off = R.QMGR_QCMD) ∨
      (∃ q, c = .qcmdResume q ∧ off = R.QMGR_QCMD) ∨ (∃ q, c = .qcmdReset q ∧ off = R.QMGR_QCMD) ∨
      (∃ r g v, c = .eventRingCfgWrite r g v ∧ off = 0x140000) ∨ (∃ r v, c = .eventRingHeadWrite r v ∧ off = 0x140000) ∨
      (∃ v, c = .auditGo v ∧ off = R.CHIP_AUDIT_CMD) ∨ (∃ v, c = .odSeal v ∧ off = R.OD_STAGE_CMD) ∨
      (∃ v, c = .ctxDrop v ∧ off = R.CMP_CTX_DROP) ∨ (∃ v, c = .ptmNow v ∧ off = R.PCIEX_PTM_CMD)) →
     s.domOn dHOST = true →
     (s.memReady = false → exec c s = .next (s.bump F.PCIEX_UR_COUNT_COUNT)) ∧
     (s.memReady = true → s.pcie.d3hot = false → s.fatal = true → exec c s = .next s) ∧
     (s.memReady = true → s.pcie.d3hot = false → s.fatal = false → s.isolated off = false →
       s.domOn (offDomain off) = false → exec c s = .next (s.bump F.PCIEX_DOWN_ACCESS_COUNT)))

/-! ### Surface space (02) -/

/-- A write of a lower half outside a transaction is held for the next upper half of the same entry, in place of one held
before; nothing else changes, beyond the LTR message that every write of an entry may bring (R18, R389).

A write that completes an entry whose committed VALID bit is 0 takes effect at once (R19) with the held or the current
lower half (R18): a legal value is committed, and every other entry stays; an illegal one is kept, with one clamp report for
each half that was written (R17, R18, R88). Nothing else changes, beyond the LTR message of R389.

A write that completes an entry whose committed VALID bit is 1 is staged for the next frame latch (R19), with the held
lower half, or that of the write staged before it (R18); every entry reads as before until then, no other staged write
changes, and nothing else does, beyond the LTR message of R389. -/
def Obligations.PageEntryWritesAct : Prop :=
  (∀ (s : State) (p : BitVec 20) (v : Word), s.serves 0x800000 = true →
     ∃ u : State, exec (.pageEntryWrite p (.lower v)) s = .next u.ltrUpdate ∧
       SMap.find? u.surf.heldLo p.toNat = some v ∧
       (∀ q, q ≠ p.toNat → SMap.find? u.surf.heldLo q = SMap.find? s.surf.heldLo q) ∧
       u = { s with surf := { s.surf with heldLo := u.surf.heldLo } }) ∧
  (∀ (s : State) (p : BitVec 20) (w : EntryWrite) (lo hi : Word) (halves : Nat), s.serves 0x800000 = true →
     entryValid (s.entry p.toNat) = false →
     ((∃ v, w = .upper v ∧ hi = v ∧
         lo = (SMap.find? s.surf.heldLo p.toNat).getD ((s.entry p.toNat).truncate 32) ∧
         halves = if (SMap.find? s.surf.heldLo p.toNat).isSome then 2 else 1) ∨
      (∃ v : DWord, w = .both v ∧ lo = v.truncate 32 ∧ hi = (v >>> 32).truncate 32 ∧ halves = 2)) →
     ∃ u : State, exec (.pageEntryWrite p w) s = .next u.ltrUpdate ∧
       u.entry p.toNat =
         (if s.entryLegal (s.combinedEntry p.toNat lo hi) then s.combinedEntry p.toNat lo hi
          else s.entry p.toNat) ∧
       (∀ q, q ≠ p.toNat → u.entry q = s.entry q) ∧
       u.fld (hdrFld 0x14 0x24 0 32) =
         (if s.entryLegal (s.combinedEntry p.toNat lo hi) then s.fld (hdrFld 0x14 0x24 0 32)
          else min (s.fld (hdrFld 0x14 0x24 0 32) + halves) (2 ^ 32 - 1)) ∧
       SMap.find? u.surf.heldLo p.toNat = none ∧
       (∀ q, q ≠ p.toNat → SMap.find? u.surf.heldLo q = SMap.find? s.surf.heldLo q) ∧
       RegsBut s u (clampRegs 0x14) ∧
       u = { s with regs := u.regs, clampLog := u.clampLog,
                    surf := { s.surf with heldLo := u.surf.heldLo, pageTab := u.surf.pageTab } }) ∧
  (∀ (s : State) (p : BitVec 20) (v : Word) (d : DWord), s.serves 0x800000 = true → entryValid (s.entry p.toNat) = true →
     (∃ u : State, exec (.pageEntryWrite p (.upper v)) s = .next u.ltrUpdate ∧
       SMap.find? u.surf.staged p.toNat = some
         (match SMap.find? s.surf.heldLo p.toNat with
          | some l => ⟨some l, true, v⟩
          | none => ⟨(SMap.find? s.surf.staged p.toNat).bind (·.lo), false, v⟩) ∧
       (∀ q, q ≠ p.toNat → SMap.find? u.surf.staged q = SMap.find? s.surf.staged q) ∧
       u = { s with surf := { s.surf with heldLo := SMap.erase s.surf.heldLo p.toNat, staged := u.surf.staged } }) ∧
     ∃ u : State, exec (.pageEntryWrite p (.both d)) s = .next u.ltrUpdate ∧
       SMap.find? u.surf.staged p.toNat = some ⟨some (d.truncate 32), true, (d >>> 32).truncate 32⟩ ∧
       (∀ q, q ≠ p.toNat → SMap.find? u.surf.staged q = SMap.find? s.surf.staged q) ∧
       u = { s with surf := { s.surf with heldLo := SMap.erase s.surf.heldLo p.toNat, staged := u.surf.staged } })

/-- A BAR4 read that meets no uncorrectable block returns the bytes of device DRAM from BASE_FRAME x 2 MiB + offset on, and
zeros from reserved and protected frames, without translation by page entries; an access that reaches a reserved frame counts
in RSVD_ACCESS, one that reaches a protected frame in PROT_READS; no byte of DRAM changes (R22, R23).

A BAR4 write stores every enabled byte at its DRAM address, protected frames included, and drops those that reach a
reserved frame; every other byte of DRAM stays (R22, R23).

An access that goes beyond BAR4's size reaches nothing: a read ends with Unsupported Request, a write changes nothing (the
model's reading, log entry 30).

A new size of BAR4 takes effect at once, and BASE_FRAME is forced down to the new multiple (R22, R383). -/
def Obligations.Bar4AccessesAct : Prop :=
  (∀ (s : State) (o n : Nat), s.domOn dHOST = true → s.memReady = true → s.pcie.d3hot = false →
     s.inBar4 o n = true → s.dramUp = true → Yields (exec (.bar4Read o n none) s) fun t =>
       t.sent.head? = some (.reply ((List.range n).map fun i =>
         if s.rsvdFirst ≤ (s.bar4Addr o + i) / frameBytes || s.frameProtected ((s.bar4Addr o + i) / frameBytes) then 0
         else s.dramByte (s.bar4Addr o + i))) ∧
       t.fld F.SURF_RSVD_ACCESS_COUNT =
         min (s.fld F.SURF_RSVD_ACCESS_COUNT + b2n ((s.bar4Frs o n).any fun f => s.rsvdFirst ≤ f)) (2 ^ 32 - 1) ∧
       t.fld F.SURF_PROT_READS_COUNT =
         min (s.fld F.SURF_PROT_READS_COUNT + b2n ((s.bar4Frs o n).any fun f => f < s.rsvdFirst && s.frameProtected f))
           (2 ^ 32 - 1) ∧
       RegsBut s t [R.SURF_RSVD_ACCESS, R.SURF_PROT_READS, 0x1400C] ∧ SameButSignals s t) ∧
  (∀ (s : State) (o : Nat) (bs : List (Option Byte)), s.domOn dHOST = true → s.memReady = true → s.pcie.d3hot = false →
     s.fatal = false → s.inBar4 o bs.length = true → s.dramUp = true →
     Yields (exec (.bar4Write o bs) s) fun t =>
       (∀ a, t.dramByte a =
         match bs[a - s.bar4Addr o]? with
         | some (some b) => if s.bar4Addr o ≤ a ∧ a / frameBytes < s.rsvdFirst then b else s.dramByte a
         | _ => s.dramByte a) ∧
       RegsBut s t [R.SURF_RSVD_ACCESS] ∧ t = { s with regs := t.regs, dram := t.dram }) ∧
  (∀ (s : State) (o n : Nat) (bad : Option Nat) (bs : List (Option Byte)), s.domOn dHOST = true → s.memReady = true →
     (s.inBar4 o n = false → exec (.bar4Read o n bad) s = .next (s.emit .unsupported)) ∧
     (s.inBar4 o bs.length = false → exec (.bar4Write o bs) s = .next s)) ∧
  (∀ (s : State) (size : BitVec 6), s.domOn dHOST = true → s.memReady = true → 8 ≤ size.toNat → size.toNat ≤ 13 →
     Yields (exec (.bar4Resize size) s) fun t =>
       t.fld F.PCIEX_BAR4_SIZE_SIZE = size.toNat - 8 ∧ t.bar4Frames = 128 * 2 ^ (size.toNat - 8) ∧
       t.fld F.SURF_BAR4_WINDOW_BASE_FRAME =
         s.fld F.SURF_BAR4_WINDOW_BASE_FRAME / (128 * 2 ^ (size.toNat - 8)) * (128 * 2 ^ (size.toNat - 8)) ∧
       RegsBut s t (R.PCIEX_BAR4_SIZE :: R.SURF_BAR4_WINDOW :: clampRegs 0x14) ∧
       t = { s with regs := t.regs, pcie := t.pcie, clampLog := t.clampLog })

/-- A retire command outside a transaction (R34), with STORE ON: with 256 commands pending, RESULT becomes FULL, and no entry
changes. Otherwise RETIRING is set on each named valid page that did not have it, and no other bit of any entry changes;
RESULT is ACCEPTED if no named page was ignored, else PARTIAL; COUNT is clamped, with a report, where it exceeds the last page.
If a page was marked, the command is pending with its cookie; if none was, its fence is written at once, with the COUNT after
the clamp.

RCACHE_INVAL (R28): no cached line of the named page, or with ALL of any page, remains; every line of another page stays
(where the cache's sets are listed in order); a fill of a named page that is in flight will be discarded; nothing else
changes.

A remote fill that is in flight ends (R27, R29). With its data it leaves the fills in flight; it is in the cache
afterwards unless it is to be discarded or RCACHE_EN is 0, and then the cache stays as it was; each fetch in progress that
needs it holds its data. Failed or timed out, it leaves the fills in flight and the cache as it was; late, it stays in flight
as a fill that nothing needs and that is discarded when it comes, or, if nothing needs it, as it was. Each fill that failed,
and each late one that is needed, counts in REMOTE_ERR; one that a fetch needed raises REMOTE_FETCH_ERROR, once per frame.

A zero fill that runs ends (R36): every byte of its frame reads as zero, every other byte of DRAM stays, and the frame's
fill is over. Every retire command that now waits for no page and no fill is pending no longer; its fence is written, unless
a HOST-SIDE reset runs (R38). Nothing else changes. -/
def Obligations.PageAndCacheCommandsAct : Prop :=
  (∀ (s : State) (v : Word), s.serves R.SURF_RETIRE_CMD = true → s.domOn dSTORE = true →
     (256 ≤ s.surf.retires.length →
       Yields (exec (.retireCmd v) s) fun t => t.fld F.SURF_RETIRE_STATUS_RESULT = 2 ∧
         RegsBut s t [R.SURF_RETIRE_STATUS] ∧ SameButRegs s t) ∧
     ∀ (n : Nat) (marked : List Nat), s.surf.retires.length < 256 →
       n = min (bitsOf v 20 12) (2 ^ 20 - bitsOf v 0 20) →
       marked = ((List.range n).map (bitsOf v 0 20 + ·)).filter (fun p => entryValid (s.entry p) && !entryRetiring (s.entry p)) →
       ∃ u : State,
         (∀ p, u.entry p = if p ∈ marked then s.entry p ||| 0x10#64 else s.entry p) ∧
         u.fld F.SURF_RETIRE_STATUS_RESULT = (if marked.length = n then 0 else 1) ∧
         u.fld (hdrFld 0x14 0x24 0 32) =
           (if n = bitsOf v 20 12 then s.fld (hdrFld 0x14 0x24 0 32) else min (s.fld (hdrFld 0x14 0x24 0 32) + 1) (2 ^ 32 - 1)) ∧
         RegsBut s u (R.SURF_RETIRE_STATUS :: clampRegs 0x14) ∧
         u = { s with regs := u.regs, clampLog := u.clampLog,
                      surf := { s.surf with pageTab := u.surf.pageTab, retires := u.surf.retires } } ∧
         (marked ≠ [] → exec (.retireCmd v) s = .next u ∧
           u.surf.retires = s.surf.retires ++
             [⟨bitsOf v 0 20, n, s.rd R.SURF_RETIRE_COOKIE, marked, [], (s.rd R.SCAN_FRAME_SEQ).toNat⟩]) ∧
         (marked = [] → u.surf.retires = s.surf.retires ∧
           exec (.retireCmd v) s =
             .next (u.releaseFence 0 (s.rd R.SURF_RETIRE_COOKIE) (bitsOf v 0 20) n (s.rd R.SCAN_FRAME_SEQ)))) ∧
  (∀ (s : State) (v : Word), s.serves R.SURF_RCACHE_INVAL = true →
     Yields (exec (.rcacheInval v) s) fun t =>
       (∀ p l, bitOf v 31 = true ∨ p = bitsOf v 0 20 → t.rcacheFind p l = none) ∧
       (SMap.sorted s.surf.cache = true → ∀ p l, bitOf v 31 = false → p ≠ bitsOf v 0 20 → t.rcacheFind p l = s.rcacheFind p l) ∧
       t.surf.fills =
         s.surf.fills.map (fun f => if bitOf v 31 || f.page == bitsOf v 0 20 then { f with discard := true } else f) ∧
       t = { s with surf := { s.surf with cache := t.surf.cache, fills := t.surf.fills } }) ∧
  (∀ (s : State) (p : BitVec 20) (l : BitVec 9) (f : Fill),
     s.surf.fills.find? (fun f => f.page == p.toNat && f.line == l.toNat) = some f →
     (∀ bs, Yields (exec (.remoteFillDone p l (.data bs)) s) fun t =>
       t.surf.fills = s.surf.fills.eraseP (fun f => f.page == p.toNat && f.line == l.toNat) ∧
       (f.discard = false → s.bit F.SURF_CTRL_RCACHE_EN = true →
         t.rcacheFind p.toNat l.toNat = some ⟨p.toNat, l.toNat, fitBytes 4096 bs⟩) ∧
       (f.discard = true ∨ s.bit F.SURF_CTRL_RCACHE_EN = false → t.surf.cache = s.surf.cache) ∧
       (∀ k, SMap.find? t.scan.fetch k =
         if k ∈ f.needs.map (·.line) then
           (SMap.find? s.scan.fetch k).map fun g =>
             { g with bufs := g.bufs ++ [(p.toNat * 512 + l.toNat, fitBytes 4096 bs)],
                      missing := g.missing.filter (· != p.toNat * 512 + l.toNat) }
         else SMap.find? s.scan.fetch k) ∧
       t = { s with surf := { s.surf with fills := t.surf.fills, cache := t.surf.cache },
                    scan := { s.scan with fetch := t.scan.fetch } }) ∧
     (f.needs = [] → exec (.remoteFillDone p l .late) s = .next s) ∧
     ∀ (r : FillRes) (c : Nat), (r = .error ∧ c = 1) ∨ (r = .timeout ∧ c = 2) ∨ (r = .late ∧ c = 3 ∧ f.needs ≠ []) →
       ∃ u : State,
         u.surf.fills =
           (if r = .late then s.surf.fills.map fun x => if x = f then { f with needs := [], discard := true } else x
            else s.surf.fills.eraseP (fun f => f.page == p.toNat && f.line == l.toNat)) ∧
         u.fld F.SURF_REMOTE_ERR_COUNT = min (s.fld F.SURF_REMOTE_ERR_COUNT + 1) (2 ^ 32 - 1) ∧
         u.fld F.PCIEX_CPL_TIMEOUTS_COUNT =
           (if r = .timeout then min (s.fld F.PCIEX_CPL_TIMEOUTS_COUNT + 1) (2 ^ 32 - 1) else s.fld F.PCIEX_CPL_TIMEOUTS_COUNT) ∧
         u.surf.remoteRaised = (s.surf.remoteRaised || !f.needs.isEmpty) ∧
         (r ≠ .timeout → u.pcie = s.pcie ∧ u.sent = s.sent) ∧
         RegsBut s u [R.SURF_REMOTE_ERR, R.PCIEX_CPL_TIMEOUTS] ∧
         u = { s with regs := u.regs, pcie := u.pcie, sent := u.sent,
                      surf := { s.surf with fills := u.surf.fills, remoteRaised := u.surf.remoteRaised } } ∧
         exec (.remoteFillDone p l r) s = .next
           (match f.needs with
            | [] => u
            | n :: _ =>
              if s.surf.remoteRaised then u
              else (u.post F.SURF_FENCE_RING_RING 0x0242
                [(1, halfNum n.half), (2, c), (14, n.line), (20, p.toNat), (32, s.frameNo)]).raise 0x14 2)) ∧
  (∀ (s : State) (frame : BitVec 12), frame.toNat ∈ s.surf.zeroing →
     ∃ (u : State) (rs : List RetireCmd),
       rs = s.surf.retires.map (fun c => { c with zeroing := c.zeroing.filter (· != frame.toNat) }) ∧
       (∀ a, u.dramByte a = if a / frameBytes = frame.toNat then 0 else s.dramByte a) ∧
       u = { s with dram := u.dram,
                    surf := { s.surf with zeroing := s.surf.zeroing.filter (· != frame.toNat),
                                          retires := rs.filter fun c => !(c.left.isEmpty && c.zeroing.isEmpty) } } ∧
       exec (.zeroFillDone frame) s = .next
         (u.each (rs.filter fun c => c.left.isEmpty && c.zeroing.isEmpty) fun x c =>
           if x.hostReset then x else x.releaseFence 0 c.cookie c.first c.count (BitVec.ofNat 32 c.frame)))

/-! ### Queues and rings (03) -/

/-- A write of a queue's CFG that sets ENABLE from 0 to 1 sets HEAD and TAIL to 0, CAUSE to 0 and the state to PARKED, and the
queue holds nothing; SIZE_LOG2 is clamped to 4 to 16. Nothing but the queue's own registers, and those of a clamp report,
changes (R42); no other queue does, and no cage, but that a descriptor of the queue that still runs from before it was disabled
is marked as one from before (log entry 129, a choice of the model).

While a queue is enabled, a write to BASE keeps the previous value and is reported; a write of the value held changes
nothing (R42, R88). While it is disabled, the low 12 bits are forced to zero. -/
def Obligations.QueueConfigurationAct : Prop :=
  (∀ (s : State) (q : BitVec 13) (v : Word), s.serves 0x100000 = true → s.qEnabled q.toNat = false → bitOf v 31 = true →
     Yields (exec (.queueCfgWrite q 2 v) s) fun t =>
       t.qEnabled q.toNat = true ∧ t.qState q.toNat = qPARKED ∧ t.qHead q.toNat = 0 ∧
       t.fld (F.QCTX_PTRS_TAIL q.toNat) = 0 ∧ t.fld (F.QCTX_STATE_CAUSE q.toNat) = 0 ∧
       t.fld (F.QCTX_CFG_SIZE_LOG2 q.toNat) = max 4 (min 16 (bitsOf v 0 5)) ∧
       t.qRing q.toNat = bitsOf v 16 6 ∧ (t.queue q.toNat).desc = none ∧ (t.queue q.toNat).reading = false ∧
       (∀ k, k ≠ q.toNat → t.queue k = s.queue k) ∧
       (∀ k, (k < 0x100000 + 0x20 * q.toNat ∨ 0x100020 + 0x20 * q.toNat ≤ k) → k ∉ clampRegs 0x11 → t.rd k = s.rd k) ∧
       t.hoist = (match s.cageOf (.queue q.toNat) with
         | some (n, c) => (s.setCage n { c with home := c.home.map fun w => { w with anew := true } }).hoist
         | none => s.hoist) ∧
       t = { s with regs := t.regs, clampLog := t.clampLog, queues := t.queues, hoist := t.hoist }) ∧
  (∀ (s : State) (q : BitVec 13) (v : Word), s.serves 0x100000 = true →
     (s.qEnabled q.toNat = true →
       Yields (exec (.queueCfgWrite q 0 v) s) fun t =>
         RegsBut s t (clampRegs 0x11) ∧ SameButLog s t ∧
         t.fld (hdrFld 0x11 0x24 0 32) =
           (if v = s.rd (0x100000 + 0x20 * q.toNat) then s.fld (hdrFld 0x11 0x24 0 32)
            else min (s.fld (hdrFld 0x11 0x24 0 32) + 1) (2 ^ 32 - 1))) ∧
     (s.qEnabled q.toNat = false →
       Yields (exec (.queueCfgWrite q 0 v) s) fun t =>
         t.rd (0x100000 + 0x20 * q.toNat) = v &&& 0xFFFFF000#32 ∧
         RegsBut s t ((0x100000 + 0x20 * q.toNat) :: clampRegs 0x11) ∧ SameButLog s t))

/-- A doorbell to a disabled queue is dropped and counted in DB_DROPPED (R43).

A doorbell to an enabled queue sets TAIL from the bits below SIZE_LOG2 (R43). If a read of the descriptor at HEAD is in
flight, the doorbell is noted; if the queue is PARKED, the descriptor at HEAD is read again and the queue is ACTIVE (R52);
otherwise its state stays. The descriptors up to TAIL that R51 allows are read ahead. HEAD, every other queue, and every
register but the queue's PTRS and STATE and the link's power state stay. -/
def Obligations.DoorbellsAct : Prop :=
  (∀ (s : State) (q : BitVec 13) (v : Word), s.serves 0x100000 = true → s.qEnabled q.toNat = false →
     Yields (exec (.doorbell q v) s) fun t =>
       t.fld F.QMGR_DB_DROPPED_COUNT = min (s.fld F.QMGR_DB_DROPPED_COUNT + 1) (2 ^ 32 - 1) ∧
       RegsBut s t [R.QMGR_DB_DROPPED, 0x1100C] ∧ SameButSignals s t) ∧
  (∀ (s : State) (q : BitVec 13) (v : Word), s.serves 0x100000 = true → s.qEnabled q.toNat = true →
     Yields (exec (.doorbell q v) s) fun t =>
       t.fld (F.QCTX_PTRS_TAIL q.toNat) = v.toNat % s.qSize q.toNat % 2 ^ 16 ∧ t.qHead q.toNat = s.qHead q.toNat ∧
       ((s.queue q.toNat).reading = true → (t.queue q.toNat).noted = true ∧ t.qState q.toNat = s.qState q.toNat) ∧
       ((s.queue q.toNat).reading = false → s.qState q.toNat = qPARKED →
         (t.queue q.toNat).reading = true ∧ t.qState q.toNat = qACTIVE) ∧
       ((s.queue q.toNat).reading = false → s.qState q.toNat ≠ qPARKED →
         (t.queue q.toNat).reading = false ∧ t.qState q.toNat = s.qState q.toNat) ∧
       (∀ k, k ≠ q.toNat → t.queue k = s.queue k) ∧
       RegsBut s t [R.QCTX_PTRS q.toNat, R.QCTX_STATE q.toNat, R.PCIEX_LINK_STATUS] ∧
       t = { s with regs := t.regs, queues := t.queues, sent := t.sent, pcie := t.pcie })

/-- A read of the descriptor at HEAD returns, for a queue none of whose older reads is outstanding: with OWN = 0 the queue
parks, or reads the descriptor again if a doorbell was noted (R51, R52); with OWN = 1 it takes the 32 bytes as its descriptor,
reads ahead, and goes on to its event slot or its transaction, from which it is refused where its TOKEN names none (R51, R55,
R60, R69); a failed read takes it to ERROR with CAUSE 1 or 2 (R71). What an older read brings is discarded
(R51, R64). A read of a later descriptor joins those read ahead, unless OWN = 0 or its failure ends them. A timeout is counted. -/
def Obligations.DescriptorReadReturns : Prop :=
  ∀ (s : State) (q : BitVec 13),
    (0 < (s.queue q.toNat).stale → ∀ res, exec (.descFetchDone q res) s =
      .next ((s.noteRead res).setQueue q.toNat { s.queue q.toNat with stale := (s.queue q.toNat).stale - 1 })) ∧
    (∀ h u : QueueHid, h = s.queue q.toNat → u = { h with more := h.more - 1 } → h.stale = 0 → h.reading = false →
      (h.more = 0 → ∀ res, exec (.descFetchDone q res) s = .next (s.noteRead res)) ∧
      (h.more ≠ 0 →
        (∀ bs, (descOf bs).own = true → exec (.descFetchDone q (.data bs)) s =
          .next (s.setQueue q.toNat { u with ahead := h.ahead ++ [descOf bs] })) ∧
        (∀ bs, (descOf bs).own = false → exec (.descFetchDone q (.data bs)) s =
          .next (s.setQueue q.toNat { u with ended := true, more := 0, stale := u.more })) ∧
        (∀ res, (res = .timeout ∨ res = .error) → exec (.descFetchDone q res) s =
          .next ((s.noteRead res).setQueue q.toNat { u with more := 0, stale := u.more })))) ∧
    (∃ u : State, s.noteRead .timeout = u.aerUncorr 14 ∧ s.noteRead .error = s ∧
      u.fld F.PCIEX_CPL_TIMEOUTS_COUNT = min (s.fld F.PCIEX_CPL_TIMEOUTS_COUNT + 1) (2 ^ 32 - 1) ∧
      RegsBut s u [R.PCIEX_CPL_TIMEOUTS] ∧ SameButRegs s u) ∧
    ((s.queue q.toNat).stale = 0 → (s.queue q.toNat).reading = true →
    (∀ bs, (descOf bs).own = false → (s.queue q.toNat).noted = false →
      Yields (exec (.descFetchDone q (.data bs)) s) fun t =>
        t.qState q.toNat = qPARKED ∧ (t.queue q.toNat).reading = false ∧ (∀ k, k ≠ q.toNat → t.queue k = s.queue k) ∧
        RegsBut s t [R.QCTX_STATE q.toNat] ∧ t = { s with regs := t.regs, queues := t.queues }) ∧
    (∀ bs, (descOf bs).own = false → (s.queue q.toNat).noted = true →
      Yields (exec (.descFetchDone q (.data bs)) s) fun t =>
        t.qState q.toNat = qACTIVE ∧ (t.queue q.toNat).reading = true ∧ (t.queue q.toNat).noted = false ∧
        (∀ k, k ≠ q.toNat → t.queue k = s.queue k) ∧ RegsBut s t [R.QCTX_STATE q.toNat, R.PCIEX_LINK_STATUS] ∧
        t = { s with regs := t.regs, queues := t.queues, sent := t.sent, pcie := t.pcie }) ∧
    (∀ bs, (descOf bs).own = true →
      ∃ u w : State, exec (.descFetchDone q (.data bs)) s = .next w.assign ∧
        (u.queue q.toNat).desc = some (descOf bs) ∧ (u.queue q.toNat).reading = false ∧
        (∀ k, k ≠ q.toNat → u.queue k = s.queue k) ∧ RegsBut s u [R.PCIEX_LINK_STATUS] ∧
        u = { s with regs := u.regs, queues := u.queues, sent := u.sent, pcie := u.pcie } ∧
        ((descOf bs).inTxn = false → w = u.grant q.toNat) ∧
        ((descOf bs).inTxn = true →
          match u.holdHead q.toNat (descOf bs) with
          | some x => w = x
          | none => ∃ x, x = u.completeHead q.toNat stREFUSED (descOf bs).len.toNat ∧
              w = if x.bit (F.QCTX_CFG_STOP_ON_ERR q.toNat) then x.halt q.toNat .stop 2 else headGo 8 x q.toNat)) ∧
    (∀ timeout : Bool,
      Yields (exec (.descFetchDone q (if timeout then .timeout else .error)) s) fun t =>
        t.qState q.toNat = qERROR ∧ t.fld (F.QCTX_STATE_CAUSE q.toNat) = (if timeout then 2 else 1) ∧
        t.fld F.QMGR_ERR_QUEUE_QUEUE = q.toNat ∧ (t.queue q.toNat).reading = false ∧
        (∀ k, k ≠ q.toNat → t.queue k = s.queue k) ∧
        RegsButEvents (s.qRing q.toNat) s t [R.QCTX_STATE q.toNat, R.QMGR_ERR_QUEUE, R.PCIEX_CPL_TIMEOUTS] ∧
        t = { s with regs := t.regs, queues := t.queues, rings := t.rings, sent := t.sent, pcie := t.pcie,
                     summaryOwed := t.summaryOwed }))

/-- A transfer that reaches its cage and needs no data completes or is refused there (R46 to R49, R57, R59): a NOP with OK, a
FENCE without WAIT_LATCH with OK, with WAIT_LATCH it waits for a latch, unless one has passed since its release, a COPY of
LENGTH 0 with OK_ZERO; a NOP or FENCE whose address flags R48 does not allow, and a COPY with both flags, with a FIXED_UNIT
above 4 or with a fixed address that its unit does not align, complete with REFUSED_RANGE and RESIDUE = LENGTH. Nothing else
changes. -/
def Obligations.DatalessDescriptorsComplete : Prop :=
  ∀ (s : State) (n : BitVec 5) (c : Cage), s.cage? n.toNat = some c → c.phase = .start →
    (c.desc.ty = 0 →
      Yields (exec (.descNop n) s) fun t =>
        t = s.finish n.toNat c (if c.desc.srcHost || c.desc.dstHost then stREFUSED else stOK)
          (if c.desc.srcHost || c.desc.dstHost then c.desc.len.toNat else 0)) ∧
    (c.desc.ty = 6 →
      ((c.desc.srcHost = true ∨ (c.desc.dst ≠ 0 ∧ c.desc.dstHost = false)) →
        exec (.descFence n) s = .next (s.finish n.toNat c stREFUSED c.desc.len.toNat)) ∧
      (c.desc.srcHost = false → (c.desc.dst = 0 ∨ c.desc.dstHost = true) →
        (c.desc.tflags % 2 = 1 → c.relFrame = s.rd R.SCAN_FRAME_SEQ →
          exec (.descFence n) s = .next (s.setCage n.toNat { c with phase := .waitLatch })) ∧
        ((c.desc.tflags % 2 = 0 ∨ c.relFrame ≠ s.rd R.SCAN_FRAME_SEQ) →
          Yields (exec (.descFence n) s) fun t =>
            t.cage? n.toNat = some { c with phase := .done stOK 0 } ∧
            (∀ m, m ≠ n.toNat → t.cage? m = s.cage? m) ∧
            (c.desc.dst ≠ 0 → s.pcie.d3hot = false →
              t.sent = .hostWrite c.desc.dst.toNat (leBytes 4 c.desc.param.toNat) false false :: s.sent) ∧
            (c.desc.dst = 0 → t.sent = s.sent) ∧ RegsBut s t [R.PCIEX_LINK_STATUS] ∧
            t = { s with regs := t.regs, sent := t.sent, pcie := t.pcie,
                         hoist := { s.hoist with cages := t.hoist.cages } }))) ∧
    (c.desc.ty = 1 → ∀ bad : Bool,
      bad = ((c.desc.srcHost && c.desc.dstHost) || 5 ≤ c.desc.tflags % 8 ||
        (c.desc.srcFixed && c.src % fixedUnit c.desc != 0) || (c.desc.dstFixed && c.dst % fixedUnit c.desc != 0)) →
      (bad = true → exec (.descCopy n) s = .next (s.finish n.toNat c stREFUSED c.desc.len.toNat)) ∧
      (bad = false → c.desc.len = 0 → exec (.descCopy n) s = .next (s.finish n.toNat c stOKZERO 0)))

/-- A COPY that R47, R46 and R57 allow, that is not empty, and that reads a protected local page and writes anywhere but
protected local pages completes with PROTECTED and RESIDUE = LENGTH before any byte moves (R58); of a fixed address, its unit is
what counts. Nothing but its cage changes. Otherwise it goes on to its first burst, with what does not fill a unit left over,
or, with nothing but that, completes with CLAMPED (R57).

One burst of a COPY or of a channel, when its turn has come (R56, R57, R61): its data, from device DRAM or as the host's
read returned them, of a fixed source its unit over and over, are written at its destination; that many bytes less are to
move, both advancing addresses go on by them, BYTES counts them, and the beats lost count in PREEMPTS where ARB_MODE is 0; then
the next burst starts, or the transfer ends (R57, R58, R64). A burst between advancing local addresses leaves at its
destination the bytes of its source and every other byte of DRAM as it was. An address that leads nowhere ends the transfer
with ADDR_FAULT, a failed read of the host with PCIE_ERROR. A burst whose turn it is not does not end (log entry 127, the
model's reading). -/
def Obligations.CopiesMoveAndProtect : Prop :=
  (∀ (s : State) (n : BitVec 5) (c d : Cage) (prot : Bool), s.cage? n.toNat = some c → c.phase = .start → c.desc.ty = 1 →
     (c.desc.srcHost && c.desc.dstHost) = false → c.desc.tflags % 8 < 5 →
     (c.desc.srcFixed = true → c.src % fixedUnit c.desc = 0) → (c.desc.dstFixed = true → c.dst % fixedUnit c.desc = 0) →
     c.desc.len ≠ 0 →
     prot = (!c.desc.srcHost && s.srcProtected c.src (if c.desc.srcFixed then fixedUnit c.desc else c.desc.len.toNat) &&
       (c.desc.dstHost || !s.dstAllProtected c.dst (if c.desc.dstFixed then fixedUnit c.desc else c.desc.len.toNat))) →
     d.rest = (if c.desc.srcFixed || c.desc.dstFixed then c.desc.len.toNat % fixedUnit c.desc else 0) →
     d = { c with rest := d.rest, left := c.desc.len.toNat - d.rest } →
     (prot = true → Yields (exec (.descCopy n) s) fun t =>
       t.cage? n.toNat = some { c with phase := .done stPROTECTED c.desc.len.toNat } ∧
       (∀ m, m ≠ n.toNat → t.cage? m = s.cage? m) ∧ t = { s with hoist := { s.hoist with cages := t.hoist.cages } }) ∧
     (prot = false → d.left = 0 → exec (.descCopy n) s = .next (s.finish n.toNat d stCLAMPED d.rest)) ∧
     (prot = false → d.left ≠ 0 → exec (.descCopy n) s = .next (s.startBurst n.toNat d))) ∧
  (∀ (s : State) (n : BitVec 5) (c : Cage) (res : ReadRes) (lost waits : Nat), s.cage? n.toNat = some c →
     ((s.moves n.toNat c && s.burstTurn n.toNat c) = false → exec (.hoistBurstDone n res ⟨lost, waits⟩) s = .next s) ∧
     (c.phase = .bursts → s.moves n.toNat c = true → s.burstTurn n.toNat c = true →
       ∃ e : State,
         SMap.find? e.hoist.lastBurst (s.cagePrio c) = some n.toNat ∧
         (∀ p, p ≠ s.cagePrio c → SMap.find? e.hoist.lastBurst p = SMap.find? s.hoist.lastBurst p) ∧
         e.fld F.HOIST_PREEMPTS_COUNT =
           (if s.bit F.HOIST_ARB_ARB_MODE then s.fld F.HOIST_PREEMPTS_COUNT
            else min (s.fld F.HOIST_PREEMPTS_COUNT + lost) (2 ^ 32 - 1)) ∧
         RegsBut s e [R.HOIST_PREEMPTS, R.SRAMC_SP_STALLS] ∧
         e = { s with regs := e.regs, hoist := { s.hoist with lastBurst := e.hoist.lastBurst } } ∧
         ((s.burstSrc c = .invalid ∨ s.burstDst c = .invalid) →
           exec (.hoistBurstDone n res ⟨lost, waits⟩) s = .next (e.finish n.toNat c stADDRFAULT (c.left + c.rest))) ∧
         (∀ (a : Nat) (timeout : Bool), s.burstSrc c = .host a → s.burstDst c ≠ .invalid → c.unit = none →
           exec (.hoistBurstDone n (if timeout then .timeout else .error) ⟨lost, waits⟩) s =
             .next ((e.noteRead (if timeout then .timeout else .error)).finish n.toNat c stPCIEERROR (c.left + c.rest))) ∧
         (∀ (data : List Byte) (x : Option (List Byte)) (d : Cage), s.burstSrc c ≠ .invalid → s.burstDst c ≠ .invalid →
           (c.desc.srcFixed = false → x = none ∧
             ((∃ a p, s.burstSrc c = .dram a p ∧ data = s.dramRead a (burstLen c)) ∨
              ∃ a bs, s.burstSrc c = .host a ∧ res = .data bs ∧ data = fitBytes (burstLen c) bs)) →
           (c.desc.srcFixed = true → data.length = burstLen c ∧ ∃ u, x = some u ∧
             (c.unit = some u ∨ c.unit = none ∧ (∃ a p, s.burstSrc c = .dram a p ∧ u = s.dramRead a (fixedUnit c.desc)) ∨
              c.unit = none ∧ ∃ a bs, s.burstSrc c = .host a ∧ res = .data bs ∧ u = fitBytes (fixedUnit c.desc) bs) ∧
             u.length = fixedUnit c.desc ∧
             ∀ i, i < burstLen c → data[i]? = u[(c.unitPhase (fixedUnit c.desc) + i) % fixedUnit c.desc]?) →
           d = { c with src := if c.desc.srcFixed then c.src else c.src + burstLen c,
                        dst := if c.desc.dstFixed then c.dst else c.dst + burstLen c,
                        left := c.left - burstLen c, unit := x } →
           exec (.hoistBurstDone n res ⟨lost, waits⟩) s =
             .next ((((e.burstWrite c data).countBytes (burstLen c)).showChan d).afterBurst n.toNat d) ∧
           (∀ b q, c.desc.dstFixed = false → s.burstDst c = .dram b q → ∀ y, (e.burstWrite c data).dramByte y =
             if b ≤ y then (data[y - b]?).getD (s.dramByte y) else s.dramByte y))) ∧
     (∀ (w : State) (d : Cage),
       (d.left = 0 → w.afterBurst n.toNat d = w.finish n.toNat d (if d.rest = 0 then stOK else stCLAMPED) d.rest) ∧
       (d.left ≠ 0 → d.aborts ≠ [] → w.afterBurst n.toNat d = w.finish n.toNat d stABORTED (d.left + d.rest))))

/-- A transfer that is done leaves its cage: its queue writes it back and goes on, or its channel shows STATUS and RESIDUE;
then the release check is made and the free cage is given on (R35, R54, R60, R63). Of a queue that was neither disabled nor
told to stop meanwhile, the descriptor leaves its place at HEAD, an aborted one counts in ABORTS, what CMP counts is counted,
the descriptor is written back, and the queue goes on from the next (R53, R64, R184).

The order of a write-back (R54): RESIDUE into offset 0x10, then the control word with TYPE and flags as written, STATUS and
OWN = 0; with EVT = 0 and a status below 0x02 no event follows, else the event comes last, with the descriptor's index
(R54, R71). HEAD advances by one, and DONE and DESC_DONE count. Nothing else changes. -/
def Obligations.TransfersWriteBack : Prop :=
  (∀ (s : State) (n : BitVec 5) (c : Cage) (st res : Nat), s.runs = true → s.cage? n.toNat = some c →
     c.phase = .done st res →
     (∀ q, c.owner = .queue q →
       exec (.transferComplete n) s =
         .next (s.after ((s.freeCage n.toNat).queueDone q c st res).releaseCheck.assign) ∧
       (c.home = none → c.aborts = [] → ∃ u : State,
         (s.freeCage n.toNat).queueDone q c st res = (u.writeBack q c.desc st res).queueNext q st ∧
         (u.queue q).desc = none ∧ (u.queue q).incage = false ∧ (∀ k, k ≠ q → u.queue k = s.queue k) ∧
         u.cage? n.toNat = none ∧ (∀ m, m ≠ n.toNat → u.cage? m = s.cage? m) ∧
         u.fld F.HOIST_ABORTS_COUNT =
           (if st = stABORTED then min (s.fld F.HOIST_ABORTS_COUNT + 1) (2 ^ 32 - 1) else s.fld F.HOIST_ABORTS_COUNT) ∧
         RegsBut s u [R.HOIST_ABORTS, 0x1200C, 0x1600C, R.CMP_INFLATES, R.CMP_CAPTURES, R.CMP_OUTPUT_FULLS, R.CMP_FAULTS,
                      R.CMP_AUTH_FAILS] ∧
         u = { s with regs := u.regs, sent := u.sent, pcie := u.pcie, summaryOwed := u.summaryOwed, queues := u.queues,
                      hoist := { s.hoist with cages := u.hoist.cages } })) ∧
     (∀ ch, c.owner = .chan ch →
       exec (.transferComplete n) s = .next (s.after ((s.freeCage n.toNat).chanDone ch st res).releaseCheck.assign))) ∧
  (∀ (s : State) (q : Nat) (d : Desc) (st res : Nat), q < 8192 → s.pcie.d3hot = false → (s.queue q).reserved = false →
     ∃ u : State,
       u.sent =
         .hostWrite (s.qAddr q + 0x1C) (leBytes 4 (d.ctl.toNat % 2 ^ 16 + st * 2 ^ 16)) false false ::
         .hostWrite (s.qAddr q + 0x10) (leBytes 4 res) false false :: s.sent ∧
       u.qHead q = (s.qHead q + 1) % s.qSize q % 2 ^ 16 ∧ u.fld (F.QCTX_PTRS_TAIL q) = s.fld (F.QCTX_PTRS_TAIL q) ∧
       u.fld (F.QCTX_DONE_COUNT q) = min (s.fld (F.QCTX_DONE_COUNT q) + 1) (2 ^ 32 - 1) ∧
       u.fld F.QMGR_DESC_DONE_COUNT = min (s.fld F.QMGR_DESC_DONE_COUNT + 1) (2 ^ 32 - 1) ∧
       (u.queue q).granted = false ∧ (u.queue q).reserved = false ∧ (u.queue q).desc = (s.queue q).desc ∧
       (∀ k, k ≠ q → u.queue k = s.queue k) ∧
       RegsBut s u [R.QCTX_PTRS q, R.QCTX_DONE q, R.QMGR_DESC_DONE, R.PCIEX_LINK_STATUS] ∧
       u = { s with regs := u.regs, sent := u.sent, pcie := u.pcie, queues := u.queues } ∧
       (d.evt = false → st < stABORTED → s.writeBack q d st res = u) ∧
       (d.evt = true ∨ stABORTED ≤ st → s.writeBack q d st res =
         u.postR (s.qRing q) false
           (mkEv 0x0000 [(13, q), (16, s.qHead q), (8, st), (4, d.ty), (16, d.tag), (32, res)])))

/-- QCMD on a queue that the command does not suit is refused with RESULT 2 and reported (R64, R72): any command on a disabled
queue, RESUME on one that is not STOPPED, ABORT on one in ERROR.

QCMD on an enabled queue (R64, R72). While a descriptor of the queue is in a cage, ABORT and RESET abort it there, and
RESULT is PENDING; a queue with none is halted at once: ABORT leaves it STOPPED with CAUSE 1, RESET leaves it PARKED with HEAD
and TAIL 0. With no descriptor at HEAD either, the queue's reads in flight are discarded, QUEUE_STOPPED is written, and no
other queue changes. RESUME of a STOPPED queue reads the descriptor at HEAD, with those it may read ahead, and makes the queue
ACTIVE. ABORT and RESET go on with the assignment of cages. -/
def Obligations.QueueCommandsAct : Prop :=
  (∀ (s : State) (q : BitVec 13), s.serves R.QMGR_QCMD = true →
     ∀ (c : Instr),
       ((c = .qcmdAbort q ∧ (s.qEnabled q.toNat = false ∨ s.qState q.toNat = qERROR)) ∨
        (c = .qcmdResume q ∧ (s.qEnabled q.toNat = false ∨ s.qState q.toNat ≠ qSTOPPED)) ∨
        (c = .qcmdReset q ∧ s.qEnabled q.toNat = false)) →
       Yields (exec c s) fun t =>
         t.fld F.QMGR_QCMD_STATUS_RESULT = 2 ∧ t.fld F.QMGR_QCMD_STATUS_QUEUE = q.toNat ∧
         RegsBut s t (R.QMGR_QCMD_STATUS :: clampRegs 0x11) ∧ SameButLog s t) ∧
  (∀ (s : State) (q : BitVec 13), s.serves R.QMGR_QCMD = true → s.qEnabled q.toNat = true →
     (∃ u : State, u.fld F.QMGR_QCMD_STATUS_QUEUE = q.toNat ∧
       u.fld F.QMGR_QCMD_STATUS_RESULT =
         (match s.cageOf (.queue q.toNat) with | some (_, c) => (if c.home.isNone then 1 else 0) | none => 0) ∧
       RegsBut s u [R.QMGR_QCMD_STATUS] ∧ SameButRegs s u ∧
       (∀ n c, s.cageOf (.queue q.toNat) = some (n, c) → c.home = none →
         (s.qState q.toNat ≠ qERROR → exec (.qcmdAbort q) s = .next (u.abortCage n c .stop 1).assign) ∧
         exec (.qcmdReset q) s = .next (u.abortCage n c .reset 5).assign) ∧
       ((∀ n c, s.cageOf (.queue q.toNat) = some (n, c) → c.home ≠ none) →
         (s.qState q.toNat ≠ qERROR → exec (.qcmdAbort q) s = .next ((u.unhold q.toNat).halt q.toNat .stop 1).assign) ∧
         exec (.qcmdReset q) s = .next ((u.unhold q.toNat).halt q.toNat .reset 5).assign)) ∧
     (∀ (w : State) (k : AbortKind) (r : Nat), (k = .stop ∧ r = 1) ∨ (k = .reset ∧ r = 5) → (w.queue q.toNat).desc = none →
       Yields (.next (w.halt q.toNat k r)) fun t =>
         t.qState q.toNat = (if k = .stop then qSTOPPED else qPARKED) ∧
         t.fld (F.QCTX_STATE_CAUSE q.toNat) = (if k = .stop then 1 else 0) ∧
         (k = .reset → t.qHead q.toNat = 0 ∧ t.fld (F.QCTX_PTRS_TAIL q.toNat) = 0) ∧
         (t.queue q.toNat).reading = false ∧ (t.queue q.toNat).ahead = [] ∧ (t.queue q.toNat).desc = none ∧
         (∀ x, x ≠ q.toNat → t.queue x = w.queue x) ∧
         RegsButEvents (w.qRing q.toNat) w t [R.QCTX_STATE q.toNat, R.QCTX_PTRS q.toNat] ∧
         t = { w with regs := t.regs, sent := t.sent, pcie := t.pcie, summaryOwed := t.summaryOwed, rings := t.rings,
                      queues := t.queues }) ∧
     (s.qState q.toNat = qSTOPPED →
       Yields (exec (.qcmdResume q) s) fun t =>
         t.qState q.toNat = qACTIVE ∧ (t.queue q.toNat).reading = true ∧ t.fld F.QMGR_QCMD_STATUS_RESULT = 0 ∧
         t.fld F.QMGR_QCMD_STATUS_QUEUE = q.toNat ∧
         t.qHead q.toNat = s.qHead q.toNat ∧ (∀ k, k ≠ q.toNat → t.queue k = s.queue k) ∧
         RegsBut s t [R.QMGR_QCMD_STATUS, R.QCTX_STATE q.toNat, R.PCIEX_LINK_STATUS] ∧
         t = { s with regs := t.regs, sent := t.sent, pcie := t.pcie, queues := t.queues }))

/-- GO on an idle, unarmed channel moves the shadow set, SH_CTRL as just written, into the active set, and the transfer takes
the next cage; on a channel whose active set moves, it arms the shadow set; on an armed channel it is kept and reported
(R63). From PCIe, a write to a channel of Foreman changes nothing but the registers of its
report.

CH_ABORT aborts, in channel order, exactly the channels that its port may name, and the free cages are given on; from PCIe
a write that names channels 12 to 15 is reported (R63, R64). -/
def Obligations.ChannelsStartAndAbort : Prop :=
  (∀ (s : State) (port : Port) (ch : BitVec 4) (v : Word),
     ((port = .pcie ∧ s.serves (R.HOIST_CH_SH_CTRL ch.toNat) = true) ∨
      (port = .foreman ∧ s.domOn dFORE = true ∧ s.domOn dHOST = true)) → bitOf v 0 = true →
     ((port = .pcie → ch.toNat < 12) → s.bit (F.HOIST_CH_STATUS_ARMED ch.toNat) = false →
       s.bit (F.HOIST_CH_STATUS_ACTIVE ch.toNat) = true →
       Yields (exec (.chGo port ch v) s) fun t =>
         t.bit (F.HOIST_CH_STATUS_ARMED ch.toNat) = true ∧
         t.bit (F.HOIST_CH_SH_CTRL_SRC_HOST ch.toNat) = bitOf v 1 ∧ t.bit (F.HOIST_CH_SH_CTRL_DST_HOST ch.toNat) = bitOf v 2 ∧
         t.bit (F.HOIST_CH_SH_CTRL_EVT ch.toNat) = bitOf v 3 ∧
         RegsBut s t [R.HOIST_CH_SH_CTRL ch.toNat, R.HOIST_CH_STATUS ch.toNat] ∧ SameButRegs s t) ∧
     ((port = .pcie → ch.toNat < 12) → s.bit (F.HOIST_CH_STATUS_ARMED ch.toNat) = false →
       s.bit (F.HOIST_CH_STATUS_ACTIVE ch.toNat) = false →
       ∃ u : State, exec (.chGo port ch v) s = .next (u.moveShadow ch.toNat).assign ∧
         RegsBut s u [R.HOIST_CH_SH_CTRL ch.toNat] ∧ SameButRegs s u ∧
         u.bit (F.HOIST_CH_SH_CTRL_SRC_HOST ch.toNat) = bitOf v 1 ∧ u.bit (F.HOIST_CH_SH_CTRL_DST_HOST ch.toNat) = bitOf v 2 ∧
         u.bit (F.HOIST_CH_SH_CTRL_EVT ch.toNat) = bitOf v 3) ∧
     ((port = .pcie ∧ 12 ≤ ch.toNat) ∨ s.bit (F.HOIST_CH_STATUS_ARMED ch.toNat) = true →
       Yields (exec (.chGo port ch v) s) fun t => RegsBut s t (clampRegs 0x12) ∧ SameButLog s t)) ∧
  (∀ (s : State) (v : Word), s.runs = true →
     (s.serves R.HOIST_CH_ABORT = true →
       ∃ u : State, exec (.chAbort .pcie v) s =
           .next (s.after (u.each ((List.range 12).filter fun c => bitOf v c) State.abortChan).assign) ∧
         SameButLog s u ∧ (bitsOf v 12 4 = 0 → u = s) ∧ RegsBut s u (clampRegs 0x12)) ∧
     (s.domOn dFORE = true → s.domOn dHOST = true →
       exec (.chAbort .foreman v) s =
         .next (s.after (s.each ((List.range 16).filter fun c => bitOf v c) State.abortChan).assign)))

/-- A write of a ring's CFG that sets ENABLE from 0 to 1 sets HEAD, TAIL and LOST to 0, and the ring holds no event and no
reservation, its first entry having PHASE 1; nothing but the ring's own registers, and those of a clamp report, changes. BASE
is kept while the ring is enabled, and loses its low 12 bits while it is disabled (R69).

A HEAD write to an event ring: the value below the ring's size, else TAIL with a report; then what waited for room goes on:
held events, stalled queues, cages (R69).

The HOLDOFF timer of a ring with unsignalled entries runs out: the vector is signalled, the count restarts and the timer
stops (R70). -/
def Obligations.EventRingsAct : Prop :=
  (∀ (s : State) (r : BitVec 6) (v : Word), s.serves 0x140000 = true →
     (s.bit (F.RING_CFG_ENABLE r.toNat) = false → bitOf v 31 = true →
       Yields (exec (.eventRingCfgWrite r 2 v) s) fun t =>
         t.bit (F.RING_CFG_ENABLE r.toNat) = true ∧ t.fld (F.RING_HEAD_HEAD r.toNat) = 0 ∧
         t.fld (F.RING_TAIL_TAIL r.toNat) = 0 ∧ t.fld (F.RING_LOST_COUNT r.toNat) = 0 ∧
         t.fld (F.RING_HOLD_COUNT r.toNat) = 0 ∧ t.ring r.toNat = RingHid.init ∧
         t.fld (F.RING_CFG_SIZE_LOG2 r.toNat) = max 4 (min 16 (bitsOf v 0 5)) ∧
         t.fld (F.RING_CFG_VECTOR r.toNat) = bitsOf v 16 11 ∧
         (∀ k, k ≠ r.toNat → t.ring k = s.ring k) ∧
         (∀ k, (k < 0x140000 + 0x20 * r.toNat ∨ 0x140020 + 0x20 * r.toNat ≤ k) → k ∉ clampRegs 0x15 → t.rd k = s.rd k) ∧
         t = { s with regs := t.regs, clampLog := t.clampLog, rings := t.rings }) ∧
     (s.bit (F.RING_CFG_ENABLE r.toNat) = false →
       Yields (exec (.eventRingCfgWrite r 0 v) s) fun t =>
         t.rd (0x140000 + 0x20 * r.toNat) = v &&& 0xFFFFF000#32 ∧
         RegsBut s t ((0x140000 + 0x20 * r.toNat) :: clampRegs 0x15) ∧ SameButLog s t) ∧
     (s.bit (F.RING_CFG_ENABLE r.toNat) = true → v ≠ s.rd (0x140000 + 0x20 * r.toNat) →
       Yields (exec (.eventRingCfgWrite r 0 v) s) fun t => RegsBut s t (clampRegs 0x15) ∧ SameButLog s t)) ∧
  (∀ (s : State) (r : BitVec 6) (v : Word), s.serves 0x140000 = true →
     ∃ u : State, exec (.eventRingHeadWrite r v) s = .next (u.roomBack r.toNat).assign ∧
       u.fld (F.RING_HEAD_HEAD r.toNat) =
         (if bitsOf v 0 16 < s.ringSize r.toNat then bitsOf v 0 16 else s.fld (F.RING_TAIL_TAIL r.toNat)) ∧
       RegsBut s u (R.RING_HEAD r.toNat :: clampRegs 0x15) ∧ SameButLog s u) ∧
  (∀ (s : State) (r : BitVec 6), (s.ring r.toNat).timer = true → s.hostUp = true →
     Yields (exec (.holdoffExpire r) s) fun t =>
       (t.ring r.toNat).unsig = 0 ∧ (t.ring r.toNat).timer = false ∧
       (t.ring r.toNat).hold = (s.ring r.toNat).hold ∧ (t.ring r.toNat).phase = (s.ring r.toNat).phase ∧
       t = { s with rings := t.rings, sent := t.sent, pcie := t.pcie })

/-- What an event ring's signal sends (R385): MSI-X enabled and not masked, the message of vector VECTOR; MSI-X disabled and
MSI enabled and not masked, MSI vector VECTOR mod m; neither enabled, nothing. -/
def Obligations.RingSignalsItsVector : Prop :=
  ∀ (s : State) (v : Nat), s.pcie.d3hot = false →
    (s.msixEnabled = true → bitOf (s.cfg 0xB0) 30 = false → bitOf (s.msixWord (4 * v + 3)) 0 = false →
      s.signal v = s.emit (.hostWrite ((s.msixWord (4 * v)).toNat / 4 * 4 + (s.msixWord (4 * v + 1)).toNat * 2 ^ 32)
        (leBytes 4 (s.msixWord (4 * v + 2)).toNat) false false)) ∧
    (s.msixEnabled = false → s.msiEnabled = true → bitOf (s.cfg 0x60) (v % s.msiCount) = false →
      s.signal v = s.emit (.hostWrite ((s.cfg 0x54).toNat / 4 * 4 + (s.cfg 0x58).toNat * 2 ^ 32)
        (leBytes 4 ((s.cfg 0x5C).toNat % 65536 / s.msiCount * s.msiCount + v % s.msiCount)) false false)) ∧
    (s.msixEnabled = false → s.msiEnabled = false → s.signal v = s)

/-! ### Transactions (04) -/

/-- The open command (R77): the lowest FREE slot is OPEN afterwards with its sequence number one higher modulo 1,024, the read
returns OK and its token, and the slot holds nothing; with no FREE slot it returns zero and changes nothing.

A write to STAGE_DATA, with OFFSET in the same 64-bit write or not (R78, R79): to a slot that is not OPEN it is dropped and
counted; to an OPEN slot it is held after the writes held before, and counts in COUNT, and in CLAMPS where it is predicted to be
clamped or kept; the 4,097th makes the slot FAILED with CAPACITY, one whose target has an RWP field with PERSIST_IN_TXN. No
register outside the slot's own changes beyond those counts. The low two bits of OFFSET count as zero (log entry 130, the
model's choice). -/
def Obligations.TransactionsOpenAndStage : Prop :=
  (∀ s : State, s.serves R.TXN_OPEN = true →
     (∀ n, n < 64 → s.fld (F.SLOT_STATE_STATE n) = slFREE →
       (∀ m, m < n → s.fld (F.SLOT_STATE_STATE m) ≠ slFREE) →
       Yields (exec .txnOpen s) fun t =>
         t.fld (F.SLOT_STATE_STATE n) = slOPEN ∧
         t.fld (F.SLOT_STATE_SEQ n) = (s.fld (F.SLOT_STATE_SEQ n) + 1) % 1024 ∧
         t.sent = .reply (leBytes 4 (2 ^ 31 + (s.fld (F.SLOT_STATE_SEQ n) + 1) % 1024 * 64 + n)) :: s.sent ∧
         t.fld (F.SLOT_WRITES_COUNT n) = 0 ∧ t.fld (F.SLOT_WRITES_CLAMPS n) = 0 ∧ t.slot n = SlotHid.init ∧
         (∀ m, m ≠ n → t.slot m = s.slot m) ∧
         (∀ k, (k < 0x150000 + 0x20 * n ∨ 0x150020 + 0x20 * n ≤ k) → t.rd k = s.rd k) ∧
         t = { s with regs := t.regs, sent := t.sent, txn := t.txn }) ∧
     ((∀ n, n < 64 → s.fld (F.SLOT_STATE_STATE n) ≠ slFREE) →
       exec .txnOpen s = .next (s.emit (.reply (leBytes 4 0))))) ∧
  (∀ (s w : State) (n : BitVec 6) (off : Option Word) (v : Word) (a : Nat), s.serves (R.SLOT_STAGE_DATA n.toNat) = true →
     w = (match off with | some o => s.setFld (F.SLOT_STAGE_ADDR_OFFSET n.toNat) o.toNat | none => s) →
     a = w.fld (F.SLOT_STAGE_ADDR_OFFSET n.toNat) / 4 * 4 →
     (s.fld (F.SLOT_STATE_STATE n.toNat) ≠ slOPEN →
       Yields (exec (.stageWrite n off v) s) fun t =>
         t.fld F.TXN_STAGE_DROPPED_COUNT = min (s.fld F.TXN_STAGE_DROPPED_COUNT + 1) (2 ^ 32 - 1) ∧
         RegsBut w t [R.TXN_STAGE_DROPPED, 0x1300C] ∧ SameButSignals s t) ∧
     (s.fld (F.SLOT_STATE_STATE n.toNat) = slOPEN → s.fld (F.SLOT_WRITES_COUNT n.toNat) < 4096 → contentOf a ≠ .persist →
       Yields (exec (.stageWrite n off v) s) fun t =>
         t.slot n.toNat = { s.slot n.toNat with writes := (s.slot n.toNat).writes ++ [⟨a, v⟩] } ∧
         t.fld (F.SLOT_WRITES_COUNT n.toNat) = s.fld (F.SLOT_WRITES_COUNT n.toNat) + 1 ∧
         t.fld (F.SLOT_WRITES_CLAMPS n.toNat) =
           (if w.predictClamp (s.slot n.toNat).writes a v then min (s.fld (F.SLOT_WRITES_CLAMPS n.toNat) + 1) 8191
            else s.fld (F.SLOT_WRITES_CLAMPS n.toNat)) ∧
         (∀ m, m ≠ n.toNat → t.slot m = s.slot m) ∧
         RegsBut w t [R.SLOT_WRITES n.toNat, R.SLOT_FIRST_CLAMP n.toNat] ∧
         t = { s with regs := t.regs, txn := { s.txn with slots := t.txn.slots } }) ∧
     (∀ r, s.fld (F.SLOT_STATE_STATE n.toNat) = slOPEN →
       (s.fld (F.SLOT_WRITES_COUNT n.toNat) = 4096 ∧ r = 4 ∨
        s.fld (F.SLOT_WRITES_COUNT n.toNat) < 4096 ∧ contentOf a = .persist ∧ r = 3) →
       Yields (exec (.stageWrite n off v) s) fun t =>
         t.fld (F.SLOT_STATE_STATE n.toNat) = slFAILED ∧ t.fld (F.SLOT_STATE_REASON n.toNat) = r ∧
         t.slot n.toNat = { s.slot n.toNat with detail := BitVec.ofNat 32 a } ∧ (∀ m, m ≠ n.toNat → t.slot m = s.slot m) ∧
         RegsBut w t [R.SLOT_STATE n.toNat] ∧ t = { s with regs := t.regs, txn := { s.txn with slots := t.txn.slots } }))

/-- A commit (R82) that passes every check is ACCEPTED: the slot is MERGING, after the commits merging before it, and holds what
it held, with the mode and the options of the command; no other slot and no register but its STATE changes; free cages are
given on after it.

The results of a commit that is refused, in the order of R82: a stale token, a mode that the content does not fit, a domain
that is not ON, a target out of range, too many instants; the transaction stays as it was. A commit of a FAILED slot, and a
strict one that a clamp of its writes breaks, end the transaction with RESULT ABORTED (R82, R90). Free cages are given on. -/
def Obligations.CommitsAreAcceptedOrRefused : Prop :=
  (∀ (s : State) (n : BitVec 6) (v : Word), s.serves (R.SLOT_CMD n.toNat) = true → bitsOf v 16 3 = 1 →
     bitsOf v 0 16 = s.token n.toNat → s.fld (F.SLOT_STATE_STATE n.toNat) = slOPEN → bitsOf v 19 2 ≠ 3 →
     s.contentFits n.toNat (bitsOf v 19 2) = true → s.domainDown n.toNat = false →
     (bitsOf v 19 2 ≠ 0 ∨ bitOf v 23 = true ∨ sdiff (s.rd (R.SLOT_TARGET n.toNat)) (s.rd R.SCAN_FRAME_SEQ) ≤ 65535) →
     (s.instants.length < 16 ∨ s.instants.contains
       (s.arrivalInstant n.toNat (bitsOf v 19 2) (bitOf v 23) (s.rd (R.SLOT_TARGET n.toNat))).1 = true) →
     (bitOf v 21 = false ∨ s.fld (F.SLOT_WRITES_CLAMPS n.toNat) = 0) →
     ∃ u : State, exec (.txnCommit n v) s = .next u.assign ∧
       u.fld (F.SLOT_STATE_RESULT n.toNat) = 0 ∧ u.fld (F.SLOT_STATE_STATE n.toNat) = slMERGING ∧
       u.token n.toNat = s.token n.toNat ∧ u.txn.merging = s.txn.merging ++ [n.toNat] ∧
       u.slot n.toNat = { s.slot n.toNat with mode := bitsOf v 19 2, strictLate := bitOf v 22, asap := bitOf v 23,
                                              evt := bitOf v 24, instant := none } ∧
       (∀ m, m ≠ n.toNat → u.slot m = s.slot m) ∧
       RegsBut s u [R.SLOT_STATE n.toNat] ∧
       u = { s with regs := u.regs, txn := { s.txn with slots := u.txn.slots, merging := u.txn.merging } }) ∧
  (∀ (s : State) (n : BitVec 6) (v : Word), s.serves (R.SLOT_CMD n.toNat) = true → bitsOf v 16 3 = 1 →
     (∀ r, (s.fld (F.SLOT_STATE_STATE n.toNat) ≠ slFAILED ∨ bitsOf v 0 16 ≠ s.token n.toNat) →
       (r = if bitsOf v 0 16 ≠ s.token n.toNat ∨ s.fld (F.SLOT_STATE_STATE n.toNat) ≠ slOPEN then 1
         else if bitsOf v 19 2 = 3 ∨ s.contentFits n.toNat (bitsOf v 19 2) = false then 2
         else if s.domainDown n.toNat = true then 3
         else if bitsOf v 19 2 = 0 ∧ bitOf v 23 = false ∧
           65535 < sdiff (s.rd (R.SLOT_TARGET n.toNat)) (s.rd R.SCAN_FRAME_SEQ) then 4
         else if 16 ≤ s.instants.length ∧ s.instants.contains
           (s.arrivalInstant n.toNat (bitsOf v 19 2) (bitOf v 23) (s.rd (R.SLOT_TARGET n.toNat))).1 = false then 5
         else 0) →
       (r ≠ 0 → exec (.txnCommit n v) s = .next (s.setFld (F.SLOT_STATE_RESULT n.toNat) r).assign) ∧
       (r = 0 → bitOf v 21 = true → s.fld (F.SLOT_WRITES_CLAMPS n.toNat) ≠ 0 →
         ∃ u : State, TxnEnded s u n.toNat 2 ∧ exec (.txnCommit n v) s =
           .next ((u.endTxn n.toNat 2 (BitVec.ofNat 32 (s.fld (F.SLOT_FIRST_CLAMP_OFFSET n.toNat)))
             ((s.slot n.toNat).held ++ (s.slot n.toNat).heldFailed)).setFld (F.SLOT_STATE_RESULT n.toNat) 6).assign)) ∧
     (s.fld (F.SLOT_STATE_STATE n.toNat) = slFAILED → bitsOf v 0 16 = s.token n.toNat →
       ∃ u : State, TxnEnded s u n.toNat (s.fld (F.SLOT_STATE_REASON n.toNat)) ∧ exec (.txnCommit n v) s =
         .next ((u.endTxn n.toNat (s.fld (F.SLOT_STATE_REASON n.toNat)) (s.slot n.toNat).detail
           ((s.slot n.toNat).held ++ (s.slot n.toNat).heldFailed)).setFld (F.SLOT_STATE_RESULT n.toNat) 6).assign))

/-- An abort command whose token matches a slot that is OPEN or FAILED ends its transaction with ABORT_CMD and RESULT ABORTED:
the descriptors that it held complete, and TXN_ABORTED is written; any other is STALE_TOKEN and changes nothing else. Free
cages are given on (R82, R90).

A transaction that is still OPEN or FAILED at its last latch expires (R90): it aborts with EXPIRED, its held descriptors
complete and TXN_ABORTED is written; before that, and for a slot that is neither, the happening does nothing. -/
def Obligations.TransactionsEndEarly : Prop :=
  (∀ (s : State) (n : BitVec 6) (v : Word), s.serves (R.SLOT_CMD n.toNat) = true → bitsOf v 16 3 = 2 →
     (bitsOf v 0 16 = s.token n.toNat → s.slotOpen n.toNat = true →
       ∃ u : State, TxnEnded s u n.toNat 7 ∧ exec (.txnAbort n v) s =
         .next ((u.endTxn n.toNat 7 0 ((s.slot n.toNat).held ++ (s.slot n.toNat).heldFailed)).setFld
           (F.SLOT_STATE_RESULT n.toNat) 6).assign) ∧
     ((bitsOf v 0 16 ≠ s.token n.toNat ∨ s.slotOpen n.toNat = false) →
       exec (.txnAbort n v) s = .next (s.setFld (F.SLOT_STATE_RESULT n.toNat) 1).assign)) ∧
  (∀ (s : State) (n : BitVec 6),
     (s.slotOpen n.toNat = true → s.fld F.TXN_EXPIRY_FRAMES ≤ (s.slot n.toNat).age →
       ∃ u : State, TxnEnded s u n.toNat 6 ∧ exec (.txnExpire n) s =
         .next (u.endTxn n.toNat 6 (s.rd R.SCAN_FRAME_SEQ) ((s.slot n.toNat).held ++ (s.slot n.toNat).heldFailed)).assign) ∧
     ((s.slotOpen n.toNat = false ∨ (s.slot n.toNat).age < s.fld F.TXN_EXPIRY_FRAMES) → exec (.txnExpire n) s = .next s))

/-- The oldest merging commit arrives (R83): neither strictly late nor in conflict, its slot is PENDING, after those that
arrived before it, with its instant and LATE, and a late one is reported (R85); a strictly late one aborts with LATE, one in
conflict with CONFLICT (R87). Another than the oldest does nothing. Free cages are given on.

A commit that waits for its NOW instant switches (R81, R86): it and the NOW commits that arrived before it take effect, one
after the other in the order of their arrival (log entry 45, the model's choice), alone if no other waits; then an LTR message
may follow, and scan starts if RUN was set. A slot that holds no such commit leaves the part as it was.

A commit that takes effect, holding no descriptor, no flip and no write (R83, R86, R94): its slot is FREE and empty, COMMITS
counts it, and LATE too if it was late, the generation advances by one, and the digests are due; nothing else changes. -/
def Obligations.CommitsTakeEffect : Prop :=
  (∀ (s : State) (n : BitVec 6) (i : Instant) (late : Bool), s.runs = true →
     s.arrivalInstant n.toNat (s.slot n.toNat).mode (s.slot n.toNat).asap (s.rd (R.SLOT_TARGET n.toNat)) = (i, late) →
     (s.txn.merging.head? = some n.toNat → ((s.slot n.toNat).strictLate = false ∨ late = false) →
       s.conflictWith n.toNat i = none →
       ∃ u : State,
         u.fld (F.SLOT_STATE_STATE n.toNat) = slPENDING ∧ u.bit (F.SLOT_STATE_LATE n.toNat) = late ∧
         u.token n.toNat = s.token n.toNat ∧
         u.txn.merging = s.txn.merging.drop 1 ∧ u.txn.arrived = s.txn.arrived ++ [n.toNat] ∧
         u.slot n.toNat = { s.slot n.toNat with instant := some i } ∧ (∀ m, m ≠ n.toNat → u.slot m = s.slot m) ∧
         RegsBut s u [R.SLOT_STATE n.toNat] ∧
         u = { s with regs := u.regs, txn := { s.txn with slots := u.txn.slots, merging := u.txn.merging,
                                                          arrived := u.txn.arrived } } ∧
         exec (.mergeDone n) s = .next (s.after
           (if late then
              (u.raise 0x13 0).post F.TXN_EVT_RING_RING 0x0102
                [(6, n.toNat), (10, s.token n.toNat / 64), (32, (s.rd (R.SLOT_TARGET n.toNat)).toNat),
                 (32, (s.instantFrame i).toNat)]
            else u).assign)) ∧
     (s.txn.merging.head? = some n.toNat → (s.slot n.toNat).strictLate = true → late = true →
       ∃ u : State, TxnEnded s u n.toNat 5 ∧ exec (.mergeDone n) s = .next (s.after
         (u.endTxn n.toNat 5 (s.instantFrame i) ((s.slot n.toNat).held ++ (s.slot n.toNat).heldFailed)).assign)) ∧
     (∀ o, s.txn.merging.head? = some n.toNat → ((s.slot n.toNat).strictLate = false ∨ late = false) →
       s.conflictWith n.toNat i = some o →
       ∃ u : State, TxnEnded s u n.toNat 1 ∧ exec (.mergeDone n) s = .next (s.after
         (u.endTxn n.toNat 1 (BitVec.ofNat 32 o) ((s.slot n.toNat).held ++ (s.slot n.toNat).heldFailed)).assign)) ∧
     (s.txn.merging.head? ≠ some n.toNat → exec (.mergeDone n) s = .next (s.after s.assign))) ∧
  (∀ (s : State) (n : BitVec 6),
     (s.fld (F.SLOT_STATE_STATE n.toNat) = slPENDING → (s.slot n.toNat).instant = some (.now n.toNat) →
       exec (.nowCommitSwitch n) s =
         .next ((s.each (s.nowUpTo n.toNat) fun s m => s.applyCommits [m] [] fun s _ => s).ltrUpdate).scanRun ∧
       ((∀ m ∈ s.nowWaiting, m = n.toNat) → s.nowUpTo n.toNat = [n.toNat])) ∧
     ((s.fld (F.SLOT_STATE_STATE n.toNat) ≠ slPENDING ∨ (s.slot n.toNat).instant ≠ some (.now n.toNat)) →
       exec (.nowCommitSwitch n) s = .next s.scanRun)) ∧
  (∀ (s : State) (n : Nat), n < 64 → (s.slot n).writes = [] → (s.slot n).held = [] → (s.slot n).flips = [] →
     (s.slot n).evt = false →
     (s.applyCommit n []).fld (F.SLOT_STATE_STATE n) = slFREE ∧
     (s.applyCommit n []).fld (F.SLOT_WRITES_COUNT n) = 0 ∧ (s.applyCommit n []).fld (F.SLOT_WRITES_CLAMPS n) = 0 ∧
     (s.applyCommit n []).fld F.TXN_COMMITS_COUNT = min (s.fld F.TXN_COMMITS_COUNT + 1) (2 ^ 32 - 1) ∧
     (s.applyCommit n []).fld F.TXN_LATE_COUNT =
       min (s.fld F.TXN_LATE_COUNT + b2n (s.bit (F.SLOT_STATE_LATE n))) (2 ^ 32 - 1) ∧
     (s.applyCommit n []).fld F.CHIP_CONFIG_GEN_GEN = (s.fld F.CHIP_CONFIG_GEN_GEN + 1) % 2 ^ 32 ∧
     (s.applyCommit n []).fld (F.SLOT_APPLIED_FRAME_FRAME n) = (s.rd R.SCAN_FRAME_SEQ).toNat ∧
     (s.applyCommit n []).fld F.CHIP_DIGEST_STATUS_BUSY = 1 ∧ (s.applyCommit n []).slot n = SlotHid.init ∧
     (∀ m, m ≠ n → (s.applyCommit n []).slot m = s.slot m) ∧
     (s.applyCommit n []).txn.arrived = s.txn.arrived.filter (· != n) ∧
     RegsBut s (s.applyCommit n []) [R.SLOT_STATE n, R.SLOT_WRITES n, R.SLOT_FIRST_CLAMP n, R.SLOT_APPLIED_FRAME n,
       R.TXN_COMMITS, R.TXN_LATE, R.CHIP_CONFIG_GEN, R.CHIP_DIGEST_STATUS] ∧
     s.applyCommit n [] = { s with
       regs := (s.applyCommit n []).regs
       txn := { s.txn with slots := (s.applyCommit n []).txn.slots, arrived := (s.applyCommit n []).txn.arrived } })

/-! ### Digests and audits (04) -/

/-- The digests are refreshed once (R95 to R97): the digest of every page whose domain is ON is that of its registers as they
stand, every other page keeps the one it has; the digests of the regions and of the configuration are made of them;
DIGEST_GEN is the generation, and BUSY is 0. Nothing else changes; with BUSY 0 nothing does.

Audits (R99): AUDIT_CMD with GO and the periodic call set BUSY; while BUSY is 1 and the digests cover the generation, the
audit runs: it ends BUSY with RESULT 3 where PERS_AUDIT holds no record; against the newest record, each region whose digest
differs is named in REGIONS, and RESULT is 1 where all of them and the configuration's digest agree, else 2, with an event.
AUDIT_CTRL sets PERIOD and restarts the count of latches. Nothing else changes. -/
def Obligations.DigestsAndAuditsAct : Prop :=
  (∀ s : State,
     (s.bit F.CHIP_DIGEST_STATUS_BUSY = false → exec .digestRefreshDone s = .next s) ∧
     (s.bit F.CHIP_DIGEST_STATUS_BUSY = true →
     Yields (exec .digestRefreshDone s) fun t =>
       (∀ p ∈ pageList, t.rd (p * 0x1000 + 0x34) =
         if s.domOn (pageDomain p) then digestOf p fun o => s.rd (p * 0x1000 + o) else s.rd (p * 0x1000 + 0x34)) ∧
       (∀ n, n < 6 → t.rd (R.CHIP_REGION_DIGESTn n) =
         crc32c (wordBytes ((pageList.filter fun p => pageRegion p == n).map fun p => t.rd (p * 0x1000 + 0x34)))) ∧
       t.rd R.CHIP_CONFIG_DIGEST = crc32c (wordBytes ([t.rd 0x34, t.rd 0x20034] ++
         (List.range 6).map fun n => t.rd (R.CHIP_REGION_DIGESTn n))) ∧
       t.bit F.CHIP_DIGEST_STATUS_BUSY = false ∧ t.fld F.CHIP_DIGEST_GEN_GEN = s.fld F.CHIP_CONFIG_GEN_GEN ∧
       RegsBut s t (pageList.map (fun p => p * 0x1000 + 0x34) ++ (List.range 6).map R.CHIP_REGION_DIGESTn ++
         [R.CHIP_CONFIG_DIGEST, R.CHIP_DIGEST_GEN, R.CHIP_DIGEST_STATUS]) ∧ SameButRegs s t)) ∧
  (∀ s : State,
     (∀ v, s.serves R.CHIP_AUDIT_CMD = true →
       Yields (exec (.auditGo v) s) fun t =>
         t.bit F.CHIP_AUDIT_STATUS_BUSY = (s.bit F.CHIP_AUDIT_STATUS_BUSY || bitOf v 0) ∧
         RegsBut s t [R.CHIP_AUDIT_STATUS] ∧ SameButRegs s t) ∧
     (s.txn.auditDue = true →
       Yields (exec .auditPeriodic s) fun t =>
         t.bit F.CHIP_AUDIT_STATUS_BUSY = true ∧ RegsBut s t [R.CHIP_AUDIT_STATUS] ∧
         t = { s with regs := t.regs, txn := { s.txn with auditDue := false } }) ∧
     (s.bit F.CHIP_AUDIT_STATUS_BUSY = true → s.bit F.CHIP_DIGEST_STATUS_BUSY = false →
       s.fld F.CHIP_DIGEST_GEN_GEN = s.fld F.CHIP_CONFIG_GEN_GEN →
       (s.auditNewest = none →
         Yields (exec .auditRun s) fun t =>
           t.bit F.CHIP_AUDIT_STATUS_BUSY = false ∧ t.fld F.CHIP_AUDIT_STATUS_RESULT = 3 ∧
           t.fld F.CHIP_AUDIT_STATUS_REGIONS = 0 ∧ RegsBut s t [R.CHIP_AUDIT_STATUS] ∧ SameButRegs s t) ∧
       (∀ r, s.auditNewest = some r →
         Yields (exec .auditRun s) fun t =>
           t.bit F.CHIP_AUDIT_STATUS_BUSY = false ∧
           (∀ n, n < 6 → bitOf (BitVec.ofNat 32 (t.fld F.CHIP_AUDIT_STATUS_REGIONS)) n =
             decide (s.rd (R.CHIP_REGION_DIGESTn n) ≠ r.getD (2 + n) 0)) ∧
           t.fld F.CHIP_AUDIT_STATUS_RESULT =
             (if s.rd R.CHIP_CONFIG_DIGEST = r.getD 1 0 ∧
                 ((List.range 6).all fun n => s.rd (R.CHIP_REGION_DIGESTn n) == r.getD (2 + n) 0) = true then 1 else 2) ∧
           RegsButEvents (s.fld F.CHIP_AUDIT_EVT_RING) s t [R.CHIP_AUDIT_STATUS] ∧ SameButEvents s t)) ∧
     (∀ v, s.serves R.CHIP_AUDIT_CTRL = true →
       Yields (exec (.auditCtrlWrite v) s) fun t =>
         t.fld F.CHIP_AUDIT_CTRL_PERIOD = bitsOf v F.CHIP_AUDIT_CTRL_PERIOD.lo F.CHIP_AUDIT_CTRL_PERIOD.w ∧
         t.txn.auditCount = 0 ∧ RegsBut s t [R.CHIP_AUDIT_CTRL] ∧
         t = { s with regs := t.regs, txn := { s.txn with auditCount := 0 } }))

/-! ### Scan, history and overdrive (05, 06) -/

/-- A write of SCAN.CTRL by either port: RUN changes at once, VRR waits for the next latch (R75, R125). Set while scan does not
run and ROOT is locked, RUN starts scan with a latch, after the NOW commits that wait (log entry 45, the model's choice);
set while scan runs, or without ROOT, it starts none. Cleared while scan runs, scan stops at once: it runs no more, what was
fetched ahead is dropped, the link sends no more blocks, and the crystal may sleep (R231, R300).

The next line begins (R104), while scan runs, ROOT is locked and the scanned line is not the last of its frame, else nothing
does: the NOW commits that wait switch first (log entry 45, the model's choice); after an active line comes the next active
line, in the blanking whose end has come line 0, else the next blanking line, in which reads of memory may meet errors. Free
cages are given on. A blanking line that fixes nothing, fetches nothing, reports nothing and meets no error changes nothing but
its number, the counts of lines, the cycles of aging and the lines of the link.

The end of the blanking (R105, R108), decided at each of its lines with the guard of the moment before its commits: in
fixed-frame mode it comes at V_TOTAL.MAX − V_ACTIVE; in variable-frame mode, once a commit has been applied in the frame and the
guard reaches the shortest blanking, after the guard, within the shortest and the longest blanking; else, once the guard reaches
the longest, there, and the frame is repeated. Once fixed, it stays. -/
def Obligations.ScanRunsLineByLine : Prop :=
  (∀ (s : State) (port : Port) (v : Word),
     ((port = .pcie ∧ s.serves R.SCAN_CTRL = true) ∨ (port = .foreman ∧ s.domOn dFORE = true ∧ s.domOn dKEEP = true)) →
     ∃ u : State,
       u.bit F.SCAN_CTRL_RUN = bitOf v 0 ∧ u.bit F.SCAN_CTRL_VRR = s.bit F.SCAN_CTRL_VRR ∧
       SMap.find? u.txn.direct R.SCAN_CTRL = some v ∧
       (∀ o, o ≠ R.SCAN_CTRL → SMap.find? u.txn.direct o = SMap.find? s.txn.direct o) ∧ RegsBut s u [R.SCAN_CTRL] ∧
       u = { s with regs := u.regs, txn := { s.txn with direct := u.txn.direct } } ∧
       (bitOf v 0 = true → (s.bit F.SCAN_STATUS_RUNNING = true ∨ s.bit F.CLK_STATUS_ROOT_LOCK = false) →
         exec (.scanCtrlWrite port v) s = .next u) ∧
       (bitOf v 0 = true → s.bit F.SCAN_STATUS_RUNNING = false → s.bit F.CLK_STATUS_ROOT_LOCK = true →
         (s.nowWaiting = [] → exec (.scanCtrlWrite port v) s = .next (u.frameLatchAt true).assign) ∧
         (s.nowWaiting ≠ [] → exec (.scanCtrlWrite port v) s =
           .next (if (u.switchAll u.nowWaiting).bit F.SCAN_CTRL_RUN then ((u.switchAll u.nowWaiting).frameLatchAt true).assign
                  else u.switchAll u.nowWaiting))) ∧
       (bitOf v 0 = false → s.bit F.SCAN_STATUS_RUNNING = false → exec (.scanCtrlWrite port v) s = .next u) ∧
       (bitOf v 0 = false → s.bit F.SCAN_STATUS_RUNNING = true → ∃ w : State,
         exec (.scanCtrlWrite port v) s = .next w.linkStop.sleepCheck ∧
         w.bit F.SCAN_STATUS_RUNNING = false ∧ w.bit F.SCAN_STATUS_STRETCH = false ∧ w.scan.fetch = [] ∧
         w.scan.flips = s.scan.flips ∧ w.scan.lines = 0 ∧ RegsBut u w [R.SCAN_STATUS] ∧
         w.surf.fills = s.surf.fills.map (fun f => { f with needs := [] }) ∧
         w = { u with regs := w.regs, scan := w.scan, surf := { s.surf with fills := w.surf.fills, lost := [] } })) ∧
  (∀ (s : State) (ls lu la sk : List LateWord) (us : List Upset),
     ((s.bit F.SCAN_STATUS_RUNNING && s.bit F.CLK_STATUS_ROOT_LOCK && !s.lastLine) = false →
       exec (.lineStart ls lu la ⟨sk, us⟩) s = .next s.assign) ∧
     (s.bit F.SCAN_STATUS_RUNNING = true → s.bit F.CLK_STATUS_ROOT_LOCK = true → s.lastLine = false → ∃ w : State,
       w = (if s.nowWaiting = [] then s else s.switchAll s.nowWaiting) ∧
       (w.bit F.SCAN_STATUS_RUNNING = false → exec (.lineStart ls lu la ⟨sk, us⟩) s = .next w.assign) ∧
       (w.bit F.SCAN_STATUS_RUNNING = true → w.fld F.SCAN_LINE_SCAN_LINE < w.fld F.SCAN_V_TIMING_V_ACTIVE →
         exec (.lineStart ls lu la ⟨sk, us⟩) s = .next (w.nextActive (w.fld F.SCAN_LINE_SCAN_LINE + 1) ls lu la sk us).assign) ∧
       (w.bit F.SCAN_STATUS_RUNNING = true → w.fld F.SCAN_V_TIMING_V_ACTIVE ≤ w.fld F.SCAN_LINE_SCAN_LINE →
         (w.scan.endFixed = true → w.scan.e ≤ w.scan.k + 1 →
           exec (.lineStart ls lu la ⟨sk, us⟩) s = .next (w.nextActive 0 ls lu la sk us).assign) ∧
         ((w.scan.endFixed = false ∨ w.scan.k + 1 < w.scan.e) →
           exec (.lineStart ls lu la ⟨sk, us⟩) s =
             .next ((us.foldl State.upset (w.nextBlanking, ⟨[], [], [], []⟩)).1).assign))) ∧
     (s.scan.endFixed = true → s.scan.k + 1 + s.fld F.SCAN_FETCH_LEAD_LINES < s.scan.e → s.bit F.SCAN_STATUS_RUNNING = true →
       s.fld F.SCAN_V_TIMING_V_ACTIVE + s.scan.k + 1 < 2 ^ 15 → s.bit F.SCAN_LINE_EVT_EN = false →
       Yields (.next s.nextBlanking) fun t =>
         t.scan = { s.scan with k := s.scan.k + 1, lines := s.scan.lines + 1 } ∧
         t.fld F.SCAN_LINE_SCAN_LINE = s.fld F.SCAN_V_TIMING_V_ACTIVE + s.scan.k + 1 ∧
         t.bit F.SCAN_STATUS_STRETCH = false ∧
         t.age = { s.age with cycles := s.age.cycles + (if s.ageActive then s.fld F.SCAN_H_TIMING_H_TOTAL else 0) } ∧
         (s.domOn dLINK = false → t.link = s.link) ∧ (∃ l, s.domOn dLINK = true → t.link = { s.link with lines := s.link.lines ++ [l] }) ∧
         RegsBut s t [R.SCAN_LINE, R.SCAN_STATUS] ∧
         t = { s with regs := t.regs, scan := t.scan, age := t.age, link := t.link })) ∧
  (∀ (s : State) (g bmin bmax : Nat), bmin = s.fld F.SCAN_V_TOTAL_MIN - s.fld F.SCAN_V_TIMING_V_ACTIVE →
     bmax = s.fld F.SCAN_V_TOTAL_MAX - s.fld F.SCAN_V_TIMING_V_ACTIVE →
     (s.scan.endFixed = true → (s.blankingEnd g).scan = s.scan) ∧
     (s.scan.endFixed = false → s.scan.k = 0 → s.bit F.SCAN_CTRL_VRR = false →
       (s.blankingEnd g).scan = { s.scan with endFixed := true, e := bmax, repeated := false }) ∧
     (s.scan.endFixed = false → s.bit F.SCAN_CTRL_VRR = true →
       (s.scan.applied = true → bmin ≤ s.scan.k + g →
         (s.blankingEnd g).scan = { s.scan with endFixed := true, e := min bmax (max bmin (s.scan.k + g)), repeated := false }) ∧
       ((s.scan.applied = false ∨ s.scan.k + g < bmin) → bmax ≤ s.scan.k + g →
         (s.blankingEnd g).scan = { s.scan with endFixed := true, e := bmax, repeated := true }) ∧
       ((s.scan.applied = false ∨ s.scan.k + g < bmin) → s.scan.k + g < bmax → (s.blankingEnd g).scan = s.scan)) ∧
     (s.blankingEnd g).bit F.SCAN_STATUS_STRETCH = (!(s.blankingEnd g).scan.endFixed && decide (bmin ≤ s.scan.k)) ∧
     RegsBut s (s.blankingEnd g) [R.SCAN_STATUS] ∧
     s.blankingEnd g = { s with regs := (s.blankingEnd g).regs, scan := (s.blankingEnd g).scan })

/-- At a frame latch the frame number rises by one, the line is V_ACTIVE, scan runs and LAST_TOTAL holds the length of the frame
that ended; then commits take effect, the pipeline latches, a repeated frame is reported, FRAME_START follows, fences complete,
transactions age, pages are released, and the first blanking line begins unless a commit of the latch has stopped scan (R86,
R104, R106 to R108, R124). Stated for a latch before which no NOW commit waits; where scan does not run, ROOT is not locked, or
the scanned line is not the last of its frame, there is no latch. Free cages are given on. -/
def Obligations.FrameLatchOrder : Prop :=
  ∀ s : State,
    ((s.bit F.SCAN_STATUS_RUNNING && s.bit F.CLK_STATUS_ROOT_LOCK && s.lastLine) = false →
      exec .frameLatch s = .next s.assign) ∧
    (s.bit F.SCAN_STATUS_RUNNING = true → s.bit F.CLK_STATUS_ROOT_LOCK = true → s.lastLine = true → s.nowWaiting = [] →
    ∃ v u w y x z : State, v = s.assayEnd (s.rd R.SCAN_FRAME_SEQ) true ∧
      u.rd R.SCAN_FRAME_SEQ = s.rd R.SCAN_FRAME_SEQ + 1 ∧ u.bit F.SCAN_STATUS_RUNNING = true ∧
      u.fld F.SCAN_LINE_SCAN_LINE = v.fld F.SCAN_V_TIMING_V_ACTIVE ∧
      u.fld F.SCAN_LAST_TOTAL_LINES = min v.scan.lines 32767 ∧
      RegsBut v u [R.SCAN_FRAME_SEQ, R.SCAN_STATUS, R.SCAN_LINE, R.SCAN_LAST_TOTAL] ∧
      u.scan = { v.scan with
        k := 0, endFixed := false, e := 0, applied := false, repeated := false, lines := 1, started := true,
        flipLines := [], fetch := [] } ∧
      u = { v with regs := u.regs, scan := u.scan } ∧
      w = (u.gateKeep false).latchCommits ∧
      y = (if w.bit F.SCAN_STATUS_RUNNING then w.setFld F.SCAN_LINE_SCAN_LINE (w.fld F.SCAN_V_TIMING_V_ACTIVE)
           else w).pipelineLatch (s.rd R.SCAN_FRAME_SEQ) (!s.bit F.SCAN_STATUS_REPLAY) false ∧
      x = (if s.scan.repeated then y.repeatLatch (s.rd R.SCAN_FRAME_SEQ) else y).frameStart.fenceLatch.txnLatch ∧
      z = ({ x with boot := { x.boot with timeouts := [] } }.releaseCheck.ltrUpdate) ∧
      exec .frameLatch s = .next
        (if w.bit F.SCAN_STATUS_RUNNING then (z.linkPush (z.fld F.SCAN_LINE_SCAN_LINE) true []).blankingLine z.scanGuard
         else z).assign)

/-- A FLIP outside a transaction (R117, R118) replaces a pending flip of its layer and mode, which loses with a fence of KIND 1,
becomes the last pending flip, and completes with OK; one inside a transaction that has been released completes with OK alone;
one whose address flags R47 does not allow is refused. Nothing else changes.

A composer that is leaving retention is ready (R296): it is retained no more, and nothing else changes; one that is not
leaving retention stays as it is.

INVALIDATE of a half's history (R133) waits for the half's next latch: it is noted, and nothing else changes. A read of a
history strip that the part made returns (R136, R137): a first read that brings an upset value, or an uncorrectable one, which
counts in DRAMC, is fetched again; an upset second read fails the strip; the first line of a band, whose strip needs no other,
passes exactly if its slot decodes. A read that the part did not make changes nothing. -/
def Obligations.FlipsAndComposersAct : Prop :=
  (∀ (s : State) (n : BitVec 5) (c : Cage) (q : Nat), s.cage? n.toNat = some c → c.phase = .start → c.desc.ty = 4 →
     c.owner = .queue q →
     (c.desc.srcHost = true ∨ c.desc.dstHost = true →
       exec (.descFlip n) s = .next (s.finish n.toNat c stREFUSED c.desc.len.toNat)) ∧
     (c.desc.srcHost = false → c.desc.dstHost = false → c.desc.inTxn = true →
       exec (.descFlip n) s = .next (s.finish n.toNat c stOK 0)) ∧
     (c.desc.srcHost = false → c.desc.dstHost = false → c.desc.inTxn = false →
       ∃ u : State,
         u = { s with scan := { s.scan with flips := (s.scan.flips.filter fun f =>
           !(f.layer == bitsOf c.desc.param 0 8 && f.lineMode == bitOf c.desc.param 8)) ++
             [⟨bitsOf c.desc.param 0 8, c.desc.dst, bitOf c.desc.param 8, c.desc.tag, q⟩] } } ∧
         exec (.descFlip n) s = .next
           ((u.each (s.scan.flips.filter fun f =>
               f.layer == bitsOf c.desc.param 0 8 && f.lineMode == bitOf c.desc.param 8) fun x f =>
             x.releaseFence 1 (BitVec.ofNat 32 (f.tag % 2 ^ 16 + f.queue % 2 ^ 13 * 2 ^ 16)) (f.addr.toNat / 2 ^ 21 % 2 ^ 20) 0
               (x.rd R.SCAN_FRAME_SEQ)).finish n.toNat c stOK 0))) ∧
  (∀ s : State,
     (exec (.composerReady .dawn) s =
       .next { s with power := { s.power with compDawn := if s.power.compDawn = 2 then 0 else s.power.compDawn } }) ∧
     (exec (.composerReady .dusk) s =
       .next { s with power := { s.power with compDusk := if s.power.compDusk = 2 then 0 else s.power.compDusk } })) ∧
  (∀ (s : State) (h : Half),
     (∀ v, s.serves (R.HIST_CMD h) = true →
       exec (.histInvalidateCmd h v) s = .next (if bitOf v 0 then s.setHist h { s.hist h with causeCmd := true } else s)) ∧
     (∀ (back : BitVec 2) (line : BitVec 14) (strip : BitVec 7),
       (s.histReadMade h back.toNat line.toNat strip.toNat = false →
         ∀ r, exec (.histReadDone h back line strip r) s = .next s) ∧
       (s.histReadMade h back.toNat line.toNat strip.toNat = true →
         (s.readCode h back.toNat line.toNat strip.toNat = 0 →
           exec (.histReadDone h back line strip .upset) s = .next (s.setReadCode h back.toNat line.toNat strip.toNat 1) ∧
           (∀ a, exec (.histReadDone h back line strip (.uncorrectable a)) s =
             .next ((s.dramUncorr a).setReadCode h back.toNat line.toNat strip.toNat 1)) ∧
           (line.toNat % 8 = 0 → exec (.histReadDone h back line strip .intact) s =
             .next (s.setReadCode h back.toNat line.toNat strip.toNat
               (if (s.slotPixels h (if back.toNat = 1 then s.fld (F.HIST_ROLES_BACK1 h) else s.fld (F.HIST_ROLES_BACK2 h))
                   line.toNat strip.toNat false []).isSome then 3 else 1)))) ∧
         (s.readCode h back.toNat line.toNat strip.toNat = 1 →
           exec (.histReadDone h back line strip .upset) s =
             .next (s.histFail h back.toNat line.toNat strip.toNat)))))

/-- A word written into the overdrive window (R143, R144), with neither a seal running nor a bank switch pending, sets its two
entries in the staging bank of each half that is ON, clears the staging bank's SEALED bit, and changes no other entry; while a
seal runs or a bank switch is pending it is dropped and counted; past the last entry it does nothing.

SEAL of the overdrive staging banks (R145): STAGE_CMD sets BUSY and names the staging bank, and is ignored while BUSY is 1;
when the seal is done, the bank's CRC register holds the CRC-32C of Dawn's copy, BUSY is 0, SEALED is 1 for the bank exactly if
both halves agree and as before for the other, and OD_SEALED is written; nothing else changes.

The overdrive lookup (R138) gives the entry of the table at a node, and never leaves the range of its four neighbours. -/
def Obligations.OverdriveBanksAct : Prop :=
  (∀ (s : State) (off : BitVec 24) (v : Word), s.serves R.OD_CTRL = true → 0x170000 ≤ off.toNat → off.toNat % 4 = 0 →
     (0x170000 + 2 * odEntries ≤ off.toNat → exec (.odTableWrite off v) s = .next s) ∧
     (off.toNat < 0x170000 + 2 * odEntries → (s.od.sealing ≠ none ∨ s.odSwitchPending = true) →
       Yields (exec (.odTableWrite off v) s) fun t =>
         t.fld F.OD_WIN_DROPPED_COUNT = min (s.fld F.OD_WIN_DROPPED_COUNT + 1) (2 ^ F.OD_WIN_DROPPED_COUNT.w - 1) ∧
         RegsBut s t [R.OD_WIN_DROPPED] ∧ SameButRegs s t) ∧
     (off.toNat < 0x170000 + 2 * odEntries → s.od.sealing = none → s.odSwitchPending = false →
       Yields (exec (.odTableWrite off v) s) fun t =>
         (∀ h b e, b < 2 → e < odEntries → t.odTable h b e =
           if b = s.odStaging ∧ s.domOn (halfDomain h) = true ∧ e / 2 = (off.toNat - 0x170000) / 4 then
             bitsOf v (16 * (e % 2)) 16
           else s.odTable h b e) ∧
         (∀ b, b < 2 → t.fld F.OD_STAGE_STATUS_SEALED / 2 ^ b % 2 =
           if b = s.odStaging then 0 else s.fld F.OD_STAGE_STATUS_SEALED / 2 ^ b % 2) ∧
         t.bit F.OD_STAGE_STATUS_BUSY = s.bit F.OD_STAGE_STATUS_BUSY ∧
         RegsBut s t [R.OD_STAGE_STATUS] ∧ t = { s with regs := t.regs, od := { s.od with tables := t.od.tables } })) ∧
  (∀ s : State,
     (∀ v, s.serves R.OD_STAGE_CMD = true → bitOf v 0 = true →
       (s.bit F.OD_STAGE_STATUS_BUSY = true → exec (.odSeal v) s = .next s) ∧
       (s.bit F.OD_STAGE_STATUS_BUSY = false →
         Yields (exec (.odSeal v) s) fun t =>
           t.bit F.OD_STAGE_STATUS_BUSY = true ∧ t.fld F.OD_STAGE_STATUS_SEALED = s.fld F.OD_STAGE_STATUS_SEALED ∧
           RegsBut s t [R.OD_STAGE_STATUS] ∧ t = { s with regs := t.regs, od := { s.od with sealing := some s.odStaging } })) ∧
     (∀ b, b < 2 → s.od.sealing = some b →
       ∃ u : State,
         exec .odSealDone s = .next ((u.raise 0x23 1).post F.OD_EVT_RING 0x0302
           [(1, b), (1, b2n (s.odCrc .dusk b == s.odCrc .dawn b)), (32, (s.odCrc .dawn b).toNat)]) ∧
         u.bit F.OD_STAGE_STATUS_BUSY = false ∧
         (if b = 0 then u.rd R.OD_BANK0_CRC else u.rd R.OD_BANK1_CRC) = s.odCrc .dawn b ∧
         (∀ k, k < 2 → u.fld F.OD_STAGE_STATUS_SEALED / 2 ^ k % 2 =
           if k = b then b2n (s.odCrc .dusk b == s.odCrc .dawn b) else s.fld F.OD_STAGE_STATUS_SEALED / 2 ^ k % 2) ∧
         RegsBut s u [R.OD_STAGE_STATUS, if b = 0 then R.OD_BANK0_CRC else R.OD_BANK1_CRC] ∧
         u = { s with regs := u.regs, od := { s.od with sealing := none } })) ∧
  (∀ (t : Nat → Nat → Nat) (a b lo hi : Nat),
     (∀ i j, t i j ≤ hi ∧ lo ≤ t i j) →
     (odLookup t (64 * a) (64 * b) = t a b) ∧ lo ≤ odLookup t a b ∧ odLookup t a b ≤ hi)

/-! ### Compression (07) -/

/-- INFLATE descriptors and their jobs. DESC_INFLATE (R47, R170, R173, R174, R178): a host destination is REFUSED_RANGE; LENGTH 0
is OK_ZERO; a LENGTH above 512 MiB, CMP not ON, or CONT = 1 without a context of the queue that fits in SRC, LENGTH, SEALED and
KEY_SLOT is REFUSED_RANGE; otherwise the fitting context is resumed, or a held one is freed and counted; then a sealed job whose
output is not all protected ends with PROTECTED, and any other waits for a lane. INFLATE_COMPLETE (R169 to R177), after free lanes
are taken: nothing where the cage runs no lane; an unsealed job decodes what was read of its input, up to where a read failed; a
sealed job ends early where its reads fail or its source is refused, else decodes the plaintext. A run of the decoder writes and
counts its output and ends with OK, with SEAL_AUTH_FAIL after zeroing what it wrote, with ADDR_FAULT, with OUTPUT_FULL and its state
saved in a context, or with its fault. CTX_DROP frees a SUSPENDED context and counts it, and leaves an ACTIVE or FREE one (R184). -/
def Obligations.InflateJobsAct : Prop :=
  (∀ (s : State) (v : Word), s.serves R.CMP_CTX_DROP = true →
    ((∀ j, SMap.find? s.cmp.ctxs (bitsOf v 0 6) = some j → j.active = true) → exec (.ctxDrop v) s = .next s) ∧
    (∀ j, SMap.find? s.cmp.ctxs (bitsOf v 0 6) = some j → j.active = false →
      Yields (exec (.ctxDrop v) s) fun t =>
        SMap.find? t.cmp.ctxs (bitsOf v 0 6) = none ∧
        (∀ x, x ≠ bitsOf v 0 6 → SMap.find? t.cmp.ctxs x = SMap.find? s.cmp.ctxs x) ∧
        t.fld F.CMP_CTX_DISCARDED_COUNT = min (s.fld F.CMP_CTX_DISCARDED_COUNT + 1) (2 ^ F.CMP_CTX_DISCARDED_COUNT.w - 1) ∧
        RegsBut s t [R.CMP_CTX_DISCARDED] ∧ t = { s with regs := t.regs, cmp := { s.cmp with ctxs := t.cmp.ctxs } })) ∧
  (∀ (s : State) (n : BitVec 5) (c : Cage) (fits : Bool), s.cage? n.toNat = some c → c.phase = .start → c.desc.ty = 2 →
    fits = (match (s.ctxOf c.queue).bind fun x => SMap.find? s.cmp.ctxs x with
      | some j => j.src == c.desc.src && j.len == c.desc.len && j.sealed == c.desc.sealed && j.keySlot == c.desc.keySlot
      | none => false) →
    (c.desc.dstHost = true → exec (.descInflate n) s = .next (s.finish n.toNat c stREFUSED c.desc.len.toNat)) ∧
    (c.desc.dstHost = false → c.desc.len = 0 → exec (.descInflate n) s = .next (s.finish n.toNat c stOKZERO 0)) ∧
    (c.desc.dstHost = false → c.desc.len ≠ 0 →
      (536870912 < c.desc.len.toNat ∨ s.domOn dCMP = false ∨ (c.desc.cont = true ∧ fits = false)) →
      exec (.descInflate n) s = .next (s.finish n.toNat c stREFUSED c.desc.len.toNat)) ∧
    (c.desc.dstHost = false → c.desc.len ≠ 0 → c.desc.len.toNat ≤ 536870912 → s.domOn dCMP = true →
      (c.desc.cont = true → fits = true) →
      ∃ u : State,
        (s.ctxOf c.queue = none → u = s) ∧
        (∀ x, s.ctxOf c.queue = some x →
          SMap.find? u.cmp.ctxs x = (if c.desc.cont then (SMap.find? s.cmp.ctxs x).map fun j => { j with active := true } else none) ∧
          (∀ y, y ≠ x → SMap.find? u.cmp.ctxs y = SMap.find? s.cmp.ctxs y) ∧
          u.fld F.CMP_CTX_DISCARDED_COUNT = (if c.desc.cont then s.fld F.CMP_CTX_DISCARDED_COUNT
            else min (s.fld F.CMP_CTX_DISCARDED_COUNT + 1) (2 ^ F.CMP_CTX_DISCARDED_COUNT.w - 1))) ∧
        RegsBut s u [R.CMP_CTX_DISCARDED] ∧ u = { s with regs := u.regs, cmp := { s.cmp with ctxs := u.cmp.ctxs } } ∧
        (c.desc.sealed = true → s.dstAllProtected c.desc.dst.toNat c.desc.param.toNat = false →
          exec (.descInflate n) s =
            .next ((if c.desc.cont then u.dropJob n.toNat c else u).finish n.toNat c stPROTECTED c.desc.len.toNat)) ∧
        ((c.desc.sealed = false ∨ s.dstAllProtected c.desc.dst.toNat c.desc.param.toNat = true) →
          exec (.descInflate n) s = .next (u.setCage n.toNat { c with phase := .waitLane }).assignLanes))) ∧
  (∀ (s w : State) (n : BitVec 5) (res : ReadRes) (again : Option ReadRes), w = s.assignLanes →
    ((∀ c, w.cage? n.toNat = some c → ∀ l, c.phase ≠ .inflating l) → exec (.inflateComplete n ⟨res, again⟩) s = .next w) ∧
    (∀ (c : Cage) (lane : Nat) (held : Option JobCtx) (start : QzState), w.cage? n.toNat = some c → c.phase = .inflating lane →
      held = (if c.desc.cont then (w.ctxOf c.queue).bind fun x => SMap.find? w.cmp.ctxs x else none) →
      start = (match held with | some j => j.qz | none => QzState.init) →
      (c.desc.sealed = false →
        exec (.inflateComplete n ⟨res, again⟩) s =
          .next (((if (w.jobInput c.desc res).2.isSome then w.noteRead res else w).inflateRun n.toNat c
            ⟨(w.jobInput c.desc res).1, c.desc.len.toNat, none, [], [], [], true⟩ start (w.jobInput c.desc res).2).assignLanes)) ∧
      (c.desc.sealed = true →
        ∃ (u : State) (src : JobSource),
          src = w.sealedSource c.desc held (w.jobInput c.desc res).1 (w.jobInput c.desc (again.getD res)).1 w.draw.1.toNat ∧
          (∀ k, k ∉ [R.PCIEX_LINK_STATUS, R.PCIEX_CPL_TIMEOUTS] → u.rd k = w.rd k) ∧
          u = { w with regs := u.regs, freeCtr := u.freeCtr, sent := u.sent, pcie := u.pcie } ∧
          ((w.jobInput c.desc res).2 = none → src.fail = none → (held = none → (w.jobInput c.desc (again.getD res)).2 = none) →
            exec (.inflateComplete n ⟨res, again⟩) s = .next ((u.inflateRun n.toNat c src start none).assignLanes)) ∧
          (∀ st bit, (w.jobInput c.desc res).2 = none → src.fail = some (st, bit) →
            exec (.inflateComplete n ⟨res, again⟩) s =
              .next (((u.inflateEnd c.queue bit start.total (u.qHead c.queue) st none).jobDone n.toNat c st src.count).assignLanes)) ∧
          (∀ st, (w.jobInput c.desc res).2 = some st ∨
              ((w.jobInput c.desc res).2 = none ∧ src.fail = none ∧ held = none ∧
                (w.jobInput c.desc (again.getD res)).2 = some st) →
            exec (.inflateComplete n ⟨res, again⟩) s = .next ((u.jobDone n.toNat c st src.count).assignLanes))))) ∧
  (∀ (w : State) (n : Nat) (c : Cage) (src : JobSource) (start : QzState) (early : Option Nat) (room : Nat) (r : QzRun),
    room = w.localRoom c.desc.dst.toNat c.desc.param.toNat → r = qzRun start src.plain room →
    ∃ (u : State) (rest : Nat → Nat), (∀ b, rest b = src.count - (b + 7) / 8) ∧
      u.fld F.CMP_OUT_LO_COUNT + u.fld F.CMP_OUT_HI_COUNT * 2 ^ 32 =
        min (2 ^ 64 - 1) (w.fld F.CMP_OUT_LO_COUNT + w.fld F.CMP_OUT_HI_COUNT * 2 ^ 32 + r.out.length) ∧
      u.dram = (w.surfWrite c.desc.dst.toNat r.out).dram ∧
      RegsBut w u [R.CMP_OUT_LO, R.CMP_OUT_HI] ∧ u = { w with regs := u.regs, dram := u.dram } ∧
      (r.stop = .done → src.tagOk = true → w.inflateRun n c src start early = u.jobDone n c stOK (rest r.q.bit)) ∧
      (r.stop = .done → src.tagOk = false → w.inflateRun n c src start early =
        ((u.surfWrite c.desc.dst.toNat (List.replicate r.out.length 0)).inflateEnd c.queue 0 r.q.total (u.qHead c.queue) 0x17
          none).jobDone n c 0x17 (rest r.q.bit)) ∧
      (r.stop = .full → room < c.desc.param.toNat →
        w.inflateRun n c src start early = u.jobDone n c stADDRFAULT (rest r.q.bit)) ∧
      (r.stop = .full → c.desc.param.toNat ≤ room →
        ∃ (v : State) (slot : Option Nat),
          slot = (match u.ctxOf c.queue with | some x => some x | none => u.nextCtx) ∧
          (slot = none → v = (u.bump F.CMP_CTX_REFUSED_COUNT).raise 0x16 3) ∧
          (∀ (x : Nat) (j : JobCtx), slot = some x →
            j = ⟨false, c.queue, u.qHead c.queue, c.desc.src, c.desc.len, c.desc.sealed, c.desc.keySlot, r.q, src.iv, src.aad,
              src.count, if c.desc.sealed then src.ct.take ((r.q.bit + 7) / 8) else []⟩ →
            v = { u with cmp := { u.cmp with ctxs := SMap.insert u.cmp.ctxs x j } }) ∧
          w.inflateRun n c src start early =
            ((v.inflateEnd c.queue r.q.bit r.q.total (v.qHead c.queue) stOUTPUTFULL slot).finish n c stOUTPUTFULL
              (rest r.q.bit)).transferComplete n) ∧
      (∀ st bit used, r.stop = .fault st bit used →
        (∀ e, early = some e → st = 0x14 → w.inflateRun n c src start early = u.jobDone n c e (rest r.q.bit)) ∧
        ((early = none ∨ st ≠ 0x14) → w.inflateRun n c src start early =
          (u.inflateEnd c.queue bit r.q.total (u.qHead c.queue) st none).jobDone n c st (rest used))))

/-- CAPTURE descriptors (R47, R48, R59, R179 to R182). DESC_CAPTURE: a host source or a FORMAT above 1 is REFUSED_RANGE, LENGTH 0
is OK_ZERO, CMP not ON is REFUSED_RANGE, an empty rectangle is OK_ZERO, and any other waits for the buffer.
CAPTURE_BUFFER_TAKEN: where the buffer is free, the target is the next frame. CAPTURE_ENCODE_DONE, after free lanes are taken: the
stream is written to its destination and counted, the buffer is free, CAPTURE_END is posted, and the descriptor completes with OK,
or with OUTPUT_FULL when the encoder left strips out; where it does not fit the local pages, what fits is written, and it completes
with ADDR_FAULT. A cage that does not wait for the buffer takes none, and one without an encoder ends none. -/
def Obligations.CapturesAct : Prop :=
  (∀ (s : State) (n : BitVec 5) (c : Cage) (bad empty : Bool), s.cage? n.toNat = some c → c.phase = .start → c.desc.ty = 3 →
    bad = (c.desc.srcHost || decide (2 ≤ bitsOf c.desc.param 0 2)) →
    empty = (decide (c.desc.src.toNat / 2 ^ 32 % 65536 = 0) || decide (c.desc.src.toNat / 2 ^ 48 = 0)) →
    ((bad = true ∨ (c.desc.len ≠ 0 ∧ s.domOn dCMP = false)) →
      exec (.descCapture n) s = .next (s.finish n.toNat c stREFUSED c.desc.len.toNat)) ∧
    (bad = false → (c.desc.len = 0 ∨ (s.domOn dCMP = true ∧ empty = true)) →
      exec (.descCapture n) s = .next (s.finish n.toNat c stOKZERO 0)) ∧
    (bad = false → c.desc.len ≠ 0 → s.domOn dCMP = true → empty = false →
      exec (.descCapture n) s = .next (s.setCage n.toNat { c with phase := .waitBuffer }))) ∧
  (∀ (s : State) (n : BitVec 5),
    ((∀ c, s.cage? n.toNat = some c → c.phase ≠ .waitBuffer ∨ s.cmp.capture.isSome = true) →
      exec (.captureBufferTaken n) s = .next s) ∧
    (∀ c, s.cage? n.toNat = some c → c.phase = .waitBuffer → s.cmp.capture = none →
      Yields (exec (.captureBufferTaken n) s) fun t =>
        t.cmp.capture = some ⟨n.toNat, s.rd R.SCAN_FRAME_SEQ + 1, false, false, none, []⟩ ∧
        t.cage? n.toNat = some { c with phase := .capturing } ∧ (∀ m, m ≠ n.toNat → t.cage? m = s.cage? m) ∧
        t = { s with hoist := { s.hoist with cages := t.hoist.cages }, cmp := { s.cmp with capture := t.cmp.capture } })) ∧
  (∀ (s w : State) (n : BitVec 5), w = s.assignLanes →
    ((∀ c cp, w.cage? n.toNat = some c → w.cmp.capture = some cp →
        cp.cage ≠ n.toNat ∨ cp.ready = false ∨ cp.lane = none ∨ c.phase ≠ .capturing) →
      exec (.captureEncodeDone n) s = .next w) ∧
    (∀ (c : Cage) (cp : Capture) (lane room : Nat) (e : List Byte × Bool), w.cage? n.toNat = some c → w.cmp.capture = some cp →
      cp.cage = n.toNat → cp.ready = true → cp.lane = some lane → c.phase = .capturing →
      room = (if c.desc.dstHost then c.desc.len.toNat else w.localRoom c.desc.dst.toNat c.desc.len.toNat) →
      e = encodeStream (w.fld F.CMP_ENC_CFG_CHAIN_DEPTH) c.desc.len.toNat (bitOf c.desc.param 4) cp.buf →
      ∃ u x : State,
        u.fld F.CMP_OUT_LO_COUNT + u.fld F.CMP_OUT_HI_COUNT * 2 ^ 32 =
          min (2 ^ 64 - 1) (w.fld F.CMP_OUT_LO_COUNT + w.fld F.CMP_OUT_HI_COUNT * 2 ^ 32 + min room e.1.length) ∧
        x = (if room < e.1.length then w.surfWrite c.desc.dst.toNat (e.1.take room)
          else if c.desc.dstHost then w.hostData c.desc.dst.toNat e.1 else w.surfWrite c.desc.dst.toNat e.1) ∧
        u.dram = x.dram ∧ u.sent = x.sent ∧ u.pcie = x.pcie ∧ u.cmp = { w.cmp with capture := none } ∧
        RegsBut w u [R.CMP_OUT_LO, R.CMP_OUT_HI, R.PCIEX_LINK_STATUS] ∧
        u = { w with regs := u.regs, dram := u.dram, sent := u.sent, pcie := u.pcie, cmp := u.cmp } ∧
        (room < e.1.length → exec (.captureEncodeDone n) s =
          .next ((u.finish n.toNat c stADDRFAULT (c.desc.len.toNat - room)).transferComplete n.toNat).assignLanes) ∧
        (e.1.length ≤ room → exec (.captureEncodeDone n) s =
          .next (((u.captureEnd c.queue cp.target e.1.length (u.qHead c.queue) (if e.2 then stOK else stOUTPUTFULL)).finish n.toNat c
            (if e.2 then stOK else stOUTPUTFULL) (c.desc.len.toNat - e.1.length)).transferComplete n.toNat).assignLanes)))

/-! ### Correction and aging (08) -/

/-- Seals of uniformity maps (R192): STAGE_CMD with SEAL, while no seal runs and no change of ACTIVE_BANK is staged or pending,
takes MODE from the write and BW and BH from the committed geometry, for the bank that is not active; without SEAL, or while one
runs or a change waits, it does nothing. When the seal is done, the bank's CRC and geometry are written, its SEALED bit is 1, BUSY
is 0, and the event MAP_SEALED is posted; with no seal running UNI_SEAL_DONE changes nothing. -/
def Obligations.MapSealRunsAndEnds : Prop :=
  ∀ s : State,
    (∀ v, s.serves R.UNI_STAGE_CMD = true →
      (bitOf v 0 = true → s.bit F.UNI_STAGE_STATUS_BUSY = false → s.mapSwitchPending = false →
        Yields (exec (.uniSeal v) s) fun t =>
          t.bit F.UNI_STAGE_STATUS_BUSY = true ∧ t.fld F.UNI_STAGE_STATUS_SEALED = s.fld F.UNI_STAGE_STATUS_SEALED ∧
          t.uniSeal = some ⟨1 - s.fld F.UNI_CTRL_ACTIVE_BANK, bitOf v 1, 4 * s.fld F.SCAN_H_TIMING_H_ACTIVE,
            (s.fld F.SCAN_V_TIMING_V_ACTIVE + 1) / 2⟩ ∧
          RegsBut s t [R.UNI_STAGE_STATUS] ∧ t = { s with regs := t.regs, uniSeal := t.uniSeal }) ∧
      ((bitOf v 0 = false ∨ s.bit F.UNI_STAGE_STATUS_BUSY = true ∨ s.mapSwitchPending = true) →
        exec (.uniSeal v) s = .next s)) ∧
    (s.uniSeal = none → exec .uniSealDone s = .next s) ∧
    (∀ u crc, s.uniSeal = some u → u.bank < 2 →
      crc = crc32c (s.dramRead ((if u.bank = 0 then s.fld F.UNI_BASE_FRAME_BANK0 else s.fld F.UNI_BASE_FRAME_BANK1) * frameBytes)
        (u.bw * u.bh * if u.mode then 15 else 24)) →
      ∃ w : State, exec .uniSealDone s =
          .next ((w.raise 0x24 1).post F.UNI_EVT_RING 0x0210 [(1, u.bank), (1, b2n u.mode), (32, crc.toNat)]) ∧
        w.uniSeal = none ∧ w.bit F.UNI_STAGE_STATUS_BUSY = false ∧
        (if u.bank = 0 then w.rd R.UNI_BANK0_CRC else w.rd R.UNI_BANK1_CRC) = crc ∧
        w.mapGeom u.bank = (u.bw % 2 ^ F.UNI_BANK0_GEOM_BW.w, u.bh % 2 ^ F.UNI_BANK0_GEOM_BH.w, u.mode) ∧
        w.fld F.UNI_STAGE_STATUS_SEALED = s.fld F.UNI_STAGE_STATUS_SEALED ||| 2 ^ u.bank ∧
        RegsBut s w (R.UNI_STAGE_STATUS ::
          (if u.bank = 0 then [R.UNI_BANK0_CRC, R.UNI_BANK0_GEOM] else [R.UNI_BANK1_CRC, R.UNI_BANK1_GEOM])) ∧
        w = { s with regs := w.regs, uniSeal := none })

/-- Aging checkpoints and restores (R198, R202 to R204). CKPT_CMD with GO and the period both request a checkpoint, unless one
waits or runs: it waits, shown in CKPT_BUSY, until Foreman runs with FORE, MAP and STORE ON and PFW# high, and is handed to the
arbiter otherwise. When the running checkpoint ends, the shadow array takes the live one; the record is a Mepa image of KIND 6 (its
CONTENT_VER free, log entry 75, the model's choice) that follows the older ones at the place that the ring has for it, is intact
exactly for status 0, and makes the next record a BASE otherwise. AGE_RESTORE_DONE, which Foreman gives with PANEL and STORE ON and
READY 0: with both arrays intact READY is set with COMPLETE and no byte of DRAM changes; else, with MAP ON, the arrays are restored
from the ring, and from an empty one they are cleared, with NONE. -/
def Obligations.CheckpointsAndRestores : Prop :=
  (∀ (s : State) (c : Instr) (go ready : Bool),
    ((∃ v, c = .ckptGo v ∧ s.serves R.AGE_CKPT_CMD = true ∧ go = bitOf v 0) ∨
     (c = .ckptPeriodic ∧ go = (s.domOn dPANEL && s.fld F.AGE_CKPT_CFG_HOURS != 0))) →
    ready = (s.boot.foreman && s.domOn dFORE && s.domOn dMAP && s.domOn dSTORE && !s.hvd.pfwLow) →
    ((go = false ∨ s.ckptBusy = true) → exec c s = .next s) ∧
    (go = true → s.ckptBusy = false → ready = false →
      Yields (exec c s) fun t =>
        t.age.wanted = true ∧ t.bit F.AGE_STATUS_CKPT_BUSY = true ∧ RegsBut s t [R.AGE_STATUS] ∧
        t.bit F.AGE_STATUS_READY = s.bit F.AGE_STATUS_READY ∧ t.fld F.AGE_STATUS_RESTORE = s.fld F.AGE_STATUS_RESTORE ∧
        t = { s with regs := t.regs, age := { s.age with wanted := true } }) ∧
    (go = true → s.ckptBusy = false → ready = true →
      exec c s = .next (s.maintRequest (plainReq 3)) ∧
      (s.boot.mbox = none → s.mem.running = [] → s.mem.queued = [] →
        Yields (exec c s) fun t =>
          t.mem = { s.mem with running := [{ plainReq 3 with start := s.keepCycles }] } ∧
          t.bit F.AGE_STATUS_CKPT_BUSY = true ∧ t.fld F.MAINT_STATE_STATE = 128 ∧ t.fld F.MAINT_CLAIMS_TOKENS = 34 ∧
          RegsBut s t [R.MAINT_STATE, R.MAINT_QUEUE, R.MAINT_CLAIMS, R.AGE_STATUS] ∧
          t = { s with regs := t.regs, mem := t.mem }))) ∧
  (∀ (s : State) (st : BitVec 2), s.runs = true →
    (s.ckptRunning = none → exec (.checkpointDone st) s = .next (s.after s)) ∧
    (∀ (m : MaintReq) (seq : Word) (y : List Byte × State), s.ckptRunning = some m → seq = s.nextSeq.1 →
      y = s.nextSeq.2.captureAge seq s.ckptBase →
      ∃ (u : State) (ver : Nat) (z img : List Byte),
        z = (encodeStream 8 (2 * y.1.length + 1024) false y.1).1 ∧
        img = Mepa.bytes ⟨6, true, ver, s.panelGeom.1, s.panelGeom.2, z.length, y.1.length, (crc32c y.1).toNat⟩ ++ z ∧
        exec (.checkpointDone st) s =
          .next (s.after (u.maintEnd m (if st = 0 then 0 else if st = 1 then 2 else 1))) ∧
        u.dram = (s.dramWrite (s.fld F.AGE_ACC_BASE_SHADOW * frameBytes)
          (s.dramRead (s.fld F.AGE_ACC_BASE_LIVE * frameBytes) (4 * (s.ageBlocks * 3)))).dram ∧
        u.age.wanted = s.age.wanted ∧ u.age.intact = s.age.intact ∧
        (s.ringPlace img.length = none →
          u.age = { s.age with needBase := true } ∧ u.mem = s.mem) ∧
        (∀ k, s.ringPlace img.length = some k →
          u.age.ring = (s.age.ring.filter fun r => !(r.block < k + eraseBlocks img.length && k < r.block + eraseBlocks r.len)) ++
            [⟨k, img.length, seq⟩] ∧
          u.age = { s.age with ring := u.age.ring, ringPos := k + eraseBlocks img.length, needBase := st != 0#2,
                               made := s.age.made + b2n (st == 0#2) } ∧
          u.nandRead (RingRec.addr ⟨k, img.length, seq⟩) img.length = (if st = 0 then img else List.replicate img.length 0xFF#8) ∧
          u.mem = { s.mem with nand := u.mem.nand, erases := u.mem.erases }) ∧
        u = { s with
              regs := u.regs, dram := u.dram, freeCtr := u.freeCtr, age := u.age, mem := u.mem, rings := u.rings,
              sent := u.sent, pcie := u.pcie, summaryOwed := u.summaryOwed })) ∧
  (∀ (s : State) (may : Bool),
    may = (s.boot.foreman && s.domOn dFORE && s.domOn dPANEL && s.domOn dSTORE && !s.bit F.AGE_STATUS_READY &&
      (s.age.intact || s.domOn dMAP)) →
    (may = false → exec .ageRestoreDone s = .next s) ∧
    (may = true →
      ∃ (v : State) (r : Nat × Option (Word × Word) × State),
        v.fld F.AGE_ACC_BASE_LIVE = 3886 ∧ v.fld F.AGE_ACC_BASE_SHADOW = 3934 ∧ RegsBut s v [R.AGE_ACC_BASE] ∧
        SameButRegs s v ∧
        r = (if s.age.intact then (0, s.lastSeq.map fun n => (n, n), v) else v.restoreAge) ∧
        Yields (exec .ageRestoreDone s) fun t =>
          t.bit F.AGE_STATUS_READY = true ∧ t.fld F.AGE_STATUS_RESTORE = r.1 % 4 ∧
          t.fld F.AGE_ACC_BASE_LIVE = 3886 ∧ t.fld F.AGE_ACC_BASE_SHADOW = 3934 ∧ t.dram = r.2.2.dram ∧
          t.age = { s.age with needBase := if s.age.intact then s.age.needBase else r.1 != 0, intact := true } ∧
          RegsButEvents (s.fld F.AGE_EVT_RING) s t [R.AGE_ACC_BASE, R.AGE_STATUS] ∧
          t = { s with
                regs := t.regs, dram := t.dram, age := t.age, freeCtr := t.freeCtr, rings := t.rings, sent := t.sent,
                pcie := t.pcie, summaryOwed := t.summaryOwed } ∧
          (s.age.intact = true → t.dram = s.dram) ∧
          (s.age.intact = false → s.age.ring = [] →
            t.fld F.AGE_STATUS_RESTORE = 1 ∧
            ∀ i, i < 12 * s.ageBlocks → t.dramByte (3886 * frameBytes + i) = 0 ∧ t.dramByte (3934 * frameBytes + i) = 0)))

/-! ### SahkanLink (09) -/

/-- TRAIN_CMD and the training of lanes (R228 to R230, R249). While the panel sequencer owns the link, TRAIN_CMD is only reported.
Otherwise GO, unless lanes train, takes each lane to train to TRAIN with its first attempt, sends it TS1 and sets TRAINING; then STOP
takes every lane to OFF. The command ends, with LINK_TRAINED, once no lane of it is in TRAIN. A training lane that locks is sent
its CONFIG packet and its test lines; one that does not lock, or fails its test, begins its next attempt with CAUSE 1 or 2, and
after the third goes to FAULT with LINK_LANE_FAULT; one that passes is in RUN with its NACK input not masked. A lane's unrecovered
blocks of the frame stay counted. For a lane elsewhere these commands change nothing. -/
def Obligations.LanesTrain : Prop :=
  (∀ (s : State) (v : Word) (c : Instr), s.serves R.LINK_TRAIN_CMD = true →
    ((c = .trainGo v ∧ bitOf v 0 = false ∨ c = .trainStop v ∧ bitOf v 1 = false) → exec c s = .next s) ∧
    ((c = .trainGo v ∧ bitOf v 0 = true ∨ c = .trainStop v ∧ bitOf v 1 = true) →
      (s.panelOwns = true → Yields (exec c s) fun t => RegsBut s t (clampRegs 0x41) ∧ SameButLog s t) ∧
      (s.panelOwns = false → ∃ g : State,
        ((bitOf v 0 = false ∨ s.bit F.LINK_STATUS_TRAINING = true) → g = s) ∧
        (bitOf v 0 = true → s.bit F.LINK_STATUS_TRAINING = false →
          ∃ u : State, g = u.trainEnd ∧ u.bit F.LINK_STATUS_TRAINING = true ∧
            u.fld F.LINK_STATUS_SRC_MODE = s.fld F.LINK_STATUS_SRC_MODE ∧ u.link.training = s.trainable ∧
            (∀ n, n ∈ s.trainable → u.laneState n = laneTRAIN ∧
              u.lane n = { LaneHid.init with
                attempts := 1, unrec := (s.lane n).unrec, scr := (u.lane n).scr, free := (u.lane n).free }) ∧
            (∀ n, n ∉ s.trainable → u.laneState n = s.laneState n ∧ u.lane n = s.lane n) ∧
            u.sent.length = s.sent.length + (if s.padHeld dLINK then 0 else s.trainable.length) ∧
            (∀ k, k ≠ R.LINK_STATUS → (∀ n, n < lanes → k ≠ R.LINK_LANE_STATE n) → u.rd k = s.rd k) ∧
            u = { s with regs := u.regs, sent := u.sent, freeCtr := u.freeCtr,
                         link := { s.link with lanes := u.link.lanes, training := u.link.training } }) ∧
        (bitOf v 1 = false → exec c s = .next g) ∧
        (bitOf v 1 = true →
          ∃ u : State, exec c s = .next u.trainEnd ∧
            (∀ n, n < lanes → u.laneState n = laneOFF ∧ u.lane n = { LaneHid.init with unrec := (g.lane n).unrec } ∧
              u.fld (F.LINK_LANE_STATE_CAUSE n) = g.fld (F.LINK_LANE_STATE_CAUSE n)) ∧
            (∀ k, (∀ n, n < lanes → k ≠ R.LINK_LANE_STATE n) → u.rd k = g.rd k) ∧
            u = { g with regs := u.regs, link := { g.link with lanes := u.link.lanes } })))) ∧
  (∀ w : State,
    ((w.bit F.LINK_STATUS_TRAINING = false ∨ ∃ n ∈ w.link.training, w.laneState n = laneTRAIN) → w.trainEnd = w) ∧
    (w.bit F.LINK_STATUS_TRAINING = true → (∀ n ∈ w.link.training, w.laneState n ≠ laneTRAIN) →
      ∃ u : State, u.bit F.LINK_STATUS_TRAINING = false ∧ RegsBut w u [R.LINK_STATUS] ∧
        u.fld F.LINK_STATUS_SRC_MODE = w.fld F.LINK_STATUS_SRC_MODE ∧
        u = { w with regs := u.regs, link := { w.link with training := [] } } ∧
        w.trainEnd = ((u.raise 0x41 2).post F.LINK_EVT_RING 0x0501
          [(32, w.runMask), (16, w.runMask / 2 ^ 32), (2, w.fld F.LINK_CTRL_RATE)]).panelTrained)) ∧
  (∀ (s : State) (n : BitVec 6) (k : Nat) (highs : Nat) (trains : Bool), k = n.toNat →
    trains = (s.domOn dLINK && decide (k < lanes) && s.laneState k == laneTRAIN) →
    ((trains = false ∨ (s.lane k).testing = true) →
      exec (.laneLock n) s = .next s ∧ exec (.laneLockTimeout n) s = .next s) ∧
    ((trains = false ∨ (s.lane k).testing = false) → exec (.laneTestDone n highs) s = .next s) ∧
    (trains = true → (s.lane k).testing = false → ∀ (cfg : Word) (arg : Nat),
      cfg = (if laneDrives s.laneCfg k then s.laneCfg k else s.laneCfg (k - 1)) →
      arg = bitsOf cfg 16 6 + b2n (bitOf cfg 1) * 64 + b2n (!laneDrives s.laneCfg k) * 128 + b2n (s.bit F.LINK_CTRL_DEPTH) * 256 →
      ∃ u w : State, exec (.laneLock n) s =
          .next (((List.range (s.fld F.LINK_TRAIN_CFG_TEST_LINES)).foldl (fun x _ => x.testLine k) w).unsync [k]) ∧
        u.bit (F.LINK_LANE_STATE_NACK_PIN k) = false ∧ u.laneState k = laneTRAIN ∧
        u.lane k = { s.lane k with testing := true, synced := true, scr := (u.lane k).scr, free := (u.lane k).free } ∧
        (∀ m, m ≠ k → u.lane m = s.lane m) ∧ RegsBut s u [R.LINK_LANE_STATE k] ∧
        u = { s with regs := u.regs, freeCtr := u.freeCtr, link := { s.link with lanes := u.link.lanes } } ∧
        w = (u.sendCtl k 0x02 arg).setLane k
          { (u.sendCtl k 0x02 arg).lane k with
            free := ((u.sendCtl k 0x02 arg).lane k).free % wordTime (s.fld F.LINK_CTRL_RATE) }) ∧
    (trains = true → (s.lane k).testing = true → highs ≤ s.fld F.LINK_TRAIN_CFG_TEST_NACK_MAX →
      ∃ u : State, exec (.laneTestDone n highs) s = .next u.trainEnd ∧
        u.laneState k = laneRUN ∧ u.bit (F.LINK_LANE_STATE_NACK_MASKED k) = false ∧
        u.lane k = { LaneHid.init with unrec := (s.lane k).unrec } ∧ (∀ m, m ≠ k → u.lane m = s.lane m) ∧
        RegsBut s u [R.LINK_LANE_STATE k] ∧ u = { s with regs := u.regs, link := { s.link with lanes := u.link.lanes } }) ∧
    (∀ (c : Instr) (cause : Nat), trains = true →
      ((c = .laneLockTimeout n ∧ (s.lane k).testing = false ∧ cause = 1) ∨
       (c = .laneTestDone n highs ∧ (s.lane k).testing = true ∧ s.fld F.LINK_TRAIN_CFG_TEST_NACK_MAX < highs ∧ cause = 2)) →
      ((s.lane k).attempts < 3 →
        Yields (exec c s) fun t =>
          t.fld (F.LINK_LANE_STATE_CAUSE k) = cause ∧ t.laneState k = laneTRAIN ∧
          t.lane k = { LaneHid.init with
            attempts := (s.lane k).attempts + 1, unrec := (s.lane k).unrec, scr := (t.lane k).scr, free := (t.lane k).free } ∧
          (∀ m, m ≠ k → t.lane m = s.lane m) ∧
          (s.padHeld dLINK = false → ∃ body, t.sent = .laneWord k 2#2 body :: s.sent) ∧ (s.padHeld dLINK = true → t.sent = s.sent) ∧
          RegsBut s t [R.LINK_LANE_STATE k] ∧
          t = { s with regs := t.regs, sent := t.sent, freeCtr := t.freeCtr, link := { s.link with lanes := t.link.lanes } }) ∧
      (3 ≤ (s.lane k).attempts →
        ∃ u : State, exec c s =
            .next (((u.raise 0x41 3).post F.LINK_EVT_RING 0x0502 [(6, k), (4, cause)]).trainEnd) ∧
          u.fld (F.LINK_LANE_STATE_CAUSE k) = cause ∧ u.laneState k = laneFAULT ∧
          u.lane k = { LaneHid.init with unrec := (s.lane k).unrec } ∧ (∀ m, m ≠ k → u.lane m = s.lane m) ∧
          RegsBut s u [R.LINK_LANE_STATE k] ∧ u = { s with regs := u.regs, link := { s.link with lanes := u.link.lanes } })))

/-- Link lines and control packets (R215, R221, R222, R225 to R227, R231). The link line of the
oldest scan line that waits begins on every lane in RUN, which has ended the line before with IDLE: a line with blocks sends them in order, those that are late on HOLD and queued; a blanking line, or any
while no blocks are sent, sends a SOURCE_MODE that waits. NACK_SAMPLE shows its level in NACK_PIN; the oldest block without a sample
takes it, after the re-sends that came before it: a high one that is not masked queues the block, or after LOAD counts it as
unrecovered. LINK_LOAD makes the last re-sends that fit, sends LOAD, and counts every block still queued as unrecovered. CTL_CMD with
GO sends SOURCE_MODE at once when no blocks are being sent and no line is in progress, and else leaves it waiting; MODE 3, and any
write while the panel sequencer owns the link, is only reported. -/
def Obligations.LinkLinesAndControl : Prop :=
  (∀ (s : State) (line : Nat),
    (s.domOn dLINK = false → exec (.linkLineStart line) s = .next s) ∧
    (s.domOn dLINK = true → s.link.lines = [] →
      exec (.linkLineStart line) s = .next { s with link := { s.link with cur := none } }.flushMode) ∧
    (∀ (l : LinkLine) (rest : List LinkLine) (carries : Bool), s.domOn dLINK = true → s.link.lines = l :: rest →
      (l.line ≠ line → exec (.linkLineStart line) s = .next s) ∧
      (l.line = line → carries = (s.linkSends && !l.blank) →
      ∃ w : State,
        w.link = { s.link with lanes := w.link.lanes, lines := rest, len := l.len, cur := if carries then some l else none } ∧
        (∀ n, n ∈ s.runLanes → w.lane n = { s.lane n with scr := (w.lane n).scr, free := (w.lane n).free, synced := true }) ∧
        (∀ n, n ∉ s.runLanes → w.lane n = s.lane n) ∧
        w = { s with sent := w.sent, freeCtr := w.freeCtr, link := w.link } ∧
        (carries = false → exec (.linkLineStart line) s = .next w.flushMode) ∧
        (carries = true → Yields (exec (.linkLineStart line) s) fun t =>
          (∀ n (bs : List (Nat × Nat)), n ∈ s.runLanes →
            bs = ((laneBlocks (fun m => l.cfgs.getD m 0) n).zipIdx.map fun e =>
              (e.1, (w.lane n).free + e.2 * (16 * wordTime (s.fld F.LINK_CTRL_RATE)))) →
            t.lane n = { w.lane n with
              scr := (t.lane n).scr, free := (t.lane n).free, resent := 0, inLine := true,
              queue := bs.filter fun e => l.lateAt n e.1 e.2,
              waiting := ((s.lane n).waiting.map fun b => { b with closed := true }) ++
                bs.map fun e => ⟨l.line, e.1, e.2 + 32 * wordTime (s.fld F.LINK_CTRL_RATE), false, false⟩ }) ∧
          (∀ n, n ∉ s.runLanes → t.lane n = s.lane n) ∧
          t.link = { w.link with lanes := t.link.lanes, late := s.link.late +
            (s.runLanes.map fun n => (t.lane n).queue.length).sum } ∧
          RegsBut s t [R.LINK_LATE_BLOCKS] ∧
          t = { s with regs := t.regs, sent := t.sent, freeCtr := t.freeCtr, link := t.link })))) ∧
  (∀ (s : State) (n : BitVec 6) (level : Bool) (k : Nat), k = n.toNat →
    ((s.domOn dLINK = false ∨ lanes ≤ k) → exec (.nackSample n level) s = .next s ∧ exec (.linkLoad n) s = .next s) ∧
    (s.domOn dLINK = true → k < lanes → ∃ p : State,
      p.bit (F.LINK_LANE_STATE_NACK_PIN k) = level ∧ p.laneState k = s.laneState k ∧
      p.bit (F.LINK_LANE_STATE_NACK_MASKED k) = s.bit (F.LINK_LANE_STATE_NACK_MASKED k) ∧
      RegsBut s p [R.LINK_LANE_STATE k] ∧ SameButRegs s p ∧
      ((s.laneState k ≠ laneRUN ∨ (s.lane k).waiting = []) → exec (.nackSample n level) s = .next p) ∧
      (∀ b bs, s.laneState k = laneRUN → (s.lane k).waiting = b :: bs →
        ∃ (w v : State) (rest : List SentBlock) (take : Bool),
          w = (if b.closed then p else match s.link.cur with | some l => p.resendUpTo l k b.due | none => p) ∧
          rest = (w.lane k).waiting.drop 1 ∧ take = (level && !s.bit (F.LINK_LANE_STATE_NACK_MASKED k)) ∧
          v = w.setLane k { w.lane k with
            waiting := rest, allHigh := (w.lane k).allHigh && level, sampled := true,
            queue := if take && !b.closed then queueBlock (w.lane k).queue b.index b.due else (w.lane k).queue } ∧
          exec (.nackSample n level) s =
            (let x := if take && b.closed && !(rest.any fun r => r.line == b.line && r.index == b.index) && !b.counted then
                v.unrecovered k b.line else v
             .next (if b.closed && !(rest.any fun r => r.line == b.line) then x.lineSampled k else x)))) ∧
    (s.domOn dLINK = true → k < lanes → (s.link.cur = none ∨ (s.lane k).inLine = false ∨ s.laneState k ≠ laneRUN) →
      exec (.linkLoad n) s = .next s.panelLineEnd) ∧
    (∀ l, s.domOn dLINK = true → k < lanes → s.link.cur = some l → (s.lane k).inLine = true → s.laneState k = laneRUN →
      ∃ (w v : State) (js : List Nat),
        w = ((s.resendUpTo l k (8 * l.loadPos + 1)).idleTo k (8 * l.loadPos)).sendCtl k 0x01 (l.line % 8) ∧
        js = ((w.lane k).queue.map (·.1)).eraseDups ∧
        v = w.setLane k { w.lane k with
          queue := [], inLine := false,
          waiting := (w.lane k).waiting.map fun b =>
            { b with closed := true, counted := b.counted || (b.line == l.line && !b.closed && js.contains b.index) } } ∧
        exec (.linkLoad n) s =
          (let x := js.foldl (fun a _ => a.unrecovered k l.line) v
           .next (if (w.lane k).waiting.isEmpty then x.lineSampled k else x).modeDue.panelLineEnd))) ∧
  (∀ (s : State) (n line : Nat),
    (∃ u : State, s.unrecovered n line = u ∧ (u.lane n).unrec = (s.lane n).unrec + 1 ∧ u.link.unrec = s.link.unrec + 1 ∧
      (s.link.unrec = 0 → u.link.firstLane = n ∧ u.link.firstLine = line) ∧
      (s.link.unrec ≠ 0 → u.link.firstLane = s.link.firstLane ∧ u.link.firstLine = s.link.firstLine) ∧
      (∀ m, m ≠ n → u.lane m = s.lane m) ∧
      u.fld F.LINK_UNRECOVERED_COUNT = min (s.fld F.LINK_UNRECOVERED_COUNT + 1) (2 ^ 32 - 1) ∧
      RegsBut s u [R.LINK_UNRECOVERED, R.LINK_LANE_UNREC n] ∧ u = { s with regs := u.regs, link := u.link }) ∧
    (∀ (l : LinkLine) (tw limit fuel j t from' : Nat) (q : List (Nat × Nat)), (s.lane n).queue = (j, from') :: q →
      t = (s.lane n).boundary tw from' →
      ((limit ≤ t ∨ l.resendMax ≤ (s.lane n).resent ∨ 8 * l.loadPos < t + 16 * tw) → resendGo l tw n limit (fuel + 1) s = s) ∧
      (t < limit → (s.lane n).resent < l.resendMax → t + 16 * tw ≤ 8 * l.loadPos →
        ∃ u : State, resendGo l tw n limit (fuel + 1) s = resendGo l tw n limit fuel u ∧
          (u.lane n).queue = q ∧ (u.lane n).resent = (s.lane n).resent + 1 ∧
          (u.lane n).waiting = (s.lane n).waiting ++ [⟨l.line, j, t + 32 * tw, false, false⟩] ∧
          u.sent = ((s.idleTo n t).sendBlock l n j true false).sent ∧
          u.fld F.LINK_RESENDS_COUNT = min (s.fld F.LINK_RESENDS_COUNT + 1) (2 ^ 32 - 1) ∧
          (∀ m, m ≠ n → u.lane m = s.lane m) ∧ RegsBut s u [R.LINK_RESENDS, R.LINK_LANE_RESENDS n])) ∧
    (∀ (hdr : BitVec 2) (w : DWord), (s.lane n).synced = true →
      (s.laneSend n hdr [w]).sent = (if s.padHeld dLINK then [] else
        [Out.laneWord n hdr (BitVec.ofNat 64 (ofBits (scramble (s.lane n).scr w).2))]) ++ s.sent ∧
      (s.laneSend n hdr [w]).lane n = { s.lane n with
        scr := (scramble (s.lane n).scr w).1, free := (s.lane n).free + wordTime (s.fld F.LINK_CTRL_RATE) })) ∧
  (∀ (s : State) (v : Word), s.serves R.LINK_CTL_CMD = true →
    ((s.panelOwns = true ∨ (bitOf v 31 = true ∧ bitsOf v 0 2 = 3)) →
      Yields (exec (.ctlCmdGo v) s) fun t => RegsBut s t (clampRegs 0x41) ∧ SameButLog s t) ∧
    (s.panelOwns = false → bitOf v 31 = false → exec (.ctlCmdGo v) s = .next s) ∧
    (s.panelOwns = false → bitOf v 31 = true → bitsOf v 0 2 ≠ 3 →
      ((s.linkSends = true ∨ s.lineInProgress = true) →
        exec (.ctlCmdGo v) s = .next { s with link := { s.link with mode := some (bitsOf v 0 2) } }) ∧
      (s.linkSends = false → s.lineInProgress = false →
        Yields (exec (.ctlCmdGo v) s) fun t =>
          (s.runLanes ≠ [] → t.fld F.LINK_STATUS_SRC_MODE = bitsOf v 0 2) ∧ (s.runLanes = [] → t.regs = s.regs) ∧
          t.bit F.LINK_STATUS_TRAINING = s.bit F.LINK_STATUS_TRAINING ∧
          t.sent.length = s.sent.length + (if s.padHeld dLINK then 0 else 8 * s.runLanes.length) ∧
          (∀ n, n ∈ s.runLanes → t.lane n = { s.lane n with scr := (t.lane n).scr, free := (t.lane n).free, synced := false }) ∧
          (∀ n, n ∉ s.runLanes → t.lane n = s.lane n) ∧ RegsBut s t [R.LINK_STATUS] ∧
          t = { s with regs := t.regs, sent := t.sent, freeCtr := t.freeCtr,
                       link := { s.link with mode := none, lanes := t.link.lanes } })))

/-! ### Panel power (10) -/

/-- The commands of the panel sequencer (R248, R250 to R252). UP in DOWN is refused as BUSY, in OFF or FAULT without RUN as NO_SCAN,
in UP or ON it has no effect; in OFF or FAULT with RUN it starts step 1: FORCE is OFF, HALT is set, AVDD's switch opens and AVDD is
requested on; with PFW# low its cause then acts at once. DOWN in UP or ON starts a power-down with CAUSE CMD; in FAULT it gives OFF;
else it has no effect. A power-down of a panel that is UP or ON takes it to DOWN, step 1, with HALT set, and its step 1 ends when no
link line is in progress; in DOWN only a power-fail cause changes anything: the variant. -/
def Obligations.PanelCommandsAct : Prop :=
  (∀ s : State, s.serves R.HVD_PANEL_CMD = true →
    (¬((s.panelState = pOFF ∨ s.panelState = pFAULT) ∧ s.bit F.SCAN_CTRL_RUN = true) →
      exec .panelUp s = .next (s.setFld F.HVD_PANEL_STATUS_RESULT
        (if s.panelState = pDOWN then 1 else if s.panelState = pOFF ∨ s.panelState = pFAULT then 2 else 3))) ∧
    ((s.panelState = pOFF ∨ s.panelState = pFAULT) → s.bit F.SCAN_CTRL_RUN = true →
      ∃ u : State, exec .panelUp s = .next (if s.hvd.pfwLow then u.panelDown cauPFW true else u) ∧
        u.fld F.HVD_PANEL_STATUS_RESULT = 0 ∧ u.panelState = pUP ∧ u.panelStep = 1 ∧ u.fld F.GATE_CTRL_FORCE = 1 ∧
        (s.domOn dLINK = true → u.bit F.LINK_CTRL_HALT = true) ∧ (s.domOn dLINK = false → u.rd R.LINK_CTRL = s.rd R.LINK_CTRL) ∧
        u.hvd = { s.hvd with failed := false, powerFail := false, requested := [0], latches := 0, swAvdd := false, attempts := 1 } ∧
        u.sent.take 2 = [.pmbus (writeByte (s.railAddr 0).1 0x01 0x80), .pmbus (writeByte (s.railAddr 0).1 0x00 (s.railAddr 0).2)] ∧
        RegsButEvents (s.fld F.HVD_EVT_RING) s u [R.HVD_PANEL_STATUS, R.GATE_CTRL, R.LINK_CTRL] ∧
        u = { s with regs := u.regs, hvd := u.hvd, rings := u.rings, sent := u.sent, pcie := u.pcie,
                     summaryOwed := u.summaryOwed }) ∧
    ((s.panelState = pUP ∨ s.panelState = pON) →
      exec .panelDown s = .next ((s.setFld F.HVD_PANEL_STATUS_RESULT 0).panelDown cauCMD false)) ∧
    (s.panelState = pFAULT →
      Yields (exec .panelDown s) fun t =>
        t.fld F.HVD_PANEL_STATUS_RESULT = 3 ∧ t.panelState = pOFF ∧ t.panelStep = s.panelStep ∧
        RegsButEvents (s.fld F.HVD_EVT_RING) s t [R.HVD_PANEL_STATUS] ∧ SameButEvents s t) ∧
    (s.panelState ≠ pUP → s.panelState ≠ pON → s.panelState ≠ pFAULT →
      exec .panelDown s = .next (s.setFld F.HVD_PANEL_STATUS_RESULT 3))) ∧
  (∀ (w : State) (cause : Nat) (pf : Bool), w.domOn dPANEL = true →
    (w.panelState = pDOWN → w.panelDown cause pf = (if pf then { w with hvd := { w.hvd with powerFail := true } } else w)) ∧
    ((w.panelState = pUP ∨ w.panelState = pON) →
      ∃ u : State, w.panelDown cause pf = u.panelLineEnd ∧
        u.panelState = pDOWN ∧ u.panelStep = 1 ∧ u.fld F.HVD_PANEL_STATUS_CAUSE = cause % 16 ∧
        (w.domOn dLINK = true → u.bit F.LINK_CTRL_HALT = true) ∧ (w.domOn dLINK = false → u.rd R.LINK_CTRL = w.rd R.LINK_CTRL) ∧
        RegsButEvents (w.fld F.HVD_EVT_RING) w u [R.HVD_PANEL_STATUS, R.LINK_CTRL] ∧
        u = { w with regs := u.regs, hvd := { w.hvd with powerFail := pf }, rings := u.rings, sent := u.sent, pcie := u.pcie,
                     summaryOwed := u.summaryOwed }) ∧
    (w.panelState ≠ pUP → w.panelState ≠ pON → w.panelState ≠ pDOWN → w.panelDown cause pf = w) ∧
    ((w.panelState ≠ pDOWN ∨ w.panelStep ≠ 1 ∨ w.lineInProgress = true) → w.panelLineEnd = w) ∧
    (w.panelState = pDOWN → w.panelStep = 1 → w.lineInProgress = false →
      w.panelLineEnd = (if w.domOn dLINK then w.sendMode 1 else w).setFld F.HVD_PANEL_STATUS_STEP 2))

/-- What ends a step of the panel sequencer (R246, R247, R250, R251, R254). RAIL_REQ_ACK: the monitor of the awaited rail shows OK
after an on request, LOW after an off request, at a voltage that is otherwise free, and the step ends. RAIL_REQ_TIMEOUT brings the
voltage that the monitor then sees: where the rail shows what was asked, the step ends; a NACKed or timed-out attempt, but for the
power-fail variant, is made again up to RETRIES times, and then counts as RAIL_FAIL: a power-up goes down with CAUSE RAIL_FAIL, a
power-down goes on. PANEL_SEQ_TIMER ends step 2 of power-up and steps 2 and 3 of power-down, and in the power-fail variant steps 4 to
6, at a free voltage. The next steps: references, VGH after VGL, the link, in power-down each rail off that was requested, and at its
end FORCE is OFF, the lanes are OFF and the state is OFF, or FAULT after a failed request. Where nothing is awaited, nothing
changes. -/
def Obligations.PanelStepsEnd : Prop :=
  (∀ (s : State) (mv : BitVec 16) (nacked : Bool), s.runs = true →
    (s.railAwaited = none →
      exec .railReqAck s = .next (s.after s) ∧ exec (.railReqTimeout ⟨nacked, mv⟩) s = .next (s.after s)) ∧
    (∀ (r : Nat) (up : Bool), s.railAwaited = some r → up = (s.panelState == pUP) →
      ∃ p : State, exec .railReqAck s = .next (s.after (p.railNext up)) ∧
        (up = true → p.railOk r = true) ∧ (up = false → p.railLow r = true) ∧
        p.panelState = s.panelState ∧ p.panelStep = s.panelStep ∧ RegsBut s p [R.HVD_PANEL_STATUS] ∧
        (∀ i, i < 3 → i ≠ r → p.railMv i = s.railMv i) ∧
        p = { s with regs := p.regs, freeCtr := p.freeCtr, hvd := { s.hvd with railMv := p.hvd.railMv } }) ∧
    (∀ (r : Nat) (up shows timed : Bool), s.railAwaited = some r → up = (s.panelState == pUP) →
      shows = (if up then decide (s.railTh r ≤ mv.toNat) else decide (mv.toNat ≤ railFloor r)) → timed = (!up && s.hvd.powerFail) →
      ∃ p : State, p.railOk r = decide (s.railTh r ≤ mv.toNat) ∧ p.railLow r = decide (mv.toNat ≤ railFloor r) ∧
        p.panelState = s.panelState ∧ p.panelStep = s.panelStep ∧ RegsBut s p [R.HVD_PANEL_STATUS] ∧
        p.railMv r = mv.toNat ∧ (∀ i, i < 3 → i ≠ r → p.railMv i = s.railMv i) ∧
        p = { s with regs := p.regs, hvd := { s.hvd with railMv := p.hvd.railMv } } ∧
        (shows = true → (timed = true ∨ nacked = false) →
          exec (.railReqTimeout ⟨nacked, mv⟩) s = .next (s.after (p.railNext up))) ∧
        (shows = false → timed = true → exec (.railReqTimeout ⟨nacked, mv⟩) s = .next (s.after p)) ∧
        ((shows = false ∨ nacked = true) → timed = false → s.hvd.attempts ≤ s.fld F.HVD_RAIL_REQ_RETRIES →
          exec (.railReqTimeout ⟨nacked, mv⟩) s = .next (s.after
            { p with hvd := { p.hvd with attempts := s.hvd.attempts + 1 },
                     sent := .pmbus (writeByte (s.railAddr r).1 0x01 (if up then 0x80 else 0x00)) ::
                       .pmbus (writeByte (s.railAddr r).1 0x00 (s.railAddr r).2) :: s.sent })) ∧
        ((shows = false ∨ nacked = true) → timed = false → s.fld F.HVD_RAIL_REQ_RETRIES < s.hvd.attempts →
          ∃ u : State, u.hvd = { p.hvd with failed := true } ∧
            u.fld F.HVD_RAIL_FAILS_COUNT = min (s.fld F.HVD_RAIL_FAILS_COUNT + 1) (2 ^ F.HVD_RAIL_FAILS_COUNT.w - 1) ∧
            RegsButEvents (s.fld F.HVD_EVT_RING) p u [R.HVD_RAIL_FAILS] ∧
            u = { p with regs := u.regs, hvd := u.hvd, freeCtr := u.freeCtr, rings := u.rings, sent := u.sent, pcie := u.pcie,
                         summaryOwed := u.summaryOwed } ∧
            exec (.railReqTimeout ⟨nacked, mv⟩) s = .next (s.after (if up then u.panelDown cauRAILFAIL false else u.downNext))))) ∧
  (∀ s : State, s.runs = true →
    (s.domOn dPANEL = true → s.panelState = pUP → s.panelStep = 2 → exec .panelSeqTimer s = .next (s.after s.upVgl)) ∧
    (s.domOn dPANEL = true → s.panelState = pDOWN →
      (s.panelStep = 2 → exec .panelSeqTimer s =
        .next (s.after ((s.setFld F.GATE_CTRL_FORCE 2).setFld F.HVD_PANEL_STATUS_STEP 3))) ∧
      (s.panelStep = 3 → exec .panelSeqTimer s = .next (s.after s.downNext)) ∧
      (∀ r, stepRail false s.panelStep = some r → s.hvd.powerFail = true →
        ∃ p : State, exec .panelSeqTimer s = .next (s.after p.downNext) ∧
          p.panelState = s.panelState ∧ p.panelStep = s.panelStep ∧ RegsBut s p [R.HVD_PANEL_STATUS] ∧
          (∀ i, i < 3 → i ≠ r → p.railMv i = s.railMv i) ∧
          p = { s with regs := p.regs, freeCtr := p.freeCtr, hvd := { s.hvd with railMv := p.hvd.railMv } })) ∧
    ((s.domOn dPANEL = false ∨ (s.panelState ≠ pUP ∧ s.panelState ≠ pDOWN) ∨ (s.panelState = pUP ∧ s.panelStep ≠ 2) ∨
        (s.panelState = pDOWN ∧ s.panelStep ≠ 2 ∧ s.panelStep ≠ 3 ∧
          (s.hvd.powerFail = false ∨ stepRail false s.panelStep = none))) →
      exec .panelSeqTimer s = .next (s.after s))) ∧
  (∀ w : State,
    (w.panelStep = 1 → w.railNext true = { w.setFld F.HVD_PANEL_STATUS_STEP 2 with hvd := { w.hvd with refs := true } }) ∧
    (∃ u : State, w.upVgl = u ∧ u.panelStep = 3 ∧ u.panelState = w.panelState ∧
      u.hvd = { w.hvd with swVgl := false, swGates := false, requested := w.hvd.requested ++ [1], attempts := 1 } ∧
      u.sent = .pmbus (writeByte (w.railAddr 1).1 0x01 0x80) :: .pmbus (writeByte (w.railAddr 1).1 0x00 (w.railAddr 1).2) :: w.sent ∧
      RegsBut w u [R.HVD_PANEL_STATUS] ∧ u = { w with regs := u.regs, hvd := u.hvd, sent := u.sent }) ∧
    (w.panelStep = 3 → ∃ u : State, w.railNext true = u ∧ u.panelStep = 4 ∧ u.panelState = w.panelState ∧
      u.hvd = { w.hvd with swVgh := false, requested := w.hvd.requested ++ [2], attempts := 1 } ∧
      u.sent = .pmbus (writeByte (w.railAddr 2).1 0x01 0x80) :: .pmbus (writeByte (w.railAddr 2).1 0x00 (w.railAddr 2).2) :: w.sent ∧
      RegsBut w u [R.HVD_PANEL_STATUS] ∧ u = { w with regs := u.regs, hvd := u.hvd, sent := u.sent }) ∧
    (w.panelStep = 4 → ∃ u : State, u = w.setFld F.HVD_PANEL_STATUS_STEP 5 ∧
      w.railNext true =
        (if w.domOn dLINK && !w.bit F.LINK_STATUS_TRAINING && !w.trainable.isEmpty then u.trainGo else u).panelTrained) ∧
    w.railNext false = downEnter 5 (w.panelStep + 1) w ∧
    (∀ fuel k r, stepRail false k = some r →
      ∃ u : State, u.panelStep = k ∧ u.panelState = w.panelState ∧
        u.hvd = { w.hvd with
          swVgh := w.hvd.swVgh || k == 4, swVgl := w.hvd.swVgl || k == 5, swAvdd := w.hvd.swAvdd || k == 6,
          refs := w.hvd.refs && k != 6, attempts := 1 } ∧
        RegsBut w u [R.HVD_PANEL_STATUS] ∧ u = { w with regs := u.regs, hvd := u.hvd } ∧
        (r ∈ w.hvd.requested → downEnter (fuel + 1) k w =
          { u with sent := .pmbus (writeByte (w.railAddr r).1 0x01 0x00) ::
              .pmbus (writeByte (w.railAddr r).1 0x00 (w.railAddr r).2) :: w.sent }) ∧
        (r ∉ w.hvd.requested → downEnter (fuel + 1) k w = downEnter fuel (k + 1) u)) ∧
    (∀ fuel, ∃ u : State, u.fld F.GATE_CTRL_FORCE = 1 ∧ RegsBut w u [R.GATE_CTRL] ∧
      u = { w with regs := u.regs, hvd := { w.hvd with swGates := true } } ∧
      downEnter (fuel + 1) 7 w =
        ({ (if w.domOn dLINK then u.trainStop else u).bump F.HVD_DISCHARGES_COUNT with
            hvd := { u.hvd with failed := false, powerFail := false, requested := [] } }.setPanel
          (if w.hvd.failed then pFAULT else pOFF) (w.fld F.HVD_PANEL_STATUS_CAUSE)).setFld F.HVD_PANEL_STATUS_STEP 0))

/-- Power fail, a lost rail and the thermistors (R205, R245, R246, R252, R254, R255, R287, R333). PFW# low, once, writes the buffer of
the persistent store, sets PFW and counts, starts the discharge of a panel with CAUSE PFW, stops the label port and abandons a
checkpoint. PFW# high clears PFW and the label port's STOPPED, and a checkpoint that waits may start. RAIL_LOSS brings the voltage of
a rail: where OK is lost by it in UP or ON it is counted and the discharge starts with CAUSE RAIL_LOSS. A conversion of an enabled
channel that is its eighth or later gives the mean of the last eight as CODE, and VALID when it lies within the limits, with
THERM_INVALID when it no longer does; an earlier one leaves both open. -/
def Obligations.PanelInputsAct : Prop :=
  (∀ s : State,
    (s.runs = true → s.hvd.pfwLow = true → exec .pfwAssert s = .next s) ∧
    (s.runs = true → s.hvd.pfwLow = false →
      ∃ v w : State, v = s.pstore.buf.foldl (fun x _ => x.pstoreStep) s ∧ v.pstore.buf = [] ∧
        exec .pfwAssert s = .next (s.after (((if s.domOn dPANEL then w.panelDown cauPFW true else w).labelPfw).abandonAll
          fun m => m.act == 3)) ∧
        (s.domOn dPANEL = false → w = { v with hvd := { v.hvd with pfwLow := true } }) ∧
        (s.domOn dPANEL = true →
          w.bit F.HVD_PANEL_STATUS_PFW = true ∧ w.panelState = v.panelState ∧
          w.fld F.HVD_PFW_COUNT_COUNT = min (v.fld F.HVD_PFW_COUNT_COUNT + 1) (2 ^ F.HVD_PFW_COUNT_COUNT.w - 1) ∧
          RegsButEvents (v.fld F.HVD_EVT_RING) v w [R.HVD_PANEL_STATUS, R.HVD_PFW_COUNT] ∧
          w = { v with regs := w.regs, hvd := { v.hvd with pfwLow := true }, rings := w.rings, sent := w.sent, pcie := w.pcie,
                       summaryOwed := w.summaryOwed })) ∧
    (s.runs = true → ∃ u : State, exec .pfwDeassert s = .next (s.after u.ckptTry) ∧
      (s.domOn dPANEL = true → u.bit F.HVD_PANEL_STATUS_PFW = false ∧ u.panelState = s.panelState) ∧
      (s.domOn dLABEL = true → u.bit F.LABEL_STATUS_STOPPED = false) ∧
      (s.domOn dPANEL = false → u.rd R.HVD_PANEL_STATUS = s.rd R.HVD_PANEL_STATUS) ∧
      (s.domOn dLABEL = false → u.rd R.LABEL_STATUS = s.rd R.LABEL_STATUS) ∧
      RegsBut s u [R.HVD_PANEL_STATUS, R.LABEL_STATUS] ∧
      u = { s with regs := u.regs, hvd := { s.hvd with pfwLow := false } }) ∧
    (s.runs = false →
      exec .pfwAssert s = .next { s with hvd := { s.hvd with pfwLow := true } } ∧ exec .pfwDeassert s = .next s.pfwHigh)) ∧
  (∀ (s : State) (r : BitVec 2) (mv : BitVec 16),
    (3 ≤ r.toNat → exec (.railLoss ⟨r, mv⟩) s = .next s) ∧
    (r.toNat < 3 → ∃ p : State, RegsBut s p [R.HVD_PANEL_STATUS] ∧
      (s.domOn dPANEL = true → p.railOk r.toNat = decide (s.railTh r.toNat ≤ mv.toNat) ∧
        p.railLow r.toNat = decide (mv.toNat ≤ railFloor r.toNat) ∧ p.panelState = s.panelState) ∧
      (s.domOn dPANEL = false → p.regs = s.regs) ∧
      p.railMv r.toNat = mv.toNat ∧ (∀ i, i < 3 → i ≠ r.toNat → p.railMv i = s.railMv i) ∧
      p = { s with regs := p.regs, hvd := { s.hvd with railMv := p.hvd.railMv } } ∧
      ((s.domOn dPANEL = false ∨ s.railOk r.toNat = false ∨ p.railOk r.toNat = true ∨
          (s.panelState ≠ pUP ∧ s.panelState ≠ pON)) → exec (.railLoss ⟨r, mv⟩) s = .next p) ∧
      (s.domOn dPANEL = true → s.railOk r.toNat = true → p.railOk r.toNat = false → (s.panelState = pUP ∨ s.panelState = pON) →
        ∃ u : State, exec (.railLoss ⟨r, mv⟩) s = .next (u.panelDown cauRAILLOSS true) ∧
          u.fld F.HVD_RAIL_FAILS_COUNT = min (s.fld F.HVD_RAIL_FAILS_COUNT + 1) (2 ^ F.HVD_RAIL_FAILS_COUNT.w - 1) ∧
          RegsButEvents (s.fld F.HVD_EVT_RING) p u [R.HVD_RAIL_FAILS] ∧ SameButEvents p u))) ∧
  (∀ (s : State) (ch : Bool) (code : BitVec 12) (w : List Nat) (c : Nat), w = (code.toNat :: s.thermWindow (b2n ch)).take 8 →
    c = w.foldl (· + ·) 0 / 8 →
    ((s.domOn dPANEL = false ∨ s.fld F.HVD_THERM_CFG_EN / 2 ^ b2n ch % 2 = 0) → exec (.thermConvert ch code) s = .next s) ∧
    (s.domOn dPANEL = true → s.fld F.HVD_THERM_CFG_EN / 2 ^ b2n ch % 2 = 1 → w.length < 8 →
      Yields (exec (.thermConvert ch code) s) fun t =>
        t.bit (thermFlds (b2n ch)).2.2 = false ∧ t.thermWindow (b2n ch) = w ∧
        t.thermWindow (1 - b2n ch) = s.thermWindow (1 - b2n ch) ∧ RegsBut s t [(thermFlds (b2n ch)).2.2.off] ∧
        t = { s with regs := t.regs, hvd := { s.hvd with therm0 := t.hvd.therm0, therm1 := t.hvd.therm1 }, freeCtr := t.freeCtr }) ∧
    (s.domOn dPANEL = true → s.fld F.HVD_THERM_CFG_EN / 2 ^ b2n ch % 2 = 1 → w.length = 8 → c < 4096 →
      Yields (exec (.thermConvert ch code) s) fun t =>
        t.fld (thermFlds (b2n ch)).2.1 = c ∧ t.fld (thermFlds (b2n ch)).1 = wrapInt 12 (s.thermTemp (b2n ch) c) ∧
        t.bit (thermFlds (b2n ch)).2.2 =
          (decide (s.fld F.HVD_THERM_CFG_SHORT_LIM ≤ c) && decide (c ≤ s.fld F.HVD_THERM_CFG_OPEN_LIM)) ∧
        t.thermWindow (b2n ch) = w ∧ t.thermWindow (1 - b2n ch) = s.thermWindow (1 - b2n ch) ∧
        RegsButEvents (s.fld F.HVD_EVT_RING) s t [(thermFlds (b2n ch)).2.2.off] ∧
        t = { s with regs := t.regs, hvd := { s.hvd with therm0 := t.hvd.therm0, therm1 := t.hvd.therm1 }, freeCtr := t.freeCtr,
                     rings := t.rings, sent := t.sent, pcie := t.pcie, summaryOwed := t.summaryOwed } ∧
        (s.bit (thermFlds (b2n ch)).2.2 = false ∨ t.bit (thermFlds (b2n ch)).2.2 = true →
          t.sent = s.sent ∧ t.rings = s.rings ∧ t.freeCtr = s.freeCtr)))

/-! ### Protection (11) -/

/-- Key slots (R267, R268). PROGRAM with all eight words, and ERASE, on a slot that is neither LOCKED nor used by a job, and LOCK on a
VALID slot, start the write of a new copy and clear KEY_DATA; a LOCKED slot, an unsuited LOCK, a running write and a missing word are
refused with their results, and nothing but KEY_RESULT, KEY_DATA and the clamp report changes. When the write is done, the slot is
VALID, EMPTY or LOCKED as the operation says, VALID with the key taken; the copy that was not in use holds it, every other word of
the persistent store and every other slot is as it was, the store's accepted writes are made, and RESULT is OK, with KEY_CHANGED,
where HOST is ON. With no write running KEY_WRITE_DONE changes nothing. -/
def Obligations.KeySlotsChange : Prop :=
  (∀ (s : State) (slot : BitVec 4) (c : Instr) (op r : Nat), s.serves R.SEAL_KEY_CMD = true →
    ((c = .keyProgram slot ∧ op = 1) ∨ (c = .keyErase slot ∧ op = 2) ∨ (c = .keyLock slot ∧ op = 3)) →
    (r = if s.keys.op.isSome then 2
          else if (op ≠ 3 ∧ s.keyState slot.toNat = keyLOCKED) ∨ (op = 3 ∧ s.keyState slot.toNat ≠ keyVALID) then 1
          else if op ≠ 3 ∧ s.keyBusy slot.toNat = true then 2
          else if op = 1 ∧ ((List.range 8).any fun i => (SMap.find? s.keys.data i).isNone) = true then 3 else 0) →
    (r = 0 →
      Yields (exec c s) fun t =>
        t.fld F.SEAL_KEY_RESULT_RESULT = 4 ∧
        t.keys = ⟨[], some (slot.toNat, op),
          if op = 1 then wordBytes ((List.range 8).map fun i => (SMap.find? s.keys.data i).getD 0)
          else if op = 3 then (s.keyOf slot.toNat).getD [] else List.replicate 32 0⟩ ∧
        RegsBut s t [R.SEAL_KEY_RESULT] ∧ t = { s with regs := t.regs, keys := t.keys }) ∧
    (r ≠ 0 →
      Yields (exec c s) fun t =>
        t.fld F.SEAL_KEY_RESULT_RESULT = r ∧ t.keys = { s.keys with data := [] } ∧
        RegsBut s t (R.SEAL_KEY_RESULT :: clampRegs 0x17) ∧
        t = { s with regs := t.regs, clampLog := t.clampLog, keys := t.keys })) ∧
  (∀ s : State, s.keys.op = none → exec .keyWriteDone s = .next s) ∧
  (∀ (s : State) (slot op st : Nat), s.keys.op = some (slot, op) → (op = 1 ∨ op = 2 ∨ op = 3) →
    st = (if op = 1 then keyVALID else if op = 2 then keyEMPTY else keyLOCKED) →
    ∃ (u : State) (k : Nat),
      exec .keyWriteDone s = .next (if s.domOn dHOST then
          ((u.setFld F.SEAL_KEY_RESULT_RESULT 0).raise 0x17 0).post F.SEAL_EVT_RING 0x0A01
            [(4, slot), (2, op), (2, st), (24, u.keyKcv slot)]
        else u) ∧
      u.keys = { s.keys with op := none, opKey := [] } ∧ u.keyState slot = st ∧
      (op = 1 → s.keys.opKey.length = 32 → u.keyOf slot = some s.keys.opKey) ∧
      (k = 0 ∨ k = 1) ∧ s.keyUsed slot ≠ some k ∧ u.keyUsed slot = some k ∧
      (∀ i, (i < keyWord (2 * slot + k) ∨ keyWord (2 * slot + k) + 11 ≤ i) → u.persRead i = s.persRead i) ∧
      (∀ n, n ≠ slot → u.keyState n = s.keyState n ∧ u.keyOf n = s.keyOf n) ∧ u.pstore.buf = [] ∧
      RegsButEvents (s.fld F.MAINT_EVT_RING) s u [R.PSTORE_WRITES_LO, R.PSTORE_WRITES_HI] ∧
      u = { s with regs := u.regs, keys := u.keys, pstore := u.pstore, rings := u.rings, sent := u.sent, pcie := u.pcie,
                   summaryOwed := u.summaryOwed })

/-- Assay (R263, R266). POLICY is set only: ASSAY_HIDE, which the persistent store holds, is 1 afterwards if it was, or if the write
says so, and nothing else changes. Publication shows the results of the frame that waits, of each half that is ON and, with Dawn ON,
of the frame and of the rectangles, with the mismatches and what is protected; a frame that fails is counted, and reported with
MISMATCH where EVT_MODE allows it; nothing waits then. With nothing waiting it does nothing. -/
def Obligations.AssayPolicyAndPublication : Prop :=
  ∀ s : State,
    (∀ v, s.serves R.SEAL_POLICY = true →
      (bitOf v 0 = false → exec (.assayHideSet v) s = .next s) ∧
      (bitOf v 0 = true → Yields (exec (.assayHideSet v) s) fun t =>
        t.assayHide = true ∧ (∀ i, i ≠ persPolicy → t.persRead i = s.persRead i) ∧
        t = { s with pstore := { s.pstore with buf := t.pstore.buf } })) ∧
    (s.assay.pub = none → exec .assayPublish s = .next s) ∧
    (∀ (p : AssayPub) (fails count : Nat), s.assay.pub = some p →
      fails = p.rects.foldl (fun a r => if r.failed then a + 2 ^ r.n else a) 0 → count = (p.rects.filter (·.failed)).length →
      ∃ u : State,
        (∀ h, s.domOn (halfDomain h) = true →
          u.rd (R.ASSAY_HALF_CRC h) = (match h with | .dawn => p.dawn | .dusk => p.dusk) ∧ u.rd (R.ASSAY_HALF_FRAME h) = p.frameNo) ∧
        (∀ h, s.domOn (halfDomain h) = false →
          u.rd (R.ASSAY_HALF_CRC h) = s.rd (R.ASSAY_HALF_CRC h) ∧ u.rd (R.ASSAY_HALF_FRAME h) = s.rd (R.ASSAY_HALF_FRAME h)) ∧
        u.assay.pub = none ∧ u.assay.run = s.assay.run ∧
        u.assay.protDawn = (if s.domOn dDAWN then p.protDawn else s.assay.protDawn) ∧
        u.assay.protDusk = (if s.domOn dDUSK then p.protDusk else s.assay.protDusk) ∧
        u = { s with regs := u.regs, assay := u.assay } ∧
        (s.domOn dDAWN = false → exec .assayPublish s = .next u ∧
          u.assay = { s.assay with pub := none, protDusk := u.assay.protDusk } ∧
          RegsBut s u [R.ASSAY_HALF_CRC .dusk, R.ASSAY_HALF_FRAME .dusk]) ∧
        (s.domOn dDAWN = true →
          u.rd R.ASSAY_FRAME_CRC = p.crc ∧ u.rd R.ASSAY_RESULT_FRAME = p.frameNo ∧
          (∀ n, n < 64 → u.rd (R.ASSAY_RECT_RESULT n) = (match p.rects.find? (·.n == n) with | some r => r.crc | none => 0)) ∧
          u.fld F.ASSAY_MISMATCH_LO_MAP = fails % 2 ^ 32 ∧ u.fld F.ASSAY_MISMATCH_HI_MAP = fails / 2 ^ 32 % 2 ^ 32 ∧
          u.bit F.ASSAY_STATUS_FRAME_FAIL = p.failed ∧ u.fld F.ASSAY_STATUS_COUNT = count % 128 ∧
          u.fld F.ASSAY_MISMATCH_FRAMES_COUNT =
            (if p.failed || count != 0 then min (s.fld F.ASSAY_MISMATCH_FRAMES_COUNT + 1) (2 ^ 32 - 1)
             else s.fld F.ASSAY_MISMATCH_FRAMES_COUNT) ∧
          u.assay.protFrame = (p.protDawn || p.protDusk) ∧
          u.assay.protRects = ((p.rects.filter fun r => r.prot).map fun r => r.n) ∧
          u.assay.armed = (!(p.failed || count != 0)) ∧
          RegsBut s u ([R.ASSAY_HALF_CRC .dawn, R.ASSAY_HALF_FRAME .dawn, R.ASSAY_HALF_CRC .dusk, R.ASSAY_HALF_FRAME .dusk,
            R.ASSAY_FRAME_CRC, R.ASSAY_RESULT_FRAME, R.ASSAY_MISMATCH_LO, R.ASSAY_MISMATCH_HI, R.ASSAY_STATUS,
            R.ASSAY_MISMATCH_FRAMES] ++ (List.range 64).map R.ASSAY_RECT_RESULT) ∧
          exec .assayPublish s =
            .next (if (p.failed || count != 0) && (!p.onceMode || s.assay.armed) then
                (u.raise 0x26 0).post F.ASSAY_EVT_RING 0x0A00
                  [(1, b2n p.failed), (7, count), (32, p.frameNo.toNat), (32, fails), (32, fails / 2 ^ 32)]
              else u)))

/-! ### The label port (12) -/

/-- LABEL descriptors (R47, R48, R56, R58, R64, R283). DST_HOST completes with REFUSED, an empty rectangle with OK_ZERO; the first
reason of R283 that applies refuses the descriptor with REFUSED and RESIDUE = LENGTH, recording and reporting it. An accepted one joins
LANDING of its panel; the first one there begins to land: the first ever fills CURRENT, a protected local source ends it, and its
first burst starts. A burst of one whose turn it is lands its bytes; a failed source, or an abort before the last burst, ends the
descriptor and gives LANDING on. When all rows have landed, the update is the last pending one, its pixels are in REQUEST and no other
pixel changes, the descriptor completes with OK, and LANDING is given on; where no one waits for it, nothing follows. LABEL_LANDED of
any other cage changes nothing. -/
def Obligations.LabelsAreSubmitted : Prop :=
  (∀ (s : State) (n : BitVec 5) (c : Cage) (x : LabelUpd) (r : Nat), s.cage? n.toNat = some c → c.phase = .start → c.desc.ty = 5 →
    x = s.labelOf c → r = s.labelReason c x →
    (c.desc.dstHost = true → exec (.descLabel n) s = .next (s.finish n.toNat c stREFUSED c.desc.len.toNat)) ∧
    (c.desc.dstHost = false → (x.w = 0 ∨ x.h = 0) → exec (.descLabel n) s = .next (s.finish n.toNat c stOKZERO 0)) ∧
    (c.desc.dstHost = false → x.w ≠ 0 → x.h ≠ 0 → r ≠ 0 →
      ∃ u : State, exec (.descLabel n) s =
          .next (((u.post F.LABEL_EVT_RING 0x0702
            [(3, x.panel), (4, r), (13, x.queue), (16, x.tag), (16, u.qHead x.queue)]).finish n.toNat c stREFUSED
              c.desc.len.toNat).landNext) ∧
        (s.domOn dLABEL = false → u.regs = s.regs ∧ u.sent = s.sent ∧ u.pcie = s.pcie ∧ u.summaryOwed = s.summaryOwed) ∧
        (s.domOn dLABEL = true →
          u.fld F.LABEL_LAST_REFUSE_REASON = r ∧ u.fld F.LABEL_LAST_REFUSE_PANEL = x.panel ∧
          u.fld F.LABEL_LAST_REFUSE_QUEUE = x.queue % 2 ^ 13 ∧
          u.fld (F.LABEL_PANEL_REFUSED_COUNT x.panel) = min (s.fld (F.LABEL_PANEL_REFUSED_COUNT x.panel) + 1) (2 ^ 32 - 1)) ∧
        RegsBut s u [R.LABEL_LAST_REFUSE, R.LABEL_PANEL_REFUSED x.panel, 0x4400C, R.PCIEX_LINK_STATUS] ∧
        u = { s with regs := u.regs, sent := u.sent, pcie := u.pcie, summaryOwed := u.summaryOwed,
                     label := { s.label with landing := s.label.landing.filter fun e => e.2 != n.toNat } }) ∧
    (∀ w : State, c.desc.dstHost = false → x.w ≠ 0 → x.h ≠ 0 → r = 0 →
      w = { s with label := { s.label with landing :=
        if (s.label.landing.any fun e => e.2 == n.toNat) then s.label.landing else s.label.landing ++ [(x.panel, n.toNat)] } } →
      (w.landsNow n.toNat = false →
        exec (.descLabel n) s = .next (w.setCage n.toNat { c with phase := .landing, left := x.bytes }).landNext) ∧
      (w.landsNow n.toNat = true → ∀ (d : Cage) (v : State), d = { c with phase := .landing, left := x.bytes, unit := some [] } →
        v = (if s.label.stale then
            { w with label := { w.label with stale := false, cur := [], fill := s.fld F.LABEL_CTRL_CLEAR_ROW } } else w) →
        exec (.descLabel n) s =
          .next (if !c.desc.srcHost && s.srcProtected c.src x.bytes then v.landFail n.toNat d stPROTECTED
            else v.landBurst n.toNat d).landNext))) ∧
  (∀ (s : State) (n : BitVec 5) (c : Cage) (res : ReadRes) (lost waits k : Nat), s.cage? n.toNat = some c →
    c.phase = .landing → s.moves n.toNat c = true → s.burstTurn n.toNat c = true → k = min c.left (4096 - c.src % 4096) →
    ∃ e : State, e = s.burstEnd n.toNat c lost waits ∧
      RegsBut s e [R.HOIST_PREEMPTS, R.SRAMC_SP_STALLS] ∧
      e = { s with regs := e.regs, hoist := { s.hoist with lastBurst := e.hoist.lastBurst } } ∧
      (s.burstSrc c = .invalid → exec (.hoistBurstDone n res ⟨lost, waits⟩) s = .next (e.landFail n.toNat c stADDRFAULT).landNext) ∧
      (∀ a, s.burstSrc c = .host a → (∀ bs, res ≠ .data bs) →
        exec (.hoistBurstDone n res ⟨lost, waits⟩) s = .next ((e.noteRead res).landFail n.toNat c stPCIEERROR).landNext) ∧
      (∀ (bs : List Byte) (d : Cage) (x : State),
        ((∃ a p, s.burstSrc c = .dram a p ∧ bs = s.dramRead a k) ∨
         ∃ a ws, s.burstSrc c = .host a ∧ res = .data ws ∧ bs = fitBytes k ws) →
        d = { c with landed := c.landed ++ bs, src := c.src + k, left := c.left - k } → x = e.countBytes k →
        exec (.hoistBurstDone n res ⟨lost, waits⟩) s =
          .next (if d.left = 0 then x.setCage n.toNat d else if d.aborts.isEmpty then x.landBurst n.toNat d
            else x.landFail n.toNat d stABORTED).landNext)) ∧
  (∀ (s : State) (n : Nat) (c : Cage) (st : Nat), s.landFail n c st =
    { s with label := { s.label with landing := s.label.landing.filter fun e => e.2 != n } }.finish n c st
      (c.desc.len.toNat - c.landed.length)) ∧
  (∀ s : State, (∀ e c, e ∈ s.label.landing → s.cage? e.2 = some c → s.landsNow e.2 = false ∨ c.phase ≠ .landing ∨ c.unit ≠ none) →
    s.landNext = s) ∧
  (∀ (s : State) (n : BitVec 5),
    ((∀ c, s.cage? n.toNat = some c → c.phase ≠ .landing ∨ c.left ≠ 0 ∨ s.landsNow n.toNat = false) →
      exec (.labelLanded n) s = .next s) ∧
    (∀ (c : Cage) (x : LabelUpd), s.cage? n.toNat = some c → c.phase = .landing → c.left = 0 → s.landsNow n.toNat = true →
      x = s.labelOf c →
      ∃ u : State, exec (.labelLanded n) s = .next u.landNext ∧
        u.label.pend = s.label.pend ++ [x] ∧ u.label.landing = (s.label.landing.filter fun e => e.2 != n.toNat) ∧
        (x.x + x.w ≤ 2048 → ∀ i j, i < x.w → j < x.h →
          SMap.get (fun _ => 0) u.label.req (lblKey x.panel (x.y + j) (x.x + i)) = landedPixel c.landed x.w i j) ∧
        (∀ k, (∀ i j, i < x.w → j < x.h → k ≠ lblKey x.panel (x.y + j) (x.x + i)) →
          SMap.get (fun _ => 0) u.label.req k = SMap.get (fun _ => 0) s.label.req k) ∧
        u.cage? n.toNat = some { c with phase := .done stOK (c.desc.len.toNat - x.bytes) } ∧
        (∀ m, m ≠ n.toNat → u.cage? m = s.cage? m) ∧
        u = { s with hoist := { s.hoist with cages := u.hoist.cages },
                     label := { s.label with pend := u.label.pend, landing := u.label.landing, req := u.label.req } }))

/-- Phase boundaries and LBL_PWRGOOD (R284 to R287). PHASE_BOUNDARY shows the level of LBL_PWRGOOD. A fall of it while updates run, or a
stop that is due, stops the port: every running update becomes an interrupted record and is counted, nothing runs or is pending, and
PWREN is 0. Otherwise every running update advances by one phase, and those at their length end, their journal words freed; then,
unless the port is stopped, entries start, and the panels are scanned. One entry that fits the budget, with nothing else there, sets
PWREN while PWRGOOD is 0, and else starts at phase 0 with a free journal word. PWRGOOD that does not come clears PWREN, drops what is
pending and counts; PWREN falls after its hold time when nothing runs. While LABEL is not ON these commands change nothing. -/
def Obligations.LabelPhasesAdvance : Prop :=
  (∀ (s : State) (good : Bool), s.runs = true → s.domOn dLABEL = false →
    exec (.phaseBoundary good) s = .next (s.after s) ∧ exec .labelPwrTimeout s = .next (s.after s) ∧
    exec .labelPwrgoodLost s = .next (s.after s)) ∧
  (∀ (s : State) (good : Bool), s.runs = true → s.domOn dLABEL = true →
    ∃ p : State, p.bit F.LABEL_STATUS_PWRGOOD = good ∧ p.bit F.LABEL_STATUS_PWREN = s.bit F.LABEL_STATUS_PWREN ∧
      p.bit F.LABEL_STATUS_STOPPED = s.bit F.LABEL_STATUS_STOPPED ∧ RegsBut s p [R.LABEL_STATUS] ∧ SameButRegs s p ∧
      (good = false → s.label.run ≠ [] →
        exec (.phaseBoundary good) s = .next (s.after (p.labelStop.labelPower 2)) ∧
        exec .labelPwrgoodLost s = .next (s.after (p.labelStop.labelPower 2))) ∧
      (good = false → s.label.run = [] → exec .labelPwrgoodLost s = .next (s.after p)) ∧
      ((good = true ∨ s.label.run = []) →
        (s.label.stopDue = true → exec (.phaseBoundary good) s = .next (s.after p.labelStop)) ∧
        (s.label.stopDue = false →
          ∃ (v : State) (ended : List LabelUpd),
            ended = ((s.label.run.map fun u => { u with phase := u.phase + 1 }).filter fun u => u.len ≤ u.phase) ∧
            v.label.run = ((s.label.run.map fun u => { u with phase := u.phase + 1 }).filter fun u => u.phase < u.len) ∧
            (∀ u ∈ ended, v.journal u.word = 0) ∧
            (ended = [] → v.regs = p.regs ∧ v.pstore = s.pstore ∧ v.rings = s.rings ∧ v.sent = s.sent ∧ v.pcie = s.pcie ∧
              v.summaryOwed = s.summaryOwed ∧ v.label = { s.label with run := v.label.run }) ∧
            v.fld F.LABEL_UPDATES_COUNT = min (s.fld F.LABEL_UPDATES_COUNT + ended.length) (2 ^ 32 - 1) ∧
            RegsButEvents (s.fld F.LABEL_EVT_RING) p v (R.LABEL_UPDATES :: ended.map fun u => R.LABEL_PANEL_DONE u.panel) ∧
            v = { s with regs := v.regs, pstore := { s.pstore with buf := v.pstore.buf }, rings := v.rings, sent := v.sent, pcie := v.pcie,
                         summaryOwed := v.summaryOwed,
                         label := { s.label with run := v.label.run, cur := v.label.cur, recs := v.label.recs } } ∧
            exec (.phaseBoundary good) s =
              .next (s.after (if s.hvd.pfwLow || s.bit F.LABEL_STATUS_STOPPED then v else v.labelStarts).labelScan)))) ∧
  (∀ (s : State) (good : Bool) (e : LabelUpd), s.runs = true → s.domOn dLABEL = true → s.label.stopDue = false →
    s.hvd.pfwLow = false → s.bit F.LABEL_STATUS_STOPPED = false → s.label.run = [] → s.label.pend = [e] → e.panel < 8 →
    e.area ≤ 4194304 → s.lblScanTime [e] ≤ s.lblBudget →
    (good = false → ∃ u : State, exec (.phaseBoundary good) s = .next (s.after u) ∧
      u.bit F.LABEL_STATUS_PWREN = true ∧ u.bit F.LABEL_STATUS_PWRGOOD = false ∧ RegsBut s u [R.LABEL_STATUS] ∧ SameButRegs s u) ∧
    (∀ w, good = true → s.journalNext = some w →
      ∃ (u : State) (v : LabelUpd), exec (.phaseBoundary good) s = .next (s.after u) ∧
        v = { e with
          slot := 0, range := s.lblRange, len := s.lblLen e.mode s.lblRange, phase := 0, word := w,
          store := e.pixels.map fun p => (if e.clear then s.fld F.LABEL_CTRL_CLEAR_ROW else s.lblCur e.panel p.1 p.2) +
            16 * SMap.get (fun _ => 0) s.label.req (lblKey e.panel p.2 p.1) } ∧
        u.label = { s.label with run := [v], pend := [], ptr := (w + 1) % 1024 } ∧
        u.journal w = journalWord v ∧ (∀ i, i ≠ persJournal + w → u.persRead i = s.persRead i) ∧
        u.bit F.LABEL_STATUS_SCANNING = true ∧ u.bit F.LABEL_STATUS_PWRGOOD = true ∧
        RegsButEvents (s.fld F.LABEL_EVT_RING) s u [R.LABEL_STATUS] ∧
        u = { s with regs := u.regs, label := u.label, pstore := { s.pstore with buf := u.pstore.buf }, rings := u.rings,
                     sent := u.sent, pcie := u.pcie, summaryOwed := u.summaryOwed })) ∧
  (∀ w : State, ∃ u : State, w.labelStop = u ∧ u.label.run = [] ∧ u.label.pend = [] ∧ u.label.stopDue = false ∧
    u.bit F.LABEL_STATUS_PWREN = false ∧ u.bit F.LABEL_STATUS_SCANNING = false ∧ u.bit F.LABEL_STATUS_STOPPED = w.hvd.pfwLow ∧
    u.label.recs = w.label.recs ++ w.label.run.map (fun x => recordOf x.word (journalWord x)) ∧
    u.fld F.LABEL_INTERRUPTED_COUNT = min (w.fld F.LABEL_INTERRUPTED_COUNT + w.label.run.length) (2 ^ 32 - 1) ∧
    RegsButEvents (w.fld F.LABEL_EVT_RING) w u [R.LABEL_STATUS, R.LABEL_INTERRUPTED] ∧
    u = { w with regs := u.regs, rings := u.rings, sent := u.sent, pcie := u.pcie, summaryOwed := u.summaryOwed,
                 label := { w.label with run := [], pend := [], stopDue := false, cur := u.label.cur, recs := u.label.recs } }) ∧
  (∀ s : State,
    (s.runs = true → s.domOn dLABEL = true → (s.bit F.LABEL_STATUS_PWREN = false ∨ s.bit F.LABEL_STATUS_PWRGOOD = true) →
      exec .labelPwrTimeout s = .next (s.after s)) ∧
    (s.runs = true → s.domOn dLABEL = true → s.bit F.LABEL_STATUS_PWREN = true → s.bit F.LABEL_STATUS_PWRGOOD = false →
      ∃ u : State, exec .labelPwrTimeout s = .next (s.after u) ∧ u.bit F.LABEL_STATUS_PWREN = false ∧
        u.bit F.LABEL_STATUS_STOPPED = s.bit F.LABEL_STATUS_STOPPED ∧
        u.fld F.LABEL_PWR_FAILS_COUNT = min (s.fld F.LABEL_PWR_FAILS_COUNT + 1) (2 ^ 32 - 1) ∧
        RegsButEvents (s.fld F.LABEL_EVT_RING) s u [R.LABEL_STATUS, R.LABEL_PWR_FAILS] ∧
        u = { s with regs := u.regs, rings := u.rings, sent := u.sent, pcie := u.pcie, summaryOwed := u.summaryOwed,
                     label := { s.label with pend := [] } }) ∧
    ((s.domOn dLABEL = false ∨ s.label.run ≠ []) → exec .labelPwrHoldExpire s = .next s) ∧
    (s.domOn dLABEL = true → s.label.run = [] →
      exec .labelPwrHoldExpire s = .next (s.setFld F.LABEL_STATUS_PWREN 0)))

/-! ### Power domains, clocks and regulators (13) -/

/-- Power requests (R305, R306, R308, R314 to R316). A word of PWR.REQ or PWR.FREQ with GO issues a request, except in FATAL; without GO
nothing happens. While a request runs, the status register of a port shows BUSY and nothing else changes. A mask of 0 is DONE; reserved
bits, KEEP and TARGET 3 are INVALID; the first domain that breaks a dependency is recorded with reason 8, and PFW# low with reason 10 for a
wake that has a domain to wake, and the request ends as REFUSED. Otherwise BUSY is 1: a wake is in phase 4 and goes on with its domains; an
entry is in phase 1 and goes on with those that it names and are above the target. A request ends with its result in the registers of its
requester, DONE_MASK naming the domains that it names and that reached the target when it is DONE or WAKE_FAIL; then POWER_DONE is written and
the crystal may sleep. -/
def Obligations.PowerRequestsAreIssued : Prop :=
  (∀ (s : State) (c : Instr) (p : Port) (v : Word), s.runs = true →
    ((c = .powerReq v ∧ p = .pcie ∧ s.serves R.PWR_REQ = true) ∨
     (c = .powerFreq v ∧ p = .foreman ∧ s.domOn dFORE = true ∧ s.domOn dKEEP = true)) →
    (bitOf v 31 = true → s.fatal = false →
      exec c s = .next (s.after (s.powerIssue (.port p) (bitsOf v 0 11) (bitsOf v 16 2) (bitOf v 20) (bitsOf v 11 5 != 0)))) ∧
    ((bitOf v 31 = false ∨ s.fatal = true) → exec c s = .next (s.after s))) ∧
  (∀ (s : State) (b : ReqBy) (mask target : Nat) (force bad : Bool) (r : PowerReq) (named : List Nat),
    r = ⟨b, mask, target, force, 0, [], [], [], [], none, [], 0, false, 0, [], 0, 0, 0xFF, []⟩ →
    named = (if target = 0 then wakeOrder.filter fun d => mask / 2 ^ d % 2 == 1 && s.domState d != 2
             else entryOrder.filter fun d => mask / 2 ^ d % 2 == 1 && decide (2 - target < s.domState d)) →
    (s.power.req.isSome = true →
      s.powerIssue b mask target force bad =
        (match b with
          | .port .pcie => s.setFld F.PWR_REQ_STATUS_RESULT prBUSY
          | .port .foreman => s.setFld F.PWR_FREQ_STATUS_RESULT prBUSY
          | _ => s)) ∧
    (s.power.req = none → mask = 0 → bad = false → s.powerIssue b mask target force bad = s.reqEnd r prDONE) ∧
    (s.power.req = none → (bad = true ∨ mask % 2 = 1 ∨ (target = 3 ∧ mask ≠ 0)) →
      s.powerIssue b mask target force bad = s.reqEnd r prINVALID) ∧
    (s.power.req = none → mask ≠ 0 → bad = false → mask % 2 = 0 → target ≠ 3 →
      (∀ d, named.find? (s.depBroken mask target) = some d →
        ∃ u : State, RefusalNoted s u 8 d 0xFF ∧
          s.powerIssue b mask target force bad = u.reqEnd { r with reason := 8, page := 0xFF } prREFUSED) ∧
      (named.find? (s.depBroken mask target) = none → target = 0 →
        (named = [] → s.powerIssue b mask target force bad = s.reqEnd r prDONE) ∧
        (∀ d rest, named = d :: rest → s.hvd.pfwLow = true →
          ∃ u : State, RefusalNoted s u 10 d 0xFF ∧
            s.powerIssue b mask target force bad = u.reqEnd { r with reason := 10, page := 0xFF } prREFUSED) ∧
        (named ≠ [] → s.hvd.pfwLow = false →
          ∃ u : State, s.powerIssue b mask target force bad = u.wakeOn { r with phase := 4, todo := named } ∧
            u.bit F.PWR_REQ_STATUS_BUSY = true ∧ u.bit F.PWR_FREQ_STATUS_BUSY = true ∧
            u.fld (if b = .port .foreman then F.PWR_FREQ_STATUS_PHASE else F.PWR_REQ_STATUS_PHASE) = 4 ∧
            u.fld (if b = .port .foreman then F.PWR_REQ_STATUS_PHASE else F.PWR_FREQ_STATUS_PHASE) =
              s.fld (if b = .port .foreman then F.PWR_REQ_STATUS_PHASE else F.PWR_FREQ_STATUS_PHASE) ∧
            (∀ f ∈ [F.PWR_REQ_STATUS_RESULT, F.PWR_REQ_STATUS_DONE_MASK, F.PWR_FREQ_STATUS_RESULT, F.PWR_FREQ_STATUS_DONE_MASK],
              u.fld f = s.fld f) ∧
            RegsBut s u [R.PWR_REQ_STATUS, R.PWR_FREQ_STATUS] ∧ SameButRegs s u)) ∧
      (named.find? (s.depBroken mask target) = none → (target = 1 ∨ target = 2) →
        ∃ u : State,
          s.powerIssue b mask target force bad = askGo 12 { r with phase := 1, todo := named, entry := named } u ∧
          u.bit F.PWR_REQ_STATUS_BUSY = true ∧ u.bit F.PWR_FREQ_STATUS_BUSY = true ∧
          u.fld (if b = .port .foreman then F.PWR_FREQ_STATUS_PHASE else F.PWR_REQ_STATUS_PHASE) = 1 ∧
          u.fld (if b = .port .foreman then F.PWR_REQ_STATUS_PHASE else F.PWR_FREQ_STATUS_PHASE) =
            s.fld (if b = .port .foreman then F.PWR_REQ_STATUS_PHASE else F.PWR_FREQ_STATUS_PHASE) ∧
          (∀ f ∈ [F.PWR_REQ_STATUS_RESULT, F.PWR_REQ_STATUS_DONE_MASK, F.PWR_FREQ_STATUS_RESULT, F.PWR_FREQ_STATUS_DONE_MASK],
            u.fld f = s.fld f) ∧
          RegsBut s u [R.PWR_REQ_STATUS, R.PWR_FREQ_STATUS] ∧ SameButRegs s u))) ∧
  (∀ (s : State) (r : PowerReq) (result : Nat), result ≤ 5 →
    ∃ (u : State) (done : Nat), ReqEnded s u r.by' result done ∧ done < 2 ^ 11 ∧
      (∀ d, done / 2 ^ d % 2 = 1 ↔ ((result = prDONE ∨ result = prWAKEFAIL) ∧ 1 ≤ d ∧ d ≤ 10 ∧ r.mask / 2 ^ d % 2 = 1 ∧
        (if r.target = 0 then s.domState d = 2 else s.domState d ≤ 2 - r.target))) ∧
      s.reqEnd r result = (u.post F.PWR_EVT_RING 0x0800
        [(4, result), (2, r.target), (11, r.mask), (11, done), (5, r.reason), (8, r.page)]).sleepCheck)

/-- Entries (R301, R306, R307, R310). A block that is asked agrees where its domain has no reason to refuse; the last one lets the entry
go on with the next domain that is ON, and after the last domain gating begins, in phase 2, with POWER_DONE GATING when HOST is in it and
ON. A reason ends an ordinary request as REFUSED, with ENTRY_ABORTED counted by the blocks of other domains that had agreed; a forced
request takes its forced action and asks again, and waits while the same reason stands. A block that does not answer refuses with reason 7
in an ordinary request; in a forced one its region isolates it and the entry goes on; nothing happens while a forced action runs. A domain
that has been gated holds its digests, its pads are latched, its clock stops and it is in RET or OFF; in OFF its content is lost; for HOST
HOLD is set, and PERST# low or AUTO_OFF latches wake source 8. Then the next domain is gated, or the rails of an entry to OFF follow in
phase 3, or the request is DONE. A command that nothing awaits, or in FATAL, changes nothing. -/
def Obligations.PowerEntriesProceed : Prop :=
  (∀ (s : State) (page : PageIdx), s.runs = true →
    ((s.fatal = true ∨ ∀ r, s.power.req = some r → r.phase ≠ 1 ∨ page.toNat ∉ r.asking) →
      exec (.blockQuiesceAnswer page) s = .next (s.after s) ∧ exec (.quiesceTimeout page) s = .next (s.after s)) ∧
    (∀ r, s.fatal = false → s.power.req = some r → r.phase = 1 → page.toNat ∈ r.asking →
      exec (.blockQuiesceAnswer page) s = .next (s.after (answerGo 8 page.toNat r s)) ∧
      (s.forcedRuns r = true → exec (.quiesceTimeout page) s = .next (s.after s)) ∧
      (s.forcedRuns r = false → ∃ u : State, RefusalNoted s u 7 (pageDomain page.toNat) page.toNat ∧
        (r.force = false → exec (.quiesceTimeout page) s =
          .next (s.after (u.rollback { r with reason := 7, page := page.toNat }))) ∧
        (r.force = true → exec (.quiesceTimeout page) s =
          .next (s.after (u.agree { r with reason := 7, page := page.toNat, isolated := r.isolated ++ [page.toNat] } page.toNat)))))) ∧
  (∀ (s : State) (page : Nat) (r : PowerReq) (d : Nat) (rest : List Nat), r.todo = d :: rest → page < 256 →
    (∀ n,
      (s.refusal d = none → answerGo (n + 1) page r s = s.agree r page) ∧
      (∀ why, s.refusal d = some why →
        ((∃ f, r.forcing = some f ∧ f.2 = why ∧ (why ≠ 5 ∨ s.label.stopDue = true)) → answerGo (n + 1) page r s = s.setReq r) ∧
        (¬(∃ f, r.forcing = some f ∧ f.2 = why ∧ (why ≠ 5 ∨ s.label.stopDue = true)) → ∃ u : State, RefusalNoted s u why d page ∧
          (r.force = false → answerGo (n + 1) page r s = u.rollback { r with reason := why, page := page }) ∧
          (r.force = true → ∀ r', r' = { r with reason := why, page := page, forcing := some (page, why) } →
            answerGo (n + 1) page r s = answerGo n page r' ((u.setReq r').forceAction d why).assign)))) ∧
    (∀ r', r' = { r with asking := r.asking.filter (· != page), agreed := r.agreed ++ [page], forcing := none } →
      s.agree r page = if r'.asking = [] then askGo 12 { r' with todo := rest } s else s.setReq r') ∧
    (r.agreed.Nodup → ∃ u : State, s.rollback r = (u.reqEnd r prREFUSED).assign ∧
      (∀ p, p ∈ r.agreed → pageDomain p ≠ d →
        u.fld (hdrFld p 0x3C 16 16) = min (s.fld (hdrFld p 0x3C 16 16) + 1) 65535 ∧
        u.fld (hdrFld p 0x3C 0 16) = s.fld (hdrFld p 0x3C 0 16)) ∧
      RegsBut s u ((r.agreed.filter fun p => pageDomain p != d).map fun p => p * 0x1000 + 0x3C) ∧ SameButRegs s u)) ∧
  (∀ (s : State) (r : PowerReq) (n : Nat) (pre : List Nat), (∀ e ∈ pre, s.domOn e = false) → pre.length < n →
    (∀ d rest, r.todo = pre ++ d :: rest → s.domOn d = true →
      askGo n r s = s.setReq { r with todo := d :: rest, asking := domainPages d, forcing := none }) ∧
    (r.todo = pre → askGo n r s = s.gateBegin { r with todo := [] }) ∧
    (∀ u x r', u = s.setFld (if r.by' = .port .foreman then F.PWR_FREQ_STATUS_PHASE else F.PWR_REQ_STATUS_PHASE) 2 →
        x = (if dHOST ∈ r.entry ∧ s.domOn dHOST = true then u.post F.PWR_EVT_RING 0x0800
          [(4, prGATING), (2, r.target), (11, r.mask), (11, 0), (5, r.reason), (8, r.page)] else u) →
        r' = { r with phase := 2, todo := r.entry, asking := [], forcing := none } →
      s.gateBegin r = if r.entry = [] then x.reqEnd r' prDONE else x.gateOn r')) ∧
  (∀ (s : State) (r : PowerReq),
    (∀ d rest, r.todo = d :: rest → s.gateOn r = (s.setReq { r with was := s.domState d }).changeDom d 3) ∧
    (r.todo = [] → s.gateOn r =
      if r.target = 2 then s.railsOff { r with rails := r.entry.flatMap fun d => (s.bindings d).reverse } else s.reqEnd r prDONE) ∧
    (r.rails = [] → s.railsOff r = s.reqEnd r prDONE) ∧
    (∀ b rest u, r.rails = b :: rest → u = s.setReq { r with phase := 3, attempts := 1 } →
      s.railsOff r =
        (u.setFld (if r.by' = .port .foreman then F.PWR_FREQ_STATUS_PHASE else F.PWR_REQ_STATUS_PHASE) 3).bindSend b false) ∧
    (∀ d v, d ≤ 10 → v ≤ 3 → (s.changeDom d v).domState d = v ∧
      (∀ e, e ≤ 10 → e ≠ d → (s.changeDom d v).domState e = s.domState e) ∧
      RegsBut s (s.changeDom d v) [R.PWR_STATE] ∧ SameButSignals s (s.changeDom d v))) ∧
  (∀ (s : State) (d : BitVec 4), s.runs = true →
    ((s.fatal = true ∨ ∀ r, s.power.req = some r → r.phase ≠ 2 ∨ r.todo.head? ≠ some d.toNat) →
      exec (.domainGated d) s = .next (s.after s)) ∧
    (∀ (r : PowerReq) (rest : List Nat) (w : State), s.fatal = false → s.power.req = some r → r.phase = 2 →
      r.todo = d.toNat :: rest → 1 ≤ d.toNat → d.toNat ≤ 10 → (r.target = 1 ∨ r.target = 2) →
      w = (if d.toNat = dSTORE then s.canaryRelease else if d.toNat = dLINK then s.linkGated else s) →
      ∃ u x y : State,
        u.domState d.toNat = 2 - r.target ∧ (∀ e, e ≤ 10 → e ≠ d.toNat → u.domState e = w.domState e) ∧
        u.fld F.PWR_PAD_HELD_MASK / 2 ^ d.toNat % 2 = 1 ∧ u.fld F.CLK_DOMAIN_CLK_MASK / 2 ^ d.toNat % 2 = 0 ∧
        (∀ e, e ≤ 10 → e ≠ d.toNat → u.fld F.PWR_PAD_HELD_MASK / 2 ^ e % 2 = w.fld F.PWR_PAD_HELD_MASK / 2 ^ e % 2 ∧
          u.fld F.CLK_DOMAIN_CLK_MASK / 2 ^ e % 2 = w.fld F.CLK_DOMAIN_CLK_MASK / 2 ^ e % 2) ∧
        (∀ p ∈ domainPages d.toNat, u.rd (p * 0x1000 + 0x34) = w.pageDigest p) ∧
        RegsBut w u ([R.PWR_PAD_HELD, R.CLK_DOMAIN_CLK, R.PWR_STATE] ++ (domainPages d.toNat).map fun p => p * 0x1000 + 0x34) ∧
        SameButSignals w u ∧ x = (if r.target = 2 then u.domainLost d.toNat else u) ∧
        (d.toNat ≠ dHOST → y = x) ∧
        (d.toNat = dHOST → ∀ z, z = x.setFld F.SCAN_STATUS_HOLD 1 →
          y = { z with power := { x.power with perstLatch := x.power.perstLatch || x.power.perstLow || r.by' == .autoOff } }) ∧
        exec (.domainGated d) s = .next (s.after (y.gateOn { r with todo := rest }))))

/-- Wakes (R301, R302, R308 to R310). A read of STATUS_WORD that does not show the rail as wanted is made again; one that does lets the next
binding, the PLL of HOST and LINK, or the domain itself follow, or for an entry the next rail; a failed attempt is made again up to RETRIES
times, and then counts as a failure, of the domain's wake or, with REG_FAIL, of an entry's rail alone. A domain whose PLL locks is ON; one
whose PLL does not lock fails with cause 3. A waking domain with a prerequisite that is not ON is passed over with reason 8; while the crystal
sleeps the wake waits for it. A domain that reaches ON has its registers or its logic reset, its clock runs and its flag is set. A failed
wake takes the rails and the clock off and loses the content; it is counted, reported and may take the panel down. What nothing awaits
changes nothing. PAD_RELEASE releases the pads of the named domains that are ON, and no others.

Wake sources (R311, R313). WAKE_SOURCE brings the level of a GPIO input; an inactive level, and an edge source whose level stays, do no
more; otherwise the source's wake event follows, as it does when PWR.TIMER, while it runs, goes to 0. An event of a source that names no
domain does nothing. An edge is latched, but in phase 2 of an entry. With no request running, the source fires if it is due; an ordinary
request in phase 1 that names one of its domains is rolled back with reason 9, and any other is waited for. A source that fires clears its
latch, shows itself and the domains not ON that it wakes in LAST_WAKE, reports that, and issues their wake. -/
def Obligations.WakesProceed : Prop :=
  ((∀ (s : State) (b : Nat) (on : Bool),
     s.bindRead b = { s with sent := .pmbus (readWord (s.bindAddr b).1 0x79) :: s.sent } ∧
     s.bindSend b on =
       { s with
         sent :=
           .pmbus (readWord (s.bindAddr b).1 0x79) :: .pmbus (writeByte (s.bindAddr b).1 0x01 (if on then 0x80 else 0x00)) ::
             .pmbus (writeByte (s.bindAddr b).1 0x00 (s.bindAddr b).2) :: s.sent }) ∧
   (∀ (s : State) (res : RailRes), s.runs = true →
     ((s.fatal = true ∨ ∀ r, s.power.req = some r → r.rails = []) → exec (.domainRailPoll res) s = .next (s.after s)) ∧
     (∀ (r : PowerReq) (b : Nat) (rest : List Nat) (on : Bool), s.fatal = false → s.power.req = some r → r.rails = b :: rest →
       on = (r.phase == 4) →
       (∀ w, res = .status w → (if on then w.getLsbD 11 || w.getLsbD 6 else !w.getLsbD 6) = true →
         exec (.domainRailPoll res) s = .next (s.after (s.bindRead b))) ∧
       (∀ w, res = .status w → (if on then w.getLsbD 11 || w.getLsbD 6 else !w.getLsbD 6) = false →
         (on = false → exec (.domainRailPoll res) s = .next (s.after (s.railsOff { r with rails := rest }))) ∧
         (∀ b' rest', on = true → rest = b' :: rest' → exec (.domainRailPoll res) s =
           .next (s.after ((s.setReq { r with rails := rest, attempts := 1 }).bindSend b' true))) ∧
         (on = true → rest = [] → (b / 4 = dHOST ∨ b / 4 = dLINK) → exec (.domainRailPoll res) s =
           .next (s.after (s.setReq { r with rails := [], attempts := 1, pll := true }))) ∧
         (on = true → rest = [] → b / 4 ≠ dHOST → b / 4 ≠ dLINK → ∀ r', r' = { r with rails := [], attempts := 1 } →
           exec (.domainRailPoll res) s =
             .next (s.after ((s.woke r' (b / 4)).wakeOn { r' with todo := r.todo.drop 1 })))) ∧
       (∀ cause, (res = .nacked ∧ cause = 1 ∨ res = .timeout ∧ cause = 2) →
         (r.attempts ≤ s.fld F.RGL_REQ_CFG_RETRIES → exec (.domainRailPoll res) s =
           .next (s.after ((s.setReq { r with attempts := r.attempts + 1 }).bindSend b on))) ∧
         (s.fld F.RGL_REQ_CFG_RETRIES < r.attempts → ∃ u : State,
           u.fld F.RGL_FAILS_COUNT = min (s.fld F.RGL_FAILS_COUNT + 1) (2 ^ 32 - 1) ∧
           u.fld F.RGL_LAST_FAIL_ADDR = (s.bindAddr b).1 ∧ u.fld F.RGL_LAST_FAIL_PAGE = (s.bindAddr b).2 ∧
           u.fld F.RGL_LAST_FAIL_CAUSE = cause ∧ RegsBut s u [R.RGL_FAILS, R.RGL_LAST_FAIL] ∧ SameButRegs s u ∧
           (on = true → exec (.domainRailPoll res) s = .next (s.after
             ((u.wakeFail r (b / 4) cause (some b)).2.wakeOn (u.wakeFail r (b / 4) cause (some b)).1))) ∧
           (on = false → exec (.domainRailPoll res) s = .next (s.after
             ((u.regFailEvent 0 (s.bindAddr b).1 (s.bindAddr b).2 cause).railsOff { r with rails := rest }))))))) ∧
   (∀ (s : State) (d : BitVec 4), s.runs = true → d ≠ 0 →
     ((s.fatal = true ∨ ∀ r, s.power.req = some r → r.pll = false ∨ r.todo.head? ≠ some d.toNat) →
       exec (.domainPllLock d) s = .next (s.after s) ∧ exec (.domainPllTimeout d) s = .next (s.after s)) ∧
     (∀ r rest, s.fatal = false → s.power.req = some r → r.pll = true → r.todo = d.toNat :: rest →
       exec (.domainPllLock d) s = .next (s.after ((s.woke r d.toNat).wakeOn { r with pll := false, todo := rest })) ∧
       exec (.domainPllTimeout d) s =
         .next (s.after ((s.wakeFail r d.toNat 3 none).2.wakeOn (s.wakeFail r d.toNat 3 none).1)))) ∧
   (∀ (s : State) (r : PowerReq) (n : Nat), s.wakeOn r = wakeGo 12 r s ∧
     (r.todo = [] → wakeGo (n + 1) r s = s.reqEnd r (if r.failed = [] then prDONE else prWAKEFAIL)) ∧
     (∀ d rest, r.todo = d :: rest →
       (s.domOn (prereq d) = false → ∃ u : State, RefusalNoted s u 8 d 0xFF ∧
         wakeGo (n + 1) r s = wakeGo n { r with reason := 8, page := 0xFF, todo := rest } u) ∧
       (s.domOn (prereq d) = true → s.power.asleep = true →
         wakeGo (n + 1) r s = { s with power := { s.power with req := some r, starting := true } }) ∧
       (s.domOn (prereq d) = true → s.power.asleep = false → ∀ (w : State) (r' : PowerReq), w = s.changeDom d 3 →
         r' = { r with was := s.domState d, rails := if s.domState d = 0 then w.bindings d else [], attempts := 1, pll := false } →
         (∀ b more, r'.rails = b :: more → wakeGo (n + 1) r s = (w.setReq r').bindSend b true) ∧
         (r'.rails = [] → (d = dHOST ∨ d = dLINK) → wakeGo (n + 1) r s = w.setReq { r' with pll := true }) ∧
         (r'.rails = [] → d ≠ dHOST → d ≠ dLINK →
           wakeGo (n + 1) r s = wakeGo n { r' with todo := rest } (w.woke r' d))))) ∧
   (∀ (s : State) (r : PowerReq) (d : Nat), 1 ≤ d → d ≤ 10 →
     (∃ u w : State, w = (if r.was = 0 then s.domainRegs d else s.logicReset d) ∧ s.woke r d = u.domainUp d (r.was == 0) ∧
       u.domState d = 2 ∧ (∀ e, e ≤ 10 → e ≠ d → u.domState e = w.domState e) ∧
       u.fld F.CLK_DOMAIN_CLK_MASK / 2 ^ d % 2 = 1 ∧
       (∀ e, e ≠ d → u.fld F.CLK_DOMAIN_CLK_MASK / 2 ^ e % 2 = w.fld F.CLK_DOMAIN_CLK_MASK / 2 ^ e % 2) ∧
       u.bit F.CHIP_DIGEST_STATUS_BUSY = (w.bit F.CHIP_DIGEST_STATUS_BUSY || r.was == 0 || w.digestsStale d) ∧
       u.rd (if r.was = 0 then R.PWR_OFF_FLAG else R.PWR_WAKE_FLAG) =
         w.rd (if r.was = 0 then R.PWR_OFF_FLAG else R.PWR_WAKE_FLAG) ||| BitVec.ofNat 32 (2 ^ d) ∧
       RegsBut w u [R.CHIP_DIGEST_STATUS, R.CLK_DOMAIN_CLK, if r.was = 0 then R.PWR_OFF_FLAG else R.PWR_WAKE_FLAG, R.PWR_STATE] ∧
       SameButSignals w u) ∧
     (∀ (cause : Nat) (rail : Option Nat) (k : Nat), cause ≤ 4 → k = (if rail.isSome then r.attempts else 0) →
       ∃ v u x : State,
         v.domState d = 0 ∧ (∀ e, e ≤ 10 → e ≠ d → v.domState e = s.domState e) ∧ v.fld F.CLK_DOMAIN_CLK_MASK / 2 ^ d % 2 = 0 ∧
         RegsBut s v [R.PWR_STATE, R.CLK_DOMAIN_CLK] ∧
         SameButSignals (s.each (s.bindings d).reverse fun s b => s.bindSend b false) v ∧
         u.fld F.PWR_WAKE_FAIL_LAST_DOMAIN = d ∧ u.fld F.PWR_WAKE_FAIL_LAST_CAUSE = cause ∧
         u.fld F.PWR_WAKE_FAILS_COUNT = min ((v.domainLost d).fld F.PWR_WAKE_FAILS_COUNT + 1) (2 ^ 32 - 1) ∧
         u.rd 0x100C = (v.domainLost d).rd 0x100C ||| 4#32 ∧
         RegsBut (v.domainLost d) u [R.PWR_WAKE_FAIL_LAST, R.PWR_WAKE_FAILS, 0x100C] ∧ SameButSignals (v.domainLost d) u ∧
         x = (if k < 8 then u else { u with freeCtr := u.freeCtr + 1 }).post F.PWR_EVT_RING 0x0801 [(4, d), (3, cause),
           (7, match rail with | some b => (s.bindAddr b).1 | none => 0), (8, match rail with | some b => (s.bindAddr b).2 | none => 0),
           (3, if k < 8 then k else (Config.freeWord u.freeCtr).toNat % 8)] ∧
         s.wakeFail r d cause rail = ({ r with failed := r.failed ++ [d], todo := r.todo.drop 1, rails := [], pll := false },
           if d = dDAWN ∨ d = dDUSK ∨ d = dSTORE ∨ d = dLINK then x.panelDown cauWAKEFAIL false else x))) ∧
   (∀ (s : State) (v : Word), s.runs = true → s.serves R.PWR_PAD_RELEASE = true →
     ∃ u : State, exec (.padRelease v) s = .next (s.after u) ∧
       (∀ d, d ≤ 10 → u.fld F.PWR_PAD_HELD_MASK / 2 ^ d % 2 =
         if bitOf v d ∧ d ≠ 0 ∧ s.domOn d = true then 0 else s.fld F.PWR_PAD_HELD_MASK / 2 ^ d % 2) ∧
       RegsBut s u [R.PWR_PAD_HELD] ∧ SameButRegs s u)) ∧
  ((∀ (s : State) (n : BitVec 3) (level : Bool),
     ∃ u : State, (∀ m, u.power.levels.contains m = if m = n.toNat then level else s.power.levels.contains m) ∧
       u = { s with power := { s.power with levels := u.power.levels } } ∧
       exec (.wakeSource n level) s =
         .next (if level = s.bit (F.PWR_WAKE_SRC_POLARITY n.toNat) ∨
                  (s.power.levels.contains n.toNat = level ∧ s.srcEdge n.toNat = true)
                then u else u.wakeEvent n.toNat).goOn) ∧
   (∀ s : State, s.runs = true →
     (s.fld F.PWR_TIMER_MS ≠ 0 → ∃ u : State, exec .wakeTimerExpire s = .next (s.after (u.wakeEvent 9)) ∧
       u.fld F.PWR_TIMER_MS = 0 ∧ RegsBut s u [R.PWR_TIMER] ∧ SameButRegs s u) ∧
     (s.fld F.PWR_TIMER_MS = 0 → exec .wakeTimerExpire s = .next (s.after s))) ∧
   (∀ (s : State) (n : Nat), n < 10 →
     (s.srcMask n = 0 → s.wakeEvent n = s) ∧
     (s.srcMask n ≠ 0 → ∀ r, s.power.req = some r → s.srcEdge n = true → r.phase = 2 → s.wakeEvent n = s) ∧
     (s.srcMask n ≠ 0 → (∀ r, s.power.req = some r → s.srcEdge n = true → r.phase ≠ 2) →
       ∃ u : State, (s.srcEdge n = true → u.wakePending n = true ∧ (∀ m, m < 10 → m ≠ n → u.wakePending m = s.wakePending m) ∧
           RegsBut s u [R.PWR_WAKE_PENDING] ∧ SameButRegs s u) ∧
         (s.srcEdge n = false → u = s) ∧
         (s.power.req = none → s.fatal = false → u.srcDue (fun k => k == n) n = true →
           (∀ m, m < n → u.srcDue (fun k => k == n) m = false) → (u.srcFire n).power.req.isSome = true →
           s.wakeEvent n = u.srcFire n) ∧
         (s.power.req = none → (s.fatal = true ∨ ∀ m, m < 10 → u.srcDue (fun k => k == n) m = false) → s.wakeEvent n = u) ∧
         (∀ r, s.power.req = some r →
           (r.phase = 1 → r.force = false → s.srcMask n &&& r.mask ≠ 0 → s.fatal = false →
             ∃ w : State, RefusalNoted u w 9 (r.todo.headD 0) 0xFF ∧
               s.wakeEvent n = (w.rollback { r with reason := 9, page := 0xFF }).sources fun t k => k == n || t.srcWakes k) ∧
           ((r.phase ≠ 1 ∨ r.force = true ∨ s.srcMask n &&& r.mask = 0 ∨ s.fatal = true) → s.wakeEvent n = u))) ∧
     (∃ u : State, s.srcFire n = (u.post F.PWR_EVT_RING 0x0802 [(4, n), (11, s.srcMask n &&& s.notOn)]).powerIssue .wake
           (s.srcMask n &&& s.notOn) 0 false false ∧
       u.fld F.PWR_LAST_WAKE_SOURCE = n ∧ u.fld F.PWR_LAST_WAKE_MASK = s.srcMask n &&& s.notOn ∧
       (∀ m, m < 10 → u.wakePending m = if m = n ∧ s.srcEdge n = true then false else s.wakePending m) ∧
       u.rd 0x100C = s.rd 0x100C ||| 8#32 ∧
       RegsBut s u [R.PWR_WAKE_PENDING, R.PWR_LAST_WAKE, 0x100C] ∧ SameButSignals s u)))

/-- The crystal and ROOT (R299, R300). A crystal that is lost while it runs leaves the part on RC with ROOT unlocked and every domain clock
but KEEP's stopped, is counted and reported, and takes the fatal path with cause XTAL_LOST; one that is stopped or has been lost is not
lost again. Outside start-up, ROOT that locks on RC shows lock, and the clocks of the domains that are ON run again; the crystal and ROOT
that restart for a wake let it go on; then scan that waits may start. A crystal, or ROOT, that does not start for a wake fails the wake of
its first domain, with cause 4 or 3; with none starting, or in FATAL, nothing happens. The crystal sleeps where XTAL_SLEEP allows it and
nothing needs it, and otherwise nothing changes.

VDD_CORE (R303). In MODE 1, while no write is outstanding and stepping has not stopped, a step requests the target 5 mV above or below,
held within the limits where it lies within them, if that is another one. A write whose frame reports good status and a read-back within
10 mV shows its target in AVS_NOW; one that fails is made again up to RETRIES times, and then AVS_NOW.FAIL is 1, the failure is counted and
reported on the AVSBus, stepping stops in MODE 1, and the target is what AVS_NOW shows. With no write outstanding nothing changes. -/
def Obligations.ClocksAndCoreVoltageAct : Prop :=
  (∀ s : State, s.runs = true →
     (s.power.asleep = false → s.bit F.CLK_STATUS_ON_RC = false →
       ∃ u : State, exec .xtalLost s = .next ((u.post F.PWR_EVT_RING 0x0803 [(32, (s.rd R.SCAN_FRAME_SEQ).toNat)]).fatalPath
           fcXTAL 0 0 0x02) ∧
         u.bit F.CLK_STATUS_XTAL_OK = false ∧ u.bit F.CLK_STATUS_ON_RC = true ∧ u.bit F.CLK_STATUS_ROOT_REF = true ∧
         u.bit F.CLK_STATUS_ROOT_LOCK = false ∧ u.fld F.CLK_DOMAIN_CLK_MASK = 1 ∧
         u.fld F.CLK_XTAL_LOSSES_COUNT = min (s.fld F.CLK_XTAL_LOSSES_COUNT + 1) (2 ^ 32 - 1) ∧
         u.rd 0x200C = s.rd 0x200C ||| 1#32 ∧
         RegsBut s u [R.CLK_STATUS, R.CLK_DOMAIN_CLK, R.CLK_XTAL_LOSSES, 0x200C] ∧
         u = { s with regs := u.regs, sent := u.sent, pcie := u.pcie, summaryOwed := u.summaryOwed,
                      power := { s.power with relock := true } }) ∧
     ((s.power.asleep = true ∨ s.bit F.CLK_STATUS_ON_RC = true) → exec .xtalLost s = .next s) ∧
     (s.boot.step ≠ .root → s.power.relock = true →
       ∃ u : State, exec .rootLock s = .next (s.after u.scanRun) ∧ u.bit F.CLK_STATUS_ROOT_LOCK = true ∧
         (∀ d, 1 ≤ d → d ≤ 10 → u.fld F.CLK_DOMAIN_CLK_MASK / 2 ^ d % 2 = b2n (s.domOn d)) ∧
         u.fld F.CLK_DOMAIN_CLK_MASK % 2 = 1 ∧ u.bit F.CLK_STATUS_ON_RC = s.bit F.CLK_STATUS_ON_RC ∧
         u.bit F.CLK_STATUS_XTAL_OK = s.bit F.CLK_STATUS_XTAL_OK ∧ u.bit F.CLK_STATUS_ROOT_REF = s.bit F.CLK_STATUS_ROOT_REF ∧
         RegsBut s u [R.CLK_STATUS, R.CLK_DOMAIN_CLK] ∧
         u = { s with regs := u.regs, power := { s.power with relock := false } }) ∧
     (s.boot.step ≠ .root → s.power.relock = false → s.power.starting = true → s.fatal = false →
       ∃ u : State, exec .rootLock s = .next (s.after (match s.power.req with
             | some r => u.wakeOn r
             | none => u).scanRun) ∧
         u.bit F.CLK_STATUS_XTAL_OK = true ∧ u.bit F.CLK_STATUS_ROOT_LOCK = true ∧ u.bit F.CLK_STATUS_ON_RC = false ∧
         u.bit F.CLK_STATUS_ROOT_REF = s.bit F.CLK_STATUS_ROOT_REF ∧ RegsBut s u [R.CLK_STATUS] ∧
         u = { s with regs := u.regs, power := { s.power with starting := false, asleep := false } }) ∧
     (s.boot.step ≠ .root → s.power.relock = false → (s.power.starting = false ∨ s.fatal = true) →
       exec .rootLock s = .next (s.after s.scanRun)) ∧
     (∀ (c : Instr) (cause : Nat), (c = .xtalStartTimeout ∧ cause = 4 ∨ c = .domainPllTimeout 0 ∧ s.boot.step ≠ .root ∧ cause = 3) →
       ((s.power.starting = false ∨ s.fatal = true ∨ s.power.req = none) → exec c s = .next (s.after s)) ∧
       (∀ (r : PowerReq) (d : Nat) (rest : List Nat) (x : PowerReq × State), s.power.starting = true → s.fatal = false →
         s.power.req = some r → r.todo = d :: rest →
         x = State.wakeFail { s with power := { s.power with starting := false } } { r with was := s.domState d } d cause none →
         exec c s = .next (s.after (x.2.wakeOn x.1)))) ∧
     (∀ needless : Bool,
       needless = (s.bit F.CLK_CTRL_XTAL_SLEEP && !s.power.asleep && !s.power.relock && s.power.req.isNone &&
         !s.bit F.SCAN_CTRL_RUN && s.boot.step == .idle && !s.bit F.CLK_STATUS_ON_RC) →
       (needless = true → (∀ d, 1 ≤ d → d ≤ 10 → s.domState d < 2) →
         s.sleepCheck.bit F.CLK_STATUS_XTAL_OK = false ∧ s.sleepCheck.bit F.CLK_STATUS_ROOT_LOCK = false ∧
         s.sleepCheck.bit F.CLK_STATUS_ON_RC = true ∧
         s.sleepCheck.bit F.CLK_STATUS_ROOT_REF = s.bit F.CLK_STATUS_ROOT_REF ∧ RegsBut s s.sleepCheck [R.CLK_STATUS] ∧
         s.sleepCheck = { s with regs := s.sleepCheck.regs, power := { s.power with asleep := true } }) ∧
       ((needless = false ∨ ∃ d, 1 ≤ d ∧ d ≤ 10 ∧ 2 ≤ s.domState d) → s.sleepCheck = s))) ∧
  (∀ s : State,
     (∀ (up : Bool) (m lo hi t : Nat), lo = s.fld F.RGL_AVS_LIMITS_MIN → hi = s.fld F.RGL_AVS_LIMITS_MAX → t = s.power.avsTarget →
       m = (if hi < t then max hi (t - 5) else if t < lo then min lo (t + 5) else if up then min hi (t + 5) else max lo (t - 5)) →
       (s.bit F.RGL_AVS_CTRL_MODE = true → s.power.avsStopped = false → s.power.avsWrite = none → m ≠ t →
         exec (.avsStep up) s = .next { s with power := { s.power with avsTarget := m, avsWrite := some (m, 1) },
                                               sent := .avs m :: s.sent }) ∧
       ((s.bit F.RGL_AVS_CTRL_MODE = false ∨ s.power.avsStopped = true ∨ s.power.avsWrite.isSome = true ∨ m = t) →
         exec (.avsStep up) s = .next s)) ∧
     (∀ res, s.power.avsWrite = none → exec (.avsWriteDone res) s = .next s) ∧
     (∀ mv n res, s.power.avsWrite = some (mv, n) →
       ((∃ v, res = .frame true v ∧ v.toNat ≤ mv + 10 ∧ mv ≤ v.toNat + 10) →
         Yields (exec (.avsWriteDone res) s) fun t =>
           t.fld F.RGL_AVS_NOW_MV = mv % 1024 ∧ t.bit F.RGL_AVS_NOW_FAIL = s.bit F.RGL_AVS_NOW_FAIL ∧
           RegsBut s t [R.RGL_AVS_NOW] ∧ t = { s with regs := t.regs, power := { s.power with avsWrite := none } }) ∧
       (¬(∃ v, res = .frame true v ∧ v.toNat ≤ mv + 10 ∧ mv ≤ v.toNat + 10) →
         (n ≤ s.fld F.RGL_REQ_CFG_RETRIES →
           exec (.avsWriteDone res) s = .next { s with power := { s.power with avsWrite := some (mv, n + 1) },
                                                       sent := .avs mv :: s.sent }) ∧
         (s.fld F.RGL_REQ_CFG_RETRIES < n →
           ∃ u : State, exec (.avsWriteDone res) s = .next (u.regFailEvent 1 0 0 (avsCause res)) ∧
             u.bit F.RGL_AVS_NOW_FAIL = true ∧ u.fld F.RGL_AVS_NOW_MV = s.fld F.RGL_AVS_NOW_MV ∧
             u.fld F.RGL_FAILS_COUNT = min (s.fld F.RGL_FAILS_COUNT + 1) (2 ^ 32 - 1) ∧
             u.fld F.RGL_LAST_FAIL_ADDR = 0 ∧ u.fld F.RGL_LAST_FAIL_PAGE = 0 ∧ u.fld F.RGL_LAST_FAIL_CAUSE = avsCause res ∧
             (avsCause res = 1 ↔ ∃ v, res = .frame false v) ∧ (avsCause res = 1 ∨ avsCause res = 2) ∧
             RegsBut s u [R.RGL_AVS_NOW, R.RGL_FAILS, R.RGL_LAST_FAIL] ∧
             u =
               { s with
                 regs := u.regs
                 power :=
                   { s.power with
                     avsWrite := none
                     avsTarget := s.fld F.RGL_AVS_NOW_MV
                     avsStopped := s.power.avsStopped || s.bit F.RGL_AVS_CTRL_MODE } }))) ∧
     (∀ bus addr page cause, ∃ u : State,
       s.regFailEvent bus addr page cause = u.post F.PWR_EVT_RING 0x0804 [(1, bus), (7, addr), (8, page), (4, cause)] ∧
       u.rd 0x300C = s.rd 0x300C ||| 1#32 ∧ RegsBut s u [0x300C] ∧ SameButSignals s u))

/-- R304: a low level on PMB_ALERT# increments RGL.ALERTS, which saturates (R398), and raises REG_ALERT, its interrupt bit and its event with
the count; it does nothing else. -/
def Obligations.AlertCountsAndReports : Prop :=
  ∀ s : State, s.runs = true →
    ∃ u : State, exec .pmbAlert s = .next (u.post F.PWR_EVT_RING 0x0805 [(32, u.fld F.RGL_ALERTS_COUNT)]) ∧
      u.fld F.RGL_ALERTS_COUNT = min (s.fld F.RGL_ALERTS_COUNT + 1) (2 ^ 32 - 1) ∧
      u.rd 0x300C = s.rd 0x300C ||| 2#32 ∧ RegsBut s u [R.RGL_ALERTS, 0x300C] ∧ SameButSignals s u

/-! ### Memories and maintenance (14) -/

/-- March and Canary (R320, R321, R337 to R341). MARCH_CMD without GO does nothing; with GO it is BUSY while a march waits or runs, does nothing
with COUNT 0, and is REFUSED for a needed domain that is not ON and for a destructive march beyond the cache while RUN is 1; otherwise, with
COUNT clamped to the cells that there are, the march is requested of the arbiter. A region's test counts its failing rows, an unused spare
row of region 7 among them, repairs those that are no spare, reports its poisoned words, gives the token back and goes on to the next region,
as it does past a domain that is not ON; a pass that ends is counted and reported. Where Canary may not work, it asks for the token or gives
it back. An abort is counted and its region tried again, and after 16 in a row the region is skipped and recorded. A row is repaired by the
first unused spare, with a record where one is free; a cell without a spare is reported once. -/
def Obligations.MarchAndCanaryRun : Prop :=
  (∀ (s : State) (v : Word), s.serves R.SRAMC_MARCH_CMD = true →
    (bitOf v 31 = false → exec (.marchGo v) s = .next s) ∧
    (∀ busy : Bool, busy = ((s.mem.running ++ s.mem.queued).any fun m => m.act == 0) → bitOf v 31 = true →
      (busy = true →
        Yields (exec (.marchGo v) s) fun t =>
          t.fld F.SRAMC_MARCH_STATUS_RESULT = 4 ∧ t.fld F.SRAMC_MARCH_STATUS_FAILS = s.fld F.SRAMC_MARCH_STATUS_FAILS ∧
          RegsBut s t (R.SRAMC_MARCH_STATUS :: clampRegs 0x09) ∧ SameButLog s t) ∧
      (busy = false → bitsOf v 12 13 = 0 → exec (.marchGo v) s = .next (s.setFld F.SRAMC_MARCH_STATUS_RESULT 0)) ∧
      (∀ (k : Nat) (m : MaintReq), busy = false → bitsOf v 12 13 ≠ 0 → k = min (bitsOf v 12 13) (4096 - bitsOf v 0 12) →
        m = ⟨0, 0, 0, bitsOf v 0 12, k, bitOf v 28, 0⟩ →
        (((bitOf v 28 = false ∧ s.bit F.SCAN_CTRL_RUN = true ∧ ¬(2688 ≤ bitsOf v 0 12 ∧ bitsOf v 0 12 + k ≤ 3712)) ∨
            m.needs.all s.domOn = false) →
          Yields (exec (.marchGo v) s) fun t =>
            t.fld F.SRAMC_MARCH_STATUS_RESULT = 3 ∧ t.fld F.SRAMC_MARCH_STATUS_FAILS = s.fld F.SRAMC_MARCH_STATUS_FAILS ∧
            RegsBut s t (R.SRAMC_MARCH_STATUS :: clampRegs 0x09) ∧ SameButLog s t) ∧
        (¬((bitOf v 28 = false ∧ s.bit F.SCAN_CTRL_RUN = true ∧ ¬(2688 ≤ bitsOf v 0 12 ∧ bitsOf v 0 12 + k ≤ 3712)) ∨
            m.needs.all s.domOn = false) →
          exec (.marchGo v) s = .next ((if k = bitsOf v 12 13 then s
            else s.clampReport none false R.SRAMC_MARCH_CMD v (putBits v 12 13 k)).maintRequest m))))) ∧
  (∀ (s : State) (failing : List (BitVec 9)) (poisoned : List (BitVec 12)) (cell region : Nat),
    cell = s.fld F.CANARY_POS_CELL → region = s.fld F.CANARY_POS_REGION →
    (s.canaryOn = false → exec (.canaryRegionTest ⟨failing, poisoned⟩) s = .next s.canaryRelease) ∧
    (s.canaryOn = true → s.canaryReady = false → exec (.canaryRegionTest ⟨failing, poisoned⟩) s =
      .next (if s.mem.retry = false ∧ s.domOn (cellDomain cell) = true then s.maintRequest (plainReq 1) else s)) ∧
    (s.canaryReady = true → s.mem.retry = true → exec (.canaryRegionTest ⟨failing, poisoned⟩) s = .next s) ∧
    (s.canaryReady = true → s.mem.retry = false → s.domOn (cellDomain cell) = false →
      exec (.canaryRegionTest ⟨failing, poisoned⟩) s = .next s.canaryRelease.canaryNext) ∧
    (∀ (mine : Nat → Bool) (rows : List Nat) (w : State), s.canaryReady = true → s.mem.retry = false →
      s.domOn (cellDomain cell) = true →
      (∀ r, mine r = true ↔ (r < 256 ∧ r / 32 = region) ∨
        (256 ≤ r ∧ r < 258 ∧ region = 7 ∧ SMap.get (fun _ => 0) s.mem.spares cell ≤ r - 256)) →
      rows = (failing.map (·.toNat)).filter mine →
      w = s.each ((poisoned.map (·.toNat)).filter fun x => mine (x / 8)) (fun s x =>
        s.sramError 0x08 ⟨BitVec.ofNat 12 cell, BitVec.ofNat 12 x⟩ true false) →
      exec (.canaryRegionTest ⟨failing, poisoned⟩) s =
        .next (((w.bump F.CANARY_FAULTS_COUNT rows.length).each (rows.filter (· < 256)) fun s r =>
          s.repairRow cell r 2).canaryRelease.canaryNext)) ∧
    (s.canaryReady = true → s.mem.retry = false → s.domOn (cellDomain cell) = true →
      ∃ u : State, exec .canaryAbort s = .next u.canaryRelease ∧
        u.fld F.CANARY_ABORTS_COUNT = min (s.fld F.CANARY_ABORTS_COUNT + 1) (2 ^ 32 - 1) ∧ RegsBut s u [R.CANARY_ABORTS] ∧
        u = { s with regs := u.regs, mem := { s.mem with aborts := s.mem.aborts + 1, retry := true } }) ∧
    ((s.canaryReady = false ∨ s.mem.retry = true ∨ s.domOn (cellDomain cell) = false) → exec .canaryAbort s = .next s) ∧
    ((s.mem.retry = false ∨ s.domOn dSTORE = false) → exec .canaryRetry s = .next s) ∧
    (s.mem.retry = true → s.domOn dSTORE = true →
      (s.mem.aborts < 16 → exec .canaryRetry s = .next { s with mem := { s.mem with retry := false } }) ∧
      (16 ≤ s.mem.aborts → ∃ u : State, exec .canaryRetry s = .next u.canaryNext ∧
        u.fld F.CANARY_SKIPPED_COUNT = min (s.fld F.CANARY_SKIPPED_COUNT + 1) (2 ^ 32 - 1) ∧
        u.fld F.CANARY_LAST_SKIP_CELL = cell ∧ u.fld F.CANARY_LAST_SKIP_REGION = region ∧
        RegsBut s u [R.CANARY_SKIPPED, R.CANARY_LAST_SKIP] ∧ SameButRegs s u)) ∧
    (s.canaryRelease = State.maintScan { s with mem := { s.mem with
      running := s.mem.running.filter fun m => m.act != 1, queued := s.mem.queued.filter fun m => m.act != 1 } }) ∧
    (∃ u : State, u.fld F.CANARY_POS_CELL = (cell * 8 + region + 1) / 8 % 4096 ∧
      u.fld F.CANARY_POS_REGION = (cell * 8 + region + 1) % 8 ∧
      u.fld F.CANARY_PASSES_COUNT = (if cell * 8 + region + 1 < 32768 then s.fld F.CANARY_PASSES_COUNT
        else min (s.fld F.CANARY_PASSES_COUNT + 1) (2 ^ 32 - 1)) ∧
      RegsBut s u [R.CANARY_POS, R.CANARY_PASSES] ∧
      u = { s with regs := u.regs, mem := { s.mem with aborts := 0, retry := false } } ∧
      s.canaryNext = if cell * 8 + region + 1 < 32768 then u else u.maintPost 0x08 0x0905
        [(15, u.fld F.CANARY_PASSES_COUNT), (32, s.fld F.CANARY_SKIPPED_COUNT), (32, s.fld F.CANARY_FAULTS_COUNT)])) ∧
  (∀ (s : State) (cell row source used : Nat), used = SMap.get (fun _ => 0) s.mem.spares cell →
    (2 ≤ used → cell ∈ s.mem.exhausted → s.repairRow cell row source = s) ∧
    (∀ w : State, w = { s with mem := { s.mem with exhausted := cell :: s.mem.exhausted } } → 2 ≤ used →
      cell ∉ s.mem.exhausted →
      s.repairRow cell row source = (w.sramcCount F.SRAMC_EXHAUSTED_COUNT).maintPost 0x09 0x0901 [(12, cell)]) ∧
    (∀ (w : State) (free : Option Nat), w = { s with mem := { s.mem with
          spares := SMap.set (fun _ => 0) s.mem.spares cell (used + 1)
          repairs := SMap.insert s.mem.repairs (cell * 256 + row) used } } →
        free = (repairWords.find? fun i => s.persRead i == 0) → used < 2 →
      s.repairRow cell row source = ((match free with
          | some i => w.persWrite i (repairWord cell row used)
          | none => w).sramcCount F.SRAMC_REPAIRS_COUNT).maintPost 0x09 0x0900
        [(12, cell), (8, row), (1, used), (2, source), (1, b2n free.isSome)])) ∧
  (∀ (s : State) (w : CellWord), w.word.toNat < 2064 → s.domOn (cellDomain w.cell.toNat) = true → s.domOn dSTORE = true →
    ∃ u x : State, x = u.blockError 0x08 1 ∧
      u.fld F.SRAMC_UNCORR_TOTAL_COUNT = min (s.fld F.SRAMC_UNCORR_TOTAL_COUNT + 1) (2 ^ 32 - 1) ∧
      u.rd R.SRAMC_LAST_ERR = BitVec.ofNat 32 (w.cell.toNat + w.word.toNat * 2 ^ 12 + 2 ^ 31) ∧
      RegsBut s u [R.SRAMC_UNCORR_TOTAL, R.SRAMC_LAST_ERR] ∧ SameButRegs s u ∧
      s.sramError 0x08 w true false = if w.word.toNat / 8 < 256 then x.repairRow w.cell.toNat (w.word.toNat / 8) 1 else x)

/-- The arbiter (R326, R327, R331, R339, R342, R343, R347). MAINT_REQ requests a scrub with STORE ON, a refresh with FORE and MAP ON; a block that is
due, and lies in partitions 0 to 3, joins the refresh list and requests one. A request for what waits or runs is merged; another waits
until the arbiter starts it: where nothing that runs or waits before it overlaps its claims and Foreman holds none back. A march that starts
is RUNNING, and a destructive one clears its cells. STATE, QUEUE and CLAIMS show what runs and waits. An activity that ends is counted,
recorded and reported with the time that it ran, and the queue is scanned. A scrub pass that ends counts what it corrected and reports
each uncorrectable block, reports DRAM_ERRORS, ends, and is begun again where it is periodic. MAINT_ACTIVITY_DONE of start-up's march lets
start-up go on; of an activity that does not run, and of Canary, it changes nothing; otherwise the activity's own work is done, what it met in the NAND is
counted, failing rows of a march are counted and repaired, and it ends.

The persistent store makes the oldest accepted write of its buffer and counts it, with the wear of its word; a row that reaches
9,000,000 writes is reported (R333, R335). With an empty buffer nothing happens. -/
def Obligations.MaintenanceActivitiesRun : Prop :=
  ((∀ (s : State) (c : Instr) (k : Nat), s.serves R.MAINT_REQ = true →
     ((c = .maintReqScrub ∧ k = 4) ∨ (c = .maintReqNandrefresh ∧ k = 5)) →
     ((plainReq k).needs.all s.domOn = true → exec c s = .next (s.maintRequest (plainReq k))) ∧
     ((plainReq k).needs.all s.domOn = false → exec c s = .next s)) ∧
   (∀ (s : State) (b : BitVec 14),
     ((s.domOn dMAP = false ∨ s.fld F.MAPS_REFRESH_DAYS = 0 ∨ 5632 ≤ b.toNat) → exec (.nandrefreshDue b) s = .next s) ∧
     (s.domOn dMAP = true → s.fld F.MAPS_REFRESH_DAYS ≠ 0 → b.toNat < 5632 →
       ∃ u : State, exec (.nandrefreshDue b) s = .next (if s.domOn dFORE then u.maintRequest (plainReq 5) else u) ∧
         (∀ x, x ∈ u.mem.refresh ↔ x ∈ s.mem.refresh ∨ x = b.toNat) ∧
         u = { s with mem := { s.mem with refresh := u.mem.refresh } })) ∧
   (∀ (s : State) (m : MaintReq) (run : List MaintReq), run = s.mem.running ++ s.mem.queued →
     (run.any m.same = true → s.maintRequest m = s) ∧
     (∀ w : State, w = (if m.act = 0 ∧ s.domOn dSTORE = true then s.setFld F.SRAMC_MARCH_STATUS_RESULT 1 else s) →
       run.any m.same = false →
       s.maintRequest m = State.maintScan { w with mem := { s.mem with queued := s.mem.queued ++ [m] } }) ∧
     ((∀ x ∈ s.mem.queued, s.mem.running.any x.overlaps = true ∨ s.foremanHolds x = true) → s.maintScan = s.maintShow) ∧
     (∀ w : State, s.mem.queued = [m] → s.mem.running.any m.overlaps = false → s.foremanHolds m = false → w = s.maintStart m →
       s.maintScan = State.maintShow { w with mem := { w.mem with queued := [] } }) ∧
     (∀ w x : State, w = { s with mem := { s.mem with running := s.mem.running ++ [{ m with start := s.keepCycles }] } } →
       x = (if s.domOn dSTORE then w.setFld F.SRAMC_MARCH_STATUS_RESULT 2 else w) →
       s.maintStart m = if m.act = 0 then (if m.preserve then x else x.marchClears m) else w) ∧
     (∃ u : State, s.maintShow = u.ckptShow ∧
       (∀ a, a < 7 → u.fld F.MAINT_STATE_STATE / 4 ^ a % 4 =
         if (s.mem.running.any (·.act == a)) = true then 2 else if (s.mem.queued.any (·.act == a)) = true then 1 else 0) ∧
       ((∀ x ∈ s.mem.queued, x.act < 8) → ∀ i, i < 8 → u.fld F.MAINT_QUEUE_ENTRIES / 8 ^ i % 8 =
         match s.mem.queued[i]? with
         | some m => m.act
         | none => 7) ∧
       (∀ k, k < 8 → u.fld F.MAINT_CLAIMS_TOKENS / 2 ^ k % 2 = b2n (s.mem.running.any fun m => m.tokens.contains k)) ∧
       RegsBut s u [R.MAINT_STATE, R.MAINT_QUEUE, R.MAINT_CLAIMS] ∧ SameButRegs s u) ∧
     (∀ status, status < 3 → m.act < 8 → ∃ u x : State,
       x = u.maintPost 0x07 0x0906 [(3, m.act), (2, status),
         (32, if m ∈ s.mem.running then (s.keepCycles - m.start) / 25000 else 0)] ∧
       s.maintEnd m status =
         State.maintScan (if m.act = 0 ∧ x.domOn dSTORE = true then x.setFld F.SRAMC_MARCH_STATUS_RESULT 0 else x) ∧
       u.fld F.MAINT_DONE_COUNT = min (s.fld F.MAINT_DONE_COUNT + 1) (2 ^ 32 - 1) ∧
       u.fld F.MAINT_ABANDONED_COUNT = (if status = 1 then min (s.fld F.MAINT_ABANDONED_COUNT + 1) (2 ^ 32 - 1)
         else s.fld F.MAINT_ABANDONED_COUNT) ∧
       u.fld F.MAINT_LAST_DONE_ACTIVITY = m.act ∧ u.fld F.MAINT_LAST_DONE_STATUS = status ∧
       RegsBut s u [R.MAINT_DONE, R.MAINT_ABANDONED, R.MAINT_LAST_DONE] ∧
       u = { s with regs := u.regs, mem := { s.mem with running := s.mem.running.erase m, queued := s.mem.queued.erase m } })) ∧
   (∀ (s : State) (n : Nat) (uncorr : List Nat),
     ((s.mem.running.find? fun m => m.act == 4) = none → exec (.scrubPassDone n uncorr) s = .next s) ∧
     (∀ m w, (s.mem.running.find? fun m => m.act == 4) = some m → w = (s.dramCorr n).each uncorr State.dramUncorr →
       ∃ u : State, exec (.scrubPassDone n uncorr) s = .next ((u.maintPost 0x0A 0x0902 [(15, u.fld F.DRAMC_PASSES_COUNT),
           (32, u.fld F.DRAMC_CORR_COUNT), (32, u.fld F.DRAMC_UNCORR_COUNT)]).maintEnd m 0).scrubGo ∧
         u.fld F.DRAMC_PASSES_COUNT = min (w.fld F.DRAMC_PASSES_COUNT + 1) (2 ^ 32 - 1) ∧ u.fld F.DRAMC_SCRUB_POS_FRAME = 0 ∧
         RegsBut w u [R.DRAMC_PASSES, R.DRAMC_SCRUB_POS] ∧
         u = { w with regs := u.regs, mem := { w.mem with scrubPhase := 0 } }) ∧
     (s.scrubGo = if s.domOn dSTORE = true ∧ s.fld F.DRAMC_SCRUB_HOURS ≠ 0 then s.maintRequest (plainReq 4) else s) ∧
     (n = 0 → s.dramCorr n = s) ∧
     (n ≠ 0 → (s.dramCorr n).fld F.DRAMC_CORR_COUNT = min (s.fld F.DRAMC_CORR_COUNT + n) (2 ^ 32 - 1) ∧
       (s.dramCorr n).rd 0xA018 = s.rd 0xA018 ||| 1#32 ∧
       (s.dramCorr n).fld (hdrFld 0x0A 0x1C 0 32) = min (s.fld (hdrFld 0x0A 0x1C 0 32) + n) (2 ^ 32 - 1) ∧
       RegsBut s (s.dramCorr n) [R.DRAMC_CORR, 0xA018, 0xA01C] ∧ SameButRegs s (s.dramCorr n)) ∧
     (∀ a, ∃ u : State, s.dramUncorr a = u.blockError 0x0A 1 ∧
       u.fld F.DRAMC_UNCORR_COUNT = min (s.fld F.DRAMC_UNCORR_COUNT + 1) (2 ^ 32 - 1) ∧
       u.fld F.DRAMC_UNCORR_ADDR_LO_ADDR = a / 64 * 64 % 2 ^ F.DRAMC_UNCORR_ADDR_LO_ADDR.w ∧
       u.fld F.DRAMC_UNCORR_ADDR_HI_ADDR = a / 64 * 64 / 2 ^ 32 % 2 ^ F.DRAMC_UNCORR_ADDR_HI_ADDR.w ∧
       RegsBut s u [R.DRAMC_UNCORR, R.DRAMC_UNCORR_ADDR_LO, R.DRAMC_UNCORR_ADDR_HI] ∧ SameButRegs s u)) ∧
   (∀ (s : State) (act : BitVec 3) (res : ActResult) (rep : ActReport) (ok : Bool), s.runs = true → ok = (res == .ok) →
     (act = 0 → s.boot.step = .march → exec (.maintActivityDone act res rep) s = .next (s.after (s.bootMarched rep.rows))) ∧
     (¬(act = 0 ∧ s.boot.step = .march) →
       ((s.mem.running.find? fun m => m.act == act.toNat) = none →
         exec (.maintActivityDone act res rep) s = .next (s.after s)) ∧
       (∀ m w, (s.mem.running.find? fun m => m.act == act.toNat) = some m → w = s.nandReport rep →
         (act = 0 → exec (.maintActivityDone act res rep) s =
           .next (s.after ((s.marchRows rep.rows).maintEnd m (if ok then 0 else 2)))) ∧
         (act = 2 → exec (.maintActivityDone act res rep) s = .next (s.after (w.mapLoaded m (!ok) rep))) ∧
         (act = 3 → exec (.maintActivityDone act res rep) s = .next (s.after (w.checkpointDone (if ok then 0 else 1)))) ∧
         (act = 4 → exec (.maintActivityDone act res rep) s =
           .next (s.after (if ok then s.scrubPassDone 0 [] else s.maintEnd m 2))) ∧
         (act = 5 → exec (.maintActivityDone act res rep) s =
           .next (s.after ((if ok then w.nandRefreshed else w).maintEnd m (if ok then 0 else 2)))) ∧
         (act = 6 → exec (.maintActivityDone act res rep) s = .next (s.after (w.fwUpdated m ok))) ∧
         ((act = 1 ∨ act = 7) → exec (.maintActivityDone act res rep) s = .next (s.after s)))) ∧
     (∃ (u : State) (rows : List (BitVec 12 × BitVec 9)), rows = (rep.rows.filter fun r => r.2.toNat < 258) ∧
       s.marchRows rep.rows =
         u.each (rows.filter fun r => r.2.toNat < 256) (fun s r => s.repairRow r.1.toNat r.2.toNat 3) ∧
       u = s.setFld F.SRAMC_MARCH_STATUS_FAILS (min 4095 rows.length)) ∧
     (∃ u : State, s.nandReport rep = u.each (rep.badBlocks.map (·.toNat)) State.badBlock ∧
       u.fld F.MAPS_CORR_BITS_COUNT = min (s.fld F.MAPS_CORR_BITS_COUNT + rep.corrBits) (2 ^ 32 - 1) ∧
       u.fld F.MAPS_UNCORR_PAGES_COUNT = min (s.fld F.MAPS_UNCORR_PAGES_COUNT + rep.uncorrPages) (2 ^ 32 - 1) ∧
       (∀ x, x ∈ u.mem.refresh ↔ x ∈ s.mem.refresh ∨ ∃ y ∈ rep.weakBlocks, y.toNat = x ∧ x < 5632) ∧
       RegsBut s u [R.MAPS_CORR_BITS, R.MAPS_UNCORR_PAGES] ∧
       u = { s with regs := u.regs, mem := { s.mem with refresh := u.mem.refresh } }))) ∧
  (∀ s : State,
     (s.pstore.buf = [] → exec .pstoreWordWrite s = .next s) ∧
     (∀ i v rest, s.pstore.buf = (i, v) :: rest →
       ∃ u : State,
         exec .pstoreWordWrite s = .next (if rowWear s.pstore.wear (i / 64) < 9000000 ∧ 9000000 ≤ rowWear u.pstore.wear (i / 64)
           then (u.raise 0x04 0).post F.MAINT_EVT_RING 0x0904 [(13, i / 64), (32, rowWear u.pstore.wear (i / 64))] else u) ∧
         u.pstore.buf = rest ∧ SMap.get (fun _ => 0) u.pstore.words i = v ∧
         (∀ j, j ≠ i → SMap.get (fun _ => 0) u.pstore.words j = SMap.get (fun _ => 0) s.pstore.words j) ∧
         (∀ j, SMap.get (fun _ => 0) u.pstore.wear j =
           if j = i then SMap.get (fun _ => 0) s.pstore.wear i + 1 else SMap.get (fun _ => 0) s.pstore.wear j) ∧
         u.fld F.PSTORE_WRITES_LO_COUNT + 2 ^ 32 * u.fld F.PSTORE_WRITES_HI_COUNT =
           (s.fld F.PSTORE_WRITES_LO_COUNT + 2 ^ 32 * s.fld F.PSTORE_WRITES_HI_COUNT + 1) % 2 ^ 64 ∧
         RegsBut s u [R.PSTORE_WRITES_LO, R.PSTORE_WRITES_HI] ∧ u = { s with regs := u.regs, pstore := u.pstore }))

/-- R325: when both ports write the same word of the scratchpad in one cycle, a byte that Foreman enables holds Foreman's data, any other byte
of the word holds the host's, and the event is counted in COLLISIONS, in both modes; it is no conflict, so SP_STALLS stays. A host write that
conflicts with accesses of Foreman is made, and counts one stall in MODE 1, and one for each cycle that it waits, at most 3, in MODE 0
(R323); one that meets nothing is made. A host write is dropped and counted while HOST_WR is 0 (R324), and dropped while FORE is not ON. -/
def Obligations.ScratchpadPortsShareWords : Prop :=
  ∀ (s : State) (off : BitVec 24) (v d : Word) (en : BitVec 4) (i : Nat), s.serves R.SRAMC_SP_CFG = true →
    i = (off.toNat - 0x400000) / 4 →
    (s.bit F.SRAMC_SP_CFG_HOST_WR = true → s.domOn dFORE = true →
      Yields (exec (.scratchpadWrite off v (.sameWord d en)) s) fun t =>
        (∀ b, b < 4 → bitsOf (t.scratch i) (8 * b) 8 = bitsOf (if en.getLsbD b then d else v) (8 * b) 8) ∧
        (∀ j, j ≠ i → t.scratch j = s.scratch j) ∧
        t.fld F.SRAMC_COLLISIONS_COUNT = min (s.fld F.SRAMC_COLLISIONS_COUNT + 1) (2 ^ 32 - 1) ∧
        RegsBut s t [R.SRAMC_COLLISIONS] ∧ t = { s with regs := t.regs, mem := { s.mem with scratch := t.mem.scratch } }) ∧
    (s.bit F.SRAMC_SP_CFG_HOST_WR = true → s.domOn dFORE = true → ∀ n,
      Yields (exec (.scratchpadWrite off v (.conflict n)) s) fun t =>
        t.scratch i = v ∧ (∀ j, j ≠ i → t.scratch j = s.scratch j) ∧
        t.fld F.SRAMC_SP_STALLS_COUNT =
          min (s.fld F.SRAMC_SP_STALLS_COUNT + if s.bit F.SRAMC_SP_CFG_MODE then 1 else min 3 n) (2 ^ 32 - 1) ∧
        RegsBut s t [R.SRAMC_SP_STALLS] ∧ t = { s with regs := t.regs, mem := { s.mem with scratch := t.mem.scratch } }) ∧
    (s.bit F.SRAMC_SP_CFG_HOST_WR = true → s.domOn dFORE = true →
      Yields (exec (.scratchpadWrite off v .free) s) fun t =>
        t.scratch i = v ∧ (∀ j, j ≠ i → t.scratch j = s.scratch j) ∧
        t = { s with mem := { s.mem with scratch := t.mem.scratch } }) ∧
    (∀ m, (s.bit F.SRAMC_SP_CFG_HOST_WR = true → s.domOn dFORE = false → exec (.scratchpadWrite off v m) s = .next s) ∧
      (s.bit F.SRAMC_SP_CFG_HOST_WR = false →
        Yields (exec (.scratchpadWrite off v m) s) fun t =>
          t.fld F.SRAMC_SP_DROPPED_COUNT = min (s.fld F.SRAMC_SP_DROPPED_COUNT + 1) (2 ^ 32 - 1) ∧
          RegsBut s t [R.SRAMC_SP_DROPPED] ∧ SameButRegs s t))

/-! ### Resets, start-up, errors (15) -/

/-- COLD (R348, R380, R413). After COLD_RESET, and in COLD after a loss of VDD_KEEP, KEEP alone is ON, RESET_CAUSE holds COLD alone, every
register reads its reset value, and everything is as at reset, with device DRAM empty and nothing running, but for what was sent and what
waits to be commanded, the words and the wear of the persistent store, whose buffer is empty, the NAND with its remap table and its refresh
list, the aging ring, and the levels at the pins; the journal's pointer and the Subsystem IDs follow the persistent store. COLD_RESET begins
start-up with BOOTSEL as given; without VDD_KEEP the part does not run, and pins and timers then do nothing. -/
def Obligations.ColdKeepsPersistentStores : Prop :=
  (∀ (s : State) (c : Instr) (r : State), r = State.reset → ((∃ b, c = .coldReset b) ∨ c = .vddKeepLoss) →
    Yields (exec c s) fun t =>
      (∀ k, t.rd k = resetWord k) ∧ (∀ d, d ≤ 10 → t.domState d = if d = 0 then 2 else 0) ∧
      t.fld F.CHIP_RESET_CAUSE_CAUSES = 1 ∧ t.fatal = false ∧ t.dram = [] ∧ t.queues = [] ∧ t.mem.running = [] ∧
      t.mem.queued = [] ∧ t.power.req = none ∧
      (∀ w, w = SMap.get (fun _ => 0) s.pstore.words 0 →
        bitsOf (t.cfg 0x2C) 0 16 = (if bitsOf w 0 16 = 0 then 0x1E6D else bitsOf w 0 16) ∧
        bitsOf (t.cfg 0x2C) 16 16 = (if bitsOf w 16 16 = 0 then 0x4880 else bitsOf w 16 16)) ∧
      (∀ o, o ≠ 0x2C → t.cfg o = cfgReset o) ∧ t.label.ptr = t.journalPointer ∧
      (∀ b, c = .coldReset b → t.boot = { r.boot with bootsel := b.toNat } ∧ t.runs = true) ∧
      (c = .vddKeepLoss → t.boot = { r.boot with step := .cold } ∧ t.runs = false) ∧
      t =
        { r with
          pending := s.pending
          sent := s.sent
          freeCtr := s.freeCtr
          pstore := { s.pstore with buf := [] }
          mem :=
            { r.mem with
              nand := s.mem.nand
              remap := s.mem.remap
              erases := s.mem.erases
              poolTaken := s.mem.poolTaken
              poolBack := s.mem.poolBack
              bad := s.mem.bad
              refresh := s.mem.refresh }
          age := { r.age with ring := s.age.ring, ringPos := s.age.ringPos }
          power := { r.power with levels := s.power.levels, perstLow := s.power.perstLow }
          hvd := { r.hvd with pfwLow := s.hvd.pfwLow }
          label := { r.label with ptr := t.label.ptr }
          hostReset := s.power.perstLow
          pcie := { r.pcie with cfg := t.pcie.cfg }
          boot := t.boot }) ∧
  (∀ (s : State) (c : Instr), s.runs = false →
    c ∈ [.wakeTimerExpire, .rootLock, .xtalStartTimeout, .xtalLost, .pmbAlert, .hostResetEnd, .functionLevelReset,
      .fullScopeSequenceTimeout, .foreWdogExpire, .mboxCommandDone, .trialTimeout, .shutdownLabelWaitExpire,
      .boundaryScanInstruction, .labelPwrTimeout, .labelPwrgoodLost] → exec c s = .next s)

/-- HOST-SIDE resets (R348 to R350, R352, R391). PERST# going low, a hot reset or the data link going down, a Function Level Reset and a
host-scope SOFT reset begin one, which waits while HOST is being woken, but for the Function Level Reset; with AUTO_OFF set PERST# asks for
the domains too. It sets its bit of RESET_CAUSE and counts in HOST_RESETS, clears the engines of the Host region, discards transactions and
staged values, resets the fields of its classes, and sets HOLD; PERST and HOT reset configuration space too, and PERST takes the link
down. A reset that ends lets the Host region answer, leaves its isolation, and sends what was owed; PERST# going high may wake HOST. What
finds nothing to reset or to end changes nothing. -/
def Obligations.HostSideResetsAct : Prop :=
  (∀ s : State, s.runs = true →
    (s.power.perstLow = true → exec .perstAssert s = .next s.goOn) ∧
    (s.power.perstLow = false → ∀ v w : State,
      v = { s with power := { s.power with perstLow := true, perstLatch := s.power.perstLatch || !s.domOn dHOST } } →
      w = v.hostSide 1 →
      exec .perstAssert s = .next (State.goOn { w with power := { w.power with autoOff := w.bit F.PWR_PERST_CFG_AUTO_OFF } })) ∧
    (∀ down,
      ((s.domOn dHOST = false ∨ s.power.perstLow = true ∨ s.bit F.PCIEX_LINK_STATUS_DL_UP = false) →
        exec (.hotReset down) s = .next (s.after s)) ∧
      (s.domOn dHOST = true → s.power.perstLow = false → s.bit F.PCIEX_LINK_STATUS_DL_UP = true →
        exec (.hotReset down) s =
          .next (s.after ((if down then (s.bump F.PCIEX_LINK_DOWNS_COUNT).wr R.PCIEX_LINK_STATUS 0 else s).hostSide 2)))) ∧
    ((s.domOn dHOST = false ∨ s.memReady = false) → exec .functionLevelReset s = .next (s.after s)) ∧
    (s.domOn dHOST = true → s.memReady = true → ∀ u : State, u = ((s.hostBegin 2).cfgReset fun o => cfgSticky o || o == 0x80) →
      exec .functionLevelReset s = .next (s.after (u.setCfg 0x78 (putBits (u.cfg 0x78) 5 3 (bitsOf (s.cfg 0x78) 5 3))))) ∧
    (∀ v, s.serves R.CHIP_RESET_CTRL = true →
      (bitOf v 0 = true → bitOf v 1 = false → bitsOf v 8 8 = 0xA5 → exec (.softResetHost v) s = .next (s.after (s.hostSide 3))) ∧
      ((bitOf v 0 = false ∨ bitOf v 1 = true ∨ bitsOf v 8 8 ≠ 0xA5) → exec (.softResetHost v) s = .next (s.after s))) ∧
    (s.hostReset = true → s.power.perstLow = false → exec .hostResetEnd s = .next (s.after s.hostResetEnd)) ∧
    ((s.hostReset = false ∨ s.power.perstLow = true) → exec .hostResetEnd s = .next (s.after s)) ∧
    (s.power.perstLow = false → exec .perstDeassert s = .next s.goOn) ∧
    (s.power.perstLow = true → ∀ u : State, u = State.hostResetEnd { s with power := { s.power with perstLow := false } } →
      exec .perstDeassert s = .next (if u.power.perstLatch then u.wakeEvent 8 else u).goOn)) ∧
  (∀ (s : State) (bit : Nat),
    (s.hostWaking = true → s.hostSide bit = { s with power := { s.power with resetDue := bit } }) ∧
    (s.hostWaking = false → s.hostSide bit =
      if bit = 1 then (((s.hostBegin 1).cfgReset cfgSticky).readSubsystem).wr R.PCIEX_LINK_STATUS 0
      else if bit = 2 then (s.hostBegin 2).cfgReset cfgSticky else s.hostBegin bit) ∧
    (s.canonical = true → bit < 7 → ∃ v w x u : State,
      v.fld F.CHIP_RESET_CAUSE_CAUSES = s.fld F.CHIP_RESET_CAUSE_CAUSES ||| 2 ^ bit ∧
      v.fld F.CHIP_HOST_RESETS_COUNT = min (s.fld F.CHIP_HOST_RESETS_COUNT + 1) (2 ^ 32 - 1) ∧
      RegsBut s v [R.CHIP_RESET_CAUSE, R.CHIP_HOST_RESETS] ∧ SameButRegs s v ∧
      w = v.hostClear.discardTxns.dropStaged ∧
      (∀ k, x.rd k = if w.rd k = resetWord k then resetWord k else resetFields (causeCls bit) k (w.rd k)) ∧
      x = { w with regs := x.regs, hostReset := true } ∧
      u.rd 0x000C = x.rd 0x000C ||| 4#32 ∧ u.rd R.SCAN_STATUS = (x.setFld F.SCAN_STATUS_HOLD 1).rd R.SCAN_STATUS ∧ RegsBut x u [0x000C, R.SCAN_STATUS] ∧
      SameButSignals x u ∧
      s.hostBegin bit = match s.boot.mbox with
        | some m => { u with boot := { s.boot with mbox := some { m with moving := false } } }
        | none => u) ∧
    (∃ lost : List Fill,
      lost = ((s.surf.fills.map fun f => { f with discard := true }).filter fun f => !f.needs.isEmpty) ∧
      s.hostClear =
        { s with
          queues := []
          rings := []
          hoist := Hoist.init
          cmp := CmpHid.init
          surf := { s.surf with cache := [], heldLo := [], fills := [], lost := s.surf.lost ++ lost }
          keys := { s.keys with data := [], op := none, opKey := [] }
          label := { s.label with landing := [] }
          pcie := { s.pcie with d3hot := false, deferred := [], hiLatch := [], ltr := none, ptmBusy := false, ptmPrev := none,
                                ptmFresh := false } }) ∧
    (∃ u : State, u = s.discardTxns ∧ (∀ n, n < 64 → u.fld (F.SLOT_STATE_STATE n) = slFREE ∧
        (s.fld (F.SLOT_STATE_STATE n) ≠ slFREE → u.fld (F.SLOT_WRITES_COUNT n) = 0)) ∧
      RegsBut s u ((List.range 64).flatMap fun n => [R.SLOT_STATE n, R.SLOT_WRITES n]) ∧
      u = { s with regs := u.regs, txn := { s.txn with slots := [], merging := [], arrived := [] } }) ∧
    (s.dropStaged = { s with txn := { s.txn with direct := [] }, surf := { s.surf with staged := [] },
                             scan := { s.scan with flips := [] } }) ∧
    (s.hostReset = false → s.hostResetEnd = s) ∧
    (s.hostReset = true → ∃ u v : State, u.fld F.CHIP_ERR_SUMMARY_ISOLATED / 2 % 2 = 0 ∧
      (∀ n, n ≠ 1 → u.fld F.CHIP_ERR_SUMMARY_ISOLATED / 2 ^ n % 2 = s.fld F.CHIP_ERR_SUMMARY_ISOLATED / 2 ^ n % 2) ∧
      RegsBut s u [R.CHIP_ERR_SUMMARY] ∧ u = { s with regs := u.regs, hostReset := false } ∧
      v = (match s.boot.owed with
        | some e => State.postR { u with boot := { s.boot with owed := none } } (s.fld F.FORE_EVT_RING) false e
        | none => u) ∧
      s.hostResetEnd = if v.summaryOwed && v.hostUp && v.anySummary then
        State.signal { v with summaryOwed := false } (v.fld F.CHIP_INT_CTRL_VECTOR) else v))

/-- Start-up, the full-scope sequence and boundary scan (R287, R350, R354, R355, R359, R407). DRAM that has trained lets Foreman start, or recovery;
DRAM that has not is trained once more, and then start-up goes on with failure 3. Foreman starts in STAGE 3 with FORE ON, or the boot
sequencer enters recovery where BOOTSEL or failure 3 asks for it; without FORE start-up goes on to HOST with failure 5. RESET_CTRL with
SCOPE 1 begins the sequence of a full-scope reset, once, and halts the label port; when its time is over the part is as after COLD_RESET,
with SOFT_FULL in RESET_CAUSE and the clamp log kept. A boundary-scan instruction stops scan, the lanes and the gates. -/
def Obligations.StartupAndFullScopeAct : Prop :=
  ∀ s : State, s.runs = true →
    (s.boot.step = .dram →
      exec (.dramTrainingDone true) s = .next (s.after s.bootFirmware) ∧
      (s.boot.again = false → exec (.dramTrainingDone false) s = .next (s.after (s.setAgain true))) ∧
      (s.boot.again = true → exec (.dramTrainingDone false) s = .next (s.after ((s.setAgain false).bootFail 3).bootFirmware))) ∧
    (s.boot.step ≠ .dram → ∀ ok, exec (.dramTrainingDone ok) s = .next (s.after s)) ∧
    (∀ u v : State, u = (if s.fld F.CHIP_BOOT_STATUS_STAGE = stageReady then s else s.setFld F.CHIP_BOOT_STATUS_STAGE 3) →
      v = (if s.boot.bootsel = 2 ∨ s.fld F.CHIP_BOOT_STATUS_BOOT_FAIL = 3 then u.enterRecovery else u.firmwareStart s.boot.image) →
      (s.domOn dFORE = false → s.bootFirmware = ((u.bootFail 5).setAgain true).setBootStep (.host false)) ∧
      (s.domOn dFORE = true → s.bootFirmware =
        if v.boot.foreman then ((v.setFld F.SURF_RSVD_FRAMES_COUNT 640).placeStores).setBootStep (.list 0)
        else v.setBootStep (.host false))) ∧
    (s.domOn dFORE = true → ∃ u : State, s.enterRecovery = u ∧ u.bit F.FORE_FW_STATUS_RECOVERY = true ∧
      u.bit F.FORE_FW_STATUS_TRIAL = false ∧ RegsBut s u [R.FORE_FW_STATUS] ∧
      u = { s with regs := u.regs, boot := { s.boot with foreman := false, recovery := true, trial := false } }) ∧
    (∀ v, s.serves R.CHIP_RESET_CTRL = true →
      (bitOf v 0 = true → bitOf v 1 = true → bitsOf v 8 8 = 0xA5 → s.boot.full = 0 →
        exec (.softResetFull v) s = .next (s.after (State.labelHalt { s with boot := { s.boot with full := 1 } }))) ∧
      ((bitOf v 0 = false ∨ bitOf v 1 = false ∨ bitsOf v 8 8 ≠ 0xA5 ∨ s.boot.full ≠ 0) →
        exec (.softResetFull v) s = .next (s.after s))) ∧
    (s.labelHalt =
      if s.domOn dLABEL = false then s
      else if s.label.run = [] then s.labelStop else { s with label := { s.label with stopDue := true } }) ∧
    (s.boot.full = 0 → exec .fullScopeSequenceTimeout s = .next (s.after s)) ∧
    (s.boot.full ≠ 0 →
      ∃ u : State, exec .fullScopeSequenceTimeout s = .next (s.after u) ∧
        u.fld F.CHIP_RESET_CAUSE_CAUSES = s.fld F.CHIP_RESET_CAUSE_CAUSES ||| 16 ∧
        u.rd R.CHIP_CLAMP_LOG_NEXT = s.rd R.CHIP_CLAMP_LOG_NEXT ∧ u.rd R.CHIP_CLAMP_LOG_TOTAL = s.rd R.CHIP_CLAMP_LOG_TOTAL ∧
        RegsBut (s.coldReset s.boot.bootsel) u [R.CHIP_RESET_CAUSE, R.CHIP_CLAMP_LOG_NEXT, R.CHIP_CLAMP_LOG_TOTAL] ∧
        u = { s.coldReset s.boot.bootsel with regs := u.regs, clampLog := s.clampLog }) ∧
    (∀ x y z : State, x = (s.setFld F.SCAN_CTRL_RUN 0).scanHalt → y = (if s.domOn dLINK then x.trainStop else x) →
      z = (if s.domOn dPANEL then y.setFld F.GATE_CTRL_FORCE 0 else y) →
      exec .boundaryScanInstruction s = .next (s.after z) ∧
      ((∀ n ∈ s.link.training, n < 48) →
        z.bit F.SCAN_CTRL_RUN = false ∧ z.bit F.SCAN_STATUS_RUNNING = false ∧
        (s.domOn dLINK = true → ∀ n, n < 48 → z.laneState n = laneOFF)))

/-- Watchdogs, port timeouts and fatal causes (R351, R364 to R372). Foreman's watchdog sets WDOG in RESET_CAUSE and restarts Foreman, from the
image before it in a trial; so does the end of a trial's time. The watchdog of a block is reported as its error of kind 3, and then resets
FORE, the Host region, the block alone, or the label port, or takes the fatal path. A timeout is an error of kind 4, and isolates the
region once enough of them count; at CHIP and SCAN it isolates nothing. FATAL_FORCE with its key, a parity error in KEEP, CHIP or SCAN, and
the eighth reading in a row at FATAL_LIM take the fatal path: FATAL is 1 with the cause, the panel is discharged, cages stop, and a record and
an event are written. A block's error sets its bit, counts, and is reported with a free detail. -/
def Obligations.ErrorsAndFatalCausesAct : Prop :=
  (∀ s : State, s.runs = true →
    ((s.domOn dFORE = false ∨ s.boot.foreman = false) → exec .foreWdogExpire s = .next (s.after s)) ∧
    (s.domOn dFORE = true → s.boot.foreman = true →
      exec .foreWdogExpire s = .next (s.after ((s.setFld F.CHIP_RESET_CAUSE_CAUSES
        (s.fld F.CHIP_RESET_CAUSE_CAUSES ||| 32)).foreRestart 1))) ∧
    (∀ secs, secs = (match s.boot.record with
        | some r => s.recWord r 2
        | none => 0) →
      ((s.domOn dFORE = false ∨ s.boot.foreman = false ∨ s.boot.trial = false ∨ secs = 0) →
        exec .trialTimeout s = .next (s.after s)) ∧
      (s.domOn dFORE = true → s.boot.foreman = true → s.boot.trial = true → secs ≠ 0 →
        exec .trialTimeout s = .next (s.after (s.foreRestart 2)))) ∧
    (∀ cause w v, w = s.foreStop → v = w.revert →
      s.foreRestart cause = if w.boot.trial then ((v.firmwareStart v.boot.image).revertedEvent cause).restarted 3
        else (w.firmwareStart w.boot.image).restarted 1) ∧
    (∀ cause, ∃ u : State, s.restarted cause = u.post F.FORE_EVT_RING 0x0913 [(2, cause), (32, u.fld F.FORE_RESTARTS_COUNT)] ∧
      u.fld F.FORE_RESTARTS_COUNT = min (s.fld F.FORE_RESTARTS_COUNT + 1) (2 ^ 32 - 1) ∧ u.rd 0x600C = s.rd 0x600C ||| 2#32 ∧
      RegsBut s u [R.FORE_RESTARTS, 0x600C] ∧ SameButSignals s u) ∧
    (∀ page : PageIdx,
      ((pageUsed page.toNat = false ∨ s.domOn (pageDomain page.toNat) = false) →
        exec (.blockWdogExpire page) s = .next (s.after s) ∧ exec (.portTimeout page) s = .next (s.after s)) ∧
      (pageUsed page.toNat = true → s.domOn (pageDomain page.toNat) = true → ∀ (p : Nat) (u x y : State), p = page.toNat →
        u = s.blockError p 3 → x = s.blockError p 4 →
        y = { x with boot := { x.boot with timeouts := (pageRegion p, x.keepCycles) :: x.boot.timeouts } } →
        (p = 0x06 → exec (.blockWdogExpire page) s = .next (s.after u.foreWdog)) ∧
        (p ≠ 0x06 → pageRegion p = 1 → exec (.blockWdogExpire page) s = .next (s.after (u.hostSide 6))) ∧
        (p ∈ [0x05, 0x07, 0x08, 0x0B] → exec (.blockWdogExpire page) s = .next (s.after (u.blockRestart p))) ∧
        (p = 0x44 → exec (.blockWdogExpire page) s = .next (s.after u.labelHalt)) ∧
        (pageRegion p ≠ 1 → p ∉ [0x05, 0x06, 0x07, 0x08, 0x0B, 0x44] →
          exec (.blockWdogExpire page) s = .next (s.after (u.fatalPath fcWDOG p (pageRegion p) p))) ∧
        (6 ≤ pageRegion p → exec (.portTimeout page) s = .next (s.after x)) ∧
        (pageRegion p < 6 → exec (.portTimeout page) s = .next (s.after
          (if y.fld F.CHIP_ISOLATE_LIMIT_COUNT ≤ y.timeoutCount (pageRegion p) ∧
              y.fld F.CHIP_ERR_SUMMARY_ISOLATED / 2 ^ pageRegion p % 2 = 0
            then y.isolate (pageRegion p) else y)))))) ∧
  (∀ (s : State) (page kind : Nat), kind < 32 →
    ∃ u : State, u.rd (page * 0x1000 + 0x18) = s.rd (page * 0x1000 + 0x18) ||| BitVec.ofNat 32 (2 ^ kind) ∧
      u.fld (hdrFld page 0x20 0 32) = min (s.fld (hdrFld page 0x20 0 32) + 1) (2 ^ 32 - 1) ∧ u.rd 0x000C = s.rd 0x000C ||| 1#32 ∧
      RegsBut s u [page * 0x1000 + 0x18, page * 0x1000 + 0x20, 0x000C] ∧
      u = { s with regs := u.regs, sent := u.sent, pcie := u.pcie, summaryOwed := u.summaryOwed, freeCtr := s.freeCtr + 1 } ∧
      s.blockError page kind = u.post F.CHIP_ERR_EVT_RING 0x0920
        [(8, page), (3, kind), (32, (Config.freeWord s.freeCtr).toNat), (32, (s.rd R.SCAN_FRAME_SEQ).toNat)]) ∧
  (∀ (s : State) (region : Nat), region < 6 →
    ∃ u : State, u.fld F.CHIP_ERR_SUMMARY_ISOLATED = s.fld F.CHIP_ERR_SUMMARY_ISOLATED ||| 2 ^ region ∧
      u.rd 0x000C = s.rd 0x000C ||| 2#32 ∧ RegsBut s u [R.CHIP_ERR_SUMMARY, 0x000C] ∧ SameButSignals s u ∧
      (∀ w : State, w = u.post F.CHIP_ERR_EVT_RING 0x0921 [(3, region), (32, (s.rd R.SCAN_FRAME_SEQ).toNat)] →
        s.isolate region = if region = 1 then w.hostSide 6 else w.fatalPath fcISOLATED region region 0xFF)) ∧
  (∀ (s : State) (cause detail region page panel : Nat), panel = (if s.domOn dPANEL then s.panelState else pOFF) → cause < 16 →
    (s.fatal = true → s.fatalPath cause detail region page = s.fatalRecord cause detail region page panel) ∧
    (s.fatal = false → ∃ a b c d e f : State,
      a.fatal = true ∧ a.fld F.CHIP_STATE_CAUSE = cause ∧ RegsBut s a [R.CHIP_STATE] ∧ SameButRegs s a ∧
      b = (a.panelDown cauFATAL true).labelPfw ∧
      c = { b with hoist := { b.hoist with cages := [] }, cmp := { b.cmp with capture := none },
                   label := { b.label with landing := [] } } ∧
      d = (c.fatalRecord cause detail region page panel).post F.CHIP_ERR_EVT_RING 0x0F00
        [(4, cause), (3, region), (8, page), (32, detail), (32, (c.rd R.SCAN_FRAME_SEQ).toNat)] ∧
      e = (if d.domOn dHOST then d.aerUncorr 22 else d) ∧
      f = { e with boot := { e.boot with fatalWait := true, fatalCkpt := region != 0 && region != 2 } } ∧
      s.fatalPath cause detail region page = if f.panelDark then f.fatalEnd else f)) ∧
  (∀ (s : State) (v : Word), s.serves R.CHIP_FATAL_FORCE = true →
    (bitOf v 0 = true → bitsOf v 8 8 = 0xA5 → exec (.fatalForce v) s = .next (s.fatalPath fcFORCED 0 7 0x00)) ∧
    ((bitOf v 0 = false ∨ bitsOf v 8 8 ≠ 0xA5) → exec (.fatalForce v) s = .next s)) ∧
  (∀ (s : State) (off : BitVec 24) (o : Nat), s.runs = true → o = off.toNat →
    ((s.domOn (offDomain o) = false ∨ fieldMask o = 0) → exec (.regParityError off) s = .next s) ∧
    (s.domOn (offDomain o) = true → fieldMask o ≠ 0 → ∃ u : State,
      u.rd o = Config.freeWord s.freeCtr &&& fieldMask o ∧ RegsBut s u [o] ∧
      u = { s with regs := u.regs, freeCtr := s.freeCtr + 1 } ∧
      (∀ w, w = u.blockError (ownerPage o) 2 → exec (.regParityError off) s = .next
        (if pageDomain (ownerPage o) = dKEEP then w.fatalPath fcPARITY o (pageRegion (ownerPage o)) (ownerPage o) else w)))) ∧
  (∀ (s : State) (code : BitVec 12) (t warn : Int), s.runs = true → t = signedOf 12 code.toNat →
    warn = 8 * (s.fld F.TMON_WARN_DEG : Int) →
    ∃ u v w : State,
      u.fld F.TMON_TJ_TEMP = code.toNat ∧ u.bit F.TMON_TJ_VALID = true ∧
      u.fld F.TMON_TJ_MAX_TEMP = (if s.bit F.TMON_TJ_VALID = false ∨ signedOf 12 (s.fld F.TMON_TJ_MAX_TEMP) < t then code.toNat
        else s.fld F.TMON_TJ_MAX_TEMP) ∧
      RegsBut s u [R.TMON_TJ, R.TMON_TJ_MAX] ∧ SameButRegs s u ∧
      (warn ≤ t → s.boot.warned = false → v = State.post (State.raise { u with boot := { s.boot with warned := true } } 0x05 0)
        F.CHIP_ERR_EVT_RING 0x0922 [(12, code.toNat), (32, (s.rd R.SCAN_FRAME_SEQ).toNat)]) ∧
      (¬(warn ≤ t ∧ s.boot.warned = false) →
        v = if t ≤ warn - 40 then { u with boot := { s.boot with warned := false } } else u) ∧
      w = { v with boot := { v.boot with
        hot := if 8 * (s.fld F.TMON_FATAL_LIM_DEG : Int) ≤ t then s.boot.hot + 1 else 0 } } ∧
      exec (.tmonReading code) s = .next (if 8 * (s.fld F.TMON_FATAL_LIM_DEG : Int) ≤ t ∧ s.boot.hot = 7
        then w.fatalPath fcOVERTEMP code.toNat 0 0x05 else w))

/-! ### The mailbox (15) -/

/-- Mailbox commands (R359 to R364). A write of MBOX_CMD with an OP, while none runs and Foreman or the boot sequencer serves the mailbox, makes
its command the running one with its SEQ and arguments, and BUSY 1; otherwise it is ignored. In recovery only PING, STAGE and FW_INSTALL are
served, and others INVALID. PING's outputs are FW_RELEASE and FW_STATUS; LOAD_IMAGE is INVALID, DOWN or REFUSED, or asks for its image;
STAGE of a length out of range is INVALID, and one without DRAM or HOST is DOWN; STORE_IMAGE and FW_INSTALL check their arguments and
the staged image, and ask for its write; FW_SWITCH checks the other image; FW_CONFIRM ends a trial and writes its record; SHUTDOWN closes
the label port. A command that is done shows SEQ, RESULT and its outputs, those that the rules leave open free, and none runs; MBOX_DONE
is written, or owed during a HOST-SIDE reset. SHUTDOWN_LABEL_WAIT_EXPIRE halts the label port while SHUTDOWN waits for it. -/
def Obligations.MailboxCommandsRun : Prop :=
  (∀ (s : State) (c : Instr) (op : Nat) (seq : BitVec 8), s.runs = true → s.serves R.FORE_MBOX_CMD = true →
    ((c = .mboxPing seq ∧ op = 1) ∨ (c = .mboxLoadImage seq ∧ op = 2) ∨ (c = .mboxStage seq ∧ op = 3) ∨
     (c = .mboxStoreImage seq ∧ op = 4) ∨ (c = .mboxFwInstall seq ∧ op = 5) ∨ (c = .mboxFwSwitch seq ∧ op = 6) ∨
     (c = .mboxFwConfirm seq ∧ op = 7) ∨ (c = .mboxShutdown seq ∧ op = 8)) →
    ((s.boot.mbox.isSome = true ∨ (s.boot.foreman = false ∧ s.boot.recovery = false)) → exec c s = .next (s.after s)) ∧
    (∀ m : Mbox, m = ⟨op, seq.toNat, s.rd (R.FORE_MBOX_ARGn 0), s.rd (R.FORE_MBOX_ARGn 1), s.rd (R.FORE_MBOX_ARGn 2), none, 0,
        false, 0, 0, 0⟩ →
      s.boot.mbox = none → (s.boot.foreman = true ∨ s.boot.recovery = true) →
      ∃ u w : State, exec c s = .next (s.after w) ∧
        u = State.setFld { s with boot := { s.boot with mbox := some m } } F.FORE_MBOX_STATUS_BUSY 1 ∧
        (s.boot.recovery = true → op ∉ [1, 3, 5] → w = u.mboxCode mbINVALID) ∧
        (op = 1 → w = u.mboxResult ⟨mbOK, none, some (s.rd R.FORE_FW_RELEASE), some (s.rd R.FORE_FW_STATUS)⟩) ∧
        (op = 2 → s.boot.recovery = false → ∀ (kind : Nat) (x : MaintReq), kind = bitsOf m.a0 0 4 → x = mapLoad kind m.a1 →
          w = if kind < 2 ∨ 4 < kind ∨ locStart m.a1 = none then u.mboxCode mbINVALID
            else if u.nandUp = false ∨ u.loadDomains kind = false then u.mboxCode mbDOWN
            else if u.loadRefused x then u.mboxCode mbREFUSED else u.maintRequest x) ∧
        (op = 3 → w = if m.a2.toNat < 64 ∨ 67108864 < m.a2.toNat then u.mboxCode mbINVALID
          else if u.dramUp = false ∨ u.domOn dHOST = false then u.mboxCode mbDOWN else u) ∧
        (op = 4 → s.boot.recovery = false → ∀ r, r = mepaCheck u.stagedBytes none none payloadLen →
          w = if (bitsOf m.a0 16 3 ≠ 2 ∧ bitsOf m.a0 16 3 ≠ 3) ∨ locStart m.a0 = none then u.mboxCode mbINVALID
            else if u.nandUp = false then u.mboxCode mbDOWN
            else if r.1 ≠ 0 then u.mboxImage r.1
            else if locRoom m.a0 < u.stagedLen then u.mboxCode mbINVALID else u.maintRequest (plainReq 6)) ∧
        (op = 5 → ∀ r, r = firmwareCheck u.stagedBytes →
          w = if s.boot.recovery = false ∧ bitsOf m.a0 0 1 = s.boot.image then u.mboxCode mbINVALID
            else if u.nandUp = false then u.mboxCode mbDOWN
            else if r.1 ≠ 0 then u.mboxImage r.1 else u.maintRequest (plainReq 6)) ∧
        (op = 6 → s.boot.recovery = false → ∀ x y, x = u.fwCheck (1 - s.boot.image) → y = x.2.2.fwShow →
          w = if s.domOn dMAP = false then u.mboxCode mbDOWN else if x.1 ≠ 0 then y.mboxImage x.1 else y) ∧
        (op = 7 → s.boot.recovery = false → ∀ y : State, y = (if s.boot.record.isSome || s.boot.trial
            then u.writeRecord (b2n (if s.boot.trial then s.boot.image == 1 else s.recFlag 0)) false else u) →
          w = (State.fwShow { y with boot := { y.boot with trial := false } }).mboxCode mbOK) ∧
        (op = 8 → s.boot.recovery = false → w =
          { u with
            boot := { u.boot with mbox := some { m with
              interrupted := s.fld F.LABEL_INTERRUPTED_COUNT, ckpts := s.age.made, step := 1 } }
            label := { s.label with closing := true } }))) ∧
  (∀ (s : State) (r : MboxResult),
    (∀ m, s.boot.mbox = some m → m.result = none →
      s.mboxResult r = { s with boot := { s.boot with mbox := some { m with result := some r } } }) ∧
    ((∀ m, s.boot.mbox = some m → m.result.isSome = true) → s.mboxResult r = s)) ∧
  (∀ s : State, s.runs = true →
    ((s.domOn dFORE = false ∨ ∀ m, s.boot.mbox = some m → m.result = none) → exec .mboxCommandDone s = .next (s.after s)) ∧
    (∀ m r, s.boot.mbox = some m → m.result = some r → s.domOn dFORE = true →
      ∃ (u : State) (e : Ev), exec .mboxCommandDone s = .next (s.after (u.mboxPost e)) ∧
        e = mkEv 0x0910 [(8, m.op), (8, m.seq), (8, r.code), (8, u.fld F.FORE_MBOX_STATUS_DETAIL),
          (32, (u.rd (R.FORE_MBOX_OUTn 0)).toNat)] ∧
        u.bit F.FORE_MBOX_STATUS_BUSY = false ∧ u.fld F.FORE_MBOX_STATUS_SEQ = m.seq % 256 ∧
        u.fld F.FORE_MBOX_STATUS_RESULT = r.code % 256 ∧
        (∀ w, r.out0 = some w → u.rd (R.FORE_MBOX_OUTn 0) = w) ∧ (∀ w, r.out1 = some w → u.rd (R.FORE_MBOX_OUTn 1) = w) ∧
        (r.out0 = none → u.rd (R.FORE_MBOX_OUTn 0) = Config.freeWord s.freeCtr) ∧
        (r.out1 = none → u.rd (R.FORE_MBOX_OUTn 1) = Config.freeWord (s.freeCtr + b2n r.out0.isNone)) ∧
        (∀ d, r.detail = some d → u.fld F.FORE_MBOX_STATUS_DETAIL = d % 256) ∧
        (r.detail = none → u.fld F.FORE_MBOX_STATUS_DETAIL =
          (Config.freeWord (s.freeCtr + b2n r.out0.isNone + b2n r.out1.isNone)).toNat % 256) ∧
        RegsBut s u [R.FORE_MBOX_STATUS, R.FORE_MBOX_OUTn 0, R.FORE_MBOX_OUTn 1] ∧
        u = { s with regs := u.regs, boot := { s.boot with mbox := none },
                     freeCtr := s.freeCtr + b2n r.out0.isNone + b2n r.out1.isNone + b2n r.detail.isNone }) ∧
    (∀ e, ∃ u : State, u.rd 0x600C = s.rd 0x600C ||| 1#32 ∧ RegsBut s u [0x600C] ∧ SameButSignals s u ∧
      s.mboxPost e = if s.hostReset then { u with boot := { s.boot with owed := some e } }
        else u.postR (s.fld F.FORE_EVT_RING) false e) ∧
    (∀ m, s.boot.mbox = some m → m.op = 8 → m.result = none → m.step = 1 →
      exec .shutdownLabelWaitExpire s = .next (s.after s.labelHalt)) ∧
    ((∀ m, s.boot.mbox = some m → m.op ≠ 8 ∨ m.result.isSome = true ∨ m.step ≠ 1) →
      exec .shutdownLabelWaitExpire s = .next (s.after s)))

/-! ### PCI Express (16) -/

/-- Configuration requests, D3hot and L1 (R356, R381, R383 to R385, R387 to R389, R391, R392). With HOST ON and PERST# high a request before
READY returns Retry Status; a read returns its configuration word; a write of an ordinary word changes its writable bits, clears those
written as 1 in its RW1C bits, and changes no other word; what follows from the words of MSI, MSI-X, LTR, the Function Level Reset, the power
state and the size of BAR4 then acts. The function enters D3hot and returns from it: what waited goes out, and transfers go on. The host takes
the link to L1 or a substate when the part has no request pending, and the entry counts as the link leaves L0. -/
def Obligations.ConfigAndLinkPowerAct : Prop :=
  (∀ (s : State) (w : Bool) (off : BitVec 12) (v : Word) (o : Nat), s.runs = true → o = off.toNat →
    ((s.domOn dHOST = false ∨ s.power.perstLow = true) → exec (.configRequest w off v) s = .next (s.after s)) ∧
    (s.domOn dHOST = true → s.power.perstLow = false →
      (s.memReady = false → exec (.configRequest w off v) s = .next (s.after { s with sent := .retryStatus :: s.sent })) ∧
      (s.memReady = true →
        exec (.configRequest false off v) s = .next (s.after { s with sent := .configReply (s.cfgView o) :: s.sent }) ∧
        (∃ u : State, exec (.configRequest true off v) s = .next (s.after { u with sent := .reply [] :: u.sent }) ∧
          (o = 0x44 → u = if bitsOf v 0 2 = 3 ∧ s.pcie.d3hot = false then s.d3Enter
            else if bitsOf v 0 2 = 0 ∧ s.pcie.d3hot = true then s.d3Leave else s) ∧
          (o = 0x258 → u = s.bar4Resize (bitsOf v 8 6)) ∧
          (o ≠ 0x44 → o ≠ 0x258 → ∃ x : State,
            x.cfg o = ((s.cfg o &&& ~~~(cfgMask o)) ||| (v &&& cfgMask o)) &&& ~~~(v &&& cfgW1c o) ∧
            (∀ k, k ≠ o → x.cfg k = s.cfg k) ∧ x = { s with pcie := { s.pcie with cfg := x.pcie.cfg } } ∧
            (o ∈ [0x50, 0x60, 0xB0] → u = x.flushVectors) ∧ (o = 0x98 → u = x.ltrUpdate) ∧
            (o = 0x78 → u = if bitOf v 15 then x.flr else x) ∧
            (o ∉ [0x50, 0x60, 0xB0, 0x98, 0x78] → u = x)))))) ∧
  (∀ s : State,
    (s.hostUp = false → exec .d3hotEntry s = .next s ∧ exec .d0Return s = .next s ∧ ∀ sub, exec (.l1Entry sub) s = .next s) ∧
    (s.hostUp = true →
      (s.pcie.d3hot = false → exec .d3hotEntry s = .next s.d3Enter ∧ exec .d0Return s = .next s) ∧
      (s.pcie.d3hot = true → exec .d0Return s = .next s.d3Leave ∧ exec .d3hotEntry s = .next s)) ∧
    (bitsOf (s.d3Enter.cfg 0x44) 0 2 = 3 ∧ (∀ o, o ≠ 0x44 → s.d3Enter.cfg o = s.cfg o) ∧
      s.d3Enter = { s with pcie := { s.pcie with d3hot := true, cfg := s.d3Enter.pcie.cfg } }) ∧
    (∃ u w : State, bitsOf (u.cfg 0x44) 0 2 = 0 ∧ (∀ o, o ≠ 0x44 → u.cfg o = s.cfg o) ∧
      u = { s with pcie := { s.pcie with d3hot := false, deferred := [], cfg := u.pcie.cfg } } ∧
      w.sent = s.pcie.deferred.reverse ++ s.sent ∧
      w.fld F.PCIEX_LINK_STATUS_PM_STATE = (if s.pcie.deferred = [] then s.fld F.PCIEX_LINK_STATUS_PM_STATE else 0) ∧
      RegsBut s w [R.PCIEX_LINK_STATUS] ∧ w = { u with sent := w.sent, regs := w.regs } ∧
      s.d3Leave = ((w.each (List.range 64) State.roomBack).flushVectors.ltrUpdate).assign) ∧
    (∀ sub : BitVec 2, s.hostUp = true →
      ((s.bit F.PCIEX_LINK_STATUS_DL_UP = false ∨ s.requestPending = true ∨ sub.toNat = 3) → exec (.l1Entry sub) s = .next s) ∧
      (s.bit F.PCIEX_LINK_STATUS_DL_UP = true → s.requestPending = false → sub.toNat < 3 →
        Yields (exec (.l1Entry sub) s) fun t =>
          t.fld F.PCIEX_LINK_STATUS_PM_STATE = sub.toNat + 1 ∧
          t.fld F.PCIEX_LINK_STATUS_SPEED = s.fld F.PCIEX_LINK_STATUS_SPEED ∧
          t.fld F.PCIEX_LINK_STATUS_WIDTH = s.fld F.PCIEX_LINK_STATUS_WIDTH ∧ t.bit F.PCIEX_LINK_STATUS_DL_UP = true ∧
          t.fld F.PCIEX_L1_ENTRIES_COUNT =
            (if s.fld F.PCIEX_LINK_STATUS_PM_STATE = 0 then min (s.fld F.PCIEX_L1_ENTRIES_COUNT + 1) (2 ^ 32 - 1)
             else s.fld F.PCIEX_L1_ENTRIES_COUNT) ∧
          RegsBut s t [R.PCIEX_LINK_STATUS, R.PCIEX_L1_ENTRIES] ∧ SameButRegs s t)))

/-- Time measurement and failing reads (R386, R390, R393). A dialog starts at the period, and when NOW is written, while PTM is enabled, none
runs and HOST answers outside D3hot; else nothing happens. Its end stores L and H, and the rate once two dialogs in a row lie close enough;
with none running it changes nothing. A completion timeout or a poisoned completion ends the read of its requester with that outcome, as the
end of a descriptor's read, of a fill or of the read of a cage in its phase, and takes the queue of a descriptor's read to ERROR with CAUSE 2
or 1; one of a read that is not outstanding changes nothing but what AER shows. A poisoned write and an unexpected completion are
reported through AER alone; with HOST not ON nothing is. -/
def Obligations.DialogsAndReadErrorsAct : Prop :=
  (∀ (s : State) (c : Instr),
    ((c = .ptmPeriodic ∧ s.fld F.PCIEX_PTM_CFG_PERIOD_MS ≠ 0) ∨
     (∃ v, c = .ptmNow v ∧ bitOf v 0 = true ∧ s.serves R.PCIEX_PTM_CMD = true)) →
    (s.hostUp = true → s.pcie.d3hot = false → s.ptmEnabled = true → s.pcie.ptmBusy = false →
      Yields (exec c s) fun t =>
        t.pcie.ptmBusy = true ∧ t.sent = .ptmRequest :: s.sent ∧ t.fld F.PCIEX_LINK_STATUS_PM_STATE = 0 ∧
        t.fld F.PCIEX_LINK_STATUS_SPEED = s.fld F.PCIEX_LINK_STATUS_SPEED ∧
        t.fld F.PCIEX_LINK_STATUS_WIDTH = s.fld F.PCIEX_LINK_STATUS_WIDTH ∧
        t.bit F.PCIEX_LINK_STATUS_DL_UP = s.bit F.PCIEX_LINK_STATUS_DL_UP ∧
        RegsBut s t [R.PCIEX_LINK_STATUS] ∧
        t = { s with regs := t.regs, sent := t.sent, pcie := { s.pcie with ptmBusy := true } }) ∧
    ((s.hostUp = false ∨ s.pcie.d3hot = true ∨ s.ptmEnabled = false ∨ s.pcie.ptmBusy = true) → exec c s = .next s)) ∧
  (∀ s : State, (s.fld F.PCIEX_PTM_CFG_PERIOD_MS = 0 → exec .ptmPeriodic s = .next s) ∧
    (∀ v, bitOf v 0 = false → s.serves R.PCIEX_PTM_CMD = true → exec (.ptmNow v) s = .next s)) ∧
  (∀ (s : State) (l h : DWord),
    ((s.hostUp = false ∨ s.pcie.ptmBusy = false) → exec (.ptmDialogDone l h) s = .next s) ∧
    (∀ near : Bool, s.hostUp = true → s.pcie.ptmBusy = true →
      (near = true ↔ ∃ p : DWord × DWord, s.pcie.ptmPrev = some p ∧ p.1.toNat < l.toNat ∧
        l.toNat ≤ p.1.toNat + 4 * s.fld F.PCIEX_PTM_CFG_PERIOD_MS * 1200000) →
      Yields (exec (.ptmDialogDone l h) s) fun t =>
        t.rd R.PCIEX_PTM_LO = l.truncate 32 ∧ t.rd R.PCIEX_PTM_HI = (l >>> 32).truncate 32 ∧
        t.rd R.PCIEX_PTM_HOST_LO = h.truncate 32 ∧ t.rd R.PCIEX_PTM_HOST_HI = (h >>> 32).truncate 32 ∧
        (near = false → t.rd R.PCIEX_PTM_RATIO = s.rd R.PCIEX_PTM_RATIO ∧ t.rd R.PCIEX_PTM_STATUS = s.rd R.PCIEX_PTM_STATUS) ∧
        (∀ p : DWord × DWord, s.pcie.ptmPrev = some p → near = true →
          t.fld F.PCIEX_PTM_RATIO_RATIO =
            (h.toNat - p.2.toNat) * 6 * 2 ^ 30 / ((l.toNat - p.1.toNat) * 5) % 2 ^ F.PCIEX_PTM_RATIO_RATIO.w ∧
          t.bit F.PCIEX_PTM_STATUS_RATIO_OK = true) ∧
        RegsBut s t [R.PCIEX_PTM_LO, R.PCIEX_PTM_HI, R.PCIEX_PTM_HOST_LO, R.PCIEX_PTM_HOST_HI, R.PCIEX_PTM_RATIO,
          R.PCIEX_PTM_STATUS] ∧
        t = { s with regs := t.regs, pcie := { s.pcie with ptmBusy := false, ptmPrev := some (l, h), ptmFresh := true,
                                                           ptmAt := s.localTime } })) ∧
  (∀ (s : State) (r : Requester) (c : Instr) (u : State) (res : ReadRes) (fres : FillRes),
    ((c = .completionTimeout r ∧ u = s ∧ res = .timeout ∧ fres = .timeout) ∨
     (c = .poisonedTlp (some r) ∧ u = s.aerUncorr 12 ∧ res = .error ∧ fres = .error ∧ s.domOn dHOST = true)) →
    (s.reads r = false → exec c s = .next u) ∧
    (s.reads r = true →
      (∀ q, r = .queue q → exec c s = exec (.descFetchDone q res) u ∧
        ((s.queue q.toNat).stale = 0 → (s.queue q.toNat).reading = true →
          Yields (exec c s) fun t =>
            t.qState q.toNat = qERROR ∧ t.fld (F.QCTX_STATE_CAUSE q.toNat) = (if res = .timeout then 2 else 1) ∧
            t.fld F.QMGR_ERR_QUEUE_QUEUE = q.toNat ∧ (t.queue q.toNat).reading = false)) ∧
      (∀ p l, r = .fill p l → exec c s = exec (.remoteFillDone p l fres) u) ∧
      (∀ n k, r = .cage n → s.cage? n.toNat = some k →
        (k.phase = .bursts → exec c s = .next (u.burstDone n.toNat k res)) ∧
        (k.phase = .landing → exec c s = .next (u.landBurstDone n.toNat k res)) ∧
        (∀ x, k.phase = .inflating x → exec c s = .next (u.inflateComplete n.toNat k res none).assignLanes)))) ∧
  (∀ (s : State) (c : Instr) (bit : Nat),
    ((c = .poisonedTlp none ∧ bit = 12) ∨ (c = .unexpectedCompletion ∧ bit = 16)) →
    (s.domOn dHOST = true → exec c s = .next (s.aerUncorr bit)) ∧ (s.domOn dHOST = false → exec c s = .next s)) ∧
  (∀ (s : State) (r : Requester), s.domOn dHOST = false → exec (.poisonedTlp (some r)) s = .next s) ∧
  (∀ (s : State) (bit : Nat) (t : State), t = s.aerUncorr bit →
    t.cfg 0x104 = s.cfg 0x104 ||| BitVec.ofNat 32 (2 ^ bit) ∧ (∀ o, o ≠ 0x104 → t.cfg o = s.cfg o) ∧
    t.sent = (if bitOf (s.cfg 0x108) bit then s.sent else .aer true bit :: s.sent) ∧
    t = { s with sent := t.sent, pcie := { s.pcie with cfg := t.pcie.cfg } })
end

