-- ==== Sys2Proof/Laws/Bits.lean ====
section
/-! SUPPORT. Laws of bit fields of a word: what a field reads after it, or another one, was written. -/

namespace Sys2Proof.Machine

theorem testBit_place (lo w v i : Nat) :
    (place lo w v).testBit i = (decide (lo ≤ i) && decide (i - lo < w) && v.testBit (i - lo)) := by
  rw [place, Nat.testBit_mul_two_pow, Nat.testBit_mod_two_pow, Bool.and_assoc]

theorem testBit_bitsOf (v : Word) (lo w i : Nat) :
    (bitsOf v lo w).testBit i = (decide (i < w) && v.getLsbD (lo + i)) := by
  rw [bitsOf, Nat.testBit_mod_two_pow, Nat.testBit_div_two_pow, BitVec.testBit_toNat, Nat.add_comm i lo]

theorem getLsbD_putBits (x : Word) (lo w v i : Nat) :
    (putBits x lo w v).getLsbD i =
      (decide (i < 32) && if lo ≤ i ∧ i < lo + w then v.testBit (i - lo) else x.getLsbD i) := by
  simp only [putBits, BitVec.getLsbD_or, BitVec.getLsbD_and, BitVec.getLsbD_not, BitVec.getLsbD_ofNat, testBit_place,
    Nat.testBit_two_pow_sub_one]
  by_cases hi : i < 32
  · by_cases h1 : lo ≤ i
    · by_cases h2 : i < lo + w
      · have : i - lo < w := by omega
        simp [hi, h1, h2, this]
      · have : ¬ i - lo < w := by omega
        simp [hi, h1, h2, this]
    · simp [hi, h1]
  · simp [hi, BitVec.getLsbD_of_ge x i (by omega)]

/-- A field reads as the value put into it, cut to its width. -/
theorem bitsOf_putBits_same (x : Word) (lo w v : Nat) (h : lo + w ≤ 32) : bitsOf (putBits x lo w v) lo w = v % 2 ^ w := by
  apply Nat.eq_of_testBit_eq
  intro i
  rw [testBit_bitsOf, getLsbD_putBits, Nat.testBit_mod_two_pow]
  by_cases hi : i < w
  · have h1 : lo + i < 32 := by omega
    have h2 : lo + i < lo + w := by omega
    simp [hi, h1]
  · simp [hi]

/-- A field that shares no bit with the one written reads as before. -/
theorem bitsOf_putBits_other (x : Word) (lo w v lo' w' : Nat) (h : lo + w ≤ lo' ∨ lo' + w' ≤ lo) :
    bitsOf (putBits x lo w v) lo' w' = bitsOf x lo' w' := by
  apply Nat.eq_of_testBit_eq
  intro i
  rw [testBit_bitsOf, testBit_bitsOf, getLsbD_putBits]
  by_cases hi : i < w'
  · have : ¬ (lo ≤ lo' + i ∧ lo' + i < lo + w) := by omega
    by_cases h32 : lo' + i < 32
    · simp [hi, this, h32]
    · simp [hi, h32, BitVec.getLsbD_of_ge x (lo' + i) (by omega)]
  · simp [hi]

theorem bitsOf_lt (v : Word) (lo w : Nat) : bitsOf v lo w < 2 ^ w := Nat.mod_lt _ (Nat.two_pow_pos w)

theorem b2n_lt_two (b : Bool) : b2n b < 2 := by cases b <;> decide

end Sys2Proof.Machine
end

