-- ==== Sys2Proof/Laws/SMap.lean ====
section
/-! SUPPORT. Laws of sparse maps: what a read gives after a change, and that every change keeps the canonical form. -/

namespace Sys2Proof.Machine

variable {β : Type}

theorem SMap.find?_erase (m : SMap β) (k k' : Nat) :
    SMap.find? (SMap.erase m k) k' = if k = k' then none else SMap.find? m k' := by
  induction m with
  | nil => simp [SMap.erase, SMap.find?]
  | cons e m ih =>
    obtain ⟨a, v⟩ := e
    by_cases h : a = k
    · subst h
      rw [SMap.erase, if_pos rfl, ih]
      by_cases h' : a = k' <;> simp [SMap.find?, h']
    · rw [SMap.erase, if_neg h]
      by_cases h' : a = k'
      · subst h'; simp [SMap.find?, Ne.symm h]
      · simp [SMap.find?, h', ih]

theorem SMap.find?_insertSorted (m : SMap β) (k k' : Nat) (v : β) (h : SMap.find? m k = none) :
    SMap.find? (SMap.insertSorted k v m) k' = if k = k' then some v else SMap.find? m k' := by
  induction m with
  | nil => simp [SMap.insertSorted, SMap.find?]
  | cons e m ih =>
    obtain ⟨a, x⟩ := e
    have hak : a ≠ k := by intro c; simp [SMap.find?, c] at h
    have hm : SMap.find? m k = none := by simpa [SMap.find?, hak] using h
    by_cases hlt : k < a
    · simp [SMap.insertSorted, hlt, SMap.find?]
    · by_cases h' : a = k'
      · subst h'; simp [SMap.insertSorted, hlt, SMap.find?, Ne.symm hak]
      · simp [SMap.insertSorted, hlt, SMap.find?, h', ih hm]

theorem SMap.find?_insert (m : SMap β) (k k' : Nat) (v : β) :
    SMap.find? (SMap.insert m k v) k' = if k = k' then some v else SMap.find? m k' := by
  have h : SMap.find? (SMap.erase m k) k = none := by simp [SMap.find?_erase]
  rw [SMap.insert, SMap.find?_insertSorted _ _ _ _ h, SMap.find?_erase]
  split <;> rfl

/-- Reading after a write: the value written at its key, and what was there at every other key. -/
theorem SMap.get_set [DecidableEq β] (d : Nat → β) (m : SMap β) (k k' : Nat) (v : β) :
    SMap.get d (SMap.set d m k v) k' = if k = k' then v else SMap.get d m k' := by
  unfold SMap.set SMap.get
  by_cases h : v = d k
  · rw [if_pos h, SMap.find?_erase]
    by_cases h' : k = k'
    · subst h'; simp [h]
    · simp [h']
  · rw [if_neg h, SMap.find?_insert]
    by_cases h' : k = k' <;> simp [h']

@[simp] theorem SMap.get_set_same [DecidableEq β] (d : Nat → β) (m : SMap β) (k : Nat) (v : β) :
    SMap.get d (SMap.set d m k v) k = v := by simp [SMap.get_set]

theorem SMap.get_set_other [DecidableEq β] (d : Nat → β) (m : SMap β) {k k' : Nat} (v : β) (h : k ≠ k') :
    SMap.get d (SMap.set d m k v) k' = SMap.get d m k' := by simp [SMap.get_set, h]

/-! ### The canonical form -/

theorem SMap.above_iff (k : Nat) (m : SMap β) : SMap.above k m = true ↔ ∀ e ∈ m, k < e.1 := by
  simp [SMap.above]

theorem SMap.sorted_cons (k : Nat) (v : β) (m : SMap β) :
    SMap.sorted ((k, v) :: m) = true ↔ (∀ e ∈ m, k < e.1) ∧ SMap.sorted m = true := by
  simp [SMap.sorted, SMap.above]

theorem SMap.wf_iff [DecidableEq β] (d : Nat → β) (m : SMap β) :
    SMap.wf d m = true ↔ SMap.sorted m = true ∧ ∀ e ∈ m, e.2 ≠ d e.1 := by
  simp [SMap.wf]

theorem SMap.erase_eq_filter (m : SMap β) (k : Nat) : SMap.erase m k = m.filter fun e => e.1 ≠ k := by
  induction m with
  | nil => rfl
  | cons e m ih =>
    obtain ⟨a, v⟩ := e
    by_cases h : a = k <;> simp [SMap.erase, h, ih]

theorem SMap.sorted_filter (p : Nat × β → Bool) (m : SMap β) (h : SMap.sorted m = true) :
    SMap.sorted (m.filter p) = true := by
  induction m with
  | nil => rfl
  | cons e m ih =>
    obtain ⟨a, v⟩ := e
    rw [SMap.sorted_cons] at h
    have := ih h.2
    by_cases hp : p (a, v)
    · rw [List.filter_cons_of_pos hp, SMap.sorted_cons]
      exact ⟨fun e he => h.1 e (List.mem_filter.mp he).1, this⟩
    · rwa [List.filter_cons_of_neg hp]

theorem SMap.wf_filter [DecidableEq β] (d : Nat → β) (p : Nat × β → Bool) (m : SMap β) (h : SMap.wf d m = true) :
    SMap.wf d (m.filter p) = true := by
  rw [SMap.wf_iff] at h ⊢
  exact ⟨SMap.sorted_filter p m h.1, fun e he => h.2 e (List.mem_filter.mp he).1⟩

theorem SMap.wf_drop [DecidableEq β] (d : Nat → β) (p : Nat → Bool) (m : SMap β) (h : SMap.wf d m = true) :
    SMap.wf d (SMap.drop p m) = true := SMap.wf_filter d _ m h

theorem SMap.wf_erase [DecidableEq β] (d : Nat → β) (m : SMap β) (k : Nat) (h : SMap.wf d m = true) :
    SMap.wf d (SMap.erase m k) = true := by rw [SMap.erase_eq_filter]; exact SMap.wf_filter d _ m h

theorem SMap.mem_insertSorted (k : Nat) (v : β) (m : SMap β) (e : Nat × β) :
    e ∈ SMap.insertSorted k v m ↔ e = (k, v) ∨ e ∈ m := by
  induction m with
  | nil => simp [SMap.insertSorted]
  | cons x m ih =>
    obtain ⟨a, y⟩ := x
    by_cases h : k < a
    · simp [SMap.insertSorted, h]
    · simp only [SMap.insertSorted, h, if_false, List.mem_cons, ih]; tauto

theorem SMap.sorted_insertSorted (k : Nat) (v : β) (m : SMap β) (h : SMap.sorted m = true) (hk : ∀ e ∈ m, e.1 ≠ k) :
    SMap.sorted (SMap.insertSorted k v m) = true := by
  induction m with
  | nil => simp [SMap.insertSorted, SMap.sorted, SMap.above]
  | cons x m ih =>
    obtain ⟨a, y⟩ := x
    rw [SMap.sorted_cons] at h
    by_cases hlt : k < a
    · simp only [SMap.insertSorted, hlt, if_true]
      rw [SMap.sorted_cons, SMap.sorted_cons]
      refine ⟨fun e he => ?_, h⟩
      rcases List.mem_cons.mp he with rfl | he
      · exact hlt
      · exact lt_trans hlt (h.1 e he)
    · simp only [SMap.insertSorted, hlt, if_false]
      rw [SMap.sorted_cons]
      refine ⟨fun e he => ?_, ih h.2 fun e he => hk e (List.mem_cons_of_mem _ he)⟩
      rcases (SMap.mem_insertSorted k v m e).mp he with rfl | he
      · exact lt_of_le_of_ne (Nat.le_of_not_lt hlt) (hk (a, y) (by simp))
      · exact h.1 e he

theorem SMap.wf_set [DecidableEq β] (d : Nat → β) (m : SMap β) (k : Nat) (v : β) (h : SMap.wf d m = true) :
    SMap.wf d (SMap.set d m k v) = true := by
  unfold SMap.set
  split
  · exact SMap.wf_erase d m k h
  · rename_i hv
    have he := SMap.wf_erase d m k h
    rw [SMap.wf_iff] at he ⊢
    have hk : ∀ e ∈ SMap.erase m k, e.1 ≠ k := by
      rw [SMap.erase_eq_filter]; intro e he; simpa using (List.mem_filter.mp he).2
    refine ⟨SMap.sorted_insertSorted k v _ he.1 hk, fun e hm => ?_⟩
    rcases (SMap.mem_insertSorted k v _ e).mp hm with rfl | hm
    · exact hv
    · exact he.2 e hm

theorem SMap.mem_mapVals [DecidableEq β] (d : Nat → β) (f : Nat → β → β) (m : SMap β) (e : Nat × β)
    (h : e ∈ SMap.mapVals d f m) : (∃ x ∈ m, x.1 = e.1) ∧ e.2 ≠ d e.1 := by
  induction m with
  | nil => simp [SMap.mapVals] at h
  | cons x m ih =>
    obtain ⟨a, y⟩ := x
    simp only [SMap.mapVals] at h
    split at h
    · exact ⟨⟨_, List.mem_cons_of_mem _ (ih h).1.choose_spec.1, (ih h).1.choose_spec.2⟩, (ih h).2⟩
    · rename_i hv
      rcases List.mem_cons.mp h with rfl | h
      · exact ⟨⟨(a, y), by simp, rfl⟩, hv⟩
      · exact ⟨⟨_, List.mem_cons_of_mem _ (ih h).1.choose_spec.1, (ih h).1.choose_spec.2⟩, (ih h).2⟩

theorem SMap.wf_mapVals [DecidableEq β] (d : Nat → β) (f : Nat → β → β) (m : SMap β) (h : SMap.sorted m = true) :
    SMap.wf d (SMap.mapVals d f m) = true := by
  rw [SMap.wf_iff]
  refine ⟨?_, fun e he => (SMap.mem_mapVals d f m e he).2⟩
  induction m with
  | nil => rfl
  | cons x m ih =>
    obtain ⟨a, y⟩ := x
    rw [SMap.sorted_cons] at h
    simp only [SMap.mapVals]
    split
    · exact ih h.2
    · rw [SMap.sorted_cons]
      refine ⟨fun e he => ?_, ih h.2⟩
      obtain ⟨x, hx, hxe⟩ := (SMap.mem_mapVals d f m e he).1
      exact hxe ▸ h.1 x hx

/-- The value of a changed map at a key, where the change leaves default values as they are. -/
theorem SMap.get_mapVals [DecidableEq β] (d : Nat → β) (f : Nat → β → β) (m : SMap β) (k : Nat)
    (h : SMap.sorted m = true) (hd : f k (d k) = d k) :
    SMap.get d (SMap.mapVals d f m) k = f k (SMap.get d m k) := by
  have key : ∀ m : SMap β, SMap.sorted m = true →
      (SMap.find? (SMap.mapVals d f m) k).getD (d k) = ((SMap.find? m k).map (f k)).getD (d k) := by
    intro m
    induction m with
    | nil => simp [SMap.mapVals, SMap.find?]
    | cons x m ih =>
      obtain ⟨a, y⟩ := x
      intro h
      rw [SMap.sorted_cons] at h
      by_cases ha : a = k
      · subst ha
        by_cases hv : f a y = d a
        · have hn : SMap.find? (SMap.mapVals d f m) a = none := by
            have hh : ∀ e ∈ SMap.mapVals d f m, e.1 ≠ a := by
              intro e he
              obtain ⟨x, hx, hxe⟩ := (SMap.mem_mapVals d f m e he).1
              have := h.1 x hx; omega
            generalize SMap.mapVals d f m = l at hh
            induction l with
            | nil => rfl
            | cons z l ihl =>
              obtain ⟨b, w⟩ := z
              have hb : b ≠ a := hh (b, w) (by simp)
              simp [SMap.find?, hb, ihl fun e he => hh e (List.mem_cons_of_mem _ he)]
          simp [SMap.mapVals, hv, SMap.find?, hn]
        · simp [SMap.mapVals, hv, SMap.find?]
      · by_cases hv : f a y = d a
        · simp [SMap.mapVals, hv, SMap.find?, ha, ih h.2]
        · simp [SMap.mapVals, hv, SMap.find?, ha, ih h.2]
  unfold SMap.get
  rw [key m h]
  cases SMap.find? m k <;> simp [hd]

end Sys2Proof.Machine
end

