-- ==== Sys2Proof/Laws/State.lean ====
section
/-! SUPPORT. Laws of the state's updates: one per field of State and update, and what registers and their fields read after
them. -/

namespace Sys2Proof.Machine

variable (s : State)

/-! ### `wr` -/

@[simp] theorem State.wr_pending (o : Nat) (v : Word) : (s.wr o v).pending = s.pending := rfl
@[simp] theorem State.wr_sent (o : Nat) (v : Word) : (s.wr o v).sent = s.sent := rfl
@[simp] theorem State.wr_freeCtr (o : Nat) (v : Word) : (s.wr o v).freeCtr = s.freeCtr := rfl
@[simp] theorem State.wr_keepCycles (o : Nat) (v : Word) : (s.wr o v).keepCycles = s.keepCycles := rfl
@[simp] theorem State.wr_secPhase (o : Nat) (v : Word) : (s.wr o v).secPhase = s.secPhase := rfl
@[simp] theorem State.wr_summaryOwed (o : Nat) (v : Word) : (s.wr o v).summaryOwed = s.summaryOwed := rfl
@[simp] theorem State.wr_hostReset (o : Nat) (v : Word) : (s.wr o v).hostReset = s.hostReset := rfl
@[simp] theorem State.wr_clampLog (o : Nat) (v : Word) : (s.wr o v).clampLog = s.clampLog := rfl
@[simp] theorem State.wr_dram (o : Nat) (v : Word) : (s.wr o v).dram = s.dram := rfl
@[simp] theorem State.wr_surf (o : Nat) (v : Word) : (s.wr o v).surf = s.surf := rfl
@[simp] theorem State.wr_queues (o : Nat) (v : Word) : (s.wr o v).queues = s.queues := rfl
@[simp] theorem State.wr_rings (o : Nat) (v : Word) : (s.wr o v).rings = s.rings := rfl
@[simp] theorem State.wr_hoist (o : Nat) (v : Word) : (s.wr o v).hoist = s.hoist := rfl
@[simp] theorem State.wr_txn (o : Nat) (v : Word) : (s.wr o v).txn = s.txn := rfl
@[simp] theorem State.wr_scan (o : Nat) (v : Word) : (s.wr o v).scan = s.scan := rfl
@[simp] theorem State.wr_pcie (o : Nat) (v : Word) : (s.wr o v).pcie = s.pcie := rfl
@[simp] theorem State.wr_power (o : Nat) (v : Word) : (s.wr o v).power = s.power := rfl
@[simp] theorem State.wr_histDawn (o : Nat) (v : Word) : (s.wr o v).histDawn = s.histDawn := rfl
@[simp] theorem State.wr_histDusk (o : Nat) (v : Word) : (s.wr o v).histDusk = s.histDusk := rfl
@[simp] theorem State.wr_od (o : Nat) (v : Word) : (s.wr o v).od = s.od := rfl
@[simp] theorem State.wr_cmp (o : Nat) (v : Word) : (s.wr o v).cmp = s.cmp := rfl
@[simp] theorem State.wr_keys (o : Nat) (v : Word) : (s.wr o v).keys = s.keys := rfl
@[simp] theorem State.wr_assay (o : Nat) (v : Word) : (s.wr o v).assay = s.assay := rfl
@[simp] theorem State.wr_uniSeal (o : Nat) (v : Word) : (s.wr o v).uniSeal = s.uniSeal := rfl
@[simp] theorem State.wr_uniLate (o : Nat) (v : Word) : (s.wr o v).uniLate = s.uniLate := rfl
@[simp] theorem State.wr_age (o : Nat) (v : Word) : (s.wr o v).age = s.age := rfl
@[simp] theorem State.wr_link (o : Nat) (v : Word) : (s.wr o v).link = s.link := rfl
@[simp] theorem State.wr_hvd (o : Nat) (v : Word) : (s.wr o v).hvd = s.hvd := rfl
@[simp] theorem State.wr_label (o : Nat) (v : Word) : (s.wr o v).label = s.label := rfl
@[simp] theorem State.wr_pstore (o : Nat) (v : Word) : (s.wr o v).pstore = s.pstore := rfl
@[simp] theorem State.wr_mem (o : Nat) (v : Word) : (s.wr o v).mem = s.mem := rfl
@[simp] theorem State.wr_boot (o : Nat) (v : Word) : (s.wr o v).boot = s.boot := rfl

/-! ### `setFld` -/

@[simp] theorem State.setFld_pending (f : Fld) (n : Nat) : (s.setFld f n).pending = s.pending := rfl
@[simp] theorem State.setFld_sent (f : Fld) (n : Nat) : (s.setFld f n).sent = s.sent := rfl
@[simp] theorem State.setFld_freeCtr (f : Fld) (n : Nat) : (s.setFld f n).freeCtr = s.freeCtr := rfl
@[simp] theorem State.setFld_keepCycles (f : Fld) (n : Nat) : (s.setFld f n).keepCycles = s.keepCycles := rfl
@[simp] theorem State.setFld_secPhase (f : Fld) (n : Nat) : (s.setFld f n).secPhase = s.secPhase := rfl
@[simp] theorem State.setFld_summaryOwed (f : Fld) (n : Nat) : (s.setFld f n).summaryOwed = s.summaryOwed := rfl
@[simp] theorem State.setFld_hostReset (f : Fld) (n : Nat) : (s.setFld f n).hostReset = s.hostReset := rfl
@[simp] theorem State.setFld_clampLog (f : Fld) (n : Nat) : (s.setFld f n).clampLog = s.clampLog := rfl
@[simp] theorem State.setFld_dram (f : Fld) (n : Nat) : (s.setFld f n).dram = s.dram := rfl
@[simp] theorem State.setFld_surf (f : Fld) (n : Nat) : (s.setFld f n).surf = s.surf := rfl
@[simp] theorem State.setFld_queues (f : Fld) (n : Nat) : (s.setFld f n).queues = s.queues := rfl
@[simp] theorem State.setFld_rings (f : Fld) (n : Nat) : (s.setFld f n).rings = s.rings := rfl
@[simp] theorem State.setFld_hoist (f : Fld) (n : Nat) : (s.setFld f n).hoist = s.hoist := rfl
@[simp] theorem State.setFld_txn (f : Fld) (n : Nat) : (s.setFld f n).txn = s.txn := rfl
@[simp] theorem State.setFld_scan (f : Fld) (n : Nat) : (s.setFld f n).scan = s.scan := rfl
@[simp] theorem State.setFld_pcie (f : Fld) (n : Nat) : (s.setFld f n).pcie = s.pcie := rfl
@[simp] theorem State.setFld_power (f : Fld) (n : Nat) : (s.setFld f n).power = s.power := rfl
@[simp] theorem State.setFld_histDawn (f : Fld) (n : Nat) : (s.setFld f n).histDawn = s.histDawn := rfl
@[simp] theorem State.setFld_histDusk (f : Fld) (n : Nat) : (s.setFld f n).histDusk = s.histDusk := rfl
@[simp] theorem State.setFld_od (f : Fld) (n : Nat) : (s.setFld f n).od = s.od := rfl
@[simp] theorem State.setFld_cmp (f : Fld) (n : Nat) : (s.setFld f n).cmp = s.cmp := rfl
@[simp] theorem State.setFld_keys (f : Fld) (n : Nat) : (s.setFld f n).keys = s.keys := rfl
@[simp] theorem State.setFld_assay (f : Fld) (n : Nat) : (s.setFld f n).assay = s.assay := rfl
@[simp] theorem State.setFld_uniSeal (f : Fld) (n : Nat) : (s.setFld f n).uniSeal = s.uniSeal := rfl
@[simp] theorem State.setFld_uniLate (f : Fld) (n : Nat) : (s.setFld f n).uniLate = s.uniLate := rfl
@[simp] theorem State.setFld_age (f : Fld) (n : Nat) : (s.setFld f n).age = s.age := rfl
@[simp] theorem State.setFld_link (f : Fld) (n : Nat) : (s.setFld f n).link = s.link := rfl
@[simp] theorem State.setFld_hvd (f : Fld) (n : Nat) : (s.setFld f n).hvd = s.hvd := rfl
@[simp] theorem State.setFld_label (f : Fld) (n : Nat) : (s.setFld f n).label = s.label := rfl
@[simp] theorem State.setFld_pstore (f : Fld) (n : Nat) : (s.setFld f n).pstore = s.pstore := rfl
@[simp] theorem State.setFld_mem (f : Fld) (n : Nat) : (s.setFld f n).mem = s.mem := rfl
@[simp] theorem State.setFld_boot (f : Fld) (n : Nat) : (s.setFld f n).boot = s.boot := rfl

/-! ### `setBit` -/

@[simp] theorem State.setBit_pending (f : Fld) (b : Bool) : (s.setBit f b).pending = s.pending := rfl
@[simp] theorem State.setBit_sent (f : Fld) (b : Bool) : (s.setBit f b).sent = s.sent := rfl
@[simp] theorem State.setBit_freeCtr (f : Fld) (b : Bool) : (s.setBit f b).freeCtr = s.freeCtr := rfl
@[simp] theorem State.setBit_keepCycles (f : Fld) (b : Bool) : (s.setBit f b).keepCycles = s.keepCycles := rfl
@[simp] theorem State.setBit_secPhase (f : Fld) (b : Bool) : (s.setBit f b).secPhase = s.secPhase := rfl
@[simp] theorem State.setBit_summaryOwed (f : Fld) (b : Bool) : (s.setBit f b).summaryOwed = s.summaryOwed := rfl
@[simp] theorem State.setBit_hostReset (f : Fld) (b : Bool) : (s.setBit f b).hostReset = s.hostReset := rfl
@[simp] theorem State.setBit_clampLog (f : Fld) (b : Bool) : (s.setBit f b).clampLog = s.clampLog := rfl
@[simp] theorem State.setBit_dram (f : Fld) (b : Bool) : (s.setBit f b).dram = s.dram := rfl
@[simp] theorem State.setBit_surf (f : Fld) (b : Bool) : (s.setBit f b).surf = s.surf := rfl
@[simp] theorem State.setBit_queues (f : Fld) (b : Bool) : (s.setBit f b).queues = s.queues := rfl
@[simp] theorem State.setBit_rings (f : Fld) (b : Bool) : (s.setBit f b).rings = s.rings := rfl
@[simp] theorem State.setBit_hoist (f : Fld) (b : Bool) : (s.setBit f b).hoist = s.hoist := rfl
@[simp] theorem State.setBit_txn (f : Fld) (b : Bool) : (s.setBit f b).txn = s.txn := rfl
@[simp] theorem State.setBit_scan (f : Fld) (b : Bool) : (s.setBit f b).scan = s.scan := rfl
@[simp] theorem State.setBit_pcie (f : Fld) (b : Bool) : (s.setBit f b).pcie = s.pcie := rfl
@[simp] theorem State.setBit_power (f : Fld) (b : Bool) : (s.setBit f b).power = s.power := rfl
@[simp] theorem State.setBit_histDawn (f : Fld) (b : Bool) : (s.setBit f b).histDawn = s.histDawn := rfl
@[simp] theorem State.setBit_histDusk (f : Fld) (b : Bool) : (s.setBit f b).histDusk = s.histDusk := rfl
@[simp] theorem State.setBit_od (f : Fld) (b : Bool) : (s.setBit f b).od = s.od := rfl
@[simp] theorem State.setBit_cmp (f : Fld) (b : Bool) : (s.setBit f b).cmp = s.cmp := rfl
@[simp] theorem State.setBit_keys (f : Fld) (b : Bool) : (s.setBit f b).keys = s.keys := rfl
@[simp] theorem State.setBit_assay (f : Fld) (b : Bool) : (s.setBit f b).assay = s.assay := rfl
@[simp] theorem State.setBit_uniSeal (f : Fld) (b : Bool) : (s.setBit f b).uniSeal = s.uniSeal := rfl
@[simp] theorem State.setBit_uniLate (f : Fld) (b : Bool) : (s.setBit f b).uniLate = s.uniLate := rfl
@[simp] theorem State.setBit_age (f : Fld) (b : Bool) : (s.setBit f b).age = s.age := rfl
@[simp] theorem State.setBit_link (f : Fld) (b : Bool) : (s.setBit f b).link = s.link := rfl
@[simp] theorem State.setBit_hvd (f : Fld) (b : Bool) : (s.setBit f b).hvd = s.hvd := rfl
@[simp] theorem State.setBit_label (f : Fld) (b : Bool) : (s.setBit f b).label = s.label := rfl
@[simp] theorem State.setBit_pstore (f : Fld) (b : Bool) : (s.setBit f b).pstore = s.pstore := rfl
@[simp] theorem State.setBit_mem (f : Fld) (b : Bool) : (s.setBit f b).mem = s.mem := rfl
@[simp] theorem State.setBit_boot (f : Fld) (b : Bool) : (s.setBit f b).boot = s.boot := rfl

/-! ### `bump` -/

@[simp] theorem State.bump_pending (f : Fld) (n : Nat) : (s.bump f n).pending = s.pending := rfl
@[simp] theorem State.bump_sent (f : Fld) (n : Nat) : (s.bump f n).sent = s.sent := rfl
@[simp] theorem State.bump_freeCtr (f : Fld) (n : Nat) : (s.bump f n).freeCtr = s.freeCtr := rfl
@[simp] theorem State.bump_keepCycles (f : Fld) (n : Nat) : (s.bump f n).keepCycles = s.keepCycles := rfl
@[simp] theorem State.bump_secPhase (f : Fld) (n : Nat) : (s.bump f n).secPhase = s.secPhase := rfl
@[simp] theorem State.bump_summaryOwed (f : Fld) (n : Nat) : (s.bump f n).summaryOwed = s.summaryOwed := rfl
@[simp] theorem State.bump_hostReset (f : Fld) (n : Nat) : (s.bump f n).hostReset = s.hostReset := rfl
@[simp] theorem State.bump_clampLog (f : Fld) (n : Nat) : (s.bump f n).clampLog = s.clampLog := rfl
@[simp] theorem State.bump_dram (f : Fld) (n : Nat) : (s.bump f n).dram = s.dram := rfl
@[simp] theorem State.bump_surf (f : Fld) (n : Nat) : (s.bump f n).surf = s.surf := rfl
@[simp] theorem State.bump_queues (f : Fld) (n : Nat) : (s.bump f n).queues = s.queues := rfl
@[simp] theorem State.bump_rings (f : Fld) (n : Nat) : (s.bump f n).rings = s.rings := rfl
@[simp] theorem State.bump_hoist (f : Fld) (n : Nat) : (s.bump f n).hoist = s.hoist := rfl
@[simp] theorem State.bump_txn (f : Fld) (n : Nat) : (s.bump f n).txn = s.txn := rfl
@[simp] theorem State.bump_scan (f : Fld) (n : Nat) : (s.bump f n).scan = s.scan := rfl
@[simp] theorem State.bump_pcie (f : Fld) (n : Nat) : (s.bump f n).pcie = s.pcie := rfl
@[simp] theorem State.bump_power (f : Fld) (n : Nat) : (s.bump f n).power = s.power := rfl
@[simp] theorem State.bump_histDawn (f : Fld) (n : Nat) : (s.bump f n).histDawn = s.histDawn := rfl
@[simp] theorem State.bump_histDusk (f : Fld) (n : Nat) : (s.bump f n).histDusk = s.histDusk := rfl
@[simp] theorem State.bump_od (f : Fld) (n : Nat) : (s.bump f n).od = s.od := rfl
@[simp] theorem State.bump_cmp (f : Fld) (n : Nat) : (s.bump f n).cmp = s.cmp := rfl
@[simp] theorem State.bump_keys (f : Fld) (n : Nat) : (s.bump f n).keys = s.keys := rfl
@[simp] theorem State.bump_assay (f : Fld) (n : Nat) : (s.bump f n).assay = s.assay := rfl
@[simp] theorem State.bump_uniSeal (f : Fld) (n : Nat) : (s.bump f n).uniSeal = s.uniSeal := rfl
@[simp] theorem State.bump_uniLate (f : Fld) (n : Nat) : (s.bump f n).uniLate = s.uniLate := rfl
@[simp] theorem State.bump_age (f : Fld) (n : Nat) : (s.bump f n).age = s.age := rfl
@[simp] theorem State.bump_link (f : Fld) (n : Nat) : (s.bump f n).link = s.link := rfl
@[simp] theorem State.bump_hvd (f : Fld) (n : Nat) : (s.bump f n).hvd = s.hvd := rfl
@[simp] theorem State.bump_label (f : Fld) (n : Nat) : (s.bump f n).label = s.label := rfl
@[simp] theorem State.bump_pstore (f : Fld) (n : Nat) : (s.bump f n).pstore = s.pstore := rfl
@[simp] theorem State.bump_mem (f : Fld) (n : Nat) : (s.bump f n).mem = s.mem := rfl
@[simp] theorem State.bump_boot (f : Fld) (n : Nat) : (s.bump f n).boot = s.boot := rfl

/-! ### `setDom` -/

@[simp] theorem State.setDom_pending (d v : Nat) : (s.setDom d v).pending = s.pending := rfl
@[simp] theorem State.setDom_sent (d v : Nat) : (s.setDom d v).sent = s.sent := rfl
@[simp] theorem State.setDom_freeCtr (d v : Nat) : (s.setDom d v).freeCtr = s.freeCtr := rfl
@[simp] theorem State.setDom_keepCycles (d v : Nat) : (s.setDom d v).keepCycles = s.keepCycles := rfl
@[simp] theorem State.setDom_secPhase (d v : Nat) : (s.setDom d v).secPhase = s.secPhase := rfl
@[simp] theorem State.setDom_summaryOwed (d v : Nat) : (s.setDom d v).summaryOwed = s.summaryOwed := rfl
@[simp] theorem State.setDom_hostReset (d v : Nat) : (s.setDom d v).hostReset = s.hostReset := rfl
@[simp] theorem State.setDom_clampLog (d v : Nat) : (s.setDom d v).clampLog = s.clampLog := rfl
@[simp] theorem State.setDom_dram (d v : Nat) : (s.setDom d v).dram = s.dram := rfl
@[simp] theorem State.setDom_surf (d v : Nat) : (s.setDom d v).surf = s.surf := rfl
@[simp] theorem State.setDom_queues (d v : Nat) : (s.setDom d v).queues = s.queues := rfl
@[simp] theorem State.setDom_rings (d v : Nat) : (s.setDom d v).rings = s.rings := rfl
@[simp] theorem State.setDom_hoist (d v : Nat) : (s.setDom d v).hoist = s.hoist := rfl
@[simp] theorem State.setDom_txn (d v : Nat) : (s.setDom d v).txn = s.txn := rfl
@[simp] theorem State.setDom_scan (d v : Nat) : (s.setDom d v).scan = s.scan := rfl
@[simp] theorem State.setDom_pcie (d v : Nat) : (s.setDom d v).pcie = s.pcie := rfl
@[simp] theorem State.setDom_power (d v : Nat) : (s.setDom d v).power = s.power := rfl
@[simp] theorem State.setDom_histDawn (d v : Nat) : (s.setDom d v).histDawn = s.histDawn := rfl
@[simp] theorem State.setDom_histDusk (d v : Nat) : (s.setDom d v).histDusk = s.histDusk := rfl
@[simp] theorem State.setDom_od (d v : Nat) : (s.setDom d v).od = s.od := rfl
@[simp] theorem State.setDom_cmp (d v : Nat) : (s.setDom d v).cmp = s.cmp := rfl
@[simp] theorem State.setDom_keys (d v : Nat) : (s.setDom d v).keys = s.keys := rfl
@[simp] theorem State.setDom_assay (d v : Nat) : (s.setDom d v).assay = s.assay := rfl
@[simp] theorem State.setDom_uniSeal (d v : Nat) : (s.setDom d v).uniSeal = s.uniSeal := rfl
@[simp] theorem State.setDom_uniLate (d v : Nat) : (s.setDom d v).uniLate = s.uniLate := rfl
@[simp] theorem State.setDom_age (d v : Nat) : (s.setDom d v).age = s.age := rfl
@[simp] theorem State.setDom_link (d v : Nat) : (s.setDom d v).link = s.link := rfl
@[simp] theorem State.setDom_hvd (d v : Nat) : (s.setDom d v).hvd = s.hvd := rfl
@[simp] theorem State.setDom_label (d v : Nat) : (s.setDom d v).label = s.label := rfl
@[simp] theorem State.setDom_pstore (d v : Nat) : (s.setDom d v).pstore = s.pstore := rfl
@[simp] theorem State.setDom_mem (d v : Nat) : (s.setDom d v).mem = s.mem := rfl
@[simp] theorem State.setDom_boot (d v : Nat) : (s.setDom d v).boot = s.boot := rfl

/-! ### `emit` -/

@[simp] theorem State.emit_pending (o : Out) : (s.emit o).pending = s.pending := rfl
@[simp] theorem State.emit_freeCtr (o : Out) : (s.emit o).freeCtr = s.freeCtr := rfl
@[simp] theorem State.emit_keepCycles (o : Out) : (s.emit o).keepCycles = s.keepCycles := rfl
@[simp] theorem State.emit_secPhase (o : Out) : (s.emit o).secPhase = s.secPhase := rfl
@[simp] theorem State.emit_regs (o : Out) : (s.emit o).regs = s.regs := rfl
@[simp] theorem State.emit_summaryOwed (o : Out) : (s.emit o).summaryOwed = s.summaryOwed := rfl
@[simp] theorem State.emit_hostReset (o : Out) : (s.emit o).hostReset = s.hostReset := rfl
@[simp] theorem State.emit_clampLog (o : Out) : (s.emit o).clampLog = s.clampLog := rfl
@[simp] theorem State.emit_dram (o : Out) : (s.emit o).dram = s.dram := rfl
@[simp] theorem State.emit_surf (o : Out) : (s.emit o).surf = s.surf := rfl
@[simp] theorem State.emit_queues (o : Out) : (s.emit o).queues = s.queues := rfl
@[simp] theorem State.emit_rings (o : Out) : (s.emit o).rings = s.rings := rfl
@[simp] theorem State.emit_hoist (o : Out) : (s.emit o).hoist = s.hoist := rfl
@[simp] theorem State.emit_txn (o : Out) : (s.emit o).txn = s.txn := rfl
@[simp] theorem State.emit_scan (o : Out) : (s.emit o).scan = s.scan := rfl
@[simp] theorem State.emit_pcie (o : Out) : (s.emit o).pcie = s.pcie := rfl
@[simp] theorem State.emit_power (o : Out) : (s.emit o).power = s.power := rfl
@[simp] theorem State.emit_histDawn (o : Out) : (s.emit o).histDawn = s.histDawn := rfl
@[simp] theorem State.emit_histDusk (o : Out) : (s.emit o).histDusk = s.histDusk := rfl
@[simp] theorem State.emit_od (o : Out) : (s.emit o).od = s.od := rfl
@[simp] theorem State.emit_cmp (o : Out) : (s.emit o).cmp = s.cmp := rfl
@[simp] theorem State.emit_keys (o : Out) : (s.emit o).keys = s.keys := rfl
@[simp] theorem State.emit_assay (o : Out) : (s.emit o).assay = s.assay := rfl
@[simp] theorem State.emit_uniSeal (o : Out) : (s.emit o).uniSeal = s.uniSeal := rfl
@[simp] theorem State.emit_uniLate (o : Out) : (s.emit o).uniLate = s.uniLate := rfl
@[simp] theorem State.emit_age (o : Out) : (s.emit o).age = s.age := rfl
@[simp] theorem State.emit_link (o : Out) : (s.emit o).link = s.link := rfl
@[simp] theorem State.emit_hvd (o : Out) : (s.emit o).hvd = s.hvd := rfl
@[simp] theorem State.emit_label (o : Out) : (s.emit o).label = s.label := rfl
@[simp] theorem State.emit_pstore (o : Out) : (s.emit o).pstore = s.pstore := rfl
@[simp] theorem State.emit_mem (o : Out) : (s.emit o).mem = s.mem := rfl
@[simp] theorem State.emit_boot (o : Out) : (s.emit o).boot = s.boot := rfl
@[simp] theorem State.rd_emit (o : Out) (k : Nat) : (s.emit o).rd k = s.rd k := rfl
@[simp] theorem State.fld_emit (o : Out) (g : Fld) : (s.emit o).fld g = s.fld g := rfl

/-! ### `setEntry` -/

@[simp] theorem State.setEntry_pending (p : Nat) (e : DWord) : (s.setEntry p e).pending = s.pending := rfl
@[simp] theorem State.setEntry_sent (p : Nat) (e : DWord) : (s.setEntry p e).sent = s.sent := rfl
@[simp] theorem State.setEntry_freeCtr (p : Nat) (e : DWord) : (s.setEntry p e).freeCtr = s.freeCtr := rfl
@[simp] theorem State.setEntry_keepCycles (p : Nat) (e : DWord) : (s.setEntry p e).keepCycles = s.keepCycles := rfl
@[simp] theorem State.setEntry_secPhase (p : Nat) (e : DWord) : (s.setEntry p e).secPhase = s.secPhase := rfl
@[simp] theorem State.setEntry_regs (p : Nat) (e : DWord) : (s.setEntry p e).regs = s.regs := rfl
@[simp] theorem State.setEntry_summaryOwed (p : Nat) (e : DWord) : (s.setEntry p e).summaryOwed = s.summaryOwed := rfl
@[simp] theorem State.setEntry_hostReset (p : Nat) (e : DWord) : (s.setEntry p e).hostReset = s.hostReset := rfl
@[simp] theorem State.setEntry_clampLog (p : Nat) (e : DWord) : (s.setEntry p e).clampLog = s.clampLog := rfl
@[simp] theorem State.setEntry_dram (p : Nat) (e : DWord) : (s.setEntry p e).dram = s.dram := rfl
@[simp] theorem State.setEntry_queues (p : Nat) (e : DWord) : (s.setEntry p e).queues = s.queues := rfl
@[simp] theorem State.setEntry_rings (p : Nat) (e : DWord) : (s.setEntry p e).rings = s.rings := rfl
@[simp] theorem State.setEntry_hoist (p : Nat) (e : DWord) : (s.setEntry p e).hoist = s.hoist := rfl
@[simp] theorem State.setEntry_txn (p : Nat) (e : DWord) : (s.setEntry p e).txn = s.txn := rfl
@[simp] theorem State.setEntry_scan (p : Nat) (e : DWord) : (s.setEntry p e).scan = s.scan := rfl
@[simp] theorem State.setEntry_pcie (p : Nat) (e : DWord) : (s.setEntry p e).pcie = s.pcie := rfl
@[simp] theorem State.setEntry_power (p : Nat) (e : DWord) : (s.setEntry p e).power = s.power := rfl
@[simp] theorem State.setEntry_histDawn (p : Nat) (e : DWord) : (s.setEntry p e).histDawn = s.histDawn := rfl
@[simp] theorem State.setEntry_histDusk (p : Nat) (e : DWord) : (s.setEntry p e).histDusk = s.histDusk := rfl
@[simp] theorem State.setEntry_od (p : Nat) (e : DWord) : (s.setEntry p e).od = s.od := rfl
@[simp] theorem State.setEntry_cmp (p : Nat) (e : DWord) : (s.setEntry p e).cmp = s.cmp := rfl
@[simp] theorem State.setEntry_keys (p : Nat) (e : DWord) : (s.setEntry p e).keys = s.keys := rfl
@[simp] theorem State.setEntry_assay (p : Nat) (e : DWord) : (s.setEntry p e).assay = s.assay := rfl
@[simp] theorem State.setEntry_uniSeal (p : Nat) (e : DWord) : (s.setEntry p e).uniSeal = s.uniSeal := rfl
@[simp] theorem State.setEntry_uniLate (p : Nat) (e : DWord) : (s.setEntry p e).uniLate = s.uniLate := rfl
@[simp] theorem State.setEntry_age (p : Nat) (e : DWord) : (s.setEntry p e).age = s.age := rfl
@[simp] theorem State.setEntry_link (p : Nat) (e : DWord) : (s.setEntry p e).link = s.link := rfl
@[simp] theorem State.setEntry_hvd (p : Nat) (e : DWord) : (s.setEntry p e).hvd = s.hvd := rfl
@[simp] theorem State.setEntry_label (p : Nat) (e : DWord) : (s.setEntry p e).label = s.label := rfl
@[simp] theorem State.setEntry_pstore (p : Nat) (e : DWord) : (s.setEntry p e).pstore = s.pstore := rfl
@[simp] theorem State.setEntry_mem (p : Nat) (e : DWord) : (s.setEntry p e).mem = s.mem := rfl
@[simp] theorem State.setEntry_boot (p : Nat) (e : DWord) : (s.setEntry p e).boot = s.boot := rfl
@[simp] theorem State.rd_setEntry (p : Nat) (e : DWord) (k : Nat) : (s.setEntry p e).rd k = s.rd k := rfl
@[simp] theorem State.fld_setEntry (p : Nat) (e : DWord) (g : Fld) : (s.setEntry p e).fld g = s.fld g := rfl

/-! ### `setRing` -/

@[simp] theorem State.setRing_pending (r : Nat) (h : RingHid) : (s.setRing r h).pending = s.pending := rfl
@[simp] theorem State.setRing_sent (r : Nat) (h : RingHid) : (s.setRing r h).sent = s.sent := rfl
@[simp] theorem State.setRing_freeCtr (r : Nat) (h : RingHid) : (s.setRing r h).freeCtr = s.freeCtr := rfl
@[simp] theorem State.setRing_keepCycles (r : Nat) (h : RingHid) : (s.setRing r h).keepCycles = s.keepCycles := rfl
@[simp] theorem State.setRing_secPhase (r : Nat) (h : RingHid) : (s.setRing r h).secPhase = s.secPhase := rfl
@[simp] theorem State.setRing_regs (r : Nat) (h : RingHid) : (s.setRing r h).regs = s.regs := rfl
@[simp] theorem State.setRing_summaryOwed (r : Nat) (h : RingHid) : (s.setRing r h).summaryOwed = s.summaryOwed := rfl
@[simp] theorem State.setRing_hostReset (r : Nat) (h : RingHid) : (s.setRing r h).hostReset = s.hostReset := rfl
@[simp] theorem State.setRing_clampLog (r : Nat) (h : RingHid) : (s.setRing r h).clampLog = s.clampLog := rfl
@[simp] theorem State.setRing_dram (r : Nat) (h : RingHid) : (s.setRing r h).dram = s.dram := rfl
@[simp] theorem State.setRing_surf (r : Nat) (h : RingHid) : (s.setRing r h).surf = s.surf := rfl
@[simp] theorem State.setRing_queues (r : Nat) (h : RingHid) : (s.setRing r h).queues = s.queues := rfl
@[simp] theorem State.setRing_hoist (r : Nat) (h : RingHid) : (s.setRing r h).hoist = s.hoist := rfl
@[simp] theorem State.setRing_txn (r : Nat) (h : RingHid) : (s.setRing r h).txn = s.txn := rfl
@[simp] theorem State.setRing_scan (r : Nat) (h : RingHid) : (s.setRing r h).scan = s.scan := rfl
@[simp] theorem State.setRing_pcie (r : Nat) (h : RingHid) : (s.setRing r h).pcie = s.pcie := rfl
@[simp] theorem State.setRing_power (r : Nat) (h : RingHid) : (s.setRing r h).power = s.power := rfl
@[simp] theorem State.setRing_histDawn (r : Nat) (h : RingHid) : (s.setRing r h).histDawn = s.histDawn := rfl
@[simp] theorem State.setRing_histDusk (r : Nat) (h : RingHid) : (s.setRing r h).histDusk = s.histDusk := rfl
@[simp] theorem State.setRing_od (r : Nat) (h : RingHid) : (s.setRing r h).od = s.od := rfl
@[simp] theorem State.setRing_cmp (r : Nat) (h : RingHid) : (s.setRing r h).cmp = s.cmp := rfl
@[simp] theorem State.setRing_keys (r : Nat) (h : RingHid) : (s.setRing r h).keys = s.keys := rfl
@[simp] theorem State.setRing_assay (r : Nat) (h : RingHid) : (s.setRing r h).assay = s.assay := rfl
@[simp] theorem State.setRing_uniSeal (r : Nat) (h : RingHid) : (s.setRing r h).uniSeal = s.uniSeal := rfl
@[simp] theorem State.setRing_uniLate (r : Nat) (h : RingHid) : (s.setRing r h).uniLate = s.uniLate := rfl
@[simp] theorem State.setRing_age (r : Nat) (h : RingHid) : (s.setRing r h).age = s.age := rfl
@[simp] theorem State.setRing_link (r : Nat) (h : RingHid) : (s.setRing r h).link = s.link := rfl
@[simp] theorem State.setRing_hvd (r : Nat) (h : RingHid) : (s.setRing r h).hvd = s.hvd := rfl
@[simp] theorem State.setRing_label (r : Nat) (h : RingHid) : (s.setRing r h).label = s.label := rfl
@[simp] theorem State.setRing_pstore (r : Nat) (h : RingHid) : (s.setRing r h).pstore = s.pstore := rfl
@[simp] theorem State.setRing_mem (r : Nat) (h : RingHid) : (s.setRing r h).mem = s.mem := rfl
@[simp] theorem State.setRing_boot (r : Nat) (h : RingHid) : (s.setRing r h).boot = s.boot := rfl
@[simp] theorem State.rd_setRing (r : Nat) (h : RingHid) (k : Nat) : (s.setRing r h).rd k = s.rd k := rfl
@[simp] theorem State.fld_setRing (r : Nat) (h : RingHid) (g : Fld) : (s.setRing r h).fld g = s.fld g := rfl

/-! ### `setQueue` -/

@[simp] theorem State.setQueue_pending (q : Nat) (h : QueueHid) : (s.setQueue q h).pending = s.pending := rfl
@[simp] theorem State.setQueue_sent (q : Nat) (h : QueueHid) : (s.setQueue q h).sent = s.sent := rfl
@[simp] theorem State.setQueue_freeCtr (q : Nat) (h : QueueHid) : (s.setQueue q h).freeCtr = s.freeCtr := rfl
@[simp] theorem State.setQueue_keepCycles (q : Nat) (h : QueueHid) : (s.setQueue q h).keepCycles = s.keepCycles := rfl
@[simp] theorem State.setQueue_secPhase (q : Nat) (h : QueueHid) : (s.setQueue q h).secPhase = s.secPhase := rfl
@[simp] theorem State.setQueue_regs (q : Nat) (h : QueueHid) : (s.setQueue q h).regs = s.regs := rfl
@[simp] theorem State.setQueue_summaryOwed (q : Nat) (h : QueueHid) : (s.setQueue q h).summaryOwed = s.summaryOwed := rfl
@[simp] theorem State.setQueue_hostReset (q : Nat) (h : QueueHid) : (s.setQueue q h).hostReset = s.hostReset := rfl
@[simp] theorem State.setQueue_clampLog (q : Nat) (h : QueueHid) : (s.setQueue q h).clampLog = s.clampLog := rfl
@[simp] theorem State.setQueue_dram (q : Nat) (h : QueueHid) : (s.setQueue q h).dram = s.dram := rfl
@[simp] theorem State.setQueue_surf (q : Nat) (h : QueueHid) : (s.setQueue q h).surf = s.surf := rfl
@[simp] theorem State.setQueue_rings (q : Nat) (h : QueueHid) : (s.setQueue q h).rings = s.rings := rfl
@[simp] theorem State.setQueue_hoist (q : Nat) (h : QueueHid) : (s.setQueue q h).hoist = s.hoist := rfl
@[simp] theorem State.setQueue_txn (q : Nat) (h : QueueHid) : (s.setQueue q h).txn = s.txn := rfl
@[simp] theorem State.setQueue_scan (q : Nat) (h : QueueHid) : (s.setQueue q h).scan = s.scan := rfl
@[simp] theorem State.setQueue_pcie (q : Nat) (h : QueueHid) : (s.setQueue q h).pcie = s.pcie := rfl
@[simp] theorem State.setQueue_power (q : Nat) (h : QueueHid) : (s.setQueue q h).power = s.power := rfl
@[simp] theorem State.setQueue_histDawn (q : Nat) (h : QueueHid) : (s.setQueue q h).histDawn = s.histDawn := rfl
@[simp] theorem State.setQueue_histDusk (q : Nat) (h : QueueHid) : (s.setQueue q h).histDusk = s.histDusk := rfl
@[simp] theorem State.setQueue_od (q : Nat) (h : QueueHid) : (s.setQueue q h).od = s.od := rfl
@[simp] theorem State.setQueue_cmp (q : Nat) (h : QueueHid) : (s.setQueue q h).cmp = s.cmp := rfl
@[simp] theorem State.setQueue_keys (q : Nat) (h : QueueHid) : (s.setQueue q h).keys = s.keys := rfl
@[simp] theorem State.setQueue_assay (q : Nat) (h : QueueHid) : (s.setQueue q h).assay = s.assay := rfl
@[simp] theorem State.setQueue_uniSeal (q : Nat) (h : QueueHid) : (s.setQueue q h).uniSeal = s.uniSeal := rfl
@[simp] theorem State.setQueue_uniLate (q : Nat) (h : QueueHid) : (s.setQueue q h).uniLate = s.uniLate := rfl
@[simp] theorem State.setQueue_age (q : Nat) (h : QueueHid) : (s.setQueue q h).age = s.age := rfl
@[simp] theorem State.setQueue_link (q : Nat) (h : QueueHid) : (s.setQueue q h).link = s.link := rfl
@[simp] theorem State.setQueue_hvd (q : Nat) (h : QueueHid) : (s.setQueue q h).hvd = s.hvd := rfl
@[simp] theorem State.setQueue_label (q : Nat) (h : QueueHid) : (s.setQueue q h).label = s.label := rfl
@[simp] theorem State.setQueue_pstore (q : Nat) (h : QueueHid) : (s.setQueue q h).pstore = s.pstore := rfl
@[simp] theorem State.setQueue_mem (q : Nat) (h : QueueHid) : (s.setQueue q h).mem = s.mem := rfl
@[simp] theorem State.setQueue_boot (q : Nat) (h : QueueHid) : (s.setQueue q h).boot = s.boot := rfl
@[simp] theorem State.rd_setQueue (q : Nat) (h : QueueHid) (k : Nat) : (s.setQueue q h).rd k = s.rd k := rfl
@[simp] theorem State.fld_setQueue (q : Nat) (h : QueueHid) (g : Fld) : (s.setQueue q h).fld g = s.fld g := rfl

/-! ### `setChan` -/

@[simp] theorem State.setChan_pending (c : Nat) (h : ChanHid) : (s.setChan c h).pending = s.pending := rfl
@[simp] theorem State.setChan_sent (c : Nat) (h : ChanHid) : (s.setChan c h).sent = s.sent := rfl
@[simp] theorem State.setChan_freeCtr (c : Nat) (h : ChanHid) : (s.setChan c h).freeCtr = s.freeCtr := rfl
@[simp] theorem State.setChan_keepCycles (c : Nat) (h : ChanHid) : (s.setChan c h).keepCycles = s.keepCycles := rfl
@[simp] theorem State.setChan_secPhase (c : Nat) (h : ChanHid) : (s.setChan c h).secPhase = s.secPhase := rfl
@[simp] theorem State.setChan_regs (c : Nat) (h : ChanHid) : (s.setChan c h).regs = s.regs := rfl
@[simp] theorem State.setChan_summaryOwed (c : Nat) (h : ChanHid) : (s.setChan c h).summaryOwed = s.summaryOwed := rfl
@[simp] theorem State.setChan_hostReset (c : Nat) (h : ChanHid) : (s.setChan c h).hostReset = s.hostReset := rfl
@[simp] theorem State.setChan_clampLog (c : Nat) (h : ChanHid) : (s.setChan c h).clampLog = s.clampLog := rfl
@[simp] theorem State.setChan_dram (c : Nat) (h : ChanHid) : (s.setChan c h).dram = s.dram := rfl
@[simp] theorem State.setChan_surf (c : Nat) (h : ChanHid) : (s.setChan c h).surf = s.surf := rfl
@[simp] theorem State.setChan_queues (c : Nat) (h : ChanHid) : (s.setChan c h).queues = s.queues := rfl
@[simp] theorem State.setChan_rings (c : Nat) (h : ChanHid) : (s.setChan c h).rings = s.rings := rfl
@[simp] theorem State.setChan_txn (c : Nat) (h : ChanHid) : (s.setChan c h).txn = s.txn := rfl
@[simp] theorem State.setChan_scan (c : Nat) (h : ChanHid) : (s.setChan c h).scan = s.scan := rfl
@[simp] theorem State.setChan_pcie (c : Nat) (h : ChanHid) : (s.setChan c h).pcie = s.pcie := rfl
@[simp] theorem State.setChan_power (c : Nat) (h : ChanHid) : (s.setChan c h).power = s.power := rfl
@[simp] theorem State.setChan_histDawn (c : Nat) (h : ChanHid) : (s.setChan c h).histDawn = s.histDawn := rfl
@[simp] theorem State.setChan_histDusk (c : Nat) (h : ChanHid) : (s.setChan c h).histDusk = s.histDusk := rfl
@[simp] theorem State.setChan_od (c : Nat) (h : ChanHid) : (s.setChan c h).od = s.od := rfl
@[simp] theorem State.setChan_cmp (c : Nat) (h : ChanHid) : (s.setChan c h).cmp = s.cmp := rfl
@[simp] theorem State.setChan_keys (c : Nat) (h : ChanHid) : (s.setChan c h).keys = s.keys := rfl
@[simp] theorem State.setChan_assay (c : Nat) (h : ChanHid) : (s.setChan c h).assay = s.assay := rfl
@[simp] theorem State.setChan_uniSeal (c : Nat) (h : ChanHid) : (s.setChan c h).uniSeal = s.uniSeal := rfl
@[simp] theorem State.setChan_uniLate (c : Nat) (h : ChanHid) : (s.setChan c h).uniLate = s.uniLate := rfl
@[simp] theorem State.setChan_age (c : Nat) (h : ChanHid) : (s.setChan c h).age = s.age := rfl
@[simp] theorem State.setChan_link (c : Nat) (h : ChanHid) : (s.setChan c h).link = s.link := rfl
@[simp] theorem State.setChan_hvd (c : Nat) (h : ChanHid) : (s.setChan c h).hvd = s.hvd := rfl
@[simp] theorem State.setChan_label (c : Nat) (h : ChanHid) : (s.setChan c h).label = s.label := rfl
@[simp] theorem State.setChan_pstore (c : Nat) (h : ChanHid) : (s.setChan c h).pstore = s.pstore := rfl
@[simp] theorem State.setChan_mem (c : Nat) (h : ChanHid) : (s.setChan c h).mem = s.mem := rfl
@[simp] theorem State.setChan_boot (c : Nat) (h : ChanHid) : (s.setChan c h).boot = s.boot := rfl
@[simp] theorem State.rd_setChan (c : Nat) (h : ChanHid) (k : Nat) : (s.setChan c h).rd k = s.rd k := rfl
@[simp] theorem State.fld_setChan (c : Nat) (h : ChanHid) (g : Fld) : (s.setChan c h).fld g = s.fld g := rfl

/-! ### `setCage` -/

@[simp] theorem State.setCage_pending (n : Nat) (c : Cage) : (s.setCage n c).pending = s.pending := rfl
@[simp] theorem State.setCage_sent (n : Nat) (c : Cage) : (s.setCage n c).sent = s.sent := rfl
@[simp] theorem State.setCage_freeCtr (n : Nat) (c : Cage) : (s.setCage n c).freeCtr = s.freeCtr := rfl
@[simp] theorem State.setCage_keepCycles (n : Nat) (c : Cage) : (s.setCage n c).keepCycles = s.keepCycles := rfl
@[simp] theorem State.setCage_secPhase (n : Nat) (c : Cage) : (s.setCage n c).secPhase = s.secPhase := rfl
@[simp] theorem State.setCage_regs (n : Nat) (c : Cage) : (s.setCage n c).regs = s.regs := rfl
@[simp] theorem State.setCage_summaryOwed (n : Nat) (c : Cage) : (s.setCage n c).summaryOwed = s.summaryOwed := rfl
@[simp] theorem State.setCage_hostReset (n : Nat) (c : Cage) : (s.setCage n c).hostReset = s.hostReset := rfl
@[simp] theorem State.setCage_clampLog (n : Nat) (c : Cage) : (s.setCage n c).clampLog = s.clampLog := rfl
@[simp] theorem State.setCage_dram (n : Nat) (c : Cage) : (s.setCage n c).dram = s.dram := rfl
@[simp] theorem State.setCage_surf (n : Nat) (c : Cage) : (s.setCage n c).surf = s.surf := rfl
@[simp] theorem State.setCage_queues (n : Nat) (c : Cage) : (s.setCage n c).queues = s.queues := rfl
@[simp] theorem State.setCage_rings (n : Nat) (c : Cage) : (s.setCage n c).rings = s.rings := rfl
@[simp] theorem State.setCage_txn (n : Nat) (c : Cage) : (s.setCage n c).txn = s.txn := rfl
@[simp] theorem State.setCage_scan (n : Nat) (c : Cage) : (s.setCage n c).scan = s.scan := rfl
@[simp] theorem State.setCage_pcie (n : Nat) (c : Cage) : (s.setCage n c).pcie = s.pcie := rfl
@[simp] theorem State.setCage_power (n : Nat) (c : Cage) : (s.setCage n c).power = s.power := rfl
@[simp] theorem State.setCage_histDawn (n : Nat) (c : Cage) : (s.setCage n c).histDawn = s.histDawn := rfl
@[simp] theorem State.setCage_histDusk (n : Nat) (c : Cage) : (s.setCage n c).histDusk = s.histDusk := rfl
@[simp] theorem State.setCage_od (n : Nat) (c : Cage) : (s.setCage n c).od = s.od := rfl
@[simp] theorem State.setCage_cmp (n : Nat) (c : Cage) : (s.setCage n c).cmp = s.cmp := rfl
@[simp] theorem State.setCage_keys (n : Nat) (c : Cage) : (s.setCage n c).keys = s.keys := rfl
@[simp] theorem State.setCage_assay (n : Nat) (c : Cage) : (s.setCage n c).assay = s.assay := rfl
@[simp] theorem State.setCage_uniSeal (n : Nat) (c : Cage) : (s.setCage n c).uniSeal = s.uniSeal := rfl
@[simp] theorem State.setCage_uniLate (n : Nat) (c : Cage) : (s.setCage n c).uniLate = s.uniLate := rfl
@[simp] theorem State.setCage_age (n : Nat) (c : Cage) : (s.setCage n c).age = s.age := rfl
@[simp] theorem State.setCage_link (n : Nat) (c : Cage) : (s.setCage n c).link = s.link := rfl
@[simp] theorem State.setCage_hvd (n : Nat) (c : Cage) : (s.setCage n c).hvd = s.hvd := rfl
@[simp] theorem State.setCage_label (n : Nat) (c : Cage) : (s.setCage n c).label = s.label := rfl
@[simp] theorem State.setCage_pstore (n : Nat) (c : Cage) : (s.setCage n c).pstore = s.pstore := rfl
@[simp] theorem State.setCage_mem (n : Nat) (c : Cage) : (s.setCage n c).mem = s.mem := rfl
@[simp] theorem State.setCage_boot (n : Nat) (c : Cage) : (s.setCage n c).boot = s.boot := rfl
@[simp] theorem State.rd_setCage (n : Nat) (c : Cage) (k : Nat) : (s.setCage n c).rd k = s.rd k := rfl
@[simp] theorem State.fld_setCage (n : Nat) (c : Cage) (g : Fld) : (s.setCage n c).fld g = s.fld g := rfl

/-! ### `freeCage` -/

@[simp] theorem State.freeCage_pending (n : Nat) : (s.freeCage n).pending = s.pending := rfl
@[simp] theorem State.freeCage_sent (n : Nat) : (s.freeCage n).sent = s.sent := rfl
@[simp] theorem State.freeCage_freeCtr (n : Nat) : (s.freeCage n).freeCtr = s.freeCtr := rfl
@[simp] theorem State.freeCage_keepCycles (n : Nat) : (s.freeCage n).keepCycles = s.keepCycles := rfl
@[simp] theorem State.freeCage_secPhase (n : Nat) : (s.freeCage n).secPhase = s.secPhase := rfl
@[simp] theorem State.freeCage_regs (n : Nat) : (s.freeCage n).regs = s.regs := rfl
@[simp] theorem State.freeCage_summaryOwed (n : Nat) : (s.freeCage n).summaryOwed = s.summaryOwed := rfl
@[simp] theorem State.freeCage_hostReset (n : Nat) : (s.freeCage n).hostReset = s.hostReset := rfl
@[simp] theorem State.freeCage_clampLog (n : Nat) : (s.freeCage n).clampLog = s.clampLog := rfl
@[simp] theorem State.freeCage_dram (n : Nat) : (s.freeCage n).dram = s.dram := rfl
@[simp] theorem State.freeCage_surf (n : Nat) : (s.freeCage n).surf = s.surf := rfl
@[simp] theorem State.freeCage_queues (n : Nat) : (s.freeCage n).queues = s.queues := rfl
@[simp] theorem State.freeCage_rings (n : Nat) : (s.freeCage n).rings = s.rings := rfl
@[simp] theorem State.freeCage_txn (n : Nat) : (s.freeCage n).txn = s.txn := rfl
@[simp] theorem State.freeCage_scan (n : Nat) : (s.freeCage n).scan = s.scan := rfl
@[simp] theorem State.freeCage_pcie (n : Nat) : (s.freeCage n).pcie = s.pcie := rfl
@[simp] theorem State.freeCage_power (n : Nat) : (s.freeCage n).power = s.power := rfl
@[simp] theorem State.freeCage_histDawn (n : Nat) : (s.freeCage n).histDawn = s.histDawn := rfl
@[simp] theorem State.freeCage_histDusk (n : Nat) : (s.freeCage n).histDusk = s.histDusk := rfl
@[simp] theorem State.freeCage_od (n : Nat) : (s.freeCage n).od = s.od := rfl
@[simp] theorem State.freeCage_cmp (n : Nat) : (s.freeCage n).cmp = s.cmp := rfl
@[simp] theorem State.freeCage_keys (n : Nat) : (s.freeCage n).keys = s.keys := rfl
@[simp] theorem State.freeCage_assay (n : Nat) : (s.freeCage n).assay = s.assay := rfl
@[simp] theorem State.freeCage_uniSeal (n : Nat) : (s.freeCage n).uniSeal = s.uniSeal := rfl
@[simp] theorem State.freeCage_uniLate (n : Nat) : (s.freeCage n).uniLate = s.uniLate := rfl
@[simp] theorem State.freeCage_age (n : Nat) : (s.freeCage n).age = s.age := rfl
@[simp] theorem State.freeCage_link (n : Nat) : (s.freeCage n).link = s.link := rfl
@[simp] theorem State.freeCage_hvd (n : Nat) : (s.freeCage n).hvd = s.hvd := rfl
@[simp] theorem State.freeCage_label (n : Nat) : (s.freeCage n).label = s.label := rfl
@[simp] theorem State.freeCage_pstore (n : Nat) : (s.freeCage n).pstore = s.pstore := rfl
@[simp] theorem State.freeCage_mem (n : Nat) : (s.freeCage n).mem = s.mem := rfl
@[simp] theorem State.freeCage_boot (n : Nat) : (s.freeCage n).boot = s.boot := rfl
@[simp] theorem State.rd_freeCage (n : Nat) (k : Nat) : (s.freeCage n).rd k = s.rd k := rfl
@[simp] theorem State.fld_freeCage (n : Nat) (g : Fld) : (s.freeCage n).fld g = s.fld g := rfl

/-! ### `setSlot` -/

@[simp] theorem State.setSlot_pending (n : Nat) (h : SlotHid) : (s.setSlot n h).pending = s.pending := rfl
@[simp] theorem State.setSlot_sent (n : Nat) (h : SlotHid) : (s.setSlot n h).sent = s.sent := rfl
@[simp] theorem State.setSlot_freeCtr (n : Nat) (h : SlotHid) : (s.setSlot n h).freeCtr = s.freeCtr := rfl
@[simp] theorem State.setSlot_keepCycles (n : Nat) (h : SlotHid) : (s.setSlot n h).keepCycles = s.keepCycles := rfl
@[simp] theorem State.setSlot_secPhase (n : Nat) (h : SlotHid) : (s.setSlot n h).secPhase = s.secPhase := rfl
@[simp] theorem State.setSlot_regs (n : Nat) (h : SlotHid) : (s.setSlot n h).regs = s.regs := rfl
@[simp] theorem State.setSlot_summaryOwed (n : Nat) (h : SlotHid) : (s.setSlot n h).summaryOwed = s.summaryOwed := rfl
@[simp] theorem State.setSlot_hostReset (n : Nat) (h : SlotHid) : (s.setSlot n h).hostReset = s.hostReset := rfl
@[simp] theorem State.setSlot_clampLog (n : Nat) (h : SlotHid) : (s.setSlot n h).clampLog = s.clampLog := rfl
@[simp] theorem State.setSlot_dram (n : Nat) (h : SlotHid) : (s.setSlot n h).dram = s.dram := rfl
@[simp] theorem State.setSlot_surf (n : Nat) (h : SlotHid) : (s.setSlot n h).surf = s.surf := rfl
@[simp] theorem State.setSlot_queues (n : Nat) (h : SlotHid) : (s.setSlot n h).queues = s.queues := rfl
@[simp] theorem State.setSlot_rings (n : Nat) (h : SlotHid) : (s.setSlot n h).rings = s.rings := rfl
@[simp] theorem State.setSlot_hoist (n : Nat) (h : SlotHid) : (s.setSlot n h).hoist = s.hoist := rfl
@[simp] theorem State.setSlot_scan (n : Nat) (h : SlotHid) : (s.setSlot n h).scan = s.scan := rfl
@[simp] theorem State.setSlot_pcie (n : Nat) (h : SlotHid) : (s.setSlot n h).pcie = s.pcie := rfl
@[simp] theorem State.setSlot_power (n : Nat) (h : SlotHid) : (s.setSlot n h).power = s.power := rfl
@[simp] theorem State.setSlot_histDawn (n : Nat) (h : SlotHid) : (s.setSlot n h).histDawn = s.histDawn := rfl
@[simp] theorem State.setSlot_histDusk (n : Nat) (h : SlotHid) : (s.setSlot n h).histDusk = s.histDusk := rfl
@[simp] theorem State.setSlot_od (n : Nat) (h : SlotHid) : (s.setSlot n h).od = s.od := rfl
@[simp] theorem State.setSlot_cmp (n : Nat) (h : SlotHid) : (s.setSlot n h).cmp = s.cmp := rfl
@[simp] theorem State.setSlot_keys (n : Nat) (h : SlotHid) : (s.setSlot n h).keys = s.keys := rfl
@[simp] theorem State.setSlot_assay (n : Nat) (h : SlotHid) : (s.setSlot n h).assay = s.assay := rfl
@[simp] theorem State.setSlot_uniSeal (n : Nat) (h : SlotHid) : (s.setSlot n h).uniSeal = s.uniSeal := rfl
@[simp] theorem State.setSlot_uniLate (n : Nat) (h : SlotHid) : (s.setSlot n h).uniLate = s.uniLate := rfl
@[simp] theorem State.setSlot_age (n : Nat) (h : SlotHid) : (s.setSlot n h).age = s.age := rfl
@[simp] theorem State.setSlot_link (n : Nat) (h : SlotHid) : (s.setSlot n h).link = s.link := rfl
@[simp] theorem State.setSlot_hvd (n : Nat) (h : SlotHid) : (s.setSlot n h).hvd = s.hvd := rfl
@[simp] theorem State.setSlot_label (n : Nat) (h : SlotHid) : (s.setSlot n h).label = s.label := rfl
@[simp] theorem State.setSlot_pstore (n : Nat) (h : SlotHid) : (s.setSlot n h).pstore = s.pstore := rfl
@[simp] theorem State.setSlot_mem (n : Nat) (h : SlotHid) : (s.setSlot n h).mem = s.mem := rfl
@[simp] theorem State.setSlot_boot (n : Nat) (h : SlotHid) : (s.setSlot n h).boot = s.boot := rfl
@[simp] theorem State.rd_setSlot (n : Nat) (h : SlotHid) (k : Nat) : (s.setSlot n h).rd k = s.rd k := rfl
@[simp] theorem State.fld_setSlot (n : Nat) (h : SlotHid) (g : Fld) : (s.setSlot n h).fld g = s.fld g := rfl

/-! ### `setCfg` -/

@[simp] theorem State.setCfg_pending (o : Nat) (v : Word) : (s.setCfg o v).pending = s.pending := rfl
@[simp] theorem State.setCfg_sent (o : Nat) (v : Word) : (s.setCfg o v).sent = s.sent := rfl
@[simp] theorem State.setCfg_freeCtr (o : Nat) (v : Word) : (s.setCfg o v).freeCtr = s.freeCtr := rfl
@[simp] theorem State.setCfg_keepCycles (o : Nat) (v : Word) : (s.setCfg o v).keepCycles = s.keepCycles := rfl
@[simp] theorem State.setCfg_secPhase (o : Nat) (v : Word) : (s.setCfg o v).secPhase = s.secPhase := rfl
@[simp] theorem State.setCfg_regs (o : Nat) (v : Word) : (s.setCfg o v).regs = s.regs := rfl
@[simp] theorem State.setCfg_summaryOwed (o : Nat) (v : Word) : (s.setCfg o v).summaryOwed = s.summaryOwed := rfl
@[simp] theorem State.setCfg_hostReset (o : Nat) (v : Word) : (s.setCfg o v).hostReset = s.hostReset := rfl
@[simp] theorem State.setCfg_clampLog (o : Nat) (v : Word) : (s.setCfg o v).clampLog = s.clampLog := rfl
@[simp] theorem State.setCfg_dram (o : Nat) (v : Word) : (s.setCfg o v).dram = s.dram := rfl
@[simp] theorem State.setCfg_surf (o : Nat) (v : Word) : (s.setCfg o v).surf = s.surf := rfl
@[simp] theorem State.setCfg_queues (o : Nat) (v : Word) : (s.setCfg o v).queues = s.queues := rfl
@[simp] theorem State.setCfg_rings (o : Nat) (v : Word) : (s.setCfg o v).rings = s.rings := rfl
@[simp] theorem State.setCfg_hoist (o : Nat) (v : Word) : (s.setCfg o v).hoist = s.hoist := rfl
@[simp] theorem State.setCfg_txn (o : Nat) (v : Word) : (s.setCfg o v).txn = s.txn := rfl
@[simp] theorem State.setCfg_scan (o : Nat) (v : Word) : (s.setCfg o v).scan = s.scan := rfl
@[simp] theorem State.setCfg_power (o : Nat) (v : Word) : (s.setCfg o v).power = s.power := rfl
@[simp] theorem State.setCfg_histDawn (o : Nat) (v : Word) : (s.setCfg o v).histDawn = s.histDawn := rfl
@[simp] theorem State.setCfg_histDusk (o : Nat) (v : Word) : (s.setCfg o v).histDusk = s.histDusk := rfl
@[simp] theorem State.setCfg_od (o : Nat) (v : Word) : (s.setCfg o v).od = s.od := rfl
@[simp] theorem State.setCfg_cmp (o : Nat) (v : Word) : (s.setCfg o v).cmp = s.cmp := rfl
@[simp] theorem State.setCfg_keys (o : Nat) (v : Word) : (s.setCfg o v).keys = s.keys := rfl
@[simp] theorem State.setCfg_assay (o : Nat) (v : Word) : (s.setCfg o v).assay = s.assay := rfl
@[simp] theorem State.setCfg_uniSeal (o : Nat) (v : Word) : (s.setCfg o v).uniSeal = s.uniSeal := rfl
@[simp] theorem State.setCfg_uniLate (o : Nat) (v : Word) : (s.setCfg o v).uniLate = s.uniLate := rfl
@[simp] theorem State.setCfg_age (o : Nat) (v : Word) : (s.setCfg o v).age = s.age := rfl
@[simp] theorem State.setCfg_link (o : Nat) (v : Word) : (s.setCfg o v).link = s.link := rfl
@[simp] theorem State.setCfg_hvd (o : Nat) (v : Word) : (s.setCfg o v).hvd = s.hvd := rfl
@[simp] theorem State.setCfg_label (o : Nat) (v : Word) : (s.setCfg o v).label = s.label := rfl
@[simp] theorem State.setCfg_pstore (o : Nat) (v : Word) : (s.setCfg o v).pstore = s.pstore := rfl
@[simp] theorem State.setCfg_mem (o : Nat) (v : Word) : (s.setCfg o v).mem = s.mem := rfl
@[simp] theorem State.setCfg_boot (o : Nat) (v : Word) : (s.setCfg o v).boot = s.boot := rfl
@[simp] theorem State.rd_setCfg (o : Nat) (v : Word) (k : Nat) : (s.setCfg o v).rd k = s.rd k := rfl
@[simp] theorem State.fld_setCfg (o : Nat) (v : Word) (g : Fld) : (s.setCfg o v).fld g = s.fld g := rfl

/-! ### `dramWrite` -/

@[simp] theorem State.dramWrite_pending (a : Nat) (bs : List Byte) : (s.dramWrite a bs).pending = s.pending := rfl
@[simp] theorem State.dramWrite_sent (a : Nat) (bs : List Byte) : (s.dramWrite a bs).sent = s.sent := rfl
@[simp] theorem State.dramWrite_freeCtr (a : Nat) (bs : List Byte) : (s.dramWrite a bs).freeCtr = s.freeCtr := rfl
@[simp] theorem State.dramWrite_keepCycles (a : Nat) (bs : List Byte) : (s.dramWrite a bs).keepCycles = s.keepCycles := rfl
@[simp] theorem State.dramWrite_secPhase (a : Nat) (bs : List Byte) : (s.dramWrite a bs).secPhase = s.secPhase := rfl
@[simp] theorem State.dramWrite_regs (a : Nat) (bs : List Byte) : (s.dramWrite a bs).regs = s.regs := rfl
@[simp] theorem State.dramWrite_summaryOwed (a : Nat) (bs : List Byte) : (s.dramWrite a bs).summaryOwed = s.summaryOwed := rfl
@[simp] theorem State.dramWrite_hostReset (a : Nat) (bs : List Byte) : (s.dramWrite a bs).hostReset = s.hostReset := rfl
@[simp] theorem State.dramWrite_clampLog (a : Nat) (bs : List Byte) : (s.dramWrite a bs).clampLog = s.clampLog := rfl
@[simp] theorem State.dramWrite_surf (a : Nat) (bs : List Byte) : (s.dramWrite a bs).surf = s.surf := rfl
@[simp] theorem State.dramWrite_queues (a : Nat) (bs : List Byte) : (s.dramWrite a bs).queues = s.queues := rfl
@[simp] theorem State.dramWrite_rings (a : Nat) (bs : List Byte) : (s.dramWrite a bs).rings = s.rings := rfl
@[simp] theorem State.dramWrite_hoist (a : Nat) (bs : List Byte) : (s.dramWrite a bs).hoist = s.hoist := rfl
@[simp] theorem State.dramWrite_txn (a : Nat) (bs : List Byte) : (s.dramWrite a bs).txn = s.txn := rfl
@[simp] theorem State.dramWrite_scan (a : Nat) (bs : List Byte) : (s.dramWrite a bs).scan = s.scan := rfl
@[simp] theorem State.dramWrite_pcie (a : Nat) (bs : List Byte) : (s.dramWrite a bs).pcie = s.pcie := rfl
@[simp] theorem State.dramWrite_power (a : Nat) (bs : List Byte) : (s.dramWrite a bs).power = s.power := rfl
@[simp] theorem State.dramWrite_histDawn (a : Nat) (bs : List Byte) : (s.dramWrite a bs).histDawn = s.histDawn := rfl
@[simp] theorem State.dramWrite_histDusk (a : Nat) (bs : List Byte) : (s.dramWrite a bs).histDusk = s.histDusk := rfl
@[simp] theorem State.dramWrite_od (a : Nat) (bs : List Byte) : (s.dramWrite a bs).od = s.od := rfl
@[simp] theorem State.dramWrite_cmp (a : Nat) (bs : List Byte) : (s.dramWrite a bs).cmp = s.cmp := rfl
@[simp] theorem State.dramWrite_keys (a : Nat) (bs : List Byte) : (s.dramWrite a bs).keys = s.keys := rfl
@[simp] theorem State.dramWrite_assay (a : Nat) (bs : List Byte) : (s.dramWrite a bs).assay = s.assay := rfl
@[simp] theorem State.dramWrite_uniSeal (a : Nat) (bs : List Byte) : (s.dramWrite a bs).uniSeal = s.uniSeal := rfl
@[simp] theorem State.dramWrite_uniLate (a : Nat) (bs : List Byte) : (s.dramWrite a bs).uniLate = s.uniLate := rfl
@[simp] theorem State.dramWrite_age (a : Nat) (bs : List Byte) : (s.dramWrite a bs).age = s.age := rfl
@[simp] theorem State.dramWrite_link (a : Nat) (bs : List Byte) : (s.dramWrite a bs).link = s.link := rfl
@[simp] theorem State.dramWrite_hvd (a : Nat) (bs : List Byte) : (s.dramWrite a bs).hvd = s.hvd := rfl
@[simp] theorem State.dramWrite_label (a : Nat) (bs : List Byte) : (s.dramWrite a bs).label = s.label := rfl
@[simp] theorem State.dramWrite_pstore (a : Nat) (bs : List Byte) : (s.dramWrite a bs).pstore = s.pstore := rfl
@[simp] theorem State.dramWrite_mem (a : Nat) (bs : List Byte) : (s.dramWrite a bs).mem = s.mem := rfl
@[simp] theorem State.dramWrite_boot (a : Nat) (bs : List Byte) : (s.dramWrite a bs).boot = s.boot := rfl
@[simp] theorem State.rd_dramWrite (a : Nat) (bs : List Byte) (k : Nat) : (s.dramWrite a bs).rd k = s.rd k := rfl
@[simp] theorem State.fld_dramWrite (a : Nat) (bs : List Byte) (g : Fld) : (s.dramWrite a bs).fld g = s.fld g := rfl

/-! ### Registers and fields -/

theorem State.rd_wr (o k : Nat) (v : Word) : (s.wr o v).rd k = if o = k then v else s.rd k := by
  simp [State.rd, State.wr, SMap.get_set]

@[simp] theorem State.rd_wr_same (o : Nat) (v : Word) : (s.wr o v).rd o = v := by simp [State.rd_wr]

theorem State.rd_wr_other {o k : Nat} (v : Word) (h : o ≠ k) : (s.wr o v).rd k = s.rd k := by simp [State.rd_wr, h]

theorem State.rd_setFld (f : Fld) (n k : Nat) :
    (s.setFld f n).rd k = if f.off = k then putBits (s.rd f.off) f.lo f.w n else s.rd k := by
  rw [State.setFld, State.rd_wr]

theorem State.rd_setFld_other (f : Fld) (n : Nat) {k : Nat} (h : f.off ≠ k) : (s.setFld f n).rd k = s.rd k := by
  simp [State.rd_setFld, h]

/-- A field reads as the value set, cut to its width. -/
theorem State.fld_setFld_same (f : Fld) (n : Nat) (h : f.lo + f.w ≤ 32) : (s.setFld f n).fld f = n % 2 ^ f.w := by
  simp [State.fld, State.rd_setFld, bitsOf_putBits_same _ _ _ _ h]

/-- A field of another register, or one that shares no bit with the field set, reads as before. -/
theorem State.fld_setFld_other (f g : Fld) (n : Nat) (h : f.off ≠ g.off ∨ f.lo + f.w ≤ g.lo ∨ g.lo + g.w ≤ f.lo) :
    (s.setFld f n).fld g = s.fld g := by
  rw [State.fld, State.fld, State.rd_setFld]
  by_cases ho : f.off = g.off
  · rw [if_pos ho, ho, bitsOf_putBits_other _ _ _ _ _ _ (h.resolve_left (by simp [ho]))]
  · rw [if_neg ho]

theorem State.fld_wr_other (o : Nat) (v : Word) (g : Fld) (h : o ≠ g.off) : (s.wr o v).fld g = s.fld g := by
  rw [State.fld, State.fld, State.rd_wr_other s v h]

theorem State.fld_lt (f : Fld) : s.fld f < 2 ^ f.w := bitsOf_lt _ _ _

/-- A counter after it was raised: it saturates at its all-ones value. -/
theorem State.fld_bump_same (f : Fld) (n : Nat) (h : f.lo + f.w ≤ 32) :
    (s.bump f n).fld f = min (s.fld f + n) (2 ^ f.w - 1) := by
  have := Nat.two_pow_pos f.w
  rw [State.bump, State.fld_setFld_same s f _ h, Nat.mod_eq_of_lt]
  omega

theorem State.fld_bump_other (f g : Fld) (n : Nat) (h : f.off ≠ g.off ∨ f.lo + f.w ≤ g.lo ∨ g.lo + g.w ≤ f.lo) :
    (s.bump f n).fld g = s.fld g := State.fld_setFld_other s f g _ h

theorem State.rd_bump_other (f : Fld) (n : Nat) {k : Nat} (h : f.off ≠ k) : (s.bump f n).rd k = s.rd k :=
  State.rd_setFld_other s f _ h

/-- The register file stays in its canonical form. -/
theorem State.wr_regs_wf (o : Nat) (v : Word) (h : SMap.wf resetWord s.regs = true) :
    SMap.wf resetWord (s.wr o v).regs = true := SMap.wf_set _ _ _ _ h

theorem State.setFld_regs_wf (f : Fld) (n : Nat) (h : SMap.wf resetWord s.regs = true) :
    SMap.wf resetWord (s.setFld f n).regs = true := SMap.wf_set _ _ _ _ h

/-! ### Device DRAM -/

theorem dramWriteGo_wf (m : SMap Byte) (a : Nat) (bs : List Byte) (h : SMap.wf dramDefault m = true) :
    SMap.wf dramDefault (dramWriteGo m a bs) = true := by
  induction bs generalizing m a with
  | nil => exact h
  | cons b bs ih => exact ih _ _ (SMap.wf_set _ _ _ _ h)

/-- A write to DRAM keeps its canonical form. -/
theorem State.dramWrite_wf (a : Nat) (bs : List Byte) (h : SMap.wf dramDefault s.dram = true) :
    SMap.wf dramDefault (s.dramWrite a bs).dram = true := dramWriteGo_wf _ _ _ h

theorem dramWriteGo_get (m : SMap Byte) (a k : Nat) (bs : List Byte) :
    SMap.get dramDefault (dramWriteGo m a bs) k =
      if a ≤ k ∧ k < a + bs.length then bs.getD (k - a) 0 else SMap.get dramDefault m k := by
  induction bs generalizing m a with
  | nil => simp [dramWriteGo]
  | cons b bs ih =>
    rw [dramWriteGo, ih, SMap.get_set]
    by_cases h1 : a = k
    · subst h1; simp
    · by_cases h2 : a + 1 ≤ k ∧ k < a + 1 + bs.length
      · have h3 : a ≤ k ∧ k < a + (b :: bs).length := by simp; omega
        rw [if_pos h2, if_pos h3, show k - a = (k - (a + 1)) + 1 by omega]; rfl
      · have h3 : ¬ (a ≤ k ∧ k < a + (b :: bs).length) := by simp; omega
        rw [if_neg h2, if_neg h3, if_neg h1]

/-- Every byte of DRAM after a write: the bytes written where they lie, every other byte as before. -/
theorem State.dramByte_dramWrite (a k : Nat) (bs : List Byte) :
    (s.dramWrite a bs).dramByte k = if a ≤ k ∧ k < a + bs.length then bs.getD (k - a) 0 else s.dramByte k :=
  dramWriteGo_get _ _ _ _

end Sys2Proof.Machine
end

