-- ==== Sys2Proof/Laws/Frames.lean ====
section
/-! SUPPORT. What each shared operation can change, said once: the state after it is the state before it with the named
components replaced. -/

namespace Sys2Proof.Machine

variable (s : State)

theorem SameButRegs.refl : SameButRegs s s := rfl

theorem SameButRegs.trans {s t u : State} (h : SameButRegs s t) (k : SameButRegs t u) : SameButRegs s u := by
  unfold SameButRegs at h k ⊢; rw [k, h]

theorem SameButRegs.signals {s t : State} (h : SameButRegs s t) : SameButSignals s t := by
  unfold SameButRegs at h; unfold SameButSignals; rw [h]

theorem SameButRegs.log {s t : State} (h : SameButRegs s t) : SameButLog s t := by
  unfold SameButRegs at h; unfold SameButLog; rw [h]

theorem sameButRegs_wr (o : Nat) (v : Word) : SameButRegs s (s.wr o v) := rfl
theorem sameButRegs_setFld (f : Fld) (n : Nat) : SameButRegs s (s.setFld f n) := rfl
theorem sameButRegs_setBit (f : Fld) (b : Bool) : SameButRegs s (s.setBit f b) := rfl
theorem sameButRegs_bump (f : Fld) (n : Nat) : SameButRegs s (s.bump f n) := rfl

/-- A fold whose every step changes registers alone does so. -/
theorem SameButRegs.each {α : Type} (xs : List α) (f : State → α → State) (h : ∀ s x, SameButRegs s (f s x)) :
    SameButRegs s (s.each xs f) := by
  unfold State.each
  induction xs generalizing s with
  | nil => exact .refl s
  | cons x xs ih => exact (h s x).trans (ih _)

theorem SameButSignals.refl : SameButSignals s s := rfl
theorem SameButEvents.refl : SameButEvents s s := rfl

theorem SameButSignals.trans {s t u : State} (h : SameButSignals s t) (k : SameButSignals t u) : SameButSignals s u := by
  unfold SameButSignals at h k ⊢; rw [k, h]

theorem SameButEvents.trans {s t u : State} (h : SameButEvents s t) (k : SameButEvents t u) : SameButEvents s u := by
  unfold SameButEvents at h k ⊢; rw [k, h]

theorem SameButSignals.events {s t : State} (h : SameButSignals s t) : SameButEvents s t := by
  unfold SameButSignals at h; unfold SameButEvents; rw [h]

theorem sameButSignals_wr (o : Nat) (v : Word) : SameButSignals s (s.wr o v) := rfl
theorem sameButSignals_setFld (f : Fld) (n : Nat) : SameButSignals s (s.setFld f n) := rfl
theorem sameButSignals_bump (f : Fld) (n : Nat) : SameButSignals s (s.bump f n) := rfl
theorem sameButSignals_emit (o : Out) : SameButSignals s (s.emit o) := rfl
theorem sameButSignals_setCfg (o : Nat) (v : Word) : SameButSignals s (s.setCfg o v) := rfl
theorem sameButEvents_setRing (r : Nat) (h : RingHid) : SameButEvents s (s.setRing r h) := rfl

/-- A fold whose every step is such a change is one. -/
theorem SameButSignals.each {α : Type} (xs : List α) (f : State → α → State) (h : ∀ s x, SameButSignals s (f s x)) :
    SameButSignals s (s.each xs f) := by
  unfold State.each
  induction xs generalizing s with
  | nil => exact .refl s
  | cons x xs ih => exact (h s x).trans (ih _)

theorem SameButEvents.each {α : Type} (xs : List α) (f : State → α → State) (h : ∀ s x, SameButEvents s (f s x)) :
    SameButEvents s (s.each xs f) := by
  unfold State.each
  induction xs generalizing s with
  | nil => exact .refl s
  | cons x xs ih => exact (h s x).trans (ih _)

theorem sameButSignals_signal (v : Nat) : SameButSignals s (s.signal v) := by
  unfold State.signal State.msixSend State.msiSend
  dsimp only
  repeat' split
  all_goals rfl

theorem sameButSignals_summaryEdge (b : Bool) : SameButSignals s (State.summaryEdge b s) := by
  unfold State.summaryEdge
  repeat' split
  · exact sameButSignals_signal s _
  · rfl
  · rfl

/-- An interrupt bit set. -/
theorem sameButSignals_raise (p b : Nat) : SameButSignals s (s.raise p b) :=
  (sameButSignals_wr s _ _).trans (sameButSignals_summaryEdge _ _)

theorem sameButSignals_aerUncorr (b : Nat) : SameButSignals s (s.aerUncorr b) := by
  unfold State.aerUncorr; dsimp only; split <;> rfl

/-- A request of the part to the host. -/
theorem sameButSignals_request (o : Out) : SameButSignals s (s.request o) := by
  unfold State.request; repeat' split
  all_goals rfl

theorem sameButSignals_hostCtl (a : Nat) (bs : List Byte) : SameButSignals s (s.hostCtl a bs) := sameButSignals_request s _

theorem sameButSignals_hostData (a : Nat) (bs : List Byte) : SameButSignals s (s.hostData a bs) :=
  SameButSignals.each s _ _ fun s _ => sameButSignals_request s _

theorem sameButSignals_hostReadReq (a n : Nat) : SameButSignals s (s.hostReadReq a n) :=
  SameButSignals.each s _ _ fun s _ => sameButSignals_request s _

theorem sameButSignals_noteRead (r : ReadRes) : SameButSignals s (s.noteRead r) := by
  unfold State.noteRead; split
  · exact (sameButSignals_bump s _ _).trans (sameButSignals_aerUncorr _ _)
  · rfl

theorem sameButEvents_ringLose (r n : Nat) : SameButEvents s (s.ringLose r n) := by
  unfold State.ringLose; split
  · rfl
  · exact (((sameButSignals_bump s _ _).trans (sameButSignals_bump _ _ _)).trans (sameButSignals_raise _ _ _)).events

theorem sameButEvents_setHold (r : Nat) (h : RingHid) : SameButEvents s (s.setHold r h) := rfl

theorem sameButEvents_ringSignal (r : Nat) : SameButEvents s (s.ringSignal r) :=
  (sameButEvents_setRing s _ _).trans (sameButSignals_signal _ _).events

/-- One event entry written. -/
theorem sameButEvents_ringWrite (r : Nat) (e : Ev) : SameButEvents s (s.ringWrite r e) := by
  have h2 (n : Nat) (h : RingHid) : SameButEvents s (((s.hostCtl
      (s.fld (F.RING_BASE_LO_BASE r) + s.fld (F.RING_BASE_HI_BASE r) * 2 ^ 32 + 16 * s.fld (F.RING_TAIL_TAIL r))
      (evBytes e (s.ring r).phase)).setFld (F.RING_TAIL_TAIL r) n).setRing r h) :=
    ((sameButSignals_hostCtl s _ _).events.trans (sameButSignals_setFld _ _ n).events).trans (sameButEvents_setRing _ r h)
  unfold State.ringWrite
  dsimp only
  split
  all_goals
    split
    · exact (h2 _ _).trans (sameButEvents_ringSignal _ _)
    · exact h2 _ _

theorem sameButEvents_drainGo (n r : Nat) : SameButEvents s (ringDrainGo n r s) := by
  induction n generalizing s with
  | zero => exact .refl s
  | succ n ih =>
    unfold ringDrainGo
    dsimp only
    split
    · exact .refl s
    · split
      · exact ((sameButEvents_setHold s r _).trans (sameButEvents_ringWrite _ r _)).trans (ih _)
      · split
        · exact ((sameButEvents_setHold s r _).trans (sameButEvents_ringWrite _ r _)).trans (ih _)
        · exact .refl s

theorem sameButEvents_ringDrain (r : Nat) : SameButEvents s (s.ringDrain r) := by
  unfold State.ringDrain
  dsimp only
  split
  · rfl
  · have h := sameButEvents_drainGo s ((s.ring r).hold.length + 1) r
    split
    · split
      · exact (h.trans (sameButEvents_setRing _ r _)).trans (sameButEvents_ringWrite _ r _)
      · exact (h.trans (sameButEvents_setRing _ r _)).trans (sameButEvents_setHold _ r _)
    · exact h

/-- An event posted to a ring. -/
theorem sameButEvents_postR (r : Nat) (b : Bool) (e : Ev) : SameButEvents s (s.postR r b e) := by
  unfold State.postR
  dsimp only
  split
  · rfl
  · split
    · exact sameButEvents_ringLose s r 1
    · split
      · split
        · exact (sameButEvents_setRing s r _).trans (sameButEvents_ringWrite _ r e)
        · exact sameButEvents_ringWrite s r e
      · split
        · exact sameButEvents_setHold s r _
        · exact (sameButEvents_setRing s r _).trans (sameButEvents_ringLose _ r 1)

theorem sameButEvents_post (ring : Fld) (code : Nat) (fs : List (Nat × Nat)) : SameButEvents s (s.post ring code fs) :=
  sameButEvents_postR s _ _ _

theorem SameButLog.trans {s t u : State} (h : SameButLog s t) (k : SameButLog t u) : SameButLog s u := by
  unfold SameButLog at h k ⊢; rw [k, h]

theorem sameButLog_wr (o : Nat) (v : Word) : SameButLog s (s.wr o v) := rfl
theorem sameButLog_setFld (f : Fld) (n : Nat) : SameButLog s (s.setFld f n) := rfl
theorem sameButLog_bump (f : Fld) (n : Nat) : SameButLog s (s.bump f n) := rfl
theorem sameButLog_log (l : SMap ClampEntry) : SameButLog s { s with clampLog := l } := rfl

/-- A clamp report: registers and the chip clamp log. -/
theorem sameButLog_clampReportAt (page : Nat) (slot : Option Nat) (kept : Bool) (off : Nat) (orig new : Word) :
    SameButLog s (s.clampReportAt page slot kept off orig new) :=
  ((((((sameButLog_bump s _ _).trans (sameButLog_wr _ _ _)).trans (sameButLog_wr _ _ _)).trans (sameButLog_wr _ _ _)).trans
    (sameButLog_log _ _)).trans (sameButLog_setFld _ _ _)).trans (sameButLog_bump _ _ _)

theorem sameButLog_clampReport (slot : Option Nat) (kept : Bool) (off : Nat) (orig new : Word) :
    SameButLog s (s.clampReport slot kept off orig new) := sameButLog_clampReportAt s _ _ _ _ _ _

theorem sameButLog_refuseCommand (off : Nat) (v : Word) : SameButLog s (s.refuseCommand off v) :=
  sameButLog_clampReport s _ _ _ _ _

/-- A checked write of one register (R88). -/
theorem sameButLog_applyIn (ctx : State) (slot : Option Nat) (sel : Acc → Bool) (off : Nat) (v : Word) :
    SameButLog s (s.applyIn ctx slot sel off v) := by
  unfold State.applyIn; dsimp only; split
  · exact (sameButLog_wr s _ _).trans (sameButLog_clampReport _ _ _ _ _ _)
  · exact sameButLog_wr s _ _

theorem sameButLog_dependent (slot : Option Nat) (f : Fld) (v : Nat) : SameButLog s (s.dependent slot f v) := by
  unfold State.dependent; dsimp only; split
  · rfl
  · exact (sameButLog_setFld s _ _).trans (sameButLog_clampReport _ _ _ _ _ _)

/-! ### Accesses of the host (R382, R392) -/

/-- The write of a host that nothing keeps from its block is what the block does. -/
theorem hostWriteTo_served (off : Nat) (k : State → State) (h1 : s.domOn dHOST = true) (h2 : s.memReady = true)
    (h3 : s.pcie.d3hot = false) (h4 : s.fatal = false) (h5 : s.isolated off = false) (h6 : s.domOn (offDomain off) = true) :
    s.hostWriteTo off k = k s := by
  simp [State.hostWriteTo, h1, h2, h3, h4, h5, h6]

end Sys2Proof.Machine
end

