-- ==== Sys2Proof/Laws/Registers.lean ====
section
/-! SUPPORT. The registers that interrupts, messages, events and clamp reports change; all others read as before. -/

namespace Sys2Proof.Machine

variable (s : State)

@[simp] theorem State.signal_regs (v : Nat) : (s.signal v).regs = s.regs := by
  unfold State.signal State.msixSend State.msiSend
  dsimp only
  repeat' split
  all_goals rfl

@[simp] theorem State.summaryEdge_regs (b : Bool) : (State.summaryEdge b s).regs = s.regs := by
  unfold State.summaryEdge
  repeat' split
  all_goals simp

@[simp] theorem State.rd_signal (v k : Nat) : (s.signal v).rd k = s.rd k := by simp [State.rd]

@[simp] theorem State.rd_summaryEdge (b : Bool) (k : Nat) : (State.summaryEdge b s).rd k = s.rd k := by simp [State.rd]

/-- INT_STATUS after a bit was set, and every other register as before. -/
theorem State.rd_raise (p b k : Nat) :
    (s.raise p b).rd k =
      if p * 0x1000 + 0x0C = k then s.rd (p * 0x1000 + 0x0C) ||| BitVec.ofNat 32 (2 ^ b) else s.rd k := by
  simp [State.raise, State.rd_wr]

theorem State.rd_raise_other (p b : Nat) {k : Nat} (h : p * 0x1000 + 0x0C ≠ k) : (s.raise p b).rd k = s.rd k := by
  simp [State.rd_raise, h]

@[simp] theorem State.rd_aerUncorr (b k : Nat) : (s.aerUncorr b).rd k = s.rd k := by
  unfold State.aerUncorr; dsimp only; split <;> rfl

theorem State.rd_request (o : Out) {k : Nat} (h : k ≠ R.PCIEX_LINK_STATUS) : (s.request o).rd k = s.rd k := by
  unfold State.request
  split
  · rfl
  · split
    · rfl
    · exact State.rd_setFld_other s F.PCIEX_LINK_STATUS_PM_STATE 0 (Ne.symm h)

theorem State.rd_hostCtl (a : Nat) (bs : List Byte) {k : Nat} (h : k ≠ R.PCIEX_LINK_STATUS) :
    (s.hostCtl a bs).rd k = s.rd k := State.rd_request s _ h

/-- A fold whose every step keeps a register keeps it. -/
theorem State.rd_each {α : Type} (xs : List α) (f : State → α → State) (k : Nat) (h : ∀ s x, (f s x).rd k = s.rd k) :
    (s.each xs f).rd k = s.rd k := by
  unfold State.each
  induction xs generalizing s with
  | nil => rfl
  | cons x xs ih => exact (ih _).trans (h s x)

theorem State.rd_hostData (a : Nat) (bs : List Byte) {k : Nat} (h : k ≠ R.PCIEX_LINK_STATUS) :
    (s.hostData a bs).rd k = s.rd k := State.rd_each s _ _ k fun s _ => State.rd_request s _ h

theorem State.rd_hostReadReq (a n : Nat) {k : Nat} (h : k ≠ R.PCIEX_LINK_STATUS) :
    (s.hostReadReq a n).rd k = s.rd k := State.rd_each s _ _ k fun s _ => State.rd_request s _ h

/-! ### Event rings -/

theorem eventReg_false (r k : Nat) (h : eventReg r k = false) :
    (k < 0x100000 → k % 0x1000 ≠ 0x0C) ∧ k ≠ R.PCIEX_LINK_STATUS ∧ k ≠ R.EVT_LOST_TOTAL ∧
      (0x140000 + 0x20 * r ≤ k → 0x140020 + 0x20 * r ≤ k) := by
  simp [eventReg] at h
  refine ⟨h.1.1.1, h.1.1.2, h.1.2, h.2⟩

/-- The raise of a page's interrupt bit changes event registers alone. -/
theorem State.rd_raise_event (r p b k : Nat) (hp : p < 256) (h : eventReg r k = false) : (s.raise p b).rd k = s.rd k := by
  apply State.rd_raise_other
  intro c
  exact (eventReg_false r k h).1 (by omega) (by omega)

theorem State.rd_setHold (r : Nat) (x : RingHid) (k : Nat) (h : eventReg r k = false) : (s.setHold r x).rd k = s.rd k := by
  have := (eventReg_false r k h).2.2.2
  refine (State.rd_setFld_other (s.setRing r x) (F.RING_HOLD_COUNT r) _ ?_).trans rfl
  intro c; simp only at c; omega

theorem State.rd_ringLose (r n k : Nat) (h : eventReg r k = false) : (s.ringLose r n).rd k = s.rd k := by
  have hr := eventReg_false r k h
  unfold State.ringLose
  split
  · rfl
  · rw [State.rd_raise_event _ r _ _ _ (by decide) h, State.rd_bump_other _ _ _ (Ne.symm hr.2.2.1),
      State.rd_bump_other]
    intro c; simp only at c; omega

@[simp] theorem State.rd_ringSignal (r k : Nat) : (s.ringSignal r).rd k = s.rd k := by
  unfold State.ringSignal; dsimp only; rw [State.rd_signal]; rfl

theorem State.rd_ringWrite (r : Nat) (e : Ev) (k : Nat) (h : eventReg r k = false) : (s.ringWrite r e).rd k = s.rd k := by
  have hr := eventReg_false r k h
  have ht : (F.RING_TAIL_TAIL r).off ≠ k := by
    intro c; simp only at c; omega
  unfold State.ringWrite
  dsimp only
  split
  all_goals
    split
    · rw [State.rd_ringSignal, State.rd_setRing, State.rd_setFld_other _ _ _ ht, State.rd_hostCtl _ _ _ hr.2.1]
    · rw [State.rd_setRing, State.rd_setFld_other _ _ _ ht, State.rd_hostCtl _ _ _ hr.2.1]

theorem State.rd_drainGo (n r k : Nat) (h : eventReg r k = false) : (ringDrainGo n r s).rd k = s.rd k := by
  induction n generalizing s with
  | zero => rfl
  | succ n ih =>
    unfold ringDrainGo
    dsimp only
    split
    · rfl
    · split
      · rw [ih, State.rd_ringWrite _ _ _ _ h, State.rd_setHold _ _ _ _ h]
      · split
        · rw [ih, State.rd_ringWrite _ _ _ _ h, State.rd_setHold _ _ _ _ h]
        · rfl

theorem State.rd_ringDrain (r k : Nat) (h : eventReg r k = false) : (s.ringDrain r).rd k = s.rd k := by
  unfold State.ringDrain
  dsimp only
  split
  · rfl
  · split
    · split
      · rw [State.rd_ringWrite _ _ _ _ h, State.rd_setRing, State.rd_drainGo _ _ _ _ h]
      · rw [State.rd_setHold _ _ _ _ h, State.rd_setRing, State.rd_drainGo _ _ _ _ h]
    · rw [State.rd_drainGo _ _ _ _ h]

/-- An event posted changes the registers of its ring, INT_STATUS and the counts of lost events alone. -/
theorem State.rd_postR (r : Nat) (b : Bool) (e : Ev) (k : Nat) (h : eventReg r k = false) : (s.postR r b e).rd k = s.rd k := by
  unfold State.postR
  dsimp only
  split
  · rfl
  · split
    · exact State.rd_ringLose s r 1 k h
    · split
      · rw [State.rd_ringWrite _ _ _ _ h]; split <;> rfl
      · split
        · exact State.rd_setHold s r _ k h
        · rw [State.rd_ringLose _ _ _ _ h, State.rd_setRing]

theorem State.rd_post (ring : Fld) (code : Nat) (fs : List (Nat × Nat)) (k : Nat) (h : eventReg (s.fld ring) k = false) :
    (s.post ring code fs).rd k = s.rd k := State.rd_postR s _ _ _ _ h

/-! ### Clamp reports -/

/-- A clamp report changes the clamp registers of its page and those of the chip clamp log alone. -/
theorem State.rd_clampReportAt (page : Nat) (slot : Option Nat) (kept : Bool) (off : Nat) (orig new : Word) (k : Nat)
    (h : k ∉ clampRegs page) : (s.clampReportAt page slot kept off orig new).rd k = s.rd k := by
  simp only [clampRegs, List.mem_cons, List.not_mem_nil, or_false, not_or] at h
  obtain ⟨h1, h2, h3, h4, h5, h6⟩ := h
  unfold State.clampReportAt
  dsimp only
  have e1 (s : State) (n : Nat) : (s.bump (hdrFld page 0x24 0 32) n).rd k = s.rd k := State.rd_bump_other s _ n (Ne.symm h1)
  have e2 (s : State) (v : Word) : (s.wr (page * 0x1000 + 0x28) v).rd k = s.rd k := State.rd_wr_other s v (Ne.symm h2)
  have e3 (s : State) (v : Word) : (s.wr (page * 0x1000 + 0x2C) v).rd k = s.rd k := State.rd_wr_other s v (Ne.symm h3)
  have e4 (s : State) (v : Word) : (s.wr (page * 0x1000 + 0x30) v).rd k = s.rd k := State.rd_wr_other s v (Ne.symm h4)
  have e5 (s : State) (n : Nat) : (s.setFld F.CHIP_CLAMP_LOG_NEXT_INDEX n).rd k = s.rd k :=
    State.rd_setFld_other s F.CHIP_CLAMP_LOG_NEXT_INDEX n (Ne.symm h5)
  have e6 (s : State) (n : Nat) : (s.bump F.CHIP_CLAMP_LOG_TOTAL_COUNT n).rd k = s.rd k :=
    State.rd_bump_other s F.CHIP_CLAMP_LOG_TOTAL_COUNT n (Ne.symm h6)
  have e7 (s : State) (l : SMap ClampEntry) : ({ s with clampLog := l } : State).rd k = s.rd k := rfl
  rw [e6, e5, e7, e4, e3, e2, e1]

end Sys2Proof.Machine
end

