-- ==== Sys2Proof/WellFormed.lean ====
section
/-! DEFINITION. Which terms are commands that the part can receive: operands that the type alone does not confine. -/

namespace Sys2Proof

/-- Bytes of a BAR4 window of the largest size (R383). -/
abbrev bar4Max : Nat := 8 * 2 ^ 30

/-- The word is one of its cell's (R319, R346). -/
def CellWord.wellFormed (w : CellWord) : Bool := w.word.toNat < 2064

/-- What the reads of a line met is met in words that exist. -/
def Upset.wellFormed : Upset → Bool
  | .sram _ w _ | .odEntry _ _ w => w.wellFormed
  | .dram .. | .dramLink _ => true

/-- The command's operands lie in the ranges that the rows of the table give them. -/
def Instr.wellFormed : Instr → Bool
  | .registerWrite _ bar2 off _ => off.toNat % 4 == 0 && (!bar2 || off.toNat < 0x100000)
  | .bar4Read off len _ => 0 < len && off + len ≤ bar4Max
  | .bar4Write off bytes => !bytes.isEmpty && off + bytes.length ≤ bar4Max
  | .bar4Resize size => 8 ≤ size.toNat && size.toNat ≤ 13
  | .queueCfgWrite _ reg _ => reg.toNat ≤ 2
  | .eventRingCfgWrite _ reg _ => reg.toNat ≤ 3
  | .lineStart _ _ _ meet => meet.upsets.all Upset.wellFormed
  | .histReadDone _ back line strip res =>
    (back == 1 || back == 2) && line.toNat < 8640 && strip.toNat < 120 &&
      (match res with | .lengthUpset w => w.wellFormed | _ => true)
  | .laneLock lane | .laneLockTimeout lane | .laneTestDone lane _ | .linkLoad lane | .nackSample lane _ => lane.toNat < 48
  | .domainGated d | .domainPllLock d => d.toNat ≤ 10
  | .domainPllTimeout d => d.toNat ≤ 10
  | .maintActivityDone a _ _ => a.toNat ≤ 6 && a.toNat != 1
  | .odTableWrite off _ => 0x170000 ≤ off.toNat && off.toNat < 0x1A0000 && off.toNat % 4 == 0
  | .scratchpadWrite off _ m =>
    0x400000 ≤ off.toNat && off.toNat < 0x800000 && off.toNat % 4 == 0 &&
      (match m with | .conflict n => 1 ≤ n && n ≤ 3 | _ => true)
  | .checkpointDone st => st.toNat ≤ 2
  | .canaryRegionTest t => (t.failing.all fun r => r.toNat ≤ 257) && t.poisoned.all fun w => w.toNat < 2064
  | .regParityError off => off.toNat % 4 == 0
  | .configRequest _ off _ => off.toNat % 4 == 0
  | .l1Entry sub => sub.toNat ≤ 2
  | _ => true

end Sys2Proof
end

