-- ==== Sys2Proof/Tests/Slice0.lean ====
section
/-! SUPPORT. Tests: terms that are not well-formed, and for every statement a state and operands that meet its premises
together, clause by clause, with some of what the command then does. Expected results are worked out from the spec's text. -/

namespace Sys2Proof.Tests

open Sys2Proof.Machine

set_option maxRecDepth 20000

/-- The part after start-up with every domain ON, STAGE READY and Foreman running. -/
def up : State :=
  { State.reset with
    regs := [(0x12C, 4#32), (0x1108, 0x2AAAAA#32), (0x111C, 0#32), (0x2100, 5#32), (0x10104, 0x10000#32)],
    boot := { Boot.init with step := .idle, foreman := true } }

/-- The outcome is a next state that passes a check. -/
def ok (o : Out1) (p : State → Bool) : Bool :=
  match o with
  | .next t => p t
  | _ => false

theorem test_up_runs : up.canonical = true ∧ up.runs = true ∧ up.hostUp = true ∧ up.memReady = true ∧ up.serves 0 = true := by
  decide

/-! ### Terms that are not well-formed -/

theorem test_wf_register_offset : (Instr.registerWrite .pcie false 0x10002 0).wellFormed = false := by decide
theorem test_wf_bar2_offset : (Instr.registerWrite .pcie true 0x100000 0).wellFormed = false := by decide
theorem test_wf_bar4_read_empty : (Instr.bar4Read 0 0 none).wellFormed = false := by decide
theorem test_wf_bar4_read_end : (Instr.bar4Read (8 * 2 ^ 30) 1 none).wellFormed = false := by decide
theorem test_wf_bar4_write_empty : (Instr.bar4Write 0 []).wellFormed = false := by decide
theorem test_wf_bar4_write_end : (Instr.bar4Write (8 * 2 ^ 30 - 1) [none, none]).wellFormed = false := by decide
theorem test_wf_bar4_size : (Instr.bar4Resize 7).wellFormed = false ∧ (Instr.bar4Resize 14).wellFormed = false := by decide
theorem test_wf_queue_register : (Instr.queueCfgWrite 0 3 0).wellFormed = false := by decide
theorem test_wf_ring_register : (Instr.eventRingCfgWrite 0 4 0).wellFormed = false := by decide
theorem test_wf_history_back : (Instr.histReadDone .dawn 3 0 0 .intact).wellFormed = false := by decide
theorem test_wf_history_line : (Instr.histReadDone .dawn 1 8640 0 .intact).wellFormed = false := by decide
theorem test_wf_history_strip : (Instr.histReadDone .dawn 1 0 120 .intact).wellFormed = false := by decide
theorem test_wf_lane : (Instr.laneLock 48).wellFormed = false := by decide
theorem test_wf_domain : (Instr.domainGated 11).wellFormed = false ∧ (Instr.domainPllTimeout 11).wellFormed = false := by decide
theorem test_wf_activity : (Instr.maintActivityDone 1 .ok ⟨[], [], 0, 0, []⟩).wellFormed = false := by decide
theorem test_wf_od_window : (Instr.odTableWrite 0x1A0000 0).wellFormed = false ∧ (Instr.odTableWrite 0x170002 0).wellFormed = false := by
  decide
theorem test_wf_scratchpad : (Instr.scratchpadWrite 0x3FFFFC 0 .free).wellFormed = false := by decide
theorem test_wf_scratchpad_cycles : (Instr.scratchpadWrite 0x400000 0 (.conflict 4)).wellFormed = false := by decide
theorem test_wf_checkpoint : (Instr.checkpointDone 3).wellFormed = false := by decide
theorem test_wf_canary_row : (Instr.canaryRegionTest ⟨[258], []⟩).wellFormed = false := by decide
theorem test_wf_parity_offset : (Instr.regParityError 0x11).wellFormed = false := by decide
theorem test_wf_config_offset : (Instr.configRequest false 2 0).wellFormed = false := by decide
theorem test_wf_l1 : (Instr.l1Entry 3).wellFormed = false := by decide
theorem test_wf_largest : (Instr.bar4Read (8 * 2 ^ 30 - 1) 1 none).wellFormed = true ∧ (Instr.laneLock 47).wellFormed = true := by
  decide

/-! ### The queue of commands, registers -/

theorem witness_idle : up.pending = [] ∧ (match step up with | .next t => t.keepCycles == 1 | _ => false) = true := by decide

theorem witness_idle_cold : ({ up with boot := { up.boot with step := .cold } } : State).runs = false := by decide

theorem test_step_runs_front :
    ok (step { up with pending := [.d3hotEntry, .d0Return] }) (fun t => t.pending == [.d0Return] && t.pcie.d3hot) = true := by
  decide

/-- HeaderAndStatusCommandsAct: SCAN's page, and PWR's. -/
theorem witness_header : pageUsed 0x20 = true ∧ up.serves (0x20 * 0x1000) = true ∧ pageUsed 1 = true ∧
    up.serves (1 * 0x1000) = true ∧ up.serves (0x20 * 0x1000 + 0x0C) = true := by decide

theorem test_clamp_clr :
    ok (exec (.clampClr 0x20) (up.wr 0x20024 7#32)) (fun t => t.rd 0x20024 == 0 && t.rd 0x1108 == 0x2AAAAA#32) = true := by decide
theorem test_err_clr : ok (exec (.errClr 0x20) (up.wr 0x2001C 7#32)) (fun t => t.rd 0x2001C == 0) = true := by decide
theorem test_int_force : ok (exec (.intForce 0x20 0xFFFFFFFF) up) (fun t => t.rd 0x2000C == BitVec.ofNat 32 (intBits 0x20)) = true := by
  decide
theorem test_int_status_clear :
    ok (exec (.registerWrite .pcie false 0x2000C 1) (up.wr 0x2000C 3#32)) (fun t => t.rd 0x2000C == 2) = true := by decide

/-- RegisterWritesFollowTheirClass: SCAN.V_TOTAL_MIN is staged; page 0x99 is reserved. -/
theorem witness_staged : hasAcc R.SCAN_V_TOTAL selStaged = true ∧ hasAcc R.SCAN_V_TOTAL selNow = false ∧
    hasAcc R.SCAN_V_TOTAL (· == .rw1c) = false ∧ up.serves R.SCAN_V_TOTAL = true ∧
    (up.commandWrite .pcie R.SCAN_V_TOTAL 0).isNone = true ∧ pageUsed (R.SCAN_V_TOTAL / 0x1000) = true ∧
    R.SCAN_V_TOTAL % 0x1000 ≠ 0x04 ∧ R.SCAN_V_TOTAL % 0x1000 ≠ 0x14 := by decide
theorem witness_reserved_page : pageUsed 0x99 = false ∧ up.serves 0 = true := by decide
theorem test_reserved_page : ok (exec (.registerWrite .pcie false 0x99100 0xFFFFFFFF) up) (fun t => t.regs == up.regs) = true := by
  decide
theorem test_gate_force :
    up.serves R.GATE_CTRL = true ∧ ok (exec (.gateForceWrite 0x20#32) up) (fun t => t.fld F.GATE_CTRL_FORCE == 2) = true ∧
    ok (exec (.gateForceWrite 0x30#32) up) (fun t => t.fld F.GATE_CTRL_FORCE == 0) = true := by decide

/-- UnservedAndMalformedAccesses: before READY, in FATAL, and with the block's domain not ON. -/
theorem witness_unserved : up.domOn dHOST = true ∧ (up.wr 0x12C 3#32).memReady = false ∧
    (up.setFld F.CHIP_STATE_FATAL 1).fatal = true ∧ up.isolated R.CMP_CTX_DROP = false ∧
    (up.setDom dCMP 0).domOn (offDomain R.CMP_CTX_DROP) = false ∧ (up.setDom dCMP 0).memReady = true := by decide
theorem test_malformed :
    ok (exec (.malformedBar0Access true) up) (fun t => t.fld F.PCIEX_CA_COUNT_COUNT == 1 && t.sent.head? == some .completerAbort) = true := by
  decide
theorem test_down_access :
    ok (exec (.ctxDrop 0) (up.setDom dCMP 0)) (fun t => t.fld F.PCIEX_DOWN_ACCESS_COUNT == 1) = true := by decide

/-! ### Surface space -/

/-- Page 0 is valid, local, on frame 5; page 7 is protected, on frame 6. -/
def mapped : State := (up.setEntry 0 0xA00001#64).setEntry 7 0xC00005#64

theorem witness_page_entry : up.serves 0x800000 = true ∧ entryValid (up.entry 0xFFFFF) = false ∧
    up.entryLegal (up.combinedEntry 0 0x200001#32 0) = true ∧ up.entryLegal (up.combinedEntry 0 0x9#32 1#32) = false ∧
    entryValid (mapped.entry 0) = true ∧ mapped.serves 0x800000 = true := by decide

theorem test_entry_halves :
    ok (exec (.pageEntryWrite 0xFFFFF (.lower 0x200001)) up) (fun t => ok (exec (.pageEntryWrite 0xFFFFF (.upper 0)) t)
      fun u => u.entry 0xFFFFF == 0x200001#64 && t.entry 0xFFFFF == 0) = true := by decide
theorem test_entry_staged :
    ok (exec (.pageEntryWrite 0 (.both 0x200001)) mapped) (fun t => t.entry 0 == 0xA00001#64) = true := by decide

/-- Bar4AccessesAct: frame 0 is plain, frame 6 protected; the first and last sizes. -/
theorem witness_bar4 : mapped.domOn dHOST = true ∧ mapped.memReady = true ∧ mapped.pcie.d3hot = false ∧ mapped.dramUp = true ∧
    mapped.fatal = false ∧ mapped.inBar4 (2 ^ 28 - 1) 1 = true ∧ mapped.inBar4 (2 ^ 28) 1 = false := by decide
theorem test_bar4_write_read :
    ok (exec (.bar4Write 3 [some 7, none, some 9]) mapped) (fun t => ok (exec (.bar4Read 2 4 none) t)
      fun u => u.sent.head? == some (.reply [0, 7, 0, 9])) = true := by decide
theorem test_bar4_protected :
    ok (exec (.bar4Write 0xC00000 [some 7]) mapped) (fun t => t.dramByte 0xC00000 == 7 && ok (exec (.bar4Read 0xC00000 1 none) t)
      fun u => u.sent.head? == some (.reply [0]) && u.fld F.SURF_PROT_READS_COUNT == 1) = true := by decide
theorem test_bar4_resize :
    ok (exec (.bar4Resize 13) (up.setFld F.SURF_BAR4_WINDOW_BASE_FRAME 4095)) (fun t => t.fld F.PCIEX_BAR4_SIZE_SIZE == 5 &&
      t.fld F.SURF_BAR4_WINDOW_BASE_FRAME == 0) = true := by decide
theorem test_bar4_resize_smallest :
    ok (exec (.bar4Resize 8) (up.setFld F.SURF_BAR4_WINDOW_BASE_FRAME 129)) (fun t => t.fld F.SURF_BAR4_WINDOW_BASE_FRAME == 128) = true := by
  decide

/-- PageAndCacheCommandsAct: each clause. -/
def full256 : State := { mapped with surf := { mapped.surf with retires := List.replicate 256 ⟨0, 0, 0, [], [], 0⟩ } }
theorem witness_retire : mapped.serves R.SURF_RETIRE_CMD = true ∧ mapped.domOn dSTORE = true ∧ mapped.surf.retires.length < 256 ∧
    full256.serves R.SURF_RETIRE_CMD = true ∧ 256 ≤ full256.surf.retires.length := by decide
theorem test_retire :
    ok (exec (.retireCmd 0x00100007#32) mapped) (fun t => t.fld F.SURF_RETIRE_STATUS_RESULT == 0 && entryValid (t.entry 0) &&
      t.surf.retires.length == b2n (entryRetiring (t.entry 7) || t.entry 7 == 0)) = true := by decide
theorem test_retire_full : ok (exec (.retireCmd 0x00100007#32) full256) (fun t => t.fld F.SURF_RETIRE_STATUS_RESULT == 2) = true := by
  decide
theorem witness_rcache : up.serves R.SURF_RCACHE_INVAL = true := by decide
theorem test_rcache_all :
    ok (exec (.rcacheInval 0x80000000#32) { up with surf := { up.surf with fills := [⟨3, 1, [], false⟩] } })
      (fun t => t.surf.fills == [⟨3, 1, [], true⟩] && t.surf.cache == []) = true := by decide
def filling (d : Bool) : State := { up with surf := { up.surf with fills := [⟨0xFFFFF, 511, [], d⟩] } }
theorem witness_fill : (filling true).surf.fills.find? (fun f => f.page == (0xFFFFF#20).toNat && f.line == (511#9).toNat) =
    some ⟨0xFFFFF, 511, [], true⟩ ∧ ((filling false).setFld F.SURF_CTRL_RCACHE_EN 1).bit F.SURF_CTRL_RCACHE_EN = true := by decide
theorem test_fill_discarded : ok (exec (.remoteFillDone 0xFFFFF 511 (.data [1])) (filling true)) (fun t => t.surf.fills == [] && t.surf.cache == []) = true := by
  decide
def zeroing : State := { up with dram := [(0x1FFFFF, 1), (0x200000, 2), (0x3FFFFF, 3), (0x400000, 4)], surf := { up.surf with zeroing := [1] } }
theorem witness_zero_fill : (1#12).toNat ∈ zeroing.surf.zeroing := by decide
theorem test_zero_fill : ok (exec (.zeroFillDone 1) zeroing) (fun t => t.dram == [(0x1FFFFF, 1), (0x400000, 4)] && t.surf.zeroing == []) = true := by
  decide

/-! ### Queues and rings -/

/-- Queue 8191 enabled with 16 entries at 1 MiB, in state `st`. -/
def queued (st : Nat) : State :=
  ((((up.wr (0x100000 + 0x20 * 8191) 0x100000#32).setFld (F.QCTX_CFG_ENABLE 8191) 1).setFld (F.QCTX_CFG_SIZE_LOG2 8191) 4).setQState 8191 st)

theorem witness_queue_cfg : up.serves 0x100000 = true ∧ up.qEnabled 8191 = false ∧ bitOf 0xC0000005#32 31 = true ∧
    (queued 0).serves 0x100000 = true ∧ (queued 0).qEnabled 8191 = true := by decide
theorem test_queue_enable :
    ok (exec (.queueCfgWrite 8191 2 0x803F0003#32) up) (fun t => t.qState 8191 == qPARKED && t.qRing 8191 == 63 &&
      t.fld (F.QCTX_CFG_SIZE_LOG2 8191) == 4) = true := by decide
theorem test_queue_base_kept :
    ok (exec (.queueCfgWrite 8191 0 0x200000#32) (queued qPARKED)) (fun t => t.rd (0x100000 + 0x20 * 8191) == 0x100000#32 &&
      t.fld (hdrFld 0x11 0x24 0 32) == 1) = true := by decide
theorem test_queue_base : ok (exec (.queueCfgWrite 0 0 0x200FFF#32) up) (fun t => t.rd 0x100000 == 0x200000#32) = true := by decide

theorem witness_doorbell : (queued qPARKED).fld (F.QCTX_CFG_SIZE_LOG2 8191) ≤ 16 ∧ (queued qPARKED).qState 8191 = qPARKED ∧
    ((queued qPARKED).queue 8191).reading = false := by decide
theorem test_doorbell :
    ok (exec (.doorbell 8191 0x11#32) (queued qPARKED)) (fun t => t.fld (F.QCTX_PTRS_TAIL 8191) == 1 && t.qState 8191 == qACTIVE &&
      (t.queue 8191).reading && t.sent.head? == some (.hostRead 0x100000 32)) = true := by decide
theorem test_doorbell_dropped : ok (exec (.doorbell 0 1) up) (fun t => t.fld F.QMGR_DB_DROPPED_COUNT == 1) = true := by decide
/-- The queue reads its descriptor. -/
def reading (noted : Bool) : State := (queued qACTIVE).setQueue 8191 { QueueHid.init with reading := true, noted := noted }
theorem test_doorbell_noted : ok (exec (.doorbell 8191 2) (reading false)) (fun t => (t.queue 8191).noted) = true := by decide

/-- 32 bytes of a descriptor with a control word of which only the last byte is given. -/
def descBytes (b : Byte) : List Byte := List.replicate 31 0 ++ [b]
theorem witness_desc_read : ((reading true).queue 8191).stale = 0 ∧ ((reading false).queue 8191).reading = true ∧
    (descOf (descBytes 0)).own = false ∧ (descOf (descBytes 0x80)).own = true ∧ ((reading true).queue 8191).noted = true := by decide
theorem test_desc_parks : ok (exec (.descFetchDone 8191 (.data (descBytes 0))) (reading false)) (fun t => t.qState 8191 == qPARKED) = true := by
  decide
theorem test_desc_again : ok (exec (.descFetchDone 8191 (.data (descBytes 0))) (reading true)) (fun t => (t.queue 8191).reading) = true := by
  decide
theorem test_desc_own :
    ok (exec (.descFetchDone 8191 (.data (descBytes 0x80))) (reading false)) (fun t => (t.cage? 0).isSome && (t.queue 8191).incage) = true := by
  decide
/-- The queue holds a descriptor, with two reads ahead of it outstanding, or an older read. -/
def ahead (stale more : Nat) : State := (queued qACTIVE).setQueue 8191 { QueueHid.init with stale := stale, more := more }
theorem witness_desc_ahead : 0 < ((ahead 1 0).queue 8191).stale ∧ ((ahead 0 2).queue 8191).stale = 0 ∧
    ((ahead 0 2).queue 8191).reading = false ∧ ((ahead 0 2).queue 8191).more ≠ 0 ∧ ((ahead 0 0).queue 8191).more = 0 ∧
    (descOf (descBytes 0x90)).inTxn = false ∧ (descOf ((descBytes 0x80).set 29 2)).inTxn = true := by decide
theorem test_desc_ahead :
    ok (exec (.descFetchDone 8191 (.data (descBytes 0x80))) (ahead 0 2)) (fun t => (t.queue 8191).ahead.length == 1 && (t.queue 8191).more == 1) = true ∧
    ok (exec (.descFetchDone 8191 (.data (descBytes 0))) (ahead 0 2)) (fun t => (t.queue 8191).ended && (t.queue 8191).stale == 1) = true := by decide
theorem test_desc_timeout :
    ok (exec (.descFetchDone 8191 .timeout) (reading false)) (fun t => t.qState 8191 == qERROR && t.fld (F.QCTX_STATE_CAUSE 8191) == 2) = true := by
  decide

/-- A descriptor in cage 31, of queue 8191. -/
def caged (d : Desc) (p : CagePhase) : State :=
  ((queued qACTIVE).setQueue 8191 { QueueHid.init with desc := some d, incage := true, granted := true }).setCage 31
    ⟨.queue 8191, d, p, d.src.toNat, d.dst.toNat, d.len.toNat, 0, none, [], [], none, 0⟩
/-- A descriptor by type, flags from bit 4 on, SRC, DST, LENGTH and PARAM. -/
def mk (ty flags : Nat) (src dst : DWord) (len param : Word) : Desc :=
  ⟨src, dst, len, param, 0, BitVec.ofNat 32 (2 ^ 31 + flags * 16 + ty)⟩
def cg (d : Desc) (p : CagePhase) : Cage := ⟨.queue 8191, d, p, d.src.toNat, d.dst.toNat, d.len.toNat, 0, none, [], [], none, 0⟩

theorem witness_dataless :
    (caged (mk 0 0 0 0 0 0) .start).cage? 31 = some (cg (mk 0 0 0 0 0 0) .start) ∧ (mk 0 0 0 0 0 0).ty = 0 ∧
    (mk 6 0 0 0 0 0).ty = 6 ∧ (mk 6 4 0 0 0 0).srcHost = true ∧ (mk 6 8 0 64 0 0).dstHost = true ∧
    (mk 6 64 0 0 0 0).tflags % 2 = 1 ∧ (mk 6 8 0 64 0 0).tflags % 2 = 0 ∧ (mk 1 0 0 0 0 0).ty = 1 ∧
    (mk 1 12 0 0 0 0).srcHost = true ∧ (mk 1 12 0 0 0 0).dstHost = true ∧ (mk 1 0 0 0 0 0).tflags % 8 < 5 ∧
    (mk 1 0 0 0 0 0).srcFixed = false ∧ (mk 1 0 0 0 0 0).dstFixed = false := by decide
theorem test_nop : ok (exec (.descNop 31) (caged (mk 0 0 0 0 5 0) .start)) (fun t => t.cage? 31 == some { cg (mk 0 0 0 0 5 0) .start with phase := .done stOK 0 }) = true := by
  decide
theorem test_nop_refused :
    ok (exec (.descNop 31) (caged (mk 0 4 0 0 5 0) .start)) (fun t => t.cage? 31 == some { cg (mk 0 4 0 0 5 0) .start with phase := .done stREFUSED 5 }) = true := by
  decide
theorem test_fence :
    ok (exec (.descFence 31) (caged (mk 6 8 0 64 0 0xABCD) .start)) (fun t => t.sent.head? == some (.hostWrite 64 [0xCD, 0xAB, 0, 0] false false)) = true := by
  decide
theorem test_fence_waits : ok (exec (.descFence 31) (caged (mk 6 64 0 0 0 0) .start)) (fun t => (t.cage? 31).map (·.phase) == some .waitLatch) = true := by
  decide
theorem test_copy_zero :
    ok (exec (.descCopy 31) (caged (mk 1 0 0 0 0 0) .start)) (fun t => (t.cage? 31).map (·.phase) == some (.done stOKZERO 0)) = true := by
  decide

/-- Page 7 is protected; page 0 on frame 5 and page 1 on frame 4 are plain. -/
def onPages (d : Desc) (p : CagePhase) : State := (((caged d p).setEntry 0 0xA00001#64).setEntry 1 0x800001#64).setEntry 7 0xC00005#64
def protCopy : Desc := mk 1 0 0xE00000#64 0 4 0
theorem witness_protected_copy : (onPages protCopy .start).cage? 31 = some (cg protCopy .start) ∧ protCopy.ty = 1 ∧
    protCopy.tflags % 8 < 5 ∧ protCopy.len ≠ 0 ∧ protCopy.srcHost = false ∧
    (onPages protCopy .start).srcProtected (cg protCopy .start).src protCopy.len.toNat = true ∧
    (onPages protCopy .start).dstAllProtected (cg protCopy .start).dst protCopy.len.toNat = false := by decide
theorem test_protected_copy :
    ok (exec (.descCopy 31) (onPages protCopy .start)) (fun t => (t.cage? 31).map (·.phase) == some (.done stPROTECTED 4)) = true := by decide
def plainCopy : Desc := mk 1 0 0x200000#64 0xFFE#64 4 0
theorem witness_burst : (onPages plainCopy .bursts).cage? 31 = some (cg plainCopy .bursts) ∧
    (onPages plainCopy .bursts).translate (cg plainCopy .bursts).src = .dram 0x800000 false ∧
    (onPages plainCopy .bursts).translate (cg plainCopy .bursts).dst = .dram 0xA00FFE false ∧
    burstLen (cg plainCopy .bursts) = 2 := by decide
theorem test_burst :
    ok (exec (.hoistBurstDone 31 (.data []) ⟨0, 0⟩) { onPages plainCopy .bursts with dram := [(0x800000, 1), (0x800001, 2), (0x800002, 3)] })
      (fun t => t.dramRead 0xA00FFE 3 == [1, 2, 0] && (t.cage? 31).map (·.left) == some 2) = true := by decide

/-- Fixed sources and destinations: units of 4 bytes, of which a length of 3 fills none. -/
def fixedCopy (len : Word) : Desc := mk 1 1 0 0x200000#64 len 0
theorem witness_copy_forms : (fixedCopy 3).ty = 1 ∧ (fixedCopy 3).srcFixed = true ∧ fixedUnit (fixedCopy 3) = 4 ∧
    (fixedCopy 3).tflags % 8 < 5 ∧ (cg (fixedCopy 3) .start).src % 4 = 0 ∧ (fixedCopy 3).len.toNat - 3 % 4 = 0 ∧
    (fixedCopy 9).len.toNat - 9 % 4 ≠ 0 ∧ (mk 1 1 2 0x200000#64 9 0).src.toNat % 4 ≠ 0 ∧
    5 ≤ (mk 1 320 0 0 9 0).tflags % 8 ∧ plainCopy.srcFixed = false ∧ plainCopy.dstFixed = false ∧ plainCopy.len ≠ 0 ∧
    (onPages plainCopy .start).srcProtected (cg plainCopy .start).src 4 = false := by decide
/-- The cage's burst comes, from the host's address or from none, to page 1; another phase has no burst. -/
def hostCopy : Desc := mk 1 4 0x5000#64 0x200000#64 4 0
theorem witness_burst_forms : (onPages hostCopy .bursts).burstSrc (cg hostCopy .bursts) = .host 0x5000 ∧ (cg hostCopy .bursts).unit = none ∧
    (onPages hostCopy .bursts).burstDst (cg hostCopy .bursts) = .dram 0x800000 false ∧
    (onPages plainCopy .bursts).moves 31 (cg plainCopy .bursts) = true ∧
    (onPages plainCopy .bursts).burstTurn 31 (cg plainCopy .bursts) = true ∧
    (onPages plainCopy .start).moves 31 (cg plainCopy .start) = false ∧
    (onPages (mk 1 0 0x600000#64 0 4 0) .bursts).burstSrc (cg (mk 1 0 0x600000#64 0 4 0) .bursts) = .invalid ∧
    (onPages (fixedCopy 9) .bursts).burstSrc (cg (fixedCopy 9) .bursts) = .dram 0xA00000 false ∧
    (onPages (fixedCopy 9) .bursts).burstTurn 31 (cg (fixedCopy 9) .bursts) = true := by decide
theorem test_burst_fixed :
    ok (exec (.hoistBurstDone 31 (.data []) ⟨0, 0⟩) { (onPages (fixedCopy 9) .bursts).setCage 31 { cg (fixedCopy 9) .bursts with left := 8, rest := 1 } with
        dram := [(0xA00000, 1), (0xA00003, 2)] })
      (fun t => t.dramRead 0x800000 8 == [1, 0, 0, 2, 1, 0, 0, 2] && (t.cage? 31).map (·.src) == some 0) = true := by decide
theorem test_burst_host :
    ok (exec (.hoistBurstDone 31 (.data [5, 6, 7]) ⟨2, 0⟩) (onPages hostCopy .bursts)) (fun t => t.dramRead 0x800000 4 == [5, 6, 7, 0] &&
      t.fld F.HOIST_PREEMPTS_COUNT == 2 && (t.cage? 31).map (·.phase) == some (.done stOK 0)) = true := by decide

def doneState : State := caged (mk 0 0 0 0 0 0) (.done stOK 0)
/-- Channel 11 owns the cage. -/
def chanDone : State := up.setCage 3 { cg (mk 1 0 0 0 4 0) (.done stOK 0) with owner := .chan 11 }
theorem witness_transfer : doneState.runs = true ∧ doneState.cage? 31 = some (cg (mk 0 0 0 0 0 0) (.done stOK 0)) ∧
    (cg (mk 0 0 0 0 0 0) (.done stOK 0)).aborts = [] ∧ chanDone.runs = true ∧ (chanDone.cage? 3).isSome = true := by decide
theorem test_transfer :
    ok (exec (.transferComplete 31) doneState) (fun t => t.qHead 8191 == 1 && t.cage? 31 == none && (t.queue 8191).desc == none) = true := by
  decide
theorem witness_home : doneState.cageOf (.queue 8191) = some (31, cg (mk 0 0 0 0 0 0) (.done stOK 0)) ∧
    (cg (mk 0 0 0 0 0 0) (.done stOK 0)).home = none ∧ (queued qACTIVE).cageOf (.queue 8191) = none ∧
    ((queued qACTIVE).queue 8191).desc = none ∧ doneState.qEnabled 8191 = true ∧ doneState.serves R.QMGR_QCMD = true ∧
    doneState.qState 8191 ≠ qERROR := by decide
theorem witness_write_back : doneState.pcie.d3hot = false ∧ (mk 0 0 0 0 0 0).evt = false ∧ stOK < stABORTED ∧
    (doneState.queue 8191).reserved = false ∧ doneState.fld (F.QCTX_CFG_SIZE_LOG2 8191) ≤ 16 := by decide

theorem witness_qcmd : up.serves R.QMGR_QCMD = true ∧ up.qEnabled 0 = false ∧ (queued qERROR).qState 8191 = qERROR ∧
    (queued qACTIVE).qState 8191 ≠ qSTOPPED ∧ (queued qSTOPPED).qState 8191 = qSTOPPED ∧ (queued qACTIVE).qState 8191 ≠ qERROR ∧
    (queued qSTOPPED).cageOf (.queue 8191) = none ∧ ((queued qSTOPPED).queue 8191).desc = none ∧
    ((queued qSTOPPED).queue 8191).heldBy = none := by decide
theorem test_qcmd_refused : ok (exec (.qcmdResume 8191) (queued qACTIVE)) (fun t => t.fld F.QMGR_QCMD_STATUS_RESULT == 2) = true := by decide
theorem test_qcmd_abort : ok (exec (.qcmdAbort 8191) (queued qACTIVE)) (fun t => t.qState 8191 == qSTOPPED) = true := by decide
theorem test_qcmd_resume : ok (exec (.qcmdResume 8191) (queued qSTOPPED)) (fun t => t.qState 8191 == qACTIVE) = true := by decide
theorem test_qcmd_reset : ok (exec (.qcmdReset 8191) (queued qERROR)) (fun t => t.qState 8191 == qPARKED) = true := by decide

theorem witness_channel : up.serves (R.HOIST_CH_SH_CTRL 11) = true ∧ up.serves (R.HOIST_CH_SH_CTRL 15) = true ∧ bitOf 1#32 0 = true ∧
    up.bit (F.HOIST_CH_STATUS_ARMED 11) = false ∧ up.bit (F.HOIST_CH_STATUS_ACTIVE 11) = false ∧
    (up.setFld (F.HOIST_CH_STATUS_ACTIVE 11) 1).bit (F.HOIST_CH_STATUS_ACTIVE 11) = true ∧ up.serves R.HOIST_CH_ABORT = true ∧
    up.domOn dFORE = true := by decide
theorem test_channel_go : ok (exec (.chGo .pcie 11 1) up) (fun t => (t.cage? 0).isSome && t.bit (F.HOIST_CH_STATUS_ACTIVE 11)) = true := by decide
theorem test_channel_of_foreman : ok (exec (.chGo .pcie 12 1) up) (fun t => (t.cage? 0).isNone) = true := by decide

/-- Ring 63 enabled with 16 entries. -/
def ringed : State := (up.setFld (F.RING_CFG_ENABLE 63) 1).setFld (F.RING_CFG_SIZE_LOG2 63) 4
theorem witness_ring : up.serves 0x140000 = true ∧ up.bit (F.RING_CFG_ENABLE 63) = false ∧ ringed.bit (F.RING_CFG_ENABLE 63) = true ∧
    (0x1000#32 : Word) ≠ ringed.rd (0x140000 + 0x20 * 63) := by decide
theorem test_ring_enable : ok (exec (.eventRingCfgWrite 63 2 0x80000011#32) up) (fun t => t.fld (F.RING_CFG_SIZE_LOG2 63) == 16) = true := by decide
theorem test_ring_head :
    ok (exec (.eventRingHeadWrite 63 15) ringed) (fun t => t.fld (F.RING_HEAD_HEAD 63) == 15) = true ∧
    ok (exec (.eventRingHeadWrite 63 16) ringed) (fun t => t.fld (F.RING_HEAD_HEAD 63) == 0) = true := by decide
def timed : State := { ringed with rings := [(63, { RingHid.init with unsig := 1, timer := true })] }
theorem witness_holdoff : (timed.ring 63).timer = true ∧ timed.hostUp = true := by decide
theorem test_holdoff : ok (exec (.holdoffExpire 63) timed) (fun t => (t.ring 63).unsig == 0 && !(t.ring 63).timer) = true := by decide

/-- MSI-X enabled with an unmasked vector 5; MSI enabled alone. -/
def msix : State := { up with pcie := { up.pcie with cfg := [(0xB0, 0x80000011#32)], msix := [(20, 0x1000#32), (22, 0x55#32), (23, 0#32)] } }
def msi : State := { up with pcie := { up.pcie with cfg := [(0x50, 0x00010005#32), (0x54, 0x2000#32)] } }
theorem witness_signal : msix.msixEnabled = true ∧ bitOf (msix.cfg 0xB0) 30 = false ∧ bitOf (msix.msixWord (4 * 5 + 3)) 0 = false ∧
    msi.msixEnabled = false ∧ msi.msiEnabled = true ∧ bitOf (msi.cfg 0x60) (5 % msi.msiCount) = false ∧ up.msixEnabled = false ∧
    up.msiEnabled = false ∧ up.pcie.d3hot = false := by decide
theorem test_signal : (msix.signal 5).sent.head? = some (.hostWrite 0x1000 [0x55, 0, 0, 0] false false) := by decide

/-! ### Transactions -/

/-- Slot `n` is OPEN with sequence number 3, and holds `ws`. -/
def opened (n : Nat) (ws : List StagedWrite) : State :=
  (((up.setFld (F.SLOT_STATE_STATE n) slOPEN).setFld (F.SLOT_STATE_SEQ n) 3).setSlot n { SlotHid.init with writes := ws })
/-- The token of slot 63 of `opened`. -/
def tok63 : Nat := 3 * 64 + 63
/-- Every slot is OPEN. -/
def noFree : State := up.each (List.range 64) fun s n => s.setFld (F.SLOT_STATE_STATE n) slOPEN
theorem witness_open : up.serves R.TXN_OPEN = true ∧ (opened 0 []).fld (F.SLOT_STATE_STATE 1) = slFREE ∧
    (opened 0 []).fld (F.SLOT_STATE_STATE 0) ≠ slFREE := by decide
theorem witness_open_last : (∀ m, m < 63 → (up.each (List.range 63) fun s n => s.setFld (F.SLOT_STATE_STATE n) slOPEN).fld
    (F.SLOT_STATE_STATE m) ≠ slFREE) ∧ ∀ n, n < 64 → noFree.fld (F.SLOT_STATE_STATE n) ≠ slFREE := by decide
theorem test_open : ok (exec .txnOpen (opened 0 [])) (fun t => t.sent.head? == some (.reply (leBytes 4 0x80000041))) = true := by decide
theorem test_open_none : ok (exec .txnOpen noFree) (fun t => t.sent.head? == some (.reply [0, 0, 0, 0])) = true := by decide

theorem witness_stage : up.serves (R.SLOT_STAGE_DATA 63) = true ∧ up.fld (F.SLOT_STATE_STATE 63) ≠ slOPEN ∧
    (opened 63 []).fld (F.SLOT_STATE_STATE 63) = slOPEN ∧ (opened 63 []).fld (F.SLOT_WRITES_COUNT 63) < 4096 ∧
    contentOf 0 ≠ .persist ∧
    contentOf (((opened 63 []).setFld (F.SLOT_STAGE_ADDR_OFFSET 63) 0x1C0000).fld (F.SLOT_STAGE_ADDR_OFFSET 63) / 4 * 4) = .persist ∧
    ((opened 63 []).setFld (F.SLOT_WRITES_COUNT 63) 4096).fld (F.SLOT_WRITES_COUNT 63) = 4096 := by decide
theorem test_stage : ok (exec (.stageWrite 63 (some 0x20104#32) 5) (opened 63 [])) (fun t => (t.slot 63).writes == [⟨0x20104, 5⟩]) = true := by decide
theorem test_stage_persist :
    ok (exec (.stageWrite 63 (some 0x1C0000#32) 5) (opened 63 [])) (fun t => t.fld (F.SLOT_STATE_STATE 63) == slFAILED &&
      t.fld (F.SLOT_STATE_REASON 63) == 3) = true := by decide
theorem test_stage_capacity :
    ok (exec (.stageWrite 63 none 5) ((opened 63 []).setFld (F.SLOT_WRITES_COUNT 63) 4096)) (fun t =>
      t.fld (F.SLOT_STATE_STATE 63) == slFAILED && t.fld (F.SLOT_STATE_REASON 63) == 4) = true := by decide

/-- A COMMIT of slot 63 in mode `m`, with flags from bit 21 on. -/
def commitWord (m flags : Nat) : Word := BitVec.ofNat 32 (flags * 2 ^ 21 + m * 2 ^ 19 + 2 ^ 16 + tok63)
theorem witness_commit : (opened 63 []).serves (R.SLOT_CMD 63) = true ∧ bitsOf (commitWord 0 0) 16 3 = 1 ∧
    bitsOf (commitWord 0 0) 0 16 = (opened 63 []).token 63 ∧ (opened 63 []).fld (F.SLOT_STATE_STATE 63) = slOPEN ∧
    bitsOf (commitWord 2 0) 19 2 ≠ 3 ∧ (opened 63 []).contentFits 63 0 = true ∧ (opened 63 []).domainDown 63 = false ∧
    sdiff ((opened 63 []).rd (R.SLOT_TARGET 63)) ((opened 63 []).rd R.SCAN_FRAME_SEQ) ≤ 65535 ∧
    (opened 63 []).instants.length < 16 ∧ bitOf (commitWord 0 0) 21 = false := by decide
theorem test_commit :
    ok (exec (.txnCommit 63 (commitWord 0 0)) (opened 63 [])) (fun t => t.fld (F.SLOT_STATE_STATE 63) == slMERGING && t.txn.merging == [63]) = true := by
  decide
theorem test_commit_stale :
    ok (exec (.txnCommit 63 (commitWord 0 0 + 1)) (opened 63 [])) (fun t => t.fld (F.SLOT_STATE_RESULT 63) == 1) = true := by decide
theorem test_commit_mode :
    ok (exec (.txnCommit 63 (commitWord 3 0)) (opened 63 [])) (fun t => t.fld (F.SLOT_STATE_RESULT 63) == 2) = true := by decide
theorem test_commit_domain :
    ok (exec (.txnCommit 63 (commitWord 0 0)) ((opened 63 [⟨R.LINK_CTRL, 0⟩]).setDom dLINK 0)) (fun t =>
      t.fld (F.SLOT_STATE_RESULT 63) == 3) = true := by decide
theorem test_commit_range :
    ok (exec (.txnCommit 63 (commitWord 0 0)) ((opened 63 []).wr (R.SLOT_TARGET 63) 65536)) (fun t =>
      t.fld (F.SLOT_STATE_RESULT 63) == 4) = true ∧
    ok (exec (.txnCommit 63 (commitWord 0 0)) ((opened 63 []).wr (R.SLOT_TARGET 63) 65535)) (fun t =>
      t.fld (F.SLOT_STATE_RESULT 63) == 0) = true := by decide
/-- Sixteen commits wait for sixteen latches. -/
def sixteen : State := { opened 63 [] with txn := { (opened 63 []).txn with
  arrived := List.range 16,
  slots := ((List.range 16).map fun n => (n, { SlotHid.init with instant := some (.latch (BitVec.ofNat 32 (n + 100))) })) } }
theorem witness_instants : 16 ≤ sixteen.instants.length ∧ sixteen.fld (F.SLOT_STATE_STATE 63) ≠ slFAILED ∧
    sixteen.instants.contains (sixteen.arrivalInstant 63 0 false (sixteen.rd (R.SLOT_TARGET 63))).1 = false := by decide
theorem test_commit_instants : ok (exec (.txnCommit 63 (commitWord 0 0)) sixteen) (fun t => t.fld (F.SLOT_STATE_RESULT 63) == 5) = true := by
  decide

def abortWord : Word := BitVec.ofNat 32 (2 * 2 ^ 16 + tok63)
theorem witness_abort : bitsOf abortWord 16 3 = 2 ∧ bitsOf abortWord 0 16 = (opened 63 []).token 63 ∧ (opened 63 []).slotOpen 63 = true ∧
    ((opened 63 []).slot 63).held = [] ∧ ((opened 63 []).slot 63).heldFailed = [] ∧ up.slotOpen 63 = false := by decide
theorem test_abort :
    ok (exec (.txnAbort 63 abortWord) (opened 63 [⟨0x20104, 1⟩])) (fun t => t.fld (F.SLOT_STATE_STATE 63) == slFREE &&
      t.fld F.TXN_ABORTS_COUNT == 1 && t.fld F.TXN_LAST_ABORT_TOKEN == tok63) = true := by decide
theorem test_abort_stale : ok (exec (.txnAbort 63 abortWord) up) (fun t => t.fld (F.SLOT_STATE_RESULT 63) == 1) = true := by decide
def aged : State := (opened 63 []).setSlot 63 { SlotHid.init with age := up.fld F.TXN_EXPIRY_FRAMES }
theorem witness_expire : aged.slotOpen 63 = true ∧ aged.fld F.TXN_EXPIRY_FRAMES ≤ (aged.slot 63).age ∧
    ((opened 63 []).slot 63).age < (opened 63 []).fld F.TXN_EXPIRY_FRAMES := by decide
theorem test_expire : ok (exec (.txnExpire 63) aged) (fun t => t.fld (F.SLOT_STATE_STATE 63) == slFREE && t.fld (F.SLOT_STATE_REASON 63) == 6) = true := by
  decide

/-- Slot 63 is merging, alone. -/
def merging : State :=
  let s := (opened 63 [⟨R.SCAN_COMMIT_GUARD, 3⟩]).setFld (F.SLOT_STATE_STATE 63) slMERGING
  { s with txn := { s.txn with merging := [63] } }
theorem witness_merge : merging.runs = true ∧ merging.txn.merging.head? = some 63 ∧ (merging.slot 63).strictLate = false ∧
    merging.conflictWith 63 (merging.arrivalInstant 63 0 false 0).1 = none ∧ merging.txn.merging.head? ≠ some 0 := by decide
/-- Slot 63 merges strictly for a frame whose latch has passed, and beside it a commit of the same register has arrived. -/
def tooLate : State := (merging.setSlot 63 { merging.slot 63 with strictLate := true }).wr R.SCAN_FRAME_SEQ 9#32
def conflicting : State :=
  let s := (((merging.setFld (F.SLOT_STATE_STATE 0) slPENDING).setFld (F.SLOT_STATE_SEQ 0) 3).setSlot 0
    { SlotHid.init with writes := [⟨R.SCAN_COMMIT_GUARD, 3⟩], instant := some (.latch 9) })
  { s with txn := { s.txn with arrived := [0] } }
theorem witness_merge_ends : (tooLate.arrivalInstant 63 0 false 0).2 = true ∧ (tooLate.slot 63).strictLate = true ∧
    (conflicting.slot 63).strictLate = false ∧ conflicting.conflictWith 63 (conflicting.arrivalInstant 63 0 false 0).1 = some R.SCAN_COMMIT_GUARD := by decide
theorem test_merge_ends :
    ok (exec (.mergeDone 63) tooLate) (fun t => t.fld (F.SLOT_STATE_STATE 63) == slFREE && t.fld (F.SLOT_STATE_REASON 63) == 5) = true ∧
    ok (exec (.mergeDone 63) conflicting) (fun t => t.fld (F.SLOT_STATE_STATE 63) == slFREE && t.fld (F.SLOT_STATE_REASON 63) == 1) = true := by
  decide
theorem test_merge : ok (exec (.mergeDone 63) merging) (fun t => t.fld (F.SLOT_STATE_STATE 63) == slPENDING && t.txn.arrived == [63]) = true := by
  decide
/-- Slot 63 waits for its NOW instant with a write of CHIP.SW_SCRATCH's kind: an RW register of SCAN. -/
def nowPending : State :=
  let s := ((opened 63 []).setFld (F.SLOT_STATE_STATE 63) slPENDING).setSlot 63 { SlotHid.init with mode := 2, instant := some (.now 63) }
  { s with txn := { s.txn with arrived := [63] } }
theorem witness_now : nowPending.fld (F.SLOT_STATE_STATE 63) = slPENDING ∧ (nowPending.slot 63).instant = some (.now 63) ∧
    (nowPending.slot 63).writes = [] ∧ (nowPending.slot 63).held = [] ∧ (nowPending.slot 63).evt = false := by decide
theorem test_now : ok (exec (.nowCommitSwitch 63) nowPending) (fun t => t.fld (F.SLOT_STATE_STATE 63) == slFREE &&
    t.fld F.CHIP_CONFIG_GEN_GEN == 1 && t.fld F.TXN_COMMITS_COUNT == 1) = true := by decide

/-! ### Digests and audits -/

theorem witness_digest : (up.setFld F.CHIP_DIGEST_STATUS_BUSY 1).bit F.CHIP_DIGEST_STATUS_BUSY = true := by decide
/-- An audit waits, and the digests cover the generation. -/
def audited : State := up.setFld F.CHIP_AUDIT_STATUS_BUSY 1
theorem witness_audit : up.serves R.CHIP_AUDIT_CMD = true ∧ ({ up with txn := { up.txn with auditDue := true } } : State).txn.auditDue = true ∧
    audited.bit F.CHIP_AUDIT_STATUS_BUSY = true ∧ audited.bit F.CHIP_DIGEST_STATUS_BUSY = false ∧
    audited.fld F.CHIP_DIGEST_GEN_GEN = audited.fld F.CHIP_CONFIG_GEN_GEN ∧ audited.auditNewest = none ∧
    up.serves R.CHIP_AUDIT_CTRL = true := by decide
theorem test_audit_run : ok (exec .auditRun audited) (fun t => t.fld F.CHIP_AUDIT_STATUS_RESULT == 3 && !t.bit F.CHIP_AUDIT_STATUS_BUSY) = true := by
  decide
theorem test_audit_go : ok (exec (.auditGo 1) up) (fun t => t.bit F.CHIP_AUDIT_STATUS_BUSY) = true := by decide

/-! ### Scan, history, overdrive -/

/-- Scan runs, with the reset timing of 16 active lines of 24: at line `n`, `k` lines into a blanking of `e`. -/
def scanning (n k e : Nat) : State :=
  let s := ((up.setFld F.SCAN_CTRL_RUN 1).setFld F.SCAN_STATUS_RUNNING 1).setFld F.SCAN_LINE_SCAN_LINE n
  { s with scan := { s.scan with k := k, e := e, endFixed := true, started := true, geo := (8, 16) } }
theorem witness_scan_ctrl : up.serves R.SCAN_CTRL = true ∧ bitOf 1#32 0 = true := by decide
theorem witness_line :
    (scanning 0 0 8).bit F.SCAN_STATUS_RUNNING = true ∧
    (scanning 14 0 8).fld F.SCAN_LINE_SCAN_LINE + 1 < (scanning 14 0 8).fld F.SCAN_V_TIMING_V_ACTIVE ∧
    (scanning 23 7 8).fld F.SCAN_V_TIMING_V_ACTIVE ≤ (scanning 23 7 8).fld F.SCAN_LINE_SCAN_LINE ∧
    (scanning 23 7 8).scan.endFixed = true ∧ (scanning 23 7 8).scan.e ≤ (scanning 23 7 8).scan.k + 1 ∧
    (scanning 16 0 8).scan.k + 1 < (scanning 16 0 8).scan.e ∧ (scanning 16 0 8).bit F.SCAN_LINE_EVT_EN = false ∧
    (scanning 16 0 8).scan.k + 1 + (scanning 16 0 8).fld F.SCAN_FETCH_LEAD_LINES < (scanning 16 0 8).scan.e := by decide
theorem test_blanking_line : ok (exec (.lineStart [] [] [] ⟨[], []⟩) (scanning 16 0 8)) (fun t => t.fld F.SCAN_LINE_SCAN_LINE == 17 && t.scan.k == 1) = true := by
  decide
theorem witness_latch : (scanning 15 0 8).lastLine = true ∧ (scanning 15 0 8).bit F.CLK_STATUS_ROOT_LOCK = true ∧
    (scanning 15 0 8).nowWaiting = [] ∧ (scanning 14 0 8).lastLine = false ∧ (scanning 16 0 8).lastLine = false ∧
    nowPending.nowWaiting ≠ [] := by decide
/-- A frame of variable length, up to 30 lines, whose blanking's end is open, at line `k` of it. -/
def stretching (applied : Bool) (k : Nat) : State :=
  let s := ((scanning (16 + k) k 0).setFld F.SCAN_CTRL_VRR 1).setFld F.SCAN_V_TOTAL_MAX 30
  { s with scan := { s.scan with endFixed := false, applied := applied } }
theorem witness_blanking : (stretching true 6).fld F.SCAN_V_TOTAL_MIN - (stretching true 6).fld F.SCAN_V_TIMING_V_ACTIVE = 8 ∧
    (stretching true 6).fld F.SCAN_V_TOTAL_MAX - (stretching true 6).fld F.SCAN_V_TIMING_V_ACTIVE = 14 ∧
    (stretching true 6).scan.k + 2 = 8 ∧ (stretching true 5).scan.k + 2 < 8 ∧ (stretching false 12).scan.k + 2 = 14 ∧
    (stretching false 11).scan.k + 2 < 14 ∧ (stretching false 12).scan.applied = false ∧ (stretching true 6).scan.endFixed = false ∧
    (stretching true 6).bit F.SCAN_CTRL_VRR = true := by decide
theorem test_blanking : ((stretching true 6).blankingEnd 2).scan.e = 8 ∧ ((stretching false 12).blankingEnd 2).scan.repeated = true ∧
    ((stretching false 11).blankingEnd 2).scan.endFixed = false := by decide

def flipDesc : Desc := mk 4 0 0 0x200000#64 0 0x103#32
def flipTxn : Desc := mk 4 32 0 0x200000#64 0 0x103#32
theorem witness_flip : (caged flipDesc .start).cage? 31 = some (cg flipDesc .start) ∧ flipDesc.ty = 4 ∧ flipDesc.srcHost = false ∧
    flipDesc.dstHost = false ∧ flipDesc.inTxn = false ∧ flipTxn.inTxn = true := by decide
theorem test_flip :
    ok (exec (.descFlip 31) (caged flipDesc .start)) (fun t => t.scan.flips.map (fun f => (f.layer, f.lineMode, f.addr)) == [(3, true, 0x200000#64)]) = true := by
  decide
theorem witness_composer : ({ up with power := { up.power with compDawn := 2, compDusk := 2 } } : State).power.compDusk = 2 := by decide
theorem witness_history_cmd : up.serves (R.HIST_CMD .dusk) = true ∧ bitOf 1#32 0 = true := by decide
theorem test_history_cmd : ok (exec (.histInvalidateCmd .dusk 1) up) (fun t => (t.hist .dusk).causeCmd && !(t.hist .dawn).causeCmd) = true := by
  decide
/-- Overdrive runs, a line's fetch has started, and the one-back set is valid. -/
def histRead : State :=
  let s := (((scanning 0 0 8).setFld F.OD_CTRL_OD_EN 1).setFld (F.HIST_ROLES_BACK1 .dawn) 1).setFld (F.HIST_SET_STATUS_VALID .dawn) 7
  { s with scan := { s.scan with fetch := [(3, ⟨[], [], [], []⟩)] } }
theorem witness_history_read : histRead.histReadMade .dawn 1 3 0 = true ∧ histRead.readCode .dawn 1 3 0 = 0 := by decide
theorem witness_history_again : (histRead.setReadCode .dawn 1 3 0 1).readCode .dawn 1 3 0 = 1 ∧
    (histRead.setReadCode .dawn 1 3 0 1).histReadMade .dawn 1 3 0 = true ∧ histRead.histReadMade .dawn 2 3 0 = false ∧
    { histRead with scan := { histRead.scan with fetch := [(8, ⟨[], [], [], []⟩)] } }.histReadMade .dawn 1 8 0 = true := by decide
theorem test_history_upset : ok (exec (.histReadDone .dawn 1 3 0 .upset) histRead) (fun t => t.readCode .dawn 1 3 0 == 1) = true := by decide

/-- Bank 1 of the overdrive tables is sealed by a running seal. -/
def odSealing : State := { up with od := { up.od with sealing := some 1 } }
theorem witness_od : up.serves R.OD_CTRL = true ∧ (0x170000 + 2 * odEntries - 4) % 4 = 0 ∧ odSealing.od.sealing.isSome = true ∧
    up.od.sealing = none ∧ up.odSwitchPending = false ∧ up.domOn dDAWN = true ∧ up.domOn dDUSK = true ∧
    up.serves R.OD_STAGE_CMD = true ∧ up.bit F.OD_STAGE_STATUS_BUSY = false := by decide
theorem test_od_window : ok (exec (.odTableWrite 0x170000 0x00020001#32) up) (fun t => t.odTable .dusk 1 0 == 1 && t.odTable .dusk 1 1 == 2) = true := by
  decide
theorem test_od_dropped : ok (exec (.odTableWrite 0x170000 1) odSealing) (fun t => t.fld F.OD_WIN_DROPPED_COUNT == 1) = true := by decide
theorem test_od_seal : ok (exec (.odSeal 1) up) (fun t => t.bit F.OD_STAGE_STATUS_BUSY && t.od.sealing == some 1) = true := by decide
theorem witness_od_lookup : ∀ i j : Nat, (fun i j => (i + j) % 2) i j ≤ 1 ∧ 0 ≤ (fun i j => (i + j) % 2) i j := by
  intro i j
  simp only
  omega

/-! ### Compression -/

/-- Context 63 of the job contexts, ACTIVE or not. -/
def suspended (a : Bool) : State :=
  { up with cmp := { up.cmp with ctxs := [(63, ⟨a, 8191, 0, 0, 0, false, 0, QzState.init, [], [], 0, []⟩)] } }
theorem witness_ctx : up.serves R.CMP_CTX_DROP = true ∧ (SMap.find? (suspended false).cmp.ctxs (bitsOf 63#32 0 6)).map (·.active) = some false ∧
    (SMap.find? (suspended true).cmp.ctxs 63).map (·.active) = some true := by decide
theorem test_ctx_drop : ok (exec (.ctxDrop 63) (suspended false)) (fun t => t.cmp.ctxs == [] && t.fld F.CMP_CTX_DISCARDED_COUNT == 1) = true ∧
    ok (exec (.ctxDrop 63) (suspended true)) (fun t => t.cmp.ctxs.length == 1) = true := by decide

def inflateDesc (len : Word) (flags : Nat) : Desc := mk 2 flags 0 0x200000#64 len 64
theorem witness_inflate : (caged (inflateDesc 8 0) .start).cage? 31 = some (cg (inflateDesc 8 0) .start) ∧ (inflateDesc 8 0).ty = 2 ∧
    (inflateDesc 8 8).dstHost = true ∧ (inflateDesc 8 0).dstHost = false ∧ 536870912 < (inflateDesc 0x20000001 0).len.toNat ∧
    up.domOn dCMP = true ∧ (inflateDesc 0 0).len = 0 ∧ (inflateDesc 0x20000000 0).len.toNat ≤ 536870912 ∧
    (inflateDesc 8 0).cont = false ∧ (inflateDesc 8 0).sealed = false ∧ (inflateDesc 8 128).sealed = true ∧
    (caged (inflateDesc 8 128) .start).ctxOf 8191 = none ∧
    (caged (inflateDesc 8 128) .start).dstAllProtected 0x200000 64 = false := by decide
theorem test_inflate_refused :
    ok (exec (.descInflate 31) (caged (inflateDesc 8 8) .start)) (fun t => (t.cage? 31).map (·.phase) == some (.done stREFUSED 8)) = true := by decide
theorem test_inflate_zero :
    ok (exec (.descInflate 31) (caged (inflateDesc 0 0) .start)) (fun t => (t.cage? 31).map (·.phase) == some (.done stOKZERO 0)) = true := by decide
theorem test_inflate_protected :
    ok (exec (.descInflate 31) (caged (inflateDesc 8 128) .start)) (fun t => (t.cage? 31).map (·.phase) == some (.done stPROTECTED 8)) = true := by
  decide

/-- A stored stream of three bytes, in DRAM behind page 0, is inflated by lane 2 to page 1. -/
def stream3 : List Byte := (encodeStream 8 64 true [1, 2, 3]).1
def inflating : State :=
  (onPages (mk 2 0 0 0x200000#64 (BitVec.ofNat 32 stream3.length) 64) (.inflating 2)).dramWrite 0xA00000 stream3
theorem witness_inflate_complete : inflating.cage? 31 = some (cg (mk 2 0 0 0x200000#64 (BitVec.ofNat 32 stream3.length) 64) (.inflating 2)) ∧
    (inflating.jobInput (mk 2 0 0 0x200000#64 (BitVec.ofNat 32 stream3.length) 64) .error) = (stream3, none) ∧
    (qzRun QzState.init stream3 (inflating.localRoom 0x200000 64)).stop = .done := by decide
/-- A continuation whose suspended job fits, and whose does not. -/
def continuing (len : Word) : State :=
  let s := caged (inflateDesc 8 64) .start
  { s with cmp := { s.cmp with ctxs := [(5, ⟨false, 8191, 0, 0, len, false, 0, QzState.init, [], [], 0, []⟩)] } }
theorem witness_inflate_forms : (inflateDesc 8 64).cont = true ∧ (continuing 8).ctxOf 8191 = some 5 ∧
    ((SMap.find? (continuing 8).cmp.ctxs 5).map fun j => j.len == 8 && j.keySlot == (inflateDesc 8 64).keySlot) = some true ∧
    ((SMap.find? (continuing 9).cmp.ctxs 5).map fun j => j.len == 8) = some false ∧
    (up.setDom dCMP 1).domOn dCMP = false ∧
    (caged (mk 2 4 0x1000#64 0x200000#64 8 64) (.inflating 0)).jobInput (mk 2 4 0x1000#64 0x200000#64 8 64) .timeout = ([], some stPCIEERROR) ∧
    (qzRun QzState.init stream3 2).stop = .full ∧ inflating.localRoom 0x3FFFFE 64 = 2 ∧ inflating.localRoom 0x200000 2 = 2 ∧
    (match (qzRun QzState.init [] 8).stop with | .fault st _ _ => st == 0x14 | _ => false) = true ∧
    (match (qzRun QzState.init (stream3.set 0 0) 8).stop with | .fault st _ _ => st != 0x14 | _ => false) = true := by decide
theorem test_inflate_continues :
    ok (exec (.descInflate 31) (continuing 8)) (fun t => (t.cage? 31).map (·.phase) == some (.inflating 0)) = true ∧
    ok (exec (.descInflate 31) (continuing 9)) (fun t => (t.cage? 31).map (·.phase) == some (.done stREFUSED 8)) = true := by decide
theorem test_inflate_complete :
    ok (exec (.inflateComplete 31 ⟨.error, none⟩) inflating) (fun t => t.dramRead 0x800000 4 == [1, 2, 3, 0] &&
      t.qHead 8191 == 1) = true := by decide

def captureDesc (sel : Word) : Desc := mk 3 8 0x0008000800000000#64 0x1000#64 64 sel
theorem witness_capture : (caged (captureDesc 0) .start).cage? 31 = some (cg (captureDesc 0) .start) ∧ (captureDesc 0).ty = 3 ∧
    2 ≤ bitsOf (captureDesc 2).param 0 2 ∧ bitsOf (captureDesc 1).param 0 2 < 2 ∧ (captureDesc 0).srcHost = false ∧
    (captureDesc 0).len ≠ 0 ∧ (captureDesc 0).src.toNat / 2 ^ 32 % 65536 ≠ 0 ∧ (captureDesc 0).src.toNat / 2 ^ 48 ≠ 0 ∧
    (caged (captureDesc 0) .waitBuffer).cage? 31 = some (cg (captureDesc 0) .waitBuffer) ∧
    (caged (captureDesc 0) .waitBuffer).cmp.capture = none := by decide
theorem test_capture_refused :
    ok (exec (.descCapture 31) (caged (captureDesc 2) .start)) (fun t => (t.cage? 31).map (·.phase) == some (.done stREFUSED 64)) = true := by decide
theorem test_capture_waits :
    ok (exec (.descCapture 31) (caged (captureDesc 1) .start)) (fun t => (t.cage? 31).map (·.phase) == some .waitBuffer) = true := by decide
theorem test_capture_buffer :
    ok (exec (.captureBufferTaken 31) (caged (captureDesc 0) .waitBuffer)) (fun t => t.cmp.capture.map (·.target) == some 1#32) = true := by decide

/-- A capture of one pixel has been taken and works in lane 1, towards page 1. -/
def encoding : State :=
  let d := mk 3 0 0x0001000100000000#64 0x200000#64 64 0
  let s := onPages d .capturing
  { s with cmp := { s.cmp with capture := some ⟨31, 1, false, true, some 1, [9, 8, 7, 0]⟩ } }
theorem witness_capture_done : (encoding.cage? 31).map (·.phase) = some .capturing ∧ encoding.cmp.capture = some ⟨31, 1, false, true, some 1, [9, 8, 7, 0]⟩ ∧
    (encodeStream (encoding.fld F.CMP_ENC_CFG_CHAIN_DEPTH) 64 false [9, 8, 7, 0]).1.length ≤ encoding.localRoom 0x200000 64 ∧
    (encodeStream (encoding.fld F.CMP_ENC_CFG_CHAIN_DEPTH) 64 false [9, 8, 7, 0]).2 = true := by decide
theorem witness_capture_forms : (captureDesc 0).srcHost = false ∧ (mk 3 12 0x0008000800000000#64 0x1000#64 64 0).srcHost = true ∧
    (mk 3 8 0x0000000800000000#64 0x1000#64 64 0).src.toNat / 2 ^ 48 = 0 ∧
    1 < (encodeStream (encoding.fld F.CMP_ENC_CFG_CHAIN_DEPTH) 64 false [9, 8, 7, 0]).1.length ∧ encoding.localRoom 0x3FFFFF 64 = 1 ∧
    (caged (captureDesc 0) .waitBuffer).assignLanes.cmp.capture = none := by decide
theorem test_capture_done :
    ok (exec (.captureEncodeDone 31) encoding) (fun t => t.dramRead 0x800000 2 == [0x51, 0x5A] && t.cmp.capture == none && t.cage? 31 == none) = true := by
  decide

/-! ### Correction and aging -/

/-- A seal of map bank 1 runs, of one word. -/
def uniSealing : State := { up with uniSeal := some ⟨1, false, 1, 1⟩ }
theorem witness_uni_seal : up.serves R.UNI_STAGE_CMD = true ∧ bitOf 3#32 0 = true ∧ up.bit F.UNI_STAGE_STATUS_BUSY = false ∧
    up.mapSwitchPending = false ∧ (up.setFld F.UNI_STAGE_STATUS_BUSY 1).bit F.UNI_STAGE_STATUS_BUSY = true ∧
    uniSealing.uniSeal = some ⟨1, false, 1, 1⟩ := by decide
theorem test_uni_seal : ok (exec (.uniSeal 3) up) (fun t => t.uniSeal == some ⟨1, true, 32, 8⟩) = true := by decide
theorem test_uni_seal_done : ok (exec .uniSealDone uniSealing) (fun t => t.fld F.UNI_STAGE_STATUS_SEALED == 2 && t.uniSeal == none) = true := by decide

/-- Foreman does not run; with `mem` a checkpoint runs. -/
def noForeman : State := { up with boot := { up.boot with foreman := false } }
def ckpting : State := { up with mem := { up.mem with running := [plainReq 3] }, age := { up.age with ring := [⟨6, 64, 6⟩] } }
theorem witness_checkpoint : up.serves R.AGE_CKPT_CMD = true ∧ (up.setFld F.AGE_CKPT_CFG_HOURS 1).fld F.AGE_CKPT_CFG_HOURS ≠ 0 ∧
    up.domOn dPANEL = true ∧ up.ckptBusy = false ∧ noForeman.boot.foreman = false ∧ noForeman.serves R.AGE_CKPT_CMD = true ∧
    up.boot.mbox = none ∧ up.domOn dFORE = true ∧ up.domOn dMAP = true ∧ up.domOn dSTORE = true ∧ up.hvd.pfwLow = false ∧
    up.mem.running = [] ∧ up.mem.queued = [] ∧ ckpting.ckptRunning = some (plainReq 3) ∧ ckpting.nextSeq.1 = 7 := by decide
theorem test_checkpoint_waits : ok (exec (.ckptGo 1) noForeman) (fun t => t.age.wanted && t.bit F.AGE_STATUS_CKPT_BUSY) = true := by decide
theorem test_checkpoint_runs : ok (exec (.ckptGo 1) up) (fun t => t.mem.running.map (·.act) == [3]) = true := by decide
theorem test_checkpoint_done :
    ok (exec (.checkpointDone 0) (ckpting.setFld F.SCAN_V_TIMING_V_ACTIVE 0)) (fun t => t.age.ring.map (·.seq) == [6, 7]) = true := by decide
def intactAge : State := { up with age := { up.age with intact := true } }
theorem witness_restore : up.bit F.AGE_STATUS_READY = false ∧ intactAge.age.intact = true ∧ intactAge.bit F.AGE_STATUS_READY = false ∧
    up.age.intact = false ∧ up.age.ring = [] := by decide
theorem test_restore : ok (exec .ageRestoreDone intactAge) (fun t => t.bit F.AGE_STATUS_READY && t.fld F.AGE_ACC_BASE_LIVE == 3886) = true := by decide

/-! ### SahkanLink -/

/-- Lane 47 in state `st`, with hidden state `h`. -/
def laned (st : Nat) (h : LaneHid) : State :=
  let s := (up.setFld (F.LINK_LANE_CFG_EN 47) 1).setLaneState 47 st
  { s with link := { s.link with lanes := [(47, h)] } }
def owned : State := up.setFld F.HVD_PANEL_STATUS_STATE pON
theorem witness_train : (laned laneOFF LaneHid.init).serves R.LINK_TRAIN_CMD = true ∧ bitOf 1#32 0 = true ∧ bitOf 2#32 1 = true ∧
    (laned laneOFF LaneHid.init).panelOwns = false ∧ (laned laneOFF LaneHid.init).bit F.LINK_STATUS_TRAINING = false ∧
    (laned laneOFF LaneHid.init).trainable ≠ [] ∧ (∀ n ∈ up.link.training, n < 48) ∧ owned.panelOwns = true ∧
    owned.serves R.LINK_TRAIN_CMD = true := by decide
theorem test_train_go : ok (exec (.trainGo 1) (laned laneOFF LaneHid.init)) (fun t => t.laneState 47 == laneTRAIN && t.laneState 46 == laneOFF) = true := by
  decide
theorem test_train_stop : ok (exec (.trainStop 2) (laned laneRUN LaneHid.init)) (fun t => t.laneState 47 == laneOFF) = true := by decide
theorem test_train_owned : ok (exec (.trainGo 1) owned) (fun t => !t.bit F.LINK_STATUS_TRAINING && t.fld (hdrFld 0x41 0x24 0 32) == 1) = true := by
  decide
theorem witness_lane : (laned laneTRAIN { LaneHid.init with attempts := 1 }).laneState 47 = laneTRAIN ∧
    ((laned laneTRAIN { LaneHid.init with attempts := 2 }).lane 47).attempts < 3 ∧
    3 ≤ ((laned laneTRAIN { LaneHid.init with attempts := 3 }).lane 47).attempts ∧
    ((laned laneTRAIN { LaneHid.init with attempts := 3, testing := true }).lane 47).testing = true ∧
    (laned laneTRAIN { LaneHid.init with attempts := 1 }).domOn dLINK = true ∧
    0 ≤ up.fld F.LINK_TRAIN_CFG_TEST_NACK_MAX := by decide
theorem test_lane_lock : ok (exec (.laneLock 47) ((laned laneTRAIN { LaneHid.init with attempts := 1, synced := true }).setFld F.LINK_TRAIN_CFG_TEST_LINES 1))
    (fun t => (t.lane 47).testing && !t.bit (F.LINK_LANE_STATE_NACK_PIN 47)) = true := by
  decide +kernel
theorem test_lane_timeout :
    ok (exec (.laneLockTimeout 47) (laned laneTRAIN { LaneHid.init with attempts := 2 })) (fun t => t.laneState 47 == laneTRAIN && (t.lane 47).attempts == 3) = true ∧
    ok (exec (.laneLockTimeout 47) (laned laneTRAIN { LaneHid.init with attempts := 3 })) (fun t => t.laneState 47 == laneFAULT) = true := by
  decide
theorem test_lane_test :
    ok (exec (.laneTestDone 47 0) (laned laneTRAIN { LaneHid.init with attempts := 1, testing := true })) (fun t => t.laneState 47 == laneRUN) = true := by
  decide

/-- A link line waits, or is in progress, with lane 47 in RUN. -/
def lineOf : LinkLine := ⟨0, false, [[0, 0, 0]], 0, 0, 24, 0, false, List.replicate 47 0 ++ [0x10001#32]⟩
def lined (cur : Bool) (h : LaneHid) : State :=
  let s := (laned laneRUN h).setFld F.SCAN_CTRL_RUN 1
  let s := s.setFld F.LINK_CTRL_HALT 0
  { s with link := { s.link with lines := if cur then [] else [lineOf], cur := if cur then some lineOf else none } }
theorem witness_link_line : (lined false LaneHid.init).domOn dLINK = true ∧ (lined false LaneHid.init).link.lines = [lineOf] ∧
    (lined false LaneHid.init).linkSends = true ∧ (lined false LaneHid.init).laneState 47 = laneRUN ∧
    (lined true { LaneHid.init with inLine := true }).link.cur = some lineOf ∧
    ((lined true { LaneHid.init with inLine := true }).lane 47).inLine = true ∧
    ((laned laneRUN { LaneHid.init with waiting := [⟨0, 2, 5, false, false⟩] }).lane 47).waiting = [⟨0, 2, 5, false, false⟩] ∧
    (laned laneRUN LaneHid.init).link.cur = none ∧ up.laneState 47 ≠ laneRUN := by decide
theorem test_link_line : ok (exec (.linkLineStart 0) (lined false { LaneHid.init with synced := true })) (fun t => (t.lane 47).inLine && t.link.lines == [] &&
    (t.lane 47).waiting.length == 1) = true := by decide +kernel
theorem test_nack :
    ok (exec (.nackSample 47 true) (laned laneRUN { LaneHid.init with waiting := [⟨0, 2, 5, false, false⟩] })) (fun t => (t.lane 47).queue == [(2, 5)]) = true ∧
    ok (exec (.nackSample 47 false) (laned laneRUN { LaneHid.init with waiting := [⟨0, 2, 5, false, false⟩] })) (fun t => (t.lane 47).queue == []) = true := by
  decide
theorem test_link_load : ok (exec (.linkLoad 47) (lined true { LaneHid.init with inLine := true, synced := true })) (fun t => !(t.lane 47).inLine) = true := by decide +kernel
theorem witness_ctl : up.serves R.LINK_CTL_CMD = true ∧ up.panelOwns = false ∧ bitOf 0x80000002#32 31 = true ∧ bitsOf 0x80000002#32 0 2 ≠ 3 ∧
    up.linkSends = false ∧ bitsOf 0x80000003#32 0 2 = 3 ∧ (lined true LaneHid.init).linkSends = true ∧
    (lined true LaneHid.init).link.cur.isSome = true ∧ (lined true LaneHid.init).serves R.LINK_CTL_CMD = true := by decide
theorem test_ctl : ok (exec (.ctlCmdGo 0x80000002) (laned laneRUN LaneHid.init)) (fun t => t.fld F.LINK_STATUS_SRC_MODE == 2 && t.sent.length == 8) = true := by
  decide
theorem test_ctl_waits : ok (exec (.ctlCmdGo 0x80000001) (lined true LaneHid.init)) (fun t => t.link.mode == some 1) = true := by decide

theorem witness_link_forms : (up.setDom dLINK 1).domOn dLINK = false ∧ (laned laneRUN LaneHid.init).link.lines = [] ∧
    (lined false LaneHid.init).runLanes = [47] ∧ (⟨0, true, [], 0, 0, 24, 0, false, []⟩ : LinkLine).blank = true ∧
    lanes ≤ (48#6).toNat ∧ up.lineInProgress = false ∧ (lined true { LaneHid.init with inLine := true }).lineInProgress = true ∧
    ((lined true { LaneHid.init with queue := [(2, 5)], synced := true }).lane 47).queue = (2, 5) :: [] ∧
    up.runLanes = [] ∧ (lined true LaneHid.init).panelOwns = false := by decide
/-- A re-send fits before LOAD, or its budget is spent. -/
def resends (max : Nat) : LinkLine := { lineOf with loadPos := 4000, resendMax := max }
theorem witness_resend : ({ LaneHid.init with queue := [(2, 5)] } : LaneHid).boundary 66 5 = 66 ∧ 66 < 1000 ∧
    ({ LaneHid.init with queue := [(2, 5)] } : LaneHid).resent < (resends 1).resendMax ∧ 66 + 16 * 66 ≤ 8 * (resends 1).loadPos ∧
    (resends 0).resendMax ≤ ({ LaneHid.init with queue := [(2, 5)] } : LaneHid).resent := by decide
theorem witness_train_end : (owned.setFld F.LINK_STATUS_TRAINING 1).bit F.LINK_STATUS_TRAINING = true ∧
    (owned.setFld F.LINK_STATUS_TRAINING 1).link.training = [] := by decide

/-! ### Panel power -/

/-- The panel in state `st` and step `k`, with `a` attempts made. -/
def panel (st k a : Nat) : State :=
  let s := (up.setFld F.HVD_PANEL_STATUS_STATE st).setFld F.HVD_PANEL_STATUS_STEP k
  let s := ((s.setFld F.HVD_RAIL_AVDD_TH 33).setFld F.HVD_RAIL_VGL_TH 33).setFld F.HVD_RAIL_VGH_TH 10
  { s with hvd := { s.hvd with attempts := a } }
theorem witness_panel : up.serves R.HVD_PANEL_CMD = true ∧ up.panelState = pOFF ∧ up.bit F.SCAN_CTRL_RUN = false ∧
    (panel pDOWN 1 1).panelState = pDOWN ∧ (panel pUP 1 1).panelState = pUP ∧ (panel pON 0 0).panelState = pON ∧
    (panel pFAULT 0 0).panelState = pFAULT ∧ (up.setFld F.SCAN_CTRL_RUN 1).bit F.SCAN_CTRL_RUN = true ∧ up.hvd.pfwLow = false := by decide
theorem test_panel_up : ok (exec .panelUp (up.setFld F.SCAN_CTRL_RUN 1)) (fun t => t.panelState == pUP && t.panelStep == 1) = true ∧
    ok (exec .panelUp up) (fun t => t.fld F.HVD_PANEL_STATUS_RESULT == 2) = true := by decide
theorem test_panel_down : ok (exec .panelDown (panel pON 0 0)) (fun t => t.panelState == pDOWN && t.fld F.HVD_PANEL_STATUS_CAUSE == cauCMD) = true ∧
    ok (exec .panelDown (panel pFAULT 0 0)) (fun t => t.panelState == pOFF) = true := by decide
theorem witness_panel_steps : up.runs = true ∧ up.domOn dPANEL = true ∧ (panel pUP 1 1).panelStep = 1 ∧ (panel pUP 3 1).panelStep = 3 ∧
    (panel pDOWN 6 1).panelStep = 6 ∧ (panel pUP 2 0).panelStep = 2 ∧ (panel pDOWN 2 0).panelStep = 2 ∧
    (panel pUP 1 1).hvd.attempts ≤ (panel pUP 1 1).fld F.HVD_RAIL_REQ_RETRIES ∧
    (panel pUP 1 8).fld F.HVD_RAIL_REQ_RETRIES < (panel pUP 1 8).hvd.attempts := by decide
theorem test_rail_ack : (panel pUP 1 1).railAck =
    ((panel pUP 1 1).draw.2.railReport 0 ((panel pUP 1 1).ackMv true 0)).railNext true := by
  have h : (panel pUP 1 1).railAwaited = some 0 := by decide
  have u : ((panel pUP 1 1).panelState == pUP) = true := by decide
  simp only [State.railAck, h, u]
theorem test_rail_timeout : ok (exec (.railReqTimeout ⟨true, 0⟩) (panel pUP 1 1)) (fun t => t.hvd.attempts == 2) = true ∧
    ok (exec (.railReqTimeout ⟨false, 0⟩) (panel pUP 1 8)) (fun t => t.panelState == pDOWN && t.fld F.HVD_PANEL_STATUS_CAUSE == cauRAILFAIL) = true := by decide
theorem test_seq_timer : ok (exec .panelSeqTimer (panel pUP 2 0)) (fun t => t.panelStep == 3) = true ∧
    ok (exec .panelSeqTimer (panel pDOWN 2 0)) (fun t => t.panelStep == 3 && t.fld F.GATE_CTRL_FORCE == 2) = true := by decide

theorem witness_rail_forms : (panel pUP 1 1).railAwaited = some 0 ∧ (panel pUP 3 1).railAwaited = some 1 ∧
    (panel pDOWN 6 1).railAwaited = some 0 ∧ up.railAwaited = none ∧ (panel pUP 1 1).railTh 0 = 3300 ∧ railFloor 2 = 2000 ∧
    (3300#16).toNat = 3300 ∧ stepRail false 4 = some 2 ∧ stepRail false 6 = some 0 ∧ (panel pDOWN 4 1).panelStep = 4 ∧
    ({ panel pDOWN 4 1 with hvd := { (panel pDOWN 4 1).hvd with powerFail := true } } : State).hvd.powerFail = true ∧
    (panel pDOWN 1 1).lineInProgress = false ∧ (panel pUP 4 1).panelStep = 4 ∧ 0 ∉ up.hvd.requested := by decide

def pfw : State := { panel pON 0 0 with hvd := { up.hvd with pfwLow := true } }
def rail2 (st : Nat) : State := (panel st 0 0).wr R.HVD_PANEL_STATUS ((panel st 0 0).rd R.HVD_PANEL_STATUS ||| 0x80000#32)
def therm (k : Nat) : State :=
  let s := up.setFld F.HVD_THERM_CFG_EN 3
  { s with hvd := { s.hvd with therm0 := List.replicate k 800, therm1 := List.replicate k 800 } }
theorem witness_inputs : pfw.runs = true ∧ pfw.hvd.pfwLow = true ∧ up.hvd.pfwLow = false ∧ (rail2 pON).railOk 2 = true ∧ (rail2 pOFF).railOk 2 = true ∧
    (rail2 pOFF).panelState ≠ pUP ∧ up.fld F.HVD_THERM_CFG_EN / 2 ^ b2n true % 2 = 0 ∧ (therm 7).fld F.HVD_THERM_CFG_EN / 2 ^ b2n true % 2 = 1 ∧
    7 ≤ ((therm 7).thermWindow (b2n true)).length ∧
    ((800#12).toNat :: ((therm 7).thermWindow (b2n true)).take 7).sum / 8 < 4096 := by decide
theorem test_pfw : ok (exec .pfwAssert (panel pON 0 0)) (fun t => t.panelState == pDOWN && t.fld F.HVD_PANEL_STATUS_CAUSE == cauPFW &&
    t.fld F.HVD_PFW_COUNT_COUNT == 1) = true := by decide
theorem test_pfw_end : ok (exec .pfwDeassert pfw) (fun t => !t.bit F.HVD_PANEL_STATUS_PFW && t.panelState == pON) = true := by decide
theorem test_rail_loss : ok (exec (.railLoss ⟨2, 0⟩) (rail2 pON)) (fun t => t.panelState == pDOWN && t.fld F.HVD_PANEL_STATUS_CAUSE == cauRAILLOSS) = true ∧
    ok (exec (.railLoss ⟨2, 0⟩) (rail2 pOFF)) (fun t => t.panelState == pOFF && !t.railOk 2) = true := by decide
theorem test_therm : ok (exec (.thermConvert true 808) (therm 7)) (fun t => t.fld (thermFlds 1).2.1 == 801) = true := by decide

/-! ### Protection -/

def withKeys : State :=
  { up with keys := { up.keys with data := (List.range 8).map fun i => (i, 0x01010101#32) } }
/-- Slot 15 is VALID or LOCKED. -/
def keyed (st : Nat) : State :=
  withKeys.writeKey 30 1 (List.replicate 32 1) st
/-- A write of slot 15 runs. -/
def keyWriting (op : Nat) : State := { keyed keyVALID with keys := { (keyed keyVALID).keys with op := some (15, op) } }
theorem witness_keys : withKeys.serves R.SEAL_KEY_CMD = true ∧ withKeys.keys.op = none ∧ withKeys.keyState 15 ≠ keyLOCKED ∧
    withKeys.keyBusy 15 = false ∧ (∀ i, i < 8 → (SMap.find? withKeys.keys.data i).isSome = true) ∧ (keyed keyVALID).keyState 15 = keyVALID ∧
    (keyed keyLOCKED).keyState 15 = keyLOCKED ∧ (keyWriting 1).keys.op = some (15, 1) ∧ (keyWriting 3).domOn dHOST = true := by decide
theorem test_key_program : ok (exec (.keyProgram 15) withKeys) (fun t => t.keys.op == some (15, 1) && t.keys.data == []) = true := by decide
theorem test_key_refused :
    ok (exec (.keyErase 15) (keyed keyLOCKED)) (fun t => t.fld F.SEAL_KEY_RESULT_RESULT == 1) = true ∧
    ok (exec (.keyProgram 15) (keyWriting 1)) (fun t => t.fld F.SEAL_KEY_RESULT_RESULT == 2) = true ∧
    ok (exec (.keyProgram 15) up) (fun t => t.fld F.SEAL_KEY_RESULT_RESULT == 3) = true := by decide
theorem test_key_lock : ok (exec (.keyLock 15) (keyed keyVALID)) (fun t => t.keys.op == some (15, 3)) = true := by decide
theorem test_key_done : ok (exec .keyWriteDone (keyWriting 3)) (fun t => t.keyState 15 == keyLOCKED && t.keys.op == none) = true ∧
    ok (exec .keyWriteDone (keyWriting 2)) (fun t => t.keyState 15 == keyEMPTY) = true := by decide

/-- ASSAY_HIDE is set in the persistent store. -/
def hidden (s : State) : State := { s with pstore := { s.pstore with words := [(persPolicy, 1#32)] } }
def published : State := { up with assay := { up.assay with pub := some ⟨9, 0xABCD#32, 1, 2, false, true, true, false, []⟩ } }
theorem witness_assay : up.serves R.SEAL_POLICY = true ∧ up.assay.pub = none ∧ published.assay.pub.isSome = true ∧ published.domOn dDAWN = true := by
  decide
theorem test_assay : ok (exec .assayPublish published) (fun t => t.rd R.ASSAY_FRAME_CRC == 0xABCD#32 && t.rd R.ASSAY_RESULT_FRAME == 9 && t.assay.pub == none) = true ∧
    ok (exec .assayPublish (hidden published)) (fun t => t.computed R.ASSAY_FRAME_CRC == some 0) = true := by decide
theorem test_assay_hide : ok (exec (.assayHideSet 0) (hidden up)) (fun t => t.assayHide) = true := by decide

/-! ### The label port -/

theorem witness_key_words : withKeys.keyState 15 = keyFAULT ∧ (keyed keyVALID).keyUsed 15 = some 0 ∧ (keyWriting 2).keys.op = some (15, 2) ∧
    (List.replicate 32 1 : List Byte).length = 32 ∧ keyWord (2 * 15 + 1) + 11 ≤ persKeys + 1024 := by decide

/-- The port is enabled with panel 1 of 8 by 4 pixels and one waveform mode. -/
def labelOn (s : State) : State :=
  let s := ((s.setFld F.LABEL_CTRL_EN 1).setFld (F.LABEL_PANEL_GEOM_EN 1) 1).setFld (F.LABEL_PANEL_GEOM_WIDTH 1) 8
  let s := ((s.setFld (F.LABEL_PANEL_GEOM_HEIGHT 1) 4).setFld F.LABEL_WF_STATUS_LOADED 1).setFld F.LABEL_WF_STATUS_MODES 1
  let s := s.setFld F.LABEL_PHASE_RATE 50
  { s with label := { s.label with stale := false } }
/-- A 2 by 1 update at (6, 3) of panel 1, read from page 0. -/
def labelDesc (w h : Nat) (flags : Nat) : Desc := mk 5 flags 0 (BitVec.ofNat 64 (6 + 3 * 2 ^ 16 + w * 2 ^ 32 + h * 2 ^ 48)) 16 1
def labelled (w h flags : Nat) : State := labelOn (onPages (labelDesc w h flags) .start)
theorem witness_label : (labelled 2 1 0).cage? 31 = some (cg (labelDesc 2 1 0) .start) ∧ (labelDesc 2 1 0).ty = 5 ∧
    (labelled 2 1 0).label.landing = [] ∧ (labelDesc 2 1 8).dstHost = true ∧ (labelDesc 2 1 0).dstHost = false ∧
    ((labelled 0 1 0).labelOf (cg (labelDesc 0 1 0) .start)).w = 0 ∧ ((labelled 2 1 0).labelOf (cg (labelDesc 2 1 0) .start)).h ≠ 0 ∧
    (labelled 3 1 0).labelReason (cg (labelDesc 3 1 0) .start) ((labelled 3 1 0).labelOf (cg (labelDesc 3 1 0) .start)) = 2 ∧
    (labelled 2 1 0).labelReason (cg (labelDesc 2 1 0) .start) ((labelled 2 1 0).labelOf (cg (labelDesc 2 1 0) .start)) = 0 ∧
    (labelled 2 1 0).label.stale = false ∧ (labelled 2 1 0).translate 0 = .dram 0xA00000 false ∧
    (labelled 2 1 0).srcProtected 0 1 = false := by decide
theorem test_label_refused : ok (exec (.descLabel 31) (labelled 3 1 0)) (fun t => (t.cage? 31).map (·.phase) == some (.done stREFUSED 16) &&
    t.fld F.LABEL_LAST_REFUSE_REASON == 2) = true := by decide
theorem test_label_accepted : ok (exec (.descLabel 31) (labelled 2 1 0)) (fun t => (t.cage? 31).map (·.phase) == some .landing && t.label.landing == [(1, 31)]) = true := by
  decide
/-- Its one byte has landed: gray 5 and 10. -/
def landedState : State :=
  let s := labelOn (onPages (labelDesc 2 1 0) .start)
  let s := s.setCage 31 { cg (labelDesc 2 1 0) .landing with left := 0, landed := [0xA5], unit := some [] }
  { s with label := { s.label with landing := [(1, 31)] } }
theorem witness_landed : (landedState.cage? 31).map (·.phase) = some .landing ∧ (landedState.cage? 31).map (·.left) = some 0 ∧
    landedState.label.landing = [(1, (31#5).toNat)] := by decide
theorem test_landed : ok (exec (.labelLanded 31) landedState) (fun t => t.label.pend.length == 1 && t.label.landing == [] &&
    SMap.get (fun _ => 0) t.label.req (lblKey 1 3 6) != SMap.get (fun _ => 0) t.label.req (lblKey 1 3 7)) = true := by decide

theorem witness_landing : (labelled 2 1 0).landsNow 31 = false ∧ landedState.landsNow 31 = true ∧
    landedState.moves 31 ((landedState.cage? 31).getD (cg (labelDesc 2 1 0) .start)) = false ∧
    ({ landedState with label := { landedState.label with landing := [(1, 5), (1, 31)] } } : State).landsNow 31 = false := by decide
/-- Its burst is under way. -/
def landingState : State := landedState.setCage 31 { cg (labelDesc 2 1 0) .landing with left := 1, unit := some [] }
theorem witness_land_burst : (landingState.cage? 31) = some { cg (labelDesc 2 1 0) .landing with left := 1, unit := some [] } ∧
    landingState.moves 31 { cg (labelDesc 2 1 0) .landing with left := 1, unit := some [] } = true ∧
    landingState.burstTurn 31 { cg (labelDesc 2 1 0) .landing with left := 1, unit := some [] } = true ∧
    landingState.burstSrc { cg (labelDesc 2 1 0) .landing with left := 1, unit := some [] } = .dram 0xA00000 false := by decide
theorem test_land_burst : ok (exec (.hoistBurstDone 31 (.data []) ⟨0, 0⟩) { landingState with dram := [(0xA00000, 0xA5)] })
    (fun t => (t.cage? 31).map (fun c => (c.landed, c.left)) == some ([0xA5], 0)) = true := by decide

/-- An update of two phases runs on panel 1. -/
def upd : LabelUpd := ⟨1, 0, 6, 3, 2, 1, false, 0, 0, 0, 0, 3, 0, 0, [0, 0]⟩
def running (run : List LabelUpd) : State :=
  let s := (labelOn up).setFld F.LABEL_STATUS_PWREN 1
  { s with label := { s.label with run := run } }
theorem witness_phase : (running [upd]).runs = true ∧ (running [upd]).domOn dLABEL = true ∧ (running [upd]).label.stopDue = false ∧
    (running [upd]).label.pend = [] ∧ (∀ u ∈ (running [upd]).label.run, u.phase + 1 < u.len) ∧ (running [upd]).label.run ≠ [] ∧
    (running []).label.run = [] ∧ (running []).bit F.LABEL_STATUS_PWREN = true ∧ (running []).bit F.LABEL_STATUS_PWRGOOD = false := by decide
/-- One update waits for its start. -/
def waitingUpd : State := { running [] with label := { (running []).label with pend := [upd] } }
theorem witness_phase_start : waitingUpd.label.run = [] ∧ waitingUpd.label.pend = [upd] ∧ waitingUpd.hvd.pfwLow = false ∧
    waitingUpd.bit F.LABEL_STATUS_STOPPED = false ∧ upd.panel < 8 ∧ upd.area ≤ 4194304 ∧ waitingUpd.lblScanTime [upd] ≤ waitingUpd.lblBudget ∧
    waitingUpd.journalNext = some 0 ∧ waitingUpd.label.stopDue = false ∧ (up.setDom dLABEL 1).domOn dLABEL = false := by decide
theorem test_phase_start : ok (exec (.phaseBoundary true) waitingUpd) (fun t => t.label.run.length == 1 && t.label.pend.isEmpty &&
    t.bit F.LABEL_STATUS_SCANNING) = true ∧
    ok (exec (.phaseBoundary false) waitingUpd) (fun t => t.label.run.isEmpty && t.bit F.LABEL_STATUS_PWREN) = true := by decide

theorem test_phase_lost : ok (exec .labelPwrgoodLost (running [upd])) (fun t => t.label.run == [] && t.label.recs.length == 1 &&
    t.fld F.LABEL_INTERRUPTED_COUNT == 1) = true := by decide
theorem test_pwr_timeout : ok (exec .labelPwrTimeout (running [])) (fun t => !t.bit F.LABEL_STATUS_PWREN && t.fld F.LABEL_PWR_FAILS_COUNT == 1) = true := by
  decide
theorem test_pwr_hold : ok (exec .labelPwrHoldExpire (running [])) (fun t => !t.bit F.LABEL_STATUS_PWREN) = true := by decide

/-! ### Power domains, clocks, regulators -/

/-- A request of the host at a phase, on LABEL, the domain 10. -/
def preq (phase target : Nat) : PowerReq := ⟨.port .pcie, 1024, target, false, phase, [10], [10], [0x44], [], none, [], 1, false, 0, [], 2, 0, 0, []⟩
def requesting (r : PowerReq) : State := { up with power := { up.power with req := some r } }
theorem witness_power : up.runs = true ∧ up.fatal = false ∧ up.serves R.PWR_REQ = true ∧ up.domOn dFORE = true ∧ up.domOn dKEEP = true ∧
    bitOf 0x80010400#32 31 = true ∧ (requesting (preq 1 1)).power.req.isSome = true ∧ up.power.req = none ∧
    bitsOf 0x80000800#32 11 5 ≠ 0 ∧ bitsOf 0x80000001#32 0 11 % 2 = 1 ∧ bitsOf 0x80030400#32 16 2 = 3 ∧ bitsOf 0x80010400#32 16 2 = 1 ∧
    10 :: [] = (entryOrder.filter fun e => bitsOf 0x80010400#32 0 11 / 2 ^ e % 2 == 1 && decide (targetState 1 < up.domState e)) ∧
    up.depBroken 1024 1 10 = false ∧ up.domOn 10 = true := by decide
theorem test_power_busy : ok (exec (.powerReq 0x80010400#32) (requesting (preq 1 1))) (fun t => t.fld F.PWR_REQ_STATUS_RESULT == prBUSY) = true := by decide
theorem test_power_invalid : ok (exec (.powerReq 0x80000001#32) up) (fun t => t.fld F.PWR_REQ_STATUS_RESULT == prINVALID) = true := by decide
theorem test_power_entry : ok (exec (.powerFreq 0x80010400#32) up) (fun t => t.power.req.map (·.todo) == some [10] && t.bit F.PWR_FREQ_STATUS_BUSY) = true := by
  decide
theorem witness_quiesce : (preq 1 1).phase = 1 ∧ (0x44#8).toNat ∈ (preq 1 1).asking ∧ (requesting (preq 1 1)).refusal 10 = none ∧
    (({ preq 1 1 with asking := [0x43, 0x44] } : PowerReq).asking.filter (· != (0x44#8).toNat)) ≠ [] ∧
    ({ running [upd] with power := { up.power with req := some (preq 1 1) } } : State).refusal 10 = some 5 ∧
    (preq 1 1).force = false ∧ (preq 1 1).forcing = none ∧ (preq 1 1).by' = .port .pcie := by decide
theorem test_quiesce_refused :
    ok (exec (.blockQuiesceAnswer 0x44) { running [upd] with power := { up.power with req := some (preq 1 1) } })
      (fun t => t.power.req == none && t.fld F.PWR_LAST_REASON_REASON == 5 && t.fld F.PWR_REQ_STATUS_RESULT == prREFUSED) = true := by decide
theorem test_quiesce_timeout :
    ok (exec (.quiesceTimeout 0x44) (requesting (preq 1 1))) (fun t => t.fld F.PWR_LAST_REASON_REASON == 7 && t.power.req == none) = true := by decide
theorem witness_gated : (preq 2 1).phase = 2 ∧ (preq 2 1).target = 1 ∧ (preq 2 1).todo = [(10#4).toNat] ∧ (10#4) ≠ 0 ∧ (10#4).toNat ≠ dHOST := by decide
theorem test_gated : ok (exec (.domainGated 10) (requesting (preq 2 1))) (fun t => t.domState 10 == 1 && t.domState 9 == 2 && t.power.req == none) = true := by
  decide

/-- A forced request waits for its forced action, or has begun none. -/
def forced (f : Option (Nat × Nat)) : PowerReq := { preq 1 1 with force := true, forcing := f }
theorem witness_forced : ({ running [upd] with power := { up.power with req := some (forced (some (0x44, 5))) } } : State).forcedRuns
      (forced (some (0x44, 5))) = true ∧ (requesting (forced none)).forcedRuns (forced none) = false ∧
    (requesting (preq 1 1)).forcedRuns (preq 1 1) = false ∧ (preq 1 1).todo = 10 :: [] ∧ (preq 1 1).agreed.Nodup ∧
    (∀ e ∈ ([10] : List Nat), (up.setDom 10 0).domOn e = false) ∧ ([10] : List Nat).length < 12 := by decide
theorem test_quiesce_isolates : ok (exec (.quiesceTimeout 0x44) (requesting (forced none))) (fun t => t.power.req.map (fun r => (r.phase, r.isolated)) ==
    some (2, [0x44])) = true := by decide

def rails (bs : List Nat) : PowerReq := { preq 4 0 with rails := bs }
def pllWait : PowerReq := { preq 4 0 with pll := true, todo := [8], was := 0 }
theorem witness_wake : (rails [40, 41]).rails = 40 :: [41] ∧ (rails [40]).phase = 4 ∧ 33 / 4 = dLINK ∧ 8 / 4 = dHOST ∧
    (rails [33]).rails = 33 :: [] ∧ 1 ≤ up.fld F.RGL_REQ_CFG_RETRIES ∧ (requesting pllWait).canonical = true ∧ pllWait.pll = true ∧
    pllWait.todo = [(8#4).toNat] ∧ pllWait.failed = [] := by decide
theorem test_rail_poll : ok (exec (.domainRailPoll (.status 0)) (requesting (rails [40, 41]))) (fun t => t.power.req.map (·.rails) == some [41]) = true ∧
    ok (exec (.domainRailPoll (.status 0)) (requesting (rails [33]))) (fun t => t.power.req.map (·.pll) == some true) = true ∧
    ok (exec (.domainRailPoll .nacked) (requesting (rails [40]))) (fun t => t.power.req.map (·.attempts) == some 2) = true := by decide
theorem test_pll_timeout : ok (exec (.domainPllTimeout 8) (requesting pllWait)) (fun t => t.fld F.PWR_WAKE_FAIL_LAST_CAUSE == 3 && t.domState 8 == 0) = true := by
  decide
theorem witness_wake_forms : ((0x800#16).getLsbD 11 || (0x800#16).getLsbD 6) = true ∧ ((0#16).getLsbD 11 || (0#16).getLsbD 6) = false ∧
    (!(0x40#16).getLsbD 6) = false ∧ ({ preq 3 2 with rails := [40] } : PowerReq).phase ≠ 4 ∧ up.fld F.RGL_REQ_CFG_RETRIES < 8 ∧
    up.domOn (prereq 10) = true ∧ ((up.setDom 4 0).domOn (prereq 10)) = false ∧ pllWait.was = 0 := by decide
theorem test_rail_again : ok (exec (.domainRailPoll (.status 0x800)) (requesting (rails [40]))) (fun t => t.power.req.map (·.rails) == some [40] &&
    t.sent.length == 1) = true := by decide

/-- GPIO 7 is an enabled edge source that wakes LABEL. -/
def gpio : State := up.wr (R.PWR_WAKE_SRC 7) 0x30400#32
theorem witness_gpio : true ≠ gpio.bit (F.PWR_WAKE_SRC_POLARITY 7) ∧ gpio.srcMask 7 ≠ 0 ∧ gpio.power.req = none ∧ gpio.srcEdge 7 = true ∧
    gpio.power.levels.contains 7 ≠ true ∧ false = gpio.bit (F.PWR_WAKE_SRC_POLARITY 7) := by decide
/-- GPIO 6 wakes LINK, which is OFF. -/
def gpioLink : State := (up.wr (R.PWR_WAKE_SRC 6) 0x30100#32).setDom 8 0
theorem witness_source_forms : gpioLink.srcMask 6 ≠ 0 ∧ up.srcMask 6 = 0 ∧ gpioLink.fatal = false ∧ gpioLink.srcEdge 6 = true ∧
    (gpioLink.wr R.PWR_WAKE_PENDING 0x40#32).srcDue (fun k => k == 6) 6 = true ∧
    (∀ m, m < 6 → (gpioLink.wr R.PWR_WAKE_PENDING 0x40#32).srcDue (fun k => k == 6) m = false) ∧
    ((gpioLink.wr R.PWR_WAKE_PENDING 0x40#32).srcFire 6).power.req.isSome = true := by decide
theorem test_source_fires : ok (exec (.wakeSource 6 true) gpioLink) (fun t => t.fld F.PWR_LAST_WAKE_SOURCE == 6 && t.fld F.PWR_LAST_WAKE_MASK == 0x100 &&
    t.power.req.isSome) = true := by decide

theorem witness_timer : (up.setFld F.PWR_TIMER_MS 1).fld F.PWR_TIMER_MS ≠ 0 ∧ up.fld F.PWR_TIMER_MS = 0 ∧ up.serves R.PWR_PAD_RELEASE = true := by decide
theorem test_timer : ok (exec .wakeTimerExpire (up.setFld F.PWR_TIMER_MS 1)) (fun t => t.fld F.PWR_TIMER_MS == 0) = true := by decide
theorem test_pads : ok (exec (.padRelease 0x7FF) ((up.setFld F.PWR_PAD_HELD_MASK 0x7FE).setDom 9 0)) (fun t => t.fld F.PWR_PAD_HELD_MASK == 0x200) = true := by
  decide

def asleep : State := { up with power := { up.power with asleep := true } }
def starting : State := { requesting { pllWait with pll := false } with power := { (requesting { pllWait with pll := false }).power with starting := true, asleep := true } }
theorem witness_clock : up.power.asleep = false ∧ up.bit F.CLK_STATUS_ON_RC = false ∧ asleep.power.asleep = true ∧ up.boot.step ≠ .root ∧
    ({ up with power := { up.power with relock := true } } : State).power.relock = true ∧ starting.power.starting = true ∧
    starting.power.req.map (·.todo) = some [8] ∧ up.power.starting = false := by decide
/-- Every domain but KEEP is OFF, and XTAL_SLEEP allows the crystal to stop. -/
def idle : State := (up.each (List.range 10) fun s d => s.setDom (d + 1) 0).setFld F.CLK_CTRL_XTAL_SLEEP 1
theorem witness_sleep : (idle.bit F.CLK_CTRL_XTAL_SLEEP && !idle.power.asleep && !idle.power.relock && idle.power.req.isNone &&
    !idle.bit F.SCAN_CTRL_RUN && idle.boot.step == .idle && !idle.bit F.CLK_STATUS_ON_RC) = true ∧
    (∀ d, 1 ≤ d → d ≤ 10 → idle.domState d < 2) ∧ up.bit F.CLK_CTRL_XTAL_SLEEP = false := by decide
theorem test_sleep : idle.sleepCheck.power.asleep = true := by decide
theorem test_xtal_lost : ok (exec .xtalLost up) (fun t => t.bit F.CLK_STATUS_ON_RC && t.fatal && t.fld F.CLK_DOMAIN_CLK_MASK == 1 &&
    t.fld F.CLK_XTAL_LOSSES_COUNT == 1) = true := by decide
theorem test_xtal_start : ok (exec .xtalStartTimeout starting) (fun t => t.fld F.PWR_WAKE_FAIL_LAST_CAUSE == 4 && t.domState 8 == 0) = true := by decide
def stepping : State :=
  let s := up.setFld F.RGL_AVS_CTRL_MODE 1
  { s with power := { s.power with avsTarget := 800 } }
def avsWriting (n : Nat) : State := { up with power := { up.power with avsWrite := some (805, n) } }
theorem witness_avs : stepping.bit F.RGL_AVS_CTRL_MODE = true ∧ stepping.power.avsStopped = false ∧ stepping.power.avsWrite = none ∧
    max (stepping.fld F.RGL_AVS_LIMITS_MIN) (min (stepping.fld F.RGL_AVS_LIMITS_MAX) (stepping.power.avsTarget - 5)) ≠ stepping.power.avsTarget ∧
    up.bit F.RGL_AVS_CTRL_MODE = false ∧ (avsWriting 1).power.avsWrite = some (805, 1) ∧ 1 ≤ (avsWriting 1).fld F.RGL_REQ_CFG_RETRIES ∧
    (avsWriting 8).fld F.RGL_REQ_CFG_RETRIES < 8 := by decide
theorem witness_avs_forms : ¬((830#16).toNat ≤ 805 + 10) ∧ (815#16).toNat ≤ 805 + 10 ∧ 805 ≤ (795#16).toNat + 10 ∧ up.power.avsWrite = none := by
  decide
theorem test_avs_far : ok (exec (.avsWriteDone (.frame true 816)) (avsWriting 1)) (fun t => t.power.avsWrite == some (805, 2)) = true := by decide
theorem test_avs : ok (exec (.avsWriteDone (.frame true 805)) (avsWriting 1)) (fun t => t.fld F.RGL_AVS_NOW_MV == 805) = true ∧
    ok (exec (.avsWriteDone .timeout) (avsWriting 8)) (fun t => t.bit F.RGL_AVS_NOW_FAIL && t.fld F.RGL_LAST_FAIL_CAUSE == 2) = true := by decide
theorem test_alert : ok (exec .pmbAlert up) (fun t => t.fld F.RGL_ALERTS_COUNT == 1 && t.rd 0x300C == 2) = true := by decide

/-! ### Memories and maintenance -/

/-- A march waits behind another activity. -/
def marching : State := { up with mem := { up.mem with running := [⟨0, 0, 0, 2688, 1, true, 0⟩] } }
def marchWord (first count : Nat) (preserve : Bool) : Word := BitVec.ofNat 32 (first + count * 2 ^ 12 + b2n preserve * 2 ^ 28 + 2 ^ 31)
theorem witness_march : up.serves R.SRAMC_MARCH_CMD = true ∧ ((marching.mem.running ++ marching.mem.queued).any fun m => m.act == 0) = true ∧
    ((up.mem.running ++ up.mem.queued).any fun m => m.act == 0) = false ∧ bitsOf (marchWord 0 0 false) 12 13 = 0 ∧
    bitsOf (marchWord 4095 1 true) 0 12 + bitsOf (marchWord 4095 1 true) 12 13 ≤ 4096 ∧ bitOf (marchWord 4095 1 true) 28 = true ∧
    (up.setFld F.SCAN_CTRL_RUN 1).bit F.SCAN_CTRL_RUN = true ∧ ¬(2688 ≤ bitsOf (marchWord 2687 1 false) 0 12) ∧
    (⟨0, 0, 0, 4095, 1, true, 0⟩ : MaintReq).needs.all up.domOn = true ∧ (⟨0, 0, 0, 0, 1, true, 0⟩ : MaintReq).needs.all (up.setDom dSTORE 0).domOn = false ∧
    up.mem.running = [] := by decide
theorem test_march : ok (exec (.marchGo (marchWord 4095 1 true)) up) (fun t => t.fld F.SRAMC_MARCH_STATUS_RESULT == 2 && t.mem.running.length == 1) = true ∧
    ok (exec (.marchGo (marchWord 2687 1 false)) (up.setFld F.SCAN_CTRL_RUN 1)) (fun t => t.fld F.SRAMC_MARCH_STATUS_RESULT == 3) = true ∧
    ok (exec (.marchGo (marchWord 0 1 true)) marching) (fun t => t.fld F.SRAMC_MARCH_STATUS_RESULT == 4) = true := by decide
def canary (cell region aborts : Nat) (retry : Bool) : State :=
  let s := ((up.setFld F.CANARY_CTRL_EN 1).setFld F.CANARY_POS_CELL cell).setFld F.CANARY_POS_REGION region
  { s with mem := { s.mem with aborts := aborts, retry := retry } }
theorem witness_canary : (canary 4095 6 0 false).canaryReady = true ∧ (canary 4095 6 0 false).mem.retry = false ∧
    (canary 4095 6 0 false).fld F.CANARY_POS_CELL * 8 + (canary 4095 6 0 false).fld F.CANARY_POS_REGION + 1 < 32768 ∧
    (canary 4095 6 0 false).domOn (cellDomain 4095) = true ∧ (canary 0 7 15 true).mem.retry = true ∧ (canary 0 7 15 true).mem.aborts < 16 ∧
    16 ≤ (canary 0 7 16 true).mem.aborts := by decide
theorem test_canary : ok (exec (.canaryRegionTest ⟨[], []⟩) (canary 0 7 0 false)) (fun t => t.fld F.CANARY_POS_CELL == 1 && t.fld F.CANARY_POS_REGION == 0) = true ∧
    ok (exec .canaryAbort (canary 0 7 0 false)) (fun t => t.mem.retry && t.fld F.CANARY_ABORTS_COUNT == 1) = true ∧
    ok (exec .canaryRetry (canary 0 7 16 true)) (fun t => t.fld F.CANARY_SKIPPED_COUNT == 1 && t.fld F.CANARY_POS_CELL == 1) = true := by decide

theorem witness_canary_forms : (canary 0 7 0 false).canaryOn = true ∧ (up.setFld F.CANARY_CTRL_EN 0).canaryOn = false ∧
    ({ canary 0 7 0 false with mem := { (canary 0 7 0 false).mem with running := [⟨0, 0, 0, 0, 4096, true, 0⟩] } } : State).canaryReady = false ∧
    ((canary 0 7 0 false).setDom (cellDomain 0) 0).domOn (cellDomain 0) = false ∧
    SMap.get (fun _ => 0) up.mem.spares 0 ≤ (257#9).toNat - 256 := by decide
theorem test_canary_repair : ok (exec (.canaryRegionTest ⟨[0xFF], []⟩) (canary 0 7 0 false)) (fun t => t.fld F.CANARY_FAULTS_COUNT == 1 &&
    t.fld F.SRAMC_REPAIRS_COUNT == 1 && SMap.get (fun _ => 0) t.mem.spares 0 == 1) = true := by decide
theorem witness_repair : SMap.get (fun _ => 0) up.mem.spares 0 < 2 ∧ 0 ∉ up.mem.exhausted ∧
    2 ≤ SMap.get (fun _ => 0) ({ up with mem := { up.mem with spares := [(0, 2)] } } : State).mem.spares 0 ∧
    (⟨0, 2063⟩ : CellWord).word.toNat < 2064 := by decide

def scrubbing : State := { up with mem := { up.mem with running := [plainReq 4] } }
theorem witness_maint : up.serves R.MAINT_REQ = true ∧ up.domOn dSTORE = true ∧ up.domOn dFORE = true ∧ up.domOn dMAP = true ∧
    ((scrubbing.mem.running ++ scrubbing.mem.queued).any fun m => m.act == 4) = true ∧ up.boot.mbox = none ∧
    scrubbing.mem.running.find? (fun m => m.act == 4) = some (plainReq 4) ∧ up.boot.step ≠ .march ∧
    up.mem.running.find? (fun m => m.act == BitVec.toNat 3#3) = none ∧ (marching.mem.running.find? (fun m => m.act == 0)).isSome = true ∧
    (up.setFld F.MAPS_REFRESH_DAYS 1).fld F.MAPS_REFRESH_DAYS ≠ 0 ∧ 5632 ≤ (5632#14).toNat ∧ (5631#14).toNat < 5632 := by decide
theorem test_scrub : ok (exec .maintReqScrub up) (fun t => t.mem.running.map (·.act) == [4]) = true ∧
    ok (exec (.scrubPassDone 3 []) scrubbing) (fun t => t.fld F.DRAMC_CORR_COUNT == 3 && t.fld F.DRAMC_PASSES_COUNT == 1 && t.fld F.MAINT_LAST_DONE_ACTIVITY == 4) = true := by
  decide
/-- A march waits while Canary's region test runs. -/
def canaryHolds : State := { up with mem := { up.mem with running := [plainReq 1], queued := [⟨0, 0, 0, 0, 1, true, 0⟩] } }
theorem witness_arbiter : canaryHolds.mem.running.any (⟨0, 0, 0, 0, 1, true, 0⟩ : MaintReq).overlaps = true ∧
    (up.mem.running.any (plainReq 4).overlaps) = false ∧ up.foremanHolds (plainReq 4) = false ∧
    (scrubbing.mem.running ++ scrubbing.mem.queued).any (plainReq 4).same = true ∧
    ({ up with boot := { up.boot with step := .march } } : State).boot.step = .march ∧ (⟨0, 0, 0, 0, 1, true, 0⟩ : MaintReq).act < 8 := by decide
theorem test_refresh_due : ok (exec (.nandrefreshDue 5631) (up.setFld F.MAPS_REFRESH_DAYS 1)) (fun t => t.mem.refresh.contains 5631) = true := by decide
def buffered : State := { up with pstore := { up.pstore with buf := [(4, 7#32), (4, 8#32)] } }
theorem witness_pstore : buffered.pstore.buf = (4, 7#32) :: [(4, 8#32)] ∧ up.pstore.buf = [] := by decide
theorem test_pstore : ok (exec .pstoreWordWrite buffered) (fun t => t.pstore.buf == [(4, 8#32)] && t.persRead 4 == 8#32) = true := by decide
def scratched : State := up.setFld F.SRAMC_SP_CFG_HOST_WR 1
theorem witness_scratchpad : scratched.serves R.SRAMC_SP_CFG = true ∧ scratched.domOn dFORE = true ∧ scratched.bit F.SRAMC_SP_CFG_HOST_WR = true ∧
    (up.setFld F.SRAMC_SP_CFG_HOST_WR 0).bit F.SRAMC_SP_CFG_HOST_WR = false := by decide
theorem test_scratchpad_conflict :
    ok (exec (.scratchpadWrite 0x400000 9 (.conflict 5)) (scratched.setFld F.SRAMC_SP_CFG_MODE 0)) (fun t => t.scratch 0 == 9 &&
      t.fld F.SRAMC_SP_STALLS_COUNT == 3) = true ∧
    ok (exec (.scratchpadWrite 0x400000 9 .free) (up.setFld F.SRAMC_SP_CFG_HOST_WR 0)) (fun t => t.scratch 0 == 0 &&
      t.fld F.SRAMC_SP_DROPPED_COUNT == 1) = true := by decide
theorem test_scratchpad :
    ok (exec (.scratchpadWrite 0x7FFFFC 0x44332211#32 (.sameWord 0xAABBCCDD#32 5#4)) scratched) (fun t =>
      t.scratch ((0x7FFFFC - 0x400000) / 4) == 0x44BB22DD#32 && t.fld F.SRAMC_COLLISIONS_COUNT == 1) = true := by decide

/-! ### Resets, start-up, errors -/

theorem test_cold : ok (exec (.coldReset 2) ((up.setDom 9 0).setFld F.CHIP_STATE_FATAL 1)) (fun t => t.boot.bootsel == 2 && !t.fatal && t.regs == []) = true := by
  decide
/-- The data link is up and the function answers. -/
theorem witness_host_reset : up.canonical = true ∧ up.hostWaking = false ∧ up.power.perstLow = false ∧ up.bit F.PWR_PERST_CFG_AUTO_OFF = false ∧
    up.bit F.PCIEX_LINK_STATUS_DL_UP = true ∧ up.serves R.CHIP_RESET_CTRL = true ∧ bitOf 0xA501#32 0 = true ∧ bitOf 0xA501#32 1 = false ∧
    bitsOf 0xA501#32 8 8 = 0xA5 := by decide
theorem test_soft_reset : ok (exec (.softResetHost 0xA501#32) (queued qACTIVE)) (fun t => t.hostReset && t.queues == [] && t.fld F.CHIP_HOST_RESETS_COUNT == 1 &&
    t.fld F.CHIP_RESET_CAUSE_CAUSES / 8 % 2 == 1) = true := by decide
theorem test_perst : ok (exec .perstAssert up) (fun t => t.hostReset && t.power.perstLow) = true := by decide
theorem witness_reset_forms : up.canonical = true ∧ (1 : Nat) < 7 ∧ (up.setDom dHOST 3).domOn dHOST = false ∧
    ({ up with power := { up.power with perstLow := true } } : State).power.perstLow = true ∧ up.hostReset = false ∧
    (up.setFld F.PCIEX_LINK_STATUS_DL_UP 0).bit F.PCIEX_LINK_STATUS_DL_UP = false ∧ ({ up with hostReset := true } : State).hostReset = true := by decide
def held (low : Bool) : State := { up with hostReset := true, power := { up.power with perstLow := low } }
theorem witness_reset_end : (held false).runs = true ∧ (held false).hostReset = true ∧ (held true).power.perstLow = true ∧ (held true).power.perstLatch = false := by
  decide

def booting (a : Bool) (sel : Nat) : State := { (up.setFld F.CHIP_BOOT_STATUS_STAGE 0) with boot := { up.boot with step := .dram, again := a, bootsel := sel, foreman := false } }
theorem witness_boot : (booting false 0).boot.step = .dram ∧ (booting false 0).boot.again = false ∧ (booting false 2).boot.bootsel = 2 ∧
    (booting false 2).domOn dFORE = true ∧ (booting false 2).fld F.CHIP_BOOT_STATUS_STAGE ≠ stageReady ∧ up.boot.step ≠ .dram ∧
    bitOf 0xA503#32 1 = true ∧ up.boot.full = 0 ∧ bitOf 0x2#32 1 = true ∧ ({ up with boot := { up.boot with full := 1 } } : State).boot.full ≠ 0 ∧
    (running [upd]).serves R.CHIP_RESET_CTRL = true := by decide
theorem test_dram_again : ok (exec (.dramTrainingDone false) (booting false 0)) (fun t => t.boot.again) = true := by decide
theorem test_full_scope : ok (exec (.softResetFull 0xA503#32) (running [upd])) (fun t => t.boot.full == 1 && t.label.stopDue) = true := by decide
theorem test_full_end : ok (exec .fullScopeSequenceTimeout { up with boot := { up.boot with full := 1 }, dram := [(0, 1)] })
    (fun t => t.dram == [] && t.domState 2 != 2 && t.fld F.CHIP_RESET_CAUSE_CAUSES / 16 % 2 == 1) = true := by decide
theorem test_boundary_scan : ok (exec .boundaryScanInstruction (scanning 0 0 8)) (fun t => !t.bit F.SCAN_CTRL_RUN && !t.bit F.SCAN_STATUS_RUNNING) = true := by
  decide

theorem witness_errors : up.domOn dFORE = true ∧ up.boot.foreman = true ∧ noForeman.boot.foreman = false ∧ pageUsed 0x99 = false ∧
    pageRegion 0x11 = 1 ∧ pageRegion 0x20 = 7 ∧ pageRegion 0x24 ≠ 1 ∧ pageUsed 0x24 = true ∧ up.serves R.CHIP_FATAL_FORCE = true ∧
    (0x20100 : Nat) ≠ R.CHIP_STATE ∧ fieldMask 0x20100 ≠ 0 ∧ fieldMask 0x99100 = 0 ∧ pageDomain (ownerPage 0x1108) = dKEEP ∧
    pageDomain (ownerPage 0x10104) ≠ dKEEP ∧ signedOf 12 (100#12).toNat < 8 * (up.fld F.TMON_FATAL_LIM_DEG : Int) ∧
    8 * (up.fld F.TMON_FATAL_LIM_DEG : Int) ≤ signedOf 12 (2000#12).toNat := by decide
theorem witness_error_forms : (0x41 : Nat) ∉ [0x05, 0x06, 0x07, 0x08, 0x0B, 0x44] ∧ pageRegion 0x41 ≠ 1 ∧ pageRegion 0x06 ≠ 1 ∧
    pageRegion 0x20 ≥ 6 ∧ pageRegion 0x24 < 6 ∧ (up.setFld F.CHIP_STATE_FATAL 1).fatal = true ∧ up.fatal = false ∧ up.boot.hot ≠ 7 ∧
    up.recWord 0 2 = 0 := by decide
theorem test_fatal_force : ok (exec (.fatalForce 0xA501#32) up) (fun t => t.fatal && t.fld F.CHIP_STATE_CAUSE == fcFORCED) = true ∧
    ok (exec (.fatalForce 0xA500#32) up) (fun t => !t.fatal) = true := by decide
theorem test_overtemp : ok (exec (.tmonReading 2000) { up with boot := { up.boot with hot := 7 } }) (fun t => t.fatal && t.fld F.CHIP_STATE_CAUSE == fcOVERTEMP) = true ∧
    ok (exec (.tmonReading 2000) { up with boot := { up.boot with hot := 6 } }) (fun t => !t.fatal && t.boot.hot == 7) = true := by decide
theorem test_block_watchdog : ok (exec (.blockWdogExpire 0x11) up) (fun t => t.hostReset && t.fld F.CHIP_RESET_CAUSE_CAUSES / 64 % 2 == 1) = true ∧
    ok (exec (.blockWdogExpire 0x24) up) (fun t => t.fatal && t.fld F.CHIP_STATE_CAUSE == fcWDOG) = true := by decide
theorem test_port_timeout : ok (exec (.portTimeout 0x20) up) (fun t => t.rd 0x20018 == 16 && !t.fatal) = true := by decide

/-! ### Mailbox, PCI Express -/

def mboxDone (r : Option MboxResult) (op step : Nat) : State :=
  { running [upd] with boot := { up.boot with mbox := some ⟨op, 7, 0, 0, 0, r, 0, false, step, 0, 0⟩ } }
theorem witness_mailbox : up.serves R.FORE_MBOX_CMD = true ∧ up.boot.mbox = none ∧ up.boot.foreman = true ∧ (mboxDone none 8 1).boot.mbox.isSome = true ∧
    (mboxDone none 8 1).domOn dLABEL = true ∧ (mboxDone none 8 1).label.run ≠ [] := by decide
/-- Recovery serves the mailbox. -/
def recovering : State := { up with boot := { up.boot with foreman := false, recovery := true } }
theorem witness_mailbox_forms : recovering.boot.recovery = true ∧ recovering.boot.foreman = false ∧ up.boot.recovery = false ∧
    (2 : Nat) ∉ [1, 3, 5] ∧ locStart 0x70000 = none ∧ up.nandUp = true ∧ up.loadDomains 2 = true := by decide
theorem test_recovery : ok (exec (.mboxLoadImage 7) recovering) (fun t => (t.boot.mbox.bind (·.result)).map (·.code) == some mbINVALID) = true := by
  decide
theorem test_ping : ok (exec (.mboxPing 7) up) (fun t => t.boot.mbox.map (·.op) == some 1 && t.bit F.FORE_MBOX_STATUS_BUSY) = true := by decide
theorem test_stage_invalid : ok (exec (.mboxStage 7) up) (fun t => (t.boot.mbox.bind (·.result)).map (·.code) == some mbINVALID) = true := by decide
theorem test_shutdown : ok (exec (.mboxShutdown 7) up) (fun t => t.label.closing) = true := by decide
theorem test_mailbox_done : ok (exec .mboxCommandDone (mboxDone (some ⟨0, some 0, some 5, some 6⟩) 1 0)) (fun t => t.boot.mbox == none &&
    t.fld F.FORE_MBOX_STATUS_SEQ == 7 && t.rd (R.FORE_MBOX_OUTn 0) == 5) = true := by decide
theorem test_label_wait : ok (exec .shutdownLabelWaitExpire (mboxDone none 8 1)) (fun t => t.label.stopDue) = true := by decide
/-- A trial of the image of record 0, of which one attempt is left. -/
def trial : State := { up with boot := { up.boot with trial := true, record := some 0 }, pstore := { up.pstore with words := [(recBase 0 + 2, 1#32)] } }
theorem witness_trial : trial.boot.trial = true ∧ trial.boot.record = some 0 ∧ trial.recWord 0 2 ≠ 0 ∧ up.boot.trial = false := by decide

theorem witness_config : up.runs = true ∧ up.domOn dHOST = true ∧ up.power.perstLow = false ∧ (up.setFld F.CHIP_BOOT_STATUS_STAGE 2).memReady = false ∧
    up.memReady = true ∧ (4#12).toNat ∉ [0x44, 0x50, 0x60, 0x78, 0x98, 0xB0, 0x258] ∧ up.hostUp = true ∧ up.pcie.d3hot = false ∧
    ({ up with pcie := { up.pcie with d3hot := true } } : State).pcie.d3hot = true ∧ up.bit F.PCIEX_LINK_STATUS_DL_UP = true ∧
    up.requestPending = false ∧ (reading false).requestPending = true := by decide
theorem test_config_retry : ok (exec (.configRequest false 0 0) (up.setFld F.CHIP_BOOT_STATUS_STAGE 2)) (fun t => t.sent.head? == some .retryStatus) = true := by
  decide
theorem test_d3hot : ok (exec .d3hotEntry up) (fun t => t.pcie.d3hot) = true := by decide
theorem test_d0 : ok (exec .d0Return { up with pcie := { up.pcie with d3hot := true } }) (fun t => !t.pcie.d3hot) = true := by decide
theorem test_l1 : ok (exec (.l1Entry 2) up) (fun t => t.fld F.PCIEX_LINK_STATUS_PM_STATE == 3 && t.fld F.PCIEX_L1_ENTRIES_COUNT == 1) = true := by decide

/-- PTM is enabled; a dialog may run, and one came before. -/
def ptm (busy : Bool) (prev : Option (DWord × DWord)) : State :=
  { up.setFld F.PCIEX_PTM_CFG_PERIOD_MS 1 with pcie := { up.pcie with cfg := [(0x268, 1)], ptmBusy := busy, ptmPrev := prev } }
theorem witness_cage_reads : (onPages hostCopy .bursts).reads (.cage 31) = true ∧ (reading false).reads (.queue 8191) = true ∧
    (filling false).reads (.fill 0xFFFFF 511) = true ∧ up.reads (.cage 31) = false ∧ (up.setDom dHOST 0).domOn dHOST = false := by decide
theorem witness_ptm : (ptm false none).hostUp = true ∧ (ptm false none).ptmEnabled = true ∧ (ptm false none).fld F.PCIEX_PTM_CFG_PERIOD_MS ≠ 0 ∧
    (ptm false none).serves R.PCIEX_PTM_CMD = true ∧ up.ptmEnabled = false ∧ up.fld F.PCIEX_PTM_CFG_PERIOD_MS ≠ 0 ∧
    (ptm true (some (1000, 500))).pcie.ptmBusy = true ∧ (1000#64).toNat < (1201000#64).toNat ∧
    (1201000#64).toNat ≤ (1000#64).toNat + 4 * (ptm true none).fld F.PCIEX_PTM_CFG_PERIOD_MS * 1200000 := by decide
theorem test_ptm : ok (exec (.ptmNow 1) (ptm false none)) (fun t => t.pcie.ptmBusy && t.sent == [.ptmRequest]) = true := by decide
theorem test_ptm_done : ok (exec (.ptmDialogDone 1201000 1000500) (ptm true (some (1000, 500)))) (fun t =>
    t.fld F.PCIEX_PTM_RATIO_RATIO == 2 ^ 30 && t.bit F.PCIEX_PTM_STATUS_RATIO_OK) = true := by decide
theorem witness_read_errors : ((reading false).queue (8191#13).toNat).stale = 0 ∧ ((reading false).queue 8191).reading = true ∧ (up.queue 0).reading = false := by
  decide
theorem test_completion_timeout : ok (exec (.completionTimeout (.queue 8191)) (reading false)) (fun t => t.qState 8191 == qERROR &&
    t.fld (F.QCTX_STATE_CAUSE 8191) == 2) = true := by decide
theorem test_poisoned : ok (exec (.poisonedTlp none) up) (fun t => t.cfg 0x104 == 0x1000#32) = true := by decide

end Sys2Proof.Tests
end

/-! ### PMB_ALERT# (R304) -/

namespace Sys2Proof.Machine

variable (s : State)

/-! #### Counters and interrupt bits -/

theorem State.rd_raise_same (p b : Nat) :
    (s.raise p b).rd (p * 0x1000 + 0x0C) = s.rd (p * 0x1000 + 0x0C) ||| BitVec.ofNat 32 (2 ^ b) := by
  rw [State.rd_raise, if_pos rfl]

theorem State.fld_raise_other (p b : Nat) (f : Fld) (h : p * 0x1000 + 0x0C ≠ f.off) : (s.raise p b).fld f = s.fld f := by
  rw [State.fld, State.fld, State.rd_raise_other s p b h]

theorem RegsBut.trans {s t u : State} {l m : List Nat} (h : RegsBut s t l) (k : RegsBut t u m) : RegsBut s u (l ++ m) := by
  intro o ho
  rw [List.mem_append, not_or] at ho
  rw [k o ho.2, h o ho.1]

theorem regsBut_bump (f : Fld) (n : Nat) : RegsBut s (s.bump f n) [f.off] :=
  fun _ hk => State.rd_bump_other s f n (List.ne_of_not_mem_cons hk).symm

theorem regsBut_raise (p b : Nat) : RegsBut s (s.raise p b) [p * 0x1000 + 0x0C] :=
  fun _ hk => State.rd_raise_other s p b (List.ne_of_not_mem_cons hk).symm

/-! #### The alert -/

/-- The state after an alert is counted and REG_ALERT is raised in INT_STATUS of page 0x03, before the event is posted. -/
def State.alertCounted : State := (s.bump F.RGL_ALERTS_COUNT).raise 0x03 1

theorem exec_pmbAlert_of_runs (h : s.runs = true) :
    exec .pmbAlert s =
      .next (s.alertCounted.post F.PWR_EVT_RING 0x0805 [(32, s.alertCounted.fld F.RGL_ALERTS_COUNT)]) := by
  have hcold : s.boot.step ≠ .cold := by simpa [State.runs] using h
  exact congrArg Host.Outcome.next (if_neg hcold)

theorem State.fld_alertCounted :
    s.alertCounted.fld F.RGL_ALERTS_COUNT = min (s.fld F.RGL_ALERTS_COUNT + 1) (2 ^ 32 - 1) := by
  rw [State.alertCounted, State.fld_raise_other _ _ _ _ (by decide), State.fld_bump_same _ _ _ (by decide)]

theorem State.rd_intStatus_alertCounted : s.alertCounted.rd 0x300C = s.rd 0x300C ||| 2#32 :=
  calc s.alertCounted.rd 0x300C
      = (s.bump F.RGL_ALERTS_COUNT).rd 0x300C ||| 2#32 := State.rd_raise_same _ 0x03 1
    _ = s.rd 0x300C ||| 2#32 := by rw [State.rd_bump_other _ _ _ (by decide)]

theorem regsBut_alertCounted : RegsBut s s.alertCounted [R.RGL_ALERTS, 0x300C] :=
  (regsBut_bump s F.RGL_ALERTS_COUNT 1).trans (regsBut_raise _ 0x03 1)

theorem sameButSignals_alertCounted : SameButSignals s s.alertCounted :=
  (sameButSignals_bump s F.RGL_ALERTS_COUNT 1).trans (sameButSignals_raise _ 0x03 1)

/-- Settles O50: outside COLD the command counts the alert, raises its interrupt bit and posts its event with the count. -/
theorem alertCountsAndReports : Obligations.AlertCountsAndReports := by
  intro s hruns
  exact ⟨s.alertCounted, exec_pmbAlert_of_runs s hruns, s.fld_alertCounted, s.rd_intStatus_alertCounted,
    regsBut_alertCounted s, sameButSignals_alertCounted s⟩

end Sys2Proof.Machine

/-! ### The scratchpad (R323 to R325) -/

namespace Sys2Proof.Machine

variable (s : State)

theorem hostWriteTo_of_serves (off : Nat) (k : State → State) (h : s.serves off = true) : s.hostWriteTo off k = k s := by
  simp only [State.serves, Bool.and_eq_true, Bool.not_eq_true'] at h
  obtain ⟨⟨⟨⟨⟨hhost, hready⟩, hd3⟩, hfatal⟩, hisolated⟩, hdom⟩ := h
  exact hostWriteTo_served s off k hhost hready hd3 hfatal hisolated hdom

/-! #### Words of the scratchpad -/

@[simp] theorem State.scratch_setScratch_same (i : Nat) (w : Word) : (s.setScratch i w).scratch i = w :=
  SMap.get_set_same _ _ _ _

theorem State.scratch_setScratch_other {i j : Nat} (w : Word) (h : j ≠ i) : (s.setScratch i w).scratch j = s.scratch j :=
  SMap.get_set_other _ _ _ h.symm

theorem foldl_add_range_four (g : Nat → Nat) : (List.range 4).foldl (fun a i => a + g i) 0 = g 0 + g 1 + g 2 + g 3 := by
  simp [List.range_succ]

/-- Each byte of a word put together from four bytes reads back. -/
theorem bitsOf_ofNat_bytes (x : Nat → Nat) (hx : ∀ i, x i < 2 ^ 8) {b : Nat} (hb : b < 4) :
    bitsOf (BitVec.ofNat 32 ((List.range 4).foldl (fun a i => a + x i * 2 ^ (8 * i)) 0)) (8 * b) 8 = x b := by
  have h0 := hx 0
  have h1 := hx 1
  have h2 := hx 2
  have h3 := hx 3
  rw [foldl_add_range_four fun i => x i * 2 ^ (8 * i), bitsOf, BitVec.toNat_ofNat]
  interval_cases b <;> omega

/-- R325, byte by byte. -/
theorem bitsOf_mergeBytes (host fore : Word) (en : BitVec 4) {b : Nat} (hb : b < 4) :
    bitsOf (mergeBytes host fore en) (8 * b) 8 = bitsOf (if en.getLsbD b then fore else host) (8 * b) 8 :=
  bitsOf_ofNat_bytes (fun i => bitsOf (if en.getLsbD i then fore else host) (8 * i) 8) (fun _ => bitsOf_lt _ _ _) hb

/-! #### A host write -/

theorem exec_scratchpadWrite_of_serves (off : BitVec 24) (v : Word) (m : SpMeet) (h : s.serves R.SRAMC_SP_CFG = true) :
    exec (.scratchpadWrite off v m) s = .next (s.scratchWrite off.toNat v m) :=
  congrArg Host.Outcome.next (hostWriteTo_of_serves s _ _ h)

theorem State.scratchWrite_of_hostWr_off (off : Nat) (v : Word) (m : SpMeet) (hwr : s.bit F.SRAMC_SP_CFG_HOST_WR = false) :
    s.scratchWrite off v m = s.bump F.SRAMC_SP_DROPPED_COUNT := by
  simp [State.scratchWrite, hwr]

theorem State.scratchWrite_of_fore_off (off : Nat) (v : Word) (m : SpMeet) (hwr : s.bit F.SRAMC_SP_CFG_HOST_WR = true)
    (hfore : s.domOn dFORE = false) : s.scratchWrite off v m = s := by
  simp [State.scratchWrite, hwr, hfore]

section
variable {s} (hwr : s.bit F.SRAMC_SP_CFG_HOST_WR = true) (hfore : s.domOn dFORE = true) (off : Nat) (v : Word)
include hwr hfore

theorem State.scratchWrite_free : s.scratchWrite off v .free = s.setScratch ((off - 0x400000) / 4) v := by
  simp [State.scratchWrite, hwr, hfore]

theorem State.scratchWrite_conflict (n : Nat) :
    s.scratchWrite off v (.conflict n) =
      (s.setScratch ((off - 0x400000) / 4) v).bump F.SRAMC_SP_STALLS_COUNT
        (if s.bit F.SRAMC_SP_CFG_MODE then 1 else min 3 n) := by
  simp [State.scratchWrite, hwr, hfore]

theorem State.scratchWrite_sameWord (d : Word) (en : BitVec 4) :
    s.scratchWrite off v (.sameWord d en) =
      (s.setScratch ((off - 0x400000) / 4) (mergeBytes v d en)).bump F.SRAMC_COLLISIONS_COUNT := by
  simp [State.scratchWrite, hwr, hfore]

end

/-- A host write that is made and counted: what a conflict and a collision have in common. -/
theorem yields_setScratch_bump (i : Nat) (w : Word) (f : Fld) (n : Nat) (hf : f.lo + f.w ≤ 32) :
    Yields (.next ((s.setScratch i w).bump f n)) fun t =>
      t.scratch i = w ∧ (∀ j, j ≠ i → t.scratch j = s.scratch j) ∧ t.fld f = min (s.fld f + n) (2 ^ f.w - 1) ∧
        RegsBut s t [f.off] ∧ t = { s with regs := t.regs, mem := { s.mem with scratch := t.mem.scratch } } :=
  ⟨_, rfl, s.scratch_setScratch_same i w, fun _ hj => s.scratch_setScratch_other w hj,
    (s.setScratch i w).fld_bump_same f n hf, regsBut_bump (s.setScratch i w) f n, rfl⟩

/-- Settles O53: a served host write is what `State.scratchWrite` makes of it, by what keeps it from the scratchpad and by
what it meets there; the bytes of a shared word are those of `bitsOf_mergeBytes`. -/
theorem scratchpadPortsShareWords : Obligations.ScratchpadPortsShareWords := by
  intro s off v d en i hserves hi
  subst hi
  have hexec := fun m => exec_scratchpadWrite_of_serves s off v m hserves
  refine ⟨fun hwr hfore => ?sameWord, fun hwr hfore n => ?conflict, fun hwr hfore => ?free,
    fun m => ⟨fun hwr hfore => ?foreOff, fun hwr => ?hostWrOff⟩⟩
  case sameWord =>
    rw [hexec, State.scratchWrite_sameWord hwr hfore]
    obtain ⟨t, ht, hword, hrest⟩ :=
      yields_setScratch_bump s _ (mergeBytes v d en) F.SRAMC_COLLISIONS_COUNT 1 (by decide)
    exact ⟨t, ht, fun b hb => by rw [hword, bitsOf_mergeBytes v d en hb], hrest⟩
  case conflict =>
    rw [hexec, State.scratchWrite_conflict hwr hfore]
    exact yields_setScratch_bump s _ v F.SRAMC_SP_STALLS_COUNT _ (by decide)
  case free =>
    rw [hexec, State.scratchWrite_free hwr hfore]
    exact ⟨_, rfl, s.scratch_setScratch_same _ v, fun _ hj => s.scratch_setScratch_other v hj, rfl⟩
  case foreOff => rw [hexec, s.scratchWrite_of_fore_off _ v m hwr hfore]
  case hostWrOff =>
    rw [hexec, s.scratchWrite_of_hostWr_off _ v m hwr]
    exact ⟨_, rfl, s.fld_bump_same F.SRAMC_SP_DROPPED_COUNT 1 (by decide), regsBut_bump s _ 1, sameButRegs_bump s _ 1⟩

end Sys2Proof.Machine

/-! ### What every command keeps: the queue, and the canonical form of the stores -/

namespace Sys2Proof.Machine

theorem State.canonical_iff (s : State) :
    s.canonical = true ↔
      SMap.wf resetWord s.regs = true ∧ SMap.wf dramDefault s.dram = true ∧ SMap.wf (fun _ => 0) s.surf.pageTab = true := by
  rw [State.canonical, Bool.and_eq_true, Bool.and_eq_true, and_assoc]

/-- From `s` to `t` the queue of commands stays, and so does the canonical form of the stores, if `s` has it. -/
def Keeps (s t : State) : Prop := t.pending = s.pending ∧ (s.canonical = true → t.canonical = true)

variable {s t : State}

/-! #### Rules for building a state up -/

theorem Keeps.rfl : Keeps s s := ⟨Eq.refl _, id⟩

theorem Keeps.trans {u : State} (h : Keeps s t) (k : Keeps t u) : Keeps s u := ⟨k.1.trans h.1, k.2 ∘ h.2⟩

/-- A state that more than one branch goes on from need be looked at only once. -/
theorem Keeps.then {u : State} (h : Keeps s t) (k : Keeps t t → Keeps t u) : Keeps s u := h.trans (k .rfl)

theorem Keeps.ite {a b : State} {c : Prop} {_ : Decidable c} (ha : Keeps s a) (hb : Keeps s b) :
    Keeps s (if c then a else b) := by split <;> assumption

/-- A choice between two states that come with something else. -/
theorem Keeps.iteP {α : Type} {p : α → State} {a b : α} {c : Prop} {_ : Decidable c} (ha : Keeps s (p a)) (hb : Keeps s (p b)) :
    Keeps s (p (if c then a else b)) := by split <;> assumption

/-- A fold in which a state is threaded through, alone or with something else: `p` is the state. -/
theorem Keeps.foldlP {α β : Type} (p : β → State) {f : β → α → β} {xs : List α} {b : β} (h : Keeps s (p b))
    (hf : ∀ b x, Keeps s (p b) → Keeps s (p (f b x))) : Keeps s (p (xs.foldl f b)) := by
  induction xs generalizing b with
  | nil => exact h
  | cons x xs ih => exact ih (hf b x h)

theorem Keeps.foldl {α : Type} {f : State → α → State} {xs : List α} (h : Keeps s t)
    (hf : ∀ u x, Keeps s u → Keeps s (f u x)) : Keeps s (xs.foldl f t) := h.foldlP id hf

theorem Keeps.each {α : Type} {f : State → α → State} {xs : List α} (h : Keeps s t)
    (hf : ∀ u x, Keeps s u → Keeps s (f u x)) : Keeps s (t.each xs f) := h.foldl hf

/-- Any change that leaves the queue, the register file, device DRAM and the page table alone. -/
theorem Keeps.upd {a1 a2 a3 a4 a6 a7 a8 b1 b2 b3 b4 b5 b6 b7 b8 b9 b10 a11 a12 a13 a14 a15 a16 a17 a18 a19 a20 a21 a22 a23 a24
    a25 a26 a27 a28 a29 a30 a31 a32} (h : Keeps s t) :
    Keeps s ⟨t.pending, a1, a2, a3, a4, t.regs, a6, a7, a8, t.dram, ⟨t.surf.pageTab, b1, b2, b3, b4, b5, b6, b7, b8, b9, b10⟩,
      a11, a12, a13, a14, a15, a16, a17, a18, a19, a20, a21, a22, a23, a24, a25, a26, a27, a28, a29, a30, a31, a32⟩ := h

/-- The register file is replaced by one in canonical form. -/
theorem Keeps.setRegs {m : SMap Word} (h : Keeps s t)
    (hm : SMap.wf resetWord t.regs = true → SMap.wf resetWord m = true) : Keeps s { t with regs := m } := by
  refine ⟨h.1, fun hs => ?_⟩
  obtain ⟨hr, hd, hp⟩ := t.canonical_iff.mp (h.2 hs)
  exact (State.canonical_iff _).mpr ⟨hm hr, hd, hp⟩

theorem Keeps.setDram {m : SMap Byte} (h : Keeps s t)
    (hm : SMap.wf dramDefault t.dram = true → SMap.wf dramDefault m = true) : Keeps s { t with dram := m } := by
  refine ⟨h.1, fun hs => ?_⟩
  obtain ⟨hr, hd, hp⟩ := t.canonical_iff.mp (h.2 hs)
  exact (State.canonical_iff _).mpr ⟨hr, hm hd, hp⟩

theorem Keeps.setPageTab {m : SMap DWord} (h : Keeps s t)
    (hm : SMap.wf (fun _ => 0) t.surf.pageTab = true → SMap.wf (fun _ => 0) m = true) :
    Keeps s { t with surf := { t.surf with pageTab := m } } := by
  refine ⟨h.1, fun hs => ?_⟩
  obtain ⟨hr, hd, hp⟩ := t.canonical_iff.mp (h.2 hs)
  exact (State.canonical_iff _).mpr ⟨hr, hd, hm hp⟩

theorem SMap.sorted_of_wf {β : Type} [DecidableEq β] {d : Nat → β} {m : SMap β} (h : SMap.wf d m = true) :
    SMap.sorted m = true := ((SMap.wf_iff d m).mp h).1

theorem SMap.wf_foldl {α β : Type} [DecidableEq β] {d : Nat → β} {f : SMap β → α → SMap β} {xs : List α} {m : SMap β}
    (h : SMap.wf d m = true) (hf : ∀ m x, SMap.wf d m = true → SMap.wf d (f m x) = true) :
    SMap.wf d (xs.foldl f m) = true := by
  induction xs generalizing m with
  | nil => exact h
  | cons x xs ih => exact ih (hf m x h)

/-! #### Every operation of the model, in the order of its definitions -/

theorem Keeps.wr (h : Keeps s t) {off v} : Keeps s (t.wr off v) := h.setRegs (SMap.wf_set _ _ _ _)

theorem Keeps.setFld (h : Keeps s t) {f v} : Keeps s (t.setFld f v) := h.wr

theorem Keeps.setBit (h : Keeps s t) {f b} : Keeps s (t.setBit f b) := h.setFld

theorem Keeps.bump (h : Keeps s t) {f n} : Keeps s (t.bump f n) := h.setFld

theorem Keeps.setDom (h : Keeps s t) {d v} : Keeps s (t.setDom d v) := h.setFld

theorem Keeps.emit (h : Keeps s t) {o} : Keeps s (t.emit o) := h.upd

theorem Keeps.draw (h : Keeps s t) : Keeps s t.draw.2 := h.upd

theorem Keeps.freeBytes (h : Keeps s t) {n} : Keeps s (t.freeBytes n).2 := h.upd

theorem Keeps.dramWrite (h : Keeps s t) {a bs} : Keeps s (t.dramWrite a bs) := h.setDram (dramWriteGo_wf _ _ _)

theorem Keeps.setCfg (h : Keeps s t) {off v} : Keeps s (t.setCfg off v) := h.upd

theorem Keeps.msixSend (h : Keeps s t) {v} : Keeps s (t.msixSend v) := h.emit

theorem Keeps.msiSend (h : Keeps s t) {v m} : Keeps s (t.msiSend v m) := h.emit

theorem Keeps.signal (h : Keeps s t) {v} : Keeps s (t.signal v) :=
  .ite (.ite h.upd h.msixSend) (.ite (.ite h.setCfg h.msiSend) h)

theorem Keeps.flushVectors (h : Keeps s t) : Keeps s t.flushVectors :=
  .ite h (.ite (.ite h (h.upd.each (fun _ _ h => h.msixSend))) (.ite (h.each (fun _ _ h => (.ite h.setCfg.msiSend h))) h))

theorem Keeps.summaryEdge (h : Keeps s t) {before} : Keeps s (State.summaryEdge before t) := .ite (.ite h.signal h.upd) h

theorem Keeps.raise (h : Keeps s t) {page bit} : Keeps s (t.raise page bit) := h.wr.summaryEdge

theorem Keeps.aerUncorr (h : Keeps s t) {bit} : Keeps s (t.aerUncorr bit) := h.setCfg.then fun h => (.ite h h.emit)

theorem Keeps.request (h : Keeps s t) {o} : Keeps s (t.request o) := .ite h.upd (Keeps.ite h h.setFld).emit

theorem Keeps.hostData (h : Keeps s t) {addr bs} : Keeps s (t.hostData addr bs) := h.each (fun _ _ h => h.request)

theorem Keeps.hostCtl (h : Keeps s t) {addr bs} : Keeps s (t.hostCtl addr bs) := h.request

theorem Keeps.hostReadReq (h : Keeps s t) {addr n} : Keeps s (t.hostReadReq addr n) := h.each (fun _ _ h => h.request)

theorem Keeps.noteRead (h : Keeps s t) {r} : Keeps s (t.noteRead r) := by
  unfold State.noteRead
  split
  · exact h.bump.aerUncorr
  · exact h

theorem Keeps.setRing (h : Keeps s t) {r h'} : Keeps s (t.setRing r h') := h.upd

theorem Keeps.ringLose (h : Keeps s t) {r n} : Keeps s (t.ringLose r n) := .ite h h.bump.bump.raise

theorem Keeps.setHold (h : Keeps s t) {r h'} : Keeps s (t.setHold r h') := h.setRing.setFld

theorem Keeps.ringSignal (h : Keeps s t) {r} : Keeps s (t.ringSignal r) := h.setRing.signal

theorem Keeps.ringWrite (h : Keeps s t) {r e} : Keeps s (t.ringWrite r e) :=
  h.hostCtl.setFld.setRing.then fun h => (.ite h.ringSignal h)

theorem Keeps.ringDrainGo (h : Keeps s t) {n r} : Keeps s (ringDrainGo n r t) := by
  induction n generalizing t with
  | zero => exact h
  | succ n ih =>
    unfold Machine.ringDrainGo
    dsimp only
    split
    · exact h
    · exact .ite (ih h.setHold.ringWrite) (.ite (ih h.setHold.ringWrite) h)

theorem Keeps.ringDrain (h : Keeps s t) {r} : Keeps s (t.ringDrain r) :=
  .ite h (h.ringDrainGo.then fun h => (.ite (h.setRing.then fun h => (.ite h.ringWrite h.setHold)) h))

theorem Keeps.postR (h : Keeps s t) {r reserved e} : Keeps s (t.postR r reserved e) :=
  .ite h (.ite h.ringLose (.ite (Keeps.ite h.setRing h).ringWrite (.ite h.setHold h.setRing.ringLose)))

theorem Keeps.post (h : Keeps s t) {ring code fields} : Keeps s (t.post ring code fields) := h.postR

theorem Keeps.blockError (h : Keeps s t) {page kind} : Keeps s (t.blockError page kind) := h.wr.bump.raise.draw.post

theorem Keeps.blockCorrs (h : Keeps s t) {page n} : Keeps s (t.blockCorrs page n) := h.wr.bump

theorem Keeps.clampReportAt (h : Keeps s t) {page slot kept off orig new} :
    Keeps s (t.clampReportAt page slot kept off orig new) :=
  h.bump.wr.wr.wr.upd.setFld.bump

theorem Keeps.clampReport (h : Keeps s t) {slot kept off orig new} : Keeps s (t.clampReport slot kept off orig new) :=
  h.clampReportAt

theorem Keeps.dependent (h : Keeps s t) {slot f v} : Keeps s (t.dependent slot f v) := .ite h h.setFld.clampReport

theorem Keeps.dependents (h : Keeps s t) {slot off} : Keeps s (t.dependents slot off) :=
  .ite (Keeps.ite h h.setFld.setFld.clampReport).dependent (.ite h.dependent h)

theorem Keeps.applyIn (h : Keeps s t) {ctx slot sel off v} : Keeps s (t.applyIn ctx slot sel off v) :=
  .ite h.wr.clampReport h.wr

theorem Keeps.applyWrite (h : Keeps s t) {slot sel off v} : Keeps s (t.applyWrite slot sel off v) := h.applyIn.dependents

theorem Keeps.refuseCommand (h : Keeps s t) {off v} : Keeps s (t.refuseCommand off v) := h.clampReport

theorem Keeps.hostWriteTo (h : Keeps s t) {off} {k : State → State} (hk : ∀ u, Keeps s u → Keeps s (k u)) :
    Keeps s (t.hostWriteTo off k) := .ite h (.ite h.bump (.ite h (.ite h.bump (hk _ h))))

theorem Keeps.portWriteTo (h : Keeps s t) {port off} {k : State → State} (hk : ∀ u, Keeps s u → Keeps s (k u)) :
    Keeps s (t.portWriteTo port off k) := by
  cases port with
  | pcie => exact h.hostWriteTo hk
  | foreman => exact .ite (hk _ h) h

theorem Keeps.setEntry (h : Keeps s t) {p e} : Keeps s (t.setEntry p e) := h.setPageTab (SMap.wf_set _ _ _ _)

theorem Keeps.applyEntry (h : Keeps s t) {slot p lo loWritten hi} : Keeps s (t.applyEntry slot p lo loWritten hi) :=
  .ite (Keeps.ite h.clampReport h).clampReport h.setEntry

theorem Keeps.directEntry (h : Keeps s t) {p lo hi} : Keeps s (t.directEntry p lo hi) := .ite h.upd h.applyEntry

theorem Keeps.pageEntryWrite (h : Keeps s t) {p w} : Keeps s (t.pageEntryWrite p w) := by
  unfold State.pageEntryWrite
  split
  · exact h.upd
  · exact h.upd.directEntry
  · exact h.upd.directEntry

theorem Keeps.applyStagedEntries (h : Keeps s t) : Keeps s t.applyStagedEntries := h.upd.each (fun _ _ h => h.applyEntry)

theorem Keeps.bar4Read (h : Keeps s t) {o n} : Keeps s (t.bar4Read o n) :=
  .ite h.emit (Keeps.ite h.bump h.bump.bump.raise).emit

theorem Keeps.bar4Write (h : Keeps s t) {o bs} : Keeps s (t.bar4Write o bs) := by
  refine .ite h (Keeps.bump (h.setDram fun hd => SMap.wf_foldl hd fun m x hm => ?_))
  split
  · exact hm
  · split
    · exact hm
    · exact SMap.wf_set _ _ _ _ hm

theorem Keeps.rcacheTouch (h : Keeps s t) {l} : Keeps s (t.rcacheTouch l) := h.upd

theorem Keeps.rcacheInvalidate (h : Keeps s t) {p} : Keeps s (t.rcacheInvalidate p) := h.upd

theorem Keeps.rcacheRequest (h : Keeps s t) {page line need} : Keeps s (t.rcacheRequest page line need) := by
  unfold State.rcacheRequest
  split
  · exact h.upd
  · exact h.hostReadReq.upd

theorem Keeps.ltrUpdate (h : Keeps s t) : Keeps s t.ltrUpdate := .ite h h.upd.setFld.emit

theorem Keeps.releaseFence (h : Keeps s t) {kind cookie first count frame} :
    Keeps s (t.releaseFence kind cookie first count frame) :=
  h.post.raise

theorem Keeps.setRetires (h : Keeps s t) {rs} : Keeps s (t.setRetires rs) := h.upd

theorem Keeps.fenceDone (h : Keeps s t) : Keeps s t.fenceDone :=
  .ite h (h.setRetires.each (fun _ _ h => (.ite h h.releaseFence)))

theorem Keeps.releasePage (h : Keeps s t) {p} : Keeps s (t.releasePage p) := h.setEntry.rcacheInvalidate.upd

theorem Keeps.releaseCheck (h : Keeps s t) : Keeps s t.releaseCheck :=
  .ite h (h.each (fun _ _ h => h.releasePage)).fenceDone

theorem Keeps.retire (h : Keeps s t) {slot v cookie} : Keeps s (t.retire slot v cookie) :=
  .ite h.setFld (((Keeps.ite h h.clampReport).each (fun _ _ h => h.setEntry)).setFld.then fun h => (.ite h.releaseFence
    h.setRetires))

theorem keeps_execPageEntryWrite {p w} : Yields (execPageEntryWrite p w t) (Keeps t) :=
  ⟨_, Eq.refl _, Keeps.rfl.hostWriteTo (fun _ h => h.pageEntryWrite.ltrUpdate)⟩

theorem Keeps.dramUncorr (h : Keeps s t) {a} : Keeps s (t.dramUncorr a) := h.bump.setFld.setFld.blockError

theorem Keeps.dramCorr (h : Keeps s t) {n} : Keeps s (t.dramCorr n) := .ite h h.bump.blockCorrs

theorem Keeps.bar4Poisoned (h : Keeps s t) {a} : Keeps s (t.bar4Poisoned a) := h.dramUncorr.bump.emit

theorem keeps_execBar4Read {o n bad} : Yields (execBar4Read o n bad t) (Keeps t) := by
  refine ⟨_, Eq.refl _, ?_⟩
  refine .ite Keeps.rfl (.ite Keeps.rfl.bump.emit (.ite Keeps.rfl.emit ?_))
  split
  · exact Keeps.rfl.bar4Read
  · exact .ite Keeps.rfl.bar4Poisoned Keeps.rfl.bar4Read

theorem keeps_execBar4Write {o bs} : Yields (execBar4Write o bs t) (Keeps t) :=
  ⟨_, Eq.refl _, .ite Keeps.rfl (.ite Keeps.rfl.bump (.ite Keeps.rfl Keeps.rfl.bar4Write))⟩

theorem Keeps.bar4Resize (h : Keeps s t) {size} : Keeps s (t.bar4Resize size) :=
  .ite h (h.setCfg.setFld.then fun h => (.ite h h.setFld.clampReport))

theorem keeps_execBar4Resize {size} : Yields (execBar4Resize size t) (Keeps t) :=
  ⟨_, Eq.refl _, .ite Keeps.rfl Keeps.rfl.bar4Resize⟩

theorem Keeps.retireWrite (h : Keeps s t) {v} : Keeps s (t.retireWrite v) := .ite h.retire h

theorem keeps_execRetireCmd {v} : Yields (execRetireCmd v t) (Keeps t) :=
  ⟨_, Eq.refl _, Keeps.rfl.hostWriteTo (fun _ h => h.retireWrite)⟩

theorem Keeps.rcacheInvalWrite (h : Keeps s t) {v} : Keeps s (t.rcacheInvalWrite v) := h.rcacheInvalidate

theorem keeps_execRcacheInval {v} : Yields (execRcacheInval v t) (Keeps t) :=
  ⟨_, Eq.refl _, Keeps.rfl.hostWriteTo (fun _ h => h.rcacheInvalWrite)⟩

theorem keeps_execZeroFillDone {frame} : Yields (execZeroFillDone frame t) (Keeps t) :=
  ⟨_, Eq.refl _, .ite .rfl (Keeps.rfl.setDram fun hd => SMap.wf_drop _ _ _ hd).upd.fenceDone⟩

theorem Keeps.setQueue (h : Keeps s t) {q h'} : Keeps s (t.setQueue q h') := h.upd

theorem Keeps.setChan (h : Keeps s t) {c h'} : Keeps s (t.setChan c h') := h.upd

theorem Keeps.setCage (h : Keeps s t) {n c} : Keeps s (t.setCage n c) := h.upd

theorem Keeps.freeCage (h : Keeps s t) {n} : Keeps s (t.freeCage n) := h.upd

theorem Keeps.setSlot (h : Keeps s t) {n h'} : Keeps s (t.setSlot n h') := h.upd

theorem Keeps.setQState (h : Keeps s t) {q st} : Keeps s (t.setQState q st) := h.setFld

theorem Keeps.readMore (h : Keeps s t) {q} : Keeps s (t.readMore q) := .ite h (h.setQueue.each (fun _ _ h => h.hostReadReq))

theorem Keeps.dropReads (h : Keeps s t) {q} : Keeps s (t.dropReads q) := h.setQueue

theorem Keeps.startRead (h : Keeps s t) {q} : Keeps s (t.startRead q) := h.setQState.setQueue.hostReadReq.readMore

theorem Keeps.grant (h : Keeps s t) {q} : Keeps s (t.grant q) :=
  .ite h.setQueue.setQState (.ite h.setRing.setQueue.setQState h.setQState)

theorem Keeps.unstall (h : Keeps s t) {r} : Keeps s (t.unstall r) := h.each (fun _ _ h => (.ite h.grant h))

theorem Keeps.roomBack (h : Keeps s t) {r} : Keeps s (t.roomBack r) := h.ringDrain.unstall

theorem Keeps.descEvent (h : Keeps s t) {q d index status residue} : Keeps s (t.descEvent q d index status residue) :=
  h.setQueue.then fun h => (.ite h.postR (.ite h.setRing.roomBack h))

theorem Keeps.writeDesc (h : Keeps s t) {a q d status residue} : Keeps s (t.writeDesc a q d status residue) :=
  h.hostCtl.hostCtl.bump.bump

theorem Keeps.writeBack (h : Keeps s t) {q d status residue} : Keeps s (t.writeBack q d status residue) :=
  h.writeDesc.setFld.descEvent

theorem Keeps.cmpCount (h : Keeps s t) {ty status} : Keeps s (t.cmpCount ty status) :=
  .ite h (.ite h.bump.bump.raise (.ite h.bump.bump.raise (.ite h.bump.bump.raise h.bump)))

theorem Keeps.countAbort (h : Keeps s t) : Keeps s t.countAbort := h.bump.raise

theorem Keeps.completeHead (h : Keeps s t) {q status residue} : Keeps s (t.completeHead q status residue) := by
  unfold State.completeHead
  split
  · exact h
  · exact h.setQueue.cmpCount.writeBack

theorem Keeps.queueStopped (h : Keeps s t) {q reason index} : Keeps s (t.queueStopped q reason index) := h.postR

theorem Keeps.halt (h : Keeps s t) {q kind reason} : Keeps s (t.halt q kind reason) := by
  unfold State.halt
  extract_lets x s1 s2 s3
  have h2 : Keeps s s2 := by
    dsimp only [s2]
    split
    · exact h.setQueue.completeHead.countAbort
    · exact h.setQueue
  have h3 : Keeps s s3 := h2.queueStopped
  split
  · exact h3.setFld.setFld.setQState.setFld
  · exact h3.setQState.setFld
  · exact h3.setQState.setFld

theorem Keeps.failSlot (h : Keeps s t) {n reason detail} : Keeps s (t.failSlot n reason detail) := h.setFld.setFld.setSlot

theorem Keeps.holdHead (h : Keeps s t) {q d u} (e : t.holdHead q d = some u) : Keeps s u := by
  unfold State.holdHead at e
  dsimp only at e
  split at e
  · cases e
    exact .ite h.setQueue.setQState.setSlot.bump h.setQueue.setQState.setSlot.failSlot
  · split at e <;> cases e
    exact h.setQueue.setQState.setSlot

theorem Keeps.headGo (h : Keeps s t) {n q} : Keeps s (headGo n t q) := by
  induction n generalizing t with
  | zero => exact h
  | succ n ih =>
    unfold Machine.headGo
    dsimp only
    split
    · refine .ite h.setQueue.readMore.grant ?_
      split
      · exact h.setQueue.readMore.holdHead ‹_›
      · exact .ite h.setQueue.readMore.completeHead.halt (ih h.setQueue.readMore.completeHead)
    · exact .ite h.setQueue.setQState (.ite h.setQueue.setQState h.startRead)

theorem Keeps.queueNext (h : Keeps s t) {q status} : Keeps s (t.queueNext q status) := .ite h.halt (.ite h.headGo h)

theorem Keeps.unhold (h : Keeps s t) {q} : Keeps s (t.unhold q) := by
  unfold State.unhold
  split
  · exact h
  · exact h.setSlot

theorem Keeps.enterCage (h : Keeps s t) {n o d} : Keeps s (t.enterCage n o d) := h.setCage

theorem Keeps.assignGo (h : Keeps s t) {n} : Keeps s (assignGo n t) := by
  induction n generalizing t with
  | zero => exact h
  | succ n ih =>
    unfold Machine.assignGo
    split
    · exact h
    · split
      · exact ih h.enterCage.upd
      · split
        · exact h
        · split
          · exact h
          · exact ih h.setQueue.enterCage.upd

theorem Keeps.assign (h : Keeps s t) : Keeps s t.assign := .ite h h.assignGo

theorem Keeps.aheadFetched (h : Keeps s t) {q res} : Keeps s (t.aheadFetched q res) := by
  unfold State.aheadFetched
  dsimp only
  split
  · exact .ite h.setQueue h.setQueue.dropReads
  · exact h.setQueue.dropReads

theorem Keeps.descFetched (h : Keeps s t) {q res} : Keeps s (t.descFetched q res) := by
  unfold State.descFetched
  exact h.noteRead.then fun h => by
    refine .ite h.setQueue (.ite (.ite h h.aheadFetched) ?_)
    exact h.setQueue.then fun h => by
      split
      · exact .ite (.ite h.dropReads.startRead h.dropReads.setQState) h.setQueue.headGo.assign
      · exact h.dropReads.setQState.setFld.setFld.raise.postR

theorem Keeps.moveShadow (h : Keeps s t) {c} : Keeps s (t.moveShadow c) := h.wr.wr.wr.wr.setFld.setChan.setFld.setFld

theorem Keeps.chanStatus (h : Keeps s t) {c evt status residue} : Keeps s (t.chanStatus c evt status residue) :=
  h.setFld.setFld.raise.then fun h => (.ite h.post h)

theorem Keeps.abortShadow (h : Keeps s t) {c} : Keeps s (t.abortShadow c) := .ite h.setFld.countAbort.chanStatus h

theorem Keeps.stageMoved (h : Keeps s t) {status residue} : Keeps s (t.stageMoved status residue) := by
  unfold State.stageMoved
  split
  · exact h
  · exact h.upd

theorem Keeps.chanDone (h : Keeps s t) {c status residue} : Keeps s (t.chanDone c status residue) :=
  (Keeps.ite h.stageMoved h).setFld.then fun h => ((Keeps.ite h.countAbort h).chanStatus.setChan.then fun h => (.ite
    h.abortShadow (.ite h.moveShadow h)))

theorem Keeps.qcmdFinish (h : Keeps s t) {q} : Keeps s (t.qcmdFinish q) := .ite h.setFld h

theorem Keeps.homeDone (h : Keeps s t) {q c w status residue} : Keeps s (t.homeDone q c w status residue) :=
  h.writeDesc.then fun h => (((Keeps.ite h.postR (.ite h.setRing.roomBack h)).each (fun _ _ h => h.postR)).then fun h =>
    (.ite h h.setQueue.setFld.setQState.setFld))

theorem Keeps.queueDone (h : Keeps s t) {q c status residue} : Keeps s (t.queueDone q c status residue) := by
  unfold State.queueDone
  extract_lets s1 s2 _ s3
  have h2 : Keeps s s2 := (Keeps.ite h.countAbort h).cmpCount
  have h3 : Keeps s s3 := h2.setQueue.writeBack
  split
  · exact h2.homeDone.qcmdFinish
  · exact .ite h3.queueNext (h3.each fun _ _ h => h.halt).qcmdFinish

theorem Keeps.transferComplete (h : Keeps s t) {n} : Keeps s (t.transferComplete n) := by
  unfold State.transferComplete
  dsimp only
  split
  · split
    · refine Keeps.assign (Keeps.releaseCheck ?_)
      split
      · exact h.freeCage.chanDone
      · exact h.freeCage.queueDone
    · exact h
  · exact h

theorem Keeps.finish (h : Keeps s t) {n c status residue} : Keeps s (t.finish n c status residue) := h.setCage

theorem Keeps.startBurst (h : Keeps s t) {n c} : Keeps s (t.startBurst n c) := by
  unfold State.startBurst
  split
  · exact h.finish
  · exact h.finish
  · exact h.setCage.then fun h => (.ite (.ite h h.hostReadReq) h.hostReadReq)
  · exact h.setCage

theorem Keeps.descCopy (h : Keeps s t) {n c} : Keeps s (t.descCopy n c) :=
  .ite h.finish (.ite h.finish (.ite h.finish (.ite h.finish h.startBurst)))

theorem Keeps.countBytes (h : Keeps s t) {n} : Keeps s (t.countBytes n) := h.setFld.setFld

theorem Keeps.burstWrite (h : Keeps s t) {c data} : Keeps s (t.burstWrite c data) := by
  unfold State.burstWrite
  dsimp only
  split
  · exact h.each (fun _ _ h => h.hostData)
  · exact h.each (fun _ _ h => h.dramWrite)
  · exact h

theorem Keeps.showChan (h : Keeps s t) {c} : Keeps s (t.showChan c) := by
  unfold State.showChan
  split
  · exact h
  · exact h.wr.wr.wr.wr.setFld

theorem Keeps.afterBurst (h : Keeps s t) {n c} : Keeps s (t.afterBurst n c) := .ite h.finish (.ite h.finish h.startBurst)

theorem Keeps.burstDone (h : Keeps s t) {n c res} : Keeps s (t.burstDone n c res) := by
  unfold State.burstDone
  dsimp only
  split
  · exact h.finish
  · exact h.finish
  · exact h.noteRead.finish
  · exact h.burstWrite.countBytes.showChan.afterBurst

theorem Keeps.freeCtx (h : Keeps s t) {c} : Keeps s (t.freeCtx c) := h.upd

theorem Keeps.unland (h : Keeps s t) {n} : Keeps s (t.unland n) := h.upd

theorem Keeps.burstEnd (h : Keeps s t) {n c lost waits} : Keeps s (t.burstEnd n c lost waits) := by
  unfold State.burstEnd
  extract_lets _ s1 s2
  have h1 : Keeps s s1 := h.upd
  have h2 : Keeps s s2 := .ite h1 h1.bump
  split
  · exact .ite h2.bump h2
  · exact h2

theorem Keeps.dropJob (h : Keeps s t) {n c} : Keeps s (t.dropJob n c) := by
  unfold State.dropJob
  extract_lets s1 s2
  have h2 : Keeps s s2 := by
    dsimp only [s2]
    split
    · split
      · exact .ite h.unland.freeCtx h.unland
      · exact h.unland
    · exact h.unland
  split
  · exact .ite h2.upd h2
  · exact h2

theorem Keeps.abortCage (h : Keeps s t) {n c kind reason} : Keeps s (t.abortCage n c kind reason) := by
  unfold State.abortCage
  dsimp only
  split
  · exact h.setCage
  · exact .ite h.setCage h.dropJob.finish
  · exact h.setCage
  · exact h.dropJob.finish

theorem Keeps.stopQueue (h : Keeps s t) {q kind reason} : Keeps s (t.stopQueue q kind reason) := by
  unfold State.stopQueue
  split
  · exact .ite h.unhold.halt h.abortCage
  · exact h.unhold.halt

theorem Keeps.queueCfgWrite (h : Keeps s t) {slot q reg v} : Keeps s (t.queueCfgWrite slot q reg v) := by
  unfold State.queueCfgWrite
  extract_lets off en old new s1 c c' s2 s3 s4 s5 x _ s6
  have h3 : Keeps s s3 := .ite h.wr.clampReport h.wr
  have h6 : Keeps s s6 := h3.setFld.setFld.setQState.setFld.setQueue
  split
  · exact .ite (.ite h h.clampReport) (.ite h.wr h.wr.clampReport)
  · exact .ite (.ite h h.clampReport) h.wr
  · refine .ite ?_ (.ite h3.stopQueue.assign h3)
    split
    · exact h6.setCage
    · exact h6
  · exact h

theorem keeps_execQueueCfgWrite {q reg v} : Yields (execQueueCfgWrite q reg v t) (Keeps t) :=
  ⟨_, Eq.refl _, Keeps.rfl.hostWriteTo (fun _ h => h.queueCfgWrite)⟩

theorem Keeps.doorbell (h : Keeps s t) {q v} : Keeps s (t.doorbell q v) :=
  .ite h.bump.raise (h.setFld.then fun h => (.ite h.setQueue.readMore (.ite h.startRead (.ite h.setQueue.readMore h))))

theorem keeps_execDoorbell {q v} : Yields (execDoorbell q v t) (Keeps t) :=
  ⟨_, Eq.refl _, Keeps.rfl.hostWriteTo (fun _ h => h.doorbell)⟩

theorem keeps_execDescFetchDone {q res} : Yields (execDescFetchDone q res t) (Keeps t) :=
  ⟨_, Eq.refl _, Keeps.rfl.descFetched⟩

theorem Keeps.onStart (h : Keeps s t) {n ty} {f : Cage → State} (hf : ∀ c, Keeps s (f c)) : Keeps s (t.onStart n ty f) := by
  unfold State.onStart
  split
  · exact .ite (hf _) h
  · exact h

theorem keeps_execDescNop {n} : Yields (execDescNop n t) (Keeps t) :=
  ⟨_, Eq.refl _, Keeps.rfl.onStart fun _ => .ite Keeps.rfl.finish Keeps.rfl.finish⟩

theorem keeps_execDescCopy {n} : Yields (execDescCopy n t) (Keeps t) :=
  ⟨_, Eq.refl _, Keeps.rfl.onStart fun _ => Keeps.rfl.descCopy⟩

theorem Keeps.fenceWrite (h : Keeps s t) {n c} : Keeps s (t.fenceWrite n c) := (Keeps.ite h h.hostCtl).finish

theorem keeps_execDescFence {n} : Yields (execDescFence n t) (Keeps t) :=
  ⟨_, Eq.refl _, Keeps.rfl.onStart fun _ => .ite Keeps.rfl.finish (.ite Keeps.rfl.setCage Keeps.rfl.fenceWrite)⟩

theorem Keeps.fenceLatch (h : Keeps s t) : Keeps s t.fenceLatch := h.each (fun _ _ h => (.ite h.fenceWrite h))

theorem Keeps.qcmdResult (h : Keeps s t) {q} : Keeps s (t.qcmdResult q) := h.setFld

theorem Keeps.qcmdWrite (h : Keeps s t) {q cmd} : Keeps s (t.qcmdWrite q cmd) :=
  .ite h (h.setFld.then fun h => (.ite h.setFld.refuseCommand (.ite h.qcmdResult.stopQueue.assign (.ite h.setFld.startRead
    h.qcmdResult.stopQueue.assign))))

theorem keeps_execQcmdAbort {q} : Yields (execQcmdAbort q t) (Keeps t) :=
  ⟨_, Eq.refl _, Keeps.rfl.hostWriteTo (fun _ h => h.qcmdWrite)⟩

theorem keeps_execQcmdResume {q} : Yields (execQcmdResume q t) (Keeps t) :=
  ⟨_, Eq.refl _, Keeps.rfl.hostWriteTo (fun _ h => h.qcmdWrite)⟩

theorem keeps_execQcmdReset {q} : Yields (execQcmdReset q t) (Keeps t) :=
  ⟨_, Eq.refl _, Keeps.rfl.hostWriteTo (fun _ h => h.qcmdWrite)⟩

theorem Keeps.abortChan (h : Keeps s t) {c} : Keeps s (t.abortChan c) := by
  unfold State.abortChan
  split
  · exact h.setChan.abortCage
  · exact .ite h.setChan.chanDone h.abortShadow

theorem Keeps.chAbortWrite (h : Keeps s t) {port v} : Keeps s (t.chAbortWrite port v) :=
  ((Keeps.ite h.refuseCommand h).each (fun _ _ h => h.abortChan)).assign

theorem Keeps.chCtrlWrite (h : Keeps s t) {port c v} : Keeps s (t.chCtrlWrite port c v) :=
  .ite (.ite h h.clampReport) (h.applyWrite.then fun h => (.ite h (.ite h.setFld h.moveShadow.assign)))

theorem keeps_execChGo {port ch v} : Yields (execChGo port ch v t) (Keeps t) :=
  ⟨_, Eq.refl _, Keeps.rfl.portWriteTo (fun _ h => h.chCtrlWrite)⟩

theorem Keeps.ringCfgWrite (h : Keeps s t) {slot r reg v} : Keeps s (t.ringCfgWrite slot r reg v) := by
  unfold State.ringCfgWrite
  dsimp only
  split
  · exact .ite (.ite h h.clampReport) (.ite h.wr h.wr.clampReport)
  · exact .ite (.ite h h.clampReport) h.wr
  · have h3 {c : Prop} {_ : Decidable c} {off v k a b} :
        Keeps s (if c then (t.wr off v).clampReport slot k off a b else t.wr off v) := .ite h.wr.clampReport h.wr
    refine .ite h3.setFld.setFld.setFld.setHold (.ite ?_ h3)
    refine Keeps.assign (Keeps.unstall (Keeps.each (h3.setHold.ringLose.each fun _ _ h => .ite h.setQueue h) fun _ _ h => ?_))
    split
    · exact .ite h.setCage h
    · exact h
  · exact h.applyWrite.setRing
  · exact h

theorem keeps_execEventRingCfgWrite {r reg v} : Yields (execEventRingCfgWrite r reg v t) (Keeps t) :=
  ⟨_, Eq.refl _, Keeps.rfl.hostWriteTo (fun _ h => h.ringCfgWrite)⟩

theorem Keeps.ringHeadWrite (h : Keeps s t) {slot r v} : Keeps s (t.ringHeadWrite slot r v) :=
  (Keeps.ite h.setFld h.setFld.clampReport).roomBack.assign

theorem keeps_execEventRingHeadWrite {r v} : Yields (execEventRingHeadWrite r v t) (Keeps t) :=
  ⟨_, Eq.refl _, Keeps.rfl.hostWriteTo (fun _ h => h.ringHeadWrite)⟩

theorem keeps_execHoldoffExpire {r} : Yields (execHoldoffExpire r t) (Keeps t) :=
  ⟨_, Eq.refl _, .ite Keeps.rfl.ringSignal Keeps.rfl⟩

theorem Keeps.txnOpen (h : Keeps s t) : Keeps s t.txnOpen := by
  unfold State.txnOpen
  split
  · exact h.emit
  · exact h.setFld.setFld.setFld.setFld.setFld.setSlot.emit

theorem Keeps.hostReadFrom (h : Keeps s t) {off} {k : State → State} (hk : ∀ u, Keeps s u → Keeps s (k u)) :
    Keeps s (t.hostReadFrom off k) :=
  .ite h (.ite h.bump.emit (.ite h.emit (.ite h.emit (.ite h.bump.emit (hk _ h)))))

theorem keeps_execTxnOpen : Yields (execTxnOpen t) (Keeps t) :=
  ⟨_, Eq.refl _, Keeps.rfl.hostReadFrom (fun _ h => h.txnOpen)⟩

theorem Keeps.stage (h : Keeps s t) {n v} : Keeps s (t.stage n v) :=
  .ite h.bump.raise (.ite h.failSlot (.ite h.failSlot (h.setSlot.bump.then fun h => (.ite h (Keeps.ite h.setFld h).bump))))

theorem keeps_execStageWrite {n off v} : Yields (execStageWrite n off v t) (Keeps t) :=
  ⟨_, Eq.refl _, Keeps.rfl.hostWriteTo fun _ h => by
    cases off with
    | some o => exact h.setFld.stage
    | none => exact h.stage⟩

theorem Keeps.abortHeld (h : Keeps s t) {q} : Keeps s (t.abortHeld q) := by
  unfold State.abortHeld
  split
  · exact h.completeHead.queueNext
  · exact h

theorem Keeps.abortTxn (h : Keeps s t) {n reason detail} : Keeps s (t.abortTxn n reason detail) :=
  (h.setSlot.upd.setFld.setFld.setFld.setFld.setFld.setFld.setFld.bump.raise.each (fun _ _ h => h.abortHeld)).post

theorem Keeps.txnAbort (h : Keeps s t) {n v} : Keeps s (t.txnAbort n v) := .ite h (.ite h.setFld h.abortTxn.setFld)

theorem keeps_execTxnAbort {n v} : Yields (execTxnAbort n v t) (Keeps t) :=
  ⟨_, Eq.refl _, (Keeps.rfl.hostWriteTo (fun _ h => h.txnAbort)).assign⟩

theorem keeps_execTxnExpire {n} : Yields (execTxnExpire n t) (Keeps t) :=
  ⟨_, Eq.refl _, .ite Keeps.rfl.abortTxn.assign Keeps.rfl⟩

theorem Keeps.txnCommit (h : Keeps s t) {n v} : Keeps s (t.txnCommit n v) :=
  .ite h (.ite h.setFld (.ite h.abortTxn.setFld (.ite h.setFld (.ite h.setFld (.ite h.setFld (.ite h.setFld (.ite
    h.abortTxn.setFld h.setSlot.upd.setFld.setFld)))))))

theorem keeps_execTxnCommit {n v} : Yields (execTxnCommit n v t) (Keeps t) :=
  ⟨_, Eq.refl _, (Keeps.rfl.hostWriteTo (fun _ h => h.txnCommit)).assign⟩

theorem Keeps.mergeDone (h : Keeps s t) {n} : Keeps s (t.mergeDone n) := by
  unfold State.mergeDone
  refine .ite h (.ite h.abortTxn ?_)
  split
  · exact h.abortTxn
  · exact h.upd.setSlot.setFld.setBit.then fun h => (.ite h.raise.post h)

theorem Keeps.keepCommits (h : Keeps s t) : Keeps s t.keepCommits :=
  h.each (fun _ _ h => (.ite h.setSlot h.setFld.setFld.setSlot))

theorem Keeps.discardTxns (h : Keeps s t) : Keeps s t.discardTxns := (h.each (fun _ _ h => (.ite h h.setFld.setFld))).upd

theorem Keeps.setHist (h : Keeps s t) {h' x2} : Keeps s (t.setHist h' x2) := by
  unfold State.setHist
  split <;> exact h.upd

theorem Keeps.setHalfFrame (h : Keeps s t) {h' x2} : Keeps s (t.setHalfFrame h' x2) := by
  unfold State.setHalfFrame
  split <;> exact h.upd

theorem Keeps.clearValid (h : Keeps s t) {h' k} : Keeps s (t.clearValid h' k) := h.setFld

theorem Keeps.histFaultReport (h : Keeps s t) {h' ended} : Keeps s (t.histFaultReport h' ended) :=
  .ite h h.raise.post.setHalfFrame

theorem Keeps.histInvalidate (h : Keeps s t) {h' geometry started} : Keeps s (t.histInvalidate h' geometry started) :=
  h.setHist.then fun h => (.ite h h.setFld.raise.post)

theorem Keeps.histLatch (h : Keeps s t) {h' ended composes geometry started} :
    Keeps s (t.histLatch h' ended composes geometry started) :=
  h.histFaultReport.then fun h => ((Keeps.ite h.setHist h).then fun h => (.ite h (.ite h.histInvalidate ((Keeps.ite
    h.setFld.setFld.setFld.setFld.setFld.setFld.setFld h.setFld).histInvalidate.then fun h => (.ite
    h.setHist.setHist.clearValid.setFld h.setHist.setFld)))))

theorem Keeps.histWriteStrip (h : Keeps s t) {h' line strip refs px prot} :
    Keeps s (t.histWriteStrip h' line strip refs px prot) :=
  h.dramWrite.dramWrite.setHist

theorem Keeps.histWriteLine (h : Keeps s t) {h' line strips} : Keeps s (t.histWriteLine h' line strips) :=
  .ite h (h.each (fun _ _ h => h.histWriteStrip)).setHist

theorem Keeps.setReadCode (h : Keeps s t) {h' role line strip c} : Keeps s (t.setReadCode h' role line strip c) := h.setHist

theorem Keeps.histFail (h : Keeps s t) {h' role line strip} : Keeps s (t.histFail h' role line strip) :=
  h.setReadCode.bump.setFld.setFld.setFld.setFld.setHalfFrame

theorem Keeps.histReadLine (h : Keeps s t) {h' role k line strip above} :
    Keeps s (t.histReadLine h' role k line strip above).1 := by
  unfold State.histReadLine
  split
  · exact h.setReadCode
  · split
    · exact h
    · exact h
    · exact h
    · exact h.histFail
    · exact h.histFail
    · split
      · exact h
      · exact h.histFail

theorem Keeps.histRead (h : Keeps s t) {h' role k line strip} : Keeps s (t.histRead h' role k line strip).1 :=
  Keeps.foldlP Prod.fst (b := (t, [])) h fun _ _ h => h.histReadLine

theorem Keeps.histForget (h : Keeps s t) {h' line} : Keeps s (t.histForget h' line) := h.setHist

theorem Keeps.histCmdWrite (h : Keeps s t) {h' v} : Keeps s (t.histCmdWrite h' v) := .ite h.setHist h

theorem keeps_execHistInvalidateCmd {h' v} : Yields (execHistInvalidateCmd h' v t) (Keeps t) :=
  ⟨_, Eq.refl _, Keeps.rfl.hostWriteTo (fun _ h => h.histCmdWrite)⟩

theorem Keeps.histReadDone (h : Keeps s t) {h' role line strip res} : Keeps s (t.histReadDone h' role line strip res) := by
  unfold State.histReadDone
  have hu : Keeps s (match res with | .uncorrectable a => t.dramUncorr a | _ => t) := by
    split
    · exact h.dramUncorr
    · exact h
  refine .ite h ?_
  dsimp only
  split
  · split
    · exact hu.bump.setReadCode
    · exact .ite hu.setReadCode hu.setReadCode
  · exact .ite hu.bump.setReadCode hu.histFail
  · exact .ite hu.bump.setReadCode hu.histFail
  · exact hu

theorem Keeps.odReport (h : Keeps s t) {src old idx r} : Keeps s (t.odReport src old idx r) :=
  h.setFld.setBit.then fun h => ((Keeps.ite h.upd.raise.post (.ite h.upd h)).then fun h => (.ite h h.raise.post))

theorem Keeps.odLatch (h : Keeps s t) {started} : Keeps s (t.odLatch started) :=
  (Keeps.ite h.upd h).then fun h => ((Keeps.ite h.odReport h).upd.each (fun _ _ h => (.ite h
    h.setFld.setFld.setFld.setBit)))

theorem Keeps.odWrite (h : Keeps s t) {o v} : Keeps s (t.odWrite o v) :=
  .ite h (.ite h.bump (h.each (fun _ _ h => (.ite h h.upd))).setFld)

theorem keeps_execOdTableWrite {off v} : Yields (execOdTableWrite off v t) (Keeps t) :=
  ⟨_, Eq.refl _, Keeps.rfl.hostWriteTo (fun _ h => h.odWrite)⟩

theorem Keeps.odSeal (h : Keeps s t) : Keeps s t.odSeal := .ite h h.setFld.upd

theorem keeps_execOdSeal {v} : Yields (execOdSeal v t) (Keeps t) :=
  ⟨_, Eq.refl _, Keeps.rfl.hostWriteTo (fun _ h => (.ite h.odSeal h))⟩

theorem Keeps.odSealDone (h : Keeps s t) : Keeps s t.odSealDone := by
  unfold State.odSealDone
  split
  · exact h
  · exact h.setFld.upd.then fun h => (Keeps.ite h.setFld h.setFld).setFld.raise.post

theorem keeps_execOdSealDone : Yields (execOdSealDone t) (Keeps t) := ⟨_, Eq.refl _, Keeps.rfl.odSealDone⟩

theorem Keeps.persWrite (h : Keeps s t) {i v} : Keeps s (t.persWrite i v) := h.upd

theorem Keeps.persWear (h : Keeps s t) {i} : Keeps s (t.persWear i) :=
  h.upd.setFld.setFld.then fun h => (.ite h.raise.post h)

theorem Keeps.pstoreStep (h : Keeps s t) : Keeps s t.pstoreStep := by
  unfold State.pstoreStep
  split
  · exact h
  · exact h.upd.persWear

theorem keeps_execPstoreWordWrite : Yields (execPstoreWordWrite t) (Keeps t) := ⟨_, Eq.refl _, Keeps.rfl.pstoreStep⟩

theorem Keeps.persHostWrite (h : Keeps s t) {off v} : Keeps s (t.persHostWrite off v) :=
  .ite h.persWrite (.ite h.persWrite h)

theorem Keeps.assayLine (h : Keeps s t) {line dawn dusk} : Keeps s (t.assayLine line dawn dusk) := h.upd

theorem Keeps.assayPublish (h : Keeps s t) : Keeps s t.assayPublish := by
  unfold State.assayPublish
  split
  · exact h
  · exact (Keeps.ite (.ite h.upd h.upd.setFld.setFld) (Keeps.ite h.upd h.upd.setFld.setFld).setFld.setFld).upd.then fun h =>
      (.ite h ((h.upd.setFld.each (fun _ _ h => h.setFld)).setFld.setFld.setFld.setBit.setFld.then fun h => (.ite h.upd
      (h.bump.then fun h => (.ite h h.upd.raise.post)))))

theorem Keeps.assayEnd (h : Keeps s t) {frame ran} : Keeps s (t.assayEnd frame ran) :=
  h.assayPublish.then fun h => (.ite h.upd h.upd)

theorem keeps_execAssayPublish : Yields (execAssayPublish t) (Keeps t) := ⟨_, Eq.refl _, Keeps.rfl.assayPublish⟩

theorem Keeps.policyWrite (h : Keeps s t) {v} : Keeps s (t.policyWrite v) := .ite h.persWrite h

theorem keeps_execAssayHideSet {v} : Yields (execAssayHideSet v t) (Keeps t) :=
  ⟨_, Eq.refl _, Keeps.rfl.hostWriteTo (fun _ h => h.policyWrite)⟩

theorem Keeps.writeKey (h : Keeps s t) {i seq key state} : Keeps s (t.writeKey i seq key state) :=
  h.foldl (fun _ _ h => h.persWrite)

theorem Keeps.clearKeyData (h : Keeps s t) : Keeps s t.clearKeyData := h.upd

theorem Keeps.keyCmd (h : Keeps s t) {slot op} : Keeps s (t.keyCmd slot op) :=
  .ite h.setFld.clearKeyData.refuseCommand (.ite h.setFld.clearKeyData.refuseCommand (.ite
    h.setFld.clearKeyData.refuseCommand (.ite h.setFld.clearKeyData.refuseCommand h.setFld.upd)))

theorem keeps_execKeyProgram {slot} : Yields (execKeyProgram slot t) (Keeps t) :=
  ⟨_, Eq.refl _, Keeps.rfl.hostWriteTo (fun _ h => h.keyCmd)⟩

theorem keeps_execKeyErase {slot} : Yields (execKeyErase slot t) (Keeps t) :=
  ⟨_, Eq.refl _, Keeps.rfl.hostWriteTo (fun _ h => h.keyCmd)⟩

theorem keeps_execKeyLock {slot} : Yields (execKeyLock slot t) (Keeps t) :=
  ⟨_, Eq.refl _, Keeps.rfl.hostWriteTo (fun _ h => h.keyCmd)⟩

theorem Keeps.setKeys (h : Keeps s t) {k} : Keeps s { t with keys := k } := h.upd

theorem Keeps.keyWriteDone (h : Keeps s t) : Keeps s t.keyWriteDone := by
  unfold State.keyWriteDone
  split
  · exact h
  · exact (h.writeKey.each (fun _ _ h => h.pstoreStep)).setKeys.then fun h => (.ite h h.setFld.raise.post)

theorem Keeps.assignLanesGo (h : Keeps s t) {n} : Keeps s (assignLanesGo n t) := by
  induction n generalizing t with
  | zero => exact h
  | succ n ih =>
    unfold Machine.assignLanesGo
    split
    · split
      · exact ih (.ite h.setCage.hostReadReq h.setCage)
      · split
        · exact ih h.upd
        · exact h
    · exact h

theorem Keeps.assignLanes (h : Keeps s t) : Keeps s t.assignLanes := .ite h.assignLanesGo h

theorem Keeps.surfWrite (h : Keeps s t) {a bs} : Keeps s (t.surfWrite a bs) := by
  refine Keeps.foldlP Prod.fst (b := (t, bs)) h fun acc x h => ?_
  split
  · exact h.dramWrite
  · exact h

theorem Keeps.countOut (h : Keeps s t) {n} : Keeps s (t.countOut n) := h.setFld.setFld

theorem Keeps.descInflate (h : Keeps s t) {n c} : Keeps s (t.descInflate n c) := by
  unfold State.descInflate
  refine .ite h.finish (.ite h.finish (.ite h.finish (.ite h.finish ?_)))
  exact Keeps.then (by split <;> [exact (.ite h.upd h.freeCtx.bump); exact h]) fun h => (.ite (Keeps.ite h.dropJob h).finish
    h.setCage.assignLanes)

theorem keeps_execDescInflate {n} : Yields (execDescInflate n t) (Keeps t) :=
  ⟨_, Eq.refl _, Keeps.rfl.onStart fun _ => Keeps.rfl.descInflate⟩

theorem Keeps.inflateEnd (h : Keeps s t) {q inBit total index status ctx} :
    Keeps s (t.inflateEnd q inBit total index status ctx) :=
  h.post

theorem Keeps.jobDone (h : Keeps s t) {n c status residue} : Keeps s (t.jobDone n c status residue) :=
  h.dropJob.finish.transferComplete

theorem Keeps.saveJob (h : Keeps s t) {c src q} : Keeps s (t.saveJob c src q).1 := by
  unfold State.saveJob
  dsimp only
  split
  · exact h.bump.raise
  · exact h.upd

theorem Keeps.inflateRun (h : Keeps s t) {n c src start early} : Keeps s (t.inflateRun n c src start early) := by
  unfold State.inflateRun
  extract_lets d q room r rest s1 s2 sv
  have h1 : Keeps s s1 := h.surfWrite.countOut
  split
  · exact .ite h1.jobDone h1.surfWrite.inflateEnd.jobDone
  · exact .ite h1.jobDone h1.saveJob.inflateEnd.finish.transferComplete
  · split
    · exact .ite h1.jobDone h1.inflateEnd.jobDone
    · exact h1.inflateEnd.jobDone

theorem Keeps.inflateComplete (h : Keeps s t) {n c res again} : Keeps s (t.inflateComplete n c res again) := by
  unfold State.inflateComplete
  extract_lets d q held first second x src two inp start s1 s2 s3
  have h1 : Keeps s s1 := .ite h.draw h
  have h2 : Keeps s s2 := .ite h1.hostReadReq h1
  have h3 : Keeps s s3 := by
    dsimp only [s3]
    split
    · exact h2.noteRead
    · exact h2
  split
  · exact .ite h3.jobDone h3.inflateRun
  · exact h3.inflateEnd.jobDone
  · exact h3.inflateRun

theorem keeps_execInflateComplete {n r} : Yields (execInflateComplete n r t) (Keeps t) := by
  refine ⟨_, Eq.refl _, ?_⟩
  split
  · split
    · exact Keeps.rfl.assignLanes.inflateComplete.assignLanes
    · exact Keeps.rfl.assignLanes
  · exact Keeps.rfl.assignLanes

theorem Keeps.ctxDropWrite (h : Keeps s t) {v} : Keeps s (t.ctxDropWrite v) := by
  unfold State.ctxDropWrite
  split
  · exact .ite h h.freeCtx.bump
  · exact h

theorem keeps_execCtxDrop {v} : Yields (execCtxDrop v t) (Keeps t) :=
  ⟨_, Eq.refl _, Keeps.rfl.hostWriteTo (fun _ h => h.ctxDropWrite)⟩

theorem Keeps.descCapture (h : Keeps s t) {n c} : Keeps s (t.descCapture n c) :=
  .ite h.finish (.ite h.finish (.ite h.finish (.ite h.finish h.setCage)))

theorem keeps_execDescCapture {n} : Yields (execDescCapture n t) (Keeps t) :=
  ⟨_, Eq.refl _, Keeps.rfl.onStart fun _ => Keeps.rfl.descCapture⟩

theorem keeps_execCaptureBufferTaken {n} : Yields (execCaptureBufferTaken n t) (Keeps t) := by
  refine ⟨_, Eq.refl _, ?_⟩
  split
  · exact .ite Keeps.rfl.setCage.upd Keeps.rfl
  · exact .rfl

theorem Keeps.releaseBuffer (h : Keeps s t) : Keeps s t.releaseBuffer := h.upd

theorem Keeps.captureLatch (h : Keeps s t) {f} : Keeps s (t.captureLatch f) := by
  unfold State.captureLatch
  split
  · exact h
  · split
    · exact h.releaseBuffer
    · exact .ite h.freeBytes.upd.assignLanes (.ite h (.ite h.upd h.releaseBuffer.finish))

theorem Keeps.captureLine (h : Keeps s t) {line strips} : Keeps s (t.captureLine line strips) := by
  unfold State.captureLine
  split
  · exact h
  · split
    · exact h
    · exact .ite h h.upd.bump

theorem Keeps.captureEnd (h : Keeps s t) {q target out index status} :
    Keeps s (t.captureEnd q target out index status) :=
  h.post

theorem Keeps.captureEncodeDone (h : Keeps s t) {n c cp} : Keeps s (t.captureEncodeDone n c cp) :=
  h.releaseBuffer.then fun h => (.ite h.surfWrite.countOut.finish.transferComplete (Keeps.ite h.hostData
    h.surfWrite).countOut.captureEnd.finish.transferComplete)

theorem keeps_execCaptureEncodeDone {n} : Yields (execCaptureEncodeDone n t) (Keeps t) := by
  refine ⟨_, Eq.refl _, ?_⟩
  split
  · exact .ite Keeps.rfl.assignLanes.captureEncodeDone.assignLanes Keeps.rfl.assignLanes
  · exact Keeps.rfl.assignLanes

theorem Keeps.ageCycles (h : Keeps s t) : Keeps s t.ageCycles := .ite h.upd h

theorem Keeps.ageUpdate (h : Keeps s t) {bx by' ch vs} : Keeps s (t.ageUpdate bx by' ch vs) :=
  .ite h.bump (h.dramWrite.then fun h => (.ite h.bump.upd h))

theorem Keeps.ageLine (h : Keeps s t) {y row} : Keeps s (t.ageLine y row) :=
  h.ageCycles.then fun h => (.ite h (.ite h.upd (h.each (fun _ _ h => (.ite h (h.each (fun _ _ h => h.ageUpdate))))).upd))

theorem Keeps.ageLatch (h : Keeps s t) {started} : Keeps s (t.ageLatch started) :=
  .ite h ((Keeps.ite h.raise.post h).then fun h => ((Keeps.ite h.upd h).upd.then fun h => (.ite h.upd.setFld.setFld
    h))).ageCycles

theorem Keeps.lateWords (h : Keeps s t) {line uni age skip} : Keeps s (t.lateWords line uni age skip) :=
  .ite h (h.upd.each (fun _ _ h => (h.setHalfFrame.then fun h => (.ite h h.bump.setFld.setFld)))).bump

theorem Keeps.correctLatch (h : Keeps s t) {ended} : Keeps s (t.correctLatch ended) :=
  (h.each (fun _ _ h => (.ite h h.raise.post))).then fun h => (((Keeps.ite h h.raise.post).each (fun _ _ h =>
    h.setHalfFrame)).upd.each (fun _ _ h => (.ite h h.setFld.setBit.setBit.setFld)))

theorem Keeps.startUniSeal (h : Keeps s t) {mode} : Keeps s (t.startUniSeal mode) := .ite h h.setFld.upd

theorem keeps_execUniSeal {v} : Yields (execUniSeal v t) (Keeps t) :=
  ⟨_, Eq.refl _, Keeps.rfl.hostWriteTo (fun _ h => (.ite h.startUniSeal h))⟩

theorem Keeps.uniSealDone (h : Keeps s t) : Keeps s t.uniSealDone := by
  unfold State.uniSealDone
  split
  · exact h
  · exact h.setFld.upd.then fun h => (Keeps.ite h.setFld.setFld.setFld.setBit
      h.setFld.setFld.setFld.setBit).setFld.raise.post

theorem keeps_execUniSealDone : Yields (execUniSealDone t) (Keeps t) := ⟨_, Eq.refl _, Keeps.rfl.uniSealDone⟩

theorem Keeps.setLane (h : Keeps s t) {n x2} : Keeps s (t.setLane n x2) := h.upd

theorem Keeps.setLaneState (h : Keeps s t) {n v} : Keeps s (t.setLaneState n v) := h.setFld

theorem Keeps.seedLane (h : Keeps s t) {n} : Keeps s (t.seedLane n) := h.draw.draw.setLane

theorem Keeps.laneSend (h : Keeps s t) {n hdr ws} : Keeps s (t.laneSend n hdr ws) := (Keeps.ite h h.seedLane).setLane.upd

theorem Keeps.sendData (h : Keeps s t) {n ws} : Keeps s (t.sendData n ws) := h.laneSend

theorem Keeps.sendCtl (h : Keeps s t) {n op arg} : Keeps s (t.sendCtl n op arg) := h.laneSend

theorem Keeps.idleTo (h : Keeps s t) {n t'} : Keeps s (t.idleTo n t') := h.laneSend

theorem Keeps.unsync (h : Keeps s t) {ns} : Keeps s (t.unsync ns) := h.each (fun _ _ h => h.setLane)

theorem Keeps.sendBlock (h : Keeps s t) {l n j resend hold} : Keeps s (t.sendBlock l n j resend hold) := h.sendData

theorem Keeps.sendAll (h : Keeps s t) {m} : Keeps s (t.sendAll m) := .ite h (h.each (fun _ _ h => h.sendCtl)).setFld

theorem Keeps.sendMode (h : Keeps s t) {m} : Keeps s (t.sendMode m) := h.unsync.sendAll.unsync

theorem Keeps.flushMode (h : Keeps s t) : Keeps s t.flushMode := by
  unfold State.flushMode
  split
  · exact h.upd.sendAll
  · exact h

theorem Keeps.laneStart (h : Keeps s t) {prev n} : Keeps s (t.laneStart prev n) :=
  .ite h.idleTo.setLane h.seedLane.draw.setLane

theorem Keeps.lanePass (h : Keeps s t) {l n} : Keeps s (t.lanePass l n) :=
  (h.each (fun _ _ h => h.sendBlock)).setLane.upd.bump

theorem Keeps.linkLineStart (h : Keeps s t) {line} : Keeps s (t.linkLineStart line) := by
  unfold State.linkLineStart
  refine .ite h ?_
  split
  · exact h.upd.flushMode
  · exact .ite h ((h.each (fun _ _ h => h.laneStart)).upd.then fun h => (.ite (h.each (fun _ _ h => h.lanePass))
      h.flushMode))

theorem keeps_execLinkLineStart {line} : Yields (execLinkLineStart line t) (Keeps t) :=
  ⟨_, Eq.refl _, Keeps.rfl.linkLineStart⟩

theorem Keeps.resendGo (h : Keeps s t) {l tw n limit k} : Keeps s (resendGo l tw n limit k t) := by
  induction k generalizing t with
  | zero => exact h
  | succ k ih =>
    unfold Machine.resendGo
    dsimp only
    split
    · exact h
    · exact .ite (ih h.idleTo.sendBlock.setLane.bump.bump) h

theorem Keeps.resendUpTo (h : Keeps s t) {l n limit} : Keeps s (t.resendUpTo l n limit) := h.resendGo

theorem Keeps.unrecovered (h : Keeps s t) {n line} : Keeps s (t.unrecovered n line) := h.upd.setLane.bump.bump

theorem Keeps.laneFault (h : Keeps s t) {n cause frame} : Keeps s (t.laneFault n cause frame) := h.setFld.raise.post

theorem Keeps.lineSampled (h : Keeps s t) {n} : Keeps s (t.lineSampled n) :=
  .ite h (h.setLane.then fun h => (.ite h.setFld.laneFault h))

theorem Keeps.nackSample (h : Keeps s t) {n level} : Keeps s (t.nackSample n level) := by
  unfold State.nackSample
  exact h.setBit.then fun h => by
    refine .ite h ?_
    split
    · exact h
    · exact (Keeps.ite h (by split <;> [exact h.resendUpTo; exact h])).then fun h => ((Keeps.ite h.setLane (h.setLane.then
        fun h => (.ite h.unrecovered h))).then fun h => (.ite h (.ite h.lineSampled h)))

theorem keeps_execNackSample {n level} : Yields (execNackSample n level t) (Keeps t) :=
  ⟨_, Eq.refl _, .ite Keeps.rfl.nackSample Keeps.rfl⟩

theorem Keeps.panelVcom (h : Keeps s t) : Keeps s t.panelVcom := (Keeps.ite h.sendMode h).setFld

theorem Keeps.panelLineEnd (h : Keeps s t) : Keeps s t.panelLineEnd := .ite h.panelVcom h

theorem Keeps.panelTrained (h : Keeps s t) : Keeps s t.panelTrained := .ite (Keeps.ite h.sendMode h).setFld h

theorem Keeps.modeDue (h : Keeps s t) : Keeps s t.modeDue := by
  unfold State.modeDue
  split
  · exact .ite h h.upd.sendMode
  · exact h

theorem Keeps.linkLoad (h : Keeps s t) {n} : Keeps s (t.linkLoad n) := by
  unfold State.linkLoad
  split
  · exact h
  · exact .ite h ((h.resendUpTo.idleTo.sendCtl.setLane.each (fun _ _ h => h.unrecovered)).then fun h => (Keeps.ite
      h.lineSampled h).modeDue)

theorem keeps_execLinkLoad {n} : Yields (execLinkLoad n t) (Keeps t) :=
  ⟨_, Eq.refl _, .ite Keeps.rfl.linkLoad.panelLineEnd Keeps.rfl⟩

theorem Keeps.linkPush (h : Keeps s t) {line blank pixels} : Keeps s (t.linkPush line blank pixels) := .ite h h.upd

theorem Keeps.linkStop (h : Keeps s t) : Keeps s t.linkStop := (h.upd.each (fun _ _ h => h.setLane)).modeDue

theorem Keeps.linkLatch (h : Keeps s t) {ended} : Keeps s (t.linkLatch ended) := by
  unfold State.linkLatch
  extract_lets k s1 s2 s3
  have h1 : Keeps s s1 := .ite h h.raise.post
  have h2 : Keeps s s2 := .ite h1 h1.raise.post
  have h3 : Keeps s s3 := h2.each fun _ _ h => .ite h (.ite h.setLane.laneFault h.setLane)
  clear_value s3
  exact .ite h h3.upd

theorem Keeps.trainEnd (h : Keeps s t) : Keeps s t.trainEnd := .ite h h.setFld.upd.raise.post.panelTrained

theorem Keeps.trainStart (h : Keeps s t) {n attempts} : Keeps s (t.trainStart n attempts) := h.setLane.laneSend

theorem Keeps.trainGo (h : Keeps s t) : Keeps s t.trainGo :=
  .ite h (h.setFld.upd.each (fun _ _ h => h.setLaneState.trainStart)).trainEnd

theorem Keeps.trainStop (h : Keeps s t) : Keeps s t.trainStop := (h.each (fun _ _ h => h.setLaneState.setLane)).trainEnd

theorem Keeps.trainCmdWrite (h : Keeps s t) {v} : Keeps s (t.trainCmdWrite v) :=
  .ite h (.ite h.refuseCommand ((Keeps.ite h.trainGo h).then fun h => (.ite h.trainStop h)))

theorem keeps_execTrainGo {v} : Yields (execTrainGo v t) (Keeps t) :=
  ⟨_, Eq.refl _, Keeps.rfl.hostWriteTo (fun _ h => (.ite h.trainCmdWrite h))⟩

theorem keeps_execTrainStop {v} : Yields (execTrainStop v t) (Keeps t) :=
  ⟨_, Eq.refl _, Keeps.rfl.hostWriteTo (fun _ h => (.ite h.trainCmdWrite h))⟩

theorem Keeps.trainFail (h : Keeps s t) {n cause} : Keeps s (t.trainFail n cause) :=
  h.setFld.then fun h => (.ite h.trainStart h.setLaneState.setLane.raise.post.trainEnd)

theorem Keeps.testPayload (h : Keeps s t) {n} : Keeps s (t.testPayload n).2 := h.upd

theorem Keeps.testBlock (h : Keeps s t) {n tag j} : Keeps s (t.testBlock n tag j) := h.testPayload.sendData

theorem Keeps.testLine (h : Keeps s t) {n} : Keeps s (t.testLine n) :=
  (h.draw.each (fun _ _ h => h.testBlock)).idleTo.setLane

theorem keeps_execLaneLock {n} : Yields (execLaneLock n t) (Keeps t) :=
  ⟨_, Eq.refl _, .ite (Keeps.rfl.setBit.seedLane.draw.setLane.sendCtl.setLane.each (fun _ _ h => h.testLine)).unsync
    Keeps.rfl⟩

theorem keeps_execLaneLockTimeout {n} : Yields (execLaneLockTimeout n t) (Keeps t) :=
  ⟨_, Eq.refl _, .ite Keeps.rfl.trainFail Keeps.rfl⟩

theorem keeps_execLaneTestDone {n highs} : Yields (execLaneTestDone n highs t) (Keeps t) :=
  ⟨_, Eq.refl _, .ite (.ite Keeps.rfl.setLaneState.setFld.setLane.trainEnd Keeps.rfl.trainFail) Keeps.rfl⟩

theorem Keeps.requestMode (h : Keeps s t) {m} : Keeps s (t.requestMode m) := h.upd.modeDue

theorem Keeps.ctlCmdGo (h : Keeps s t) {v} : Keeps s (t.ctlCmdGo v) := .ite h (.ite h.refuseCommand h.requestMode)

theorem Keeps.ctlCmdWrite (h : Keeps s t) {v} : Keeps s (t.ctlCmdWrite v) := .ite h.refuseCommand h.ctlCmdGo

theorem keeps_execCtlCmdGo {v} : Yields (execCtlCmdGo v t) (Keeps t) :=
  ⟨_, Eq.refl _, Keeps.rfl.hostWriteTo (fun _ h => h.ctlCmdWrite)⟩

theorem Keeps.linkLost (h : Keeps s t) : Keeps s t.linkLost := h.upd

theorem Keeps.linkGated (h : Keeps s t) : Keeps s t.linkGated := h.trainStop.linkLost

theorem Keeps.gateKeep (h : Keeps s t) {start} : Keeps s (t.gateKeep start) := h.upd

theorem Keeps.setStep (h : Keeps s t) {k} : Keeps s (t.setStep k) := h.setFld

theorem Keeps.setPanel (h : Keeps s t) {st cause} : Keeps s (t.setPanel st cause) := h.setFld.raise.post

theorem Keeps.setForce (h : Keeps s t) {v} : Keeps s (t.setForce v) := h.setFld

theorem Keeps.setHalt (h : Keeps s t) {b} : Keeps s (t.setHalt b) := .ite h.setBit h

theorem Keeps.setRail (h : Keeps s t) {r ok low} : Keeps s (t.setRail r ok low) := h.setBit.setBit

theorem Keeps.railJudge (h : Keeps s t) {r} : Keeps s (t.railJudge r) := .ite h.setRail h

theorem Keeps.railReport (h : Keeps s t) {r mv} : Keeps s (t.railReport r mv) := h.upd.railJudge

theorem Keeps.pmbusSwitch (h : Keeps s t) {addr page on} : Keeps s (t.pmbusSwitch addr page on) := h.emit.emit

theorem Keeps.railSend (h : Keeps s t) {r on} : Keeps s (t.railSend r on) := h.pmbusSwitch

theorem Keeps.requestOn (h : Keeps s t) {r} : Keeps s (t.requestOn r) := h.upd.railSend

theorem Keeps.downEnd (h : Keeps s t) : Keeps s t.downEnd :=
  h.setForce.upd.then fun h => (Keeps.ite h.trainStop h).bump.upd.setPanel.setStep

theorem Keeps.downAction (h : Keeps s t) {k} : Keeps s (t.downAction k) := h.setStep.upd

theorem Keeps.downEnter (h : Keeps s t) {n k} : Keeps s (downEnter n k t) := by
  induction n generalizing t k with
  | zero => exact h
  | succ n ih =>
    unfold Machine.downEnter
    split
    · exact h.downEnd
    · exact .ite h.downAction.railSend (ih h.downAction)

theorem Keeps.downNext (h : Keeps s t) : Keeps s t.downNext := h.downEnter

theorem Keeps.panelDown (h : Keeps s t) {cause powerFail} : Keeps s (t.panelDown cause powerFail) :=
  .ite h (.ite (.ite h.upd h) (.ite h.upd.setFld.setPanel.setHalt.setStep.panelLineEnd h))

theorem Keeps.upStart (h : Keeps s t) : Keeps s t.upStart := h.upd.setPanel.setStep.setForce.setHalt.requestOn

theorem Keeps.upRefs (h : Keeps s t) : Keeps s t.upRefs := h.setStep.upd

theorem Keeps.upVgl (h : Keeps s t) : Keeps s t.upVgl := h.setStep.upd.requestOn

theorem Keeps.upVgh (h : Keeps s t) : Keeps s t.upVgh := h.setStep.upd.requestOn

theorem Keeps.upLink (h : Keeps s t) : Keeps s t.upLink := h.setStep.then fun h => (Keeps.ite h.trainGo h).panelTrained

theorem Keeps.panelLatch (h : Keeps s t) : Keeps s t.panelLatch :=
  .ite h ((Keeps.ite h.upd h).then fun h => (.ite (h.setHalt.setForce.upd.then fun h => (.ite h.setPanel.setStep.setStep
    (.ite h.setPanel.setStep.setFld.setStep h.setPanel.setStep))) (.ite (.ite h.upd.setStep (.ite h.upd.setFld.setStep
    h.upd)) h)))

theorem Keeps.setResult (h : Keeps s t) {r} : Keeps s (t.setResult r) := h.setFld

theorem Keeps.panelUp (h : Keeps s t) : Keeps s t.panelUp :=
  .ite h.setResult (.ite (.ite (h.setResult.upStart.then fun h => (.ite h.panelDown h)) h.setResult) h.setResult)

theorem keeps_execPanelUp : Yields (execPanelUp t) (Keeps t) := ⟨_, Eq.refl _, Keeps.rfl.hostWriteTo (fun _ h => h.panelUp)⟩

theorem Keeps.panelDownCmd (h : Keeps s t) : Keeps s t.panelDownCmd :=
  .ite h.setResult.panelDown (.ite h.setResult.setPanel h.setResult)

theorem keeps_execPanelDown : Yields (execPanelDown t) (Keeps t) :=
  ⟨_, Eq.refl _, Keeps.rfl.hostWriteTo (fun _ h => h.panelDownCmd)⟩

theorem Keeps.railNext (h : Keeps s t) {up} : Keeps s (t.railNext up) := by
  unfold State.railNext
  refine .ite ?_ h.downNext
  split
  · exact h.upRefs
  · exact h.upVgh
  · exact h.upLink

theorem Keeps.railAck (h : Keeps s t) : Keeps s t.railAck := by
  unfold State.railAck
  split
  · exact h
  · exact h.draw.railReport.railNext

theorem Keeps.railFail (h : Keeps s t) {r phase cause attempts} : Keeps s (t.railFail r phase cause attempts) := by
  unfold State.railFail
  extract_lets s1 d
  have h1 : Keeps s s1 := h.bump.raise
  have h2 : Keeps s d.2 := .iteP (p := Prod.snd) h1 h1.draw
  exact h2.post

theorem Keeps.railTimeout (h : Keeps s t) {nacked mv} : Keeps s (t.railTimeout nacked mv) := by
  unfold State.railTimeout
  split
  · exact h
  · exact h.railReport.then fun h => (.ite h.railNext (.ite h (.ite h.upd.railSend (h.railFail.upd.then fun h => (.ite
      h.panelDown h.downNext)))))

theorem Keeps.seqTimer (h : Keeps s t) : Keeps s t.seqTimer := by
  unfold State.seqTimer
  refine .ite h (.ite h.upVgl ?_)
  refine .ite ?_ h
  split
  · exact h.setForce.setStep
  · exact h.downNext
  · refine .ite ?_ h
    refine Keeps.downNext ?_
    split
    · exact h.draw.railReport
    · exact h
  · refine .ite ?_ h
    refine Keeps.downNext ?_
    split
    · exact h.draw.railReport
    · exact h
  · refine .ite ?_ h
    refine Keeps.downNext ?_
    split
    · exact h.draw.railReport
    · exact h
  · exact h

theorem Keeps.railLoss (h : Keeps s t) {r mv} : Keeps s (t.railLoss r mv) :=
  .ite h (h.railReport.then fun h => (.ite h.railFail.panelDown h))

theorem keeps_execRailLoss {d} : Yields (execRailLoss d t) (Keeps t) := ⟨_, Eq.refl _, Keeps.rfl.railLoss⟩

theorem Keeps.panelWoke (h : Keeps s t) {fromOff} : Keeps s (t.panelWoke fromOff) :=
  (Keeps.ite h (h.each (fun _ _ h => h.railJudge))).setBit

theorem Keeps.pfwPanel (h : Keeps s t) : Keeps s t.pfwPanel := .ite h.upd h.upd.setFld.bump.raise.post.panelDown

theorem Keeps.pfwHigh (h : Keeps s t) : Keeps s t.pfwHigh := (Keeps.ite h.upd.setFld h.upd).then fun h => (.ite h.setFld h)

theorem Keeps.blTick (h : Keeps s t) : Keeps s t.blTick := h.upd

theorem Keeps.setThermWindow (h : Keeps s t) {ch w} : Keeps s (t.setThermWindow ch w) := h.upd

theorem Keeps.thermJudge (h : Keeps s t) {ch} : Keeps s (t.thermJudge ch) := by
  unfold State.thermJudge
  extract_lets f c low high valid was s1 x
  have h1 : Keeps s s1 := h.setBit
  have h2 : Keeps s x.2 := .iteP (p := Prod.snd) h1 (.iteP (p := Prod.snd) h1 h1.draw)
  exact .ite h2.raise.post h1

theorem Keeps.thermConvert (h : Keeps s t) {ch code} : Keeps s (t.thermConvert ch code) :=
  .ite h (h.setThermWindow.then fun h => (.ite h.draw.setFld.setFld.setFld h.setFld.setFld.thermJudge))

theorem keeps_execThermConvert {ch code} : Yields (execThermConvert ch code t) (Keeps t) :=
  ⟨_, Eq.refl _, Keeps.rfl.thermConvert⟩

theorem Keeps.thermConfig (h : Keeps s t) : Keeps s t.thermConfig :=
  h.each (fun _ _ h => (Keeps.ite h h.setThermWindow).thermJudge)

theorem Keeps.lblSetCur (h : Keeps s t) {p px} : Keeps s (t.lblSetCur p px) := h.upd

theorem Keeps.labelRecover (h : Keeps s t) : Keeps s t.labelRecover := h.upd.post

theorem Keeps.labelEnd (h : Keeps s t) {u slot result phases} : Keeps s (t.labelEnd u slot result phases) := h.post

theorem Keeps.dropPending (h : Keeps s t) {result} : Keeps s (t.dropPending result) := h.upd.each (fun _ _ h => h.labelEnd)

theorem Keeps.labelPower (h : Keeps s t) {cause} : Keeps s (t.labelPower cause) := h.bump.raise.post

theorem Keeps.labelInterrupt (h : Keeps s t) {u} : Keeps s (t.labelInterrupt u) := h.upd.lblSetCur.bump.raise.labelEnd

theorem Keeps.labelStop (h : Keeps s t) : Keeps s t.labelStop :=
  (h.emit.setFld.setFld.upd.each (fun _ _ h => h.labelInterrupt)).dropPending.setBit.post

theorem Keeps.labelComplete (h : Keeps s t) {u} : Keeps s (t.labelComplete u) := h.lblSetCur.persWrite.bump.bump.labelEnd

theorem Keeps.labelClear (h : Keeps s t) {u} : Keeps s (t.labelClear u) := h.upd.each (fun _ _ h => h.persWrite.post)

theorem Keeps.labelAdvance (h : Keeps s t) : Keeps s t.labelAdvance :=
  (h.upd.each (fun _ _ h => h.labelComplete)).each (fun _ _ h => h.labelClear)

theorem Keeps.labelStart (h : Keeps s t) {u word} : Keeps s (t.labelStart u word) := h.upd.persWrite.post

theorem Keeps.labelTry {acc : State × Bool × List LabelUpd} (h : Keeps s acc.1) {e} : Keeps s (labelTry acc e).1 := by
  unfold Machine.labelTry
  refine .iteP (p := Prod.fst) h (.iteP (p := Prod.fst) h (.iteP (p := Prod.fst) h (.iteP (p := Prod.fst) h
    (.iteP (p := Prod.fst) h.setFld ?_))))
  split
  · exact h
  · exact h.labelStart

theorem Keeps.labelStarts (h : Keeps s t) : Keeps s t.labelStarts :=
  Keeps.foldlP Prod.fst (b := (t, false)) h fun acc _ h =>
    Keeps.foldlP Prod.fst (b := (acc.1, acc.2, [])) h fun _ _ h => h.labelTry

theorem Keeps.labelScan (h : Keeps s t) : Keeps s t.labelScan := h.setBit.each (fun _ _ h => (.ite h h.emit))

theorem Keeps.labelLost (h : Keeps s t) : Keeps s t.labelLost := h.labelStop.labelPower

theorem Keeps.phaseBoundary (h : Keeps s t) {good} : Keeps s (t.phaseBoundary good) :=
  .ite h (h.setBit.then fun h => (.ite h.labelLost (.ite h.labelStop (h.labelAdvance.then fun h => (Keeps.ite h
    h.labelStarts).labelScan))))

theorem Keeps.labelPwrTimeout (h : Keeps s t) : Keeps s t.labelPwrTimeout := .ite h h.setFld.dropPending.labelPower

theorem Keeps.labelPwrgoodLost (h : Keeps s t) : Keeps s t.labelPwrgoodLost :=
  .ite h (h.setFld.then fun h => (.ite h h.labelLost))

theorem keeps_execLabelPwrHoldExpire : Yields (execLabelPwrHoldExpire t) (Keeps t) :=
  ⟨_, Eq.refl _, .ite Keeps.rfl.setFld Keeps.rfl⟩

theorem Keeps.labelRefused (h : Keeps s t) {n c u reason} : Keeps s (t.labelRefused n c u reason) :=
  (Keeps.ite h h.bump.setFld.setFld.setFld.raise).post.finish

theorem Keeps.landFail (h : Keeps s t) {n c status} : Keeps s (t.landFail n c status) := h.unland.finish

theorem Keeps.landBurst (h : Keeps s t) {n c} : Keeps s (t.landBurst n c) := by
  unfold State.landBurst
  split
  · exact h.landFail
  · exact h.setCage.hostReadReq
  · exact h.setCage

theorem Keeps.landTry (h : Keeps s t) {n c} : Keeps s (t.landTry n c) :=
  .ite h.unland.labelRefused ((Keeps.ite h h.upd).then fun h => (.ite h.setCage ((Keeps.ite h.upd h).then fun h => (.ite
    h.landFail h.landBurst))))

theorem Keeps.landGo (h : Keeps s t) {n} : Keeps s (landGo n t) := by
  induction n generalizing t with
  | zero => exact h
  | succ n ih =>
    unfold Machine.landGo
    dsimp only
    split
    · exact h
    · split
      · exact h
      · exact ih h.landTry

theorem Keeps.landNext (h : Keeps s t) : Keeps s t.landNext := h.landGo

theorem Keeps.descLabel (h : Keeps s t) {n c} : Keeps s (t.descLabel n c) :=
  .ite h.finish (.ite h.finish h.landTry.landNext)

theorem keeps_execDescLabel {n} : Yields (execDescLabel n t) (Keeps t) :=
  ⟨_, Eq.refl _, Keeps.rfl.onStart fun _ => Keeps.rfl.descLabel⟩

theorem Keeps.landBurstDone (h : Keeps s t) {n c res} : Keeps s (t.landBurstDone n c res) := by
  unfold State.landBurstDone
  refine .ite h (Keeps.landNext ?_)
  dsimp only
  split
  · exact h.landFail
  · exact h.noteRead.landFail
  · exact .ite h.countBytes.setCage (.ite h.countBytes.landFail h.countBytes.landBurst)

theorem keeps_execHoistBurstDone {n res w} : Yields (execHoistBurstDone n res w t) (Keeps t) := by
  refine ⟨_, Eq.refl _, ?_⟩
  split
  · exact .ite Keeps.rfl (Keeps.rfl.burstEnd.then fun h => (.ite h.burstDone h.landBurstDone))
  · exact .rfl

theorem Keeps.labelLanded (h : Keeps s t) {n c} : Keeps s (t.labelLanded n c) := h.upd.unland.finish.landNext

theorem keeps_execLabelLanded {n} : Yields (execLabelLanded n t) (Keeps t) := by
  refine ⟨_, Eq.refl _, ?_⟩
  split
  · exact .ite Keeps.rfl.labelLanded Keeps.rfl
  · exact .rfl

theorem Keeps.labelPfw (h : Keeps s t) : Keeps s t.labelPfw := .ite h.upd h

theorem Keeps.uncorrReason (h : Keeps s t) {compressed} : Keeps s (t.uncorrReason compressed).2 := Keeps.iteP h.draw h

theorem Keeps.foremanCommit (h : Keeps s t) {ws} : Keeps s (t.foremanCommit ws) := by
  unfold State.foremanCommit
  split
  · exact h
  · exact (h.setFld.setFld.setFld.setFld.setFld.setSlot.each (fun _ _ h => h.setFld.stage)).txnCommit

theorem Keeps.unseal (h : Keeps s t) {kind} : Keeps s (t.unseal kind) := by
  unfold State.unseal
  dsimp only
  split
  · exact .ite h.setFld h
  · exact .ite h.setFld h
  · exact .ite h.setFld h
  · exact h

theorem Keeps.loadMap (h : Keeps s t) {p commit} : Keeps s (t.loadMap p commit).2 :=
  h.dramWrite.setFld.upd.uniSealDone.then fun h => (Keeps.iteP h (Keeps.iteP h h.foremanCommit))

theorem Keeps.loadOd (h : Keeps s t) {p commit} : Keeps s (t.loadOd p commit).2 :=
  (h.each (fun _ _ h => (.ite h.upd h))).setFld.upd.odSealDone.then fun h => (Keeps.iteP h (Keeps.iteP h h.foremanCommit))

theorem Keeps.loadWfLen (h : Keeps s t) {i v} : Keeps s (t.loadWfLen i v) := .ite h.wr h.wr.clampReport

theorem Keeps.loadWf (h : Keeps s t) {m p} : Keeps s (t.loadWf m p) :=
  ((h.each (fun _ _ h => h.applyIn)).each (fun _ _ h => h.loadWfLen)).upd.setFld.setFld.setFld

theorem Keeps.showSplash (h : Keeps s t) {first m p} : Keeps s (t.showSplash first m p).2 :=
  Keeps.iteP h (h.dramWrite.each (fun _ _ h => h.pageEntryWrite)).setFld.setFld.foremanCommit

theorem Keeps.loadImage (h : Keeps s t) {kind loc commit bad first} :
    Keeps s (t.loadImage kind loc commit bad first).2 := by
  unfold State.loadImage
  split
  · exact h
  · extract_lets geom r x
    have hx : Keeps s x.2 := .iteP (p := Prod.snd) h.uncorrReason h
    refine .iteP (p := Prod.snd) (.ite hx.unseal hx) ?_
    split
    · exact hx.unseal.loadMap
    · exact hx.unseal.loadOd
    · exact hx.unseal.loadWf
    · exact hx.showSplash

theorem Keeps.maintPost (h : Keeps s t) {page code fields} : Keeps s (t.maintPost page code fields) := h.raise.post

theorem Keeps.sramcCount (h : Keeps s t) {f} : Keeps s (t.sramcCount f) := .ite h.bump (.ite h.upd h.upd)

theorem Keeps.repairRow (h : Keeps s t) {cell row source} : Keeps s (t.repairRow cell row source) := by
  unfold State.repairRow
  refine .ite (.ite h h.upd.sramcCount.maintPost) (Keeps.maintPost (Keeps.sramcCount ?_))
  dsimp only
  split
  · exact h.upd.persWrite
  · exact h.upd

theorem Keeps.sramcWoke (h : Keeps s t) : Keeps s t.sramcWoke := h.bump.bump.upd

theorem Keeps.rowCorrected (h : Keeps s t) {cell row} : Keeps s (t.rowCorrected cell row) := .ite h.upd.repairRow h.upd

theorem Keeps.sramError (h : Keeps s t) {page w uncorr stated} : Keeps s (t.sramError page w uncorr stated) :=
  .ite h (.ite (h.wr.bump.then fun h => ((Keeps.ite h.bump h.blockError).then fun h => (.ite h.repairRow h)))
    (h.wr.bump.blockCorrs.then fun h => (.ite h.rowCorrected h)))

theorem Keeps.applyRepairs (h : Keeps s t) : Keeps s t.applyRepairs := h.each (fun _ _ h => (.ite h h.upd.sramcCount))

theorem Keeps.setScratch (h : Keeps s t) {i v} : Keeps s (t.setScratch i v) := h.upd

theorem Keeps.scratchWrite (h : Keeps s t) {off v m} : Keeps s (t.scratchWrite off v m) := by
  unfold State.scratchWrite
  refine .ite h.bump (.ite h ?_)
  split
  · exact h.setScratch
  · exact h.setScratch.bump
  · exact h.setScratch.bump

theorem keeps_execScratchpadWrite {off v m} : Yields (execScratchpadWrite off v m t) (Keeps t) :=
  ⟨_, Eq.refl _, Keeps.rfl.hostWriteTo (fun _ h => h.scratchWrite)⟩

theorem Keeps.poolTake (h : Keeps s t) {b u} (e : t.poolTake = some (b, u)) : Keeps s u := by
  unfold State.poolTake at e
  split at e
  · cases e; exact h.upd
  · split at e <;> cases e
    exact h.upd

theorem Keeps.eraseBlock (h : Keeps s t) {b} : Keeps s (t.eraseBlock b) := h.upd

theorem Keeps.remapTo (h : Keeps s t) {logical phys} : Keeps s (t.remapTo logical phys) := h.upd

theorem Keeps.mapsShow (h : Keeps s t) : Keeps s t.mapsShow := .ite h h.setFld.setFld.setFld

theorem Keeps.badBlock (h : Keeps s t) {logical} : Keeps s (t.badBlock logical) := by
  unfold State.badBlock
  split
  · exact h
  · exact (h.poolTake ‹_›).remapTo.upd.mapsShow.maintPost

theorem Keeps.rewriteBlock (h : Keeps s t) {logical} : Keeps s (t.rewriteBlock logical) := by
  unfold State.rewriteBlock
  split
  · exact h
  · exact (h.poolTake ‹_›).remapTo.eraseBlock.upd

theorem Keeps.nandReport (h : Keeps s t) {r} : Keeps s (t.nandReport r) := h.bump.bump.upd.each (fun _ _ h => h.badBlock)

theorem Keeps.setNand (h : Keeps s t) {n} : Keeps s { t with mem := { t.mem with nand := n } } := h.upd

theorem Keeps.nandProgram (h : Keeps s t) {a bs} : Keeps s (t.nandProgram a bs) :=
  (h.each (fun _ _ h => h.eraseBlock)).setNand.mapsShow

theorem Keeps.nextSeq (h : Keeps s t) : Keeps s t.nextSeq.2 := by
  unfold State.nextSeq
  split
  · exact h
  · exact h.draw

theorem Keeps.captureAge (h : Keeps s t) {seq base} : Keeps s (t.captureAge seq base).2 := h.dramWrite

theorem Keeps.ageBytes (h : Keeps s t) {p} : Keeps s (t.ageBytes p).2 := h.draw

theorem Keeps.setAge (h : Keeps s t) {x} : Keeps s { t with age := x } := h.upd

theorem Keeps.ringWriteAge (h : Keeps s t) {b seq bs} : Keeps s (t.ringWriteAge b seq bs) := h.nandProgram.setAge

theorem Keeps.ckptShow (h : Keeps s t) : Keeps s t.ckptShow := .ite h.setBit h

theorem Keeps.ckptEnd (h : Keeps s t) {status} : Keeps s (t.ckptEnd status) := by
  unfold State.ckptEnd
  extract_lets base x p b place status' s1 _ s2 s3 s4 d
  have hb : Keeps s b.2 := h.nextSeq.captureAge.ageBytes
  have h1 : Keeps s s1 := by
    clear_value place
    cases place with
    | some k => exact hb.ringWriteAge
    | none => exact hb
  have h2 : Keeps s s2 := h1.upd
  have h3 : Keeps s s3 := .ite h2.setFld.bump h2
  have h4 : Keeps s s4 := .ite h2 h3.raise
  have hd : Keeps s d.2 := .iteP (p := Prod.snd) h4 h4.draw
  exact hd.post

theorem Keeps.restoreAge (h : Keeps s t) : Keeps s t.restoreAge.2.2 := by
  unfold State.restoreAge
  dsimp only
  split
  · exact h.dramWrite.dramWrite
  · exact h.dramWrite.dramWrite

theorem Keeps.ageRestoreDone (h : Keeps s t) : Keeps s t.ageRestoreDone := by
  unfold State.ageRestoreDone
  refine .ite h (.ite h ?_)
  extract_lets s1 r s2 _ s3 s4 q
  have h1 : Keeps s s1 := h.setFld.setFld
  have h2 : Keeps s s2 := .iteP (p := fun r : Nat × Option (Word × Word) × State => r.2.2) h1 h1.restoreAge
  have h4 : Keeps s s4 := Keeps.raise (Keeps.setFld (Keeps.setFld h2.upd))
  refine Keeps.post ?_
  dsimp only [q]
  split
  · exact h4
  · exact h4.draw.draw

theorem keeps_execAgeRestoreDone : Yields (execAgeRestoreDone t) (Keeps t) := ⟨_, Eq.refl _, Keeps.rfl.ageRestoreDone⟩

theorem Keeps.maintShow (h : Keeps s t) : Keeps s t.maintShow := h.setFld.setFld.setFld.ckptShow

theorem Keeps.odCleared (h : Keeps s t) {h'} : Keeps s (t.odCleared h') := .ite h.upd.setFld h.upd

theorem Keeps.marchClears (h : Keeps s t) {m} : Keeps s (t.marchClears m) :=
  (Keeps.ite h.rcacheInvalidate h).each (fun _ _ h => ((Keeps.ite h.setHist h).then fun h => (.ite h.odCleared h)))

theorem Keeps.maintStart (h : Keeps s t) {m} : Keeps s (t.maintStart m) := by
  unfold State.maintStart
  dsimp only
  split
  · exact (Keeps.ite h.upd.setFld h.upd).then fun h => (.ite h h.marchClears)
  · exact h.upd

theorem Keeps.maintScan (h : Keeps s t) : Keeps s t.maintScan := by
  refine (Keeps.foldlP (f := _) (xs := t.mem.queued) Prod.fst (b := (t, [])) h fun acc m h => ?_).upd.maintShow
  exact .iteP h h.maintStart

theorem Keeps.maintRequest (h : Keeps s t) {m} : Keeps s (t.maintRequest m) := .ite h (Keeps.ite h.setFld h).upd.maintScan

theorem Keeps.canaryRelease (h : Keeps s t) : Keeps s t.canaryRelease := h.upd.maintScan

theorem Keeps.maintEnd (h : Keeps s t) {m status} : Keeps s (t.maintEnd m status) :=
  h.upd.bump.then fun h => ((Keeps.ite h.bump h).setFld.setFld.maintPost.then fun h => (Keeps.ite h.setFld h).maintScan)

theorem Keeps.mboxResult (h : Keeps s t) {r} : Keeps s (t.mboxResult r) := by
  unfold State.mboxResult
  split
  · exact .ite h h.upd
  · exact h

theorem Keeps.maintAbandon (h : Keeps s t) {m} : Keeps s (t.maintAbandon m) :=
  (Keeps.ite h.ckptEnd h).then fun h => ((Keeps.ite h.unseal h).then fun h => (Keeps.ite h.mboxResult h).maintEnd)

theorem Keeps.abandonAll (h : Keeps s t) {p} : Keeps s (t.abandonAll p) :=
  (h.each (fun _ _ h => h.maintAbandon)).each (fun _ _ h => h.maintAbandon)

theorem Keeps.scrubGo (h : Keeps s t) : Keeps s t.scrubGo := .ite h.maintRequest h

theorem Keeps.ckptTry (h : Keeps s t) : Keeps s t.ckptTry := .ite h.upd.maintRequest h.ckptShow

theorem Keeps.ckptRequest (h : Keeps s t) : Keeps s t.ckptRequest := .ite h h.upd.ckptTry

theorem keeps_execCkptGo {v} : Yields (execCkptGo v t) (Keeps t) :=
  ⟨_, Eq.refl _, Keeps.rfl.hostWriteTo (fun _ h => (.ite h.ckptRequest h))⟩

theorem keeps_execCkptPeriodic : Yields (execCkptPeriodic t) (Keeps t) :=
  ⟨_, Eq.refl _, .ite Keeps.rfl.ckptRequest Keeps.rfl⟩

theorem Keeps.checkpointDone (h : Keeps s t) {status} : Keeps s (t.checkpointDone status) := by
  unfold State.checkpointDone
  split
  · exact h
  · exact h.ckptEnd.maintEnd

theorem Keeps.marchGo (h : Keeps s t) {v} : Keeps s (t.marchGo v) :=
  .ite h (.ite h.setFld.refuseCommand (.ite h.setFld (.ite h.setFld.refuseCommand (Keeps.ite h
    h.clampReport).maintRequest)))

theorem keeps_execMarchGo {v} : Yields (execMarchGo v t) (Keeps t) :=
  ⟨_, Eq.refl _, Keeps.rfl.hostWriteTo (fun _ h => h.marchGo)⟩

theorem Keeps.marchRows (h : Keeps s t) {rows} : Keeps s (t.marchRows rows) := h.setFld.each (fun _ _ h => h.repairRow)

theorem Keeps.canaryNext (h : Keeps s t) : Keeps s t.canaryNext :=
  h.upd.setFld.setFld.then fun h => (.ite h h.bump.maintPost)

theorem Keeps.canaryAsk (h : Keeps s t) : Keeps s t.canaryAsk := .ite h.maintRequest h

theorem Keeps.canaryTest (h : Keeps s t) {failing poisoned} : Keeps s (t.canaryTest failing poisoned) :=
  .ite h.canaryRelease (.ite h.canaryAsk (.ite h (.ite h.canaryRelease.canaryNext ((h.each (fun _ _ h =>
    h.sramError)).bump.each (fun _ _ h => h.repairRow)).canaryRelease.canaryNext)))

theorem keeps_execCanaryRegionTest {t'} : Yields (execCanaryRegionTest t' t) (Keeps t) :=
  ⟨_, Eq.refl _, Keeps.rfl.canaryTest⟩

theorem keeps_execCanaryAbort : Yields (execCanaryAbort t) (Keeps t) :=
  ⟨_, Eq.refl _, .ite Keeps.rfl.upd.bump.canaryRelease Keeps.rfl⟩

theorem keeps_execCanaryRetry : Yields (execCanaryRetry t) (Keeps t) :=
  ⟨_, Eq.refl _, .ite Keeps.rfl (.ite Keeps.rfl.upd Keeps.rfl.bump.setFld.setFld.canaryNext)⟩

theorem Keeps.scrubPassDone (h : Keeps s t) {corrected uncorr} : Keeps s (t.scrubPassDone corrected uncorr) := by
  unfold State.scrubPassDone
  split
  · exact h
  · exact (h.dramCorr.each (fun _ _ h => h.dramUncorr)).bump.setFld.upd.maintPost.maintEnd.scrubGo

theorem keeps_execScrubPassDone {corrected uncorr} : Yields (execScrubPassDone corrected uncorr t) (Keeps t) :=
  ⟨_, Eq.refl _, Keeps.rfl.scrubPassDone⟩

theorem Keeps.maintReqScrub (h : Keeps s t) : Keeps s t.maintReqScrub := .ite h.maintRequest h

theorem keeps_execMaintReqScrub : Yields (execMaintReqScrub t) (Keeps t) :=
  ⟨_, Eq.refl _, Keeps.rfl.hostWriteTo (fun _ h => h.maintReqScrub)⟩

theorem Keeps.nandRefreshGo (h : Keeps s t) : Keeps s t.nandRefreshGo := .ite h.maintRequest h

theorem keeps_execMaintReqNandrefresh : Yields (execMaintReqNandrefresh t) (Keeps t) :=
  ⟨_, Eq.refl _, Keeps.rfl.hostWriteTo (fun _ h => h.nandRefreshGo)⟩

theorem keeps_execNandrefreshDue {block} : Yields (execNandrefreshDue block t) (Keeps t) :=
  ⟨_, Eq.refl _, .ite Keeps.rfl.upd.nandRefreshGo Keeps.rfl⟩

theorem Keeps.nandRefreshed (h : Keeps s t) : Keeps s t.nandRefreshed := (h.upd.each (fun _ _ h => h.rewriteBlock)).mapsShow

theorem Keeps.resetClass (h : Keeps s t) {p} : Keeps s (t.resetClass p) :=
  h.setRegs fun hr => SMap.wf_mapVals _ _ _ (SMap.sorted_of_wf hr)

theorem Keeps.domainRegs (h : Keeps s t) {d} : Keeps s (t.domainRegs d) :=
  h.setRegs fun hr => SMap.wf_mapVals _ _ _ (SMap.sorted_of_wf hr)

theorem Keeps.holdDigest (h : Keeps s t) {p} : Keeps s (t.holdDigest p) := h.setFld

theorem Keeps.holdDigests (h : Keeps s t) {d} : Keeps s (t.holdDigests d) := h.each (fun _ _ h => h.holdDigest)

theorem Keeps.hostClear (h : Keeps s t) : Keeps s t.hostClear := h.rcacheInvalidate.upd

theorem Keeps.dropStaged (h : Keeps s t) : Keeps s t.dropStaged := h.upd

theorem Keeps.setHold0 (h : Keeps s t) : Keeps s t.setHold0 := h.setFld

theorem Keeps.halfLost (h : Keeps s t) {h'} : Keeps s (t.halfLost h') := by
  unfold State.halfLost
  dsimp only
  split <;> exact h.setHist.odCleared.upd

/-- DRAM and the page table are emptied. -/
theorem Keeps.dropStore (h : Keeps s t) {heldLo retires zeroing lastRead label age uniSeal} : Keeps s
    { t with dram := [], label := label, age := age, uniSeal := uniSeal, surf := { t.surf with
      pageTab := [], heldLo := heldLo, retires := retires, zeroing := zeroing, lastRead := lastRead } } := by
  have h1 : Keeps s { t with dram := [] } := h.setDram fun _ => Eq.refl _
  have h2 : Keeps s { t with dram := [], surf := { t.surf with pageTab := [] } } := h1.setPageTab fun _ => Eq.refl _
  exact h2.upd

theorem Keeps.storeLost (h : Keeps s t) : Keeps s t.storeLost := Keeps.setFld h.discardTxns.dropStaged.dropStore

theorem Keeps.domainLost (h : Keeps s t) {d} : Keeps s (t.domainLost d) := by
  unfold State.domainLost
  dsimp only
  split
  · exact h.upd.upd
  · exact h.upd.keepCommits.hostClear.upd
  · exact h.upd.upd
  · exact h.upd.storeLost
  · exact h.upd.halfLost
  · exact h.upd.halfLost
  · exact h.upd.linkLost
  · exact h.upd.upd
  · exact h.upd.upd
  · exact h.upd

theorem Keeps.hostResetBegin (h : Keeps s t) {cls bit} : Keeps s (t.hostResetBegin cls bit) :=
  h.setFld.bump.hostClear.discardTxns.dropStaged.resetClass.upd.raise.setHold0

theorem Keeps.mboxPost (h : Keeps s t) {e} : Keeps s (t.mboxPost e) := h.raise.then fun h => (.ite h.upd h.postR)

theorem Keeps.hostResetEnd (h : Keeps s t) : Keeps s t.hostResetEnd := by
  unfold State.hostResetEnd
  refine .ite h ?_
  exact h.upd.setFld.then fun h => by
    exact Keeps.then (by split <;> [exact h; exact h.upd.postR]) fun h => (.ite h.upd.signal h)

theorem Keeps.forceAction (h : Keeps s t) {d reason} : Keeps s (t.forceAction d reason) := by
  unfold State.forceAction
  split
  · exact (h.each (fun _ _ h => h.abortCage)).then fun h => (.ite (h.each (fun _ _ h => h.abortChan)) h)
  · exact h.each (fun _ _ h => h.abortTxn)
  · exact h.each (fun _ _ h => h.abortTxn)
  · exact h.panelDown
  · exact .ite h.labelStop h.upd
  · exact h.abandonAll
  · exact h

theorem Keeps.setReq (h : Keeps s t) {r} : Keeps s (t.setReq r) := h.upd

theorem Keeps.setPhase (h : Keeps s t) {b p} : Keeps s (t.setPhase b p) := h.setFld

theorem Keeps.setBusy (h : Keeps s t) {b} : Keeps s (t.setBusy b) := h.setBit.setBit

theorem Keeps.setReqResult (h : Keeps s t) {b result done} : Keeps s (t.setReqResult b result done) := by
  unfold State.setReqResult
  split
  · exact h.setFld.setFld
  · exact h.setFld.setFld
  · exact h

theorem Keeps.powerDone (h : Keeps s t) {r result done} : Keeps s (t.powerDone r result done) := h.post

theorem Keeps.noteRefusal (h : Keeps s t) {r reason d page} : Keeps s (t.noteRefusal r reason d page).2 :=
  h.setFld.setFld.setFld.then fun h => (.ite h h.bump)

theorem Keeps.sleepCheck (h : Keeps s t) : Keeps s t.sleepCheck := .ite h.upd.setFld.setFld.setFld h

theorem Keeps.setClk (h : Keeps s t) {d on} : Keeps s (t.setClk d on) := h.setBit

theorem Keeps.setPads (h : Keeps s t) {d held} : Keeps s (t.setPads d held) := h.setBit

theorem Keeps.bindRead (h : Keeps s t) {b} : Keeps s (t.bindRead b) := h.emit

theorem Keeps.bindSend (h : Keeps s t) {b on} : Keeps s (t.bindSend b on) := h.pmbusSwitch.bindRead

theorem Keeps.changeDom (h : Keeps s t) {d v} : Keeps s (t.changeDom d v) := h.setDom.summaryEdge

theorem Keeps.placeStore (h : Keeps s t) {d} : Keeps s (t.placeStore d) := by
  unfold State.placeStore
  refine .ite h ?_
  split
  · exact h.setFld.setFld.setFld
  · exact h.setFld
  · exact h.setFld.setFld
  · exact h

theorem Keeps.placeStores (h : Keeps s t) : Keeps s t.placeStores := h.upd.each (fun _ _ h => h.placeStore)

theorem Keeps.logicReset (h : Keeps s t) {d} : Keeps s (t.logicReset d) := by
  unfold State.logicReset
  split
  · exact h.setFld.setFld.upd
  · exact h

theorem Keeps.histWoke (h : Keeps s t) {h'} : Keeps s (t.histWoke h') := h.setHist

theorem Keeps.domainUp (h : Keeps s t) {d fromOff} : Keeps s (t.domainUp d fromOff) := by
  unfold State.domainUp
  extract_lets _ s1 s2 _ _ s3 s4 s5
  have h1 : Keeps s s1 := h.upd
  have h2 : Keeps s s2 := .ite (.ite h1.placeStores h1) h
  have h3 : Keeps s s3 := h2.upd
  have h4 : Keeps s s4 := .ite h3.signal h3
  have h5 : Keeps s s5 := .ite h2 h2.setFld
  split
  · exact h4.upd
  · exact (Keeps.ite h2.sramcWoke h2).scrubGo.ckptTry
  · exact .ite h2.histWoke h2
  · exact .ite h2.histWoke h2
  · exact h2.mapsShow.ckptTry
  · exact h2.ckptTry
  · exact h2.panelWoke
  · exact .ite h5.labelRecover h5
  · exact h2

theorem Keeps.reqEnd (h : Keeps s t) {r result} : Keeps s (t.reqEnd r result) :=
  h.upd.setBusy.setPhase.setReqResult.then fun h => ((Keeps.ite h.bump h).then fun h => (Keeps.ite h.raise
    h).powerDone.sleepCheck)

theorem Keeps.woke (h : Keeps s t) {r d} : Keeps s (t.woke r d) :=
  (Keeps.ite h.domainRegs h.logicReset).then fun h => ((Keeps.ite h.setFld h).setClk.then fun h => (Keeps.ite h.setBit
    h.setBit).changeDom.domainUp)

theorem Keeps.wakeFail (h : Keeps s t) {r d cause rail} : Keeps s (t.wakeFail r d cause rail).2 := by
  unfold State.wakeFail
  extract_lets a s1 s2 s3 s4 n x s5 s6
  have h4 : Keeps s s4 := (h.each fun _ _ h => h.bindSend).setClk.changeDom.domainLost.setFld.setFld.bump.raise
  have hx : Keeps s x.2 := .iteP (p := Prod.snd) h4 h4.draw
  have h5 : Keeps s s5 := hx.post
  exact .ite h5.panelDown h5

theorem Keeps.powered (h : Keeps s t) {r d} : Keeps s (t.powered r d).2 := .iteP (p := Prod.snd) h.setReq h.woke

theorem Keeps.poweredTo (h : Keeps s t) {r d x u} (e : t.powered r d = (x, u)) : Keeps s u := by
  have := h.powered (r := r) (d := d)
  rwa [e] at this

theorem Keeps.wakeGo (h : Keeps s t) {n r} : Keeps s (wakeGo n r t) := by
  induction n generalizing t r with
  | zero => exact h.setReq
  | succ n ih =>
    unfold Machine.wakeGo
    split
    · exact h.reqEnd
    · refine .ite (ih h.noteRefusal) (.ite h.setReq.upd ?_)
      dsimp only
      split
      · exact h.changeDom.setReq.bindSend
      · split
        · next e => exact h.changeDom.poweredTo e
        · next e => exact ih (h.changeDom.poweredTo e)

theorem Keeps.wakeOn (h : Keeps s t) {r} : Keeps s (t.wakeOn r) := h.wakeGo

theorem Keeps.railsOff (h : Keeps s t) {r} : Keeps s (t.railsOff r) := by
  unfold State.railsOff
  split
  · exact h.reqEnd
  · exact h.setReq.setPhase.bindSend

theorem Keeps.gateOn (h : Keeps s t) {r} : Keeps s (t.gateOn r) := by
  unfold State.gateOn
  split
  · exact h.setReq.changeDom
  · exact .ite h.railsOff h.reqEnd

theorem Keeps.gateBegin (h : Keeps s t) {r} : Keeps s (t.gateBegin r) :=
  h.setPhase.then fun h => ((Keeps.ite h.powerDone h).then fun h => (.ite h.reqEnd h.gateOn))

theorem Keeps.askGo (h : Keeps s t) {n r} : Keeps s (askGo n r t) := by
  induction n generalizing r with
  | zero => exact h.setReq
  | succ n ih =>
    unfold Machine.askGo
    split
    · exact h.gateBegin
    · exact .ite h.setReq ih

theorem Keeps.rollback (h : Keeps s t) {r} : Keeps s (t.rollback r) := (h.each (fun _ _ h => h.bump)).reqEnd.assign

theorem Keeps.agree (h : Keeps s t) {r page} : Keeps s (t.agree r page) := .ite h.askGo h.setReq

theorem Keeps.answerGo (h : Keeps s t) {n page r} : Keeps s (answerGo n page r t) := by
  induction n generalizing t r with
  | zero => exact h.setReq
  | succ n ih =>
    unfold Machine.answerGo
    split
    · exact h.setReq
    · split
      · exact h.agree
      · exact .ite h.setReq (.ite h.noteRefusal.rollback (ih h.noteRefusal.setReq.forceAction.assign))

theorem Keeps.quiesceAnswer (h : Keeps s t) {page} : Keeps s (t.quiesceAnswer page) := by
  unfold State.quiesceAnswer
  split
  · exact .ite h.answerGo h
  · exact h

theorem Keeps.quiesceTimeout (h : Keeps s t) {page} : Keeps s (t.quiesceTimeout page) := by
  unfold State.quiesceTimeout
  split
  · exact .ite (.ite h.noteRefusal.agree h.noteRefusal.rollback) h
  · exact h

theorem Keeps.domainGated (h : Keeps s t) {d} : Keeps s (t.domainGated d) := by
  unfold State.domainGated
  split
  · exact .ite ((Keeps.ite h.canaryRelease (.ite h.linkGated h)).holdDigests.setPads.setClk.changeDom.then fun h =>
      ((Keeps.ite h.domainLost h).then fun h => ((Keeps.ite h.setHold0 h).then fun h => (Keeps.ite h.upd h).gateOn))) h
  · exact h

theorem Keeps.powerIssue (h : Keeps s t) {b mask target force bad} : Keeps s (t.powerIssue b mask target force bad) := by
  unfold State.powerIssue
  refine .ite ?_ (.ite h.reqEnd (.ite h.reqEnd ?_))
  · split
    · exact h.setFld
    · exact h.setFld
    · exact h
  · dsimp only
    split
    · exact h.noteRefusal.reqEnd
    · refine .ite ?_ h.setBusy.setPhase.askGo
      split
      · exact .ite h.noteRefusal.reqEnd h.setBusy.setPhase.wakeOn
      · exact h.reqEnd

theorem Keeps.setWakePending (h : Keeps s t) {n b} : Keeps s (t.setWakePending n b) := h.setBit

theorem Keeps.srcFire (h : Keeps s t) {n} : Keeps s (t.srcFire n) :=
  (Keeps.ite h.setWakePending h).setFld.setFld.raise.post.powerIssue

theorem Keeps.sources (h : Keeps s t) {level} : Keeps s (t.sources level) := h.each (fun _ _ h => (.ite h.srcFire h))

theorem Keeps.afterReq {b : State} (h : Keeps s t) : Keeps s (State.afterReq b t) := .ite h.sources h

theorem Keeps.wakeEvent (h : Keeps s t) {n} : Keeps s (t.wakeEvent n) := by
  unfold State.wakeEvent
  refine .ite h ?_
  split
  · exact (Keeps.ite h.setWakePending h).sources
  · exact .ite h ((Keeps.ite h.setWakePending h).then fun h => (.ite h.noteRefusal.rollback.sources h))

theorem Keeps.wakeSource (h : Keeps s t) {n level} : Keeps s (t.wakeSource n level) := .ite h.upd h.upd.wakeEvent

theorem Keeps.timerExpire (h : Keeps s t) : Keeps s t.timerExpire := .ite h.setFld.wakeEvent h

theorem Keeps.regFailed (h : Keeps s t) {addr page cause} : Keeps s (t.regFailed addr page cause) :=
  h.bump.setFld.setFld.setFld

theorem Keeps.regFailEvent (h : Keeps s t) {bus addr page cause} : Keeps s (t.regFailEvent bus addr page cause) :=
  h.raise.post

theorem Keeps.railPoll (h : Keeps s t) {res} : Keeps s (t.railPoll res) := by
  unfold State.railPoll
  split
  · exact h
  · split
    · exact h
    · dsimp only
      refine .ite h (.ite h.bindRead (.ite (.ite h.railsOff ?_) (.ite h.setReq.bindSend ?_)))
      · split
        · exact h.setReq.bindSend
        · split
          · next e => exact h.poweredTo e
          · next e => exact (h.poweredTo e).wakeOn
      · exact .ite h.regFailed.wakeFail.wakeOn h.regFailed.regFailEvent.railsOff

theorem Keeps.pllLock (h : Keeps s t) {d} : Keeps s (t.pllLock d) := by
  unfold State.pllLock
  split
  · exact .ite h.woke.wakeOn h
  · exact h

theorem Keeps.pllTimeout (h : Keeps s t) {d} : Keeps s (t.pllTimeout d) := by
  unfold State.pllTimeout
  split
  · exact .ite h.wakeFail.wakeOn h
  · exact h

theorem Keeps.oscFail (h : Keeps s t) {cause} : Keeps s (t.oscFail cause) := by
  unfold State.oscFail
  split
  · exact .ite h.upd.wakeFail.wakeOn h
  · exact h

theorem Keeps.clocksOn (h : Keeps s t) : Keeps s t.clocksOn := h.setFld

theorem Keeps.rootRelock (h : Keeps s t) : Keeps s t.rootRelock := by
  unfold State.rootRelock
  refine .ite h.upd.setFld.clocksOn (.ite ?_ h)
  dsimp only
  split
  · exact h.upd.setFld.setFld.setFld.wakeOn
  · exact h.upd.setFld.setFld.setFld

theorem Keeps.xtalLoss (h : Keeps s t) : Keeps s t.xtalLoss := h.upd.setFld.setFld.setFld.setFld.setFld.bump.raise.post

theorem Keeps.avsGo (h : Keeps s t) {mv} : Keeps s (t.avsGo mv) := h.upd.emit

theorem Keeps.avsWritten (h : Keeps s t) {off} : Keeps s (t.avsWritten off) :=
  (Keeps.ite h.upd h).then fun h => (.ite h (.ite h h.avsGo))

theorem Keeps.avsStep (h : Keeps s t) {up} : Keeps s (t.avsStep up) := .ite h (.ite h h.avsGo)

theorem Keeps.avsDone (h : Keeps s t) {res} : Keeps s (t.avsDone res) := by
  unfold State.avsDone
  split
  · exact h
  · exact .ite h.upd.setFld (.ite h.upd.emit h.upd.setFld.regFailed.regFailEvent)

theorem keeps_execAvsStep {up} : Yields (execAvsStep up t) (Keeps t) := ⟨_, Eq.refl _, Keeps.rfl.avsStep⟩

theorem keeps_execAvsWriteDone {res} : Yields (execAvsWriteDone res t) (Keeps t) := ⟨_, Eq.refl _, Keeps.rfl.avsDone⟩

theorem keeps_execPmbAlert : Yields (execPmbAlert t) (Keeps t) := ⟨_, Eq.refl _, .ite Keeps.rfl Keeps.rfl.bump.raise.post⟩

theorem Keeps.padRelease (h : Keeps s t) {v} : Keeps s (t.padRelease v) := h.each (fun _ _ h => h.setPads)

theorem Keeps.powerWord (h : Keeps s t) {p v} : Keeps s (t.powerWord p v) := .ite h.powerIssue h

theorem Keeps.keepWrite (h : Keeps s t) {slot off v} : Keeps s (t.keepWrite slot off v) := .ite h h.clampReport

theorem Keeps.applyHeld (h : Keeps s t) {ctx slot sel off v} : Keeps s (t.applyHeld ctx slot sel off v) :=
  .ite h.wr.clampReport h.wr

theorem Keeps.scanStop (h : Keeps s t) : Keeps s t.scanStop := h.setFld.setFld.upd.linkStop.sleepCheck

theorem Keeps.scanHalt (h : Keeps s t) : Keeps s t.scanHalt := .ite h.scanStop h

theorem Keeps.rwEffect (h : Keeps s t) {off} : Keeps s (t.rwEffect off) :=
  .ite h.avsWritten (.ite h.sources (.ite h.upd (.ite h.sleepCheck (.ite h.scrubGo (.ite h.upd (.ite h.assignLanes (.ite
    h.assign (.ite h.ltrUpdate (.ite h.scanHalt (.ite h.thermConfig (.ite h.railLoss (.ite h.railLoss (.ite h.railLoss
    h)))))))))))))

theorem Keeps.rwWrite (h : Keeps s t) {ctx slot port sel off v} : Keeps s (t.rwWrite ctx slot port sel off v) :=
  .ite (.ite h.queueCfgWrite h) (.ite (.ite h.ringHeadWrite h.ringCfgWrite) (.ite h.keepWrite (h.applyHeld.then fun h =>
    ((Keeps.ite h.dependents.rwEffect h).then fun h => (.ite h.summaryEdge h)))))

theorem Keeps.loseFlip (h : Keeps s t) {f} : Keeps s (t.loseFlip f) := h.releaseFence

theorem Keeps.applyFlip (h : Keeps s t) {slot f} : Keeps s (t.applyFlip slot f) := h.each (fun _ _ h => h.applyIn)

theorem Keeps.nothingReport (h : Keeps s t) {slot off v} : Keeps s (t.nothingReport slot off v) := h.clampReportAt

theorem Keeps.layerClamps (h : Keeps s t) {slot ws} : Keeps s (t.layerClamps slot ws) :=
  h.each (fun _ _ h => (.ite h.dependents h))

theorem Keeps.afterWrites (h : Keeps s t) {ws} : Keeps s (t.afterWrites ws) :=
  (Keeps.ite h.upd h).then fun h => ((Keeps.ite h.upd h).then fun h => (.ite h.setFld h))

theorem Keeps.commitRunWrite {a : CommitRun} (h : Keeps s a.s) {slot sel ctx w} : Keeps s (a.write slot sel ctx w).s := by
  unfold CommitRun.write
  dsimp only
  split
  · split
    · exact h
    · exact h.applyEntry
  · exact h.nothingReport
  · exact h.nothingReport
  · exact h
  · exact h.rwWrite

theorem Keeps.applyWrites (h : Keeps s t) {slot sel ws} : Keeps s (t.applyWrites slot sel ws) :=
  (Keeps.foldlP CommitRun.s (b := ⟨t, []⟩) h fun _ _ h => h.commitRunWrite).upd.layerClamps.afterWrites

theorem Keeps.advanceGen (h : Keeps s t) {pages} : Keeps s (t.advanceGen pages) :=
  (h.setFld.each (fun _ _ h => h.setFld)).setFld

theorem Keeps.applyRetires (h : Keeps s t) {n ws} : Keeps s (t.applyRetires n ws) :=
  h.each (fun _ _ h => (.ite h.wr (.ite h.retire h)))

theorem Keeps.releaseHeld (h : Keeps s t) {qs} : Keeps s (t.releaseHeld qs) :=
  h.each (fun _ _ h => (.ite h.setQueue.grant h))

theorem Keeps.applyCommit (h : Keeps s t) {n flips} : Keeps s (t.applyCommit n flips) :=
  (h.applyWrites.each (fun _ _ h =>
    h.applyFlip)).advanceGen.upd.setSlot.setFld.setFld.setFld.setFld.setFld.bump.bump.releaseHeld.applyRetires.then fun h =>
    (.ite h.post h)

theorem Keeps.applyCommits (h : Keeps s t) {ns direct} {implicit : State → List Flip → State}
    (hi : ∀ u fs, Keeps s u → Keeps s (implicit u fs)) : Keeps s (t.applyCommits ns direct implicit) :=
  ((hi _ _ (h.each fun _ _ h => h.loseFlip)).each fun _ _ h => h.applyCommit).assign

theorem Keeps.implicitCommit (h : Keeps s t) {flips} : Keeps s (t.implicitCommit flips) :=
  (h.upd.applyWrites.applyStagedEntries.each (fun _ _ h => h.applyFlip)).then fun h => (.ite h h.advanceGen)

theorem Keeps.stageDirect (h : Keeps s t) {off v} : Keeps s (t.stageDirect off v) := h.upd

theorem Keeps.switchAll (h : Keeps s t) {ns} : Keeps s (t.switchAll ns) :=
  (h.each (fun _ _ h => (h.applyCommits (fun _ _ h => h)))).ltrUpdate

theorem Keeps.nowSwitch (h : Keeps s t) {n} : Keeps s (t.nowSwitch n) := .ite h.switchAll h

theorem Keeps.nowFirst (h : Keeps s t) : Keeps s t.nowFirst := .ite h h.switchAll

theorem Keeps.remoteFail (h : Keeps s t) {h' line page cause} : Keeps s (t.remoteFail h' line page cause) :=
  .ite h.bump h.bump.upd.post.raise

theorem Keeps.prefetch (h : Keeps s t) {page line} : Keeps s (t.prefetch page line) :=
  h.each (fun _ _ h => (.ite h.rcacheRequest h))

theorem Keeps.surfFault (h : Keeps s t) {h' line page} : Keeps s (t.surfFault h' line page) :=
  h.bump.setFld.then fun h => (.ite h h.upd.post.raise)

theorem Keeps.fetchRunRemote {a : FetchRun} (h : Keeps s a.s) {h' line page ln} : Keeps s (a.remote h' line page ln).s := by
  unfold FetchRun.remote
  dsimp only
  refine .iteP (p := FetchRun.s) h.remoteFail ?_
  split
  · exact h.rcacheTouch.bump
  · exact .iteP (p := FetchRun.s) h.bump.remoteFail (.ite h.bump.rcacheRequest.prefetch h.bump.rcacheRequest)

theorem Keeps.fetchRunReuse {a : FetchRun} (h : Keeps s a.s) {prev h' line page ln} :
    Keeps s (a.reuse prev h' line page ln).s := by
  unfold FetchRun.reuse
  dsimp only
  split
  · exact h
  · exact h.upd

theorem Keeps.fetchRunLayer {a : FetchRun} (h : Keeps s a.s) {ls prev h' line l} :
    Keeps s (FetchRun.layer ls prev h' line a l).s := by
  unfold FetchRun.layer
  extract_lets s0 need same old new isRemote pages bad good bytes s1 s2 hf s3 a'
  have h3 : Keeps s s3 := ((h.each fun _ _ h => h.surfFault).each fun _ _ h => h.upd).setHalfFrame
  have ha : Keeps s a'.s := Keeps.foldlP FetchRun.s h3 fun _ _ h => h.fetchRunRemote
  cases same with
  | some e => exact ha.foldlP FetchRun.s fun _ _ h => h.fetchRunReuse
  | none => exact ha

theorem Keeps.fetchLine (h : Keeps s t) {line} : Keeps s (t.fetchLine line) := by
  unfold State.fetchLine
  extract_lets ls f prev a
  have ha : Keeps s a.s := .iteP (p := FetchRun.s) h
    (Keeps.foldlP FetchRun.s h fun _ _ h => h.foldlP FetchRun.s fun _ _ h => h.fetchRunLayer)
  exact ha.upd

theorem Keeps.substitute (h : Keeps s t) {h' line k} : Keeps s (t.substitute h' line k).1 := by
  unfold State.substitute
  extract_lets s1 s2 f s3 b r
  have h3 : Keeps s s3 := h.bump.setFld.setFld.setHalfFrame
  refine .iteP (p := Prod.fst) h3 ?_
  split
  · exact h3.histRead
  · exact h3.histRead

theorem Keeps.overflow (h : Keeps s t) {h' line n} : Keeps s (t.overflow h' line n) := h.bump.setFld.setFld.setHalfFrame

theorem Keeps.composeStrip (h : Keeps s t) {f ls h' line k late} : Keeps s (t.composeStrip f ls h' line k late).1 := by
  unfold State.composeStrip
  extract_lets u s1 x0 px
  have h1 : Keeps s s1 := .ite h.overflow h
  cases px with
  | some ps => exact h1
  | none => exact h1.substitute

theorem Keeps.replayStrip (h : Keeps s t) {h' line k} : Keeps s (t.replayStrip h' line k).1 := by
  unfold State.replayStrip
  refine .iteP (p := Prod.fst) h ?_
  dsimp only
  split
  · exact h.histRead
  · split
    · exact h.histRead
    · split
      · exact h.histRead
      · exact h.histRead

theorem Keeps.halfStrips (h : Keeps s t) {h'} {one : State → Nat → State × Strip}
    (h1 : ∀ u k, Keeps s u → Keeps s (one u k).1) : Keeps s (t.halfStrips h' one).1 :=
  .iteP (p := Prod.fst) h (Keeps.foldlP Prod.fst (b := (t, [])) h fun _ _ h => h1 _ _ h)

theorem Keeps.odStrip (h : Keeps s t) {h' bad line k x} : Keeps s (t.odStrip h' bad line k x).1 := by
  unfold State.odStrip
  extract_lets passed drive b1 b2 r1 r2
  have h1 : Keeps s r1.1 := h.histRead
  have h2 : Keeps s r2.1 := .iteP (p := Prod.fst) h1.histRead h1
  refine .iteP (p := Prod.fst) h (.iteP (p := Prod.fst) (.iteP (p := Prod.fst) h.bump h) ?_)
  split
  · exact h2
  · exact h2.bump

theorem Keeps.odRow (h : Keeps s t) {h' bad line ts} : Keeps s (t.odRow h' bad line ts).1 :=
  Keeps.foldlP Prod.fst (b := (t, [])) h fun _ _ h => h.odStrip

theorem Keeps.lateFills (h : Keeps s t) {line} : Keeps s (t.lateFills line) := by
  unfold State.lateFills
  exact h.upd.each (fun _ _ h => (by split <;> [exact h.remoteFail; exact h]))

theorem Keeps.captureStrips (h : Keeps s t) {dawn dusk} : Keeps s (t.captureStrips dawn dusk).1 := .ite h.draw h

theorem Keeps.upset {a : State × FetchLine} (h : Keeps s a.1) {u} : Keeps s (State.upset a u).1 := by
  unfold State.upset
  dsimp only
  split
  · exact h.sramError
  · exact h.sramError
  · exact .ite h.bump h
  · exact .iteP (p := Prod.fst) h (.iteP (p := Prod.fst) h.dramCorr (.iteP (p := Prod.fst) h.dramUncorr.freeBytes h.dramUncorr))

theorem Keeps.activeLine (h : Keeps s t) {line lateStrips lateUni lateAge skipAge upsets} :
    Keeps s (t.activeLine line lateStrips lateUni lateAge skipAge upsets) := by
  unfold State.activeLine
  extract_lets u f s1 s2 ls late one a b flags s3 c s4 oa ob s5 s6 s7 s8 w y1 y2 out
  have h2 : Keeps s s2 :=
    (Keeps.foldlP Prod.fst (f := State.upset) h fun _ _ h => h.upset).lateFills.each fun _ _ h => h.histForget
  have hone (h' : Half) (u : State) (k : Nat) (h : Keeps s u) : Keeps s (one h' u k).1 :=
    .iteP (p := Prod.fst) h.replayStrip h.composeStrip
  have h3 : Keeps s s3 := ((h2.halfStrips (hone .dawn)).halfStrips (hone .dusk)).assayLine
  have h4 : Keeps s s4 := .ite h3.captureStrips.captureLine h3
  have h5 : Keeps s s5 := h4.odRow.odRow
  have h6 : Keeps s s6 := .ite h5.histWriteLine h5
  have h7 : Keeps s s7 := .ite h6.histWriteLine h6
  exact h7.lateWords.ageLine.linkPush

theorem Keeps.deliverFill (h : Keeps s t) {key needs bs} : Keeps s (t.deliverFill key needs bs) := by
  unfold State.deliverFill
  exact h.each (fun _ _ h => (by split <;> [exact h.upd; exact h]))

theorem Keeps.fillFailed (h : Keeps s t) {f cause} : Keeps s (t.fillFailed f cause) := by
  unfold State.fillFailed
  split
  · exact h.bump
  · exact h.remoteFail

theorem Keeps.remoteFillDone (h : Keeps s t) {page line res} : Keeps s (t.remoteFillDone page line res) := by
  unfold State.remoteFillDone
  dsimp only
  split
  · exact h
  · split
    · exact .ite h h.upd.fillFailed
    · exact (Keeps.ite h.upd h.upd.rcacheTouch).deliverFill
    · exact h.upd.fillFailed
    · exact h.upd.noteRead.fillFailed

theorem keeps_execRemoteFillDone {page line res} : Yields (execRemoteFillDone page line res t) (Keeps t) :=
  ⟨_, Eq.refl _, Keeps.rfl.remoteFillDone⟩

theorem keeps_execHistReadDone {h' back line strip res} : Yields (execHistReadDone h' back line strip res t) (Keeps t) := by
  refine ⟨_, Eq.refl _, Keeps.histReadDone ?_⟩
  split
  · exact .ite Keeps.rfl.sramError .rfl
  · exact .rfl

theorem Keeps.addFlip (h : Keeps s t) {f} : Keeps s (t.addFlip f) := h.upd.each (fun _ _ h => h.loseFlip)

theorem keeps_execDescFlip {n} : Yields (execDescFlip n t) (Keeps t) := by
  refine ⟨_, Eq.refl _, Keeps.rfl.onStart fun _ => .ite Keeps.rfl.finish (.ite Keeps.rfl.finish ?_)⟩
  split
  · exact Keeps.rfl.addFlip.finish
  · exact .rfl

theorem Keeps.fixEnd (h : Keeps s t) {e repeated} : Keeps s (t.fixEnd e repeated) := h.upd

theorem Keeps.blankingEnd (h : Keeps s t) {g} : Keeps s (t.blankingEnd g) :=
  (Keeps.ite h (.ite h.fixEnd (.ite h.fixEnd (.ite h.fixEnd h)))).setBit

theorem Keeps.flipRead (h : Keeps s t) {n} : Keeps s (t.flipRead n) := h.each (fun _ _ h => h.upd)

theorem Keeps.flipsRead (h : Keeps s t) {layers} : Keeps s (t.flipsRead layers) := h.each (fun _ _ h => h.flipRead)

theorem Keeps.lineCommits (h : Keeps s t) {line} : Keeps s (t.lineCommits line) :=
  .ite h (h.flipsRead.upd.applyCommits (fun _ _ h => (h.each (fun _ _ h => h.applyFlip.advanceGen)))).flipsRead.ltrUpdate

theorem Keeps.fetchUpTo (h : Keeps s t) {first last} : Keeps s (t.fetchUpTo first last) :=
  h.each (fun _ _ h => (.ite h h.lineCommits.fetchLine))

theorem Keeps.lineReached (h : Keeps s t) : Keeps s t.lineReached := .ite h.raise.post h

theorem Keeps.flipLineEvents (h : Keeps s t) {line} : Keeps s (t.flipLineEvents line) :=
  .ite h.upd (h.upd.each (fun _ _ h => h.post))

theorem Keeps.blankingLine (h : Keeps s t) {g} : Keeps s (t.blankingLine g) :=
  h.blankingEnd.then fun h => (Keeps.ite h.fetchUpTo h).lineReached

theorem Keeps.blankingCommits (h : Keeps s t) : Keeps s t.blankingCommits :=
  .ite h (h.upd.applyCommits (fun _ _ h => h)).ltrUpdate

theorem Keeps.nextBlanking (h : Keeps s t) : Keeps s t.nextBlanking :=
  h.upd.setFld.blankingCommits.then fun h => (.ite h h.setFld.ageCycles.linkPush.blankingLine)

theorem Keeps.nextActive (h : Keeps s t) {line lateStrips lateUni lateAge skipAge upsets} :
    Keeps s (t.nextActive line lateStrips lateUni lateAge skipAge upsets) :=
  h.upd.setFld.setFld.fetchUpTo.lineReached.flipLineEvents.activeLine.upd

theorem Keeps.nextLine (h : Keeps s t) {lateStrips lateUni lateAge skipAge upsets} :
    Keeps s (t.nextLine lateStrips lateUni lateAge skipAge upsets) :=
  .ite h (.ite (.ite h.nextActive (Keeps.foldlP Prod.fst (f := State.upset) h.nextBlanking fun _ _ h => h.upset)) h.nextActive)

theorem Keeps.lineStart (h : Keeps s t) {lateStrips lateUni lateAge skipAge upsets} :
    Keeps s (t.lineStart lateStrips lateUni lateAge skipAge upsets) :=
  .ite h h.nowFirst.nextLine

theorem keeps_execLineStart {lateStrips lateUni lateAge m} : Yields (execLineStart lateStrips lateUni lateAge m t) (Keeps t) :=
  ⟨_, Eq.refl _, Keeps.rfl.lineStart.assign⟩

theorem Keeps.retention (h : Keeps s t) {replay} : Keeps s (t.retention replay) := h.upd

theorem Keeps.replayLatch (h : Keeps s t) : Keeps s t.replayLatch :=
  h.retention.setBit.then fun h => (.ite h (h.raise.then fun h => (.ite h.post h.post)))

theorem Keeps.compLatch (h : Keeps s t) {ended start} : Keeps s (t.compLatch ended start) :=
  h.each (fun _ _ h => (h.setHalfFrame.then fun h => (.ite h ((Keeps.ite h h.setFld).then fun h => ((Keeps.ite h
    h.raise.post).then fun h => (.ite h h.raise.post))))))

theorem Keeps.txnLatch (h : Keeps s t) : Keeps s t.txnLatch :=
  (h.each (fun _ _ h => (.ite h.setSlot h))).then fun h => (.ite h (.ite h.upd h.upd))

theorem Keeps.surfLatch (h : Keeps s t) : Keeps s t.surfLatch := h.upd.rcacheInvalidate

theorem Keeps.repeatLatch (h : Keeps s t) {ended} : Keeps s (t.repeatLatch ended) :=
  h.bump.raise.then fun h => (.ite h.post h)

theorem Keeps.frameStart (h : Keeps s t) : Keeps s t.frameStart := h.raise.then fun h => (.ite h.post h)

theorem Keeps.latchCommits (h : Keeps s t) : Keeps s t.latchCommits :=
  (h.upd.applyCommits (fun _ _ h => h.implicitCommit)).upd

theorem Keeps.pipelineLatch (h : Keeps s t) {ended composed start} : Keeps s (t.pipelineLatch ended composed start) :=
  (h.upd.replayLatch.each (fun _ _ h =>
    h.histLatch)).odLatch.correctLatch.ageLatch.linkLatch.panelLatch.captureLatch.compLatch.surfLatch

theorem Keeps.frameLatchAt (h : Keeps s t) {start} : Keeps s (t.frameLatchAt start) :=
  h.assayEnd.then fun h => ((Keeps.ite h h.setFld).setFld.setFld.setFld.upd.gateKeep.latchCommits.then fun h => ((Keeps.ite
    h.setFld h).pipelineLatch.then fun h => ((Keeps.ite h.repeatLatch
    h).frameStart.fenceLatch.txnLatch.upd.releaseCheck.ltrUpdate.then fun h => (.ite h.linkPush.blankingLine h))))

theorem Keeps.frameLatch (h : Keeps s t) : Keeps s t.frameLatch := .ite (h.nowFirst.then fun h => (.ite h.frameLatchAt h)) h

theorem keeps_execFrameLatch : Yields (execFrameLatch t) (Keeps t) := ⟨_, Eq.refl _, Keeps.rfl.frameLatch.assign⟩

theorem Keeps.scanRun (h : Keeps s t) : Keeps s t.scanRun :=
  .ite (h.nowFirst.then fun h => (.ite h.frameLatchAt.assign h)) h

theorem Keeps.scanCtrlWrite (h : Keeps s t) {port v} : Keeps s (t.scanCtrlWrite port v) := h.stageDirect.rwWrite.scanRun

theorem keeps_execScanCtrlWrite {port v} : Yields (execScanCtrlWrite port v t) (Keeps t) :=
  ⟨_, Eq.refl _, Keeps.rfl.portWriteTo (fun _ h => h.scanCtrlWrite)⟩

theorem keeps_execComposerReady {h'} : Yields (execComposerReady h' t) (Keeps t) := by
  refine ⟨_, Eq.refl _, ?_⟩
  split <;> exact .ite Keeps.rfl.upd Keeps.rfl

theorem keeps_execNowCommitSwitch {n} : Yields (execNowCommitSwitch n t) (Keeps t) :=
  ⟨_, Eq.refl _, Keeps.rfl.nowSwitch.scanRun⟩

theorem Keeps.digestRefreshDone (h : Keeps s t) : Keeps s t.digestRefreshDone :=
  .ite h ((h.each (fun _ _ h => h.holdDigest)).each (fun _ _ h => h.setFld)).setFld.setFld.setFld

theorem keeps_execDigestRefreshDone : Yields (execDigestRefreshDone t) (Keeps t) :=
  ⟨_, Eq.refl _, Keeps.rfl.digestRefreshDone⟩

theorem Keeps.auditStart (h : Keeps s t) : Keeps s t.auditStart := .ite h h.setFld

theorem keeps_execAuditGo {v} : Yields (execAuditGo v t) (Keeps t) :=
  ⟨_, Eq.refl _, Keeps.rfl.hostWriteTo (fun _ h => (.ite h.auditStart h))⟩

theorem keeps_execAuditCtrlWrite {v} : Yields (execAuditCtrlWrite v t) (Keeps t) :=
  ⟨_, Eq.refl _, Keeps.rfl.hostWriteTo (fun _ h => h.rwWrite)⟩

theorem keeps_execAuditPeriodic : Yields (execAuditPeriodic t) (Keeps t) :=
  ⟨_, Eq.refl _, .ite Keeps.rfl.upd.auditStart Keeps.rfl⟩

theorem Keeps.auditJudge (h : Keeps s t) {r} : Keeps s (t.auditJudge r) :=
  h.setFld.then fun h => (.ite h.setFld h.setFld.raise.post)

theorem Keeps.auditRun (h : Keeps s t) : Keeps s t.auditRun := by
  unfold State.auditRun
  refine .ite h ?_
  dsimp only
  split
  · exact h.setFld.setFld.setFld
  · exact h.setFld.auditJudge

theorem keeps_execAuditRun : Yields (execAuditRun t) (Keeps t) := ⟨_, Eq.refl _, Keeps.rfl.auditRun⟩

theorem Keeps.linkUp (h : Keeps s t) : Keeps s t.linkUp := h.draw.draw.setFld.setFld.setFld.setFld

theorem Keeps.linkDown (h : Keeps s t) : Keeps s t.linkDown := h.wr

theorem keeps_execL1Entry {sub} : Yields (execL1Entry sub t) (Keeps t) :=
  ⟨_, Eq.refl _, .ite Keeps.rfl (Keeps.ite Keeps.rfl.bump Keeps.rfl).setFld⟩

theorem Keeps.d3Enter (h : Keeps s t) : Keeps s t.d3Enter := h.upd.setCfg

theorem Keeps.d3Leave (h : Keeps s t) : Keeps s t.d3Leave :=
  ((h.upd.setCfg.each (fun _ _ h => h.request)).each (fun _ _ h => h.roomBack)).flushVectors.ltrUpdate.assign

theorem keeps_execD3hotEntry : Yields (execD3hotEntry t) (Keeps t) := ⟨_, Eq.refl _, .ite Keeps.rfl.d3Enter Keeps.rfl⟩

theorem keeps_execD0Return : Yields (execD0Return t) (Keeps t) := ⟨_, Eq.refl _, .ite Keeps.rfl.d3Leave Keeps.rfl⟩

theorem Keeps.ptmStart (h : Keeps s t) : Keeps s t.ptmStart := .ite h h.upd.request

theorem keeps_execPtmPeriodic : Yields (execPtmPeriodic t) (Keeps t) := ⟨_, Eq.refl _, .ite Keeps.rfl Keeps.rfl.ptmStart⟩

theorem keeps_execPtmNow {v} : Yields (execPtmNow v t) (Keeps t) :=
  ⟨_, Eq.refl _, Keeps.rfl.hostWriteTo (fun _ h => (.ite h.ptmStart h))⟩

theorem Keeps.ptmDone (h : Keeps s t) {l h'} : Keeps s (t.ptmDone l h') := by
  unfold State.ptmDone
  refine .ite h (Keeps.upd (t := State.setFld _ _ _) (.setFld (.setFld (.setFld (.setFld ?_)))))
  split
  · exact .ite h.setFld.setFld h
  · exact h

theorem keeps_execPtmDialogDone {l h'} : Yields (execPtmDialogDone l h' t) (Keeps t) := ⟨_, Eq.refl _, Keeps.rfl.ptmDone⟩

theorem Keeps.cageReadEnds (h : Keeps s t) {n c res} : Keeps s (t.cageReadEnds n c res) := by
  unfold State.cageReadEnds
  split
  · exact h.burstDone
  · exact h.landBurstDone
  · exact h.inflateComplete.assignLanes
  · exact h

theorem Keeps.readFails (h : Keeps s t) {r timeout} : Keeps s (t.readFails r timeout) := by
  unfold State.readFails
  refine .ite h ?_
  split
  · split
    · exact h.cageReadEnds
    · exact h
  · exact h.descFetched
  · exact h.remoteFillDone

theorem keeps_execCompletionTimeout {r} : Yields (execCompletionTimeout r t) (Keeps t) :=
  ⟨_, Eq.refl _, Keeps.rfl.readFails⟩

theorem keeps_execPoisonedTlp {r} : Yields (execPoisonedTlp r t) (Keeps t) := by
  refine ⟨_, Eq.refl _, ?_⟩
  refine .ite Keeps.rfl ?_
  exact Keeps.rfl.aerUncorr.then fun h => by
    split
    · exact h.readFails
    · exact h

theorem keeps_execUnexpectedCompletion : Yields (execUnexpectedCompletion t) (Keeps t) :=
  ⟨_, Eq.refl _, .ite Keeps.rfl.aerUncorr Keeps.rfl⟩

theorem Keeps.malformed (h : Keeps s t) {isRead} : Keeps s (t.malformed isRead) :=
  .ite h (.ite (.ite h.bump.emit h.bump) (.ite (.ite h.emit h) (h.bump.aerUncorr.then fun h => (.ite h.emit h))))

theorem keeps_execMalformedBar0Access {isRead} : Yields (execMalformedBar0Access isRead t) (Keeps t) :=
  ⟨_, Eq.refl _, Keeps.rfl.malformed⟩

theorem Keeps.fatalRecord (h : Keeps s t) {cause detail region page panel} :
    Keeps s (t.fatalRecord cause detail region page panel) := by
  unfold State.fatalRecord
  exact (Keeps.each (by split <;> [exact h; exact h.draw])) (fun _ _ h => h.persWrite)

theorem Keeps.stopCages (h : Keeps s t) : Keeps s t.stopCages := h.upd

theorem Keeps.fatalEnd (h : Keeps s t) : Keeps s t.fatalEnd := h.upd.setFld.scanHalt.then fun h => (.ite h.ckptRequest h)

theorem Keeps.fatalPath (h : Keeps s t) {cause detail region page} : Keeps s (t.fatalPath cause detail region page) :=
  .ite h.fatalRecord (h.setFld.setFld.panelDown.labelPfw.stopCages.fatalRecord.post.then fun h => ((Keeps.ite h.aerUncorr
    h).upd.then fun h => (.ite h.fatalEnd h)))

theorem Keeps.bootFail (h : Keeps s t) {code} : Keeps s (t.bootFail code) := h.setFld.fatalRecord

theorem Keeps.fatalForce (h : Keeps s t) {v} : Keeps s (t.fatalForce v) := .ite h.fatalPath h

theorem keeps_execFatalForce {v} : Yields (execFatalForce v t) (Keeps t) :=
  ⟨_, Eq.refl _, Keeps.rfl.hostWriteTo (fun _ h => h.fatalForce)⟩

theorem keeps_execXtalLost : Yields (execXtalLost t) (Keeps t) :=
  ⟨_, Eq.refl _, .ite Keeps.rfl Keeps.rfl.xtalLoss.fatalPath⟩

theorem Keeps.parityError (h : Keeps s t) {off} : Keeps s (t.parityError off) :=
  .ite h (h.draw.wr.blockError.then fun h => (.ite h.fatalPath h))

theorem keeps_execRegParityError {off} : Yields (execRegParityError off t) (Keeps t) :=
  ⟨_, Eq.refl _, .ite Keeps.rfl Keeps.rfl.parityError⟩

theorem Keeps.tmonReading (h : Keeps s t) {code} : Keeps s (t.tmonReading code) :=
  h.setFld.setFld.then fun h => ((Keeps.ite h.setFld h).then fun h => ((Keeps.ite h.upd.raise.post (.ite h.upd h)).then fun
    h => (.ite (h.upd.then fun h => (.ite h.fatalPath h)) h.upd)))

theorem keeps_execTmonReading {temp} : Yields (execTmonReading temp t) (Keeps t) :=
  ⟨_, Eq.refl _, .ite Keeps.rfl Keeps.rfl.tmonReading⟩

theorem Keeps.writeRecord (h : Keeps s t) {image trial} : Keeps s (t.writeRecord image trial) := by
  unfold State.writeRecord
  exact (((Keeps.each (by split <;> [exact h; exact h.draw])) (fun _ _ h => h.persWrite)).each (fun _ _ h =>
    h.persWrite)).persWrite.persWrite.upd

theorem Keeps.fwShow (h : Keeps s t) : Keeps s t.fwShow := .ite h h.setFld.setBit.setBit.setBit

theorem Keeps.fwCheck (h : Keeps s t) {image} : Keeps s (t.fwCheck image).2.2 := h.upd

theorem Keeps.loadCode (h : Keeps s t) {p} : Keeps s (t.loadCode p) := h.upd

theorem Keeps.foremanRun (h : Keeps s t) {image p} : Keeps s (t.foremanRun image p) := h.loadCode.upd.fwShow.setFld.ckptTry

theorem Keeps.enterRecovery (h : Keeps s t) : Keeps s t.enterRecovery := h.upd.fwShow

theorem Keeps.firmwareStart (h : Keeps s t) {want} : Keeps s (t.firmwareStart want) :=
  .ite h.enterRecovery (.ite h.fwCheck.foremanRun (.ite h.fwCheck.fwCheck.upd.setFld.foremanRun
    h.fwCheck.fwCheck.enterRecovery))

theorem Keeps.revert (h : Keeps s t) : Keeps s t.revert := h.writeRecord.upd

theorem Keeps.revertedEvent (h : Keeps s t) {cause} : Keeps s (t.revertedEvent cause) := h.post

theorem Keeps.restarted (h : Keeps s t) {cause} : Keeps s (t.restarted cause) := h.bump.raise.post

theorem Keeps.foreAbort (h : Keeps s t) : Keeps s t.foreAbort := (h.each (fun _ _ h => h.abortChan)).assign.setFld

theorem Keeps.foreStop (h : Keeps s t) : Keeps s t.foreStop := h.foreAbort.abandonAll.mboxResult

theorem Keeps.foreRestart (h : Keeps s t) {cause} : Keeps s (t.foreRestart cause) :=
  h.foreStop.then fun h => (.ite h.revert.firmwareStart.revertedEvent.restarted h.firmwareStart.restarted)

theorem Keeps.foreWdog (h : Keeps s t) : Keeps s t.foreWdog := .ite h h.setFld.foreRestart

theorem Keeps.trialTimeout (h : Keeps s t) : Keeps s t.trialTimeout := .ite h h.foreRestart

theorem Keeps.coldCore (h : Keeps s t) : Keeps s t.coldCore := ⟨h.1, fun _ => Eq.refl _⟩

theorem Keeps.readSubsystem (h : Keeps s t) : Keeps s t.readSubsystem := h.setCfg

theorem Keeps.coldState (h : Keeps s t) : Keeps s t.coldState := h.coldCore.upd.readSubsystem

theorem Keeps.coldReset (h : Keeps s t) {bootsel} : Keeps s (t.coldReset bootsel) := h.coldState.upd

theorem Keeps.fullReset (h : Keeps s t) : Keeps s t.fullReset := h.coldReset.upd.wr.wr.setFld

theorem Keeps.cfgReset (h : Keeps s t) {keep} : Keeps s (t.cfgReset keep) := h.upd

theorem Keeps.hostBegin (h : Keeps s t) {bit} : Keeps s (t.hostBegin bit) := by
  unfold State.hostBegin
  extract_lets s1
  have h1 : Keeps s s1 := h.hostResetBegin
  split
  · exact h1.upd
  · exact h1

theorem Keeps.hostReset' (h : Keeps s t) {bit} : Keeps s (t.hostReset' bit) :=
  h.hostBegin.then fun h => (.ite h.cfgReset.readSubsystem.linkDown (.ite h.cfgReset h))

theorem Keeps.hostSide (h : Keeps s t) {bit} : Keeps s (t.hostSide bit) := .ite h.upd h.hostReset'

theorem Keeps.dueReset (h : Keeps s t) : Keeps s t.dueReset := .ite h.upd h.upd.hostReset'

theorem Keeps.perstAssert (h : Keeps s t) : Keeps s t.perstAssert := .ite h (.ite h.upd h.upd.hostSide.upd)

theorem Keeps.autoOffIssue (h : Keeps s t) : Keeps s t.autoOffIssue := h.upd.powerIssue

theorem Keeps.perstDeassert (h : Keeps s t) : Keeps s t.perstDeassert :=
  .ite h (.ite h.upd (h.upd.hostResetEnd.then fun h => (.ite h.wakeEvent h)))

theorem Keeps.hotReset (h : Keeps s t) {down} : Keeps s (t.hotReset down) := .ite h (Keeps.ite h.bump.linkDown h).hostSide

theorem Keeps.flr (h : Keeps s t) : Keeps s t.flr := .ite h h.hostBegin.cfgReset.setCfg

theorem Keeps.hostEnd (h : Keeps s t) : Keeps s t.hostEnd := .ite h.hostResetEnd h

theorem Keeps.labelHalt (h : Keeps s t) : Keeps s t.labelHalt := .ite h (.ite h.labelStop h.upd)

theorem Keeps.fullBegin (h : Keeps s t) : Keeps s t.fullBegin := .ite h h.upd.labelHalt

theorem Keeps.resetCtrl (h : Keeps s t) {v} : Keeps s (t.resetCtrl v) := .ite h (.ite h.fullBegin h.hostSide)

theorem Keeps.activityFailed (h : Keeps s t) {m} : Keeps s (t.activityFailed m) :=
  (Keeps.ite h.ckptEnd h).then fun h => (Keeps.ite h.mboxResult h).maintEnd

theorem Keeps.canaryRestart (h : Keeps s t) : Keeps s t.canaryRestart :=
  .ite h.upd.activityFailed.canaryRelease h.upd.canaryRelease

theorem Keeps.blockRestart (h : Keeps s t) {page} : Keeps s (t.blockRestart page) := by
  unfold State.blockRestart
  split
  · exact h.upd
  · exact h.each (fun _ _ h => h.activityFailed)
  · exact h.canaryRestart
  · exact h.each (fun _ _ h => h.activityFailed)
  · exact h

theorem Keeps.blockWdog (h : Keeps s t) {page} : Keeps s (t.blockWdog page) :=
  .ite h (h.blockError.then fun h => (.ite h.foreWdog (.ite h.hostSide (.ite h.blockRestart (.ite h.labelHalt
    h.fatalPath)))))

theorem Keeps.isolate (h : Keeps s t) {region} : Keeps s (t.isolate region) :=
  h.setFld.raise.post.then fun h => (.ite h.hostSide h.fatalPath)

theorem Keeps.portTimeout (h : Keeps s t) {page} : Keeps s (t.portTimeout page) :=
  .ite h (h.blockError.then fun h => (.ite h (h.upd.then fun h => (.ite h.isolate h))))

theorem Keeps.cfgEffect (h : Keeps s t) {off} : Keeps s (t.cfgEffect off) := .ite h.flushVectors (.ite h.ltrUpdate h)

theorem Keeps.cfgWrite (h : Keeps s t) {off v} : Keeps s (t.cfgWrite off v) :=
  .ite (.ite (.ite h h.d3Enter) (.ite (.ite h.d3Leave h) h)) (.ite h.bar4Resize (h.setCfg.cfgEffect.then fun h => (.ite
    h.flr h)))

theorem Keeps.configRequest (h : Keeps s t) {isWrite off v} : Keeps s (t.configRequest isWrite off v) :=
  .ite h (.ite h.emit (.ite h.cfgWrite.emit h.emit))

theorem Keeps.mboxCode (h : Keeps s t) {code} : Keeps s (t.mboxCode code) := h.mboxResult

theorem Keeps.mboxImage (h : Keeps s t) {reason} : Keeps s (t.mboxImage reason) := h.mboxResult

theorem Keeps.mbPing (h : Keeps s t) : Keeps s t.mbPing := h.mboxResult

theorem Keeps.mbLoad (h : Keeps s t) {m} : Keeps s (t.mbLoad m) :=
  .ite h.mboxCode (.ite h.mboxCode (.ite h.mboxCode h.maintRequest))

theorem Keeps.mbStage (h : Keeps s t) {m} : Keeps s (t.mbStage m) := .ite h.mboxCode (.ite h.mboxCode h)

theorem Keeps.stageNext (h : Keeps s t) {m} : Keeps s (t.stageNext m) := h.upd.wr.wr.wr.wr.setFld.setChan.setFld.assign

theorem Keeps.stageOn (h : Keeps s t) {m} : Keeps s (t.stageOn m) :=
  .ite h (.ite h.mboxResult (.ite h.mboxCode (.ite h h.stageNext)))

theorem Keeps.mbStore (h : Keeps s t) {m} : Keeps s (t.mbStore m) :=
  .ite h.mboxCode (.ite h.mboxCode (.ite h.mboxImage (.ite h.mboxCode h.maintRequest)))

theorem Keeps.mbInstall (h : Keeps s t) {m} : Keeps s (t.mbInstall m) :=
  .ite h.mboxCode (.ite h.mboxCode (.ite h.mboxImage h.maintRequest))

theorem Keeps.mbSwitch (h : Keeps s t) : Keeps s t.mbSwitch :=
  .ite h.mboxCode (h.fwCheck.fwShow.then fun h => (.ite h.mboxImage h))

theorem Keeps.switchOn (h : Keeps s t) : Keeps s t.switchOn :=
  .ite h h.writeRecord.upd.foreAbort.firmwareStart.mboxCode.post.restarted.maintScan

theorem Keeps.mbConfirm (h : Keeps s t) : Keeps s t.mbConfirm := (Keeps.ite h.writeRecord h).upd.fwShow.mboxCode

theorem Keeps.setShutdown (h : Keeps s t) {m k} : Keeps s (t.setShutdown m k) := h.upd

theorem Keeps.shutdownEnd (h : Keeps s t) {m} : Keeps s (t.shutdownEnd m) := h.mboxResult

theorem Keeps.shutdownOn (h : Keeps s t) {m} : Keeps s (t.shutdownOn m) :=
  .ite (.ite h (Keeps.ite h.labelStop h).setShutdown.panelDown) (.ite (.ite h.setShutdown.ckptRequest h) (.ite h
    h.shutdownEnd))

theorem Keeps.mbShutdown (h : Keeps s t) {m} : Keeps s (t.mbShutdown m) := h.setShutdown.upd

theorem Keeps.shutdownExpire (h : Keeps s t) : Keeps s t.shutdownExpire := by
  unfold State.shutdownExpire
  split
  · exact .ite h.labelHalt h
  · exact h

theorem Keeps.mboxBegin (h : Keeps s t) {m} : Keeps s (t.mboxBegin m) := by
  unfold State.mboxBegin
  refine .ite h.mboxCode ?_
  split
  · exact h.mbPing
  · exact h.mbLoad
  · exact h.mbStage
  · exact h.mbStore
  · exact h.mbInstall
  · exact h.mbSwitch
  · exact h.mbConfirm
  · exact h.mbShutdown
  · exact h.mboxCode

theorem Keeps.mboxCmd (h : Keeps s t) {op seq} : Keeps s (t.mboxCmd op seq) := .ite h h.upd.setFld.mboxBegin

theorem Keeps.mboxOn (h : Keeps s t) : Keeps s t.mboxOn := by
  unfold State.mboxOn
  split
  · refine .ite h ?_
    split
    · exact h.stageOn
    · exact h.switchOn
    · exact h.shutdownOn
    · exact h
  · exact h

theorem Keeps.orFree (h : Keeps s t) {v} : Keeps s (t.orFree v).2 := by
  unfold State.orFree
  split
  · exact h
  · exact h.draw

theorem Keeps.mboxDone (h : Keeps s t) : Keeps s t.mboxDone := by
  unfold State.mboxDone
  split
  · split
    · exact .ite h h.orFree.orFree.orFree.wr.wr.setFld.setFld.setFld.upd.setFld.mboxPost
    · exact h
  · exact h

theorem Keeps.panelAuto (h : Keeps s t) : Keeps s t.panelAuto := .ite h.panelUp h

theorem Keeps.mapLoaded (h : Keeps s t) {m failed report} : Keeps s (t.mapLoaded m failed report) :=
  .ite (Keeps.ite h.mboxCode (.ite h.panelAuto h)).maintEnd (.ite (Keeps.ite h.mboxCode h).maintEnd (h.loadImage.then fun h
    => ((Keeps.ite (.ite h.mboxCode h.mboxImage) h).then fun h => (Keeps.ite h (.ite h.upd h.panelAuto)).maintEnd)))

theorem Keeps.fwProgram (h : Keeps s t) {a ok} : Keeps s (t.fwProgram a ok) := .ite h.nandProgram h.draw.nandProgram

theorem Keeps.fwUpdated (h : Keeps s t) {m ok} : Keeps s (t.fwUpdated m ok) := by
  unfold State.fwUpdated
  refine Keeps.maintEnd ?_
  dsimp only
  split
  · refine .ite (.ite h.fwProgram.upd.fwShow.mboxResult h.fwProgram.upd.fwShow.mboxCode) (Keeps.mboxCode ?_)
    split
    · exact h.fwProgram
    · exact h
  · exact h

theorem Keeps.activityDone (h : Keeps s t) {act res report} : Keeps s (t.activityDone act res report) := by
  unfold State.activityDone
  split
  · exact h
  · extract_lets ok s1
    have h1 : Keeps s s1 := .ite h.nandReport h
    split
    · exact h1.marchRows.maintEnd
    · exact h1.mapLoaded
    · exact h1.checkpointDone
    · exact .ite h1.scrubPassDone h1.maintEnd
    · exact (Keeps.ite h1.nandRefreshed h1).maintEnd
    · exact h1.fwUpdated
    · exact h1

theorem Keeps.clampClr (h : Keeps s t) {page} : Keeps s (t.clampClr page) := h.each (fun _ _ h => h.wr)

theorem Keeps.errClr (h : Keeps s t) {page} : Keeps s (t.errClr page) := h.each (fun _ _ h => h.wr)

theorem Keeps.intForce (h : Keeps s t) {page v} : Keeps s (t.intForce page v) := h.wr.summaryEdge

theorem Keeps.w1c (h : Keeps s t) {off v} : Keeps s (t.w1c off v) := h.wr

theorem Keeps.blkCtrl (h : Keeps s t) {page v} : Keeps s (t.blkCtrl page v) :=
  (Keeps.ite h.clampClr h).then fun h => (.ite h.errClr h)

theorem Keeps.maintReqWrite (h : Keeps s t) {v} : Keeps s (t.maintReqWrite v) :=
  .ite h (.ite h.maintReqScrub (.ite h.nandRefreshGo h.refuseCommand))

theorem Keeps.panelCmdWrite (h : Keeps s t) {v} : Keeps s (t.panelCmdWrite v) := .ite h.panelUp (.ite h.panelDownCmd h)

theorem Keeps.keyCmdWrite (h : Keeps s t) {v} : Keeps s (t.keyCmdWrite v) := .ite h.clearKeyData h.keyCmd

theorem Keeps.keyDataWrite (h : Keeps s t) {i v} : Keeps s (t.keyDataWrite i v) := h.upd

theorem Keeps.slotCmdWrite (h : Keeps s t) {n v} : Keeps s (t.slotCmdWrite n v) := h.txnCommit.txnAbort.assign

theorem Keeps.slotWrite (h : Keeps s t) {n reg v} : Keeps s (t.slotWrite n reg v) := by
  unfold State.slotWrite
  split
  · exact h.setFld
  · exact h.stage
  · exact h.wr
  · exact h.slotCmdWrite
  · exact h

theorem Keeps.ofSome {a u : State} {o : Option State} {c : Prop} {_ : Decidable c} (ha : Keeps s a)
    (ho : o = some u → Keeps s u) (e : (if c then some a else o) = some u) : Keeps s u := by
  split at e
  · exact Option.some.inj e ▸ ha
  · exact ho e

theorem Keeps.commandWrite (h : Keeps s t) {port off v u} (e : t.commandWrite port off v = some u) : Keeps s u := by
  revert e
  unfold State.commandWrite
  exact ofSome h.wr <| ofSome h.retireWrite <| ofSome h.rcacheInvalWrite <| ofSome h.qcmdWrite <|
    ofSome h.chAbortWrite <|
    ofSome h.chCtrlWrite <| ofSome (.ite h.auditStart h) <| ofSome h.histCmdWrite <| ofSome h.histCmdWrite <|
    ofSome (.ite h.odSeal h) <| ofSome h.ctxDropWrite <| ofSome (.ite h.startUniSeal h) <| ofSome (.ite h.ckptRequest h) <|
    ofSome h.trainCmdWrite <| ofSome h.ctlCmdWrite <| ofSome h.panelCmdWrite <| ofSome h.keyDataWrite <|
    ofSome h.keyCmdWrite <| ofSome h.policyWrite <| ofSome h.powerWord <| ofSome (.ite h.powerWord h) <|
    ofSome h.padRelease <| ofSome h.marchGo <| ofSome h.maintReqWrite <| ofSome h.resetCtrl <| ofSome h.fatalForce <|
    ofSome h.mboxCmd <| ofSome (.ite h.ptmStart h) <| ofSome h.scanCtrlWrite nofun

theorem Keeps.valueWrite (h : Keeps s t) {port off v} : Keeps s (t.valueWrite port off v) :=
  (Keeps.ite h.stageDirect h).then fun h => ((Keeps.ite h.rwWrite h).then fun h => (.ite h.w1c h))

theorem Keeps.pageWrite (h : Keeps s t) {port off v} : Keeps s (t.pageWrite port off v) := by
  unfold State.pageWrite
  refine .ite h (.ite h.blkCtrl (.ite h.intForce ?_))
  split
  · exact h.commandWrite ‹_›
  · exact h.valueWrite

theorem Keeps.regWrite (h : Keeps s t) {port off v} : Keeps s (t.regWrite port off v) := by
  unfold State.regWrite
  refine .ite h (.ite h.pageEntryWrite.ltrUpdate ?_)
  refine .ite ?_ (.ite (.ite h.persHostWrite h) (.ite h (.ite h.odWrite (.ite h.valueWrite (.ite h (.ite h.slotWrite (.ite
    (.ite h.ringHeadWrite h.ringCfgWrite) (.ite h.queueCfgWrite h.pageWrite))))))))
  split
  · exact h.scratchWrite
  · exact h.setScratch

theorem Keeps.msixWrite (h : Keeps s t) {i v} : Keeps s (t.msixWrite i v) := h.upd.flushVectors

theorem Keeps.bar2Write (h : Keeps s t) {off v} : Keeps s (t.bar2Write off v) :=
  .ite (.ite (h.hostWriteTo (fun _ h => h.doorbell)) h) (.ite (.ite h (.ite h.bump (.ite h h.msixWrite))) h)

theorem Keeps.registerWrite (h : Keeps s t) {port bar2 off v} : Keeps s (t.registerWrite port bar2 off v) := by
  unfold State.registerWrite
  refine .ite ?_ ?_
  · split
    · exact h.bar2Write
    · exact h
  · refine .ite ?_ (h.portWriteTo (fun _ h => h.regWrite))
    split
    · exact h.malformed
    · exact h

theorem Keeps.setBootStep (h : Keeps s t) {k} : Keeps s (t.setBootStep k) := h.upd

theorem Keeps.setAgain (h : Keeps s t) {b} : Keeps s (t.setAgain b) := h.upd

theorem Keeps.setStage (h : Keeps s t) {n} : Keeps s (t.setStage n) := h.setFld

theorem Keeps.bootWake (h : Keeps s t) : Keeps s t.bootWake := h.setAgain.setBootStep

theorem Keeps.bootRooted (h : Keeps s t) : Keeps s t.bootRooted :=
  h.setFld.setFld.setAgain.then fun h => (.ite h.setBootStep (h.upd.setBit.setFld.upd.then fun h => ((Keeps.ite
    h.revert.revertedEvent h).applyRepairs.then fun h => (.ite h.bootWake h.setStage.setBootStep))))

theorem Keeps.bootNoRoot (h : Keeps s t) : Keeps s t.bootNoRoot := .ite h.setAgain h.setBootStep.bootFail

theorem Keeps.bootMarched (h : Keeps s t) {rows} : Keeps s (t.bootMarched rows) := h.marchRows.setFld.bootWake

theorem Keeps.bootWoken (h : Keeps s t) : Keeps s t.bootWoken :=
  .ite h.setAgain.setStage.setBootStep (.ite h.setAgain.setBootStep (.ite h.setBootStep.bootFail (Keeps.ite h
    h.bootFail).setAgain.setStage.setBootStep))

theorem Keeps.bootFirmware (h : Keeps s t) : Keeps s t.bootFirmware :=
  (Keeps.ite h h.setStage).then fun h => (.ite h.bootFail.setAgain.setBootStep ((Keeps.ite h.enterRecovery
    h.firmwareStart).then fun h => (.ite h.setFld.placeStores.setBootStep h.setBootStep)))

theorem Keeps.bootTrained (h : Keeps s t) {ok} : Keeps s (t.bootTrained ok) :=
  .ite h.bootFirmware (.ite h.setAgain h.setAgain.bootFail.bootFirmware)

theorem Keeps.listGo (h : Keeps s t) {r n i} : Keeps s (listGo r n i t) := by
  induction n generalizing t i with
  | zero => exact h.setBootStep
  | succ n ih =>
    have hw : Keeps s (if listSkips (t.recWord r (16 + 2 * i)).toNat then t.bump F.CHIP_BOOT_STATUS_SKIPPED
        else t.registerWrite .foreman false (t.recWord r (16 + 2 * i)).toNat (t.recWord r (17 + 2 * i))) :=
      .ite h.bump h.registerWrite
    exact .ite hw.setBootStep (ih hw)

theorem Keeps.bootList (h : Keeps s t) {i} : Keeps s (t.bootList i) := by
  unfold State.bootList
  split
  · exact h.listGo
  · exact h.setBootStep

theorem Keeps.bootReady (h : Keeps s t) : Keeps s t.bootReady :=
  h.padRelease.setStage.setBootStep.then fun h => (.ite h (h.upd.then fun h => (.ite h h.panelAuto)))

theorem Keeps.splashRun (h : Keeps s t) : Keeps s t.splashRun := h.upd.setFld.scanRun.panelAuto

theorem Keeps.loadNext (h : Keeps s t) {kind} : Keeps s (t.loadNext kind) := h.upd.maintRequest

theorem Keeps.foreUp (h : Keeps s t) : Keeps s t.foreUp :=
  .ite h.setAgain.bootFirmware (h.firmwareStart.then fun h => (.ite h.placeStores h))

theorem Keeps.fullStep (h : Keeps s t) {u} (e : t.fullStep = some u) : Keeps s u := by
  unfold State.fullStep at e
  dsimp only at e
  split at e
  · split at e <;> cases e
    exact h.panelDown.upd
  · split at e <;> cases e
    exact (Keeps.ite h.ckptRequest h).upd
  · split at e <;> cases e
    exact h.upd
  · cases e
    exact (h.each fun _ _ h => h.pstoreStep).fullReset
  · cases e

theorem Keeps.bootStep' (h : Keeps s t) {u} (e : t.bootStep' = some u) : Keeps s u := by
  unfold State.bootStep' at e
  split at e
  · split at e <;> cases e
    exact h.setBootStep.powerIssue
  · split at e <;> cases e
    exact h.bootWoken
  · split at e <;> cases e
    exact h.bootList
  · split at e <;> cases e
    exact h.setBootStep.powerIssue
  · split at e <;> cases e
    exact h.bootReady
  · split at e
    · cases e
    · split at e
      · cases e
        exact h.foreUp
      · split at e
        · split at e <;> cases e
          exact h.splashRun
        · obtain ⟨_, _, rfl⟩ := Option.map_eq_some_iff.mp e
          exact h.loadNext
  · cases e

theorem Keeps.linkStep (h : Keeps s t) {u} (e : t.linkStep = some u) : Keeps s u := by
  unfold State.linkStep at e
  dsimp only at e
  split at e
  · cases e
    exact h.linkUp
  · split at e <;> cases e
    exact h.linkDown

theorem Keeps.goStep (h : Keeps s t) {u} (e : t.goStep = some u) : Keeps s u := by
  unfold State.goStep at e
  split at e
  · cases e
  · split at e
    · cases e
      exact h.fatalEnd
    · split at e
      · cases e
        exact h.dueReset
      · split at e
        · cases e
          exact h.autoOffIssue
        · split at e
          · cases e
            exact h.linkStep ‹_›
          · split at e
            · exact h.fullStep e
            · split at e
              · cases e
              · exact h.bootStep' e

theorem Keeps.goLoop (h : Keeps s t) {n} : Keeps s (goLoop n t) := by
  induction n generalizing t with
  | zero => exact h
  | succ n ih =>
    unfold Machine.goLoop
    split
    · exact ih (h.goStep ‹_›).afterReq
    · exact h

theorem Keeps.goOn (h : Keeps s t) : Keeps s t.goOn := h.goLoop.mboxOn.mboxOn.mboxOn.mboxOn.goLoop

theorem Keeps.flow (h : Keeps s t) {f : State → State} (hf : ∀ u, Keeps s u → Keeps s (f u)) : Keeps s (t.flow f) :=
  .ite h (hf _ h).afterReq.goOn

theorem keeps_execRegisterWrite {port bar2 off v} : Yields (execRegisterWrite port bar2 off v t) (Keeps t) :=
  ⟨_, Eq.refl _, Keeps.rfl.flow (fun _ h => h.registerWrite)⟩

theorem keeps_execClampClr {page} : Yields (execClampClr page t) (Keeps t) :=
  ⟨_, Eq.refl _, Keeps.rfl.hostWriteTo (fun _ h => (.ite h.clampClr h))⟩

theorem keeps_execErrClr {page} : Yields (execErrClr page t) (Keeps t) :=
  ⟨_, Eq.refl _, Keeps.rfl.hostWriteTo (fun _ h => (.ite h.errClr h))⟩

theorem keeps_execIntForce {page v} : Yields (execIntForce page v t) (Keeps t) :=
  ⟨_, Eq.refl _, Keeps.rfl.hostWriteTo (fun _ h => (.ite h.intForce h))⟩

theorem keeps_execGateForceWrite {v} : Yields (execGateForceWrite v t) (Keeps t) :=
  ⟨_, Eq.refl _, Keeps.rfl.hostWriteTo (fun _ h => h.valueWrite)⟩

theorem keeps_execChAbort {port v} : Yields (execChAbort port v t) (Keeps t) :=
  ⟨_, Eq.refl _, Keeps.rfl.flow (fun _ h => (h.portWriteTo (fun _ h => h.chAbortWrite)))⟩

theorem keeps_execTransferComplete {n} : Yields (execTransferComplete n t) (Keeps t) :=
  ⟨_, Eq.refl _, Keeps.rfl.flow (fun _ h => h.transferComplete)⟩

theorem keeps_execMergeDone {n} : Yields (execMergeDone n t) (Keeps t) :=
  ⟨_, Eq.refl _, Keeps.rfl.flow (fun _ h => h.mergeDone.assign)⟩

theorem keeps_execKeyWriteDone : Yields (execKeyWriteDone t) (Keeps t) := ⟨_, Eq.refl _, Keeps.rfl.keyWriteDone⟩

theorem keeps_execCheckpointDone {status} : Yields (execCheckpointDone status t) (Keeps t) :=
  ⟨_, Eq.refl _, Keeps.rfl.flow (fun _ h => h.checkpointDone)⟩

theorem keeps_execMaintActivityDone {activity res report} : Yields (execMaintActivityDone activity res report t) (Keeps t) :=
  ⟨_, Eq.refl _, Keeps.rfl.flow (fun _ h => (.ite h.bootMarched h.activityDone))⟩

theorem keeps_execRailReqAck : Yields (execRailReqAck t) (Keeps t) := ⟨_, Eq.refl _, Keeps.rfl.flow (fun _ h => h.railAck)⟩

theorem keeps_execRailReqTimeout {m} : Yields (execRailReqTimeout m t) (Keeps t) :=
  ⟨_, Eq.refl _, Keeps.rfl.flow (fun _ h => h.railTimeout)⟩

theorem keeps_execPanelSeqTimer : Yields (execPanelSeqTimer t) (Keeps t) :=
  ⟨_, Eq.refl _, Keeps.rfl.flow (fun _ h => h.seqTimer)⟩

theorem Keeps.pfwFall (h : Keeps s t) : Keeps s t.pfwFall :=
  (h.each (fun _ _ h => h.pstoreStep)).pfwPanel.labelPfw.abandonAll

theorem keeps_execPfwAssert : Yields (execPfwAssert t) (Keeps t) :=
  ⟨_, Eq.refl _, .ite Keeps.rfl.upd (.ite Keeps.rfl (Keeps.rfl.flow (fun _ h => h.pfwFall)))⟩

theorem keeps_execPfwDeassert : Yields (execPfwDeassert t) (Keeps t) :=
  ⟨_, Eq.refl _, .ite Keeps.rfl.pfwHigh (Keeps.rfl.flow (fun _ h => h.pfwHigh.ckptTry))⟩

theorem keeps_execPhaseBoundary {good} : Yields (execPhaseBoundary good t) (Keeps t) :=
  ⟨_, Eq.refl _, Keeps.rfl.flow (fun _ h => h.phaseBoundary)⟩

theorem keeps_execLabelPwrTimeout : Yields (execLabelPwrTimeout t) (Keeps t) :=
  ⟨_, Eq.refl _, Keeps.rfl.flow (fun _ h => h.labelPwrTimeout)⟩

theorem keeps_execLabelPwrgoodLost : Yields (execLabelPwrgoodLost t) (Keeps t) :=
  ⟨_, Eq.refl _, Keeps.rfl.flow (fun _ h => h.labelPwrgoodLost)⟩

theorem keeps_execPowerReq {v} : Yields (execPowerReq v t) (Keeps t) :=
  ⟨_, Eq.refl _, Keeps.rfl.flow (fun _ h => (h.hostWriteTo (fun _ h => h.powerWord)))⟩

theorem keeps_execPowerFreq {v} : Yields (execPowerFreq v t) (Keeps t) :=
  ⟨_, Eq.refl _, Keeps.rfl.flow (fun _ h => (h.portWriteTo (fun _ h => h.powerWord)))⟩

theorem keeps_execPadRelease {v} : Yields (execPadRelease v t) (Keeps t) :=
  ⟨_, Eq.refl _, Keeps.rfl.flow (fun _ h => (h.hostWriteTo (fun _ h => h.padRelease)))⟩

theorem keeps_execBlockQuiesceAnswer {page} : Yields (execBlockQuiesceAnswer page t) (Keeps t) :=
  ⟨_, Eq.refl _, Keeps.rfl.flow (fun _ h => h.quiesceAnswer)⟩

theorem keeps_execQuiesceTimeout {page} : Yields (execQuiesceTimeout page t) (Keeps t) :=
  ⟨_, Eq.refl _, Keeps.rfl.flow (fun _ h => h.quiesceTimeout)⟩

theorem keeps_execDomainGated {d} : Yields (execDomainGated d t) (Keeps t) :=
  ⟨_, Eq.refl _, Keeps.rfl.flow (fun _ h => h.domainGated)⟩

theorem keeps_execDomainRailPoll {res} : Yields (execDomainRailPoll res t) (Keeps t) :=
  ⟨_, Eq.refl _, Keeps.rfl.flow (fun _ h => h.railPoll)⟩

theorem keeps_execDomainPllLock {d} : Yields (execDomainPllLock d t) (Keeps t) :=
  ⟨_, Eq.refl _, Keeps.rfl.flow (fun _ h => h.pllLock)⟩

theorem keeps_execDomainPllTimeout {d} : Yields (execDomainPllTimeout d t) (Keeps t) :=
  ⟨_, Eq.refl _, Keeps.rfl.flow (fun _ h => (.ite (.ite h.bootNoRoot h.oscFail) h.pllTimeout))⟩

theorem keeps_execWakeSource {n level} : Yields (execWakeSource n level t) (Keeps t) :=
  ⟨_, Eq.refl _, Keeps.rfl.wakeSource.goOn⟩

theorem keeps_execWakeTimerExpire : Yields (execWakeTimerExpire t) (Keeps t) :=
  ⟨_, Eq.refl _, Keeps.rfl.flow (fun _ h => h.timerExpire)⟩

theorem keeps_execRootLock : Yields (execRootLock t) (Keeps t) :=
  ⟨_, Eq.refl _, Keeps.rfl.flow (fun _ h => (.ite h.bootRooted h.rootRelock.scanRun))⟩

theorem keeps_execXtalStartTimeout : Yields (execXtalStartTimeout t) (Keeps t) :=
  ⟨_, Eq.refl _, Keeps.rfl.flow (fun _ h => h.oscFail)⟩

theorem keeps_execDramTrainingDone {ok} : Yields (execDramTrainingDone ok t) (Keeps t) :=
  ⟨_, Eq.refl _, Keeps.rfl.flow (fun _ h => (.ite h.bootTrained h))⟩

theorem keeps_execColdReset {bootsel} : Yields (execColdReset bootsel t) (Keeps t) := ⟨_, Eq.refl _, Keeps.rfl.coldReset⟩

theorem keeps_execVddKeepLoss : Yields (execVddKeepLoss t) (Keeps t) := ⟨_, Eq.refl _, Keeps.rfl.coldState.setBootStep⟩

theorem keeps_execPerstAssert : Yields (execPerstAssert t) (Keeps t) := ⟨_, Eq.refl _, Keeps.rfl.perstAssert.goOn⟩

theorem keeps_execPerstDeassert : Yields (execPerstDeassert t) (Keeps t) := ⟨_, Eq.refl _, Keeps.rfl.perstDeassert.goOn⟩

theorem keeps_execHotReset {linkDown} : Yields (execHotReset linkDown t) (Keeps t) :=
  ⟨_, Eq.refl _, Keeps.rfl.flow (fun _ h => h.hotReset)⟩

theorem keeps_execFunctionLevelReset : Yields (execFunctionLevelReset t) (Keeps t) :=
  ⟨_, Eq.refl _, Keeps.rfl.flow (fun _ h => h.flr)⟩

theorem keeps_execHostResetEnd : Yields (execHostResetEnd t) (Keeps t) :=
  ⟨_, Eq.refl _, Keeps.rfl.flow (fun _ h => h.hostEnd)⟩

theorem keeps_execSoftResetHost {v} : Yields (execSoftResetHost v t) (Keeps t) :=
  ⟨_, Eq.refl _, Keeps.rfl.flow (fun _ h => (h.hostWriteTo (fun _ h => (.ite h h.resetCtrl))))⟩

theorem keeps_execSoftResetFull {v} : Yields (execSoftResetFull v t) (Keeps t) :=
  ⟨_, Eq.refl _, Keeps.rfl.flow (fun _ h => (h.hostWriteTo (fun _ h => (.ite h.resetCtrl h))))⟩

theorem keeps_execFullScopeSequenceTimeout : Yields (execFullScopeSequenceTimeout t) (Keeps t) :=
  ⟨_, Eq.refl _, Keeps.rfl.flow (fun _ h => (.ite h h.fullReset))⟩

theorem keeps_execForeWdogExpire : Yields (execForeWdogExpire t) (Keeps t) :=
  ⟨_, Eq.refl _, Keeps.rfl.flow (fun _ h => h.foreWdog)⟩

theorem keeps_execBlockWdogExpire {page} : Yields (execBlockWdogExpire page t) (Keeps t) :=
  ⟨_, Eq.refl _, Keeps.rfl.flow (fun _ h => h.blockWdog)⟩

theorem keeps_execPortTimeout {page} : Yields (execPortTimeout page t) (Keeps t) :=
  ⟨_, Eq.refl _, Keeps.rfl.flow (fun _ h => h.portTimeout)⟩

theorem keeps_execConfigRequest {isWrite off v} : Yields (execConfigRequest isWrite off v t) (Keeps t) :=
  ⟨_, Eq.refl _, Keeps.rfl.flow (fun _ h => h.configRequest)⟩

theorem Keeps.boundaryScan (h : Keeps s t) : Keeps s t.boundaryScan :=
  h.setFld.scanHalt.then fun h => ((Keeps.ite h.trainStop h).then fun h => (.ite h.setForce h))

theorem keeps_execBoundaryScanInstruction : Yields (execBoundaryScanInstruction t) (Keeps t) :=
  ⟨_, Eq.refl _, Keeps.rfl.flow (fun _ h => h.boundaryScan)⟩

theorem Keeps.mboxWrite (h : Keeps s t) {op seq} : Keeps s (t.mboxWrite op seq) :=
  h.flow (fun _ h => (h.hostWriteTo (fun _ h => h.mboxCmd)))

theorem keeps_execMboxPing {seq} : Yields (execMboxPing seq t) (Keeps t) := ⟨_, Eq.refl _, Keeps.rfl.mboxWrite⟩

theorem keeps_execMboxLoadImage {seq} : Yields (execMboxLoadImage seq t) (Keeps t) := ⟨_, Eq.refl _, Keeps.rfl.mboxWrite⟩

theorem keeps_execMboxStage {seq} : Yields (execMboxStage seq t) (Keeps t) := ⟨_, Eq.refl _, Keeps.rfl.mboxWrite⟩

theorem keeps_execMboxStoreImage {seq} : Yields (execMboxStoreImage seq t) (Keeps t) := ⟨_, Eq.refl _, Keeps.rfl.mboxWrite⟩

theorem keeps_execMboxFwInstall {seq} : Yields (execMboxFwInstall seq t) (Keeps t) := ⟨_, Eq.refl _, Keeps.rfl.mboxWrite⟩

theorem keeps_execMboxFwSwitch {seq} : Yields (execMboxFwSwitch seq t) (Keeps t) := ⟨_, Eq.refl _, Keeps.rfl.mboxWrite⟩

theorem keeps_execMboxFwConfirm {seq} : Yields (execMboxFwConfirm seq t) (Keeps t) := ⟨_, Eq.refl _, Keeps.rfl.mboxWrite⟩

theorem keeps_execMboxShutdown {seq} : Yields (execMboxShutdown seq t) (Keeps t) := ⟨_, Eq.refl _, Keeps.rfl.mboxWrite⟩

theorem keeps_execMboxCommandDone : Yields (execMboxCommandDone t) (Keeps t) :=
  ⟨_, Eq.refl _, Keeps.rfl.flow (fun _ h => h.mboxDone)⟩

theorem keeps_execShutdownLabelWaitExpire : Yields (execShutdownLabelWaitExpire t) (Keeps t) :=
  ⟨_, Eq.refl _, Keeps.rfl.flow (fun _ h => h.shutdownExpire)⟩

theorem keeps_execTrialTimeout : Yields (execTrialTimeout t) (Keeps t) :=
  ⟨_, Eq.refl _, Keeps.rfl.flow (fun _ h => h.trialTimeout)⟩

theorem Keeps.uptimeTick (h : Keeps s t) : Keeps s t.uptimeTick := .ite h.upd h.upd.bump

theorem Keeps.localTick (h : Keeps s t) : Keeps s t.localTick := .ite h h.setFld.setFld

theorem Keeps.timerTick (h : Keeps s t) : Keeps s t.timerTick := .ite h (.ite h.upd h.upd.setFld)

theorem Keeps.scrubTick (h : Keeps s t) : Keeps s t.scrubTick := .ite h (.ite h.upd h.upd.setFld)

theorem Keeps.idle (h : Keeps s t) : Keeps s t.idle :=
  .ite h (h.upd.uptimeTick.localTick.timerTick.scrubTick.then fun h => (.ite h.blTick h))

/-! #### Commands and steps -/

/-- Every command yields a next state, with the queue as it was and the stores in canonical form if they were. -/
theorem keeps_exec (c : Instr) (s : State) : Yields (exec c s) (Keeps s) := by
  cases c with
  | registerWrite => exact keeps_execRegisterWrite
  | malformedBar0Access => exact keeps_execMalformedBar0Access
  | pageEntryWrite => exact keeps_execPageEntryWrite
  | bar4Read => exact keeps_execBar4Read
  | bar4Write => exact keeps_execBar4Write
  | bar4Resize => exact keeps_execBar4Resize
  | retireCmd => exact keeps_execRetireCmd
  | rcacheInval => exact keeps_execRcacheInval
  | remoteFillDone => exact keeps_execRemoteFillDone
  | zeroFillDone => exact keeps_execZeroFillDone
  | queueCfgWrite => exact keeps_execQueueCfgWrite
  | doorbell => exact keeps_execDoorbell
  | descFetchDone => exact keeps_execDescFetchDone
  | descNop => exact keeps_execDescNop
  | descCopy => exact keeps_execDescCopy
  | descInflate => exact keeps_execDescInflate
  | descCapture => exact keeps_execDescCapture
  | descFlip => exact keeps_execDescFlip
  | descLabel => exact keeps_execDescLabel
  | descFence => exact keeps_execDescFence
  | hoistBurstDone => exact keeps_execHoistBurstDone
  | transferComplete => exact keeps_execTransferComplete
  | qcmdAbort => exact keeps_execQcmdAbort
  | qcmdResume => exact keeps_execQcmdResume
  | qcmdReset => exact keeps_execQcmdReset
  | chAbort => exact keeps_execChAbort
  | chGo => exact keeps_execChGo
  | eventRingCfgWrite => exact keeps_execEventRingCfgWrite
  | eventRingHeadWrite => exact keeps_execEventRingHeadWrite
  | holdoffExpire => exact keeps_execHoldoffExpire
  | txnOpen => exact keeps_execTxnOpen
  | stageWrite => exact keeps_execStageWrite
  | txnCommit => exact keeps_execTxnCommit
  | txnAbort => exact keeps_execTxnAbort
  | mergeDone => exact keeps_execMergeDone
  | nowCommitSwitch => exact keeps_execNowCommitSwitch
  | txnExpire => exact keeps_execTxnExpire
  | digestRefreshDone => exact keeps_execDigestRefreshDone
  | auditGo => exact keeps_execAuditGo
  | auditCtrlWrite => exact keeps_execAuditCtrlWrite
  | auditPeriodic => exact keeps_execAuditPeriodic
  | auditRun => exact keeps_execAuditRun
  | scanCtrlWrite => exact keeps_execScanCtrlWrite
  | lineStart => exact keeps_execLineStart
  | frameLatch => exact keeps_execFrameLatch
  | composerReady => exact keeps_execComposerReady
  | histInvalidateCmd => exact keeps_execHistInvalidateCmd
  | histReadDone => exact keeps_execHistReadDone
  | odTableWrite => exact keeps_execOdTableWrite
  | odSeal => exact keeps_execOdSeal
  | odSealDone => exact keeps_execOdSealDone
  | ctxDrop => exact keeps_execCtxDrop
  | inflateComplete => exact keeps_execInflateComplete
  | captureBufferTaken => exact keeps_execCaptureBufferTaken
  | captureEncodeDone => exact keeps_execCaptureEncodeDone
  | uniSeal => exact keeps_execUniSeal
  | uniSealDone => exact keeps_execUniSealDone
  | ckptGo => exact keeps_execCkptGo
  | ckptPeriodic => exact keeps_execCkptPeriodic
  | checkpointDone => exact keeps_execCheckpointDone
  | ageRestoreDone => exact keeps_execAgeRestoreDone
  | trainGo => exact keeps_execTrainGo
  | trainStop => exact keeps_execTrainStop
  | laneLock => exact keeps_execLaneLock
  | laneLockTimeout => exact keeps_execLaneLockTimeout
  | laneTestDone => exact keeps_execLaneTestDone
  | ctlCmdGo => exact keeps_execCtlCmdGo
  | linkLineStart => exact keeps_execLinkLineStart
  | nackSample => exact keeps_execNackSample
  | linkLoad => exact keeps_execLinkLoad
  | gateForceWrite => exact keeps_execGateForceWrite
  | panelUp => exact keeps_execPanelUp
  | panelDown => exact keeps_execPanelDown
  | railReqAck => exact keeps_execRailReqAck
  | railReqTimeout => exact keeps_execRailReqTimeout
  | panelSeqTimer => exact keeps_execPanelSeqTimer
  | pfwAssert => exact keeps_execPfwAssert
  | pfwDeassert => exact keeps_execPfwDeassert
  | railLoss => exact keeps_execRailLoss
  | thermConvert => exact keeps_execThermConvert
  | keyProgram => exact keeps_execKeyProgram
  | keyErase => exact keeps_execKeyErase
  | keyLock => exact keeps_execKeyLock
  | keyWriteDone => exact keeps_execKeyWriteDone
  | assayHideSet => exact keeps_execAssayHideSet
  | assayPublish => exact keeps_execAssayPublish
  | labelLanded => exact keeps_execLabelLanded
  | phaseBoundary => exact keeps_execPhaseBoundary
  | labelPwrTimeout => exact keeps_execLabelPwrTimeout
  | labelPwrgoodLost => exact keeps_execLabelPwrgoodLost
  | labelPwrHoldExpire => exact keeps_execLabelPwrHoldExpire
  | powerReq => exact keeps_execPowerReq
  | powerFreq => exact keeps_execPowerFreq
  | blockQuiesceAnswer => exact keeps_execBlockQuiesceAnswer
  | quiesceTimeout => exact keeps_execQuiesceTimeout
  | domainGated => exact keeps_execDomainGated
  | domainRailPoll => exact keeps_execDomainRailPoll
  | domainPllLock => exact keeps_execDomainPllLock
  | domainPllTimeout => exact keeps_execDomainPllTimeout
  | padRelease => exact keeps_execPadRelease
  | wakeSource => exact keeps_execWakeSource
  | wakeTimerExpire => exact keeps_execWakeTimerExpire
  | xtalLost => exact keeps_execXtalLost
  | rootLock => exact keeps_execRootLock
  | xtalStartTimeout => exact keeps_execXtalStartTimeout
  | avsStep => exact keeps_execAvsStep
  | avsWriteDone => exact keeps_execAvsWriteDone
  | pmbAlert => exact keeps_execPmbAlert
  | marchGo => exact keeps_execMarchGo
  | canaryRegionTest => exact keeps_execCanaryRegionTest
  | canaryAbort => exact keeps_execCanaryAbort
  | canaryRetry => exact keeps_execCanaryRetry
  | scrubPassDone => exact keeps_execScrubPassDone
  | maintReqScrub => exact keeps_execMaintReqScrub
  | maintReqNandrefresh => exact keeps_execMaintReqNandrefresh
  | nandrefreshDue => exact keeps_execNandrefreshDue
  | maintActivityDone => exact keeps_execMaintActivityDone
  | pstoreWordWrite => exact keeps_execPstoreWordWrite
  | scratchpadWrite => exact keeps_execScratchpadWrite
  | coldReset => exact keeps_execColdReset
  | perstAssert => exact keeps_execPerstAssert
  | perstDeassert => exact keeps_execPerstDeassert
  | hotReset => exact keeps_execHotReset
  | functionLevelReset => exact keeps_execFunctionLevelReset
  | hostResetEnd => exact keeps_execHostResetEnd
  | softResetHost => exact keeps_execSoftResetHost
  | softResetFull => exact keeps_execSoftResetFull
  | foreWdogExpire => exact keeps_execForeWdogExpire
  | blockWdogExpire => exact keeps_execBlockWdogExpire
  | regParityError => exact keeps_execRegParityError
  | portTimeout => exact keeps_execPortTimeout
  | tmonReading => exact keeps_execTmonReading
  | fatalForce => exact keeps_execFatalForce
  | mboxPing => exact keeps_execMboxPing
  | mboxLoadImage => exact keeps_execMboxLoadImage
  | mboxStage => exact keeps_execMboxStage
  | mboxStoreImage => exact keeps_execMboxStoreImage
  | mboxFwInstall => exact keeps_execMboxFwInstall
  | mboxFwSwitch => exact keeps_execMboxFwSwitch
  | mboxFwConfirm => exact keeps_execMboxFwConfirm
  | mboxShutdown => exact keeps_execMboxShutdown
  | mboxCommandDone => exact keeps_execMboxCommandDone
  | trialTimeout => exact keeps_execTrialTimeout
  | configRequest => exact keeps_execConfigRequest
  | d3hotEntry => exact keeps_execD3hotEntry
  | d0Return => exact keeps_execD0Return
  | l1Entry => exact keeps_execL1Entry
  | ptmPeriodic => exact keeps_execPtmPeriodic
  | ptmNow => exact keeps_execPtmNow
  | ptmDialogDone => exact keeps_execPtmDialogDone
  | completionTimeout => exact keeps_execCompletionTimeout
  | poisonedTlp => exact keeps_execPoisonedTlp
  | clampClr => exact keeps_execClampClr
  | errClr => exact keeps_execErrClr
  | intForce => exact keeps_execIntForce
  | vddKeepLoss => exact keeps_execVddKeepLoss
  | fullScopeSequenceTimeout => exact keeps_execFullScopeSequenceTimeout
  | shutdownLabelWaitExpire => exact keeps_execShutdownLabelWaitExpire
  | dramTrainingDone => exact keeps_execDramTrainingDone
  | unexpectedCompletion => exact keeps_execUnexpectedCompletion
  | boundaryScanInstruction => exact keeps_execBoundaryScanInstruction

/-- Settles O3, by what every operation of the model keeps. -/
theorem execKeepsQueue : Obligations.ExecKeepsQueue := by
  intro c s t ht
  obtain ⟨u, hu, hpending, -⟩ := keeps_exec c s
  rw [hu] at ht
  exact Host.Outcome.next.inj ht ▸ hpending

/-- Settles O4: `keeps_exec` gives the next state. -/
theorem everyCommandGoesOn : Obligations.EveryCommandGoesOn := by
  intro c s
  obtain ⟨t, ht, -⟩ := keeps_exec c s
  exact ⟨t, ht⟩

theorem step_nil {s : State} (h : s.pending = []) : step s = .next s.idle := by rw [step, h]

theorem step_cons {s : State} {c : Instr} {rest : List Instr} (h : s.pending = c :: rest) :
    step s = exec c { s with pending := rest } := by rw [step, h]

/-- Settles O1: `step` is `exec` of the front command. -/
theorem stepRunsFrontCommand : Obligations.StepRunsFrontCommand := fun _ _ _ => step_cons (Eq.refl _)

/-- Settles O5: an idle cycle keeps the canonical form, and so does every command; the queue has no part in it. -/
theorem stepKeepsCanonical : Obligations.StepKeepsCanonical := by
  intro s t hs ht
  cases hp : s.pending with
  | nil =>
    rw [step_nil hp] at ht
    exact Host.Outcome.next.inj ht ▸ (Keeps.rfl (s := s)).idle.2 hs
  | cons c rest =>
    obtain ⟨u, hu, -, hcanonical⟩ := keeps_exec c { s with pending := rest }
    rw [step_cons hp, hu] at ht
    exact Host.Outcome.next.inj ht ▸ hcanonical hs

end Sys2Proof.Machine

/-! ### The state after COLD, and the message that signals a vector -/

namespace Sys2Proof.Machine

/-- Settles O6: every store of the reset state is empty. -/
theorem resetIsCanonical : Obligations.ResetIsCanonical := ⟨rfl, rfl, rfl⟩

/-- A field that repeats every 0x20 bytes covers the same offset in each copy of it. -/
theorem FieldSpec.covers_instance {f : FieldSpec} {base n off i : Nat} (hs : f.stride = 0x20) (hc : f.cnt = n)
    (hf : base ≤ f.off ∧ f.off < base + 0x20) (ho : base ≤ off ∧ off < base + 0x20) (hi : i < n) :
    f.covers (off + 0x20 * i) = f.covers off := by
  rw [Bool.eq_iff_iff]
  simp only [FieldSpec.covers, hs, hc, Bool.and_eq_true, decide_eq_true_eq, beq_iff_eq, reduceIte, OfNat.ofNat_ne_zero]
  omega

theorem filter_covers_instance {fs : List FieldSpec} {base n off i : Nat}
    (hfs : ∀ f ∈ fs, f.stride = 0x20 ∧ f.cnt = n ∧ base ≤ f.off ∧ f.off < base + 0x20)
    (ho : base ≤ off ∧ off < base + 0x20) (hi : i < n) :
    fs.filter (·.covers (off + 0x20 * i)) = fs.filter (·.covers off) :=
  List.filter_congr fun f hf =>
    let ⟨hs, hc, hoff⟩ := hfs f hf
    FieldSpec.covers_instance hs hc hoff ho hi

/-- Above the pages, the reset value of a register is that of its fields. -/
theorem resetWord_window {off : Nat} (h : 0x100000 ≤ off) : resetWord off = BitVec.ofNat 32 (fieldResets (fieldsAt off)) := by
  rw [resetWord, if_neg (by simp; omega), if_neg (by simp; omega)]

theorem resetWord_queue {off q : Nat} (ho : 0x100000 ≤ off ∧ off < 0x100020) (hq : q < 8192) :
    resetWord (off + 0x20 * q) = resetWord off := by
  have hf (o : Nat) (h : 0x100000 ≤ o ∧ o < 0x140000) : fieldsAt o = specsQCTX.filter (·.covers o) := by
    rw [fieldsAt, if_neg (by omega), if_pos (by omega)]
  rw [resetWord_window (by omega), resetWord_window ho.1, hf _ (by omega), hf _ (by omega),
    filter_covers_instance (by decide) ho hq]

theorem resetWord_ring {off r : Nat} (ho : 0x140000 ≤ off ∧ off < 0x140020) (hr : r < 64) :
    resetWord (off + 0x20 * r) = resetWord off := by
  have hf (o : Nat) (h : 0x140000 ≤ o ∧ o < 0x150000) : fieldsAt o = specsRING.filter (·.covers o) := by
    rw [fieldsAt, if_neg (by omega), if_neg (by omega), if_pos (by omega)]
  rw [resetWord_window (by omega), resetWord_window (by omega), hf _ (by omega), hf _ (by omega),
    filter_covers_instance (by decide) ho hr]

theorem resetWord_slot {off n : Nat} (ho : 0x150000 ≤ off ∧ off < 0x150020) (hn : n < 64) :
    resetWord (off + 0x20 * n) = resetWord off := by
  have hf (o : Nat) (h : 0x150000 ≤ o ∧ o < 0x160000) : fieldsAt o = specsSLOT.filter (·.covers o) := by
    rw [fieldsAt, if_neg (by omega), if_neg (by omega), if_neg (by omega), if_pos (by omega)]
  rw [resetWord_window (by omega), resetWord_window (by omega), hf _ (by omega), hf _ (by omega),
    filter_covers_instance (by decide) ho hn]

@[simp] theorem State.reset_rd (o : Nat) : State.reset.rd o = resetWord o := rfl

/-- A field of every copy reads as that of the first one, where the register does. -/
theorem State.reset_fld {o o' lo w : Nat} (h : resetWord o = resetWord o') :
    State.reset.fld ⟨o, lo, w⟩ = State.reset.fld ⟨o', lo, w⟩ := by simp [State.fld, h]

/-- Settles O7: each register is a sum of its fields' reset values, and the instances of a window agree. -/
theorem resetHoldsTableValues : Obligations.ResetHoldsTableValues := by
  refine ⟨by decide, by decide, by decide, by decide, by decide, by decide, by decide, by decide, by decide, by decide,
    by decide, by decide, by decide, by decide, by decide, fun q hq => ⟨?_, ?_⟩, fun r hr => ⟨?_, ?_⟩, fun n hn => ?_⟩
  · rw [State.qState, State.reset_fld (resetWord_queue (by decide) hq)]; decide
  · rw [State.qEnabled, State.bit, State.reset_fld (resetWord_queue (by decide) hq)]; decide
  · rw [State.bit, State.reset_fld (resetWord_ring (by decide) hr)]; decide
  · rw [State.reset_fld (resetWord_ring (by decide) hr)]; decide
  · rw [State.reset_fld (resetWord_slot (by decide) hn)]; decide

/-- Settles O23: `State.signal` takes the branch that the hypotheses name. -/
theorem ringSignalsItsVector : Obligations.RingSignalsItsVector := by
  intro s v hd
  refine ⟨fun hx hm hv => ?_, fun hx hi hm => ?_, fun hx hi => ?_⟩
  · simp only [State.signal, hx, hd, hm, hv, State.msixSend, Bool.or_false, Bool.false_eq_true, reduceIte]
  · simp only [State.signal, hx, hi, hd, hm, State.msiSend, Bool.or_false, Bool.false_eq_true, reduceIte]
  · simp only [State.signal, hx, hi, Bool.false_eq_true, reduceIte]

end Sys2Proof.Machine

/-! ### Frames built up operation by operation

A frame names the parts of the state that may have changed. Each operation that the model is made of keeps a frame that names
its own parts; the frame of a command is put together by chaining these lemmas. -/

namespace Sys2Proof.Machine

-- A proof that fills in an argument by its default tactic waits for all that stands before it: checked in order, none waits.
set_option Elab.async false

/-- The parts of the state. -/
inductive Part where
  | pending | sent | freeCtr | keepCycles | secPhase | regs | summaryOwed | hostReset | clampLog | dram | surf |
  queues | rings | hoist | txn | scan | pcie | power | histDawn | histDusk | od | cmp | keys | assay | uniSeal |
  uniLate | age | link | hvd | label | pstore | mem | boot
deriving DecidableEq

/-- `s` with the parts that `p` names taken from `t`. -/
def State.taking (p : List Part) (s t : State) : State where
  pending := bif decide (.pending ∈ p) then t.pending else s.pending
  sent := bif decide (.sent ∈ p) then t.sent else s.sent
  freeCtr := bif decide (.freeCtr ∈ p) then t.freeCtr else s.freeCtr
  keepCycles := bif decide (.keepCycles ∈ p) then t.keepCycles else s.keepCycles
  secPhase := bif decide (.secPhase ∈ p) then t.secPhase else s.secPhase
  regs := bif decide (.regs ∈ p) then t.regs else s.regs
  summaryOwed := bif decide (.summaryOwed ∈ p) then t.summaryOwed else s.summaryOwed
  hostReset := bif decide (.hostReset ∈ p) then t.hostReset else s.hostReset
  clampLog := bif decide (.clampLog ∈ p) then t.clampLog else s.clampLog
  dram := bif decide (.dram ∈ p) then t.dram else s.dram
  surf := bif decide (.surf ∈ p) then t.surf else s.surf
  queues := bif decide (.queues ∈ p) then t.queues else s.queues
  rings := bif decide (.rings ∈ p) then t.rings else s.rings
  hoist := bif decide (.hoist ∈ p) then t.hoist else s.hoist
  txn := bif decide (.txn ∈ p) then t.txn else s.txn
  scan := bif decide (.scan ∈ p) then t.scan else s.scan
  pcie := bif decide (.pcie ∈ p) then t.pcie else s.pcie
  power := bif decide (.power ∈ p) then t.power else s.power
  histDawn := bif decide (.histDawn ∈ p) then t.histDawn else s.histDawn
  histDusk := bif decide (.histDusk ∈ p) then t.histDusk else s.histDusk
  od := bif decide (.od ∈ p) then t.od else s.od
  cmp := bif decide (.cmp ∈ p) then t.cmp else s.cmp
  keys := bif decide (.keys ∈ p) then t.keys else s.keys
  assay := bif decide (.assay ∈ p) then t.assay else s.assay
  uniSeal := bif decide (.uniSeal ∈ p) then t.uniSeal else s.uniSeal
  uniLate := bif decide (.uniLate ∈ p) then t.uniLate else s.uniLate
  age := bif decide (.age ∈ p) then t.age else s.age
  link := bif decide (.link ∈ p) then t.link else s.link
  hvd := bif decide (.hvd ∈ p) then t.hvd else s.hvd
  label := bif decide (.label ∈ p) then t.label else s.label
  pstore := bif decide (.pstore ∈ p) then t.pstore else s.pstore
  mem := bif decide (.mem ∈ p) then t.mem else s.mem
  boot := bif decide (.boot ∈ p) then t.boot else s.boot

/-- From `s` to `t` nothing changes but the parts that `p` names. -/
def Frame (p : List Part) (s t : State) : Prop := t = s.taking p t

section
variable {s t u : State} {p q : List Part}

theorem cond_cond_right {α : Type} (c : Bool) (a b d : α) : (bif c then a else bif c then b else d) = bif c then a else d := by
  cases c <;> rfl

theorem cond_cond_of_imp {α : Type} {c d : Bool} (h : c = true → d = true) (a b : α) :
    (bif d then bif c then a else b else b) = bif c then a else b := by
  cases c
  · exact Bool.cond_self ..
  · rw [h rfl]; rfl

theorem State.taking_taking_right : (s.taking p t).taking p u = s.taking p u := by
  simp only [State.taking, cond_cond_right]

theorem State.taking_taking_of_sub (h : ∀ x ∈ q, x ∈ p) : s.taking p (s.taking q t) = s.taking q t := by
  have hq (x : Part) : decide (x ∈ q) = true → decide (x ∈ p) = true := by simpa using h x
  simp only [State.taking, cond_cond_of_imp (hq _)]

theorem Frame.refl : Frame p s s := by
  simp only [Frame, State.taking, Bool.cond_self]

/-- What does not depend on the parts that a frame names stays. -/
theorem Frame.get {α : Type} (f : State → α) (h : Frame p s t) (hf : f (s.taking p t) = f s := by rfl) : f t = f s := by
  rw [show t = s.taking p t from h, hf]

theorem Frame.trans (h : Frame p s t) (k : Frame p t u) : Frame p s u := by
  unfold Frame at h k ⊢
  rw [h, State.taking_taking_right] at k
  exact k

theorem Frame.mono (h : Frame q s t) (hq : ∀ x ∈ q, x ∈ p) : Frame p s t := by
  have := State.taking_taking_of_sub (s := s) (t := t) hq
  unfold Frame at h ⊢
  rw [← h] at this
  exact this.symm

/-- A step that changes less than the frame names. -/
theorem Frame.then (h : Frame p s t) (k : Frame q t u) (hq : ∀ x ∈ q, x ∈ p) : Frame p s u := h.trans (k.mono hq)

theorem Frame.ite {a b : State} {c : Prop} {_ : Decidable c} (ha : Frame p s a) (hb : Frame p s b) :
    Frame p s (if c then a else b) := by split <;> assumption

theorem Frame.each {α : Type} {xs : List α} {f : State → α → State} (h : Frame p s t)
    (hf : ∀ u, ∀ x ∈ xs, Frame p s u → Frame p s (f u x)) : Frame p s (t.each xs f) := by
  induction xs generalizing t with
  | nil => exact h
  | cons x xs ih =>
    exact ih (hf t x (List.mem_cons_self ..) h) fun u y hy => hf u y (List.mem_cons_of_mem _ hy)

theorem forall_mem_one {x : Part} (h : x ∈ p) : ∀ y ∈ [x], y ∈ p := by simpa using h

theorem Frame.wr (h : Frame p s t) {o : Nat} {v : Word} (hp : .regs ∈ p := by decide) : Frame p s (t.wr o v) :=
  h.then (q := [.regs]) (sameButRegs_wr t o v) (forall_mem_one hp)

theorem Frame.setFld (h : Frame p s t) {f : Fld} {n : Nat} (hp : .regs ∈ p := by decide) : Frame p s (t.setFld f n) := h.wr hp

theorem Frame.setBit (h : Frame p s t) {f : Fld} {b : Bool} (hp : .regs ∈ p := by decide) : Frame p s (t.setBit f b) := h.wr hp

theorem Frame.bump (h : Frame p s t) {f : Fld} {n : Nat} (hp : .regs ∈ p := by decide) : Frame p s (t.bump f n) := h.wr hp

theorem Frame.setDom (h : Frame p s t) {d v : Nat} (hp : .regs ∈ p := by decide) : Frame p s (t.setDom d v) := h.wr hp

theorem Frame.emit (h : Frame p s t) {o : Out} (hp : .sent ∈ p := by decide) : Frame p s (t.emit o) :=
  h.then (q := [.sent]) rfl (forall_mem_one hp)

theorem Frame.setQueue (h : Frame p s t) {n : Nat} {x : QueueHid} (hp : .queues ∈ p := by decide) :
    Frame p s (t.setQueue n x) := h.then (q := [.queues]) rfl (forall_mem_one hp)

theorem Frame.setCage (h : Frame p s t) {n : Nat} {c : Cage} (hp : .hoist ∈ p := by decide) : Frame p s (t.setCage n c) :=
  h.then (q := [.hoist]) rfl (forall_mem_one hp)

theorem Frame.setSlot (h : Frame p s t) {n : Nat} {x : SlotHid} (hp : .txn ∈ p := by decide) : Frame p s (t.setSlot n x) :=
  h.then (q := [.txn]) rfl (forall_mem_one hp)

theorem Frame.setCfg (h : Frame p s t) {o : Nat} {v : Word} (hp : .pcie ∈ p := by decide) : Frame p s (t.setCfg o v) :=
  h.then (q := [.pcie]) rfl (forall_mem_one hp)

theorem Frame.signals (h : Frame p s t) (k : SameButSignals t u)
    (hp : ∀ x ∈ [Part.regs, .sent, .pcie, .summaryOwed], x ∈ p := by decide) : Frame p s u := h.then (q := [.regs, .sent, .pcie, .summaryOwed]) k hp

theorem Frame.events (h : Frame p s t) (k : SameButEvents t u)
    (hp : ∀ x ∈ [Part.regs, .sent, .pcie, .summaryOwed, .rings], x ∈ p := by decide) : Frame p s u :=
  h.then (q := [.regs, .sent, .pcie, .summaryOwed, .rings]) k hp

theorem Frame.log (h : Frame p s t) (k : SameButLog t u) (hp : ∀ x ∈ [Part.regs, .clampLog], x ∈ p := by decide) :
    Frame p s u := h.then (q := [.regs, .clampLog]) k hp

theorem Frame.raise (h : Frame p s t) {page b : Nat}
    (hp : ∀ x ∈ [Part.regs, .sent, .pcie, .summaryOwed], x ∈ p := by decide) : Frame p s (t.raise page b) :=
  h.signals (sameButSignals_raise t page b) hp

theorem Frame.post (h : Frame p s t) {ring : Fld} {code : Nat} {fs : List (Nat × Nat)}
    (hp : ∀ x ∈ [Part.regs, .sent, .pcie, .summaryOwed, .rings], x ∈ p := by decide) : Frame p s (t.post ring code fs) :=
  h.events (sameButEvents_post t ring code fs) hp

theorem Frame.postR (h : Frame p s t) {r : Nat} {b : Bool} {e : Ev}
    (hp : ∀ x ∈ [Part.regs, .sent, .pcie, .summaryOwed, .rings], x ∈ p := by decide) : Frame p s (t.postR r b e) :=
  h.events (sameButEvents_postR t r b e) hp

theorem Frame.clampReport (h : Frame p s t) {slot : Option Nat} {kept : Bool} {off : Nat} {orig new : Word}
    (hp : ∀ x ∈ [Part.regs, .clampLog], x ∈ p := by decide) : Frame p s (t.clampReport slot kept off orig new) :=
  h.log (sameButLog_clampReport t slot kept off orig new) hp

end

/-! ### Registers that stay -/

section
variable {s t : State} {l : List Nat}

theorem RegsBut.refl : RegsBut s s l := fun _ _ => rfl

theorem RegsBut.mono {m : List Nat} (h : RegsBut s t l) (hl : ∀ k ∈ l, k ∈ m) : RegsBut s t m :=
  fun k hk => h k fun hkl => hk (hl k hkl)

theorem RegsBut.wr (h : RegsBut s t l) {o : Nat} {v : Word} (ho : o ∈ l := by simp) : RegsBut s (t.wr o v) l :=
  fun k hk => (t.rd_wr_other v (ne_of_mem_of_not_mem ho hk)).trans (h k hk)

theorem RegsBut.setFld (h : RegsBut s t l) {f : Fld} {n : Nat} (hf : f.off ∈ l := by simp) : RegsBut s (t.setFld f n) l := h.wr hf

theorem RegsBut.setBit (h : RegsBut s t l) {f : Fld} {b : Bool} (hf : f.off ∈ l := by simp) : RegsBut s (t.setBit f b) l := h.wr hf

theorem RegsBut.bump (h : RegsBut s t l) {f : Fld} {n : Nat} (hf : f.off ∈ l := by simp) : RegsBut s (t.bump f n) l := h.wr hf

theorem RegsBut.raise (h : RegsBut s t l) {p b : Nat} (hp : p * 0x1000 + 0x0C ∈ l := by simp) : RegsBut s (t.raise p b) l :=
  fun k hk => (t.rd_raise_other p b (ne_of_mem_of_not_mem hp hk)).trans (h k hk)

theorem RegsBut.ite {a b : State} {c : Prop} {_ : Decidable c} (ha : RegsBut s a l) (hb : RegsBut s b l) :
    RegsBut s (if c then a else b) l := by split <;> assumption

theorem RegsBut.clampReportAt (h : RegsBut s t l) {page : Nat} {slot : Option Nat} {kept : Bool} {off : Nat} {orig new : Word}
    (hl : ∀ k ∈ clampRegs page, k ∈ l) : RegsBut s (t.clampReportAt page slot kept off orig new) l := by
  intro k hk
  have hne : ∀ o ∈ clampRegs page, k ≠ o := fun o ho e => hk (e ▸ hl o ho)
  rw [State.rd_clampReportAt _ _ _ _ _ _ _ _ (fun hc => hk (hl k hc))]
  exact h k hk

end

/-! #### What a clamp report counts -/

theorem State.fld_clampReportAt_count (s : State) (page : Nat) (slot : Option Nat) (kept : Bool) (off : Nat) (orig new : Word) :
    (s.clampReportAt page slot kept off orig new).fld (hdrFld page 0x24 0 32) =
      min (s.fld (hdrFld page 0x24 0 32) + 1) (2 ^ 32 - 1) := by
  have hlog (o : Nat) (ho : o % 0x1000 ≠ 0x24) : o ≠ (hdrFld page 0x24 0 32).off := by simp only [hdrFld]; omega
  rw [State.clampReportAt, State.fld_bump_other _ _ _ _ (.inl (hlog _ (by decide))),
    State.fld_setFld_other _ _ _ _ (.inl (hlog _ (by decide)))]
  rw [show ∀ (u : State) (l : SMap ClampEntry), ({ u with clampLog := l } : State).fld (hdrFld page 0x24 0 32) =
      u.fld (hdrFld page 0x24 0 32) from fun _ _ => rfl,
    State.fld_wr_other _ _ _ _ (hlog _ (by omega)), State.fld_wr_other _ _ _ _ (hlog _ (by omega)),
    State.fld_wr_other _ _ _ _ (hlog _ (by omega)), s.fld_bump_same _ 1 (show 0 + 32 ≤ 32 by decide), hdrFld]

/-! #### Fields -/

section
variable {s t : State}

theorem RegsBut.fld {l : List Nat} (h : RegsBut s t l) {g : Fld} (hg : g.off ∉ l) : t.fld g = s.fld g := by
  rw [State.fld, h g.off hg, State.fld]

theorem State.fld_wr_same (o : Nat) (v : Word) {g : Fld} (h : o = g.off) : (s.wr o v).fld g = bitsOf v g.lo g.w := by
  rw [State.fld, ← h, State.rd_wr_same]

theorem RegsBut.setQueue {l : List Nat} (h : RegsBut s t l) {q : Nat} {x : QueueHid} : RegsBut s (t.setQueue q x) l := h

theorem RegsBut.setCage {l : List Nat} (h : RegsBut s t l) {n : Nat} {c : Cage} : RegsBut s (t.setCage n c) l := h

theorem RegsBut.setSlot {l : List Nat} (h : RegsBut s t l) {n : Nat} {x : SlotHid} : RegsBut s (t.setSlot n x) l := h

theorem RegsBut.setCfg {l : List Nat} (h : RegsBut s t l) {o : Nat} {v : Word} : RegsBut s (t.setCfg o v) l := h

theorem RegsBut.emit {l : List Nat} (h : RegsBut s t l) {o : Out} : RegsBut s (t.emit o) l := h

theorem RegsBut.of_regs {u : State} {l : List Nat} (h : RegsBut s t l) (hu : u.regs = t.regs) : RegsBut s u l := by
  intro k hk
  rw [State.rd, hu]
  exact h k hk

/-- A mask that holds a field whole leaves its value. -/
theorem bitsOf_and_mask (v m : Word) {lo w : Nat} (hm : ∀ i, i < w → m.getLsbD (lo + i) = true) :
    bitsOf (v &&& m) lo w = bitsOf v lo w := by
  apply Nat.eq_of_testBit_eq
  intro i
  rw [testBit_bitsOf, testBit_bitsOf, BitVec.getLsbD_and]
  by_cases hi : i < w
  · rw [hm i hi, Bool.and_true]
  · simp [hi]

theorem Chk.bitsOf_clampTo_same (c : Chk) {lo w v : Nat} (h : lo + w ≤ 32) (hv : v < 2 ^ w) :
    bitsOf (c.clampTo lo w v).new lo w = v := by
  rw [Chk.clampTo]; split
  · assumption
  · rw [bitsOf_putBits_same _ _ _ _ h, Nat.mod_eq_of_lt hv]

theorem Chk.bitsOf_clampTo_other (c : Chk) {lo w v lo' w' : Nat} (h : lo + w ≤ lo' ∨ lo' + w' ≤ lo) :
    bitsOf (c.clampTo lo w v).new lo' w' = bitsOf c.new lo' w' := by
  rw [Chk.clampTo]; split
  · rfl
  · exact bitsOf_putBits_other _ _ _ _ _ _ h

end

/-! ### Writes of registers (R3, R75, R88, R397, R399) -/

theorem State.flow_of_runs {s : State} (h : s.runs = true) (f : State → State) : s.flow f = s.after (f s) :=
  if_neg (by simpa [State.runs] using h)

/-- A word that the host writes at a mapped offset below the scratchpad reaches its register where the block serves it. -/
theorem State.registerWrite_of_serves {s : State} {off : Nat} (v : Word) (h4 : off % 4 = 0) (hoff : off < 0x400000)
    (hs : s.serves (if mapped off then off else 0) = true) : s.registerWrite .pcie false off v = s.regWrite .pcie off v := by
  have hacc : accessOff .pcie off = if mapped off then off else 0 := by
    cases hm : mapped off
    · simp [accessOff, hm]
    · simp [accessOff, hm]; omega
  rw [State.registerWrite, if_neg (by decide), if_neg (by simp [h4]), State.portWriteTo, hacc, hostWriteTo_of_serves _ _ _ hs]

theorem State.regWrite_unmapped (s : State) {port : Port} {off : Nat} {v : Word} (hm : mapped off = false) :
    s.regWrite port off v = s := by
  unfold State.regWrite; rw [hm, if_pos (by decide)]

theorem State.regWrite_page (s : State) {port : Port} {off : Nat} {v : Word} (hoff : off < 0x100000)
    (hp : pageUsed (off / 0x1000) = true) : s.regWrite port off v = s.pageWrite port off v := by
  have hm : mapped off = true := by rw [mapped, if_pos hoff, hp]
  unfold State.regWrite
  rw [hm, if_neg (by decide)]
  repeat rw [if_neg (by omega)]

/-- A register of a page that starts nothing by itself and is not of the common header's commands takes the value. -/
theorem State.pageWrite_value {s : State} {port : Port} {off : Nat} {v : Word} (hp : pageUsed (off / 0x1000) = true)
    (hblk : off % 0x1000 ≠ 0x04) (hint : off % 0x1000 ≠ 0x14) (hcmd : (s.commandWrite port off v).isNone = true) :
    s.pageWrite port off v = s.valueWrite port off v := by
  unfold State.pageWrite
  dsimp only
  rw [hp, if_neg (by decide), if_neg hblk, if_neg hint, Option.isNone_iff_eq_none.mp hcmd]

/-- A register whose every writable field is staged: nothing is written at once and nothing is cleared. -/
theorem State.valueWrite_staged {s : State} {port : Port} {off : Nat} {v : Word} (hst : hasAcc off selStaged = true)
    (hnow : hasAcc off selNow = false) (hw1c : hasAcc off (· == .rw1c) = false) :
    s.valueWrite port off v = s.stageDirect off v := by
  rw [State.valueWrite, hst, hnow, hw1c]; rfl

/-! #### Checks of a field -/

theorem Chk.bitsOf_keep (c : Chk) (old : Word) {lo w : Nat} (h : lo + w ≤ 32) :
    bitsOf (c.keep old lo w).new lo w = bitsOf old lo w := by
  rw [Chk.keep]; split
  · assumption
  · rw [bitsOf_putBits_same _ _ _ _ h, Nat.mod_eq_of_lt (bitsOf_lt _ _ _)]

theorem fieldsAt_gateCtrl_now : (fieldsAt R.GATE_CTRL).filter (fun f => selNow f.acc) =
    [⟨R.GATE_CTRL, 0, 1, 4, 2, .rw, 0, .cold, .keepAbove 2⟩] := by decide

theorem State.check_gateCtrl (s : State) (v : Word) :
    bitsOf (s.checkIn s selNow R.GATE_CTRL v).new 4 2 =
      if s.panelOwns || 2 < bitsOf v 4 2 then bitsOf (s.rd R.GATE_CTRL) 4 2 else bitsOf v 4 2 := by
  have hown : bitsOf (s.ownCheck selNow R.GATE_CTRL v).new 4 2 =
      if 2 < bitsOf v 4 2 then bitsOf (s.rd R.GATE_CTRL) 4 2 else bitsOf v 4 2 := by
    have hput : bitsOf (putBits (s.rd R.GATE_CTRL) 4 2 (bitsOf v 4 2)) 4 2 = bitsOf v 4 2 := by
      rw [bitsOf_putBits_same _ _ _ _ (by decide), Nat.mod_eq_of_lt (bitsOf_lt _ _ _)]
    rw [State.ownCheck, fieldsAt_gateCtrl_now]
    simp only [List.foldl_cons, List.foldl_nil, Chk.field, hput]
    split
    · exact Chk.bitsOf_keep _ _ (by decide)
    · exact hput
  have hchk (c : Chk) : chkSpecial s (s.rd R.GATE_CTRL) R.GATE_CTRL c =
      if s.panelOwns then c.keep (s.rd R.GATE_CTRL) 4 2 else c := rfl
  rw [State.checkIn, hchk]
  cases s.panelOwns
  · simpa using hown
  · simpa using Chk.bitsOf_keep _ _ (by decide)

/-- GATE.CTRL: its staged fields wait, FORCE is checked and written. -/
theorem State.valueWrite_gateCtrl (s : State) (v : Word) :
    s.valueWrite .pcie R.GATE_CTRL v =
      (s.stageDirect R.GATE_CTRL v).applyIn (s.stageDirect R.GATE_CTRL v) none selNow R.GATE_CTRL v := by
  have hst : hasAcc R.GATE_CTRL selStaged = true := by decide
  have hnow : hasAcc R.GATE_CTRL selNow = true := by decide
  have hw1c : hasAcc R.GATE_CTRL (· == .rw1c) = false := by decide
  unfold State.valueWrite
  rw [hst, hnow, hw1c]
  change (s.stageDirect R.GATE_CTRL v).applyHeld _ none selNow R.GATE_CTRL v = _
  simp only [State.applyHeld, State.applyIn, heldWo, Option.isSome_none, Bool.false_and, Bool.or_false, reduceIte]

theorem regsBut_applyIn (s ctx : State) (slot : Option Nat) (sel : Acc → Bool) (off : Nat) (v : Word) :
    RegsBut s (s.applyIn ctx slot sel off v) (off :: clampRegs (clampPage off)) := by
  have hwr : RegsBut s (s.wr off (s.checkIn ctx sel off v).new) (off :: clampRegs (clampPage off)) :=
    RegsBut.refl.wr (List.mem_cons_self ..)
  exact .ite (hwr.clampReportAt fun k hk => List.mem_cons_of_mem _ hk) hwr

/-- A register that no clamp report changes holds the checked word. -/
theorem State.rd_applyIn_same (s ctx : State) (slot : Option Nat) (sel : Acc → Bool) {off : Nat} (v : Word)
    (h : off ∉ clampRegs (clampPage off)) : (s.applyIn ctx slot sel off v).rd off = (s.checkIn ctx sel off v).new := by
  have hrep (u : State) (slot kept orig new) : (u.clampReport slot kept off orig new).rd off = u.rd off :=
    State.rd_clampReportAt _ _ _ _ _ _ _ _ h
  unfold State.applyIn
  dsimp only
  split
  · rw [hrep, State.rd_wr_same]
  · rw [State.rd_wr_same]

/-- Settles O9: a served word reaches `State.regWrite`, which stages it, ignores it, or checks FORCE and writes it. -/
theorem registerWritesFollowTheirClass : Obligations.RegisterWritesFollowTheirClass := by
  refine ⟨fun s off v hruns hoff h4 hp hblk hint hcmd hst hnow hw1c hserves => ?staged,
    fun s off v hruns hoff h4 hp hserves => ?reserved, fun s v hserves => ?force⟩
  case staged =>
    have hm : mapped off.toNat = true := by rw [mapped, if_pos hoff, hp]
    refine ⟨s.stageDirect off.toNat v, congrArg Host.Outcome.next ?_, rfl, fun _ => rfl⟩
    rw [State.flow_of_runs hruns, State.registerWrite_of_serves v h4 (by omega) (by rw [hm]; exact hserves),
      State.regWrite_page s hoff hp, State.pageWrite_value hp hblk hint hcmd, State.valueWrite_staged hst hnow hw1c]
  case reserved =>
    have hm : mapped off.toNat = false := by rw [mapped, if_pos hoff, hp]
    refine congrArg Host.Outcome.next ?_
    rw [State.flow_of_runs hruns, State.registerWrite_of_serves v h4 (by omega) (by rw [hm]; exact hserves),
      State.regWrite_unmapped s hm]
  case force =>
    let u := s.stageDirect R.GATE_CTRL v
    have hlog := sameButLog_applyIn u u none selNow R.GATE_CTRL v
    refine ⟨_, (congrArg Host.Outcome.next (hostWriteTo_of_serves s _ _ hserves)).trans
      (congrArg Host.Outcome.next (s.valueWrite_gateCtrl v)), ?_, regsBut_applyIn u u none selNow R.GATE_CTRL v, ?_⟩
    · rw [State.fld, State.rd_applyIn_same u u none selNow v (by decide), State.check_gateCtrl]
      rfl
    · unfold SameButLog at hlog
      rw [hlog]; rfl

end Sys2Proof.Machine

/-! ### Accesses that no block serves, and malformed ones (R371, R382, R392) -/

namespace Sys2Proof.Machine

-- A proof that fills in an argument by its default tactic waits for all that stands before it: checked in order, none waits.
set_option Elab.async false

section
variable {s : State} {off : Nat} (k : State → State) (hhost : s.domOn dHOST = true)
include hhost

theorem hostWriteTo_of_not_ready (hr : s.memReady = false) : s.hostWriteTo off k = s.bump F.PCIEX_UR_COUNT_COUNT := by
  simp only [State.hostWriteTo, hhost, hr, Bool.not_true, Bool.not_false, Bool.false_eq_true, reduceIte]

theorem hostWriteTo_of_fatal (hr : s.memReady = true) (hf : s.fatal = true) (ho : off ≠ R.CHIP_RESET_CTRL) :
    s.hostWriteTo off k = s := by
  have ho : (off != R.CHIP_RESET_CTRL) = true := by simpa using ho
  simp only [State.hostWriteTo, hhost, hr, hf, ho, Bool.not_true, Bool.false_eq_true, Bool.and_self, Bool.or_true,
    Bool.true_or, reduceIte]

theorem hostWriteTo_of_dom_down (hr : s.memReady = true) (hd3 : s.pcie.d3hot = false) (hf : s.fatal = false)
    (hi : s.isolated off = false) (hd : s.domOn (offDomain off) = false) :
    s.hostWriteTo off k = s.bump F.PCIEX_DOWN_ACCESS_COUNT := by
  simp only [State.hostWriteTo, hhost, hr, hd3, hf, hi, hd, Bool.not_true, Bool.not_false, Bool.false_eq_true, Bool.false_and,
    Bool.or_self, reduceIte]

end

theorem exec_malformed {s : State} (isRead : Bool) (hhost : s.domOn dHOST = true) (hr : s.memReady = true)
    (hd3 : s.pcie.d3hot = false) :
    exec (.malformedBar0Access isRead) s =
      .next (if isRead then ((s.bump F.PCIEX_CA_COUNT_COUNT).aerUncorr 15).emit .completerAbort
             else (s.bump F.PCIEX_CA_COUNT_COUNT).aerUncorr 15) := by
  have h : s.malformed isRead = if isRead then ((s.bump F.PCIEX_CA_COUNT_COUNT).aerUncorr 15).emit .completerAbort
             else (s.bump F.PCIEX_CA_COUNT_COUNT).aerUncorr 15 := by
    simp only [State.malformed, hhost, hr, hd3, Bool.not_true, Bool.false_eq_true, reduceIte]
  exact congrArg Host.Outcome.next h

/-- Settles O10: a malformed access is counted, and each listed command is one write that `State.hostWriteTo` guards. -/
theorem unservedAndMalformedAccesses : Obligations.UnservedAndMalformedAccesses := by
  refine ⟨fun s isRead hhost hr hd3 => ?malformed, fun s c off hc hhost => ?unserved⟩
  case malformed =>
    let u := (s.bump F.PCIEX_CA_COUNT_COUNT).aerUncorr 15
    have hcount : u.fld F.PCIEX_CA_COUNT_COUNT = min (s.fld F.PCIEX_CA_COUNT_COUNT + 1) (2 ^ 32 - 1) := by
      rw [State.fld, State.rd_aerUncorr]
      exact s.fld_bump_same F.PCIEX_CA_COUNT_COUNT 1 (by decide)
    have hregs : RegsBut s u [R.PCIEX_CA_COUNT] := fun k hk =>
      ((s.bump F.PCIEX_CA_COUNT_COUNT).rd_aerUncorr 15 k).trans (regsBut_bump s F.PCIEX_CA_COUNT_COUNT 1 k hk)
    have hsame : SameButSignals s u := (sameButSignals_bump s _ _).trans (sameButSignals_aerUncorr _ _)
    rw [exec_malformed isRead hhost hr hd3]
    cases isRead
    · exact ⟨u, rfl, hcount, nofun, hregs, hsame⟩
    · exact ⟨u.emit .completerAbort, rfl, hcount, fun _ => rfl, hregs, hsame.trans (sameButSignals_emit u _)⟩
  case unserved =>
    obtain ⟨k, hexec, hoff⟩ : ∃ k, exec c s = .next (s.hostWriteTo off k) ∧ off ≠ R.CHIP_RESET_CTRL := by
      rcases hc with ⟨p, w, rfl, rfl⟩ | ⟨v, rfl, rfl⟩ | ⟨v, rfl, rfl⟩ | ⟨q, r, v, rfl, rfl⟩ | ⟨q, v, rfl, rfl⟩ |
        ⟨q, rfl, rfl⟩ | ⟨q, rfl, rfl⟩ | ⟨q, rfl, rfl⟩ | ⟨r, g, v, rfl, rfl⟩ | ⟨r, v, rfl, rfl⟩ | ⟨v, rfl, rfl⟩ |
        ⟨v, rfl, rfl⟩ | ⟨v, rfl, rfl⟩ | ⟨v, rfl, rfl⟩ <;> exact ⟨_, rfl, by decide⟩
    rw [hexec]
    exact ⟨fun hr => congrArg _ (hostWriteTo_of_not_ready k hhost hr),
      fun hr _ hf => congrArg _ (hostWriteTo_of_fatal k hhost hr hf hoff),
      fun hr hd3 hf hi hd => congrArg _ (hostWriteTo_of_dom_down k hhost hr hd3 hf hi hd)⟩

/-! ### Page entries (R16 to R20) -/

section
variable {s : State} {p : Nat}

theorem clampPage_entry (o : Nat) : clampPage (0x800000 + o) = 0x14 := by
  unfold clampPage
  repeat rw [if_neg (by omega)]
  rw [if_pos (by omega)]

@[simp] theorem State.entry_setEntry_same (e : DWord) : (s.setEntry p e).entry p = e := SMap.get_set_same _ _ _ _

theorem State.entry_setEntry_other {q : Nat} (e : DWord) (h : q ≠ p) : (s.setEntry p e).entry q = s.entry q :=
  SMap.get_set_other _ _ _ h.symm

/-- The reports of an entry write that is kept: one for each half that was written (R18, R88). -/
def State.entryReports (s : State) (p : Nat) (lo : Word) (loWritten : Bool) (hi : Word) : State :=
  (if loWritten then s.clampReport none true (entryOff p) lo ((s.entry p).truncate 32) else s).clampReport none true
    (entryOff p + 4) hi ((s.entry p >>> 32).truncate 32)

theorem regsBut_entryReports (lo : Word) (lw : Bool) (hi : Word) : RegsBut s (s.entryReports p lo lw hi) (clampRegs 0x14) := by
  have h1 : RegsBut s (s.clampReport none true (entryOff p) lo ((s.entry p).truncate 32)) (clampRegs 0x14) :=
    RegsBut.refl.clampReportAt (by rw [entryOff, clampPage_entry]; exact fun _ => id)
  exact (RegsBut.ite h1 .refl).clampReportAt (by rw [entryOff, Nat.add_assoc, clampPage_entry]; exact fun _ => id)

theorem sameButLog_entryReports (lo : Word) (lw : Bool) (hi : Word) : SameButLog s (s.entryReports p lo lw hi) := by
  refine SameButLog.trans ?_ (sameButLog_clampReport _ _ _ _ _ _)
  split
  · exact sameButLog_clampReport s _ _ _ _ _
  · rfl

/-- The count of clamp reports of SURF. -/
theorem State.fld_entryReports (lo : Word) (lw : Bool) (hi : Word) :
    (s.entryReports p lo lw hi).fld (hdrFld 0x14 0x24 0 32) =
      min (s.fld (hdrFld 0x14 0x24 0 32) + (if lw then 2 else 1)) (2 ^ 32 - 1) := by
  have hrep (u : State) (o : Nat) (orig new : Word) : (u.clampReport none true (0x800000 + o) orig new).fld (hdrFld 0x14 0x24 0 32) =
      min (u.fld (hdrFld 0x14 0x24 0 32) + 1) (2 ^ 32 - 1) := by
    rw [State.clampReport, clampPage_entry]; exact u.fld_clampReportAt_count ..
  rw [State.entryReports, entryOff, Nat.add_assoc, hrep]
  cases lw
  · rfl
  · rw [if_pos rfl, hrep]; simp only [reduceIte]; omega

/-- Over an entry that is not valid a legal value is committed, and an illegal one reported (R17, R20). -/
theorem State.applyEntry_of_not_valid (hv : entryValid (s.entry p) = false) (lo : Word) (lw : Bool) (hi : Word) :
    s.applyEntry none p lo lw hi =
      if s.entryLegal (s.combinedEntry p lo hi) then s.setEntry p (s.combinedEntry p lo hi) else s.entryReports p lo lw hi := by
  have hr : entryRefused (s.entry p) (s.combinedEntry p lo hi) = false := by rw [entryRefused, hv, Bool.false_and]
  change (if !s.entryLegal (s.combinedEntry p lo hi) || entryRefused (s.entry p) (s.combinedEntry p lo hi) then
    s.entryReports p lo lw hi else s.setEntry p (s.combinedEntry p lo hi)) = _
  cases s.entryLegal (s.combinedEntry p lo hi) <;> simp [hr]

end

/-- The half or the halves of an entry that a held lower half no longer waits for. -/
def State.dropHeldLo (s : State) (p : Nat) : State :=
  { s with surf := { s.surf with heldLo := SMap.erase s.surf.heldLo p } }

theorem exec_pageEntryWrite {s : State} (p : BitVec 20) (w : EntryWrite) (h : s.serves 0x800000 = true) :
    exec (.pageEntryWrite p w) s = .next (s.pageEntryWrite p.toNat w).ltrUpdate :=
  congrArg Host.Outcome.next (hostWriteTo_of_serves s _ _ h)

theorem State.find?_dropHeldLo_same (s : State) (p : Nat) : SMap.find? (s.dropHeldLo p).surf.heldLo p = none := by
  rw [State.dropHeldLo, SMap.find?_erase, if_pos rfl]

theorem State.find?_dropHeldLo_other (s : State) {p q : Nat} (h : q ≠ p) :
    SMap.find? (s.dropHeldLo p).surf.heldLo q = SMap.find? s.surf.heldLo q := by
  rw [State.dropHeldLo, SMap.find?_erase, if_neg h.symm]

/-- A write that completes an entry that is not valid, once the held half is taken. -/
theorem directEntry_not_valid {s : State} {p : Nat} (hv : entryValid (s.entry p) = false) (l : Option Word) (lo hi : Word)
    (hlo : lo = l.getD ((s.entry p).truncate 32)) :
    ∃ u : State, (s.dropHeldLo p).directEntry p l hi = u ∧
      u.entry p = (if s.entryLegal (s.combinedEntry p lo hi) then s.combinedEntry p lo hi else s.entry p) ∧
      (∀ q, q ≠ p → u.entry q = s.entry q) ∧
      u.fld (hdrFld 0x14 0x24 0 32) =
        (if s.entryLegal (s.combinedEntry p lo hi) then s.fld (hdrFld 0x14 0x24 0 32)
         else min (s.fld (hdrFld 0x14 0x24 0 32) + if l.isSome then 2 else 1) (2 ^ 32 - 1)) ∧
      SMap.find? u.surf.heldLo p = none ∧ (∀ q, q ≠ p → SMap.find? u.surf.heldLo q = SMap.find? s.surf.heldLo q) ∧
      RegsBut s u (clampRegs 0x14) ∧
      u = { s with regs := u.regs, clampLog := u.clampLog,
                   surf := { s.surf with heldLo := u.surf.heldLo, pageTab := u.surf.pageTab } } := by
  subst hlo
  have hd : (s.dropHeldLo p).directEntry p l hi =
      if s.entryLegal (s.combinedEntry p (l.getD ((s.entry p).truncate 32)) hi) then
        (s.dropHeldLo p).setEntry p (s.combinedEntry p (l.getD ((s.entry p).truncate 32)) hi)
      else (s.dropHeldLo p).entryReports p (l.getD ((s.entry p).truncate 32)) l.isSome hi :=
    (if_neg (by rw [show (s.dropHeldLo p).entry p = s.entry p from rfl, hv]; decide)).trans
      (State.applyEntry_of_not_valid (s := s.dropHeldLo p) hv _ _ _)
  refine ⟨_, hd, ?_⟩
  split
  · exact ⟨State.entry_setEntry_same _, fun q hq => State.entry_setEntry_other _ hq, rfl, s.find?_dropHeldLo_same p,
      fun q hq => s.find?_dropHeldLo_other hq, .refl, rfl⟩
  · have hlog := sameButLog_entryReports (s := s.dropHeldLo p) (p := p) (l.getD ((s.entry p).truncate 32)) l.isSome hi
    have hsurf : ((s.dropHeldLo p).entryReports p (l.getD ((s.entry p).truncate 32)) l.isSome hi).surf = (s.dropHeldLo p).surf := by
      rw [hlog]
    refine ⟨?_, fun q hq => ?_, State.fld_entryReports (s := s.dropHeldLo p) _ _ _, ?_, fun q hq => ?_,
      regsBut_entryReports (s := s.dropHeldLo p) _ _ _, ?_⟩
    · rw [State.entry, hsurf]; rfl
    · rw [State.entry, hsurf]; rfl
    · rw [hsurf]; exact s.find?_dropHeldLo_same p
    · rw [hsurf]; exact s.find?_dropHeldLo_other hq
    · rw [hsurf]; exact hlog

/-- A write that completes a valid entry is staged. -/
theorem directEntry_valid {s : State} {p : Nat} (hv : entryValid (s.entry p) = true) (l : Option Word) (hi : Word) :
    ∃ u : State, (s.dropHeldLo p).directEntry p l hi = u ∧
      SMap.find? u.surf.staged p = some
        (match l with
         | some l => ⟨some l, true, hi⟩
         | none => ⟨(SMap.find? s.surf.staged p).bind (·.lo), false, hi⟩) ∧
      (∀ q, q ≠ p → SMap.find? u.surf.staged q = SMap.find? s.surf.staged q) ∧
      u = { s with surf := { s.surf with heldLo := SMap.erase s.surf.heldLo p, staged := u.surf.staged } } := by
  refine ⟨_, if_pos hv, ?_, fun q hq => ?_, rfl⟩
  · cases l <;> exact (SMap.find?_insert _ _ _ _).trans (if_pos rfl)
  · exact (SMap.find?_insert _ _ _ _).trans (if_neg hq.symm)

/-- Settles O11: a lower half is held; a write that completes an entry is checked and committed, or staged. -/
theorem pageEntryWritesAct : Obligations.PageEntryWritesAct := by
  refine ⟨fun s p v hs => ?lower, fun s p w lo hi halves hs hv hw => ?now, fun s p v d hs hv => ?staged⟩
  case lower =>
    have hheld (q : Nat) : SMap.find? (s.pageEntryWrite p.toNat (.lower v)).surf.heldLo q =
        if p.toNat = q then some v else SMap.find? s.surf.heldLo q := SMap.find?_insert ..
    exact ⟨_, exec_pageEntryWrite p _ hs, by rw [hheld, if_pos rfl], fun q hq => by rw [hheld, if_neg hq.symm], rfl⟩
  case now =>
    rw [exec_pageEntryWrite p w hs]
    rcases hw with ⟨v, rfl, rfl, hlo, rfl⟩ | ⟨v, rfl, rfl, rfl, rfl⟩
    · obtain ⟨u, hu, hrest⟩ := directEntry_not_valid hv (SMap.find? s.surf.heldLo p.toNat) lo hi hlo
      exact ⟨u, hu ▸ rfl, hrest⟩
    · obtain ⟨u, hu, hrest⟩ := directEntry_not_valid hv (some (v.truncate 32)) _ ((v >>> 32).truncate 32) rfl
      exact ⟨u, hu ▸ rfl, hrest⟩
  case staged =>
    rw [exec_pageEntryWrite p _ hs, exec_pageEntryWrite p _ hs]
    constructor
    · obtain ⟨u, hu, hrest⟩ := directEntry_valid hv (SMap.find? s.surf.heldLo p.toNat) v
      exact ⟨u, hu ▸ rfl, hrest⟩
    · obtain ⟨u, hu, hrest⟩ := directEntry_valid hv (some (d.truncate 32)) ((d >>> 32).truncate 32)
      exact ⟨u, hu ▸ rfl, hrest⟩

end Sys2Proof.Machine

/-! ### Retire commands, the remote-surface cache, its fills, and zero fills (R27 to R29, R34 to R38) -/

namespace Sys2Proof.Machine

-- A proof that fills in an argument by its default tactic waits for all that stands before it: checked in order, none waits.
set_option Elab.async false

section
variable {s : State}

/-! #### Retire commands -/

/-- RETIRING set on each of the pages `ps`. -/
def State.markRetiring (s : State) (ps : List Nat) : State := s.each ps fun s p => s.setEntry p (s.entry p ||| 0x10#64)

theorem State.entry_markRetiring (ps : List Nat) (p : Nat) :
    (s.markRetiring ps).entry p = if p ∈ ps then s.entry p ||| 0x10#64 else s.entry p := by
  induction ps generalizing s with
  | nil => rfl
  | cons q ps ih =>
    rw [show s.markRetiring (q :: ps) = (s.setEntry q (s.entry q ||| 0x10#64)).markRetiring ps from rfl, ih]
    by_cases hq : p = q
    · subst hq; simp [BitVec.or_assoc]
    · simp [State.entry_setEntry_other _ hq, hq]

theorem State.markRetiring_frame (ps : List Nat) :
    ∃ tab, s.markRetiring ps = { s with surf := { s.surf with pageTab := tab } } := by
  induction ps generalizing s with
  | nil => exact ⟨_, rfl⟩
  | cons q ps ih => exact ih (s := s.setEntry q (s.entry q ||| 0x10#64))

/-- The state of a retire command that was not FULL, before it is made pending or fenced. -/
def State.retireMarked (s : State) (v : Word) (n : Nat) (marked : List Nat) : State :=
  ((if n = bitsOf v 20 12 then s
    else s.clampReport none false R.SURF_RETIRE_CMD v (BitVec.ofNat 32 (bitsOf v 0 20 + n * 2 ^ 20))).markRetiring marked).setFld
      F.SURF_RETIRE_STATUS_RESULT (b2n (marked.length != n))

theorem retireMarked_spec (v : Word) (n : Nat) (marked : List Nat) :
    (∀ p, (s.retireMarked v n marked).entry p = if p ∈ marked then s.entry p ||| 0x10#64 else s.entry p) ∧
    (s.retireMarked v n marked).fld F.SURF_RETIRE_STATUS_RESULT = (if marked.length = n then 0 else 1) ∧
    (s.retireMarked v n marked).fld (hdrFld 0x14 0x24 0 32) =
      (if n = bitsOf v 20 12 then s.fld (hdrFld 0x14 0x24 0 32) else min (s.fld (hdrFld 0x14 0x24 0 32) + 1) (2 ^ 32 - 1)) ∧
    RegsBut s (s.retireMarked v n marked) (R.SURF_RETIRE_STATUS :: clampRegs 0x14) ∧
    s.retireMarked v n marked =
      { s with regs := (s.retireMarked v n marked).regs, clampLog := (s.retireMarked v n marked).clampLog,
               surf := { s.surf with pageTab := (s.retireMarked v n marked).surf.pageTab } } := by
  obtain ⟨u, hu⟩ : ∃ u, u = if n = bitsOf v 20 12 then s
    else s.clampReport none false R.SURF_RETIRE_CMD v (BitVec.ofNat 32 (bitsOf v 0 20 + n * 2 ^ 20)) := ⟨_, rfl⟩
  have hlog : SameButLog s u := by
    rw [hu]; split
    · rfl
    · exact sameButLog_clampReport ..
  have hregs : RegsBut s u (clampRegs 0x14) := hu ▸ RegsBut.ite .refl (RegsBut.refl.clampReportAt fun _ => id)
  have hcount : u.fld (hdrFld 0x14 0x24 0 32) =
      if n = bitsOf v 20 12 then s.fld (hdrFld 0x14 0x24 0 32) else min (s.fld (hdrFld 0x14 0x24 0 32) + 1) (2 ^ 32 - 1) := by
    rw [hu]; split
    · rfl
    · exact s.fld_clampReportAt_count 0x14 ..
  have hentry (p : Nat) : u.entry p = s.entry p := by rw [State.entry, hlog]; rfl
  have hw : s.retireMarked v n marked = (u.markRetiring marked).setFld F.SURF_RETIRE_STATUS_RESULT (b2n (marked.length != n)) := by
    rw [hu]; rfl
  have hrd (k : Nat) : (u.markRetiring marked).rd k = u.rd k := by
    obtain ⟨_, h⟩ := u.markRetiring_frame marked
    rw [h]; rfl
  rw [hw]
  refine ⟨fun p => ?_, ?_, ?_, ?_, ?_⟩
  · rw [← hentry, ← State.entry_markRetiring]; rfl
  · rw [State.fld_setFld_same _ _ _ (by decide)]
    by_cases h : marked.length = n <;> simp [h, b2n]
  · rw [State.fld_setFld_other _ _ _ _ (by decide), ← hcount, State.fld, hrd]; rfl
  · exact RegsBut.setFld (fun k hk => (hrd k).trans (hregs k fun h => hk (List.mem_cons_of_mem _ h))) (by decide)
  · obtain ⟨tab, htab⟩ := u.markRetiring_frame marked
    unfold SameButLog at hlog
    rw [htab, hlog]; rfl

/-- A retire command that is not FULL is made pending, or fenced at once where it marks no page. -/
theorem exec_retireCmd (v : Word) (n : Nat) (marked : List Nat)
    (hs : s.serves R.SURF_RETIRE_CMD = true) (hd : s.domOn dSTORE = true) (hlen : s.surf.retires.length < 256)
    (hn : n = min (bitsOf v 20 12) (2 ^ 20 - bitsOf v 0 20))
    (hm : marked = ((List.range n).map (bitsOf v 0 20 + ·)).filter (fun p => entryValid (s.entry p) && !entryRetiring (s.entry p))) :
    exec (.retireCmd v) s = .next
      (if marked = [] then (s.retireMarked v n marked).releaseFence 0 (s.rd R.SURF_RETIRE_COOKIE) (bitsOf v 0 20) n (s.rd R.SCAN_FRAME_SEQ)
       else (s.retireMarked v n marked).setRetires (s.surf.retires ++
             [⟨bitsOf v 0 20, n, s.rd R.SURF_RETIRE_COOKIE, marked, [], (s.rd R.SCAN_FRAME_SEQ).toNat⟩])) := by
  have hw : s.retireWrite v = s.retire none v (s.rd R.SURF_RETIRE_COOKIE) := if_pos hd
  refine congrArg Host.Outcome.next ((hostWriteTo_of_serves s _ _ hs).trans (hw.trans ?_))
  obtain ⟨_, _, _, hregs, hframe⟩ := retireMarked_spec (s := s) v n marked
  have hentry (c : Prop) [Decidable c] (a b o v w) : (if c then s else s.clampReport a b o v w).entry = s.entry := by
    split
    · rfl
    · exact funext fun p => by rw [State.entry, sameButLog_clampReport]; rfl
  have hseq : (s.retireMarked v n marked).rd R.SCAN_FRAME_SEQ = s.rd R.SCAN_FRAME_SEQ := hregs _ (by decide)
  have hret : (s.retireMarked v n marked).surf.retires = s.surf.retires := by rw [hframe]
  rw [State.retire, if_neg (by omega)]
  dsimp only
  rw [← hn]
  simp only [hentry]
  rw [← hm]
  change (if marked.isEmpty = true then (s.retireMarked v n marked).releaseFence 0 _ _ _ ((s.retireMarked v n marked).rd R.SCAN_FRAME_SEQ) else
    (s.retireMarked v n marked).setRetires ((s.retireMarked v n marked).surf.retires ++
      [⟨_, _, _, _, _, ((s.retireMarked v n marked).rd R.SCAN_FRAME_SEQ).toNat⟩])) = _
  rw [hseq, hret]
  simp only [List.isEmpty_iff]
/-! #### The cache -/

theorem SMap.get_mapVals_or {β : Type} [DecidableEq β] (d : Nat → β) (f : Nat → β → β) (m : SMap β) (k : Nat) :
    SMap.get d (SMap.mapVals d f m) k = d k ∨ ∃ v, SMap.get d (SMap.mapVals d f m) k = f k v := by
  induction m with
  | nil => exact .inl rfl
  | cons e m ih =>
    obtain ⟨k', v⟩ := e
    rw [SMap.mapVals]
    split
    · exact ih
    · by_cases h : k' = k
      · subst h; exact .inr ⟨v, by simp [SMap.get, SMap.find?]⟩
      · simpa [SMap.get, SMap.find?, h] using ih

theorem State.rcacheFind_invalidate_named (q : Nat → Bool) {p l : Nat} (hq : q p = true) :
    (s.rcacheInvalidate q).rcacheFind p l = none := by
  rw [State.rcacheFind, List.find?_eq_none]
  intro x hx
  have hnot (v : List CacheLine) (hx : x ∈ v.filter fun l => !q l.page) : ¬(x.page == p && x.line == l) = true := by
    intro h
    simp only [Bool.and_eq_true, beq_iff_eq] at h
    simp [h.1, hq] at hx
  rcases SMap.get_mapVals_or (fun _ => []) (fun _ ls => ls.filter fun l : CacheLine => !q l.page) s.surf.cache
    (rcacheSet p l) with h | ⟨v, h⟩
  · exact absurd (h ▸ hx) List.not_mem_nil
  · exact hnot v (h ▸ hx)

theorem State.rcacheFind_invalidate_other (q : Nat → Bool) (hs : SMap.sorted s.surf.cache = true) {p l : Nat} (hq : q p = false) :
    (s.rcacheInvalidate q).rcacheFind p l = s.rcacheFind p l := by
  have h := SMap.get_mapVals (fun _ => []) (fun _ ls => ls.filter fun l : CacheLine => !q l.page) s.surf.cache
    (rcacheSet p l) hs rfl
  rw [State.rcacheFind, State.rcacheInvalidate, h, List.find?_filter, State.rcacheFind]
  congr 1
  funext x
  by_cases hx : x.page = p
  · simp [hx, hq, Bool.beq_eq_decide_eq]
  · simp [hx]

theorem State.rcacheFind_touch (l : CacheLine) : (s.rcacheTouch l).rcacheFind l.page l.line = some l := by
  rw [State.rcacheFind, State.rcacheTouch]
  dsimp only
  rw [SMap.get_set_same, List.take_succ_cons, List.find?_cons_of_pos]
  simp

/-! #### Fills -/

theorem nodup_eraseDups {α : Type} [BEq α] [LawfulBEq α] (xs : List α) : xs.eraseDups.Nodup := by
  match xs with
  | [] => simp
  | x :: xs =>
    rw [List.eraseDups_cons, List.nodup_cons, List.mem_eraseDups]
    exact ⟨by simp, nodup_eraseDups _⟩
termination_by xs.length
decreasing_by exact Nat.lt_succ_of_le (List.length_filter_le ..)

/-- A fetch with the data of a line that it needs. -/
def FetchLine.receive (key : Nat) (bs : List Byte) (f : FetchLine) : FetchLine :=
  { f with bufs := f.bufs ++ [(key, bs)], missing := f.missing.filter (· != key) }

/-- The fetch of a line, where one is in progress, receives its data. -/
def State.receive (key : Nat) (bs : List Byte) (s : State) (l : Nat) : State :=
  match SMap.find? s.scan.fetch l with
  | some f => { s with scan := { s.scan with fetch := SMap.insert s.scan.fetch l (f.receive key bs) } }
  | none => s

theorem State.receive_frame (key : Nat) (bs : List Byte) (l : Nat) :
    ∃ m, s.receive key bs l = { s with scan := { s.scan with fetch := m } } ∧
      ∀ k, SMap.find? m k = if k = l then (SMap.find? s.scan.fetch k).map (FetchLine.receive key bs) else SMap.find? s.scan.fetch k := by
  unfold State.receive
  cases hfind : SMap.find? s.scan.fetch l with
  | none =>
    refine ⟨s.scan.fetch, rfl, fun k => ?_⟩
    by_cases hk : k = l
    · subst hk; simp [hfind]
    · simp [hk]
  | some f =>
    refine ⟨_, rfl, fun k => ?_⟩
    rw [SMap.find?_insert]
    by_cases hk : k = l
    · subst hk; simp [hfind]
    · simp [hk, Ne.symm hk]

theorem State.each_receive_frame (key : Nat) (bs : List Byte) {ls : List Nat} (hls : ls.Nodup) :
    ∃ m, s.each ls (State.receive key bs) = { s with scan := { s.scan with fetch := m } } ∧
      ∀ k, SMap.find? m k =
        if k ∈ ls then (SMap.find? s.scan.fetch k).map (FetchLine.receive key bs) else SMap.find? s.scan.fetch k := by
  induction ls generalizing s with
  | nil => exact ⟨s.scan.fetch, rfl, fun _ => rfl⟩
  | cons l ls ih =>
    obtain ⟨hl, hls⟩ := List.nodup_cons.mp hls
    obtain ⟨m0, hm0, hf⟩ := s.receive_frame key bs l
    obtain ⟨m, hm, hk⟩ := ih (s := { s with scan := { s.scan with fetch := m0 } }) hls
    refine ⟨m, by rw [State.each, List.foldl_cons, hm0]; exact hm, fun k => ?_⟩
    rw [hk, hf]
    by_cases hkl : k = l
    · subst hkl; simp [hl]
    · simp [hkl]

theorem State.deliverFill_frame (key : Nat) (needs : List FillNeed) (bs : List Byte) :
    ∃ m, s.deliverFill key needs bs = { s with scan := { s.scan with fetch := m } } ∧
      ∀ k, SMap.find? m k =
        if k ∈ needs.map (·.line) then (SMap.find? s.scan.fetch k).map (FetchLine.receive key bs) else SMap.find? s.scan.fetch k := by
  obtain ⟨m, hm, hk⟩ :=
    s.each_receive_frame key bs (nodup_eraseDups (needs.map (·.line)))
  exact ⟨m, hm, fun k => by rw [hk]; simp only [List.mem_eraseDups]⟩

/-- The oldest fill of a line comes with its data. -/
theorem remoteFillDone_data {p l : Nat} {f : Fill} (hf : s.surf.fills.find? (fun f => f.page == p && f.line == l) = some f)
    (bs : List Byte) :
    ∃ t, s.remoteFillDone p l (.data bs) = t ∧
      t.surf.fills = s.surf.fills.eraseP (fun f => f.page == p && f.line == l) ∧
      (f.discard = false → s.bit F.SURF_CTRL_RCACHE_EN = true → t.rcacheFind p l = some ⟨p, l, fitBytes 4096 bs⟩) ∧
      (f.discard = true ∨ s.bit F.SURF_CTRL_RCACHE_EN = false → t.surf.cache = s.surf.cache) ∧
      (∀ k, SMap.find? t.scan.fetch k =
        if k ∈ f.needs.map (·.line) then
          (SMap.find? s.scan.fetch k).map (FetchLine.receive (p * 512 + l) (fitBytes 4096 bs))
        else SMap.find? s.scan.fetch k) ∧
      t = { s with surf := { s.surf with fills := t.surf.fills, cache := t.surf.cache },
                   scan := { s.scan with fetch := t.scan.fetch } } := by
  let gone : State := { s with surf := { s.surf with fills := s.surf.fills.eraseP (fun f => f.page == p && f.line == l) } }
  let cached : State :=
    if f.discard || !s.bit F.SURF_CTRL_RCACHE_EN then gone else gone.rcacheTouch ⟨p, l, fitBytes 4096 bs⟩
  have hexec : s.remoteFillDone p l (.data bs) = cached.deliverFill (p * 512 + l) f.needs (fitBytes 4096 bs) := by
    simp only [State.remoteFillDone, hf]; rfl
  obtain ⟨cache, hcached⟩ : ∃ c, cached = { gone with surf := { gone.surf with cache := c } } := by
    dsimp only [cached]; split
    · exact ⟨_, rfl⟩
    · exact ⟨_, rfl⟩
  obtain ⟨m, hm, hfetch⟩ := cached.deliverFill_frame (p * 512 + l) f.needs (fitBytes 4096 bs)
  have hscan : cached.scan = s.scan := by rw [hcached]
  rw [hscan] at hm hfetch
  refine ⟨_, hexec.trans hm, by rw [hcached], fun hd he => ?_, fun hd => ?_, hfetch, by rw [hcached]⟩
  · have htouch : cached = gone.rcacheTouch ⟨p, l, fitBytes 4096 bs⟩ := if_neg (by simp [hd, he])
    rw [htouch]
    exact State.rcacheFind_touch (s := gone) ⟨p, l, fitBytes 4096 bs⟩
  · have hgone : cached = gone := if_pos (by rcases hd with h | h <;> simp [h])
    rw [hgone]

/-- The state of a fill that failed, once it is counted and noted for the frame. -/
def State.fillCounted (s : State) (f : Fill) : State :=
  { s.bump F.SURF_REMOTE_ERR_COUNT with
    surf := { s.surf with remoteRaised := s.surf.remoteRaised || !f.needs.isEmpty } }

theorem State.fillFailed_eq (f : Fill) (c : Nat) :
    s.fillFailed f c =
      match f.needs with
      | [] => s.fillCounted f
      | n :: _ =>
        if s.surf.remoteRaised then s.fillCounted f
        else ((s.fillCounted f).post F.SURF_FENCE_RING_RING 0x0242
          [(1, halfNum n.half), (2, c), (14, n.line), (20, f.page), (32, s.frameNo)]).raise 0x14 2 := by
  have hseq : (s.bump F.SURF_REMOTE_ERR_COUNT).rd R.SCAN_FRAME_SEQ = s.rd R.SCAN_FRAME_SEQ := State.rd_bump_other _ _ _ (by decide)
  unfold State.fillFailed State.fillCounted
  cases hn : f.needs with
  | nil => simp only [List.isEmpty_nil, Bool.not_true, Bool.or_false]; rfl
  | cons n ns =>
    simp only [State.remoteFail, List.isEmpty_cons, Bool.not_false, Bool.or_true]
    cases hr : s.surf.remoteRaised with
    | true =>
      rw [if_pos (show (s.bump F.SURF_REMOTE_ERR_COUNT).surf.remoteRaised = true from hr), if_pos rfl, ← hr]
      rfl
    | false =>
      rw [if_neg (by rw [show (s.bump F.SURF_REMOTE_ERR_COUNT).surf.remoteRaised = false from hr]; decide), if_neg (by decide),
        State.frameNo, ← hseq]
      rfl

theorem State.aerUncorr_frame (b : Nat) : ∃ pcie sent, s.aerUncorr b = { s with pcie := pcie, sent := sent } := by
  unfold State.aerUncorr; dsimp only; split
  · exact ⟨_, _, rfl⟩
  · exact ⟨_, _, rfl⟩

/-- A fill fails: the fills in flight become `fills`, the read is noted, the failure is counted. -/
theorem fillFailed_spec (fills : List Fill) (f : Fill) (c : Nat) (res : ReadRes) (hres : res = .timeout ∨ res = .error) :
    ∃ u, ({ s with surf := { s.surf with fills := fills } }.noteRead res).fillFailed f c =
        (match f.needs with
         | [] => u
         | n :: _ =>
           if s.surf.remoteRaised then u
           else (u.post F.SURF_FENCE_RING_RING 0x0242
             [(1, halfNum n.half), (2, c), (14, n.line), (20, f.page), (32, s.frameNo)]).raise 0x14 2) ∧
      u.surf.fills = fills ∧
      u.fld F.SURF_REMOTE_ERR_COUNT = min (s.fld F.SURF_REMOTE_ERR_COUNT + 1) (2 ^ 32 - 1) ∧
      u.fld F.PCIEX_CPL_TIMEOUTS_COUNT =
        (if res = .timeout then min (s.fld F.PCIEX_CPL_TIMEOUTS_COUNT + 1) (2 ^ 32 - 1) else s.fld F.PCIEX_CPL_TIMEOUTS_COUNT) ∧
      u.surf.remoteRaised = (s.surf.remoteRaised || !f.needs.isEmpty) ∧
      (res ≠ .timeout → u.pcie = s.pcie ∧ u.sent = s.sent) ∧
      RegsBut s u [R.SURF_REMOTE_ERR, R.PCIEX_CPL_TIMEOUTS] ∧
      u = { s with regs := u.regs, pcie := u.pcie, sent := u.sent,
                   surf := { s.surf with fills := u.surf.fills, remoteRaised := u.surf.remoteRaised } } := by
  obtain ⟨v, hv⟩ : ∃ v, v = ({ s with surf := { s.surf with fills := fills } } : State).noteRead res := ⟨_, rfl⟩
  obtain ⟨r, pcie, sent, hform⟩ : ∃ r pcie sent,
      v = { s with regs := r, pcie := pcie, sent := sent, surf := { s.surf with fills := fills } } := by
    rcases hres with rfl | rfl
    · obtain ⟨pcie, sent, h⟩ :=
        (({ s with surf := { s.surf with fills := fills } } : State).bump F.PCIEX_CPL_TIMEOUTS_COUNT).aerUncorr_frame 14
      exact ⟨_, pcie, sent, hv.trans h⟩
    · exact ⟨_, _, _, hv⟩
  have hrd (k : Nat) : v.rd k =
      (if res = .timeout then (({ s with surf := { s.surf with fills := fills } } : State).bump F.PCIEX_CPL_TIMEOUTS_COUNT)
       else s).rd k := by
    rcases hres with rfl | rfl
    · rw [hv]; exact State.rd_aerUncorr ..
    · rw [hv]; rfl
  have hfld (g : Fld) (hg : g.off ≠ R.PCIEX_CPL_TIMEOUTS) : v.fld g = s.fld g := by
    rw [State.fld, hrd]; split
    · exact State.fld_bump_other _ _ _ _ (.inl hg.symm)
    · rfl
  have hsurf : v.surf.remoteRaised = s.surf.remoteRaised := by rw [hform]
  have hframeNo : v.frameNo = s.frameNo := by
    rw [State.frameNo, hrd]; split
    · rw [State.rd_bump_other _ _ _ (by decide)]; rfl
    · rfl
  rw [← hv]
  refine ⟨v.fillCounted f, ?_, by rw [hform]; rfl, ?_, ?_, by rw [← hsurf]; rfl, ?_, fun k hk => ?_, by rw [hform]; rfl⟩
  · rw [State.fillFailed_eq, hsurf, hframeNo]
  · exact (State.fld_bump_same v _ 1 (by decide)).trans (by rw [hfld _ (by decide)])
  · refine (State.fld_bump_other v F.SURF_REMOTE_ERR_COUNT F.PCIEX_CPL_TIMEOUTS_COUNT 1 (by decide)).trans ?_
    rw [State.fld, hrd]; split
    · exact State.fld_bump_same _ _ _ (by decide)
    · rfl
  · intro hne
    obtain rfl := hres.resolve_left hne
    rw [hv]; exact ⟨rfl, rfl⟩
  · have h1 : k ≠ R.SURF_REMOTE_ERR := fun h => hk (by simp [h])
    have h2 : k ≠ R.PCIEX_CPL_TIMEOUTS := fun h => hk (by simp [h])
    refine (State.rd_bump_other v F.SURF_REMOTE_ERR_COUNT 1 h1.symm).trans ?_
    rw [hrd]; split
    · exact State.rd_bump_other _ _ _ h2.symm
    · rfl

theorem remoteFillDone_failed {p l : Nat} {f : Fill} {r : FillRes} {c : Nat}
    (hf : s.surf.fills.find? (fun f => f.page == p && f.line == l) = some f)
    (hr : (r = .error ∧ c = 1) ∨ (r = .timeout ∧ c = 2) ∨ (r = .late ∧ c = 3 ∧ f.needs ≠ [])) :
    ∃ u, s.remoteFillDone p l r =
        (match f.needs with
         | [] => u
         | n :: _ =>
           if s.surf.remoteRaised then u
           else (u.post F.SURF_FENCE_RING_RING 0x0242
             [(1, halfNum n.half), (2, c), (14, n.line), (20, p), (32, s.frameNo)]).raise 0x14 2) ∧
      u.surf.fills =
        (if r = .late then s.surf.fills.map fun x => if x = f then { f with needs := [], discard := true } else x
         else s.surf.fills.eraseP (fun f => f.page == p && f.line == l)) ∧
      u.fld F.SURF_REMOTE_ERR_COUNT = min (s.fld F.SURF_REMOTE_ERR_COUNT + 1) (2 ^ 32 - 1) ∧
      u.fld F.PCIEX_CPL_TIMEOUTS_COUNT =
        (if r = .timeout then min (s.fld F.PCIEX_CPL_TIMEOUTS_COUNT + 1) (2 ^ 32 - 1) else s.fld F.PCIEX_CPL_TIMEOUTS_COUNT) ∧
      u.surf.remoteRaised = (s.surf.remoteRaised || !f.needs.isEmpty) ∧
      (r ≠ .timeout → u.pcie = s.pcie ∧ u.sent = s.sent) ∧
      RegsBut s u [R.SURF_REMOTE_ERR, R.PCIEX_CPL_TIMEOUTS] ∧
      u = { s with regs := u.regs, pcie := u.pcie, sent := u.sent,
                   surf := { s.surf with fills := u.surf.fills, remoteRaised := u.surf.remoteRaised } } := by
  have hpage : f.page = p := by have := List.find?_some hf; simp at this; exact this.1
  rw [← hpage] at hf ⊢
  rcases hr with ⟨rfl, rfl⟩ | ⟨rfl, rfl⟩ | ⟨rfl, rfl, hneeds⟩
  · obtain ⟨u, hu, hrest⟩ := fillFailed_spec (s := s) (s.surf.fills.eraseP fun x => x.page == f.page && x.line == l) f 1 .error (.inr rfl)
    exact ⟨u, by simp only [State.remoteFillDone, hf]; exact hu, by simpa using hrest⟩
  · obtain ⟨u, hu, hrest⟩ := fillFailed_spec (s := s) (s.surf.fills.eraseP fun x => x.page == f.page && x.line == l) f 2 .timeout (.inl rfl)
    exact ⟨u, by simp only [State.remoteFillDone, hf]; exact hu, by simpa using hrest⟩
  · obtain ⟨u, hu, hrest⟩ := fillFailed_spec (s := s)
      (s.surf.fills.map fun x => if x = f then { f with needs := [], discard := true } else x) f 3 .error (.inr rfl)
    have hne : f.needs.isEmpty = false := by simpa using hneeds
    exact ⟨u, by simp only [State.remoteFillDone, hf, hne, Bool.false_eq_true, reduceIte]; exact hu, by simpa using hrest⟩

/-- A DRAM store with the addresses that `q` names dropped. -/
theorem SMap.get_drop {β : Type} (d : Nat → β) (q : Nat → Bool) (m : SMap β) (k : Nat) :
    SMap.get d (SMap.drop q m) k = if q k then d k else SMap.get d m k := by
  have h : SMap.find? (SMap.drop q m) k = if q k then none else SMap.find? m k := by
    induction m with
    | nil => simp [SMap.drop, SMap.find?]
    | cons e m ih =>
      rw [SMap.drop] at ih ⊢
      by_cases hk : e.1 = k
      · subst hk; by_cases hq : q e.1 <;> simp [SMap.find?, hq, ih]
      · by_cases hq : q e.1 <;> simp [SMap.find?, hq, ih, hk]
  rw [SMap.get, h]; split <;> rfl

/-- `State.fenceDone`, also where no command is ready. -/
theorem State.fenceDone_eq :
    s.fenceDone = (s.setRetires (s.surf.retires.filter fun c => !(c.left.isEmpty && c.zeroing.isEmpty))).each
      (s.surf.retires.filter fun c => c.left.isEmpty && c.zeroing.isEmpty) fun x c =>
        if x.hostReset then x else x.releaseFence 0 c.cookie c.first c.count (BitVec.ofNat 32 c.frame) := by
  unfold State.fenceDone
  dsimp only
  split
  · next h =>
    rw [List.isEmpty_iff] at h
    have hall : s.surf.retires.filter (fun c => !(c.left.isEmpty && c.zeroing.isEmpty)) = s.surf.retires := by
      rw [List.filter_eq_self]
      intro c hc
      rw [Bool.not_eq_true', Bool.eq_false_iff]
      exact List.filter_eq_nil_iff.mp h c hc
    rw [h, hall]; rfl
  · rfl

end

/-- Settles O13, command by command. -/
theorem pageAndCacheCommandsAct : Obligations.PageAndCacheCommandsAct := by
  refine ⟨fun s v hs hd => ⟨fun hfull => ?full, fun n marked hlen hn hm => ?retire⟩, fun s v hs => ?inval,
    fun s p l f hf => ⟨fun bs => ?data, fun hneeds => ?idle, fun r c hr => ?failed⟩, fun s frame hz => ?zero⟩
  case full =>
    have hw : s.retireWrite v = s.setFld F.SURF_RETIRE_STATUS_RESULT 2 := (if_pos hd).trans (if_pos hfull)
    exact ⟨_, congrArg Host.Outcome.next ((hostWriteTo_of_serves s _ _ hs).trans hw), State.fld_setFld_same _ _ _ (by decide),
      RegsBut.refl.setFld (by decide), sameButRegs_setFld s _ _⟩
  case retire =>
    have hexec := exec_retireCmd v n marked hs hd hlen hn hm
    obtain ⟨hentry, hresult, hcount, hregs, hframe⟩ := retireMarked_spec (s := s) v n marked
    by_cases hnil : marked = []
    · rw [if_pos hnil] at hexec
      exact ⟨s.retireMarked v n marked, hentry, hresult, hcount, hregs, by rw [hframe], fun h => absurd hnil h,
        fun _ => ⟨by rw [hframe], hexec⟩⟩
    · rw [if_neg hnil] at hexec
      refine ⟨(s.retireMarked v n marked).setRetires (s.surf.retires ++
          [⟨bitsOf v 0 20, n, s.rd R.SURF_RETIRE_COOKIE, marked, [], (s.rd R.SCAN_FRAME_SEQ).toNat⟩]), hentry, hresult, hcount, hregs, ?_, fun _ => ⟨hexec, rfl⟩,
        fun h => absurd h hnil⟩
      rw [hframe]; rfl
  case inval =>
    have hexec : exec (.rcacheInval v) s = .next (s.rcacheInvalidate fun p => bitOf v 31 || p == bitsOf v 0 20) :=
      congrArg Host.Outcome.next (hostWriteTo_of_serves s _ _ hs)
    refine ⟨_, hexec, fun p l hp => State.rcacheFind_invalidate_named _ ?_,
      fun hsorted p l hall hp => State.rcacheFind_invalidate_other _ hsorted ?_, rfl, rfl⟩
    · rcases hp with h | h <;> simp [h]
    · simp [hall, hp]
  case data =>
    obtain ⟨t, ht, hrest⟩ := remoteFillDone_data hf bs
    exact ⟨t, congrArg Host.Outcome.next ht, hrest⟩
  case idle =>
    refine congrArg Host.Outcome.next ?_
    simp only [State.remoteFillDone, hf, hneeds, List.isEmpty_nil, reduceIte]
  case failed =>
    obtain ⟨u, hu, hfills, herr, hto, hraised, hpcie, hregs, hframe⟩ := remoteFillDone_failed hf hr
    exact ⟨u, hfills, herr, hto, hraised, hpcie, hregs, hframe, congrArg Host.Outcome.next hu⟩
  case zero =>
    let rs := s.surf.retires.map fun c => { c with zeroing := c.zeroing.filter (· != frame.toNat) }
    refine ⟨{ s with dram := SMap.drop (fun a => a / frameBytes == frame.toNat) s.dram,
                     surf := { s.surf with zeroing := s.surf.zeroing.filter (· != frame.toNat),
                                           retires := rs.filter fun c => !(c.left.isEmpty && c.zeroing.isEmpty) } },
      rs, rfl, fun a => ?_, rfl, congrArg Host.Outcome.next ?_⟩
    · rw [State.dramByte, SMap.get_drop]
      simp only [beq_iff_eq]; rfl
    · rw [if_neg (by simpa using hz), State.fenceDone_eq]
      rfl

end Sys2Proof.Machine

/-! ### Writes of a queue's configuration (R42, R88) -/

namespace Sys2Proof.Machine

-- A proof that fills in an argument by its default tactic waits for all that stands before it: checked in order, none waits.
set_option Elab.async false

section
variable {s t : State}

/-! #### The queues -/

@[simp] theorem State.queue_setQueue_same (q : Nat) (h : QueueHid) : (s.setQueue q h).queue q = h := SMap.get_set_same _ _ _ _

theorem State.queue_setQueue_other {q k : Nat} (h : QueueHid) (hk : k ≠ q) : (s.setQueue q h).queue k = s.queue k :=
  SMap.get_set_other _ _ _ hk.symm

theorem clampPage_queue {q o : Nat} (hq : q < 8192) (ho : o < 0x20) : clampPage (0x100000 + 0x20 * q + o) = 0x11 := by
  rw [clampPage, if_neg (by omega), if_pos (by omega)]

theorem window_not_mem_clampRegs {k page : Nat} (hk : 0x100000 ≤ k) (hp : page < 0x100) : k ∉ clampRegs page := by
  simp only [clampRegs, List.mem_cons, List.not_mem_nil, or_false, R.CHIP_CLAMP_LOG_NEXT, R.CHIP_CLAMP_LOG_TOTAL]
  omega

/-! #### A write that enables a queue -/

/-- What a write of CFG to a queue that is not enabled makes of the word. -/
def enableChk (v : Word) : Chk := (⟨v &&& 0xA03F071F#32, false, false⟩ : Chk).clampTo 0 5 (max 4 (min 16 (bitsOf v 0 5)))

theorem bitsOf_enableChk (v : Word) {lo w : Nat} (h : 5 ≤ lo) (hm : ∀ i, i < w → (0xA03F071F#32).getLsbD (lo + i) = true) :
    bitsOf (enableChk v).new lo w = bitsOf v lo w :=
  (Chk.bitsOf_clampTo_other _ (.inl (by omega))).trans (bitsOf_and_mask v _ hm)

/-- The configuration word is written, and a clamp of it reported. -/
def State.cfgTaken (s : State) (q : Nat) (v : Word) : State :=
  let u := s.wr (0x100000 + 0x20 * q + 4 * 2) (enableChk v).new
  if (enableChk v).reports then u.clampReport none (enableChk v).kept (0x100000 + 0x20 * q + 4 * 2) v (enableChk v).new else u

/-- The pointers and the state of a queue that begins. -/
def State.queueRegsBegin (s : State) (q : Nat) : State :=
  (((s.setFld (F.QCTX_PTRS_HEAD q) 0).setFld (F.QCTX_PTRS_TAIL q) 0).setQState q qPARKED).setFld (F.QCTX_STATE_CAUSE q) 0

/-- A queue that begins holds nothing; the reads that it had made are stale. -/
def State.queueBegins (s : State) (q : Nat) : State :=
  let u := s.queueRegsBegin q
  u.setQueue q { QueueHid.init with stale := (u.queue q).stale + b2n (u.queue q).reading + (u.queue q).more }

/-- A descriptor of the queue that still runs is one from before. -/
def State.ageHome (s : State) (q : Nat) : State :=
  match s.cageOf (.queue q) with
  | some (n, c) => s.setCage n { c with home := c.home.map fun w => { w with anew := true } }
  | none => s

theorem queueCfgWrite_enable {q : Nat} {v : Word} (hen : s.qEnabled q = false) (hv : bitOf v 31 = true) :
    s.queueCfgWrite none q 2 v = ((s.cfgTaken q v).queueBegins q).ageHome q := by
  unfold State.queueCfgWrite
  dsimp only
  rw [hen, hv]
  rfl

theorem State.ageHome_frame (q : Nat) :
    s.ageHome q = { s with hoist := match s.cageOf (.queue q) with
      | some (n, c) => (s.setCage n { c with home := c.home.map fun w => { w with anew := true } }).hoist
      | none => s.hoist } := by
  unfold State.ageHome
  cases s.cageOf (.queue q) <;> rfl

theorem regsBut_cfgTaken {q : Nat} (hq : q < 8192) (v : Word) :
    RegsBut s (s.cfgTaken q v) ((0x100000 + 0x20 * q + 4 * 2) :: clampRegs 0x11) := by
  have hwr : RegsBut s (s.wr (0x100000 + 0x20 * q + 4 * 2) (enableChk v).new) ((0x100000 + 0x20 * q + 4 * 2) :: clampRegs 0x11) :=
    RegsBut.refl.wr (List.mem_cons_self ..)
  refine .ite (hwr.clampReportAt ?_) hwr
  rw [clampPage_queue hq (by decide)]
  exact fun k hk => List.mem_cons_of_mem _ hk

theorem State.rd_cfgTaken {q : Nat} (hq : q < 8192) (v : Word) :
    (s.cfgTaken q v).rd (0x100000 + 0x20 * q + 4 * 2) = (enableChk v).new := by
  unfold State.cfgTaken
  dsimp only
  split
  · rw [State.clampReport, clampPage_queue hq (by decide),
      State.rd_clampReportAt _ _ _ _ _ _ _ _ (window_not_mem_clampRegs (by omega) (by decide)), State.rd_wr_same]
  · rw [State.rd_wr_same]

theorem sameButLog_cfgTaken (q : Nat) (v : Word) : SameButLog s (s.cfgTaken q v) := by
  unfold State.cfgTaken
  dsimp only
  split
  · exact (sameButLog_wr s _ _).trans (sameButLog_clampReport _ _ _ _ _ _)
  · rfl

theorem regsBut_queueBegins (q : Nat) : RegsBut s (s.queueBegins q) [R.QCTX_PTRS q, R.QCTX_STATE q] := by
  unfold State.queueBegins State.queueRegsBegin State.setQState
  refine RegsBut.setQueue (RegsBut.setFld (RegsBut.setFld (RegsBut.setFld (RegsBut.setFld .refl ?_) ?_) ?_) ?_) <;> simp

theorem fld_queueBegins (q : Nat) (g : Fld) : (s.queueBegins q).fld g = (s.queueRegsBegin q).fld g := by
  unfold State.queueBegins
  dsimp only
  rw [State.fld_setQueue]

theorem queueBegins_flds (q : Nat) :
    (s.queueBegins q).qHead q = 0 ∧ (s.queueBegins q).fld (F.QCTX_PTRS_TAIL q) = 0 ∧
    (s.queueBegins q).qState q = qPARKED ∧ (s.queueBegins q).fld (F.QCTX_STATE_CAUSE q) = 0 := by
  rw [State.qHead, State.qState, fld_queueBegins, fld_queueBegins, fld_queueBegins, fld_queueBegins]
  unfold State.queueRegsBegin State.setQState
  refine ⟨?_, ?_, ?_, ?_⟩ <;> simp (disch := simp) only [State.fld_setFld_other, State.fld_setFld_same] <;> rfl

theorem queue_queueBegins_same (q : Nat) :
    ((s.queueBegins q).queue q).desc = none ∧ ((s.queueBegins q).queue q).reading = false := by
  unfold State.queueBegins
  simp only [State.queue_setQueue_same, QueueHid.init, and_self]

theorem queue_queueBegins_other {q k : Nat} (h : k ≠ q) : (s.queueBegins q).queue k = s.queue k := by
  unfold State.queueBegins
  dsimp only
  rw [State.queue_setQueue_other _ h]
  simp only [State.queue, State.queueRegsBegin, State.setQState, State.setFld_queues]

theorem frame_queueBegins (q : Nat) : Frame [.regs, .queues] s (s.queueBegins q) :=
  Frame.refl.setFld.setFld.setFld.setFld.setQueue

end

/-- A write of CFG that enables a queue. -/
theorem queueCfgWrite_enable_spec {s : State} {q : Nat} {v : Word} (hq : q < 8192) (hen : s.qEnabled q = false)
    (hv : bitOf v 31 = true) :
    Yields (.next (s.queueCfgWrite none q 2 v)) fun t =>
      t.qEnabled q = true ∧ t.qState q = qPARKED ∧ t.qHead q = 0 ∧
      t.fld (F.QCTX_PTRS_TAIL q) = 0 ∧ t.fld (F.QCTX_STATE_CAUSE q) = 0 ∧
      t.fld (F.QCTX_CFG_SIZE_LOG2 q) = max 4 (min 16 (bitsOf v 0 5)) ∧
      t.qRing q = bitsOf v 16 6 ∧ (t.queue q).desc = none ∧ (t.queue q).reading = false ∧
      (∀ k, k ≠ q → t.queue k = s.queue k) ∧
      (∀ k, (k < 0x100000 + 0x20 * q ∨ 0x100020 + 0x20 * q ≤ k) → k ∉ clampRegs 0x11 → t.rd k = s.rd k) ∧
      t.hoist = (match s.cageOf (.queue q) with
        | some (n, c) => (s.setCage n { c with home := c.home.map fun w => { w with anew := true } }).hoist
        | none => s.hoist) ∧
      t = { s with regs := t.regs, clampLog := t.clampLog, queues := t.queues, hoist := t.hoist } := by
  obtain ⟨u, hu⟩ : ∃ u, u = s.cfgTaken q v := ⟨_, rfl⟩
  obtain ⟨w, hw⟩ : ∃ w, w = u.queueBegins q := ⟨_, rfl⟩
  have hframeu : Frame [.regs, .clampLog] s u := by rw [hu]; exact Frame.refl.log (sameButLog_cfgTaken q v)
  have hframe : Frame [.regs, .clampLog, .queues] s w := by rw [hw]; exact (hframeu.mono (by decide)).then (frame_queueBegins q) (by decide)
  have hregs : RegsBut u w [R.QCTX_PTRS q, R.QCTX_STATE q] := hw ▸ regsBut_queueBegins q
  have hcfg (lo n : Nat) : w.fld ⟨R.QCTX_CFG q, lo, n⟩ = bitsOf (enableChk v).new lo n := by
    have hrd : u.rd (R.QCTX_CFG q) = (enableChk v).new := by
      rw [hu, ← State.rd_cfgTaken hq v, show R.QCTX_CFG q = 0x100000 + 0x20 * q + 4 * 2 by simp only [R.QCTX_CFG]; omega]
    rw [hregs.fld (by simp), State.fld, hrd]
  obtain ⟨hhead, htail, hstate, hcause⟩ := hw ▸ queueBegins_flds (s := u) q
  obtain ⟨hdesc, hreading⟩ := hw ▸ queue_queueBegins_same (s := u) q
  have hqueue (k : Nat) (hk : k ≠ q) : w.queue k = s.queue k := by
    rw [hw, queue_queueBegins_other hk, State.queue, hframeu.get State.queues, State.queue]
  rw [queueCfgWrite_enable hen hv, ← hu, ← hw, State.ageHome_frame]
  refine ⟨_, rfl, ?_, hstate, hhead, htail, hcause, ?_, ?_, hdesc, hreading, hqueue, fun k hk hc => ?_, ?_, ?_⟩
  · have : bitsOf (enableChk v).new 31 1 = 1 := by rw [bitsOf_enableChk v (by decide) (by decide)]; simpa [bitOf] using hv
    exact beq_iff_eq.mpr ((hcfg 31 1).trans this)
  · exact (hcfg 0 5).trans (Chk.bitsOf_clampTo_same _ (by decide) (by omega))
  · exact (hcfg 16 6).trans (bitsOf_enableChk v (by decide) (by decide))
  · have h1 : k ∉ [R.QCTX_PTRS q, R.QCTX_STATE q] := by simp only [R.QCTX_PTRS, R.QCTX_STATE, List.mem_cons, List.not_mem_nil, or_false]; omega
    have h2 : k ∉ (0x100000 + 0x20 * q + 4 * 2) :: clampRegs 0x11 := by rw [List.mem_cons, not_or]; exact ⟨by omega, hc⟩
    have h3 := regsBut_cfgTaken (s := s) hq v k h2
    rw [← hu] at h3
    exact (hregs k h1).trans h3
  · simp only [State.cageOf, State.setCage, hframe.get State.hoist]
  · exact (hframe.mono (q := [.regs, .clampLog, .queues]) (p := [.regs, .clampLog, .queues, .hoist]) (by decide)).then
      (q := [.hoist]) rfl (by decide)

/-- Settles O14: a write of CFG by `queueCfgWrite_enable_spec`, one of BASE by whether the queue is enabled. -/
theorem queueConfigurationAct : Obligations.QueueConfigurationAct := by
  refine ⟨fun s q v hs hen hv => ?enable, fun s q v hs => ?base⟩
  case enable =>
    obtain ⟨t, ht, hrest⟩ := queueCfgWrite_enable_spec q.isLt hen hv
    exact ⟨t, (congrArg Host.Outcome.next (hostWriteTo_of_serves s _ _ hs)).trans ht, hrest⟩
  case base =>
    have hexec : exec (.queueCfgWrite q 0 v) s = .next (s.queueCfgWrite none q.toNat 0 v) :=
      congrArg Host.Outcome.next (hostWriteTo_of_serves s _ _ hs)
    have hpage : clampPage (0x100000 + 0x20 * q.toNat) = 0x11 := clampPage_queue (o := 0) q.isLt (by decide)
    have hnot : 0x100000 + 0x20 * q.toNat ∉ clampRegs 0x11 := window_not_mem_clampRegs (by omega) (by decide)
    rw [hexec]
    refine ⟨fun hen => ?_, fun hen => ?_⟩
    · have hw : s.queueCfgWrite none q.toNat 0 v =
          if v = s.rd (0x100000 + 0x20 * q.toNat) then s
          else s.clampReport none true (0x100000 + 0x20 * q.toNat) v (s.rd (0x100000 + 0x20 * q.toNat)) := if_pos hen
      rw [hw]
      refine ⟨_, rfl, ?_⟩
      split
      · exact ⟨.refl, rfl, rfl⟩
      · refine ⟨RegsBut.refl.clampReportAt (hpage ▸ fun _ => id), sameButLog_clampReport s _ _ _ _ _, ?_⟩
        rw [State.clampReport, hpage]; exact s.fld_clampReportAt_count ..
    · obtain ⟨u, hu⟩ : ∃ u, u = s.wr (0x100000 + 0x20 * q.toNat) (v &&& 0xFFFFF000#32) := ⟨_, rfl⟩
      have hw : s.queueCfgWrite none q.toNat 0 v =
          if v &&& 0xFFFFF000#32 = v then u
          else u.clampReport none false (0x100000 + 0x20 * q.toNat) v (v &&& 0xFFFFF000#32) := by
        rw [hu]; exact if_neg (by rw [hen]; decide)
      have hrd : u.rd (0x100000 + 0x20 * q.toNat) = v &&& 0xFFFFF000#32 := by rw [hu, State.rd_wr_same]
      have hregs : RegsBut s u ((0x100000 + 0x20 * q.toNat) :: clampRegs 0x11) := hu ▸ RegsBut.refl.wr (List.mem_cons_self ..)
      have hlog : SameButLog s u := hu ▸ sameButLog_wr s _ _
      rw [hw]
      refine ⟨_, rfl, ?_⟩
      split
      · exact ⟨hrd, hregs, hlog⟩
      · refine ⟨?_, hregs.clampReportAt (hpage ▸ fun k hk => List.mem_cons_of_mem _ hk),
          hlog.trans (sameButLog_clampReport _ _ _ _ _ _)⟩
        rw [State.clampReport, hpage, State.rd_clampReportAt _ _ _ _ _ _ _ _ hnot, hrd]

end Sys2Proof.Machine

/-! ### The return of a descriptor read (R51 to R55, R60, R64, R69, R71) -/

namespace Sys2Proof.Machine

-- A proof that fills in an argument by its default tactic waits for all that stands before it: checked in order, none waits.
set_option Elab.async false

theorem SMap.erase_insertSorted {β : Type} (m : SMap β) (k : Nat) (v : β) : SMap.erase (SMap.insertSorted k v m) k = SMap.erase m k := by
  induction m with
  | nil => simp [SMap.insertSorted, SMap.erase]
  | cons e m ih =>
    obtain ⟨k', v'⟩ := e
    rw [SMap.insertSorted]
    split
    · simp [SMap.erase]
    · simp only [SMap.erase, ih]

theorem SMap.erase_erase {β : Type} (m : SMap β) (k : Nat) : SMap.erase (SMap.erase m k) k = SMap.erase m k := by
  simp [SMap.erase_eq_filter]

theorem SMap.set_set {β : Type} [DecidableEq β] (d : Nat → β) (m : SMap β) (k : Nat) (v w : β) :
    SMap.set d (SMap.set d m k v) k w = SMap.set d m k w := by
  have h : SMap.erase (SMap.set d m k v) k = SMap.erase m k := by
    unfold SMap.set SMap.insert
    split
    · exact SMap.erase_erase m k
    · rw [SMap.erase_insertSorted, SMap.erase_erase]
  conv_lhs => rw [SMap.set]
  rw [SMap.insert, h, SMap.set, SMap.insert]

section
variable {s t : State} {q : Nat}

@[simp] theorem State.setQueue_setQueue (h k : QueueHid) : (s.setQueue q h).setQueue q k = s.setQueue q k := by
  rw [State.setQueue, State.setQueue, State.setQueue]
  simp only [SMap.set_set]

theorem queue_noteRead (res : ReadRes) (k : Nat) : (s.noteRead res).queue k = s.queue k := by
  rw [State.queue, (Frame.refl.signals (p := [.regs, .sent, .pcie, .summaryOwed]) (sameButSignals_noteRead s res)).get State.queues,
    State.queue]

/-! #### Requests on the link -/

theorem Frame.request {p : List Part} (h : Frame p s t) {o : Out} (hp : ∀ x ∈ [Part.regs, .sent, .pcie], x ∈ p := by decide) :
    Frame p s (t.request o) := by
  refine h.then (q := [.regs, .sent, .pcie]) ?_ hp
  unfold State.request
  split
  · rfl
  · exact (Frame.refl.ite Frame.refl.setFld).emit

theorem Frame.hostReadReq {p : List Part} (h : Frame p s t) {a n : Nat}
    (hp : ∀ x ∈ [Part.regs, .sent, .pcie], x ∈ p := by decide) : Frame p s (t.hostReadReq a n) :=
  h.each fun _ _ _ h => h.request hp

theorem Frame.noteRead {p : List Part} (h : Frame p s t) {res : ReadRes}
    (hp : ∀ x ∈ [Part.regs, .sent, .pcie, .summaryOwed], x ∈ p := by decide) : Frame p s (t.noteRead res) :=
  h.signals (sameButSignals_noteRead t res) hp

theorem RegsBut.hostReadReq {l : List Nat} (h : RegsBut s t l) {a n : Nat} (hl : R.PCIEX_LINK_STATUS ∈ l := by simp) :
    RegsBut s (t.hostReadReq a n) l :=
  fun k hk => (t.rd_hostReadReq a n (ne_of_mem_of_not_mem hl hk).symm).trans (h k hk)

theorem RegsBut.each {α : Type} {l : List Nat} {xs : List α} {f : State → α → State} (h : RegsBut s t l)
    (hf : ∀ u x, RegsBut s u l → RegsBut s (f u x) l) : RegsBut s (t.each xs f) l := by
  induction xs generalizing t with
  | nil => exact h
  | cons x xs ih => exact ih (hf t x h)

theorem queue_hostReadReq (a n k : Nat) : (s.hostReadReq a n).queue k = s.queue k :=
  (Frame.refl (p := [.regs, .sent, .pcie])).hostReadReq.get (State.queue · k)

/-! #### Reading ahead -/

theorem State.readMore_spec (q : Nat) :
    (∃ m, (s.readMore q).queue q = { s.queue q with more := m }) ∧ (∀ k, k ≠ q → (s.readMore q).queue k = s.queue k) ∧
    RegsBut s (s.readMore q) [R.PCIEX_LINK_STATUS] ∧ Frame [.regs, .sent, .pcie, .queues] s (s.readMore q) := by
  unfold State.readMore
  dsimp only
  split
  · exact ⟨⟨_, rfl⟩, fun _ _ => rfl, .refl, .refl⟩
  · generalize hn : s.readSpan q - (1 + (s.queue q).ahead.length + (s.queue q).more) = n
    have hqueues (u : State) (xs : List Nat) (g : State → Nat → Nat) (k : Nat) :
        (u.each xs fun s i => s.hostReadReq (g s i) 32).queue k = u.queue k :=
      (Frame.refl (p := [.regs, .sent, .pcie])).each (fun _ _ _ h => h.hostReadReq) |>.get (State.queue · k)
    refine ⟨⟨(s.queue q).more + n, ?_⟩, fun k hk => ?_, ?_, ?_⟩
    · rw [hqueues, State.queue_setQueue_same]
    · rw [hqueues, State.queue_setQueue_other _ hk]
    · exact RegsBut.refl.setQueue.each fun _ _ h => h.hostReadReq
    · exact Frame.refl.setQueue.each fun _ _ _ h => h.hostReadReq

/-- The descriptor at HEAD is asked for. -/
def State.headAsked (s : State) (q : Nat) : State :=
  let u := s.setQState q qACTIVE
  let v := u.setQueue q { u.queue q with reading := true, noted := false, ended := false }
  v.hostReadReq (v.qAddr q) 32

theorem State.startRead_eq (q : Nat) : s.startRead q = (s.headAsked q).readMore q := rfl

theorem linkStatus_ne_queueState (q : Nat) : (F.QCTX_STATE_STATE q).off ∉ [R.PCIEX_LINK_STATUS] := by
  simp only [R.PCIEX_LINK_STATUS, List.mem_singleton]; omega

theorem State.headAsked_spec (q : Nat) :
    (s.headAsked q).qState q = qACTIVE ∧
    (s.headAsked q).queue q = { s.queue q with reading := true, noted := false, ended := false } ∧
    (∀ k, k ≠ q → (s.headAsked q).queue k = s.queue k) ∧
    RegsBut s (s.headAsked q) [R.QCTX_STATE q, R.PCIEX_LINK_STATUS] ∧
    Frame [.regs, .sent, .pcie, .queues] s (s.headAsked q) := by
  refine ⟨?_, ?_, fun k hk => ?_, RegsBut.refl.setFld.setQueue.hostReadReq, Frame.refl.setFld.setQueue.hostReadReq⟩
  · have h : RegsBut (s.setQState q qACTIVE) (s.headAsked q) [R.PCIEX_LINK_STATUS] := RegsBut.refl.setQueue.hostReadReq
    rw [State.qState, h.fld (linkStatus_ne_queueState q), State.setQState, State.fld_setFld_same _ _ _ (by simp)]
    rfl
  · unfold State.headAsked
    dsimp only
    rw [queue_hostReadReq, State.queue_setQueue_same]; rfl
  · unfold State.headAsked
    dsimp only
    rw [queue_hostReadReq, State.queue_setQueue_other _ hk]; rfl

theorem State.startRead_spec (q : Nat) :
    (s.startRead q).qState q = qACTIVE ∧ ((s.startRead q).queue q).reading = true ∧ ((s.startRead q).queue q).noted = false ∧
    (∀ k, k ≠ q → (s.startRead q).queue k = s.queue k) ∧
    RegsBut s (s.startRead q) [R.QCTX_STATE q, R.PCIEX_LINK_STATUS] ∧
    Frame [.regs, .sent, .pcie, .queues] s (s.startRead q) := by
  obtain ⟨hst, hq, hk, hr, hf⟩ := s.headAsked_spec q
  obtain ⟨⟨m, hm⟩, hother, hregs, hframe⟩ := (s.headAsked q).readMore_spec q
  rw [State.startRead_eq]
  refine ⟨?_, by rw [hm, hq], by rw [hm, hq], fun k hne => (hother k hne).trans (hk k hne),
    fun k hne => (hregs k fun h => hne (by simp_all)).trans (hr k hne), hf.trans hframe⟩
  rw [State.qState, hregs.fld (linkStatus_ne_queueState q)]; exact hst

/-! #### The return -/

/-- The read of the descriptor at HEAD is over. -/
def State.readOver (s : State) (q : Nat) (res : ReadRes) : State :=
  (s.noteRead res).setQueue q { s.queue q with reading := false }

section
variable (hstale : (s.queue q).stale = 0)
include hstale

theorem descFetched_ahead (hreading : (s.queue q).reading = false) (res : ReadRes) :
    s.descFetched q res = if (s.queue q).more = 0 then s.noteRead res else (s.noteRead res).aheadFetched q res := by
  have h1 : ¬0 < (s.queue q).stale := by omega
  have h2 : (!(s.queue q).reading) = true := by simp [hreading]
  unfold State.descFetched
  dsimp only
  rw [if_neg h1, if_pos h2]

variable (hreading : (s.queue q).reading = true)
include hreading

theorem descFetched_data (bs : List Byte) :
    s.descFetched q (.data bs) =
      if !(descOf bs).own then
        (if (s.queue q).noted then ((s.readOver q (.data bs)).dropReads q).startRead q
         else ((s.readOver q (.data bs)).dropReads q).setQState q qPARKED)
      else (headGo headFuel ((s.readOver q (.data bs)).setQueue q { (s.readOver q (.data bs)).queue q with ahead := [descOf bs] })
          q).assign := by
  have h1 : ¬0 < (s.queue q).stale := by omega
  have h2 : ¬(!(s.queue q).reading) = true := by simp [hreading]
  unfold State.descFetched
  dsimp only
  rw [if_neg h1, if_neg h2]
  rfl

theorem descFetched_failed (timeout : Bool) :
    s.descFetched q (if timeout then .timeout else .error) =
      let u := (s.readOver q (if timeout then .timeout else .error)).dropReads q
      let v := (((u.setQState q qERROR).setFld (F.QCTX_STATE_CAUSE q) (if timeout then 2 else 1)).setFld
        F.QMGR_ERR_QUEUE_QUEUE q).raise 0x11 0
      v.postR (v.qRing q) false (mkEv 0x0002 [(13, q), (8, if timeout then 2 else 1), (16, v.qHead q)]) := by
  have h1 : ¬0 < (s.queue q).stale := by omega
  have h2 : ¬(!(s.queue q).reading) = true := by simp [hreading]
  cases timeout
  all_goals
    unfold State.descFetched
    dsimp only
    rw [if_neg h1, if_neg h2]
    rfl

end

theorem queue_readOver_same (res : ReadRes) : (s.readOver q res).queue q = { s.queue q with reading := false } :=
  State.queue_setQueue_same _ _

theorem queue_readOver_other (res : ReadRes) {k : Nat} (h : k ≠ q) : (s.readOver q res).queue k = s.queue k :=
  (State.queue_setQueue_other _ h).trans (queue_noteRead res k)

theorem queue_dropReads_same : (s.dropReads q).queue q = { s.queue q with more := 0, stale := (s.queue q).stale + (s.queue q).more } :=
  State.queue_setQueue_same _ _

theorem queue_dropReads_other {k : Nat} (h : k ≠ q) : (s.dropReads q).queue k = s.queue k := State.queue_setQueue_other _ h

end

/-- `State.noteRead`, which counts a timeout. -/
theorem noteRead_timeout (s : State) :
    ∃ u : State, s.noteRead .timeout = u.aerUncorr 14 ∧ s.noteRead .error = s ∧
      u.fld F.PCIEX_CPL_TIMEOUTS_COUNT = min (s.fld F.PCIEX_CPL_TIMEOUTS_COUNT + 1) (2 ^ 32 - 1) ∧
      RegsBut s u [R.PCIEX_CPL_TIMEOUTS] ∧ SameButRegs s u :=
  ⟨s.bump F.PCIEX_CPL_TIMEOUTS_COUNT, rfl, rfl, s.fld_bump_same _ 1 (by decide), regsBut_bump s _ 1, sameButRegs_bump s _ 1⟩

theorem regsBut_noteRead (s : State) (res : ReadRes) : RegsBut s (s.noteRead res) [R.PCIEX_CPL_TIMEOUTS] := by
  cases res with
  | timeout => exact fun k hk => (State.rd_aerUncorr ..).trans (regsBut_bump s F.PCIEX_CPL_TIMEOUTS_COUNT 1 k hk)
  | _ => exact .refl

/-- A write of an event leaves the registers that no event of its ring changes. -/
theorem RegsBut.postR {s t : State} {l : List Nat} (h : RegsBut s t l) (r : Nat) (b : Bool) (e : Ev) :
    RegsButEvents r s (t.postR r b e) l := fun k hk he => (t.rd_postR r b e k he).trans (h k hk)

theorem State.fld_raise_of_ne (s : State) {p b : Nat} {g : Fld} (h : p * 0x1000 + 0x0C ≠ g.off := by simp) :
    (s.raise p b).fld g = s.fld g := s.fld_raise_other p b g h

section
variable {s : State} {q : Nat} (hq : q < 8192) (cause : Nat)

/-- The queue is in ERROR, before the event. -/
def State.queueFails (s : State) (q cause : Nat) : State :=
  (((s.setQState q qERROR).setFld (F.QCTX_STATE_CAUSE q) cause).setFld F.QMGR_ERR_QUEUE_QUEUE q).raise 0x11 0

include hq in
theorem queueFails_flds (hc : cause < 256) :
    (s.queueFails q cause).qState q = qERROR ∧ (s.queueFails q cause).fld (F.QCTX_STATE_CAUSE q) = cause ∧
    (s.queueFails q cause).fld F.QMGR_ERR_QUEUE_QUEUE = q ∧ (s.queueFails q cause).qRing q = s.qRing q := by
  have h1 : (F.QCTX_STATE_CAUSE q).off ≠ (F.QMGR_ERR_QUEUE_QUEUE).off := by simp only [ne_eq]; omega
  have h2 : 0x11 * 0x1000 + 0x0C ≠ (F.QCTX_STATE_CAUSE q).off := by simp only [ne_eq]; omega
  have h3 : (F.QCTX_STATE_STATE q).off ≠ (F.QMGR_ERR_QUEUE_QUEUE).off := by simp only [ne_eq]; omega
  unfold State.queueFails State.qState State.qRing State.setQState
  refine ⟨?_, ?_, ?_, ?_⟩
  · rw [State.fld_raise_other _ _ _ _ (by simp only [ne_eq]; omega), State.fld_setFld_other _ _ _ _ (.inl h3.symm),
      State.fld_setFld_other _ _ _ _ (by simp), State.fld_setFld_same _ _ _ (by simp)]; rfl
  · rw [State.fld_raise_other _ _ _ _ h2, State.fld_setFld_other _ _ _ _ (.inl h1.symm), State.fld_setFld_same _ _ _ (by simp)]
    exact Nat.mod_eq_of_lt hc
  · rw [State.fld_raise_other _ _ _ _ (by simp), State.fld_setFld_same _ _ _ (by simp)]
    exact Nat.mod_eq_of_lt hq
  · rw [State.fld_raise_other _ _ _ _ (by simp only [ne_eq]; omega), State.fld_setFld_other _ _ _ _ (.inl (by simp only [ne_eq]; omega)),
      State.fld_setFld_other _ _ _ _ (by simp), State.fld_setFld_other _ _ _ _ (by simp)]

end

/-- HEAD reaches a descriptor that was read ahead. -/
theorem headGo_ahead {s : State} {q fuel : Nat} {d : Desc} {rest : List Desc} (h : (s.queue q).ahead = d :: rest) :
    headGo (fuel + 1) s q =
      let u := (s.setQueue q { s.queue q with desc := some d, ahead := rest }).readMore q
      if !d.inTxn then u.grant q
      else
        match u.holdHead q d with
        | some t => t
        | none =>
          let x := u.completeHead q stREFUSED d.len.toNat
          if x.bit (F.QCTX_CFG_STOP_ON_ERR q) then x.halt q .stop 2 else headGo fuel x q := by
  rw [headGo]
  split
  · next d' rest' h' =>
    obtain ⟨rfl, rfl⟩ := List.cons.inj (h.symm.trans h')
    rfl
  · next h' => exact absurd (h.symm.trans h') (by simp)

theorem eventReg_queueState (r q : Nat) (hq : q < 8192) : eventReg r (R.QCTX_STATE q) = false := by
  simp only [eventReg, R.PCIEX_LINK_STATUS, R.EVT_LOST_TOTAL, Bool.or_eq_false_iff, Bool.and_eq_false_iff,
    decide_eq_false_iff_not, beq_eq_false_iff_ne, R.QCTX_STATE]
  omega

section
variable {s : State} {q : Nat} (hstale : (s.queue q).stale = 0) (hreading : (s.queue q).reading = true)
include hstale hreading

theorem descFetched_own (bs : List Byte) (hown : (descOf bs).own = true) :
    ∃ u w : State, s.descFetched q (.data bs) = w.assign ∧
      (u.queue q).desc = some (descOf bs) ∧ (u.queue q).reading = false ∧
      (∀ k, k ≠ q → u.queue k = s.queue k) ∧ RegsBut s u [R.PCIEX_LINK_STATUS] ∧
      u = { s with regs := u.regs, queues := u.queues, sent := u.sent, pcie := u.pcie } ∧
      ((descOf bs).inTxn = false → w = u.grant q) ∧
      ((descOf bs).inTxn = true →
        match u.holdHead q (descOf bs) with
        | some x => w = x
        | none => ∃ x, x = u.completeHead q stREFUSED (descOf bs).len.toNat ∧
            w = if x.bit (F.QCTX_CFG_STOP_ON_ERR q) then x.halt q .stop 2 else headGo 8 x q) := by
  obtain ⟨x, hx⟩ : ∃ x, x = (s.readOver q (.data bs)).setQueue q
    { (s.readOver q (.data bs)).queue q with ahead := [descOf bs] } := ⟨_, rfl⟩
  have hxq : x.queue q = { s.queue q with reading := false, ahead := [descOf bs] } := by
    rw [hx, State.queue_setQueue_same, queue_readOver_same]
  have hxk (k : Nat) (hk : k ≠ q) : x.queue k = s.queue k := by
    rw [hx, State.queue_setQueue_other _ hk, queue_readOver_other _ hk]
  have hxf : Frame [.regs, .sent, .pcie, .queues] s x := by
    rw [hx]; exact (Frame.refl (s := s)).setQueue.setQueue
  have hxr : RegsBut s x [R.PCIEX_LINK_STATUS] := by rw [hx]; exact (RegsBut.refl (s := s)).setQueue.setQueue
  obtain ⟨y, hy⟩ : ∃ y, y = x.setQueue q { x.queue q with desc := some (descOf bs), ahead := [] } := ⟨_, rfl⟩
  obtain ⟨⟨m, hm⟩, hk, hr, hf⟩ := y.readMore_spec q
  have hyq : y.queue q = { s.queue q with reading := false, desc := some (descOf bs), ahead := [] } := by
    rw [hy, State.queue_setQueue_same, hxq]
  have hgo := headGo_ahead (fuel := 8) (s := x) (q := q) (d := descOf bs) (rest := []) (by rw [hxq])
  have hdata := descFetched_data hstale hreading bs
  rw [if_neg (by simp [hown]), ← hx, hgo, ← hy] at hdata
  refine ⟨y.readMore q, _, hdata, by rw [hm, hyq], by rw [hm, hyq], fun k hne => ?_, fun k hne => ?_, ?_, fun ht => ?_,
    fun ht => ?_⟩
  · rw [hk k hne, hy, State.queue_setQueue_other _ hne, hxk k hne]
  · rw [hr k hne, hy]; exact hxr k hne
  · have hxy : Frame [.regs, .sent, .pcie, .queues] s y := by rw [hy]; exact hxf.setQueue
    exact hxy.trans hf
  · exact if_pos (by simp [ht])
  · dsimp only
    rw [if_neg (by simp [ht])]
    cases (y.readMore q).holdHead q (descOf bs) with
    | some z => rfl
    | none => exact ⟨_, rfl, rfl⟩

theorem descFetched_error (hq : q < 8192) (timeout : Bool) :
    Yields (.next (s.descFetched q (if timeout then .timeout else .error))) fun t =>
      t.qState q = qERROR ∧ t.fld (F.QCTX_STATE_CAUSE q) = (if timeout then 2 else 1) ∧
      t.fld F.QMGR_ERR_QUEUE_QUEUE = q ∧ (t.queue q).reading = false ∧ (∀ k, k ≠ q → t.queue k = s.queue k) ∧
      RegsButEvents (s.qRing q) s t [R.QCTX_STATE q, R.QMGR_ERR_QUEUE, R.PCIEX_CPL_TIMEOUTS] ∧
      t = { s with regs := t.regs, queues := t.queues, rings := t.rings, sent := t.sent, pcie := t.pcie,
                   summaryOwed := t.summaryOwed } := by
  rw [descFetched_failed hstale hreading timeout]
  dsimp only
  obtain ⟨res, hres⟩ : ∃ res : ReadRes, res = if timeout then .timeout else .error := ⟨_, rfl⟩
  obtain ⟨cause, hcause⟩ : ∃ c, c = if timeout then 2 else 1 := ⟨_, rfl⟩
  have hc : cause < 256 := by rw [hcause]; split <;> decide
  rw [← hres, ← hcause]
  obtain ⟨u, hu⟩ : ∃ u, u = (s.readOver q res).dropReads q := ⟨_, rfl⟩
  rw [← hu, show (((u.setQState q qERROR).setFld (F.QCTX_STATE_CAUSE q) cause).setFld F.QMGR_ERR_QUEUE_QUEUE q).raise 0x11 0 =
    u.queueFails q cause from rfl]
  obtain ⟨hst, hcs, hid, hring⟩ := queueFails_flds (s := u) hq cause hc
  have hregs : RegsBut s u [R.PCIEX_CPL_TIMEOUTS] := by rw [hu]; exact (regsBut_noteRead s res).setQueue.setQueue
  have huring : u.qRing q = s.qRing q := hregs.fld (by simp only [R.PCIEX_CPL_TIMEOUTS, List.mem_singleton]; omega)
  have hframe : Frame [.regs, .queues, .rings, .sent, .pcie, .summaryOwed] s u := by
    rw [hu]; exact Frame.refl.noteRead.setQueue.setQueue
  have hfails : Frame [.regs, .rings, .sent, .pcie, .summaryOwed] u (u.queueFails q cause) := Frame.refl.setFld.setFld.setFld.raise
  rw [hring, huring]
  obtain ⟨t, ht⟩ : ∃ t, t = (u.queueFails q cause).postR (s.qRing q) false
    (mkEv 0x0002 [(13, q), (8, cause), (16, (u.queueFails q cause).qHead q)]) := ⟨_, rfl⟩
  have hpost : Frame [.regs, .rings, .sent, .pcie, .summaryOwed] u t := by rw [ht]; exact hfails.postR
  have hrd (k : Nat) (hk : eventReg (s.qRing q) k = false) : t.rd k = (u.queueFails q cause).rd k := by
    rw [ht]; exact State.rd_postR _ _ _ _ _ hk
  have hqueue (k : Nat) : t.queue k = u.queue k := hpost.get (State.queue · k)
  have hstate := hrd _ (eventReg_queueState (s.qRing q) q hq)
  refine ⟨t, by rw [ht], ?_, ?_, ?_, ?_, fun k hk => ?_, fun k hk he => ?_, hframe.then hpost (by decide)⟩
  · rw [← hst, State.qState, State.qState, State.fld, State.fld, hstate]
  · rw [← hcs, State.fld, State.fld, hstate]
  · rw [← hid, State.fld, State.fld, hrd]
    simp only [eventReg, Bool.or_eq_false_iff, R.PCIEX_LINK_STATUS, R.EVT_LOST_TOTAL]
    simp; omega
  · rw [hqueue, hu, queue_dropReads_same, queue_readOver_same]
  · rw [hqueue, hu, queue_dropReads_other hk, queue_readOver_other _ hk]
  · have h1 : RegsBut u (((u.setQState q qERROR).setFld (F.QCTX_STATE_CAUSE q) cause).setFld F.QMGR_ERR_QUEUE_QUEUE q)
        [R.QCTX_STATE q, R.QMGR_ERR_QUEUE, R.PCIEX_CPL_TIMEOUTS] := RegsBut.refl.setFld.setFld.setFld
    rw [hrd k he, State.queueFails, State.rd_raise_event _ _ _ _ _ (by decide) he, h1 k hk]
    exact hregs k fun h => hk (by simp_all)

end

/-- Settles O16: what the read that returns is of decides, and then what it brings. -/
theorem descriptorReadReturns : Obligations.DescriptorReadReturns := by
  intro s q
  refine ⟨fun hstale res => congrArg Host.Outcome.next ?stale, fun h u hh hu hstale hreading => ⟨fun hmore res => ?none, fun hmore => ?ahead⟩,
    noteRead_timeout s, fun hstale hreading => ⟨fun bs hown hnoted => ?park, fun bs hown hnoted => ?again,
      fun bs hown => ?own, fun timeout => descFetched_error hstale hreading q.isLt timeout⟩⟩
  case stale => exact if_pos hstale
  case none =>
    subst hh
    exact congrArg Host.Outcome.next ((descFetched_ahead hstale hreading res).trans (if_pos hmore))
  case ahead =>
    subst hh hu
    have hexec (res : ReadRes) : exec (.descFetchDone q res) s = .next ((s.noteRead res).aheadFetched q.toNat res) :=
      congrArg Host.Outcome.next ((descFetched_ahead hstale hreading res).trans (if_neg hmore))
    refine ⟨fun bs hown => ?_, fun bs hown => ?_, fun res hres => ?_⟩
    · rw [hexec]
      simp only [State.aheadFetched, hown, reduceIte]; rfl
    · rw [hexec]
      simp only [State.aheadFetched, hown, State.dropReads, State.setQueue_setQueue, State.queue_setQueue_same, Bool.false_eq_true,
        reduceIte, State.noteRead, hstale, Nat.zero_add]
    · rw [hexec]
      rcases hres with rfl | rfl
      all_goals
        simp only [State.aheadFetched, State.dropReads, State.setQueue_setQueue, State.queue_setQueue_same, queue_noteRead, hstale,
          Nat.zero_add]
  case park =>
    obtain ⟨x, hx⟩ : ∃ x, x = (s.readOver q.toNat (.data bs)).dropReads q.toNat := ⟨_, rfl⟩
    have hdata := descFetched_data hstale hreading bs
    rw [if_pos (by simp [hown]), if_neg (by simp [hnoted]), ← hx] at hdata
    have hframe : Frame [.regs, .queues] s x := by rw [hx]; exact (Frame.refl (s := s)).setQueue.setQueue
    have hregs : RegsBut s x [R.QCTX_STATE q.toNat] := by rw [hx]; exact (RegsBut.refl (s := s)).setQueue.setQueue
    refine ⟨x.setQState q.toNat qPARKED, congrArg Host.Outcome.next hdata, State.fld_setFld_same _ _ _ (by simp), ?_,
      fun k hk => ?_, hregs.setFld, hframe.setFld⟩
    · rw [State.setQState, State.queue, State.setFld_queues, ← State.queue, hx, queue_dropReads_same, queue_readOver_same]
    · rw [State.setQState, State.queue, State.setFld_queues, ← State.queue, hx, queue_dropReads_other hk,
        queue_readOver_other _ hk]
  case again =>
    obtain ⟨x, hx⟩ : ∃ x, x = (s.readOver q.toNat (.data bs)).dropReads q.toNat := ⟨_, rfl⟩
    have hdata := descFetched_data hstale hreading bs
    rw [if_pos (by simp [hown]), if_pos hnoted, ← hx] at hdata
    have hframe : Frame [.regs, .sent, .pcie, .queues] s x := by rw [hx]; exact (Frame.refl (s := s)).setQueue.setQueue
    have hregs : RegsBut s x [] := by rw [hx]; exact (RegsBut.refl (s := s)).setQueue.setQueue
    obtain ⟨hst, hrd, hno, hk, hr, hf⟩ := x.startRead_spec q.toNat
    refine ⟨_, congrArg Host.Outcome.next hdata, hst, hrd, hno, fun k hne => ?_, fun k hne => ?_, hframe.trans hf⟩
    · rw [hk k hne, hx, queue_dropReads_other hne, queue_readOver_other _ hne]
    · exact (hr k hne).trans (hregs k List.not_mem_nil)
  case own =>
    obtain ⟨u, w, hw, hrest⟩ := descFetched_own hstale hreading bs hown
    exact ⟨u, w, congrArg Host.Outcome.next hw, hrest⟩

end Sys2Proof.Machine

/-! ### Transfers that need no data (R46 to R49, R57, R59) -/

namespace Sys2Proof.Machine

-- A proof that fills in an argument by its default tactic waits for all that stands before it: checked in order, none waits.
set_option Elab.async false

section
variable {s : State} {n : Nat} {c : Cage}

@[simp] theorem State.cage?_setCage_same (d : Cage) : (s.setCage n d).cage? n = some d := by
  rw [State.cage?, State.setCage, SMap.find?_insert, if_pos rfl]

theorem State.cage?_setCage_other (d : Cage) {m : Nat} (h : m ≠ n) : (s.setCage n d).cage? m = s.cage? m := by
  rw [State.cage?, State.setCage, SMap.find?_insert, if_neg h.symm, State.cage?]

theorem State.onStart_eq {ty : Nat} (hc : s.cage? n = some c) (hp : c.phase = .start) (hty : c.desc.ty = ty) (f : Cage → State) :
    s.onStart n ty f = f c := by
  simp only [State.onStart, hc, hp, hty, decide_true, Bool.and_self, reduceIte]

theorem State.sent_request {o : Out} (h : s.pcie.d3hot = false) : (s.request o).sent = o :: s.sent := by
  simp only [State.request, h, Bool.false_eq_true, reduceIte]
  split <;> rfl

theorem State.fenceWrite_spec :
    (s.fenceWrite n c).cage? n = some { c with phase := .done stOK 0 } ∧
    (∀ m, m ≠ n → (s.fenceWrite n c).cage? m = s.cage? m) ∧
    (c.desc.dst ≠ 0 → s.pcie.d3hot = false →
      (s.fenceWrite n c).sent = .hostWrite c.desc.dst.toNat (leBytes 4 c.desc.param.toNat) false false :: s.sent) ∧
    (c.desc.dst = 0 → (s.fenceWrite n c).sent = s.sent) ∧ RegsBut s (s.fenceWrite n c) [R.PCIEX_LINK_STATUS] ∧
    s.fenceWrite n c = { s with regs := (s.fenceWrite n c).regs, sent := (s.fenceWrite n c).sent, pcie := (s.fenceWrite n c).pcie,
                                hoist := { s.hoist with cages := (s.fenceWrite n c).hoist.cages } } := by
  obtain ⟨x, hx⟩ : ∃ x, x = if c.desc.dst = 0 then s else s.hostCtl c.desc.dst.toNat (leBytes 4 c.desc.param.toNat) := ⟨_, rfl⟩
  have hframe : Frame [.regs, .sent, .pcie] s x := by rw [hx]; exact Frame.refl.ite Frame.refl.request
  have hregs : RegsBut s x [R.PCIEX_LINK_STATUS] := by
    rw [hx]
    exact RegsBut.refl.ite fun k hk => State.rd_hostCtl _ _ _ (by simpa using hk)
  have hw : s.fenceWrite n c = x.setCage n { c with phase := .done stOK 0 } := by rw [hx]; rfl
  obtain ⟨r, sent, pcie, hform⟩ : ∃ r sent pcie, x = { s with regs := r, sent := sent, pcie := pcie } :=
    ⟨x.regs, x.sent, x.pcie, hframe⟩
  rw [hw]
  refine ⟨State.cage?_setCage_same _, fun m hm => (State.cage?_setCage_other _ hm).trans (by rw [hform]; rfl), fun hd hd3 => ?_,
    fun hd => ?_, hregs.setCage, by rw [hform]; rfl⟩
  · rw [State.setCage_sent, hx, if_neg hd]; exact State.sent_request hd3
  · rw [State.setCage_sent, hx, if_pos hd]

end

/-- Settles O17: each command of a cage at its start is a case of what the descriptor holds. -/
theorem datalessDescriptorsComplete : Obligations.DatalessDescriptorsComplete := by
  intro s n c hc hp
  refine ⟨fun hty => ?nop, fun hty => ?fence, fun hty bad hbad => ?copy⟩
  case nop =>
    refine ⟨_, congrArg Host.Outcome.next (State.onStart_eq hc hp hty _), ?_⟩
    cases c.desc.srcHost || c.desc.dstHost <;> rfl
  case fence =>
    have hexec : exec (.descFence n) s = .next
        (if c.desc.srcHost || (c.desc.dst != 0 && !c.desc.dstHost) then s.finish n.toNat c stREFUSED c.desc.len.toNat
         else if c.desc.tflags % 2 = 1 && c.relFrame = s.rd R.SCAN_FRAME_SEQ then
           s.setCage n.toNat { c with phase := .waitLatch }
         else s.fenceWrite n.toNat c) := congrArg Host.Outcome.next (State.onStart_eq hc hp hty _)
    rw [hexec]
    refine ⟨fun hbad => congrArg _ (if_pos ?_), fun hsrc hdst => ⟨fun hwait hframe => ?_, fun hgo => ?_⟩⟩
    · rcases hbad with h | ⟨h1, h2⟩
      · rw [h, Bool.true_or]
      · simp [h2]; exact .inr h1
    all_goals
      have hok : ¬(c.desc.srcHost || (c.desc.dst != 0 && !c.desc.dstHost)) = true := by
        rcases hdst with h | h <;> simp [hsrc, h]
      rw [if_neg hok]
    · rw [if_pos (by simp [hwait, hframe])]
    · rw [if_neg (by rcases hgo with h | h <;> simp [h])]
      exact ⟨_, rfl, State.fenceWrite_spec⟩
  case copy =>
    have hexec : exec (.descCopy n) s = .next (s.descCopy n.toNat c) := congrArg Host.Outcome.next (State.onStart_eq hc hp hty _)
    rw [hexec]
    refine ⟨fun h => congrArg _ (if_pos (hbad ▸ h)), fun h hlen => congrArg _ ((if_neg ?_).trans (if_pos (by simp [hlen])))⟩
    rw [← hbad, h]; decide

/-! ### Protected copies and bursts (R56 to R58, R61, R64) -/

section
variable {s : State} {n : Nat} {c : Cage}

theorem fixedUnit_pos (d : Desc) : 0 < fixedUnit d := by unfold fixedUnit; positivity

theorem State.descCopy_eq (h1 : (c.desc.srcHost && c.desc.dstHost) = false) (h2 : c.desc.tflags % 8 < 5)
    (h3 : c.desc.srcFixed = true → c.src % fixedUnit c.desc = 0) (h4 : c.desc.dstFixed = true → c.dst % fixedUnit c.desc = 0)
    (h5 : c.desc.len ≠ 0) {prot : Bool} {d : Cage}
    (hprot : prot = (!c.desc.srcHost && s.srcProtected c.src (if c.desc.srcFixed then fixedUnit c.desc else c.desc.len.toNat) &&
       (c.desc.dstHost || !s.dstAllProtected c.dst (if c.desc.dstFixed then fixedUnit c.desc else c.desc.len.toNat))))
    (hrest : d.rest = (if c.desc.srcFixed || c.desc.dstFixed then c.desc.len.toNat % fixedUnit c.desc else 0))
    (hd : d = { c with rest := d.rest, left := c.desc.len.toNat - d.rest }) :
    s.descCopy n c =
      if prot then s.finish n c stPROTECTED c.desc.len.toNat
      else if d.left = 0 then s.finish n d stCLAMPED d.rest else s.startBurst n d := by
  have hbad : ¬((c.desc.srcHost && c.desc.dstHost) || 5 ≤ c.desc.tflags % 8 ||
      (c.desc.srcFixed && c.src % fixedUnit c.desc != 0) || (c.desc.dstFixed && c.dst % fixedUnit c.desc != 0)) = true := by
    have h2' : decide (5 ≤ c.desc.tflags % 8) = false := by simpa using h2
    have h3' : (c.desc.srcFixed && c.src % fixedUnit c.desc != 0) = false := by
      cases h : c.desc.srcFixed
      · rfl
      · simp [h3 h]
    have h4' : (c.desc.dstFixed && c.dst % fixedUnit c.desc != 0) = false := by
      cases h : c.desc.dstFixed
      · rfl
      · simp [h4 h]
    rw [h1, h2', h3', h4']; decide
  have hlen : ¬c.desc.len.toNat = 0 := fun h => h5 (BitVec.eq_of_toNat_eq h)
  have hcage (r : Nat) (hr : r = d.rest) : ({ c with left := c.desc.len.toNat - r, rest := r } : Cage) = d := by
    rw [hr]; exact hd.symm
  unfold State.descCopy
  dsimp only
  rw [if_neg hbad, if_neg hlen, ← hprot, ← hrest]
  have hgo (e : Cage) (he : e = d) : (if e.left = 0 then s.finish n e stCLAMPED d.rest else s.startBurst n e) =
      if d.left = 0 then s.finish n d stCLAMPED d.rest else s.startBurst n d := by rw [he]
  exact congrArg (fun t => if prot = true then s.finish n c stPROTECTED c.desc.len.toNat else t) (hgo _ (hcage _ rfl))

/-- The state once a burst is over, before its data are looked at. -/
theorem State.burstEnd_spec (lost waits : Nat) :
    SMap.find? (s.burstEnd n c lost waits).hoist.lastBurst (s.cagePrio c) = some n ∧
    (∀ p, p ≠ s.cagePrio c → SMap.find? (s.burstEnd n c lost waits).hoist.lastBurst p = SMap.find? s.hoist.lastBurst p) ∧
    (s.burstEnd n c lost waits).fld F.HOIST_PREEMPTS_COUNT =
      (if s.bit F.HOIST_ARB_ARB_MODE then s.fld F.HOIST_PREEMPTS_COUNT
       else min (s.fld F.HOIST_PREEMPTS_COUNT + lost) (2 ^ 32 - 1)) ∧
    RegsBut s (s.burstEnd n c lost waits) [R.HOIST_PREEMPTS, R.SRAMC_SP_STALLS] ∧
    ∃ r, s.burstEnd n c lost waits =
      { s with regs := r, hoist := { s.hoist with lastBurst := SMap.insert s.hoist.lastBurst (s.cagePrio c) n } } := by
  obtain ⟨x, hx⟩ : ∃ x : State, x =
    { s with hoist := { s.hoist with lastBurst := SMap.insert s.hoist.lastBurst (s.cagePrio c) n } } := ⟨_, rfl⟩
  obtain ⟨y, hy⟩ : ∃ y, y = if x.bit F.HOIST_ARB_ARB_MODE then x else x.bump F.HOIST_PREEMPTS_COUNT lost := ⟨_, rfl⟩
  have hxregs : x.regs = s.regs := by rw [hx]
  have hxrd (k : Nat) : x.rd k = s.rd k := by rw [State.rd, hxregs, State.rd]
  have hxfld (g : Fld) : x.fld g = s.fld g := by rw [State.fld, hxrd, State.fld]
  have hyc : y.fld F.HOIST_PREEMPTS_COUNT = (if s.bit F.HOIST_ARB_ARB_MODE then s.fld F.HOIST_PREEMPTS_COUNT
       else min (s.fld F.HOIST_PREEMPTS_COUNT + lost) (2 ^ 32 - 1)) := by
    rw [hy, State.bit, hxfld, ← State.bit]
    split
    · exact hxfld _
    · rw [State.fld_bump_same _ _ _ (by decide), hxfld]
  have hyr : RegsBut x y [R.HOIST_PREEMPTS, R.SRAMC_SP_STALLS] := hy ▸ RegsBut.refl.ite RegsBut.refl.bump
  have hyf : Frame [.regs] x y := hy ▸ Frame.refl.ite Frame.refl.bump
  have hz : s.burstEnd n c lost waits = y ∨ s.burstEnd n c lost waits = y.bump F.SRAMC_SP_STALLS_COUNT waits := by
    unfold State.burstEnd
    dsimp only
    rw [← hx, ← hy]
    cases c.owner with
    | queue q => exact .inl rfl
    | chan k => dsimp only; split <;> simp
  obtain ⟨z, hzdef⟩ : ∃ z, z = s.burstEnd n c lost waits := ⟨_, rfl⟩
  rw [← hzdef] at hz ⊢
  have hzc : z.fld F.HOIST_PREEMPTS_COUNT = y.fld F.HOIST_PREEMPTS_COUNT := by
    rcases hz with h | h
    · rw [h]
    · rw [h]; exact State.fld_bump_other _ _ _ _ (by decide)
  have hzr : RegsBut x z [R.HOIST_PREEMPTS, R.SRAMC_SP_STALLS] := by
    rcases hz with h | h
    · rw [h]; exact hyr
    · rw [h]; exact hyr.bump
  have hzf : Frame [.regs] x z := by
    rcases hz with h | h
    · rw [h]; exact hyf
    · rw [h]; exact hyf.bump
  have hform : z = { s with regs := z.regs, hoist := { s.hoist with lastBurst := SMap.insert s.hoist.lastBurst (s.cagePrio c) n } } := by
    have h : z = { x with regs := z.regs } := hzf
    rw [hx] at h; exact h
  have hlast : z.hoist.lastBurst = SMap.insert s.hoist.lastBurst (s.cagePrio c) n := by rw [hform]
  exact ⟨by rw [hlast, SMap.find?_insert, if_pos rfl], fun p hp => by rw [hlast, SMap.find?_insert, if_neg hp.symm],
    hzc.trans hyc, fun k hk => (hzr k hk).trans (hxrd k), _, hform⟩

theorem State.afterBurst_spec (w : State) (d : Cage) :
    (d.left = 0 → w.afterBurst n d = w.finish n d (if d.rest = 0 then stOK else stCLAMPED) d.rest) ∧
    (d.left ≠ 0 → d.aborts ≠ [] → w.afterBurst n d = w.finish n d stABORTED (d.left + d.rest)) :=
  ⟨fun h => if_pos h, fun h1 h2 => (if_neg h1).trans (if_pos (by simpa using h2))⟩

/-! #### Units -/

theorem repeatUnit_get (fuel : Nat) (u : List Byte) (m : Nat) (hu : 0 < u.length) (hm : m ≤ fuel) (i : Nat) :
    (repeatUnit fuel u m)[i]? = if i < m then u[i % u.length]? else none := by
  induction fuel generalizing m i with
  | zero => simp [repeatUnit, show m = 0 by omega]
  | succ fuel ih =>
    rw [repeatUnit]
    by_cases h0 : m = 0
    · simp [h0]
    · rw [if_neg h0, List.getElem?_take]
      by_cases hi : i < m
      · rw [if_pos hi, if_pos hi]
        by_cases hl : i < u.length
        · rw [List.getElem?_append_left hl, Nat.mod_eq_of_lt hl]
        · rw [List.getElem?_append_right (by omega), ih _ (by omega), if_pos (by omega),
            Nat.mod_eq_sub_mod (by omega : i ≥ u.length)]
      · rw [if_neg hi, if_neg hi]

/-- The bytes of a burst with a fixed source are its unit over and over, from where the transfer stands in it. -/
theorem repeatUnit_drop {u data : List Byte} {p k : Nat} (hu : 0 < u.length) (hlen : data.length = k)
    (hdata : ∀ i, i < k → data[i]? = u[(p + i) % u.length]?) : (repeatUnit (p + k + 1) u (p + k)).drop p = data := by
  apply List.ext_getElem?
  intro i
  rw [List.getElem?_drop, repeatUnit_get _ _ _ hu (by omega)]
  by_cases hi : i < k
  · rw [if_pos (by omega), hdata i hi]
  · rw [if_neg (by omega), List.getElem?_eq_none (by omega)]

/-! #### What a burst that ends has read -/

/-- The bytes that a burst has read, or the unit that a fixed source repeats; none where the read of the host failed. -/
def State.burstRaw (s : State) (c : Cage) (res : ReadRes) : Option (List Byte) :=
  if c.desc.srcFixed then
    match c.unit, s.burstSrc c, res with
    | some x, _, _ => some x
    | none, .dram a _, _ => some (s.dramRead a (fixedUnit c.desc))
    | none, .host _, .data bs => some (fitBytes (fixedUnit c.desc) bs)
    | _, _, _ => none
  else
    match s.burstSrc c, res with
    | .dram a _, _ => some (s.dramRead a (burstLen c))
    | .host _, .data bs => some (fitBytes (burstLen c) bs)
    | _, _ => none

/-- The cage after a burst whose unit is `x`. -/
def Cage.moved (c : Cage) (x : Option (List Byte)) : Cage :=
  { c with src := if c.desc.srcFixed then c.src else c.src + burstLen c,
           dst := if c.desc.dstFixed then c.dst else c.dst + burstLen c,
           left := c.left - burstLen c, unit := x }

theorem burstDone_invalid {res : ReadRes} (h : s.burstSrc c = .invalid ∨ s.burstDst c = .invalid) :
    s.burstDone n c res = s.finish n c stADDRFAULT (c.left + c.rest) := by
  unfold State.burstDone
  dsimp only
  split
  · rfl
  · rfl
  · next _ h1 h2 => exact (h.elim h1 h2).elim
  · next _ h1 h2 => exact (h.elim h1 h2).elim

theorem burstDone_failed {res : ReadRes} (h1 : s.burstSrc c ≠ .invalid) (h2 : s.burstDst c ≠ .invalid)
    (hraw : s.burstRaw c res = none) :
    s.burstDone n c res = (s.noteRead res).finish n c stPCIEERROR (c.left + c.rest) := by
  unfold State.burstDone
  dsimp only
  split
  · next h => exact absurd h h1
  · next h _ => exact absurd h h2
  · rfl
  · next h _ _ => exact absurd (hraw.symm.trans h) (by simp)

theorem burstDone_moved {res : ReadRes} {bs : List Byte} (h1 : s.burstSrc c ≠ .invalid) (h2 : s.burstDst c ≠ .invalid)
    (hraw : s.burstRaw c res = some bs) {data : List Byte}
    (hdata : data = if c.desc.srcFixed then
        (repeatUnit (c.unitPhase (fixedUnit c.desc) + burstLen c + 1) bs (c.unitPhase (fixedUnit c.desc) + burstLen c)).drop
          (c.unitPhase (fixedUnit c.desc)) else bs) :
    s.burstDone n c res =
      (((s.burstWrite c data).countBytes (burstLen c)).showChan (c.moved (if c.desc.srcFixed then some bs else none))).afterBurst n
        (c.moved (if c.desc.srcFixed then some bs else none)) := by
  subst hdata
  unfold State.burstDone
  dsimp only
  split
  · next h => exact absurd h h1
  · next h _ => exact absurd h h2
  · next h _ _ => exact absurd (hraw.symm.trans h) (by simp)
  · next h _ _ =>
    obtain rfl := Option.some.inj (hraw.symm.trans h)
    rfl

theorem dramByte_burstWrite {data : List Byte} {b : Nat} {q : Bool} (hf : c.desc.dstFixed = false) (hb : s.burstDst c = .dram b q)
    (y : Nat) :
    (s.burstWrite c data).dramByte y = if b ≤ y then (data[y - b]?).getD (s.dramByte y) else s.dramByte y := by
  have hw : s.burstWrite c data = s.dramWrite (b + 0) data := by
    unfold State.burstWrite
    simp only [hf, hb, Bool.false_eq_true, reduceIte]; rfl
  rw [hw, State.dramByte_dramWrite, Nat.add_zero]
  by_cases h1 : b ≤ y
  · rw [if_pos h1]
    by_cases h2 : y - b < data.length
    · rw [if_pos ⟨h1, by omega⟩, List.getD_eq_getElem?_getD, List.getElem?_eq_getElem h2]; rfl
    · rw [if_neg (by omega), List.getElem?_eq_none (by omega)]; rfl
  · rw [if_neg (by omega), if_neg h1]

end

/-- A burst that ends in its turn. -/
theorem exec_hoistBurstDone {s : State} {n : BitVec 5} {c : Cage} (hc : s.cage? n.toNat = some c) (hp : c.phase = .bursts)
    (hm : s.moves n.toNat c = true) (ht : s.burstTurn n.toNat c = true) (res : ReadRes) (lost waits : Nat) :
    exec (.hoistBurstDone n res ⟨lost, waits⟩) s = .next ((s.burstEnd n.toNat c lost waits).burstDone n.toNat c res) := by
  refine congrArg Host.Outcome.next ?_
  simp only [hc, hm, ht, hp, Bool.not_true, Bool.or_self, Bool.false_eq_true, reduceIte]

/-- Settles O18: a COPY by the cases of `State.descCopy_eq`, a burst by what it reads and where it writes. -/
theorem copiesMoveAndProtect : Obligations.CopiesMoveAndProtect := by
  refine ⟨fun s n c d prot hc hp hty h1 h2 h3 h4 h5 hprot hrest hd => ?copy,
    fun s n c res lost waits hc => ⟨fun hno => ?wait, fun hp hm ht => ?burst, fun w d => w.afterBurst_spec d⟩⟩
  case copy =>
    have hexec : exec (.descCopy n) s = .next (s.descCopy n.toNat c) := congrArg Host.Outcome.next (State.onStart_eq hc hp hty _)
    rw [hexec, State.descCopy_eq h1 h2 h3 h4 h5 hprot hrest hd]
    refine ⟨fun h => ?_, fun h hl => ?_, fun h hl => ?_⟩
    · rw [if_pos h]
      exact ⟨_, rfl, State.cage?_setCage_same _, fun m hm => State.cage?_setCage_other _ hm, rfl⟩
    · rw [if_neg (by simp [h]), if_pos hl]
    · rw [if_neg (by simp [h]), if_neg hl]
  case wait =>
    refine congrArg Host.Outcome.next ?_
    simp only [hc]
    exact if_pos (by rw [← Bool.not_and, hno]; rfl)
  case burst =>
    obtain ⟨hlast, hother, hpre, hregs, r, hform⟩ := State.burstEnd_spec (s := s) (n := n.toNat) (c := c) lost waits
    have hexec := exec_hoistBurstDone hc hp hm ht
    obtain ⟨e, he⟩ : ∃ e, e = s.burstEnd n.toNat c lost waits := ⟨_, rfl⟩
    have hsrc : e.burstSrc c = s.burstSrc c := by rw [he, hform]; rfl
    have hdst : e.burstDst c = s.burstDst c := by rw [he, hform]; rfl
    have hdram (a k : Nat) : e.dramRead a k = s.dramRead a k := by rw [he, hform]; rfl
    have hbyte (a : Nat) : e.dramByte a = s.dramByte a := by rw [he, hform]; rfl
    have hframe : e = { s with regs := e.regs, hoist := { s.hoist with lastBurst := e.hoist.lastBurst } } := by
      rw [he, hform]
    rw [← he] at hlast hother hpre hregs
    refine ⟨e, hlast, hother, hpre, hregs, hframe, fun h => ?_, fun a timeout hs hd hu => ?_,
      fun data x d hs hd hplain hfixed hcage => ⟨?_, fun b q hf hb y => ?_⟩⟩
    · rw [hexec, ← he]
      exact congrArg _ (burstDone_invalid (by rwa [hsrc, hdst]))
    · rw [hexec, ← he]
      refine congrArg _ (burstDone_failed (by rw [hsrc, hs]; simp) (by rwa [hdst]) ?_)
      unfold State.burstRaw
      rw [hsrc, hs, hu]
      cases timeout <;> split <;> rfl
    · rw [hexec, ← he]
      cases hfix : c.desc.srcFixed with
      | false =>
        obtain ⟨rfl, hread⟩ := hplain hfix
        have hraw : e.burstRaw c res = some data := by
          unfold State.burstRaw
          rw [hsrc, if_neg (by simp [hfix])]
          rcases hread with ⟨a, p, ha, rfl⟩ | ⟨a, bs, ha, rfl, rfl⟩
          · simp only [ha, hdram]
          · simp only [ha]
        rw [burstDone_moved (by rwa [hsrc]) (by rwa [hdst]) hraw (by rw [if_neg (by simp [hfix])]), hcage,
          if_neg (by simp [hfix])]
        rfl
      | true =>
        obtain ⟨hlen, u, rfl, hread, hul, hbytes⟩ := hfixed hfix
        have hraw : e.burstRaw c res = some u := by
          unfold State.burstRaw
          rw [hsrc, if_pos hfix]
          rcases hread with h | ⟨h, a, p, ha, rfl⟩ | ⟨h, a, bs, ha, rfl, rfl⟩
          · simp only [h]
          · simp only [h, ha, hdram]
          · simp only [h, ha]
        have hdata := repeatUnit_drop (u := u) (by rw [hul]; exact fixedUnit_pos _) hlen (fun i hi => by rw [hbytes i hi, hul])
        rw [burstDone_moved (data := data) (by rwa [hsrc]) (by rwa [hdst]) hraw (by rw [if_pos hfix, hdata]), hcage, if_pos hfix]
        rfl
    · rw [dramByte_burstWrite hf (by rw [hdst, hb]), hbyte]

end Sys2Proof.Machine

/-! ### Opening a transaction and staging writes (R77 to R79) -/

namespace Sys2Proof.Machine

-- A proof that fills in an argument by its default tactic waits for all that stands before it: checked in order, none waits.
set_option Elab.async false

section
variable {s : State} {n : Nat}

@[simp] theorem State.slot_setSlot_same (h : SlotHid) : (s.setSlot n h).slot n = h := SMap.get_set_same _ _ _ _

theorem State.slot_setSlot_other (h : SlotHid) {m : Nat} (hm : m ≠ n) : (s.setSlot n h).slot m = s.slot m :=
  SMap.get_set_other _ _ _ hm.symm

@[simp] theorem State.token_setSlot (h : SlotHid) (m : Nat) : (s.setSlot n h).token m = s.token m := rfl

/-- A frame in which the transactions' part is known. -/
theorem Frame.withTxn {p : List Part} {t : State} {x : Txn} (h : Frame p s t) (hx : t.txn = x) :
    t = { s.taking p t with txn := x } := by
  rw [← show t = s.taking p t from h, ← hx]

theorem State.hostReadFrom_of_serves {off : Nat} (k : State → State) (h : s.serves off = true) : s.hostReadFrom off k = k s := by
  simp only [State.serves, Bool.and_eq_true, Bool.not_eq_true'] at h
  obtain ⟨⟨⟨⟨⟨hdom, hmem⟩, hd3⟩, hfatal⟩, hiso⟩, hoff⟩ := h
  simp [State.hostReadFrom, hdom, hmem, hd3, hiso, hoff]

/-- A slot's registers are those of its 32 bytes. -/
theorem slot_regs_of_outside {k : Nat} (hk : k < 0x150000 + 0x20 * n ∨ 0x150020 + 0x20 * n ≤ k) :
    k ∉ [R.SLOT_STATE n, R.SLOT_WRITES n, R.SLOT_FIRST_CLAMP n] := by
  simp only [List.mem_cons, List.not_mem_nil, or_false, not_or, R.SLOT_STATE, R.SLOT_WRITES, R.SLOT_FIRST_CLAMP]
  omega

/-- The registers of a slot that a transaction has just been opened in. -/
def State.openedSlot (s : State) (n : Nat) : State :=
  ((((s.setFld (F.SLOT_STATE_SEQ n) (s.fld (F.SLOT_STATE_SEQ n) + 1)).setFld (F.SLOT_STATE_STATE n) slOPEN).setFld
    (F.SLOT_WRITES_COUNT n) 0).setFld (F.SLOT_WRITES_CLAMPS n) 0).setFld (F.SLOT_FIRST_CLAMP_OFFSET n) 0

theorem State.openedSlot_flds :
    (s.openedSlot n).fld (F.SLOT_STATE_STATE n) = slOPEN ∧
    (s.openedSlot n).fld (F.SLOT_STATE_SEQ n) = (s.fld (F.SLOT_STATE_SEQ n) + 1) % 1024 ∧
    (s.openedSlot n).fld (F.SLOT_WRITES_COUNT n) = 0 ∧ (s.openedSlot n).fld (F.SLOT_WRITES_CLAMPS n) = 0 := by
  unfold State.openedSlot
  refine ⟨?_, ?_, ?_, ?_⟩ <;>
    simp (disch := simp) only [State.fld_setFld_other, State.fld_setFld_same]
  all_goals rfl

theorem State.txnOpen_of_free (hn : n < 64) (hfree : s.fld (F.SLOT_STATE_STATE n) = slFREE)
    (hlow : ∀ m, m < n → s.fld (F.SLOT_STATE_STATE m) ≠ slFREE) :
    s.txnOpen = ((s.openedSlot n).setSlot n SlotHid.init).emit (.reply (leBytes 4 ((s.openedSlot n).token n + 2 ^ 31))) := by
  have hfind : (List.range 64).find? (fun n => s.fld (F.SLOT_STATE_STATE n) == slFREE) = some n :=
    List.find?_range_eq_some.mpr ⟨by simpa using hfree, List.mem_range.mpr hn, fun m hm => by simpa using hlow m hm⟩
  simp only [State.txnOpen, hfind]
  rfl

theorem State.txnOpen_of_none (h : ∀ n, n < 64 → s.fld (F.SLOT_STATE_STATE n) ≠ slFREE) :
    s.txnOpen = s.emit (.reply (leBytes 4 0)) := by
  have hfind : (List.range 64).find? (fun n => s.fld (F.SLOT_STATE_STATE n) == slFREE) = none :=
    List.find?_range_eq_none.mpr fun m hm => by simpa using h m hm
  simp only [State.txnOpen, hfind]

/-- A slot that fails keeps what it holds, and its registers but its STATE. -/
theorem State.failSlot_spec {r : Nat} {d : Word} (hr : r < 16) :
    (s.failSlot n r d).fld (F.SLOT_STATE_STATE n) = slFAILED ∧ (s.failSlot n r d).fld (F.SLOT_STATE_REASON n) = r ∧
    (s.failSlot n r d).slot n = { s.slot n with detail := d } ∧ (∀ m, m ≠ n → (s.failSlot n r d).slot m = s.slot m) ∧
    RegsBut s (s.failSlot n r d) [R.SLOT_STATE n] ∧
    Frame [.regs, .txn] s (s.failSlot n r d) := by
  obtain ⟨x, hx⟩ : ∃ x, x = { s.slot n with detail := d } := ⟨_, rfl⟩
  have hform : s.failSlot n r d = ((s.setFld (F.SLOT_STATE_STATE n) slFAILED).setFld (F.SLOT_STATE_REASON n) r).setSlot n x := by
    rw [hx]; rfl
  rw [hform, ← hx]
  refine ⟨?_, ?_, State.slot_setSlot_same _, fun m hm => (State.slot_setSlot_other _ hm).trans rfl,
    RegsBut.refl.setFld.setFld.setSlot, Frame.refl.setFld.setFld.setSlot⟩
  · rw [State.fld_setSlot, State.fld_setFld_other _ _ _ _ (by simp), State.fld_setFld_same _ _ _ (by simp)]; rfl
  · rw [State.fld_setSlot, State.fld_setFld_same _ _ _ (by simp)]; exact Nat.mod_eq_of_lt hr

/-- The registers of an open slot after a staged write to `a`: COUNT, and CLAMPS and FIRST_CLAMP where it is predicted to be clamped. -/
def State.stagedRegs (s : State) (n a : Nat) (clamp : Bool) : State :=
  let t := s.bump (F.SLOT_WRITES_COUNT n)
  if !clamp then t
  else (if t.fld (F.SLOT_WRITES_CLAMPS n) = 0 then t.setFld (F.SLOT_FIRST_CLAMP_OFFSET n) a else t).bump (F.SLOT_WRITES_CLAMPS n)

theorem State.stagedRegs_regsBut {a : Nat} {clamp : Bool} :
    RegsBut s (s.stagedRegs n a clamp) [R.SLOT_WRITES n, R.SLOT_FIRST_CLAMP n] := by
  unfold State.stagedRegs
  exact .ite RegsBut.refl.bump (RegsBut.bump (.ite RegsBut.refl.bump.setFld RegsBut.refl.bump))

theorem State.stagedRegs_frame {a : Nat} {clamp : Bool} : Frame [.regs] s (s.stagedRegs n a clamp) := by
  unfold State.stagedRegs
  exact .ite Frame.refl.bump (Frame.bump (.ite Frame.refl.bump.setFld Frame.refl.bump))

theorem State.stagedRegs_counts {a : Nat} {clamp : Bool} (hc : s.fld (F.SLOT_WRITES_COUNT n) < 4096) :
    (s.stagedRegs n a clamp).fld (F.SLOT_WRITES_COUNT n) = s.fld (F.SLOT_WRITES_COUNT n) + 1 ∧
    (s.stagedRegs n a clamp).fld (F.SLOT_WRITES_CLAMPS n) =
      if clamp then min (s.fld (F.SLOT_WRITES_CLAMPS n) + 1) 8191 else s.fld (F.SLOT_WRITES_CLAMPS n) := by
  obtain ⟨t, ht⟩ : ∃ t, t = s.bump (F.SLOT_WRITES_COUNT n) := ⟨_, rfl⟩
  have hcount : t.fld (F.SLOT_WRITES_COUNT n) = s.fld (F.SLOT_WRITES_COUNT n) + 1 := by
    rw [ht, State.fld_bump_same _ _ _ (by simp)]; simp only; omega
  have hclamps : t.fld (F.SLOT_WRITES_CLAMPS n) = s.fld (F.SLOT_WRITES_CLAMPS n) := by
    rw [ht, State.fld_bump_other _ _ _ _ (by simp)]
  obtain ⟨v, hv⟩ : ∃ v, v = if t.fld (F.SLOT_WRITES_CLAMPS n) = 0 then t.setFld (F.SLOT_FIRST_CLAMP_OFFSET n) a else t := ⟨_, rfl⟩
  have hother {g : Fld} (hg : g.off ∉ [R.SLOT_FIRST_CLAMP n]) : v.fld g = t.fld g := by
    rw [hv]; exact RegsBut.fld (.ite RegsBut.refl.setFld .refl) hg
  have hform : s.stagedRegs n a clamp = if !clamp then t else v.bump (F.SLOT_WRITES_CLAMPS n) := by rw [hv, ht]; rfl
  rw [hform]
  cases clamp
  · exact ⟨hcount, hclamps⟩
  · refine ⟨?_, ?_⟩
    · exact (State.fld_bump_other _ _ _ _ (by simp)).trans ((hother (by simp)).trans hcount)
    · exact (State.fld_bump_same _ _ _ (by simp)).trans (by rw [hother (by simp), hclamps]; rfl)

/-- A staged write of an open slot that has room, to a target that is not persistent. -/
theorem State.stage_of_open {v : Word} {a : Nat} (ha : a = s.fld (F.SLOT_STAGE_ADDR_OFFSET n) / 4 * 4)
    (hopen : s.fld (F.SLOT_STATE_STATE n) = slOPEN) (hc : s.fld (F.SLOT_WRITES_COUNT n) < 4096) (hp : contentOf a ≠ .persist) :
    s.stage n v = (s.setSlot n { s.slot n with writes := (s.slot n).writes ++ [⟨a, v⟩] }).stagedRegs n a
      (s.predictClamp (s.slot n).writes a v) := by
  subst ha
  unfold State.stage
  dsimp only
  rw [if_neg (by simp [hopen]), if_neg hc.ne, if_neg hp]
  rfl

end

/-- Settles O24: the lowest free slot is found, and a served write of STAGE_DATA is one of the branches of `State.stage`. -/
theorem transactionsOpenAndStage : Obligations.TransactionsOpenAndStage := by
  refine ⟨fun s hserves => ⟨fun n hn hfree hlow => ?opened, fun hnone => ?full⟩, fun s w n off v a hserves hw ha => ?staged⟩
  case opened =>
    obtain ⟨u, hu⟩ : ∃ u, u = s.openedSlot n := ⟨_, rfl⟩
    obtain ⟨hstate, hseq, hcount, hclamps⟩ := s.openedSlot_flds (n := n)
    have hregs : RegsBut s (s.openedSlot n) [R.SLOT_STATE n, R.SLOT_WRITES n, R.SLOT_FIRST_CLAMP n] :=
      RegsBut.refl.setFld.setFld.setFld.setFld.setFld
    have hframe : Frame [.regs] s (s.openedSlot n) := Frame.refl.setFld.setFld.setFld.setFld.setFld
    have hopen := State.txnOpen_of_free hn hfree hlow
    rw [← hu] at hstate hseq hcount hclamps hregs hframe hopen
    have htoken : u.token n + 2 ^ 31 = 2 ^ 31 + (s.fld (F.SLOT_STATE_SEQ n) + 1) % 1024 * 64 + n := by
      rw [State.token, hseq, Nat.add_comm, ← Nat.add_assoc]
    rw [htoken] at hopen
    obtain ⟨t, ht⟩ : ∃ t, t = u.setSlot n SlotHid.init := ⟨_, rfl⟩
    have hsame : t.slot n = SlotHid.init := by rw [ht, State.slot_setSlot_same]
    have hother (m : Nat) (hm : m ≠ n) : t.slot m = s.slot m := by
      rw [ht, State.slot_setSlot_other _ hm, hframe.get State.slot]
    have hrd (k : Nat) : t.rd k = u.rd k := by rw [ht]; rfl
    have htframe : Frame [.regs, .txn] s t := by rw [ht]; exact (hframe.mono (by decide)).setSlot
    have hsent : t.sent = s.sent := htframe.get State.sent
    have hfld (g : Fld) : t.fld g = u.fld g := by rw [State.fld, hrd, State.fld]
    rw [← ht] at hopen
    rw [← hfld] at hstate hseq hcount hclamps
    exact ⟨_, congrArg Host.Outcome.next ((State.hostReadFrom_of_serves _ hserves).trans hopen), hstate, hseq,
      congrArg _ hsent, hcount, hclamps, hsame, hother, fun k hk => (hrd k).trans (hregs k (slot_regs_of_outside hk)),
      (htframe.mono (by decide)).emit (p := [.regs, .txn, .sent])⟩
  case full =>
    exact congrArg Host.Outcome.next ((State.hostReadFrom_of_serves _ hserves).trans (State.txnOpen_of_none hnone))
  case staged =>
    have hexec : exec (.stageWrite n off v) s = .next (w.stage n.toNat v) := by
      rw [hw]
      exact congrArg Host.Outcome.next (hostWriteTo_of_serves s _ _ hserves)
    have hwframe : Frame [.regs] s w := by
      rw [hw]; cases off
      · exact .refl
      · exact Frame.refl.setFld
    have hwregs : RegsBut s w [R.SLOT_STAGE_ADDR n.toNat] := by
      rw [hw]; cases off
      · exact .refl
      · exact RegsBut.refl.setFld
    have hslots : w.slot = s.slot := hwframe.get State.slot
    have hstate : w.fld (F.SLOT_STATE_STATE n.toNat) = s.fld (F.SLOT_STATE_STATE n.toNat) := hwregs.fld (by simp)
    have hcount : w.fld (F.SLOT_WRITES_COUNT n.toNat) = s.fld (F.SLOT_WRITES_COUNT n.toNat) := hwregs.fld (by simp)
    have hclamps : w.fld (F.SLOT_WRITES_CLAMPS n.toNat) = s.fld (F.SLOT_WRITES_CLAMPS n.toNat) := hwregs.fld (by simp)
    have hdropped : w.fld F.TXN_STAGE_DROPPED_COUNT = s.fld F.TXN_STAGE_DROPPED_COUNT :=
      hwregs.fld (by simp only [List.mem_singleton, R.SLOT_STAGE_ADDR]; omega)
    rw [hexec]
    refine ⟨fun hne => ?dropped, fun hopen hroom hper => ?held, fun r hopen hwhy => ?failed⟩
    case dropped =>
      have hstage : w.stage n.toNat v = (w.bump F.TXN_STAGE_DROPPED_COUNT).raise 0x13 2 := by
        unfold State.stage
        exact if_pos (by simpa [hstate] using hne)
      have hregs : RegsBut (w.bump F.TXN_STAGE_DROPPED_COUNT) ((w.bump F.TXN_STAGE_DROPPED_COUNT).raise 0x13 2) [0x1300C] :=
        RegsBut.refl.raise
      refine ⟨_, congrArg Host.Outcome.next hstage, ?_, RegsBut.refl.bump.raise, ?_⟩
      · rw [hregs.fld (by decide), State.fld_bump_same _ _ _ (by decide), hdropped]
      · exact (hwframe.mono (p := [.regs, .sent, .pcie, .summaryOwed]) (by decide)).bump.raise
    case held =>
      have hstage := State.stage_of_open (v := v) ha (hstate.trans hopen) (hcount.trans_lt hroom) hper
      refine ⟨_, congrArg Host.Outcome.next hstage, ?_⟩
      obtain ⟨u, hu⟩ : ∃ u, u = w.setSlot n.toNat { w.slot n.toNat with writes := (w.slot n.toNat).writes ++ [⟨a, v⟩] } := ⟨_, rfl⟩
      have hurd : RegsBut w u [] := by rw [hu]; exact RegsBut.refl.setSlot
      have hregs := (u.stagedRegs_regsBut (n := n.toNat) (a := a) (clamp := w.predictClamp (w.slot n.toNat).writes a v))
      obtain ⟨hcnt, hclm⟩ := State.stagedRegs_counts (s := u) (n := n.toNat) (a := a)
        (clamp := w.predictClamp (w.slot n.toNat).writes a v) (by rw [hurd.fld (by simp), hcount]; exact hroom)
      have hframe := u.stagedRegs_frame (n := n.toNat) (a := a) (clamp := w.predictClamp (w.slot n.toNat).writes a v)
      have hslot := hframe.get State.slot
      rw [← hu]
      rw [hurd.fld (by simp), hcount] at hcnt
      rw [hurd.fld (by simp), hclamps, hslots] at hclm
      refine ⟨?_, hcnt, ?_, fun m hm => ?_, fun k hk => (hregs k hk).trans (hurd k (by simp)), ?_⟩
      · rw [hslot, hu, State.slot_setSlot_same, hslots]
      · rw [hslots]; exact hclm
      · rw [hslot, hu, State.slot_setSlot_other _ hm, hslots]
      · have huframe : Frame [.regs, .txn] s u := by rw [hu]; exact (hwframe.mono (by decide)).setSlot
        have hutxn : u.txn = { s.txn with slots := u.txn.slots } := by rw [hu, ← hwframe.get State.txn]; rfl
        exact (huframe.then hframe (by decide)).withTxn (by rw [hframe.get State.txn]; exact hutxn)
    case failed =>
      have hstage : w.stage n.toNat v = w.failSlot n.toNat r (BitVec.ofNat 32 a) := by
        unfold State.stage
        dsimp only
        rw [if_neg (by simp [hstate, hopen]), hcount, ← ha]
        obtain ⟨hfull, rfl⟩ | ⟨hroom, hper, rfl⟩ := hwhy
        · rw [if_pos hfull]
        · rw [if_neg hroom.ne, if_pos hper]
      obtain ⟨hst, hrs, hslot, hslotm, hregs, hframe⟩ := w.failSlot_spec (n := n.toNat) (r := r) (d := BitVec.ofNat 32 a)
        (by omega)
      refine ⟨_, congrArg Host.Outcome.next hstage, hst, hrs, by rw [hslot, hslots], fun m hm => by rw [hslotm m hm, hslots], hregs,
        ((hwframe.mono (p := [.regs, .txn]) (by decide)).then hframe (by decide)).withTxn ?_⟩
      rw [← hwframe.get State.txn]; rfl

end Sys2Proof.Machine

/-! ### Transactions that end in abort, commits that are accepted or refused (R80 to R90) -/

namespace Sys2Proof.Machine

-- A proof that fills in an argument by its default tactic waits for all that stands before it: checked in order, none waits.
set_option Elab.async false

section
variable {s : State} {n : Nat}

/-- The slot holds nothing and waits for nothing. -/
def State.slotEmptied (s : State) (n : Nat) : State :=
  let s := s.setSlot n SlotHid.init
  { s with txn := { s.txn with merging := s.txn.merging.filter (· != n), arrived := s.txn.arrived.filter (· != n) } }

/-- A transaction that has aborted, before its descriptors complete and the event is posted. -/
def State.txnAborted (s : State) (n reason : Nat) : State :=
  let tok := s.token n
  let s := ((s.slotEmptied n).setFld (F.SLOT_STATE_STATE n) slFREE).setFld (F.SLOT_STATE_REASON n) reason
  let s := ((s.setFld (F.SLOT_WRITES_COUNT n) 0).setFld (F.SLOT_WRITES_CLAMPS n) 0).setFld (F.SLOT_FIRST_CLAMP_OFFSET n) 0
  let s := (s.setFld F.TXN_LAST_ABORT_TOKEN tok).setFld F.TXN_LAST_ABORT_REASON reason
  (s.bump F.TXN_ABORTS_COUNT).raise 0x13 1

theorem State.token_lt (hn : n < 64) : s.token n < 65536 := by
  have := bitsOf_lt (s.rd (F.SLOT_STATE_SEQ n).off) (F.SLOT_STATE_SEQ n).lo (F.SLOT_STATE_SEQ n).w
  simp only [State.token, State.fld]
  simp only at this
  omega

theorem Frame.slotEmptied {p : List Part} {t : State} (h : Frame p s t) (hp : .txn ∈ p := by decide) :
    Frame p s (t.slotEmptied n) := h.then (q := [.txn]) rfl (forall_mem_one hp)

theorem State.slotEmptied_slots : (s.slotEmptied n).slot n = SlotHid.init ∧ ∀ m, m ≠ n → (s.slotEmptied n).slot m = s.slot m :=
  ⟨(State.slot_setSlot_same (s := s) SlotHid.init :), fun _ hm => (State.slot_setSlot_other (s := s) SlotHid.init hm :)⟩

theorem txnEnded_txnAborted {r : Nat} (hn : n < 64) (hr : r < 16) : TxnEnded s (s.txnAborted n r) n r := by
  obtain ⟨e, he⟩ : ∃ e, e = s.slotEmptied n := ⟨_, rfl⟩
  have heregs : RegsBut s e [] := by rw [he]; exact RegsBut.refl
  have heframe : Frame [.txn] s e := by rw [he]; exact Frame.refl.slotEmptied
  obtain ⟨c, hc⟩ : ∃ c, c = ((((e.setFld (F.SLOT_STATE_STATE n) slFREE).setFld (F.SLOT_STATE_REASON n) r).setFld
      (F.SLOT_WRITES_COUNT n) 0).setFld (F.SLOT_WRITES_CLAMPS n) 0).setFld (F.SLOT_FIRST_CLAMP_OFFSET n) 0 := ⟨_, rfl⟩
  obtain ⟨b, hb⟩ : ∃ b, b = ((c.setFld F.TXN_LAST_ABORT_TOKEN (s.token n)).setFld F.TXN_LAST_ABORT_REASON r).bump
      F.TXN_ABORTS_COUNT := ⟨_, rfl⟩
  have hu : s.txnAborted n r = b.raise 0x13 1 := by rw [hb, hc, he]; rfl
  have hcregs : RegsBut e c [R.SLOT_STATE n, R.SLOT_WRITES n, R.SLOT_FIRST_CLAMP n] := by
    rw [hc]; exact RegsBut.refl.setFld.setFld.setFld.setFld.setFld
  have hbframe : Frame [.regs] e b := by
    rw [hb, hc]; exact Frame.refl.setFld.setFld.setFld.setFld.setFld.setFld.setFld.bump
  have hraise : RegsBut b (b.raise 0x13 1) [0x1300C] := RegsBut.refl.raise
  have hframe : Frame [.regs, .sent, .pcie, .summaryOwed] e (b.raise 0x13 1) := (hbframe.mono (by decide)).raise
  obtain ⟨u, hu'⟩ : ∃ u, u = b.raise 0x13 1 := ⟨_, rfl⟩
  rw [hu]
  rw [← hu'] at hraise hframe ⊢
  have hfslots := hframe.get State.slot
  have hftxn := hframe.get State.txn
  obtain ⟨hsame, hother⟩ := s.slotEmptied_slots (n := n)
  have hcflds : c.fld (F.SLOT_STATE_STATE n) = slFREE ∧ c.fld (F.SLOT_STATE_REASON n) = r ∧
      c.fld (F.SLOT_STATE_SEQ n) = e.fld (F.SLOT_STATE_SEQ n) ∧ c.fld (F.SLOT_WRITES_COUNT n) = 0 ∧
      c.fld (F.SLOT_WRITES_CLAMPS n) = 0 ∧ c.fld (F.SLOT_FIRST_CLAMP_OFFSET n) = 0 := by
    rw [hc]
    simp (disch := simp) only [State.fld_setFld_other, State.fld_setFld_same]
    exact ⟨rfl, Nat.mod_eq_of_lt hr, trivial, rfl, rfl, rfl⟩
  have hbflds : b.fld F.TXN_LAST_ABORT_TOKEN = s.token n ∧ b.fld F.TXN_LAST_ABORT_REASON = r ∧
      b.fld F.TXN_ABORTS_COUNT = min (c.fld F.TXN_ABORTS_COUNT + 1) (2 ^ 32 - 1) := by
    rw [hb]
    simp (disch := simp) only [State.fld_setFld_other, State.fld_setFld_same, State.fld_bump_other, State.fld_bump_same]
    exact ⟨Nat.mod_eq_of_lt (s.token_lt hn), Nat.mod_eq_of_lt hr, trivial⟩
  obtain ⟨hst, hrs, hseq, hcnt, hclm, hfst⟩ := hcflds
  obtain ⟨htok, hlast, habs⟩ := hbflds
  have hall : RegsBut c u [R.TXN_LAST_ABORT, R.TXN_ABORTS, 0x1300C] := by
    rw [hu', hb]; exact RegsBut.refl.setFld.setFld.bump.raise
  have hcslot (o : Nat) : (0x150000 + o) + 0x20 * n ∉ [R.TXN_LAST_ABORT, R.TXN_ABORTS, 0x1300C] := by
    simp only [List.mem_cons, List.not_mem_nil, or_false, R.TXN_LAST_ABORT, R.TXN_ABORTS]; omega
  have hutotal : RegsBut e u [R.SLOT_STATE n, R.SLOT_WRITES n, R.SLOT_FIRST_CLAMP n, R.TXN_LAST_ABORT, R.TXN_ABORTS, 0x1300C] := by
    rw [hu', hb]; exact (hcregs.mono (by simp)).setFld.setFld.bump.raise
  have hecount : c.fld F.TXN_ABORTS_COUNT = s.fld F.TXN_ABORTS_COUNT := by
    rw [hcregs.fld (by simp only [List.mem_cons, List.not_mem_nil, or_false, R.SLOT_STATE, R.SLOT_WRITES, R.SLOT_FIRST_CLAMP]; omega),
      heregs.fld (by simp)]
  refine ⟨(hall.fld (hcslot 0x10)).trans hst, (hall.fld (hcslot 0x10)).trans hrs, ?_, (hall.fld (hcslot 0x14)).trans hcnt,
    (hall.fld (hcslot 0x14)).trans hclm, (hall.fld (hcslot 0x1C)).trans hfst, (hraise.fld (by decide)).trans htok,
    (hraise.fld (by decide)).trans hlast, (hraise.fld (by decide)).trans (by rw [habs, hecount]),
    by rw [hfslots, he, hsame], fun m hm => by rw [hfslots, he, hother m hm], by rw [hftxn, he]; rfl, by rw [hftxn, he]; rfl, ?_, ?_⟩
  · rw [State.token, State.token, hall.fld (hcslot 0x10), hseq, heregs.fld (by simp)]
  · exact fun k hk => (hutotal k hk).trans (heregs k (by simp))
  · refine ((heframe.mono (p := [.regs, .sent, .pcie, .summaryOwed, .txn]) (by decide)).then hframe (by decide)).withTxn ?_
    rw [hftxn, he]; rfl

/-- An abort is the transaction's end, then its descriptors and its event. -/
theorem State.abortTxn_eq {r : Nat} {d : Word} (hn : n < 64) (hr : r < 16) :
    s.abortTxn n r d = (s.txnAborted n r).endTxn n r d ((s.slot n).held ++ (s.slot n).heldFailed) := by
  have htoken := (txnEnded_txnAborted (s := s) hn hr).2.2.1
  rw [State.endTxn, htoken]
  rfl

theorem exec_txnCommit_of_serves {n : BitVec 6} {v : Word} (h : s.serves (R.SLOT_CMD n.toNat) = true) :
    exec (.txnCommit n v) s = .next (s.txnCommit n.toNat v).assign :=
  congrArg (fun t => Host.Outcome.next (State.assign t)) (hostWriteTo_of_serves s _ _ h)

theorem exec_txnAbort_of_serves {n : BitVec 6} {v : Word} (h : s.serves (R.SLOT_CMD n.toNat) = true) :
    exec (.txnAbort n v) s = .next (s.txnAbort n.toNat v).assign :=
  congrArg (fun t => Host.Outcome.next (State.assign t)) (hostWriteTo_of_serves s _ _ h)

theorem State.slotOpen_iff : s.slotOpen n = true ↔ s.fld (F.SLOT_STATE_STATE n) = slOPEN ∨ s.fld (F.SLOT_STATE_STATE n) = slFAILED := by
  simp [State.slotOpen]

/-- The slot of a commit that is accepted. -/
def State.merging (s : State) (n : Nat) (h : SlotHid) : State :=
  let s := s.setSlot n h
  let s := { s with txn := { s.txn with merging := s.txn.merging ++ [n] } }
  (s.setFld (F.SLOT_STATE_STATE n) slMERGING).setFld (F.SLOT_STATE_RESULT n) 0

theorem State.merging_spec {h : SlotHid} :
    (s.merging n h).fld (F.SLOT_STATE_RESULT n) = 0 ∧ (s.merging n h).fld (F.SLOT_STATE_STATE n) = slMERGING ∧
    (s.merging n h).token n = s.token n ∧ (s.merging n h).txn.merging = s.txn.merging ++ [n] ∧
    (s.merging n h).slot n = h ∧ (∀ m, m ≠ n → (s.merging n h).slot m = s.slot m) ∧
    RegsBut s (s.merging n h) [R.SLOT_STATE n] ∧
    s.merging n h = { s with regs := (s.merging n h).regs
                             txn := { s.txn with slots := (s.merging n h).txn.slots, merging := (s.merging n h).txn.merging } } := by
  obtain ⟨x, hx⟩ : ∃ x : State, x =
      { s.setSlot n h with txn := { (s.setSlot n h).txn with merging := (s.setSlot n h).txn.merging ++ [n] } } := ⟨_, rfl⟩
  obtain ⟨u, hu⟩ : ∃ u, u = (x.setFld (F.SLOT_STATE_STATE n) slMERGING).setFld (F.SLOT_STATE_RESULT n) 0 := ⟨_, rfl⟩
  have hform : s.merging n h = u := by rw [hu, hx]; rfl
  have hxframe : Frame [.txn] s x := by rw [hx]; exact Frame.refl.setSlot.then (q := [.txn]) rfl (by decide)
  have hxregs : RegsBut s x [] := by rw [hx]; exact RegsBut.refl
  have huframe : Frame [.regs] x u := by rw [hu]; exact Frame.refl.setFld.setFld
  have huregs : RegsBut x u [R.SLOT_STATE n] := by rw [hu]; exact RegsBut.refl.setFld.setFld
  have hslot : u.slot = x.slot := huframe.get State.slot
  have htxn : u.txn = x.txn := huframe.get State.txn
  have hflds : u.fld (F.SLOT_STATE_RESULT n) = 0 ∧ u.fld (F.SLOT_STATE_STATE n) = slMERGING ∧
      u.fld (F.SLOT_STATE_SEQ n) = x.fld (F.SLOT_STATE_SEQ n) := by
    rw [hu]
    simp (disch := simp) only [State.fld_setFld_other, State.fld_setFld_same]
    exact ⟨rfl, rfl, trivial⟩
  obtain ⟨hres, hst, hseq⟩ := hflds
  rw [hform]
  refine ⟨hres, hst, by rw [State.token, State.token, hseq, hxregs.fld (by simp)], by rw [htxn, hx]; rfl,
    by rw [hslot, hx]; exact (State.slot_setSlot_same (s := s) h :), fun m hm => by rw [hslot, hx]; exact (State.slot_setSlot_other (s := s) h hm :),
    fun k hk => (huregs k hk).trans (hxregs k (by simp)), ?_⟩
  refine ((hxframe.mono (p := [.regs, .txn]) (by decide)).then huframe (by decide)).withTxn ?_
  rw [htxn, hx]; rfl

end

/-- Settles O25: the checks of a commit, in their order, lead to the slot that merges, to a result alone, or to an abort. -/
theorem commitsAreAcceptedOrRefused : Obligations.CommitsAreAcceptedOrRefused := by
  refine ⟨fun s n v hserves hop htok hopen hmode hfits hdown htarget hinst hstrict => ?accepted, fun s n v hserves hop => ⟨fun r hwhich hr => ?refused, fun hfailed htok => ?failed⟩⟩
  case accepted =>
    obtain ⟨h, hh⟩ : ∃ h : SlotHid, h = { s.slot n.toNat with mode := bitsOf v 19 2, strictLate := bitOf v 22, asap := bitOf v 23, evt := bitOf v 24, instant := none } := ⟨_, rfl⟩
    have hcommit : s.txnCommit n.toNat v = s.merging n.toNat h := by
      unfold State.txnCommit
      dsimp only
      rw [if_neg (by simp [hop]), if_neg (by simp [htok, State.slotOpen, hopen]), if_neg (by rw [hopen]; decide),
        if_neg (by simp [hmode, hfits]), if_neg (by simp [hdown]), if_neg ?_, if_neg ?_, if_neg ?_, hh]
      · rfl
      · simpa [imp_iff_not_or] using hstrict
      · simpa [or_iff_not_imp_left] using hinst
      · simpa [or_iff_not_imp_left] using htarget
    rw [exec_txnCommit_of_serves hserves, hcommit, ← hh]
    exact ⟨_, rfl, State.merging_spec⟩
  case refused =>
    rw [exec_txnCommit_of_serves hserves]
    obtain ⟨c, hc⟩ : ∃ c, c = s.txnCommit n.toNat v := ⟨_, rfl⟩
    rw [← hc]
    unfold State.txnCommit at hc
    dsimp only at hc
    rw [if_neg (by simp [hop])] at hc
    have hdone {k : Nat} (hk : k ≠ 0) (hrk : r = k) (hck : c = s.setFld (F.SLOT_STATE_RESULT n.toNat) k) {p q : Prop} :
        (r ≠ 0 → Host.Outcome.next (ρ := Refusal) (φ := Fault) c.assign =
          .next (s.setFld (F.SLOT_STATE_RESULT n.toNat) r).assign) ∧ (r = 0 → p → q) := by
      subst hrk hck
      exact ⟨fun _ => rfl, fun h => absurd h hk⟩
    by_cases h1 : bitsOf v 0 16 ≠ s.token n.toNat ∨ s.fld (F.SLOT_STATE_STATE n.toNat) ≠ slOPEN
    · rw [if_pos h1] at hr
      refine hdone (by decide) hr (hc.trans (if_pos ?_))
      simp only [State.slotOpen, Bool.or_eq_true, bne_iff_ne, Bool.not_eq_true', Bool.or_eq_false_iff, beq_eq_false_iff_ne]
      tauto
    rw [if_neg h1] at hr
    obtain ⟨htok, hopen⟩ : bitsOf v 0 16 = s.token n.toNat ∧ s.fld (F.SLOT_STATE_STATE n.toNat) = slOPEN := by tauto
    rw [if_neg (by simp [htok, State.slotOpen, hopen]), if_neg (by rw [hopen]; decide)] at hc
    by_cases h2 : bitsOf v 19 2 = 3 ∨ s.contentFits n.toNat (bitsOf v 19 2) = false
    · exact hdone (by decide) (hr.trans (if_pos h2)) (hc.trans (if_pos (by simpa using h2)))
    rw [if_neg h2] at hr
    rw [if_neg (by simpa using h2)] at hc
    by_cases h3 : s.domainDown n.toNat = true
    · exact hdone (by decide) (hr.trans (if_pos h3)) (hc.trans (if_pos h3))
    rw [if_neg h3] at hr hc
    by_cases h4 : bitsOf v 19 2 = 0 ∧ bitOf v 23 = false ∧
        65535 < sdiff (s.rd (R.SLOT_TARGET n.toNat)) (s.rd R.SCAN_FRAME_SEQ)
    · exact hdone (by decide) (hr.trans (if_pos h4)) (hc.trans (if_pos (by simpa [and_assoc] using h4)))
    rw [if_neg h4] at hr
    rw [if_neg (by simpa using h4)] at hc
    by_cases h5 : 16 ≤ s.instants.length ∧ s.instants.contains
        (s.arrivalInstant n.toNat (bitsOf v 19 2) (bitOf v 23) (s.rd (R.SLOT_TARGET n.toNat))).1 = false
    · exact hdone (by decide) (hr.trans (if_pos h5)) (hc.trans (if_pos (by simpa using h5)))
    rw [if_neg h5] at hr
    rw [if_neg (by simpa using h5)] at hc
    refine ⟨fun h => absurd hr h, fun _ hstrict hclamps => ?_⟩
    rw [if_pos (by simp [hstrict, hclamps]), State.abortTxn_eq n.isLt (by decide)] at hc
    exact ⟨_, txnEnded_txnAborted n.isLt (by decide), by rw [hc]⟩
  case failed =>
    have hreason : s.fld (F.SLOT_STATE_REASON n.toNat) < 16 := bitsOf_lt _ _ _
    have hcommit : s.txnCommit n.toNat v =
        (s.abortTxn n.toNat (s.fld (F.SLOT_STATE_REASON n.toNat)) (s.slot n.toNat).detail).setFld (F.SLOT_STATE_RESULT n.toNat) 6 := by
      unfold State.txnCommit
      dsimp only
      rw [if_neg (by simp [hop]), if_neg (by simp [htok, State.slotOpen, hfailed]), if_pos hfailed]
    rw [exec_txnCommit_of_serves hserves, hcommit, State.abortTxn_eq n.isLt hreason]
    exact ⟨_, txnEnded_txnAborted n.isLt hreason, rfl⟩

/-- Settles O26: an abort command and an expiry end what `State.slotOpen` finds, by `State.abortTxn_eq`. -/
theorem transactionsEndEarly : Obligations.TransactionsEndEarly := by
  refine ⟨fun s n v hserves hop => ⟨fun htok hopen => ?abort, fun hno => ?stale⟩, fun s n => ⟨fun hopen hage => ?expire, fun hno => ?waits⟩⟩
  case abort =>
    have habort : s.txnAbort n.toNat v = (s.abortTxn n.toNat 7 0).setFld (F.SLOT_STATE_RESULT n.toNat) 6 := by
      unfold State.txnAbort
      rw [if_neg (by simp [hop]), if_neg (by simp [htok, hopen])]
    rw [exec_txnAbort_of_serves hserves, habort, State.abortTxn_eq n.isLt (by decide)]
    exact ⟨_, txnEnded_txnAborted n.isLt (by decide), rfl⟩
  case stale =>
    have hstale : s.txnAbort n.toNat v = s.setFld (F.SLOT_STATE_RESULT n.toNat) 1 := by
      unfold State.txnAbort
      rw [if_neg (by simp [hop]), if_pos (by simpa using hno)]
    rw [exec_txnAbort_of_serves hserves, hstale]
  case expire =>
    refine ⟨_, txnEnded_txnAborted n.isLt (by decide), congrArg Host.Outcome.next ?_⟩
    rw [if_pos (by simp [hopen, hage]), State.abortTxn_eq n.isLt (by decide)]
  case waits =>
    exact congrArg Host.Outcome.next (if_neg (by simpa [imp_iff_not_or] using hno))

end Sys2Proof.Machine

/-! ### Commits that arrive and commits that take effect (R81 to R87, R94) -/

namespace Sys2Proof.Machine

-- A proof that fills in an argument by its default tactic waits for all that stands before it: checked in order, none waits.
set_option Elab.async false

section
variable {s : State} {n : Nat}

theorem State.bit_setBit_same (f : Fld) (b : Bool) (hlo : f.lo + f.w ≤ 32) (hw : 0 < f.w) : (s.setBit f b).bit f = b := by
  have h1 : 1 < 2 ^ f.w := Nat.one_lt_two_pow hw.ne'
  rw [State.bit, State.setBit, State.fld_setFld_same _ _ _ hlo]
  cases b
  · simp [b2n]
  · simp [b2n, Nat.mod_eq_of_lt h1]

/-- The commit that arrives at `i`. -/
def State.arriving (s : State) (n : Nat) (i : Instant) (late : Bool) : State :=
  let h := s.slot n
  let s := { s with txn := { s.txn with merging := s.txn.merging.drop 1, arrived := s.txn.arrived ++ [n] } }
  let s := s.setSlot n { h with instant := some i }
  (s.setFld (F.SLOT_STATE_STATE n) slPENDING).setBit (F.SLOT_STATE_LATE n) late

theorem State.arriving_spec {i : Instant} {late : Bool} :
    (s.arriving n i late).fld (F.SLOT_STATE_STATE n) = slPENDING ∧ (s.arriving n i late).bit (F.SLOT_STATE_LATE n) = late ∧
    (s.arriving n i late).token n = s.token n ∧ (s.arriving n i late).txn.merging = s.txn.merging.drop 1 ∧
    (s.arriving n i late).txn.arrived = s.txn.arrived ++ [n] ∧
    (s.arriving n i late).slot n = { s.slot n with instant := some i } ∧
    (∀ m, m ≠ n → (s.arriving n i late).slot m = s.slot m) ∧ RegsBut s (s.arriving n i late) [R.SLOT_STATE n] ∧
    s.arriving n i late = { s with regs := (s.arriving n i late).regs
                                   txn := { s.txn with slots := (s.arriving n i late).txn.slots
                                                       merging := (s.arriving n i late).txn.merging
                                                       arrived := (s.arriving n i late).txn.arrived } } := by
  obtain ⟨h, hh⟩ : ∃ h : SlotHid, h = { s.slot n with instant := some i } := ⟨_, rfl⟩
  obtain ⟨y, hy⟩ : ∃ y : State, y =
      { s with txn := { s.txn with merging := s.txn.merging.drop 1, arrived := s.txn.arrived ++ [n] } } := ⟨_, rfl⟩
  obtain ⟨x, hx⟩ : ∃ x, x = y.setSlot n h := ⟨_, rfl⟩
  obtain ⟨u, hu⟩ : ∃ u, u = (x.setFld (F.SLOT_STATE_STATE n) slPENDING).setBit (F.SLOT_STATE_LATE n) late := ⟨_, rfl⟩
  have hform : s.arriving n i late = u := by rw [hu, hx, hy, hh]; rfl
  have hyframe : Frame [.txn] s y := by rw [hy]; exact Frame.refl.then (q := [.txn]) rfl (by decide)
  have hxframe : Frame [.txn] s x := by rw [hx]; exact hyframe.setSlot
  have hyregs : RegsBut s y [] := by rw [hy]; exact RegsBut.refl
  have hxregs : RegsBut s x [] := by rw [hx]; exact hyregs.setSlot
  have huframe : Frame [.regs] x u := by rw [hu]; exact Frame.refl.setFld.setBit
  have huregs : RegsBut x u [R.SLOT_STATE n] := by rw [hu]; exact RegsBut.refl.setFld.setBit
  have hslot : u.slot = x.slot := huframe.get State.slot
  have htxn : u.txn = x.txn := huframe.get State.txn
  have hyslot : y.slot = s.slot := by rw [hy]; rfl
  have hflds : u.fld (F.SLOT_STATE_STATE n) = slPENDING ∧ u.fld (F.SLOT_STATE_SEQ n) = x.fld (F.SLOT_STATE_SEQ n) := by
    rw [hu, State.setBit]
    simp (disch := simp) only [State.fld_setFld_other, State.fld_setFld_same]
    exact ⟨rfl, trivial⟩
  obtain ⟨hst, hseq⟩ := hflds
  rw [hform, ← hh]
  refine ⟨hst, by rw [hu]; exact State.bit_setBit_same _ _ (by simp) (by simp),
    by rw [State.token, State.token, hseq, hxregs.fld (by simp)], by rw [htxn, hx, hy]; rfl, by rw [htxn, hx, hy]; rfl,
    by rw [hslot, hx, State.slot_setSlot_same], fun m hm => by rw [hslot, hx, State.slot_setSlot_other _ hm, hyslot],
    fun k hk => (huregs k hk).trans (hxregs k (by simp)), ?_⟩
  refine ((hxframe.mono (p := [.regs, .txn]) (by decide)).then huframe (by decide)).withTxn ?_
  rw [htxn, hx, hy]; rfl

theorem RegsBut.instantFrame {t : State} {i : Instant} (h : RegsBut s t [R.SLOT_STATE n]) : t.instantFrame i = s.instantFrame i := by
  have hout {k : Nat} (hk : k < 0x150000) : k ∉ [R.SLOT_STATE n] := by simp only [List.mem_singleton, R.SLOT_STATE]; omega
  have hframe : t.rd R.SCAN_FRAME_SEQ = s.rd R.SCAN_FRAME_SEQ := h R.SCAN_FRAME_SEQ (hout (by decide))
  have hactive : t.fld F.SCAN_V_TIMING_V_ACTIVE = s.fld F.SCAN_V_TIMING_V_ACTIVE := h.fld (hout (by decide))
  have hline : t.fld F.SCAN_LINE_SCAN_LINE = s.fld F.SCAN_LINE_SCAN_LINE := h.fld (hout (by decide))
  have hblank : t.inBlanking = s.inBlanking := by rw [State.inBlanking, hactive, hline, State.inBlanking]
  unfold State.instantFrame
  rw [hframe, hblank]

theorem State.seq_eq_token_div (hn : n < 64) : s.fld (F.SLOT_STATE_SEQ n) = s.token n / 64 := by
  rw [State.token]; omega

/-- What the arrival of the oldest merging commit does where nothing ends it. -/
theorem State.mergeDone_of_arrives {i : Instant} {late : Bool} (hn : n < 64)
    (ha : s.arrivalInstant n (s.slot n).mode (s.slot n).asap (s.rd (R.SLOT_TARGET n)) = (i, late))
    (hhead : s.txn.merging.head? = some n) (hlate : (s.slot n).strictLate = false ∨ late = false)
    (hc : s.conflictWith n i = none) :
    s.mergeDone n =
      if late then
        ((s.arriving n i late).raise 0x13 0).post F.TXN_EVT_RING_RING 0x0102
          [(6, n), (10, s.token n / 64), (32, (s.rd (R.SLOT_TARGET n)).toNat), (32, (s.instantFrame i).toNat)]
      else s.arriving n i late := by
  obtain ⟨hst, hbit, htok, hmerging, harrived, hsame, hother, hregs, hform⟩ := s.arriving_spec (n := n) (i := i) (late := late)
  have hseq : (s.arriving n i late).fld (F.SLOT_STATE_SEQ n) = s.token n / 64 := by rw [State.seq_eq_token_div hn, htok]
  unfold State.mergeDone
  dsimp only
  rw [if_neg (by simp [hhead]), ha, if_neg (by cases hlate <;> simp [*])]
  simp only [hc]
  rw [← hseq, ← hregs.instantFrame]
  rfl

/-- The registers and the slot of a commit without writes that takes effect. -/
def State.committed (s : State) (n : Nat) : State :=
  let late := s.bit (F.SLOT_STATE_LATE n)
  let frame := s.rd R.SCAN_FRAME_SEQ
  let s := s.advanceGen []
  let s := { s with txn := { s.txn with arrived := s.txn.arrived.filter (· != n) } }.setSlot n SlotHid.init
  let s := (((s.setFld (F.SLOT_STATE_STATE n) slFREE).setFld (F.SLOT_WRITES_COUNT n) 0).setFld (F.SLOT_WRITES_CLAMPS n) 0).setFld
    (F.SLOT_FIRST_CLAMP_OFFSET n) 0
  ((s.setFld (F.SLOT_APPLIED_FRAME_FRAME n) frame.toNat).bump F.TXN_COMMITS_COUNT).bump F.TXN_LATE_COUNT (b2n late)

theorem State.applyWrites_nil (slot : Option Nat) (sel : Acc → Bool) : s.applyWrites slot sel [] = s := rfl

theorem State.applyCommit_of_empty (hw : (s.slot n).writes = []) (hd : (s.slot n).held = []) (hf : (s.slot n).flips = [])
    (he : (s.slot n).evt = false) : s.applyCommit n [] = s.committed n := by
  have hflips : s.heldFlips n = [] := by rw [State.heldFlips, hf, hd]; rfl
  unfold State.applyCommit
  dsimp only
  rw [hw, hd, he, hflips]
  rfl

theorem State.committed_spec :
    (s.committed n).fld (F.SLOT_STATE_STATE n) = slFREE ∧ (s.committed n).fld (F.SLOT_WRITES_COUNT n) = 0 ∧
    (s.committed n).fld (F.SLOT_WRITES_CLAMPS n) = 0 ∧
    (s.committed n).fld F.TXN_COMMITS_COUNT = min (s.fld F.TXN_COMMITS_COUNT + 1) (2 ^ 32 - 1) ∧
    (s.committed n).fld F.TXN_LATE_COUNT = min (s.fld F.TXN_LATE_COUNT + b2n (s.bit (F.SLOT_STATE_LATE n))) (2 ^ 32 - 1) ∧
    (s.committed n).fld F.CHIP_CONFIG_GEN_GEN = (s.fld F.CHIP_CONFIG_GEN_GEN + 1) % 2 ^ 32 ∧
    (s.committed n).fld (F.SLOT_APPLIED_FRAME_FRAME n) = (s.rd R.SCAN_FRAME_SEQ).toNat ∧
    (s.committed n).fld F.CHIP_DIGEST_STATUS_BUSY = 1 ∧ (s.committed n).slot n = SlotHid.init ∧
    (∀ m, m ≠ n → (s.committed n).slot m = s.slot m) ∧ (s.committed n).txn.arrived = s.txn.arrived.filter (· != n) ∧
    RegsBut s (s.committed n) [R.SLOT_STATE n, R.SLOT_WRITES n, R.SLOT_FIRST_CLAMP n, R.SLOT_APPLIED_FRAME n,
      R.TXN_COMMITS, R.TXN_LATE, R.CHIP_CONFIG_GEN, R.CHIP_DIGEST_STATUS] ∧
    s.committed n = { s with
      regs := (s.committed n).regs
      txn := { s.txn with slots := (s.committed n).txn.slots, arrived := (s.committed n).txn.arrived } } := by
  obtain ⟨g, hg⟩ : ∃ g, g = s.advanceGen [] := ⟨_, rfl⟩
  obtain ⟨y, hy⟩ : ∃ y : State, y = { g with txn := { g.txn with arrived := g.txn.arrived.filter (· != n) } } := ⟨_, rfl⟩
  obtain ⟨x, hx⟩ : ∃ x, x = y.setSlot n SlotHid.init := ⟨_, rfl⟩
  obtain ⟨v, hv⟩ : ∃ v, v = ((((x.setFld (F.SLOT_STATE_STATE n) slFREE).setFld (F.SLOT_WRITES_COUNT n) 0).setFld
    (F.SLOT_WRITES_CLAMPS n) 0).setFld (F.SLOT_FIRST_CLAMP_OFFSET n) 0).setFld (F.SLOT_APPLIED_FRAME_FRAME n)
      (s.rd R.SCAN_FRAME_SEQ).toNat := ⟨_, rfl⟩
  obtain ⟨u, hu⟩ : ∃ u, u = (v.bump F.TXN_COMMITS_COUNT).bump F.TXN_LATE_COUNT (b2n (s.bit (F.SLOT_STATE_LATE n))) := ⟨_, rfl⟩
  have hform : s.committed n = u := by rw [hu, hv, hx, hy, hg]; rfl
  have hg' : g = (s.setFld F.CHIP_CONFIG_GEN_GEN (s.fld F.CHIP_CONFIG_GEN_GEN + 1)).setFld F.CHIP_DIGEST_STATUS_BUSY 1 := hg
  have hgregs : RegsBut s g [R.CHIP_CONFIG_GEN, R.CHIP_DIGEST_STATUS] := by rw [hg']; exact RegsBut.refl.setFld.setFld
  have hgframe : Frame [.regs, .txn] s g := by rw [hg']; exact Frame.refl.setFld.setFld
  have hyregs : RegsBut g y [] := by rw [hy]; exact RegsBut.refl
  have hxregs : RegsBut g x [] := by rw [hx]; exact hyregs.setSlot
  have hvregs : RegsBut x v [R.SLOT_STATE n, R.SLOT_WRITES n, R.SLOT_FIRST_CLAMP n, R.SLOT_APPLIED_FRAME n] := by
    rw [hv]; exact RegsBut.refl.setFld.setFld.setFld.setFld.setFld
  have huregs : RegsBut v u [R.TXN_COMMITS, R.TXN_LATE] := by rw [hu]; exact RegsBut.refl.bump.bump
  have hyframe : Frame [.regs, .txn] g y := by rw [hy]; exact Frame.refl.then (q := [.txn]) rfl (by decide)
  have hxframe : Frame [.regs, .txn] g x := by rw [hx]; exact hyframe.setSlot
  have huframe : Frame [.regs] x u := by rw [hu, hv]; exact Frame.refl.setFld.setFld.setFld.setFld.setFld.bump.bump
  have hslot : u.slot = x.slot := huframe.get State.slot
  have htxn : u.txn = x.txn := huframe.get State.txn
  have hgtxn : g.txn = s.txn := by rw [hg']; rfl
  have hyslot : y.slot = s.slot := by rw [hy]; exact (congrArg (fun t : Txn => SMap.get slotDefault t.slots) hgtxn :)
  have hvflds : v.fld (F.SLOT_STATE_STATE n) = slFREE ∧ v.fld (F.SLOT_WRITES_COUNT n) = 0 ∧
      v.fld (F.SLOT_WRITES_CLAMPS n) = 0 ∧ v.fld (F.SLOT_APPLIED_FRAME_FRAME n) = (s.rd R.SCAN_FRAME_SEQ).toNat := by
    rw [hv]
    simp (disch := simp) only [State.fld_setFld_other, State.fld_setFld_same]
    exact ⟨rfl, rfl, rfl, Nat.mod_eq_of_lt (s.rd R.SCAN_FRAME_SEQ).isLt⟩
  have huflds : u.fld F.TXN_COMMITS_COUNT = min (v.fld F.TXN_COMMITS_COUNT + 1) (2 ^ 32 - 1) ∧
      u.fld F.TXN_LATE_COUNT = min (v.fld F.TXN_LATE_COUNT + b2n (s.bit (F.SLOT_STATE_LATE n))) (2 ^ 32 - 1) := by
    rw [hu]
    simp (disch := simp) only [State.fld_bump_other, State.fld_bump_same, and_self]
  have hgflds : g.fld F.CHIP_CONFIG_GEN_GEN = (s.fld F.CHIP_CONFIG_GEN_GEN + 1) % 2 ^ 32 ∧ g.fld F.CHIP_DIGEST_STATUS_BUSY = 1 := by
    rw [hg']
    simp (disch := simp) only [State.fld_setFld_other, State.fld_setFld_same]
    exact ⟨trivial, rfl⟩
  obtain ⟨hst, hcnt, hclm, happ⟩ := hvflds
  obtain ⟨hcommits, hlate⟩ := huflds
  have hslotoff (o : Nat) : (0x150000 + o) + 0x20 * n ∉ [R.TXN_COMMITS, R.TXN_LATE] := by
    simp only [List.mem_cons, List.not_mem_nil, or_false, R.TXN_COMMITS, R.TXN_LATE]; omega
  have hlow {k : Nat} (hk : k < 0x150000) :
      k ∉ [R.SLOT_STATE n, R.SLOT_WRITES n, R.SLOT_FIRST_CLAMP n, R.SLOT_APPLIED_FRAME n] := by
    simp only [List.mem_cons, List.not_mem_nil, or_false, R.SLOT_STATE, R.SLOT_WRITES, R.SLOT_FIRST_CLAMP, R.SLOT_APPLIED_FRAME]
    omega
  have hvg {f : Fld} (hf : f.off < 0x150000) : v.fld f = g.fld f := (hvregs.fld (hlow hf)).trans (hxregs.fld (by simp))
  have hall : RegsBut s u [R.SLOT_STATE n, R.SLOT_WRITES n, R.SLOT_FIRST_CLAMP n, R.SLOT_APPLIED_FRAME n, R.TXN_COMMITS,
      R.TXN_LATE, R.CHIP_CONFIG_GEN, R.CHIP_DIGEST_STATUS] := by
    intro k hk
    simp only [List.mem_cons, List.not_mem_nil, or_false, not_or] at hk
    obtain ⟨h1, h2, h3, h4, h5, h6, h7, h8⟩ := hk
    rw [huregs k (by simp [h5, h6]), hvregs k (by simp [h1, h2, h3, h4]), hxregs k (by simp), hgregs k (by simp [h7, h8])]
  rw [hform]
  refine ⟨(huregs.fld (hslotoff 0x10)).trans hst, (huregs.fld (hslotoff 0x14)).trans hcnt, (huregs.fld (hslotoff 0x14)).trans hclm,
    ?_, ?_, ?_, (huregs.fld (hslotoff 0x18)).trans happ, ?_, by rw [hslot, hx, State.slot_setSlot_same],
    fun m hm => by rw [hslot, hx, State.slot_setSlot_other _ hm, hyslot], by rw [htxn, hx, hy]; exact congrArg (fun t : Txn => t.arrived.filter (· != n)) hgtxn, hall, ?_⟩
  · rw [hcommits, hvg (by decide), hgregs.fld (by decide)]
  · rw [hlate, hvg (by decide), hgregs.fld (by decide)]
  · rw [huregs.fld (by decide), hvg (by decide), hgflds.1]
  · rw [huregs.fld (by decide), hvg (by decide), hgflds.2]
  · refine ((hgframe.trans hxframe).then huframe (by decide)).withTxn ?_
    rw [htxn, hx, hy, ← hgtxn]; rfl

end

/-- Settles O27: an arrival, a switch and a commit without writes, each by the lemma that says what it does. -/
theorem commitsTakeEffect : Obligations.CommitsTakeEffect := by
  refine ⟨fun s n i late hruns ha => ⟨fun hhead hlate hc => ?arrives, fun hhead hstrict hlate => ?late, fun o hhead hlate hc => ?conflict, fun hhead => ?other⟩,
    fun s n => ⟨fun hst hi => ?now, fun hno => ?idle⟩, fun s n hn hw hd hf he => ?empty⟩
  case arrives =>
    obtain ⟨hst, hbit, htok, hmerging, harrived, hsame, hother, hregs, hform⟩ := s.arriving_spec (n := n.toNat) (i := i) (late := late)
    refine ⟨_, hst, hbit, htok, hmerging, harrived, hsame, hother, hregs, hform, congrArg Host.Outcome.next ?_⟩
    rw [State.flow_of_runs hruns, State.mergeDone_of_arrives n.isLt ha hhead hlate hc]
  case late =>
    refine ⟨_, txnEnded_txnAborted n.isLt (by decide), congrArg Host.Outcome.next ?_⟩
    have hdone : s.mergeDone n.toNat = s.abortTxn n.toNat 5 (s.instantFrame i) := by
      unfold State.mergeDone
      dsimp only
      rw [if_neg (by simp [hhead]), ha, if_pos (by simp [hstrict, hlate])]
    rw [State.flow_of_runs hruns, hdone, State.abortTxn_eq n.isLt (by decide)]
  case conflict =>
    refine ⟨_, txnEnded_txnAborted n.isLt (by decide), congrArg Host.Outcome.next ?_⟩
    have hdone : s.mergeDone n.toNat = s.abortTxn n.toNat 1 (BitVec.ofNat 32 o) := by
      unfold State.mergeDone
      dsimp only
      rw [if_neg (by simp [hhead]), ha, if_neg (by cases hlate <;> simp [*])]
      simp only [hc]
    rw [State.flow_of_runs hruns, hdone, State.abortTxn_eq n.isLt (by decide)]
  case other =>
    refine congrArg Host.Outcome.next ?_
    have hdone : s.mergeDone n.toNat = s := by
      unfold State.mergeDone
      exact if_pos (by simpa using hhead)
    rw [State.flow_of_runs hruns, hdone]
  case now =>
    refine ⟨congrArg (fun t : State => Host.Outcome.next t.scanRun) (if_pos (by simp [hst, hi])), fun hall => ?_⟩
    have hnone : s.nowWaiting.takeWhile (· != n.toNat) = [] := by
      cases hl : s.nowWaiting with
      | nil => rfl
      | cons m ms =>
        have hm : m = n.toNat := hall m (by rw [hl]; exact List.mem_cons_self ..)
        simp [hm]
    rw [State.nowUpTo, hnone]; rfl
  case idle =>
    exact congrArg (fun t : State => Host.Outcome.next t.scanRun) (if_neg (by simpa [or_iff_not_imp_left] using hno))
  case empty =>
    rw [State.applyCommit_of_empty hw hd hf he]
    exact s.committed_spec

end Sys2Proof.Machine

/-! ### Digests and audits (R94 to R99) -/

namespace Sys2Proof.Machine

-- A proof that fills in an argument by its default tactic waits for all that stands before it: checked in order, none waits.
set_option Elab.async false

section
variable {s : State}

/-- A register-wise fold: each step writes one register of its own, with a value that the other steps do not disturb. -/
theorem State.rd_each_of_stable {α : Type} {xs : List α} {f : State → α → State} {o : α → Nat} {g : State → α → Word}
    (hnd : (xs.map o).Nodup) (hregs : ∀ u, ∀ x ∈ xs, RegsBut u (f u x) [o x]) (hval : ∀ u, ∀ x ∈ xs, (f u x).rd (o x) = g u x)
    (hstable : ∀ u, ∀ x ∈ xs, ∀ y ∈ xs, o y ≠ o x → g (f u x) y = g u y) (s : State) :
    (∀ x ∈ xs, (s.each xs f).rd (o x) = g s x) ∧ RegsBut s (s.each xs f) (xs.map o) := by
  induction xs generalizing s with
  | nil => exact ⟨fun _ h => absurd h (List.not_mem_nil), .refl⟩
  | cons x xs ih =>
    rw [List.map_cons, List.nodup_cons] at hnd
    obtain ⟨hx, hnd⟩ := hnd
    obtain ⟨hrd, hbut⟩ := ih hnd (fun u y hy => hregs u y (List.mem_cons_of_mem _ hy))
      (fun u y hy => hval u y (List.mem_cons_of_mem _ hy))
      (fun u y hy z hz => hstable u y (List.mem_cons_of_mem _ hy) z (List.mem_cons_of_mem _ hz)) (f s x)
    have hmem : x ∈ x :: xs := List.mem_cons_self ..
    refine ⟨fun y hy => ?_, fun k hk => ?_⟩
    · obtain rfl | hy := List.mem_cons.mp hy
      · exact (hbut _ hx).trans (hval s y hmem)
      · have hne : o y ≠ o x := fun h => hx (h ▸ List.mem_map_of_mem hy)
        exact (hrd y hy).trans (hstable s x hmem y (List.mem_cons_of_mem _ hy) hne)
    · rw [List.map_cons, List.mem_cons, not_or] at hk
      exact (hbut k hk.2).trans (hregs s x hmem k (by simpa using hk.1))

theorem putBits_word (x v : Word) : putBits x 0 32 v.toNat = v := by
  apply BitVec.eq_of_toNat_eq
  have h := bitsOf_putBits_same x 0 32 v.toNat (by decide)
  simp only [bitsOf, Nat.pow_zero, Nat.div_one] at h
  rwa [Nat.mod_eq_of_lt (putBits x 0 32 v.toNat).isLt, Nat.mod_eq_of_lt v.isLt] at h

theorem State.rd_setFld_word (off : Nat) (v : Word) : (s.setFld ⟨off, 0, 32⟩ v.toNat).rd off = v := by
  rw [State.setFld, State.rd_wr_same, putBits_word]

/-! #### What a digest covers -/

theorem SMap.insert_fst_lt {β : Type} {m : SMap β} {k b : Nat} {v : β} (hk : k < b) (h : ∀ e ∈ m, e.1 < b) :
    ∀ e ∈ SMap.insert m k v, e.1 < b := by
  intro e he
  obtain rfl | he := (SMap.mem_insertSorted _ _ _ _).mp he
  · exact hk
  · exact h e (List.mem_of_mem_filter (by rwa [← SMap.erase_eq_filter]))

theorem rwsMasks_fst_lt (p : Nat) : ∀ e ∈ rwsMasks p, e.1 < 0x1000 := by
  unfold rwsMasks
  dsimp only
  refine List.foldlRecOn _ _ (motive := fun m : SMap Nat => ∀ e ∈ m, e.1 < 0x1000) (by simp) fun m hm f _ => ?_
  split
  · refine List.foldlRecOn _ _ (motive := fun m : SMap Nat => ∀ e ∈ m, e.1 < 0x1000) hm fun m hm i _ => ?_
    split
    · exact hm
    · exact SMap.insert_fst_lt (Nat.mod_lt _ (by decide)) hm
  · exact hm

/-- A page's digest looks at the registers of the page alone. -/
theorem digestOf_congr {p : Nat} {f g : Nat → Word} (h : ∀ o, o < 0x1000 → f o = g o) : digestOf p f = digestOf p g := by
  have hlist : ∀ ms : SMap Nat, (∀ e ∈ ms, e.1 < 0x1000) →
      (ms.flatMap fun e => leBytes 4 (f e.1 &&& BitVec.ofNat 32 e.2).toNat) =
        ms.flatMap fun e => leBytes 4 (g e.1 &&& BitVec.ofNat 32 e.2).toNat := by
    intro ms hms
    refine List.flatMap_congr fun e he => ?_
    rw [h e.1 (hms e he)]
  have hlt := rwsMasks_fst_lt p
  unfold digestOf
  split
  · rfl
  · next ms heq => rw [hlist _ hlt]

/-- The DIGEST register of a page. -/
def digestReg (p : Nat) : Nat := p * 0x1000 + 0x34

theorem State.rd_holdDigest (u : State) (p : Nat) : (u.holdDigest p).rd (digestReg p) = u.pageDigest p :=
  State.rd_setFld_word (digestReg p) _

theorem State.regsBut_holdDigest (u : State) (p : Nat) : RegsBut u (u.holdDigest p) [digestReg p] :=
  RegsBut.refl.setFld (List.mem_singleton_self _)

theorem State.pageDigest_holdDigest (u : State) {p q : Nat} (h : digestReg q ≠ digestReg p) :
    (u.holdDigest p).pageDigest q = u.pageDigest q := by
  refine digestOf_congr fun o ho => u.regsBut_holdDigest p _ ?_
  simp only [digestReg, List.mem_singleton] at h ⊢
  omega

theorem digestReg_injective : Function.Injective digestReg := fun a b h => by simp only [digestReg] at h; omega

/-- Every page that is ON has its digest computed: each holds the digest of the registers as they stood. -/
theorem State.rd_each_holdDigest {ps : List Nat} (hnd : ps.Nodup) :
    (∀ p ∈ ps, (s.each ps State.holdDigest).rd (digestReg p) = s.pageDigest p) ∧
    RegsBut s (s.each ps State.holdDigest) (ps.map digestReg) :=
  State.rd_each_of_stable (hnd.map digestReg_injective) (fun u p _ => u.regsBut_holdDigest p) (fun u p _ => u.rd_holdDigest p)
    (fun u _ _ _ _ hne => u.pageDigest_holdDigest hne) s

/-- The digest of a region is written. -/
def State.holdRegion (s : State) (n : Nat) : State := s.setFld (F.CHIP_REGION_DIGESTn_DIGEST n) (s.regionDigest n).toNat

theorem State.regsBut_holdRegion (u : State) (n : Nat) : RegsBut u (u.holdRegion n) [R.CHIP_REGION_DIGESTn n] :=
  RegsBut.refl.setFld (List.mem_singleton_self _)

theorem RegsBut.regionDigest {t : State} {l : List Nat} (h : RegsBut s t l) (hl : ∀ p, digestReg p ∉ l) (n : Nat) :
    t.regionDigest n = s.regionDigest n := by
  have hheld : t.heldDigest = s.heldDigest := funext fun p => h _ (hl p)
  rw [State.regionDigest, hheld, State.regionDigest]

/-- The registers of region digests and of the chip's are no DIGEST register of a page. -/
theorem digestReg_ne {k p : Nat} (h : k < 0x1000 ∧ k ≠ 0x34) : digestReg p ≠ k := by simp only [digestReg]; omega

theorem State.rd_each_holdRegion :
    (∀ n, n < 6 → (s.each (List.range 6) State.holdRegion).rd (R.CHIP_REGION_DIGESTn n) = s.regionDigest n) ∧
    RegsBut s (s.each (List.range 6) State.holdRegion) ((List.range 6).map R.CHIP_REGION_DIGESTn) := by
  have h := State.rd_each_of_stable (f := State.holdRegion) (o := R.CHIP_REGION_DIGESTn) (g := State.regionDigest)
    (xs := List.range 6) (by decide) (fun u n _ => u.regsBut_holdRegion n) (fun u n _ => State.rd_setFld_word (R.CHIP_REGION_DIGESTn n) _)
    (fun u n hn m _ _ => (u.regsBut_holdRegion n).regionDigest (fun p => ?_) m) s
  · exact ⟨fun n hn => h.1 n (List.mem_range.mpr hn), h.2⟩
  · have := List.mem_range.mp hn
    simp only [List.mem_singleton]
    exact digestReg_ne (by simp only [R.CHIP_REGION_DIGESTn]; omega)

/-- The refresh, after the pages and the regions. -/
def State.digestsEnd (s : State) : State :=
  let s := s.setFld F.CHIP_CONFIG_DIGEST_DIGEST s.chipDigest.toNat
  (s.setFld F.CHIP_DIGEST_GEN_GEN (s.fld F.CHIP_CONFIG_GEN_GEN)).setFld F.CHIP_DIGEST_STATUS_BUSY 0

theorem State.digestRefreshDone_of_busy (h : s.bit F.CHIP_DIGEST_STATUS_BUSY = true) :
    s.digestRefreshDone = ((s.each (pageList.filter fun p => s.domOn (pageDomain p)) State.holdDigest).each (List.range 6)
      State.holdRegion).digestsEnd := if_neg (by simp [h])

theorem State.regsBut_digestsEnd :
    RegsBut s s.digestsEnd [R.CHIP_CONFIG_DIGEST, R.CHIP_DIGEST_GEN, R.CHIP_DIGEST_STATUS] :=
  RegsBut.refl.setFld.setFld.setFld

theorem State.digestsEnd_flds :
    s.digestsEnd.rd R.CHIP_CONFIG_DIGEST = s.chipDigest ∧ s.digestsEnd.bit F.CHIP_DIGEST_STATUS_BUSY = false ∧
    s.digestsEnd.fld F.CHIP_DIGEST_GEN_GEN = s.fld F.CHIP_CONFIG_GEN_GEN := by
  obtain ⟨x, hx⟩ : ∃ x, x = s.setFld F.CHIP_CONFIG_DIGEST_DIGEST s.chipDigest.toNat := ⟨_, rfl⟩
  have hxregs : RegsBut s x [R.CHIP_CONFIG_DIGEST] := by rw [hx]; exact RegsBut.refl.setFld
  have hform : s.digestsEnd = (x.setFld F.CHIP_DIGEST_GEN_GEN (x.fld F.CHIP_CONFIG_GEN_GEN)).setFld F.CHIP_DIGEST_STATUS_BUSY 0 := by
    rw [hx]; rfl
  have hrest : RegsBut x s.digestsEnd [R.CHIP_DIGEST_GEN, R.CHIP_DIGEST_STATUS] := by rw [hform]; exact RegsBut.refl.setFld.setFld
  have hgen : x.fld F.CHIP_CONFIG_GEN_GEN = s.fld F.CHIP_CONFIG_GEN_GEN := hxregs.fld (by decide)
  refine ⟨?_, ?_, ?_⟩
  · rw [hrest _ (by decide), hx]; exact State.rd_setFld_word R.CHIP_CONFIG_DIGEST _
  · rw [hform, State.bit, State.fld_setFld_same _ _ _ (by decide)]; rfl
  · rw [hform, State.fld_setFld_other _ _ _ _ (by decide), State.fld_setFld_same _ _ _ (by decide), hgen]
    exact Nat.mod_eq_of_lt (bitsOf_lt _ _ _)

theorem State.digestRefreshDone_spec (h : s.bit F.CHIP_DIGEST_STATUS_BUSY = true) :
    (∀ p ∈ pageList, s.digestRefreshDone.rd (digestReg p) =
      if s.domOn (pageDomain p) then s.pageDigest p else s.rd (digestReg p)) ∧
    (∀ n, n < 6 → s.digestRefreshDone.rd (R.CHIP_REGION_DIGESTn n) = s.digestRefreshDone.regionDigest n) ∧
    s.digestRefreshDone.rd R.CHIP_CONFIG_DIGEST = s.digestRefreshDone.chipDigest ∧
    s.digestRefreshDone.bit F.CHIP_DIGEST_STATUS_BUSY = false ∧
    s.digestRefreshDone.fld F.CHIP_DIGEST_GEN_GEN = s.fld F.CHIP_CONFIG_GEN_GEN ∧
    RegsBut s s.digestRefreshDone (pageList.map digestReg ++ (List.range 6).map R.CHIP_REGION_DIGESTn ++
      [R.CHIP_CONFIG_DIGEST, R.CHIP_DIGEST_GEN, R.CHIP_DIGEST_STATUS]) ∧
    SameButRegs s s.digestRefreshDone := by
  obtain ⟨ps, hps⟩ : ∃ ps, ps = pageList.filter fun p => s.domOn (pageDomain p) := ⟨_, rfl⟩
  obtain ⟨u, hu⟩ : ∃ u, u = s.each ps State.holdDigest := ⟨_, rfl⟩
  obtain ⟨v, hv⟩ : ∃ v, v = u.each (List.range 6) State.holdRegion := ⟨_, rfl⟩
  have hform : s.digestRefreshDone = v.digestsEnd := by rw [State.digestRefreshDone_of_busy h, hv, hu, hps]
  have hsub : ps.Sublist pageList := by rw [hps]; exact List.filter_sublist
  have hpages := s.rd_each_holdDigest (hsub.nodup (by decide))
  have hregions := u.rd_each_holdRegion
  rw [← hu] at hpages
  rw [← hv] at hregions
  obtain ⟨hpage, hpregs⟩ := hpages
  obtain ⟨hregion, hrregs⟩ := hregions
  obtain ⟨t, ht⟩ : ∃ t, t = v.digestsEnd := ⟨_, rfl⟩
  have heregs := v.regsBut_digestsEnd
  obtain ⟨hchip, hbusy, hgen⟩ := v.digestsEnd_flds
  rw [← ht] at hchip hbusy hgen heregs
  have hend (p : Nat) : digestReg p ∉ [R.CHIP_CONFIG_DIGEST, R.CHIP_DIGEST_GEN, R.CHIP_DIGEST_STATUS] := by
    simp only [List.mem_cons, List.not_mem_nil, or_false, digestReg, R.CHIP_CONFIG_DIGEST, R.CHIP_DIGEST_GEN,
      R.CHIP_DIGEST_STATUS]
    omega
  have hmid (p : Nat) : digestReg p ∉ (List.range 6).map R.CHIP_REGION_DIGESTn := by
    simp only [List.mem_map, List.mem_range, R.CHIP_REGION_DIGESTn, digestReg]; omega
  have hlow {k : Nat} (hk : k < 0x1000 ∧ k ≠ 0x34) : k ∉ ps.map digestReg := by
    simp only [List.mem_map, not_exists, not_and]
    exact fun p _ => digestReg_ne hk
  have hreg (n : Nat) (hn : n < 6) :
      R.CHIP_REGION_DIGESTn n ∉ [R.CHIP_CONFIG_DIGEST, R.CHIP_DIGEST_GEN, R.CHIP_DIGEST_STATUS] := by
    simp only [List.mem_cons, List.not_mem_nil, or_false, R.CHIP_REGION_DIGESTn, R.CHIP_CONFIG_DIGEST, R.CHIP_DIGEST_GEN,
      R.CHIP_DIGEST_STATUS]
    omega
  rw [hform, ← ht]
  refine ⟨fun p hp => ?_, fun n hn => ?_, ?_, hbusy, ?_, fun k hk => ?_, ?_⟩
  · rw [heregs _ (hend p), hrregs _ (hmid p)]
    by_cases hon : s.domOn (pageDomain p) = true
    · rw [if_pos hon]
      exact hpage p (by rw [hps]; exact List.mem_filter.mpr ⟨hp, hon⟩)
    · rw [if_neg hon]
      refine hpregs _ ?_
      rw [hps]
      simp only [List.mem_map, List.mem_filter, not_exists, not_and, and_imp]
      exact fun q _ hq he => hon (digestReg_injective he ▸ hq)
  · rw [heregs _ (hreg n hn), hregion n hn, heregs.regionDigest hend, hrregs.regionDigest hmid]
  · have hlist : (List.range 6).map (fun n => t.rd (R.CHIP_REGION_DIGESTn n)) =
        (List.range 6).map fun n => v.rd (R.CHIP_REGION_DIGESTn n) :=
      List.map_congr_left fun n hn => heregs _ (hreg n (List.mem_range.mp hn))
    rw [hchip, State.chipDigest, State.chipDigest, hlist, State.heldDigest, State.heldDigest, State.heldDigest, State.heldDigest,
      heregs _ (by decide), heregs _ (by decide)]
  · rw [hgen, hrregs.fld (by decide), hpregs.fld (hlow (by decide))]
  · rw [List.mem_append, List.mem_append, not_or, not_or] at hk
    obtain ⟨⟨hk1, hk2⟩, hk3⟩ := hk
    rw [heregs k hk3, hrregs k hk2, hpregs k fun hc => hk1 ((hsub.map _).subset hc)]
  · have hframe : Frame [.regs] s t := by
      rw [ht, hv, hu]
      exact (((Frame.refl.each fun _ _ _ h => h.setFld).each fun _ _ _ h => h.setFld).setFld.setFld).setFld
    exact hframe

/-! #### Audits -/

theorem State.auditStart_spec :
    s.auditStart.bit F.CHIP_AUDIT_STATUS_BUSY = true ∧ RegsBut s s.auditStart [R.CHIP_AUDIT_STATUS] ∧ SameButRegs s s.auditStart := by
  unfold State.auditStart
  split
  · exact ⟨‹_›, .refl, .refl s⟩
  · refine ⟨?_, RegsBut.refl.setFld, sameButRegs_setFld s _ _⟩
    rw [State.bit, State.fld_setFld_same _ _ _ (by decide)]; rfl

/-- A register of plain fields that nothing checks takes the fields that are written. -/
theorem State.rwWrite_auditCtrl (v : Word) :
    s.rwWrite s none .pcie selNow R.CHIP_AUDIT_CTRL v =
      { s.setFld F.CHIP_AUDIT_CTRL_PERIOD (bitsOf v 0 16) with txn := { s.txn with auditCount := 0 } } := by
  have hfs : (fieldsAt R.CHIP_AUDIT_CTRL).filter (fun f => selNow f.acc) = [⟨R.CHIP_AUDIT_CTRL, 0, 1, 0, 16, .rw, 0, .cold, .any⟩] := by
    decide
  have hchk : s.checkIn s selNow R.CHIP_AUDIT_CTRL v = ⟨putBits (s.rd R.CHIP_AUDIT_CTRL) 0 16 (bitsOf v 0 16), false, false⟩ := by
    have hspecial (c : Chk) : chkSpecial s (s.rd R.CHIP_AUDIT_CTRL) R.CHIP_AUDIT_CTRL c = c := rfl
    rw [State.checkIn, hspecial, State.ownCheck, hfs]
    rfl
  have hheld : s.applyHeld s none selNow R.CHIP_AUDIT_CTRL v = s.setFld F.CHIP_AUDIT_CTRL_PERIOD (bitsOf v 0 16) := by
    rw [State.applyHeld, hchk]; rfl
  have hform : s.rwWrite s none .pcie selNow R.CHIP_AUDIT_CTRL v =
      ((s.applyHeld s none selNow R.CHIP_AUDIT_CTRL v).dependents none R.CHIP_AUDIT_CTRL).rwEffect R.CHIP_AUDIT_CTRL := rfl
  rw [hform, hheld]
  rfl

/-- The bits of the regions whose digests differ. -/
def State.auditMask (s : State) (r : List Word) : Nat :=
  (List.range 6).foldl (fun a n => if s.rd (R.CHIP_REGION_DIGESTn n) = r.getD (2 + n) 0 then a else a + 2 ^ n) 0

/-- A mask built bit by bit, in ascending order of the bits. -/
theorem mask_foldl (c : Nat → Bool) (k : Nat) :
    (List.range k).foldl (fun a n => if c n then a else a + 2 ^ n) 0 < 2 ^ k ∧
    ∀ n, n < k → ((List.range k).foldl (fun a n => if c n then a else a + 2 ^ n) 0).testBit n = !c n := by
  induction k with
  | zero => exact ⟨by simp, fun n hn => absurd hn (Nat.not_lt_zero n)⟩
  | succ k ih =>
    obtain ⟨hlt, hbits⟩ := ih
    rw [List.range_succ, List.foldl_append, List.foldl_cons, List.foldl_nil]
    obtain ⟨m, hm⟩ : ∃ m, m = (List.range k).foldl (fun a n => if c n then a else a + 2 ^ n) 0 := ⟨_, rfl⟩
    rw [← hm] at hlt hbits ⊢
    have hpow : 2 ^ (k + 1) = 2 ^ k + 2 ^ k := by rw [pow_succ, mul_two]
    cases hc : c k
    · refine ⟨by simp only [Bool.false_eq_true, reduceIte]; omega, fun n hn => ?_⟩
      rw [if_neg (by simp), Nat.add_comm]
      obtain hn | rfl := Nat.lt_succ_iff_lt_or_eq.mp hn
      · rw [Nat.testBit_two_pow_add_gt hn, hbits n hn]
      · rw [Nat.testBit_two_pow_add_eq, Nat.testBit_lt_two_pow hlt, hc]
    · refine ⟨by simp only [reduceIte]; omega, fun n hn => ?_⟩
      rw [if_pos rfl]
      obtain hn | rfl := Nat.lt_succ_iff_lt_or_eq.mp hn
      · exact hbits n hn
      · rw [Nat.testBit_lt_two_pow hlt, hc]; rfl

theorem State.auditMask_spec (r : List Word) :
    s.auditMask r < 64 ∧
    (∀ n, n < 6 → (s.auditMask r).testBit n = decide (s.rd (R.CHIP_REGION_DIGESTn n) ≠ r.getD (2 + n) 0)) ∧
    (s.auditMask r = 0 ↔ ((List.range 6).all fun n => s.rd (R.CHIP_REGION_DIGESTn n) == r.getD (2 + n) 0) = true) := by
  have h := mask_foldl (fun n => s.rd (R.CHIP_REGION_DIGESTn n) == r.getD (2 + n) 0) 6
  simp only [beq_iff_eq] at h
  obtain ⟨hlt, hbits⟩ := h
  have hbits' (n : Nat) (hn : n < 6) :
      (s.auditMask r).testBit n = decide (s.rd (R.CHIP_REGION_DIGESTn n) ≠ r.getD (2 + n) 0) := by
    rw [State.auditMask, hbits n hn, decide_not, ← beq_eq_decide]
  refine ⟨hlt, hbits', fun h0 => ?_, fun hall => ?_⟩
  · rw [List.all_eq_true]
    intro n hn
    have := hbits' n (List.mem_range.mp hn)
    rw [h0, Nat.zero_testBit] at this
    simpa using this.symm
  · refine Nat.eq_of_testBit_eq fun n => ?_
    rw [Nat.zero_testBit]
    by_cases hn : n < 6
    · rw [hbits' n hn]
      simpa using List.all_eq_true.mp hall n (List.mem_range.mpr hn)
    · exact Nat.testBit_lt_two_pow (hlt.trans_le (Nat.pow_le_pow_right (by decide) (by omega)))

theorem bitOf_ofNat_of_lt {m n : Nat} (h : m < 64) : bitOf (BitVec.ofNat 32 m) n = m.testBit n := by
  rw [bitOf, bitsOf, BitVec.toNat_ofNat, Nat.mod_eq_of_lt (show m < 2 ^ 32 by omega),
    Nat.testBit_eq_decide_div_mod_eq]
  rfl

/-- Of the registers of pages, events change INT_STATUS, LINK_STATUS and LOST_TOTAL. -/
theorem eventReg_of_low {r k : Nat} (h : k < 0x100000 ∧ k % 0x1000 ≠ 0x0C ∧ k ≠ R.PCIEX_LINK_STATUS ∧ k ≠ R.EVT_LOST_TOTAL) :
    eventReg r k = false := by
  obtain ⟨hk, hint, hlink, hlost⟩ := h
  have : ¬0x140000 + 0x20 * r ≤ k := by omega
  simp [eventReg, hint, hlink, hlost, this]

/-- What an audit against a record does, from the state in which BUSY has ended. -/
theorem State.auditJudge_spec (r : List Word) :
    (s.auditJudge r).fld F.CHIP_AUDIT_STATUS_BUSY = s.fld F.CHIP_AUDIT_STATUS_BUSY ∧
    (s.auditJudge r).fld F.CHIP_AUDIT_STATUS_REGIONS = s.auditMask r ∧
    (s.auditJudge r).fld F.CHIP_AUDIT_STATUS_RESULT = (if s.rd R.CHIP_CONFIG_DIGEST = r.getD 1 0 ∧ s.auditMask r = 0 then 1 else 2) ∧
    RegsButEvents (s.fld F.CHIP_AUDIT_EVT_RING) s (s.auditJudge r) [R.CHIP_AUDIT_STATUS] ∧ SameButEvents s (s.auditJudge r) := by
  obtain ⟨u, hu⟩ : ∃ u, u = s.setFld F.CHIP_AUDIT_STATUS_REGIONS (s.auditMask r) := ⟨_, rfl⟩
  have huregs : RegsBut s u [R.CHIP_AUDIT_STATUS] := by rw [hu]; exact RegsBut.refl.setFld
  have huframe : Frame [.regs] s u := by rw [hu]; exact Frame.refl.setFld
  have hlt := (s.auditMask_spec r).1
  have hflds : u.fld F.CHIP_AUDIT_STATUS_BUSY = s.fld F.CHIP_AUDIT_STATUS_BUSY ∧
      u.fld F.CHIP_AUDIT_STATUS_REGIONS = s.auditMask r := by
    rw [hu, State.fld_setFld_other _ _ _ _ (by decide), State.fld_setFld_same _ _ _ (by decide)]
    exact ⟨rfl, Nat.mod_eq_of_lt hlt⟩
  obtain ⟨hbusy, hmask⟩ := hflds
  have hring : u.fld F.CHIP_AUDIT_EVT_RING = s.fld F.CHIP_AUDIT_EVT_RING := huregs.fld (by decide)
  have hconf : u.rd R.CHIP_CONFIG_DIGEST = s.rd R.CHIP_CONFIG_DIGEST := huregs _ (by decide)
  by_cases hgood : s.rd R.CHIP_CONFIG_DIGEST = r.getD 1 0 ∧ s.auditMask r = 0
  · have hform : s.auditJudge r = u.setFld F.CHIP_AUDIT_STATUS_RESULT 1 := by
      rw [State.auditJudge]
      rw [← State.auditMask, ← hu, hconf, if_pos (by simpa using hgood)]
    have hset : RegsBut s (u.setFld F.CHIP_AUDIT_STATUS_RESULT 1) [R.CHIP_AUDIT_STATUS] := huregs.setFld
    rw [hform, if_pos hgood]
    refine ⟨by rw [State.fld_setFld_other _ _ _ _ (by decide), hbusy], by rw [State.fld_setFld_other _ _ _ _ (by decide), hmask],
      State.fld_setFld_same _ _ _ (by decide), fun k hk _ => hset k hk, ?_⟩
    exact (huframe.mono (p := [.regs, .sent, .pcie, .summaryOwed, .rings]) (by decide)).setFld
  · obtain ⟨x, hx⟩ : ∃ x, x = u.setFld F.CHIP_AUDIT_STATUS_RESULT 2 := ⟨_, rfl⟩
    have hxregs : RegsBut s x [R.CHIP_AUDIT_STATUS] := by rw [hx]; exact huregs.setFld
    have hxframe : Frame [.regs, .sent, .pcie, .summaryOwed, .rings] s x := by rw [hx]; exact (huframe.mono (by decide)).setFld
    obtain ⟨y, hy⟩ : ∃ y, y = x.raise 0x00 4 := ⟨_, rfl⟩
    have hyregs : RegsBut x y [0x0C] := by rw [hy]; exact RegsBut.refl.raise
    obtain ⟨fs, hform⟩ : ∃ fs, s.auditJudge r = y.post F.CHIP_AUDIT_EVT_RING 0x0103 fs := by
      rw [State.auditJudge]
      rw [← State.auditMask, ← hu, hconf, if_neg (by simpa using hgood), ← hx, ← hy]
      exact ⟨_, rfl⟩
    have hyring : y.fld F.CHIP_AUDIT_EVT_RING = s.fld F.CHIP_AUDIT_EVT_RING := by
      rw [hyregs.fld (by decide), hxregs.fld (by decide)]
    have hpost : RegsButEvents (s.fld F.CHIP_AUDIT_EVT_RING) x (s.auditJudge r) [] := by
      rw [hform, ← hyring]
      intro k _ he
      exact (State.rd_post _ _ _ _ k he).trans (hyregs k fun hk => by
        rw [List.mem_singleton.mp hk] at he
        exact absurd he (by simp [eventReg]))
    have hstatus {f : Fld} (hf : f.off = R.CHIP_AUDIT_STATUS) : (s.auditJudge r).fld f = x.fld f := by
      have hev : eventReg (s.fld F.CHIP_AUDIT_EVT_RING) f.off = false := by rw [hf]; exact eventReg_of_low (by decide)
      rw [State.fld, hpost _ (by simp) hev, State.fld]
    rw [if_neg hgood]
    refine ⟨?_, ?_, ?_, ?_, ?_⟩
    · rw [hstatus rfl, hx, State.fld_setFld_other _ _ _ _ (by decide), hbusy]
    · rw [hstatus rfl, hx, State.fld_setFld_other _ _ _ _ (by decide), hmask]
    · rw [hstatus rfl, hx, State.fld_setFld_same _ _ _ (by decide)]; rfl
    · exact fun k hk he => (hpost k (by simp) he).trans (hxregs k hk)
    · rw [hform, hy]
      exact hxframe.raise.post

end

/-- Settles O28: the refresh, and what starts, ends and configures audits. -/
theorem digestsAndAuditsAct : Obligations.DigestsAndAuditsAct := by
  refine ⟨fun s => ⟨fun hbusy => ?idle, fun hbusy => ?refresh⟩, fun s => ⟨fun v hserves => ?go, fun hdue => ?periodic,
    fun hbusy hdig hgen => ⟨fun hnone => ?norecord, fun r hsome => ?judge⟩, fun v hserves => ?ctrl⟩⟩
  case idle => exact congrArg Host.Outcome.next (if_pos (by simp [hbusy]))
  case refresh => exact ⟨_, rfl, State.digestRefreshDone_spec hbusy⟩
  case go =>
    refine ⟨_, congrArg Host.Outcome.next (hostWriteTo_of_serves s _ _ hserves), ?_⟩
    obtain ⟨hbusy, hregs, hsame⟩ := s.auditStart_spec
    cases hgo : bitOf v 0
    · simp only [Bool.false_eq_true, reduceIte, Bool.or_false]
      exact ⟨trivial, .refl, .refl s⟩
    · simp only [reduceIte, Bool.or_true]
      exact ⟨hbusy, hregs, hsame⟩
  case periodic =>
    obtain ⟨u, hu⟩ : ∃ u : State, u = { s with txn := { s.txn with auditDue := false } } := ⟨_, rfl⟩
    obtain ⟨hbusy, hregs, hsame⟩ := u.auditStart_spec
    have huregs : RegsBut s u [] := by rw [hu]; exact .refl
    have huframe : Frame [.txn] s u := by rw [hu]; exact Frame.refl.then (q := [.txn]) rfl (by decide)
    have hframe : Frame [.regs] u u.auditStart := hsame
    refine ⟨u.auditStart, ?_, hbusy, fun k hk => (hregs k hk).trans (huregs k (by simp)), ?_⟩
    · rw [hu]; exact congrArg Host.Outcome.next (if_pos hdue)
    · refine ((huframe.mono (p := [.regs, .txn]) (by decide)).then hframe (by decide)).withTxn ?_
      rw [hframe.get State.txn, hu]
  case norecord =>
    obtain ⟨u, hu⟩ : ∃ u, u = s.setFld F.CHIP_AUDIT_STATUS_BUSY 0 := ⟨_, rfl⟩
    have hn : u.auditNewest = none := by rw [hu]; exact hnone
    have hexec : exec .auditRun s = .next ((u.setFld F.CHIP_AUDIT_STATUS_RESULT 3).setFld F.CHIP_AUDIT_STATUS_REGIONS 0) := by
      refine congrArg Host.Outcome.next ?_
      unfold State.auditRun
      dsimp only
      rw [if_neg (by simp [hbusy, hdig, hgen]), ← hu]
      simp only [hn]
    refine ⟨_, hexec, ?_, ?_, ?_, ?_, ?_⟩
    · rw [State.bit, State.fld_setFld_other _ _ _ _ (by decide), State.fld_setFld_other _ _ _ _ (by decide), hu,
        State.fld_setFld_same _ _ _ (by decide)]
      rfl
    · rw [State.fld_setFld_other _ _ _ _ (by decide), State.fld_setFld_same _ _ _ (by decide)]; rfl
    · exact State.fld_setFld_same _ _ _ (by decide)
    · rw [hu]; exact RegsBut.refl.setFld.setFld.setFld
    · rw [hu]; exact (Frame.refl (p := [.regs])).setFld.setFld.setFld
  case judge =>
    obtain ⟨u, hu⟩ : ∃ u, u = s.setFld F.CHIP_AUDIT_STATUS_BUSY 0 := ⟨_, rfl⟩
    have hs : u.auditNewest = some r := by rw [hu]; exact hsome
    have hexec : exec .auditRun s = .next (u.auditJudge r) := by
      refine congrArg Host.Outcome.next ?_
      unfold State.auditRun
      dsimp only
      rw [if_neg (by simp [hbusy, hdig, hgen]), ← hu]
      simp only [hs]
    have huregs : RegsBut s u [R.CHIP_AUDIT_STATUS] := by rw [hu]; exact RegsBut.refl.setFld
    have huframe : Frame [.regs] s u := by rw [hu]; exact Frame.refl.setFld
    obtain ⟨hb, hmask, hres, hregs, hsame⟩ := u.auditJudge_spec r
    have hreg (n : Nat) (hn : n < 6) : u.rd (R.CHIP_REGION_DIGESTn n) = s.rd (R.CHIP_REGION_DIGESTn n) :=
      huregs _ (by simp only [List.mem_singleton, R.CHIP_REGION_DIGESTn, R.CHIP_AUDIT_STATUS]; omega)
    have hconf : u.rd R.CHIP_CONFIG_DIGEST = s.rd R.CHIP_CONFIG_DIGEST := huregs _ (by decide)
    have hring : u.fld F.CHIP_AUDIT_EVT_RING = s.fld F.CHIP_AUDIT_EVT_RING := huregs.fld (by decide)
    obtain ⟨hlt, hbits, hzero⟩ := u.auditMask_spec r
    have hall : ((List.range 6).all fun n => u.rd (R.CHIP_REGION_DIGESTn n) == r.getD (2 + n) 0) =
        (List.range 6).all fun n => s.rd (R.CHIP_REGION_DIGESTn n) == r.getD (2 + n) 0 := by
      rw [Bool.eq_iff_iff, List.all_eq_true, List.all_eq_true]
      refine forall₂_congr fun n hn => ?_
      rw [hreg n (List.mem_range.mp hn)]
    refine ⟨_, hexec, ?_, fun n hn => ?_, ?_, ?_, ?_⟩
    · rw [State.bit, hb, hu, State.fld_setFld_same _ _ _ (by decide)]; rfl
    · rw [hmask, bitOf_ofNat_of_lt hlt, hbits n hn, hreg n hn]
    · rw [hres, hconf]
      simp only [hzero, hall]
    · rw [hring] at hregs
      exact fun k hk he => (hregs k hk he).trans (huregs k hk)
    · have hframe : Frame [.regs, .sent, .pcie, .summaryOwed, .rings] u (u.auditJudge r) := hsame
      exact (huframe.mono (by decide)).trans hframe
  case ctrl =>
    obtain ⟨u, hu⟩ : ∃ u, u = s.setFld F.CHIP_AUDIT_CTRL_PERIOD (bitsOf v 0 16) := ⟨_, rfl⟩
    obtain ⟨t, ht⟩ : ∃ t : State, t = { u with txn := { s.txn with auditCount := 0 } } := ⟨_, rfl⟩
    have hexec : exec (.auditCtrlWrite v) s = .next t := by
      rw [ht, hu, ← s.rwWrite_auditCtrl]
      exact congrArg Host.Outcome.next (hostWriteTo_of_serves s _ _ hserves)
    have hperiod : u.fld F.CHIP_AUDIT_CTRL_PERIOD = bitsOf v 0 16 := by
      rw [hu, State.fld_setFld_same _ _ _ (by decide)]
      exact Nat.mod_eq_of_lt (bitsOf_lt _ _ _)
    have huregs : RegsBut s u [R.CHIP_AUDIT_CTRL] := by rw [hu]; exact RegsBut.refl.setFld
    have huframe : Frame [.regs] s u := by rw [hu]; exact Frame.refl.setFld
    have htregs : t.regs = u.regs := by rw [ht]
    have htframe : Frame [.regs, .txn] s t := by
      rw [ht]; exact (huframe.mono (by decide)).then (q := [.txn]) rfl (by decide)
    have httxn : t.txn = { s.txn with auditCount := 0 } := by rw [ht]
    refine ⟨t, hexec, ?_, by rw [httxn], huregs.of_regs htregs, htframe.withTxn httxn⟩
    rw [← hperiod, State.fld, State.rd, htregs, State.fld, State.rd]

end Sys2Proof.Machine

/-! ### The frame latch (R86, R104, R106 to R108, R124) -/

namespace Sys2Proof.Machine

-- A proof that fills in an argument by its default tactic waits for all that stands before it: checked in order, none waits.
set_option Elab.async false

section
variable {s : State}

/-- The counters of scan at a latch that ends a frame. -/
def State.latchCounters (v : State) (ended : Word) : State :=
  let v := ((v.setFld F.SCAN_LAST_TOTAL_LINES (min v.scan.lines 32767)).setFld F.SCAN_FRAME_SEQ_FRAME (ended + 1).toNat).setFld
    F.SCAN_STATUS_RUNNING 1
  let v := v.setFld F.SCAN_LINE_SCAN_LINE (v.fld F.SCAN_V_TIMING_V_ACTIVE)
  { v with scan := { v.scan with k := 0, endFixed := false, e := 0, applied := false, repeated := false, lines := 1,
                                 started := true, flipLines := [], fetch := [] } }

/-- What follows the commits of a latch that ends a frame. -/
def State.latchRest (w : State) (ended : Word) (composed repeated : Bool) : State :=
  let y := (if w.bit F.SCAN_STATUS_RUNNING then w.setFld F.SCAN_LINE_SCAN_LINE (w.fld F.SCAN_V_TIMING_V_ACTIVE)
            else w).pipelineLatch ended composed false
  let x := (if repeated then y.repeatLatch ended else y).frameStart.fenceLatch.txnLatch
  let z := { x with boot := { x.boot with timeouts := [] } }.releaseCheck.ltrUpdate
  if w.bit F.SCAN_STATUS_RUNNING then (z.linkPush (z.fld F.SCAN_LINE_SCAN_LINE) true []).blankingLine z.scanGuard else z

theorem State.frameLatchAt_of_frame :
    s.frameLatchAt false =
      ((((s.assayEnd (s.rd R.SCAN_FRAME_SEQ) true).latchCounters (s.rd R.SCAN_FRAME_SEQ)).gateKeep false).latchCommits).latchRest
        (s.rd R.SCAN_FRAME_SEQ) (!s.bit F.SCAN_STATUS_REPLAY) s.scan.repeated := rfl

theorem State.latchCounters_spec (ended : Word) :
    (s.latchCounters ended).rd R.SCAN_FRAME_SEQ = ended + 1 ∧ (s.latchCounters ended).bit F.SCAN_STATUS_RUNNING = true ∧
    (s.latchCounters ended).fld F.SCAN_LINE_SCAN_LINE = s.fld F.SCAN_V_TIMING_V_ACTIVE ∧
    (s.latchCounters ended).fld F.SCAN_LAST_TOTAL_LINES = min s.scan.lines 32767 ∧
    RegsBut s (s.latchCounters ended) [R.SCAN_FRAME_SEQ, R.SCAN_STATUS, R.SCAN_LINE, R.SCAN_LAST_TOTAL] ∧
    (s.latchCounters ended).scan = { s.scan with
      k := 0, endFixed := false, e := 0, applied := false, repeated := false, lines := 1, started := true,
      flipLines := [], fetch := [] } ∧
    s.latchCounters ended = { s with regs := (s.latchCounters ended).regs, scan := (s.latchCounters ended).scan } := by
  obtain ⟨a, ha⟩ : ∃ a, a = s.setFld F.SCAN_LAST_TOTAL_LINES (min s.scan.lines 32767) := ⟨_, rfl⟩
  obtain ⟨b, hb⟩ : ∃ b, b = a.setFld F.SCAN_FRAME_SEQ_FRAME (ended + 1).toNat := ⟨_, rfl⟩
  obtain ⟨c, hc⟩ : ∃ c, c = b.setFld F.SCAN_STATUS_RUNNING 1 := ⟨_, rfl⟩
  obtain ⟨d, hd⟩ : ∃ d, d = c.setFld F.SCAN_LINE_SCAN_LINE (c.fld F.SCAN_V_TIMING_V_ACTIVE) := ⟨_, rfl⟩
  have hform : s.latchCounters ended = { d with scan := { d.scan with
      k := 0, endFixed := false, e := 0, applied := false, repeated := false, lines := 1, started := true,
      flipLines := [], fetch := [] } } := by rw [hd, hc, hb, ha]; rfl
  have hcregs : RegsBut s c [R.SCAN_FRAME_SEQ, R.SCAN_STATUS, R.SCAN_LAST_TOTAL] := by
    rw [hc, hb, ha]; exact RegsBut.refl.setFld.setFld.setFld
  have hdregs : RegsBut c d [R.SCAN_LINE] := by rw [hd]; exact RegsBut.refl.setFld
  have hframe : Frame [.regs] s d := by rw [hd, hc, hb, ha]; exact Frame.refl.setFld.setFld.setFld.setFld
  have hscan : d.scan = s.scan := hframe.get State.scan
  have hactive : c.fld F.SCAN_V_TIMING_V_ACTIVE = s.fld F.SCAN_V_TIMING_V_ACTIVE := hcregs.fld (by decide)
  obtain ⟨u, hu⟩ : ∃ u, u = s.latchCounters ended := ⟨_, rfl⟩
  have hreg : u.regs = d.regs := by rw [hu, hform]
  have hrd (k : Nat) : u.rd k = d.rd k := by rw [State.rd, hreg, State.rd]
  have hfld (f : Fld) : u.fld f = d.fld f := by rw [State.fld, hrd, State.fld]
  rw [← hu]
  refine ⟨?_, ?_, ?_, ?_, fun k hk => ?_, by rw [hu, hform, hscan], ?_⟩
  · rw [hrd, hdregs _ (by decide), hc, State.rd_setFld_other _ _ _ (by decide), hb]
    exact State.rd_setFld_word R.SCAN_FRAME_SEQ _
  · rw [State.bit, hfld, hdregs.fld (by decide), hc, State.fld_setFld_same _ _ _ (by decide)]; rfl
  · rw [hfld, hd, State.fld_setFld_same _ _ _ (by decide), hactive]
    exact Nat.mod_eq_of_lt ((bitsOf_lt _ _ _).trans_le (by decide))
  · rw [hfld, hdregs.fld (by decide), hc, State.fld_setFld_other _ _ _ _ (by decide), hb,
      State.fld_setFld_other _ _ _ _ (by decide), ha, State.fld_setFld_same _ _ _ (by decide)]
    exact Nat.mod_eq_of_lt (by simp only; omega)
  · simp only [List.mem_cons, List.not_mem_nil, or_false, not_or] at hk
    obtain ⟨h1, h2, h3, h4⟩ := hk
    rw [hrd, hdregs k (by simpa using h3), hcregs k (by simp [h1, h2, h4])]
  · have huframe : Frame [.regs, .scan] s u := by
      rw [hu, hform]; exact (hframe.mono (by decide)).then (q := [.scan]) rfl (by decide)
    exact huframe

theorem State.nowFirst_of_none (h : s.nowWaiting = []) : s.nowFirst = s := by
  rw [State.nowFirst, h]; rfl

end

/-- Settles O30: a latch is its counters, the commits and what follows them. -/
theorem frameLatchOrder : Obligations.FrameLatchOrder := by
  intro s
  refine ⟨fun hno => ?none, fun hrun hlock hlast hnow => ?latch⟩
  case none => exact congrArg (fun t : State => Host.Outcome.next t.assign) (if_neg (by
    simpa [State.pclk] using hno))
  case latch =>
    have hlatch : exec .frameLatch s = .next (s.frameLatchAt false).assign := by
      refine congrArg (fun t : State => Host.Outcome.next t.assign) ?_
      unfold State.frameLatch
      dsimp only
      rw [if_pos (by simp [hrun, hlock, hlast, State.pclk]), State.nowFirst_of_none hnow, if_pos hrun]
    obtain ⟨v, hv⟩ : ∃ v, v = s.assayEnd (s.rd R.SCAN_FRAME_SEQ) true := ⟨_, rfl⟩
    obtain ⟨u, hu⟩ : ∃ u, u = v.latchCounters (s.rd R.SCAN_FRAME_SEQ) := ⟨_, rfl⟩
    obtain ⟨w, hw⟩ : ∃ w, w = (u.gateKeep false).latchCommits := ⟨_, rfl⟩
    obtain ⟨hseq, hrunning, hline, htotal, hregs, hscan, hform⟩ := v.latchCounters_spec (s.rd R.SCAN_FRAME_SEQ)
    rw [← hu] at hseq hrunning hline htotal hregs hscan hform
    rw [State.frameLatchAt_of_frame, ← hv, ← hu, ← hw] at hlatch
    exact ⟨v, u, w, _, _, _, hv, hseq, hrunning, hline, htotal, hregs, hscan, hform, hw, rfl, rfl, rfl, hlatch⟩

end Sys2Proof.Machine

/-! ### Flips, composers and reads of history strips (R117, R118, R133, R136, R137, R296) -/

namespace Sys2Proof.Machine

-- A proof that fills in an argument by its default tactic waits for all that stands before it: checked in order, none waits.
set_option Elab.async false

section
variable {s t : State} {p : List Part}

theorem Frame.draw (h : Frame p s t) (hp : .freeCtr ∈ p := by decide) : Frame p s t.draw.2 :=
  h.then (q := [.freeCtr]) rfl (forall_mem_one hp)

/-- What the report of a block's error may change. -/
abbrev errorParts : List Part := [.regs, .sent, .pcie, .summaryOwed, .rings, .freeCtr]

theorem Frame.blockError (h : Frame p s t) {page kind : Nat} (hp : ∀ x ∈ errorParts, x ∈ p := by decide) :
    Frame p s (t.blockError page kind) := by
  have hframe : Frame errorParts t (t.blockError page kind) := (Frame.refl (p := errorParts)).wr.bump.raise.draw.post
  exact h.then hframe hp

theorem Frame.dramUncorr (h : Frame p s t) {a : Nat} (hp : ∀ x ∈ errorParts, x ∈ p := by decide) :
    Frame p s (t.dramUncorr a) := by
  have hframe : Frame errorParts t (t.dramUncorr a) := (Frame.refl (p := errorParts)).bump.setFld.setFld.blockError
  exact h.then hframe hp

end

section
variable {s : State} {h : Half} {role line strip : Nat}

theorem bandLines_of_first (hl : line % 8 = 0) : (bandLines line).dropLast = [] := by
  unfold bandLines
  rw [hl]; rfl

theorem State.readCode_dramUncorr (a : Nat) : (s.dramUncorr a).readCode h role line strip = s.readCode h role line strip := by
  have hframe : Frame errorParts s (s.dramUncorr a) := Frame.refl.dramUncorr
  unfold State.readCode
  rw [hframe.get State.hist]

/-- What was fetched with an error is fetched once more. -/
theorem State.histReadDone_upset (hmade : s.histReadMade h role line strip = true) (hc : s.readCode h role line strip = 0) :
    s.histReadDone h role line strip .upset = s.setReadCode h role line strip 1 := by
  unfold State.histReadDone
  rw [if_neg (by simp [hmade])]
  simp only [hc, Bool.false_and, Bool.false_eq_true, reduceIte]

theorem State.histReadDone_uncorrectable (a : Nat) (hmade : s.histReadMade h role line strip = true)
    (hc : s.readCode h role line strip = 0) :
    s.histReadDone h role line strip (.uncorrectable a) = (s.dramUncorr a).setReadCode h role line strip 1 := by
  unfold State.histReadDone
  rw [if_neg (by simp [hmade])]
  simp only [State.readCode_dramUncorr, hc, Bool.false_and, Bool.false_eq_true, reduceIte]

theorem State.histReadDone_upset_again (hmade : s.histReadMade h role line strip = true) (hc : s.readCode h role line strip = 1) :
    s.histReadDone h role line strip .upset = s.histFail h role line strip := by
  unfold State.histReadDone
  rw [if_neg (by simp [hmade])]
  simp only [hc, Bool.false_and, Bool.false_eq_true, reduceIte]

/-- The strip of a band's first line stands or falls with its own slot. -/
theorem State.histReadDone_intact (hl : line % 8 = 0) (hmade : s.histReadMade h role line strip = true)
    (hc : s.readCode h role line strip = 0) :
    s.histReadDone h role line strip .intact = s.setReadCode h role line strip
      (if (s.slotPixels h (if role = 1 then s.fld (F.HIST_ROLES_BACK1 h) else s.fld (F.HIST_ROLES_BACK2 h)) line strip false
        []).isSome then 3 else 1) := by
  have hrefs : bandRefs [] = some [] := rfl
  unfold State.histReadDone
  rw [if_neg (by simp [hmade])]
  simp only [hc, bandLines_of_first hl, List.foldl_nil, hrefs, Bool.true_and]
  rw [apply_ite (s.setReadCode h role line strip)]

theorem State.histReadDone_of_unmade {res : StripRead} (hmade : s.histReadMade h role line strip = false) :
    s.histReadDone h role line strip res = s := if_pos (by simp [hmade])

end

/-- Settles O31: each command by the case of its operands that the statement names. -/
theorem flipsAndComposersAct : Obligations.FlipsAndComposersAct := by
  refine ⟨fun s n c q hc hp hty hq => ⟨fun hhost => ?refused, fun hsrc hdst htxn => ?released, fun hsrc hdst htxn => ?joins⟩,
    fun s => ⟨?dawn, ?dusk⟩, fun s h => ⟨fun v hserves => ?invalidate, fun back line strip => ⟨fun hno r => ?unmade, fun hmade =>
      ⟨fun hc => ⟨?upset, fun a => ?uncorrectable, fun hl => ?intact⟩, fun hc => ?again⟩⟩⟩⟩
  case refused =>
    refine congrArg Host.Outcome.next ((State.onStart_eq hc hp hty _).trans (if_pos ?_))
    simpa using hhost
  case released =>
    refine congrArg Host.Outcome.next ((State.onStart_eq hc hp hty _).trans ?_)
    rw [if_neg (by simp [hsrc, hdst]), if_pos htxn]
  case joins =>
    refine ⟨_, rfl, congrArg Host.Outcome.next ((State.onStart_eq hc hp hty _).trans ?_)⟩
    rw [if_neg (by simp [hsrc, hdst]), if_neg (by simp [htxn])]
    simp only [hq]
    rfl
  case dawn =>
    refine congrArg Host.Outcome.next ?_
    dsimp only
    split <;> rfl
  case dusk =>
    refine congrArg Host.Outcome.next ?_
    dsimp only
    split <;> rfl
  case invalidate => exact congrArg Host.Outcome.next (hostWriteTo_of_serves s _ _ hserves)
  case unmade =>
    refine congrArg Host.Outcome.next ?_
    cases r with
    | lengthUpset w =>
      dsimp only
      rw [hno]
      exact State.histReadDone_of_unmade hno
    | _ => exact State.histReadDone_of_unmade hno
  case upset => exact congrArg Host.Outcome.next (State.histReadDone_upset hmade hc)
  case uncorrectable => exact congrArg Host.Outcome.next (State.histReadDone_uncorrectable a hmade hc)
  case intact => exact congrArg Host.Outcome.next (State.histReadDone_intact hl hmade hc)
  case again => exact congrArg Host.Outcome.next (State.histReadDone_upset_again hmade hc)

end Sys2Proof.Machine

/-! ### Overdrive banks (R138, R143 to R145) -/

namespace Sys2Proof.Machine

-- A proof that fills in an argument by its default tactic waits for all that stands before it: checked in order, none waits.
set_option Elab.async false

section
variable {s t : State} {p : List Part}

/-- A frame in which the overdrive part is known. -/
theorem Frame.withOd {x : OdHid} (h : Frame p s t) (hx : t.od = x) : t = { s.taking p t with od := x } := by
  rw [← show t = s.taking p t from h, ← hx]

end

section
variable {s : State}

/-- The two entries of a word of the window, written into a half that is ON. -/
def State.odPut (s : State) (b o : Nat) (v : Word) (h : Half) : State :=
  if !s.domOn (halfDomain h) then s
  else
    let t := SMap.set (fun _ => 0) s.od.tables (odKey h b (o / 2)) (bitsOf v 0 16)
    let t := SMap.set (fun _ => 0) t (odKey h b (o / 2 + 1)) (bitsOf v 16 16)
    { s with od := { s.od with tables := t } }

theorem odKey_inj {h h' : Half} {b b' e e' : Nat} (hb : b < 2) (hb' : b' < 2) (he : e < odEntries) (he' : e' < odEntries) :
    odKey h b e = odKey h' b' e' ↔ h = h' ∧ b = b' ∧ e = e' := by
  have hnum : halfNum h = halfNum h' ↔ h = h' := by cases h <;> cases h' <;> decide
  rw [← hnum]
  simp only [odKey, odEntries] at *
  omega

theorem State.domOn_of_regs {u : State} (h : u.regs = s.regs) : u.domOn = s.domOn := by
  funext d
  simp only [State.domOn, State.domState, State.fld, State.rd, h]

theorem State.odPut_regs (b o : Nat) (v : Word) (h : Half) : (s.odPut b o v h).regs = s.regs := by
  unfold State.odPut; split <;> rfl

theorem State.odPut_odTable {b o : Nat} (v : Word) (h h' : Half) {b' e : Nat} (hb : b < 2) (hb' : b' < 2) (he : e < odEntries)
    (ho : o < 2 * odEntries) (ho4 : o % 4 = 0) :
    (s.odPut b o v h).odTable h' b' e =
      if s.domOn (halfDomain h) = true ∧ h = h' ∧ b' = b ∧ e / 2 = o / 4 then bitsOf v (16 * (e % 2)) 16 else s.odTable h' b' e := by
  have hodd : o / 2 + 1 < odEntries := by simp only [odEntries] at *; omega
  unfold State.odPut
  cases s.domOn (halfDomain h)
  · rfl
  · have hget : ∀ x : State, x = { s with od := { s.od with tables :=
        (SMap.set (fun _ => 0) (SMap.set (fun _ => 0) s.od.tables (odKey h b (o / 2)) (bitsOf v 0 16)) (odKey h b (o / 2 + 1))
          (bitsOf v 16 16)) } } → x.odTable h' b' e = if odKey h b (o / 2 + 1) = odKey h' b' e then bitsOf v 16 16
          else if odKey h b (o / 2) = odKey h' b' e then bitsOf v 0 16 else s.odTable h' b' e := by
      rintro x rfl
      simp only [State.odTable, SMap.get_set]
    rw [Bool.not_true, if_neg (by decide), hget _ rfl]
    simp only [odKey_inj hb hb' hodd he, odKey_inj hb hb' (Nat.lt_of_succ_lt hodd) he, true_and]
    by_cases hh : h = h' ∧ b = b'
    · obtain ⟨rfl, rfl⟩ := hh
      simp only [true_and]
      by_cases h1 : o / 2 + 1 = e
      · rw [if_pos h1, if_pos (by omega), show e % 2 = 1 by omega]
      · rw [if_neg h1]
        by_cases h0 : o / 2 = e
        · rw [if_pos h0, if_pos (by omega), show e % 2 = 0 by omega]
        · rw [if_neg h0, if_neg (by omega)]
    · rw [if_neg (by tauto), if_neg (by tauto), if_neg (by tauto)]

/-- A word of the window, written into both halves. -/
theorem State.odPut_halves_odTable {b o : Nat} (v : Word) (h : Half) {b' e : Nat} (hb : b < 2) (hb' : b' < 2) (he : e < odEntries)
    (ho : o < 2 * odEntries) (ho4 : o % 4 = 0) :
    (s.each halves fun s h => s.odPut b o v h).odTable h b' e =
      if b' = b ∧ s.domOn (halfDomain h) = true ∧ e / 2 = o / 4 then bitsOf v (16 * (e % 2)) 16 else s.odTable h b' e := by
  obtain ⟨u, hu⟩ : ∃ u, u = s.odPut b o v .dawn := ⟨_, rfl⟩
  have hdom : u.domOn = s.domOn := State.domOn_of_regs (by rw [hu, State.odPut_regs])
  have hform : (s.each halves fun s h => s.odPut b o v h) = u.odPut b o v .dusk := by rw [hu]; rfl
  rw [hform, State.odPut_odTable v .dusk h hb hb' he ho ho4, hdom, hu, State.odPut_odTable v .dawn h hb hb' he ho ho4]
  cases h <;> simp [and_left_comm]

theorem sealed_cleared : ∀ x < 4, ∀ b < 2, ∀ k < 2,
    (x - x / 2 ^ b % 2 * 2 ^ b) % 2 ^ 2 / 2 ^ k % 2 = if k = b then 0 else x / 2 ^ k % 2 := by decide

theorem sealed_set : ∀ x < 4, ∀ b < 2, ∀ k < 2,
    (x ||| 2 ^ b) % 2 ^ 2 / 2 ^ k % 2 = if k = b then 1 else x / 2 ^ k % 2 := by decide

theorem State.odStaging_lt : s.odStaging < 2 := by rw [State.odStaging]; omega

/-! #### The lookup -/

theorem mix_le {x y h w : Nat} (hx : x ≤ h) (hy : y ≤ h) (hw : w ≤ 64) : x * (64 - w) + y * w ≤ h * 64 :=
  calc x * (64 - w) + y * w ≤ h * (64 - w) + h * w := Nat.add_le_add (Nat.mul_le_mul_right _ hx) (Nat.mul_le_mul_right _ hy)
    _ = h * 64 := by rw [← Nat.mul_add, Nat.sub_add_cancel hw]

theorem le_mix {x y l w : Nat} (hx : l ≤ x) (hy : l ≤ y) (hw : w ≤ 64) : l * 64 ≤ x * (64 - w) + y * w :=
  calc l * 64 = l * (64 - w) + l * w := by rw [← Nat.mul_add, Nat.sub_add_cancel hw]
    _ ≤ x * (64 - w) + y * w := Nat.add_le_add (Nat.mul_le_mul_right _ hx) (Nat.mul_le_mul_right _ hy)

theorem odLookup_node (t : Nat → Nat → Nat) (a b : Nat) : odLookup t (64 * a) (64 * b) = t a b := by
  simp only [odLookup, Nat.mul_div_cancel_left _ (show 0 < 64 by decide), Nat.mul_mod_right]
  omega

theorem odLookup_bounds {t : Nat → Nat → Nat} {lo hi : Nat} (h : ∀ i j, t i j ≤ hi ∧ lo ≤ t i j) (a b : Nat) :
    lo ≤ odLookup t a b ∧ odLookup t a b ≤ hi := by
  have hfa : a % 64 ≤ 64 := (Nat.mod_lt a (by decide)).le
  have hfb : b % 64 ≤ 64 := (Nat.mod_lt b (by decide)).le
  have hrow (i j : Nat) := mix_le (h i j).1 (h i (j + 1)).1 hfb
  have hrow' (i j : Nat) := le_mix (h i j).2 (h i (j + 1)).2 hfb
  have htop := mix_le (hrow (a / 64) (b / 64)) (hrow (a / 64 + 1) (b / 64)) hfa
  have hbot := le_mix (hrow' (a / 64) (b / 64)) (hrow' (a / 64 + 1) (b / 64)) hfa
  simp only [odLookup]
  omega

end

section
variable {s : State}

theorem exec_odTableWrite_of_serves {off : BitVec 24} {v : Word} (hserves : s.serves R.OD_CTRL = true)
    (h4 : off.toNat % 4 = 0) (hoff : 0x170000 ≤ off.toNat) :
    exec (.odTableWrite off v) s = .next (s.odWrite (off.toNat - 0x170000) v) := by
  have ho : (off.toNat - 0x170000) / 4 * 4 = off.toNat - 0x170000 := by omega
  refine congrArg Host.Outcome.next ((hostWriteTo_of_serves s _ _ hserves).trans ?_)
  rw [ho]

/-- A word of the window that nothing keeps out. -/
theorem State.odWrite_spec {o : Nat} {v : Word} (ho : o < 2 * odEntries) (ho4 : o % 4 = 0) (hseal : s.od.sealing = none)
    (hswitch : s.odSwitchPending = false) :
    (∀ h b e, b < 2 → e < odEntries → (s.odWrite o v).odTable h b e =
      if b = s.odStaging ∧ s.domOn (halfDomain h) = true ∧ e / 2 = o / 4 then bitsOf v (16 * (e % 2)) 16
      else s.odTable h b e) ∧
    (∀ b, b < 2 → (s.odWrite o v).fld F.OD_STAGE_STATUS_SEALED / 2 ^ b % 2 =
      if b = s.odStaging then 0 else s.fld F.OD_STAGE_STATUS_SEALED / 2 ^ b % 2) ∧
    (s.odWrite o v).bit F.OD_STAGE_STATUS_BUSY = s.bit F.OD_STAGE_STATUS_BUSY ∧
    RegsBut s (s.odWrite o v) [R.OD_STAGE_STATUS] ∧
    s.odWrite o v = { s with regs := (s.odWrite o v).regs, od := { s.od with tables := (s.odWrite o v).od.tables } } := by
  obtain ⟨b, hb⟩ : ∃ b, b = s.odStaging := ⟨_, rfl⟩
  have hb2 : b < 2 := by rw [hb]; exact s.odStaging_lt
  obtain ⟨u, hu⟩ : ∃ u, u = s.each halves fun x h => x.odPut b o v h := ⟨_, rfl⟩
  obtain ⟨x, hx⟩ : ∃ x, x = u.fld F.OD_STAGE_STATUS_SEALED := ⟨_, rfl⟩
  obtain ⟨t, ht⟩ : ∃ t, t = u.setFld F.OD_STAGE_STATUS_SEALED (x - x / 2 ^ b % 2 * 2 ^ b) := ⟨_, rfl⟩
  have hform : s.odWrite o v = t := by
    rw [ht, hx, hu, hb]
    unfold State.odWrite
    rw [if_neg (by omega), if_neg (by simp [hseal, hswitch])]
    rfl
  have huregs : u.regs = s.regs := by
    rw [hu]
    exact (State.odPut_regs _ _ _ _).trans (State.odPut_regs _ _ _ _)
  have hurd : RegsBut s u [] := RegsBut.refl.of_regs huregs
  have htregs : RegsBut u t [R.OD_STAGE_STATUS] := by rw [ht]; exact RegsBut.refl.setFld
  have hxs : x = s.fld F.OD_STAGE_STATUS_SEALED := by rw [hx, hurd.fld (by simp)]
  have hx4 : x < 4 := by rw [hx]; exact bitsOf_lt _ _ _
  have htod : t.od = u.od := by rw [ht, State.setFld_od]
  have hput (y : State) (h : Half) : Frame [.od] y (y.odPut b o v h) := by
    unfold State.odPut
    exact .ite .refl (Frame.refl.then (q := [.od]) rfl (by decide))
  have huframe : Frame [.od] s u := by rw [hu]; exact (hput _ _).trans (hput _ _)
  have huod : u.od = { s.od with tables := u.od.tables } := by
    have hodput (y : State) (h : Half) : (y.odPut b o v h).od = { y.od with tables := (y.odPut b o v h).od.tables } := by
      unfold State.odPut
      split <;> rfl
    obtain ⟨y, hy⟩ : ∃ y, y = s.odPut b o v .dawn := ⟨_, rfl⟩
    have hu' : u = y.odPut b o v .dusk := by rw [hu, hy]; rfl
    rw [hu', hodput, hy, hodput]
  rw [hform, ← hb]
  refine ⟨fun h b' e hb' he => ?_, fun k hk => ?_, ?_, fun k hk => (htregs k hk).trans (hurd k (by simp)), ?_⟩
  · have htable := State.odPut_halves_odTable (s := s) v h hb2 hb' he ho ho4
    rw [← hu] at htable
    rw [← htable, State.odTable, htod, State.odTable]
  · rw [ht, State.fld_setFld_same _ _ _ (by decide), sealed_cleared x hx4 b hb2 k hk, hxs]
  · rw [State.bit, ht, State.fld_setFld_other _ _ _ _ (by decide), hurd.fld (by simp), State.bit]
  · have htframe : Frame [.regs, .od] s t := by rw [ht]; exact (huframe.mono (by decide)).setFld
    refine htframe.withOd ?_
    rw [htod]; exact huod

/-- The state of a seal that has ended, before it is reported. -/
def State.odSealed (s : State) (b : Nat) (c : Word) (agree : Bool) : State :=
  let s := { s.setFld F.OD_STAGE_STATUS_BUSY 0 with od := { s.od with sealing := none } }
  let s := if b = 0 then s.setFld F.OD_BANK0_CRC_CRC c.toNat else s.setFld F.OD_BANK1_CRC_CRC c.toNat
  let x := s.fld F.OD_STAGE_STATUS_SEALED
  s.setFld F.OD_STAGE_STATUS_SEALED (if agree then x ||| 2 ^ b else x - x / 2 ^ b % 2 * 2 ^ b)

theorem State.odSealed_spec {b : Nat} {c : Word} {agree : Bool} (hb : b < 2) :
    (s.odSealed b c agree).bit F.OD_STAGE_STATUS_BUSY = false ∧
    (if b = 0 then (s.odSealed b c agree).rd R.OD_BANK0_CRC else (s.odSealed b c agree).rd R.OD_BANK1_CRC) = c ∧
    (∀ k, k < 2 → (s.odSealed b c agree).fld F.OD_STAGE_STATUS_SEALED / 2 ^ k % 2 =
      if k = b then b2n agree else s.fld F.OD_STAGE_STATUS_SEALED / 2 ^ k % 2) ∧
    RegsBut s (s.odSealed b c agree) [R.OD_STAGE_STATUS, if b = 0 then R.OD_BANK0_CRC else R.OD_BANK1_CRC] ∧
    s.odSealed b c agree = { s with regs := (s.odSealed b c agree).regs, od := { s.od with sealing := none } } := by
  obtain ⟨y, hy⟩ : ∃ y, y = s.setFld F.OD_STAGE_STATUS_BUSY 0 := ⟨_, rfl⟩
  obtain ⟨z, hz⟩ : ∃ z : State, z = { y with od := { s.od with sealing := none } } := ⟨_, rfl⟩
  obtain ⟨u, hu⟩ : ∃ u, u = if b = 0 then z.setFld F.OD_BANK0_CRC_CRC c.toNat else z.setFld F.OD_BANK1_CRC_CRC c.toNat := ⟨_, rfl⟩
  obtain ⟨x, hx⟩ : ∃ x, x = u.fld F.OD_STAGE_STATUS_SEALED := ⟨_, rfl⟩
  obtain ⟨t, ht⟩ : ∃ t, t = u.setFld F.OD_STAGE_STATUS_SEALED (if agree then x ||| 2 ^ b else x - x / 2 ^ b % 2 * 2 ^ b) := ⟨_, rfl⟩
  have hform : s.odSealed b c agree = t := by rw [ht, hx, hu, hz, hy]; rfl
  have hcrc : (if b = 0 then u.rd R.OD_BANK0_CRC else u.rd R.OD_BANK1_CRC) = c := by
    rw [hu]
    split
    · exact State.rd_setFld_word R.OD_BANK0_CRC c
    · exact State.rd_setFld_word R.OD_BANK1_CRC c
  have hyregs : RegsBut s y [R.OD_STAGE_STATUS] := by rw [hy]; exact RegsBut.refl.setFld
  have hzregs : RegsBut s z [R.OD_STAGE_STATUS] := hyregs.of_regs (by rw [hz])
  have huregs : RegsBut z u [if b = 0 then R.OD_BANK0_CRC else R.OD_BANK1_CRC] := by
    rw [hu]; split
    · exact RegsBut.refl.setFld
    · exact RegsBut.refl.setFld
  have htregs : RegsBut u t [R.OD_STAGE_STATUS] := by rw [ht]; exact RegsBut.refl.setFld
  have hstatus {f : Fld} (hf : f.off = R.OD_STAGE_STATUS) : u.fld f = z.fld f :=
    huregs.fld (by rw [hf]; split <;> decide)
  have hxs : x = s.fld F.OD_STAGE_STATUS_SEALED := by
    rw [hx, hstatus rfl, hz]
    show y.fld F.OD_STAGE_STATUS_SEALED = _
    rw [hy, State.fld_setFld_other _ _ _ _ (by decide)]
  have hx4 : x < 4 := by rw [hx]; exact bitsOf_lt _ _ _
  have hframe : Frame [.regs, .od] s t := by
    have hyframe : Frame [.regs, .od] s y := by rw [hy]; exact Frame.refl.setFld
    have hzframe : Frame [.regs, .od] s z := by rw [hz]; exact hyframe.then (q := [.od]) rfl (by decide)
    rw [ht, hu]
    exact (Frame.ite hzframe.setFld hzframe.setFld).setFld
  rw [hform]
  refine ⟨?_, ?_, fun k hk => ?_, fun k hk => ?_, hframe.withOd ?_⟩
  · rw [State.bit, ht, State.fld_setFld_other _ _ _ _ (by decide), hstatus rfl, hz]
    show (y.fld F.OD_STAGE_STATUS_BUSY == 1) = false
    rw [hy, State.fld_setFld_same _ _ _ (by decide)]; rfl
  · rw [htregs _ (by decide), htregs _ (by decide), hcrc]
  · rw [ht, State.fld_setFld_same _ _ _ (by decide)]
    cases agree
    · exact (sealed_cleared x hx4 b hb k hk).trans (by rw [hxs]; rfl)
    · exact (sealed_set x hx4 b hb k hk).trans (by rw [hxs]; rfl)
  · simp only [List.mem_cons, List.not_mem_nil, or_false, not_or] at hk
    rw [htregs k (by simpa using hk.1), huregs k (by simpa using hk.2), hzregs k (by simpa using hk.1)]
  · rw [ht, State.setFld_od, hu]
    split <;> rw [State.setFld_od, hz]

end

/-- Settles O32: the window, the seal and the lookup. -/
theorem overdriveBanksAct : Obligations.OverdriveBanksAct := by
  refine ⟨fun s off v hserves hoff h4 => ⟨fun hpast => ?past, fun hin hbusy => ?dropped, fun hin hseal hswitch => ?written⟩,
    fun s => ⟨fun v hserves hseal => ⟨fun hbusy => ?ignored, fun hidle => ?starts⟩, fun b hb hsealing => ?done⟩,
    fun t a b lo hi h => ⟨odLookup_node t a b, odLookup_bounds h a b⟩⟩
  case past =>
    rw [exec_odTableWrite_of_serves hserves h4 hoff]
    exact congrArg Host.Outcome.next (if_pos (by omega))
  case dropped =>
    have hdrop : s.odWrite (off.toNat - 0x170000) v = s.bump F.OD_WIN_DROPPED_COUNT := by
      unfold State.odWrite
      rw [if_neg (by omega), if_pos (by simpa [Option.isSome_iff_ne_none] using hbusy)]
    rw [exec_odTableWrite_of_serves hserves h4 hoff, hdrop]
    exact ⟨_, rfl, State.fld_bump_same _ _ _ (by decide), RegsBut.refl.bump, sameButRegs_bump s _ _⟩
  case written =>
    rw [exec_odTableWrite_of_serves hserves h4 hoff]
    have hspec := State.odWrite_spec (s := s) (o := off.toNat - 0x170000) (v := v) (by omega) (by omega) hseal hswitch
    exact ⟨s.odWrite (off.toNat - 0x170000) v, rfl, hspec⟩
  case ignored =>
    refine congrArg Host.Outcome.next ((hostWriteTo_of_serves s _ _ hserves).trans ?_)
    rw [if_pos hseal]
    exact if_pos hbusy
  case starts =>
    obtain ⟨u, hu⟩ : ∃ u, u = s.setFld F.OD_STAGE_STATUS_BUSY 1 := ⟨_, rfl⟩
    obtain ⟨t, ht⟩ : ∃ t : State, t = { u with od := { s.od with sealing := some s.odStaging } } := ⟨_, rfl⟩
    have hexec : exec (.odSeal v) s = .next t := by
      refine congrArg Host.Outcome.next ((hostWriteTo_of_serves s _ _ hserves).trans ?_)
      rw [if_pos hseal, State.odSeal, if_neg (by simp [hidle]), ht, hu]
    have htreg : t.regs = u.regs := by rw [ht]
    have hfld (f : Fld) : t.fld f = u.fld f := by rw [State.fld, State.rd, htreg, State.fld, State.rd]
    have huregs : RegsBut s u [R.OD_STAGE_STATUS] := by rw [hu]; exact RegsBut.refl.setFld
    have htframe : Frame [.regs, .od] s t := by rw [ht, hu]; exact Frame.refl.setFld.then (q := [.od]) rfl (by decide)
    refine ⟨t, hexec, ?_, ?_, huregs.of_regs htreg, htframe.withOd (by rw [ht])⟩
    · rw [State.bit, hfld, hu, State.fld_setFld_same _ _ _ (by decide)]; rfl
    · rw [hfld, hu, State.fld_setFld_other _ _ _ _ (by decide)]
  case done =>
    obtain ⟨hbusy, hcrc, hsealed, hregs, hform⟩ := s.odSealed_spec (c := s.odCrc .dawn b)
      (agree := s.odCrc .dusk b == s.odCrc .dawn b) hb
    refine ⟨s.odSealed b (s.odCrc .dawn b) (s.odCrc .dusk b == s.odCrc .dawn b), congrArg Host.Outcome.next ?_, hbusy, hcrc,
      hsealed, hregs, hform⟩
    simp only [State.odSealDone, hsealing]
    rfl

end Sys2Proof.Machine

/-! ### Captures (R47, R48, R59, R179 to R182) -/

namespace Sys2Proof.Machine

-- A proof that fills in an argument by its default tactic waits for all that stands before it: checked in order, none waits.
set_option Elab.async false

section
variable {s t : State} {p : List Part}

/-- A frame in which the part of CMP is known. -/
theorem Frame.withCmp {x : CmpHid} (h : Frame p s t) (hx : t.cmp = x) : t = { s.taking p t with cmp := x } := by
  rw [← show t = s.taking p t from h, ← hx]

theorem Frame.dramWrite (h : Frame p s t) {a : Nat} {bs : List Byte} (hp : .dram ∈ p := by decide) :
    Frame p s (t.dramWrite a bs) := h.then (q := [.dram]) rfl (forall_mem_one hp)

/-- What writes of the surface space may change is device DRAM. -/
theorem Frame.surfWrite (h : Frame p s t) {a : Nat} {bs : List Byte} (hp : .dram ∈ p := by decide) :
    Frame p s (t.surfWrite a bs) := by
  unfold State.surfWrite
  refine List.foldlRecOn (motive := fun r : State × List Byte => Frame p s r.1) _ _ h fun r hr x _ => ?_
  split
  · exact hr.dramWrite hp
  · exact hr

theorem Frame.hostData (h : Frame p s t) {a : Nat} {bs : List Byte} (hp : ∀ x ∈ [Part.regs, .sent, .pcie], x ∈ p := by decide) :
    Frame p s (t.hostData a bs) := h.each fun _ _ _ h => h.request hp

theorem Frame.countOut (h : Frame p s t) {n : Nat} (hp : .regs ∈ p := by decide) : Frame p s (t.countOut n) :=
  (h.setFld hp).setFld hp

theorem RegsBut.hostData {l : List Nat} (h : RegsBut s t l) {a : Nat} {bs : List Byte}
    (hl : R.PCIEX_LINK_STATUS ∈ l := by simp) : RegsBut s (t.hostData a bs) l :=
  fun k hk => (t.rd_hostData a bs (ne_of_mem_of_not_mem hl hk).symm).trans (h k hk)

theorem RegsBut.surfWrite {l : List Nat} (h : RegsBut s t l) {a : Nat} {bs : List Byte} : RegsBut s (t.surfWrite a bs) l := by
  have hframe : Frame [.dram] t (t.surfWrite a bs) := Frame.refl.surfWrite
  exact h.of_regs (hframe.get State.regs)

theorem RegsBut.countOut {l : List Nat} (h : RegsBut s t l) {n : Nat} (hlo : R.CMP_OUT_LO ∈ l := by simp)
    (hhi : R.CMP_OUT_HI ∈ l := by simp) : RegsBut s (t.countOut n) l := (h.setFld hlo).setFld hhi

/-- OUT_LO and OUT_HI together count up to 2^64 − 1. -/
theorem State.countOut_count (n : Nat) :
    (s.countOut n).fld F.CMP_OUT_LO_COUNT + (s.countOut n).fld F.CMP_OUT_HI_COUNT * 2 ^ 32 =
      min (2 ^ 64 - 1) (s.fld F.CMP_OUT_LO_COUNT + s.fld F.CMP_OUT_HI_COUNT * 2 ^ 32 + n) := by
  obtain ⟨m, hm⟩ : ∃ m, m = min (2 ^ 64 - 1) (s.fld F.CMP_OUT_LO_COUNT + s.fld F.CMP_OUT_HI_COUNT * 2 ^ 32 + n) := ⟨_, rfl⟩
  have hform : s.countOut n = (s.setFld F.CMP_OUT_LO_COUNT m).setFld F.CMP_OUT_HI_COUNT (m / 2 ^ 32) := by rw [hm]; rfl
  have hlt : m < 2 ^ 64 := by omega
  rw [← hm, hform, State.fld_setFld_other _ _ _ _ (by decide), State.fld_setFld_same _ _ _ (by decide),
    State.fld_setFld_same _ _ _ (by decide)]
  simp only
  omega

/-! #### Writes do not look at CMP -/

theorem State.each_comm {α : Type} {xs : List α} {f : State → α → State} {g : State → State} (h : ∀ u y, f (g u) y = g (f u y))
    (u : State) : (g u).each xs f = g (u.each xs f) := by
  induction xs generalizing u with
  | nil => rfl
  | cons x xs ih => exact (congrArg (fun v : State => v.each xs f) (h u x)).trans (ih (f u x))

/-- The state with another part of CMP. -/
def State.withCmp (s : State) (x : CmpHid) : State := { s with cmp := x }

/-- One piece of a write of the surface space. -/
def surfStep (acc : State × List Byte) (p : Nat × Nat) : State × List Byte :=
  match acc.1.translate p.1 with
  | .dram x _ => (acc.1.dramWrite x (acc.2.take p.2), acc.2.drop p.2)
  | _ => (acc.1, acc.2.drop p.2)

theorem State.surfWrite_eq (a : Nat) (bs : List Byte) : s.surfWrite a bs = ((piecesOf a bs.length).foldl surfStep (s, bs)).1 := rfl

theorem surfStep_withCmp (x : CmpHid) (acc : State × List Byte) (p : Nat × Nat) :
    surfStep (acc.1.withCmp x, acc.2) p = ((surfStep acc p).1.withCmp x, (surfStep acc p).2) := by
  have htr : (acc.1.withCmp x).translate p.1 = acc.1.translate p.1 := rfl
  unfold surfStep
  rw [htr]
  cases acc.1.translate p.1 <;> rfl

theorem foldl_surfStep_withCmp (x : CmpHid) (ps : List (Nat × Nat)) (acc : State × List Byte) :
    ps.foldl surfStep (acc.1.withCmp x, acc.2) = ((ps.foldl surfStep acc).1.withCmp x, (ps.foldl surfStep acc).2) := by
  induction ps generalizing acc with
  | nil => rfl
  | cons p ps ih => rw [List.foldl_cons, List.foldl_cons, surfStep_withCmp, ih]

theorem State.surfWrite_withCmp (x : CmpHid) (a : Nat) (bs : List Byte) :
    (s.withCmp x).surfWrite a bs = (s.surfWrite a bs).withCmp x := by
  rw [State.surfWrite_eq, State.surfWrite_eq, foldl_surfStep_withCmp x _ (s, bs)]

theorem State.request_withCmp (x : CmpHid) (o : Out) : (s.withCmp x).request o = (s.request o).withCmp x := by
  unfold State.request
  rw [show (s.withCmp x).pcie = s.pcie from rfl,
    show (s.withCmp x).fld F.PCIEX_LINK_STATUS_PM_STATE = s.fld F.PCIEX_LINK_STATUS_PM_STATE from rfl]
  split
  · rfl
  · split <;> rfl

theorem State.hostData_withCmp (x : CmpHid) (a : Nat) (bs : List Byte) :
    (s.withCmp x).hostData a bs = (s.hostData a bs).withCmp x :=
  State.each_comm (f := fun u (p : Nat × List Byte) => u.request (.hostWrite p.1 p.2 u.relaxedData u.noSnoopData)) (g := fun u => u.withCmp x)
    (fun u _ => u.request_withCmp x _) s

/-- The state in which a capture's stream has been written, the buffer is free and the output is counted. -/
def State.captureWritten (w : State) (c : Cage) (room : Nat) (bs : List Byte) : State :=
  if room < bs.length then (w.releaseBuffer.surfWrite c.desc.dst.toNat (bs.take room)).countOut room
  else (if c.desc.dstHost then w.releaseBuffer.hostData c.desc.dst.toNat bs
        else w.releaseBuffer.surfWrite c.desc.dst.toNat bs).countOut bs.length

/-- What is written of a capture's stream. -/
def State.captureOut (w : State) (c : Cage) (room : Nat) (bs : List Byte) : State :=
  if room < bs.length then w.surfWrite c.desc.dst.toNat (bs.take room)
  else if c.desc.dstHost then w.hostData c.desc.dst.toNat bs else w.surfWrite c.desc.dst.toNat bs

theorem State.captureWritten_eq (w : State) (c : Cage) (room : Nat) (bs : List Byte) :
    w.captureWritten c room bs = ((w.captureOut c room bs).withCmp { w.cmp with capture := none }).countOut (min room bs.length) := by
  have hrel : w.releaseBuffer = w.withCmp { w.cmp with capture := none } := rfl
  unfold State.captureWritten State.captureOut
  rw [hrel]
  split
  · rw [State.surfWrite_withCmp, Nat.min_eq_left (by omega)]
  · rw [Nat.min_eq_right (by omega)]
    split
    · rw [State.hostData_withCmp]
    · rw [State.surfWrite_withCmp]

theorem State.captureWritten_spec (w : State) (c : Cage) (room : Nat) (bs : List Byte) :
    (w.captureWritten c room bs).fld F.CMP_OUT_LO_COUNT + (w.captureWritten c room bs).fld F.CMP_OUT_HI_COUNT * 2 ^ 32 =
      min (2 ^ 64 - 1) (w.fld F.CMP_OUT_LO_COUNT + w.fld F.CMP_OUT_HI_COUNT * 2 ^ 32 + min room bs.length) ∧
    (w.captureWritten c room bs).dram = (w.captureOut c room bs).dram ∧
    (w.captureWritten c room bs).sent = (w.captureOut c room bs).sent ∧
    (w.captureWritten c room bs).pcie = (w.captureOut c room bs).pcie ∧
    (w.captureWritten c room bs).cmp = { w.cmp with capture := none } ∧
    RegsBut w (w.captureWritten c room bs) [R.CMP_OUT_LO, R.CMP_OUT_HI, R.PCIEX_LINK_STATUS] ∧
    w.captureWritten c room bs = { w with
      regs := (w.captureWritten c room bs).regs, dram := (w.captureWritten c room bs).dram
      sent := (w.captureWritten c room bs).sent, pcie := (w.captureWritten c room bs).pcie
      cmp := (w.captureWritten c room bs).cmp } := by
  obtain ⟨x, hx⟩ : ∃ x, x = w.captureOut c room bs := ⟨_, rfl⟩
  obtain ⟨y, hy⟩ : ∃ y, y = x.withCmp { w.cmp with capture := none } := ⟨_, rfl⟩
  have hxregs : RegsBut w x [R.PCIEX_LINK_STATUS] := by
    rw [hx]
    exact .ite RegsBut.refl.surfWrite (.ite RegsBut.refl.hostData RegsBut.refl.surfWrite)
  have hxframe : Frame [.regs, .dram, .sent, .pcie] w x := by
    rw [hx]
    exact .ite Frame.refl.surfWrite (.ite Frame.refl.hostData Frame.refl.surfWrite)
  have hyregs : RegsBut w y [R.PCIEX_LINK_STATUS] := by rw [hy]; exact hxregs
  have hyframe : Frame [.regs, .dram, .sent, .pcie, .cmp] w y := by
    rw [hy]; exact (hxframe.mono (by decide)).then (q := [.cmp]) rfl (by decide)
  obtain ⟨u, hu⟩ : ∃ u, u = y.countOut (min room bs.length) := ⟨_, rfl⟩
  have huframe : Frame [.regs] y u := by rw [hu]; exact Frame.refl.countOut
  have hcount := y.countOut_count (min room bs.length)
  rw [State.captureWritten_eq, ← hx, ← hy, ← hu]
  rw [← hu, hyregs.fld (by decide), hyregs.fld (by decide)] at hcount
  refine ⟨hcount, ?_, ?_, ?_, ?_, ?_, hyframe.then huframe (by decide)⟩
  · rw [huframe.get State.dram, hy]; rfl
  · rw [huframe.get State.sent, hy]; rfl
  · rw [huframe.get State.pcie, hy]; rfl
  · rw [huframe.get State.cmp, hy]; rfl
  · rw [hu]; exact (hyregs.mono (by simp)).countOut

theorem exec_descCapture {n : BitVec 5} {c : Cage} {bad empty : Bool} (hc : s.cage? n.toNat = some c) (hp : c.phase = .start)
    (hty : c.desc.ty = 3) (hbad : bad = (c.desc.srcHost || decide (2 ≤ bitsOf c.desc.param 0 2)))
    (hempty : empty = (decide (c.desc.src.toNat / 2 ^ 32 % 65536 = 0) || decide (c.desc.src.toNat / 2 ^ 48 = 0))) :
    exec (.descCapture n) s = .next
      (if bad then s.finish n.toNat c stREFUSED c.desc.len.toNat
       else if c.desc.len = 0 then s.finish n.toNat c stOKZERO 0
       else if !s.domOn dCMP then s.finish n.toNat c stREFUSED c.desc.len.toNat
       else if empty then s.finish n.toNat c stOKZERO 0
       else s.setCage n.toNat { c with phase := .waitBuffer }) := by
  subst hbad hempty
  exact congrArg Host.Outcome.next ((State.onStart_eq hc hp hty _).trans rfl)

theorem exec_captureEncodeDone {n : BitVec 5} {w : State} {c : Cage} {cp : Capture} (hw : w = s.assignLanes)
    (hc : w.cage? n.toNat = some c) (hcp : w.cmp.capture = some cp) (h : cp.cage = n.toNat ∧ cp.ready = true ∧ cp.lane.isSome = true ∧
      c.phase = .capturing) :
    exec (.captureEncodeDone n) s = .next (w.captureEncodeDone n.toNat c cp).assignLanes := by
  obtain ⟨hcage, hready, hlane, hphase⟩ := h
  subst hw
  refine congrArg Host.Outcome.next ?_
  simp only [hc, hcp, hcage, hready, hlane, hphase, decide_true, Bool.and_self, reduceIte]

end

/-- Settles O34: each command by the branch that its cage and the buffer select. -/
theorem capturesAct : Obligations.CapturesAct := by
  refine ⟨fun s n c bad empty hc hp hty hbad hempty => ⟨fun h => ?refused, fun hok h => ?nothing, fun hok hlen hdom hne => ?waits⟩,
    fun s n => ⟨fun h => ?untaken, fun c hc hp hfree => ?taken⟩, fun s w n hw => ⟨fun h => ?idle,
      fun c cp lane room e hc hcp hcage hready hlane hphase hroom he => ?encoded⟩⟩
  case refused =>
    rw [exec_descCapture hc hp hty hbad hempty]
    obtain rfl | ⟨hlen, hdom⟩ := h
    · rw [if_pos rfl]
    · rw [if_neg hlen, hdom, Bool.not_false, if_pos rfl, ite_self]
  case nothing =>
    rw [exec_descCapture hc hp hty hbad hempty, hok, if_neg (by decide)]
    obtain hlen | ⟨hdom, hrect⟩ := h
    · rw [if_pos hlen]
    · simp only [hdom, hrect, Bool.not_true, Bool.false_eq_true, reduceIte, ite_self]
  case waits =>
    rw [exec_descCapture hc hp hty hbad hempty, hok, if_neg (by decide), if_neg hlen, if_neg (by simp [hdom]), hne,
      if_neg (by decide)]
  case untaken =>
    refine congrArg Host.Outcome.next ?_
    cases hc : s.cage? n.toNat with
    | none => rfl
    | some c =>
      refine if_neg fun hcond => ?_
      rw [Bool.and_eq_true, decide_eq_true_eq, Option.isNone_iff_eq_none] at hcond
      obtain h | h := h c hc
      · exact h hcond.1
      · rw [hcond.2] at h; exact absurd h (by decide)
  case taken =>
    obtain ⟨u, hu⟩ : ∃ u, u = s.setCage n.toNat { c with phase := .capturing } := ⟨_, rfl⟩
    have hexec : exec (.captureBufferTaken n) s = .next (u.withCmp
        { s.cmp with capture := some ⟨n.toNat, s.rd R.SCAN_FRAME_SEQ + 1, false, false, none, []⟩ }) := by
      rw [hu]
      refine congrArg Host.Outcome.next ?_
      simp only [hc, hp, hfree, decide_true, Option.isNone_none, Bool.and_self, reduceIte]
      rfl
    refine ⟨_, hexec, rfl, ?_, fun m hm => ?_, ?_⟩
    · rw [hu]; exact (State.cage?_setCage_same (s := s) { c with phase := .capturing } :)
    · rw [hu]; exact (State.cage?_setCage_other (s := s) { c with phase := .capturing } hm :)
    · rw [hu]; rfl
  case idle =>
    subst hw
    refine congrArg Host.Outcome.next ?_
    cases hc : s.assignLanes.cage? n.toNat with
    | none => rfl
    | some c =>
      cases hcp : s.assignLanes.cmp.capture with
      | none => rfl
      | some cp =>
        refine if_neg fun hcond => ?_
        simp only [Bool.and_eq_true, decide_eq_true_eq, Option.isSome_iff_ne_none] at hcond
        obtain ⟨⟨⟨hcage, hready⟩, hlane⟩, hphase⟩ := hcond
        obtain h | h | h | h := h c cp hc hcp
        · exact h hcage
        · rw [hready] at h; exact absurd h (by decide)
        · exact hlane h
        · exact h hphase
  case encoded =>
    have hexec := exec_captureEncodeDone hw hc hcp ⟨hcage, hready, by rw [hlane]; rfl, hphase⟩
    obtain ⟨hcount, hdram, hsent, hpcie, hcmp, hregs, hform⟩ := w.captureWritten_spec c room e.1
    refine ⟨w.captureWritten c room e.1, w.captureOut c room e.1, hcount, rfl, hdram, hsent, hpcie, hcmp, hregs, hform,
      fun hlt => ?_, fun hle => ?_⟩
    · have hdone : w.captureEncodeDone n.toNat c cp =
          ((w.captureWritten c room e.1).finish n.toNat c stADDRFAULT (c.desc.len.toNat - room)).transferComplete n.toNat := by
        unfold State.captureEncodeDone State.captureWritten
        dsimp only
        rw [← he, ← hroom, if_pos hlt, if_pos hlt]
      rw [hexec, hdone]
    · have hdone : w.captureEncodeDone n.toNat c cp =
          (((w.captureWritten c room e.1).captureEnd c.queue cp.target e.1.length ((w.captureWritten c room e.1).qHead c.queue)
            (if e.2 then stOK else stOUTPUTFULL)).finish n.toNat c (if e.2 then stOK else stOUTPUTFULL)
              (c.desc.len.toNat - e.1.length)).transferComplete n.toNat := by
        unfold State.captureEncodeDone State.captureWritten
        dsimp only
        rw [← he, ← hroom]
        simp only [if_neg (Nat.not_lt.mpr hle)]
      rw [hexec, hdone]

end Sys2Proof.Machine

/-! ### INFLATE descriptors and their jobs (R47, R169 to R178, R184) -/

namespace Sys2Proof.Machine

-- A proof that fills in an argument by its default tactic waits for all that stands before it: checked in order, none waits.
set_option Elab.async false

section
variable {s t : State} {p : List Part}

theorem Frame.freeCtx (h : Frame p s t) {x : Nat} (hp : .cmp ∈ p := by decide) : Frame p s (t.freeCtx x) :=
  h.then (q := [.cmp]) rfl (forall_mem_one hp)

/-- What a read that was met notes: no interrupt. -/
theorem Frame.noteReadOnly (h : Frame p s t) {res : ReadRes} (hp : ∀ x ∈ [Part.regs, .sent, .pcie], x ∈ p := by decide) :
    Frame p s (t.noteRead res) := by
  refine h.then (q := [.regs, .sent, .pcie]) ?_ hp
  cases res with
  | timeout =>
    obtain ⟨pcie, sent, haer⟩ := (t.bump F.PCIEX_CPL_TIMEOUTS_COUNT).aerUncorr_frame 14
    have hform : t.noteRead .timeout = (t.bump F.PCIEX_CPL_TIMEOUTS_COUNT).aerUncorr 14 := rfl
    rw [hform, haer]
    exact Frame.refl.bump.then (q := [.sent, .pcie]) rfl (by decide)
  | _ => exact .refl

theorem SMap.find?_map_snd {β : Type} (m : SMap β) (f : Nat → β → β) (k : Nat) :
    SMap.find? (List.map (fun e : Nat × β => (e.1, f e.1 e.2)) m) k = (SMap.find? m k).map (f k) := by
  induction m with
  | nil => rfl
  | cons e m ih =>
    obtain ⟨a, v⟩ := e
    rw [List.map_cons, SMap.find?, SMap.find?, ih]
    split
    · next h => rw [h]; rfl
    · rfl

end

section
variable {s : State} {c : Cage}

/-- The context that a continuation takes is ACTIVE. -/
def activate (x : Nat) (k : Nat) (j : JobCtx) : JobCtx := if k = x then { j with active := true } else j

/-- What an accepted INFLATE descriptor does with the context that its queue holds. -/
def State.ctxTaken (s : State) (c : Cage) : State :=
  match s.ctxOf c.queue with
  | some x =>
    if c.desc.cont then
      s.withCmp { s.cmp with ctxs := List.map (fun e : Nat × JobCtx => (e.1, activate x e.1 e.2)) s.cmp.ctxs }
    else (s.freeCtx x).bump F.CMP_CTX_DISCARDED_COUNT
  | none => s

theorem State.ctxTaken_spec :
    (s.ctxOf c.queue = none → s.ctxTaken c = s) ∧
    (∀ x, s.ctxOf c.queue = some x →
      SMap.find? (s.ctxTaken c).cmp.ctxs x =
        (if c.desc.cont then (SMap.find? s.cmp.ctxs x).map fun j => { j with active := true } else none) ∧
      (∀ y, y ≠ x → SMap.find? (s.ctxTaken c).cmp.ctxs y = SMap.find? s.cmp.ctxs y) ∧
      (s.ctxTaken c).fld F.CMP_CTX_DISCARDED_COUNT = (if c.desc.cont then s.fld F.CMP_CTX_DISCARDED_COUNT
        else min (s.fld F.CMP_CTX_DISCARDED_COUNT + 1) (2 ^ F.CMP_CTX_DISCARDED_COUNT.w - 1))) ∧
    RegsBut s (s.ctxTaken c) [R.CMP_CTX_DISCARDED] ∧
    s.ctxTaken c = { s with regs := (s.ctxTaken c).regs, cmp := { s.cmp with ctxs := (s.ctxTaken c).cmp.ctxs } } := by
  cases hx : s.ctxOf c.queue with
  | none =>
    have hform : s.ctxTaken c = s := by simp only [State.ctxTaken, hx]
    rw [hform]
    exact ⟨fun _ => rfl, fun x h => by simp at h, .refl, rfl⟩
  | some x =>
    cases hcont : c.desc.cont with
    | false =>
      obtain ⟨u, hu⟩ : ∃ u, u = s.freeCtx x := ⟨_, rfl⟩
      obtain ⟨t, ht⟩ : ∃ t, t = u.bump F.CMP_CTX_DISCARDED_COUNT := ⟨_, rfl⟩
      have hform : s.ctxTaken c = t := by
        rw [ht, hu]; simp only [State.ctxTaken, hx, hcont, Bool.false_eq_true, reduceIte]
      have huregs : RegsBut s u [] := by rw [hu]; exact RegsBut.refl
      have hucmp : u.cmp = { s.cmp with ctxs := SMap.erase s.cmp.ctxs x } := by rw [hu]; rfl
      have htregs : RegsBut u t [R.CMP_CTX_DISCARDED] := by rw [ht]; exact RegsBut.refl.bump
      have huframe : Frame [.cmp] s u := by rw [hu]; exact Frame.refl.freeCtx
      have htframe : Frame [.regs] u t := by rw [ht]; exact Frame.refl.bump
      have htcmp : t.cmp = u.cmp := htframe.get State.cmp
      rw [hform]
      refine ⟨fun h => absurd h (by simp), fun y hy => ?_, fun k hk => (htregs k hk).trans (huregs k (by simp)), ?_⟩
      · obtain rfl := Option.some_inj.mp hy
        refine ⟨?_, fun z hz => ?_, ?_⟩
        · rw [htcmp, hucmp, SMap.find?_erase, if_pos rfl]; rfl
        · rw [htcmp, hucmp, SMap.find?_erase, if_neg hz.symm]
        · rw [ht, State.fld_bump_same _ _ _ (by decide), huregs.fld (by simp)]; rfl
      · refine ((huframe.mono (p := [.regs, .cmp]) (by decide)).then htframe (by decide)).withCmp ?_
        rw [htcmp, hucmp]
    | true =>
      obtain ⟨l, hl⟩ : ∃ l : SMap JobCtx, l = List.map (fun e : Nat × JobCtx => (e.1, activate x e.1 e.2)) s.cmp.ctxs := ⟨_, rfl⟩
      have hform : s.ctxTaken c = s.withCmp { s.cmp with ctxs := l } := by
        rw [hl]; simp only [State.ctxTaken, hx, hcont, reduceIte]
      have hfind (k : Nat) : SMap.find? l k = (SMap.find? s.cmp.ctxs k).map (activate x k) := by
        rw [hl]; exact SMap.find?_map_snd s.cmp.ctxs (activate x) k
      rw [hform]
      refine ⟨fun h => absurd h (by simp), fun y hy => ?_, fun _ _ => rfl, rfl⟩
      obtain rfl := Option.some_inj.mp hy
      refine ⟨?_, fun z hz => ?_, rfl⟩
      · rw [if_pos rfl]
        refine (hfind x).trans ?_
        have hact : activate x x = fun j => { j with active := true } := funext fun j => if_pos rfl
        rw [hact]
      · refine (hfind z).trans ?_
        have hact : activate x z = id := funext fun j => if_neg hz
        rw [hact, Option.map_id, id]

/-- Whether the context that a queue holds fits a descriptor. -/
def State.ctxFits (s : State) (c : Cage) : Bool :=
  match (s.ctxOf c.queue).bind fun x => SMap.find? s.cmp.ctxs x with
  | some j => j.src == c.desc.src && j.len == c.desc.len && j.sealed == c.desc.sealed && j.keySlot == c.desc.keySlot
  | none => false

theorem State.descInflate_eq (n : Nat) :
    s.descInflate n c =
      if c.desc.dstHost then s.finish n c stREFUSED c.desc.len.toNat
      else if c.desc.len.toNat = 0 then s.finish n c stOKZERO 0
      else if 536870912 < c.desc.len.toNat || !s.domOn dCMP then s.finish n c stREFUSED c.desc.len.toNat
      else if c.desc.cont && !s.ctxFits c then s.finish n c stREFUSED c.desc.len.toNat
      else if c.desc.sealed && !s.dstAllProtected c.desc.dst.toNat c.desc.param.toNat then
        (if c.desc.cont then (s.ctxTaken c).dropJob n c else s.ctxTaken c).finish n c stPROTECTED c.desc.len.toNat
      else ((s.ctxTaken c).setCage n { c with phase := .waitLane }).assignLanes := by
  have hact (x : Nat) : (fun e : Nat × JobCtx => if e.1 = x then (e.1, { e.2 with active := true }) else e) =
      fun e => (e.1, activate x e.1 e.2) := by
    funext e
    unfold activate
    split <;> rfl
  unfold State.descInflate State.ctxFits State.ctxTaken
  dsimp only
  cases hx : s.ctxOf c.queue with
  | none => rfl
  | some x =>
    simp only [Option.bind_some, hact]
    cases SMap.find? s.cmp.ctxs x <;> cases c.desc.cont <;> rfl

end

/-! #### Jobs -/

section
variable {w : State} {n : Nat} {c : Cage}

/-- The output of a run is written and counted. -/
def State.runWritten (w : State) (c : Cage) (out : List Byte) : State := (w.surfWrite c.desc.dst.toNat out).countOut out.length

theorem State.runWritten_spec (out : List Byte) :
    (w.runWritten c out).fld F.CMP_OUT_LO_COUNT + (w.runWritten c out).fld F.CMP_OUT_HI_COUNT * 2 ^ 32 =
      min (2 ^ 64 - 1) (w.fld F.CMP_OUT_LO_COUNT + w.fld F.CMP_OUT_HI_COUNT * 2 ^ 32 + out.length) ∧
    (w.runWritten c out).dram = (w.surfWrite c.desc.dst.toNat out).dram ∧
    RegsBut w (w.runWritten c out) [R.CMP_OUT_LO, R.CMP_OUT_HI] ∧
    w.runWritten c out = { w with regs := (w.runWritten c out).regs, dram := (w.runWritten c out).dram } := by
  obtain ⟨x, hx⟩ : ∃ x, x = w.surfWrite c.desc.dst.toNat out := ⟨_, rfl⟩
  obtain ⟨u, hu⟩ : ∃ u, u = x.countOut out.length := ⟨_, rfl⟩
  have hform : w.runWritten c out = u := by rw [hu, hx]; rfl
  have hxframe : Frame [.dram] w x := by rw [hx]; exact Frame.refl.surfWrite
  have hxregs : RegsBut w x [] := by rw [hx]; exact RegsBut.refl.surfWrite
  have huframe : Frame [.regs] x u := by rw [hu]; exact Frame.refl.countOut
  have hcount := x.countOut_count out.length
  rw [hform, ← hx]
  rw [← hu, hxregs.fld (by simp), hxregs.fld (by simp)] at hcount
  refine ⟨hcount, huframe.get State.dram, ?_, (hxframe.mono (p := [.regs, .dram]) (by decide)).then huframe (by decide)⟩
  rw [hu]
  exact (hxregs.mono (by simp)).countOut

theorem RegsBut.qHead {s t : State} {l : List Nat} (h : RegsBut s t l) {q : Nat} (hl : ∀ k ∈ l, k < 0x100000) :
    t.qHead q = s.qHead q := by
  refine h.fld fun hk => ?_
  have := hl _ hk
  simp only at this
  omega

/-- The context that a job which stops with its output full is saved in. -/
def State.saveSlot (u : State) (c : Cage) : Option Nat := (u.ctxOf c.queue).or u.nextCtx

/-- What is saved of a job. -/
def State.savedJob (u : State) (c : Cage) (src : JobSource) (q : QzState) : JobCtx :=
  ⟨false, c.queue, u.qHead c.queue, c.desc.src, c.desc.len, c.desc.sealed, c.desc.keySlot, q, src.iv, src.aad,
    src.count, if c.desc.sealed then src.ct.take ((q.bit + 7) / 8) else []⟩

theorem State.saveJob_of_none {u : State} {src : JobSource} {q : QzState} (h : u.saveSlot c = none) :
    u.saveJob c src q = ((u.bump F.CMP_CTX_REFUSED_COUNT).raise 0x16 3, none) := by
  obtain ⟨hctx, hnext⟩ := Option.or_eq_none_iff.mp h
  simp only [State.saveJob, hctx, hnext]

theorem State.saveJob_of_some {u : State} {src : JobSource} {q : QzState} {x : Nat} (h : u.saveSlot c = some x) :
    u.saveJob c src q = (u.withCmp { u.cmp with ctxs := SMap.insert u.cmp.ctxs x (u.savedJob c src q) }, some x) := by
  obtain hctx | ⟨hctx, hnext⟩ := Option.or_eq_some_iff.mp h
  · simp only [State.saveJob, hctx]; rfl
  · simp only [State.saveJob, hctx, hnext]; rfl

theorem State.saveJob_spec (u : State) (src : JobSource) (q : QzState) :
    ∃ v : State, u.saveJob c src q = (v, u.saveSlot c) ∧
      (u.saveSlot c = none → v = (u.bump F.CMP_CTX_REFUSED_COUNT).raise 0x16 3) ∧
      (∀ x, u.saveSlot c = some x → v = { u with cmp := { u.cmp with ctxs := SMap.insert u.cmp.ctxs x (u.savedJob c src q) } }) ∧
      v.qHead c.queue = u.qHead c.queue := by
  cases hs : u.saveSlot c with
  | none =>
    have hregs : RegsBut u ((u.bump F.CMP_CTX_REFUSED_COUNT).raise 0x16 3) [R.CMP_CTX_REFUSED, 0x1600C] := RegsBut.refl.bump.raise
    exact ⟨_, State.saveJob_of_none hs, fun _ => rfl, fun x h => absurd h (by simp), hregs.qHead (by decide)⟩
  | some x =>
    refine ⟨_, State.saveJob_of_some hs, fun h => absurd h (by simp), fun y hy => ?_, rfl⟩
    rw [← Option.some_inj.mp hy]
    rfl

/-- A run of the decoder: it writes and counts its output, and then stops in one of the ways of `QzRun`. -/
theorem State.inflateRun_spec (src : JobSource) (start : QzState) (early : Option Nat) (room : Nat) (r : QzRun)
    (hroom : room = w.localRoom c.desc.dst.toNat c.desc.param.toNat) (hr : r = qzRun start src.plain room) (rest : Nat → Nat)
    (hrest : ∀ b, rest b = src.count - (b + 7) / 8) (u : State) (hu : u = w.runWritten c r.out) :
    (r.stop = .done → src.tagOk = true → w.inflateRun n c src start early = u.jobDone n c stOK (rest r.q.bit)) ∧
    (r.stop = .done → src.tagOk = false → w.inflateRun n c src start early =
      ((u.surfWrite c.desc.dst.toNat (List.replicate r.out.length 0)).inflateEnd c.queue 0 r.q.total (u.qHead c.queue) 0x17
        none).jobDone n c 0x17 (rest r.q.bit)) ∧
    (r.stop = .full → room < c.desc.param.toNat → w.inflateRun n c src start early = u.jobDone n c stADDRFAULT (rest r.q.bit)) ∧
    (r.stop = .full → c.desc.param.toNat ≤ room → ∀ v slot, u.saveJob c src r.q = (v, slot) → v.qHead c.queue = u.qHead c.queue →
      w.inflateRun n c src start early =
        ((v.inflateEnd c.queue r.q.bit r.q.total (v.qHead c.queue) stOUTPUTFULL slot).finish n c stOUTPUTFULL
          (rest r.q.bit)).transferComplete n) ∧
    (∀ st bit used, r.stop = .fault st bit used →
      (∀ e, early = some e → st = 0x14 → w.inflateRun n c src start early = u.jobDone n c e (rest r.q.bit)) ∧
      ((early = none ∨ st ≠ 0x14) → w.inflateRun n c src start early =
        (u.inflateEnd c.queue bit r.q.total (u.qHead c.queue) st none).jobDone n c st (rest used))) := by
  obtain rfl : rest = fun b => src.count - (b + 7) / 8 := funext hrest
  have hsurf (bs : List Byte) : (u.surfWrite c.desc.dst.toNat bs).qHead c.queue = u.qHead c.queue :=
    (RegsBut.refl.surfWrite (l := [])).qHead (by simp)
  obtain ⟨t, ht⟩ : ∃ t, t = w.inflateRun n c src start early := ⟨_, rfl⟩
  rw [← ht]
  unfold State.inflateRun at ht
  dsimp only at ht
  rw [← hroom, ← hr] at ht
  rw [State.runWritten] at hu
  rw [← hu] at ht
  refine ⟨fun hstop htag => ?_, fun hstop htag => ?_, fun hstop hlt => ?_, fun hstop hle v slot hsave hhead => ?_,
    fun st bit used hstop => ⟨fun e he hst => ?_, fun h => ?_⟩⟩
  · rw [ht]; simp only [hstop, htag, reduceIte]
  · rw [ht]; simp only [hstop, htag, Bool.false_eq_true, reduceIte, hsurf]
  · rw [ht]; simp only [hstop, hlt, reduceIte]
  · rw [ht, hhead]; simp only [hstop, Nat.not_lt.mpr hle, reduceIte, hsave]
  · rw [ht]; simp only [hstop, he, hst, reduceIte]
  · rw [ht]
    cases early with
    | none => simp only [hstop]
    | some e =>
      have hne : st ≠ 0x14 := by simpa using h
      simp only [hstop, hne, reduceIte]

/-- A sealed job reads its input once more, after the tag, where it begins and nothing is wrong yet. -/
def readsTwice (held : Option JobCtx) (failed : Option Nat) (src : JobSource) : Bool :=
  held.isNone && failed.isNone && src.fail.isNone

/-- The part after the reads of a sealed job's input: a length that no read brought is drawn, a second read is requested, and the
read that decides is noted. -/
def State.sealedReads (w : State) (d : Desc) (two : Bool) (res : ReadRes) (again : Option ReadRes) : State :=
  let s := if (w.jobInput d res).1.length < 24 then w.draw.2 else w
  let s := if two && d.srcHost then s.hostReadReq d.src.toNat d.len.toNat else s
  match (if two then w.jobInput d (again.getD res) else w.jobInput d res).2 with
  | some _ => s.noteRead (if two then again.getD res else res)
  | none => s

theorem State.sealedReads_spec (d : Desc) (two : Bool) (res : ReadRes) (again : Option ReadRes) :
    RegsBut w (w.sealedReads d two res again) [R.PCIEX_LINK_STATUS, R.PCIEX_CPL_TIMEOUTS] ∧
    Frame [.regs, .freeCtr, .sent, .pcie] w (w.sealedReads d two res again) := by
  obtain ⟨x, hx⟩ : ∃ x, x = if (w.jobInput d res).1.length < 24 then w.draw.2 else w := ⟨_, rfl⟩
  obtain ⟨y, hy⟩ : ∃ y, y = if two && d.srcHost then x.hostReadReq d.src.toNat d.len.toNat else x := ⟨_, rfl⟩
  have hxregs : RegsBut w x [R.PCIEX_LINK_STATUS] := by rw [hx]; exact .ite .refl .refl
  have hxframe : Frame [.regs, .freeCtr, .sent, .pcie] w x := by rw [hx]; exact Frame.ite Frame.refl.draw .refl
  have hyregs : RegsBut w y [R.PCIEX_LINK_STATUS] := by rw [hy]; exact .ite hxregs.hostReadReq hxregs
  have hyframe : Frame [.regs, .freeCtr, .sent, .pcie] w y := by rw [hy]; exact .ite hxframe.hostReadReq hxframe
  have hnote (r : ReadRes) : RegsBut w (y.noteRead r) [R.PCIEX_LINK_STATUS, R.PCIEX_CPL_TIMEOUTS] := by
    intro k hk
    rw [List.mem_cons, not_or] at hk
    exact (regsBut_noteRead y r k hk.2).trans (hyregs k (by simpa using hk.1))
  unfold State.sealedReads
  dsimp only
  rw [← hx, ← hy]
  split
  · exact ⟨hnote _, hyframe.noteReadOnly⟩
  · exact ⟨hyregs.mono (by simp), hyframe⟩

/-- A sealed job by what its reads and its source bring. -/
theorem State.inflateComplete_sealed {res : ReadRes} {again : Option ReadRes} {held : Option JobCtx} {start : QzState}
    {src : JobSource} {inp : List Byte × Option Nat} {two : Bool} {u : State} (hsealed : c.desc.sealed = true)
    (hheld : held = if c.desc.cont then (w.ctxOf c.queue).bind fun x => SMap.find? w.cmp.ctxs x else none)
    (hstart : start = held.elim QzState.init (·.qz))
    (hsrc : src = w.sealedSource c.desc held (w.jobInput c.desc res).1 (w.jobInput c.desc (again.getD res)).1 w.draw.1.toNat)
    (htwo : two = readsTwice held (w.jobInput c.desc res).2 src)
    (hinp : inp = if two then w.jobInput c.desc (again.getD res) else w.jobInput c.desc res)
    (hu : u = w.sealedReads c.desc two res again) :
    (∀ st, inp.2 = some st → w.inflateComplete n c res again = u.jobDone n c st src.count) ∧
    (∀ st bit, inp.2 = none → src.fail = some (st, bit) → w.inflateComplete n c res again =
      (u.inflateEnd c.queue bit start.total (u.qHead c.queue) st none).jobDone n c st src.count) ∧
    (inp.2 = none → src.fail = none → w.inflateComplete n c res again = u.inflateRun n c src start none) := by
  obtain ⟨t, ht⟩ : ∃ t, t = w.inflateComplete n c res again := ⟨_, rfl⟩
  rw [← ht]
  unfold State.inflateComplete at ht
  dsimp only at ht
  have htwo' : (c.desc.sealed && held.isNone && (w.jobInput c.desc res).2.isNone && src.fail.isNone) = two := by
    rw [htwo, hsealed, Bool.true_and, readsTwice]
  unfold State.sealedReads at hu
  dsimp only at hu
  rw [← hheld, hsealed, if_pos rfl, ← hsrc, ← hsealed, htwo'] at ht
  simp only [hsealed, Bool.true_and, decide_eq_true_eq] at ht
  rw [← hinp] at ht hu
  refine ⟨fun st hst => ?_, fun st bit hin hfail => ?_, fun hin hfail => ?_⟩
  · simp only [hst] at ht hu
    rw [ht, ← hu]
    cases src.fail <;> rfl
  · simp only [hin, hfail] at ht hu
    rw [ht, ← hu, hstart]
    cases held <;> rfl
  · simp only [hin, hfail] at ht hu
    rw [ht, ← hu, hstart]
    cases held <;> rfl

/-- An unsealed job runs over what was read of its input. -/
theorem State.inflateComplete_plain {res : ReadRes} {again : Option ReadRes} {held : Option JobCtx} {start : QzState}
    (hsealed : c.desc.sealed = false)
    (hheld : held = if c.desc.cont then (w.ctxOf c.queue).bind fun x => SMap.find? w.cmp.ctxs x else none)
    (hstart : start = held.elim QzState.init (·.qz)) :
    w.inflateComplete n c res again =
      (if (w.jobInput c.desc res).2.isSome then w.noteRead res else w).inflateRun n c
        ⟨(w.jobInput c.desc res).1, c.desc.len.toNat, none, [], [], [], true⟩ start (w.jobInput c.desc res).2 := by
  obtain ⟨t, ht⟩ : ∃ t, t = w.inflateComplete n c res again := ⟨_, rfl⟩
  rw [← ht]
  unfold State.inflateComplete at ht
  dsimp only at ht
  rw [← hheld, hsealed] at ht
  simp only [Bool.false_and, Bool.false_eq_true, reduceIte] at ht
  rw [ht, hstart]
  cases held <;> cases (w.jobInput c.desc res).2 <;> rfl

end

section
variable {s w : State} {n : BitVec 5} {c : Cage}

theorem exec_descInflate (hc : s.cage? n.toNat = some c) (hp : c.phase = .start) (hty : c.desc.ty = 2) :
    exec (.descInflate n) s = .next
      (if c.desc.dstHost then s.finish n.toNat c stREFUSED c.desc.len.toNat
       else if c.desc.len.toNat = 0 then s.finish n.toNat c stOKZERO 0
       else if 536870912 < c.desc.len.toNat || !s.domOn dCMP then s.finish n.toNat c stREFUSED c.desc.len.toNat
       else if c.desc.cont && !s.ctxFits c then s.finish n.toNat c stREFUSED c.desc.len.toNat
       else if c.desc.sealed && !s.dstAllProtected c.desc.dst.toNat c.desc.param.toNat then
         (if c.desc.cont then (s.ctxTaken c).dropJob n.toNat c else s.ctxTaken c).finish n.toNat c stPROTECTED c.desc.len.toNat
       else ((s.ctxTaken c).setCage n.toNat { c with phase := .waitLane }).assignLanes) :=
  congrArg Host.Outcome.next ((State.onStart_eq hc hp hty _).trans (s.descInflate_eq n.toNat))

theorem ctxFits_eq {fits : Bool}
    (h : fits = (match (s.ctxOf c.queue).bind fun x => SMap.find? s.cmp.ctxs x with
      | some j => j.src == c.desc.src && j.len == c.desc.len && j.sealed == c.desc.sealed && j.keySlot == c.desc.keySlot
      | none => false)) : s.ctxFits c = fits := by
  subst h
  unfold State.ctxFits
  cases (s.ctxOf c.queue).bind fun x => SMap.find? s.cmp.ctxs x <;> rfl

theorem jobStart_eq {held : Option JobCtx} {start : QzState}
    (h : start = (match held with | some j => j.qz | none => QzState.init)) : start = held.elim QzState.init (·.qz) := by
  subst h
  cases held <;> rfl

theorem exec_inflateComplete {lane : Nat} {res : ReadRes} {again : Option ReadRes} (hw : w = s.assignLanes)
    (hc : w.cage? n.toNat = some c) (hp : c.phase = .inflating lane) :
    exec (.inflateComplete n ⟨res, again⟩) s = .next (w.inflateComplete n.toNat c res again).assignLanes := by
  subst hw
  refine congrArg Host.Outcome.next ?_
  simp only [hc, hp]

end

/-- Settles O33: a context dropped, a descriptor checked, its input read, and its decoder run. -/
theorem inflateJobsAct : Obligations.InflateJobsAct := by
  refine ⟨fun s v hserves => ⟨fun hnone => ?kept, fun j hj hidle => ?dropped⟩, fun s n c fits hc hp hty hfits =>
    ⟨fun hhost => ?host, fun hhost hlen => ?nothing, fun hhost hlen hbad => ?refused, fun hhost hlen hle hdom hcont => ?accepted⟩,
    fun s w n res again hw => ⟨fun h => ?idle, fun c lane held start hc hp hheld hstart => ⟨fun hsealed => ?plain, fun hsealed => ?sealed⟩⟩,
    fun w n c src start early room r hroom hr => ?run⟩
  case kept =>
    refine congrArg Host.Outcome.next ((hostWriteTo_of_serves s _ _ hserves).trans ?_)
    unfold State.ctxDropWrite
    cases hj : SMap.find? s.cmp.ctxs (bitsOf v 0 6) with
    | none => rfl
    | some j => exact if_pos (hnone j hj)
  case dropped =>
    obtain ⟨u, hu⟩ : ∃ u, u = s.freeCtx (bitsOf v 0 6) := ⟨_, rfl⟩
    obtain ⟨t, ht⟩ : ∃ t, t = u.bump F.CMP_CTX_DISCARDED_COUNT := ⟨_, rfl⟩
    have hexec : exec (.ctxDrop v) s = .next t := by
      rw [ht, hu]
      refine congrArg Host.Outcome.next ((hostWriteTo_of_serves s _ _ hserves).trans ?_)
      simp only [State.ctxDropWrite, hj, hidle, Bool.false_eq_true, reduceIte]
    have huregs : RegsBut s u [] := by rw [hu]; exact RegsBut.refl
    have hucmp : u.cmp = { s.cmp with ctxs := SMap.erase s.cmp.ctxs (bitsOf v 0 6) } := by rw [hu]; rfl
    have huframe : Frame [.cmp] s u := by rw [hu]; exact Frame.refl.freeCtx
    have htframe : Frame [.regs] u t := by rw [ht]; exact Frame.refl.bump
    have htregs : RegsBut u t [R.CMP_CTX_DISCARDED] := by rw [ht]; exact RegsBut.refl.bump
    have htcmp : t.cmp = u.cmp := htframe.get State.cmp
    refine ⟨t, hexec, ?_, fun x hx => ?_, ?_, fun k hk => (htregs k hk).trans (huregs k (by simp)), ?_⟩
    · rw [htcmp, hucmp, SMap.find?_erase, if_pos rfl]
    · rw [htcmp, hucmp, SMap.find?_erase, if_neg hx.symm]
    · rw [ht, State.fld_bump_same _ _ _ (by decide), huregs.fld (by simp)]
    · refine ((huframe.mono (p := [.regs, .cmp]) (by decide)).then htframe (by decide)).withCmp ?_
      rw [htcmp, hucmp]
  case host =>
    rw [exec_descInflate hc hp hty, if_pos hhost]
  case nothing =>
    rw [exec_descInflate hc hp hty, hhost, if_neg (by decide), if_pos (by simp [hlen])]
  case refused =>
    rw [exec_descInflate hc hp hty, hhost, if_neg (by decide), if_neg (show ¬c.desc.len.toNat = 0 from BitVec.toNat_ne.mp hlen)]
    obtain hlong | hdom | ⟨hcont, hno⟩ := hbad
    · rw [if_pos (by simp [hlong])]
    · rw [if_pos (by simp [hdom])]
    · rw [if_pos (c := (c.desc.cont && !s.ctxFits c) = true) (by rw [hcont, ctxFits_eq hfits, hno]; rfl), ite_self]
  case accepted =>
    obtain ⟨hnone, hsome, hregs, hform⟩ := s.ctxTaken_spec (c := c)
    have hexec : exec (.descInflate n) s = .next
        (if c.desc.sealed && !s.dstAllProtected c.desc.dst.toNat c.desc.param.toNat then
          (if c.desc.cont then (s.ctxTaken c).dropJob n.toNat c else s.ctxTaken c).finish n.toNat c stPROTECTED c.desc.len.toNat
         else ((s.ctxTaken c).setCage n.toNat { c with phase := .waitLane }).assignLanes) := by
      have hfit : (c.desc.cont && !s.ctxFits c) = false := by
        rw [ctxFits_eq hfits]
        cases hct : c.desc.cont
        · rfl
        · rw [hcont hct]; rfl
      rw [exec_descInflate hc hp hty, hhost, if_neg (by decide), if_neg (show ¬c.desc.len.toNat = 0 from BitVec.toNat_ne.mp hlen),
        if_neg (by simp [hdom, Nat.not_lt.mpr hle]), hfit, if_neg (by decide)]
    refine ⟨_, hnone, hsome, hregs, hform, fun hsealed hprot => ?_, fun hok => ?_⟩
    · rw [hexec, if_pos (by simp [hsealed, hprot])]
    · rw [hexec, if_neg (by cases hok <;> simp [*])]
  case idle =>
    subst hw
    refine congrArg Host.Outcome.next ?_
    cases hc : s.assignLanes.cage? n.toNat with
    | none => rfl
    | some c =>
      have := h c hc
      dsimp only
      split
      · next l hl => exact absurd hl (this l)
      · rfl
  case plain =>
    rw [exec_inflateComplete hw hc hp, State.inflateComplete_plain hsealed hheld (jobStart_eq hstart)]
  case sealed =>
    obtain ⟨src, hsrc⟩ : ∃ src, src = w.sealedSource c.desc held (w.jobInput c.desc res).1 (w.jobInput c.desc (again.getD res)).1
      w.draw.1.toNat := ⟨_, rfl⟩
    obtain ⟨two, htwo⟩ : ∃ two, two = readsTwice held (w.jobInput c.desc res).2 src := ⟨_, rfl⟩
    obtain ⟨inp, hinp⟩ : ∃ inp, inp = if two then w.jobInput c.desc (again.getD res) else w.jobInput c.desc res := ⟨_, rfl⟩
    obtain ⟨hregs, hframe⟩ := w.sealedReads_spec c.desc two res again
    obtain ⟨hread, hsource, hrun⟩ := State.inflateComplete_sealed (n := n.toNat) hsealed hheld (jobStart_eq hstart) hsrc htwo hinp rfl
    refine ⟨w.sealedReads c.desc two res again, src, hsrc, hregs, hframe, fun hin hfail hsecond => ?_, fun st bit hin hfail => ?_, fun st hst => ?_⟩
    · refine (exec_inflateComplete hw hc hp).trans (congrArg (fun t : State => Host.Outcome.next t.assignLanes) (hrun ?_ hfail))
      rw [hinp]
      split
      · next h =>
        rw [htwo, readsTwice, Bool.and_eq_true, Bool.and_eq_true] at h
        exact hsecond (Option.isNone_iff_eq_none.mp h.1.1)
      · exact hin
    · refine (exec_inflateComplete hw hc hp).trans (congrArg (fun t : State => Host.Outcome.next t.assignLanes)
        (hsource st bit ?_ hfail))
      have honce : two = false := by rw [htwo, readsTwice, hfail, Option.isNone_some, Bool.and_false]
      rw [hinp, honce]
      exact hin
    · refine (exec_inflateComplete hw hc hp).trans (congrArg (fun t : State => Host.Outcome.next t.assignLanes) (hread st ?_))
      obtain hfirst | ⟨hin, hfail, hnone, hsecond⟩ := hst
      · have honce : two = false := by rw [htwo, readsTwice, hfirst, Option.isNone_some, Bool.and_false, Bool.false_and]
        rw [hinp, honce]
        exact hfirst
      · have htwice : two = true := by rw [htwo, readsTwice, hfail, hnone, hin]; rfl
        rw [hinp, htwice]
        exact hsecond
  case run =>
    obtain ⟨u, hu⟩ : ∃ u, u = w.runWritten c r.out := ⟨_, rfl⟩
    obtain ⟨hcount, hdram, hregs, hform⟩ := w.runWritten_spec (c := c) r.out
    rw [← hu] at hcount hdram hregs hform
    obtain ⟨hdone, hauth, haddr, hfull, hfault⟩ := State.inflateRun_spec (n := n) src start early room r hroom hr
      (fun b => src.count - (b + 7) / 8) (fun _ => rfl) u hu
    obtain ⟨v, hsave, hrefused, hsaved, hhead⟩ := u.saveJob_spec (c := c) src r.q
    refine ⟨u, _, fun _ => rfl, hcount, hdram, hregs, hform, hdone, hauth, haddr, fun hstop hle => ⟨v, u.saveSlot c, ?_, hrefused,
      fun x j hx hj => ?_, hfull hstop hle v _ hsave hhead⟩, hfault⟩
    · unfold State.saveSlot
      cases u.ctxOf c.queue <;> rfl
    · rw [hj]; exact hsaved x hx

end Sys2Proof.Machine

/-! ### Seals of uniformity maps (R192) -/

namespace Sys2Proof.Machine

-- A proof that fills in an argument by its default tactic waits for all that stands before it: checked in order, none waits.
set_option Elab.async false

section
variable {s t : State} {p : List Part}

/-- A frame in which the seal that runs is known. -/
theorem Frame.withUniSeal {x : Option UniSeal} (h : Frame p s t) (hx : t.uniSeal = x) : t = { s.taking p t with uniSeal := x } := by
  rw [← show t = s.taking p t from h, ← hx]

/-- The registers of a bank, at its CRC and its GEOM register. -/
def State.bankSealed (s : State) (crcOff geomOff : Nat) (c : Word) (u : UniSeal) : State :=
  (((s.setFld ⟨crcOff, 0, 32⟩ c.toNat).setFld ⟨geomOff, 0, 12⟩ u.bw).setFld ⟨geomOff, 16, 13⟩ u.bh).setBit ⟨geomOff, 31, 1⟩ u.mode

theorem State.bankSealed_spec {crcOff geomOff : Nat} (h : crcOff ≠ geomOff) (c : Word) (u : UniSeal) :
    (s.bankSealed crcOff geomOff c u).rd crcOff = c ∧
    (s.bankSealed crcOff geomOff c u).fld ⟨geomOff, 0, 12⟩ = u.bw % 2 ^ 12 ∧
    (s.bankSealed crcOff geomOff c u).fld ⟨geomOff, 16, 13⟩ = u.bh % 2 ^ 13 ∧
    (s.bankSealed crcOff geomOff c u).bit ⟨geomOff, 31, 1⟩ = u.mode ∧
    RegsBut s (s.bankSealed crcOff geomOff c u) [crcOff, geomOff] := by
  obtain ⟨x, hx⟩ : ∃ x, x = s.setFld ⟨crcOff, 0, 32⟩ c.toNat := ⟨_, rfl⟩
  have hform : s.bankSealed crcOff geomOff c u =
      ((x.setFld ⟨geomOff, 0, 12⟩ u.bw).setFld ⟨geomOff, 16, 13⟩ u.bh).setBit ⟨geomOff, 31, 1⟩ u.mode := by rw [hx]; rfl
  have hxregs : RegsBut s x [crcOff] := by rw [hx]; exact RegsBut.refl.setFld
  have hgeom : RegsBut x (s.bankSealed crcOff geomOff c u) [geomOff] := by rw [hform]; exact RegsBut.refl.setFld.setFld.setBit
  refine ⟨?_, ?_, ?_, ?_, fun k hk => ?_⟩
  · rw [hgeom _ (by simpa using h), hx]; exact State.rd_setFld_word crcOff c
  · rw [hform, State.setBit]; simp (disch := simp) only [State.fld_setFld_other, State.fld_setFld_same]
  · rw [hform, State.setBit]; simp (disch := simp) only [State.fld_setFld_other, State.fld_setFld_same]
  · rw [hform]; exact State.bit_setBit_same _ _ (by simp) (by simp)
  · rw [List.mem_cons, not_or] at hk
    exact (hgeom k hk.2).trans (hxregs k (by simpa using hk.1))

theorem Frame.bankSealed (h : Frame p s t) {a b : Nat} {c : Word} {u : UniSeal} (hp : .regs ∈ p := by decide) :
    Frame p s (t.bankSealed a b c u) := (((h.setFld hp).setFld hp).setFld hp).setBit hp

/-- The CRC and the GEOM register of a bank. -/
def bankCrcReg (bank : Nat) : Nat := if bank = 0 then R.UNI_BANK0_CRC else R.UNI_BANK1_CRC
def bankGeomReg (bank : Nat) : Nat := if bank = 0 then R.UNI_BANK0_GEOM else R.UNI_BANK1_GEOM

/-- A seal that has ended, before it is reported. -/
def State.mapSealed (s : State) (c : Word) (u : UniSeal) : State :=
  let s := { s.setFld F.UNI_STAGE_STATUS_BUSY 0 with uniSeal := none }
  let s := s.bankSealed (bankCrcReg u.bank) (bankGeomReg u.bank) c u
  s.setFld F.UNI_STAGE_STATUS_SEALED (s.fld F.UNI_STAGE_STATUS_SEALED ||| 2 ^ u.bank)

theorem State.uniSealDone_eq {u : UniSeal} (h : s.uniSeal = some u) :
    s.uniSealDone = ((s.mapSealed (s.mapCrc u.bank u.bw u.bh u.mode) u).raise 0x24 1).post F.UNI_EVT_RING 0x0210
      [(1, u.bank), (1, b2n u.mode), (32, (s.mapCrc u.bank u.bw u.bh u.mode).toNat)] := by
  simp only [State.uniSealDone, h]
  unfold State.mapSealed bankCrcReg bankGeomReg
  split <;> rfl

theorem sealed_or_lt : ∀ x < 4, ∀ b < 2, (x ||| 2 ^ b) % 2 ^ 2 = x ||| 2 ^ b := by decide

theorem State.mapSealed_spec (c : Word) {u : UniSeal} (hb : u.bank < 2) :
    (s.mapSealed c u).uniSeal = none ∧ (s.mapSealed c u).bit F.UNI_STAGE_STATUS_BUSY = false ∧
    (if u.bank = 0 then (s.mapSealed c u).rd R.UNI_BANK0_CRC else (s.mapSealed c u).rd R.UNI_BANK1_CRC) = c ∧
    (s.mapSealed c u).mapGeom u.bank = (u.bw % 2 ^ F.UNI_BANK0_GEOM_BW.w, u.bh % 2 ^ F.UNI_BANK0_GEOM_BH.w, u.mode) ∧
    (s.mapSealed c u).fld F.UNI_STAGE_STATUS_SEALED = s.fld F.UNI_STAGE_STATUS_SEALED ||| 2 ^ u.bank ∧
    RegsBut s (s.mapSealed c u) (R.UNI_STAGE_STATUS ::
      (if u.bank = 0 then [R.UNI_BANK0_CRC, R.UNI_BANK0_GEOM] else [R.UNI_BANK1_CRC, R.UNI_BANK1_GEOM])) ∧
    s.mapSealed c u = { s with regs := (s.mapSealed c u).regs, uniSeal := none } := by
  obtain ⟨a, ha⟩ : ∃ a, a = s.setFld F.UNI_STAGE_STATUS_BUSY 0 := ⟨_, rfl⟩
  obtain ⟨y, hy⟩ : ∃ y : State, y = { a with uniSeal := none } := ⟨_, rfl⟩
  obtain ⟨z, hz⟩ : ∃ z, z = y.bankSealed (bankCrcReg u.bank) (bankGeomReg u.bank) c u := ⟨_, rfl⟩
  obtain ⟨x, hx⟩ : ∃ x, x = z.fld F.UNI_STAGE_STATUS_SEALED := ⟨_, rfl⟩
  obtain ⟨w, hw⟩ : ∃ w, w = z.setFld F.UNI_STAGE_STATUS_SEALED (x ||| 2 ^ u.bank) := ⟨_, rfl⟩
  have hform : s.mapSealed c u = w := by rw [hw, hx, hz, hy, ha]; rfl
  have hne : bankCrcReg u.bank ≠ bankGeomReg u.bank := by unfold bankCrcReg bankGeomReg; split <;> decide
  obtain ⟨hcrc, hbw, hbh, hmode, hzregs⟩ := y.bankSealed_spec hne c u
  rw [← hz] at hcrc hbw hbh hmode hzregs
  have haregs : RegsBut s a [R.UNI_STAGE_STATUS] := by rw [ha]; exact RegsBut.refl.setFld
  have hyrd (k : Nat) : y.rd k = a.rd k := by rw [hy]; rfl
  have hyregs : RegsBut s y [R.UNI_STAGE_STATUS] := fun k hk => (hyrd k).trans (haregs k hk)
  have hyfld (f : Fld) : y.fld f = a.fld f := by rw [State.fld, hyrd, State.fld]
  have hwregs : RegsBut z w [R.UNI_STAGE_STATUS] := by rw [hw]; exact RegsBut.refl.setFld
  have hstatus {f : Fld} (hf : f.off = R.UNI_STAGE_STATUS) : z.fld f = y.fld f :=
    hzregs.fld (by rw [hf]; unfold bankCrcReg bankGeomReg; split <;> decide)
  have hxs : x = s.fld F.UNI_STAGE_STATUS_SEALED := by
    rw [hx, hstatus rfl, hyfld, ha, State.fld_setFld_other _ _ _ _ (by decide)]
  have hx4 : x < 4 := by rw [hx]; exact bitsOf_lt _ _ _
  have hframe : Frame [.regs, .uniSeal] s w := by
    have haframe : Frame [.regs, .uniSeal] s a := by rw [ha]; exact Frame.refl.setFld
    have hyframe : Frame [.regs, .uniSeal] s y := by rw [hy]; exact haframe.then (q := [.uniSeal]) rfl (by decide)
    rw [hw, hz]
    exact hyframe.bankSealed.setFld
  have hseal : w.uniSeal = none := by
    have hwframe : Frame [.regs] y w := by rw [hw, hz]; exact Frame.refl.bankSealed.setFld
    rw [hwframe.get State.uniSeal, hy]
  rw [hform]
  refine ⟨hseal, ?_, ?_, ?_, ?_, fun k hk => ?_, hframe.withUniSeal hseal⟩
  · rw [State.bit, hw, State.fld_setFld_other _ _ _ _ (by decide), hstatus rfl, hyfld, ha, State.fld_setFld_same _ _ _ (by decide)]
    rfl
  · have h : w.rd (bankCrcReg u.bank) = c := by
      rw [hwregs _ (by unfold bankCrcReg; split <;> decide), hcrc]
    unfold bankCrcReg at h
    split at h <;> simpa [*] using h
  · have hgeom {f : Fld} (hf : f.off = bankGeomReg u.bank) : w.fld f = z.fld f :=
      hwregs.fld (by rw [hf]; unfold bankGeomReg; split <;> decide)
    have hbit : w.bit ⟨bankGeomReg u.bank, 31, 1⟩ = u.mode := by rw [State.bit, hgeom rfl, ← State.bit, hmode]
    rw [← hgeom rfl] at hbw hbh
    by_cases h0 : u.bank = 0
    · rw [show bankGeomReg u.bank = R.UNI_BANK0_GEOM from if_pos h0] at hbw hbh hbit
      rw [State.mapGeom, if_pos h0, hbw, hbh, hbit]
    · rw [show bankGeomReg u.bank = R.UNI_BANK1_GEOM from if_neg h0] at hbw hbh hbit
      rw [State.mapGeom, if_neg h0, hbw, hbh, hbit]
  · rw [hw, State.fld_setFld_same _ _ _ (by decide), hxs.symm]
    exact sealed_or_lt x hx4 u.bank hb
  · rw [List.mem_cons, not_or] at hk
    obtain ⟨hst, hbank⟩ := hk
    have hk2 : k ∉ [bankCrcReg u.bank, bankGeomReg u.bank] := by
      unfold bankCrcReg bankGeomReg
      split <;> simpa [*] using hbank
    rw [hwregs k (by simpa using hst), hzregs k hk2, hyregs k (by simpa using hst)]

end

/-- Settles O35: the start of a seal, its end, and the cases in which there is neither. -/
theorem mapSealRunsAndEnds : Obligations.MapSealRunsAndEnds := by
  refine fun s => ⟨fun v hserves => ⟨fun hseal hidle hpending => ?starts, fun hno => ?ignored⟩, fun hnone => ?none,
    fun u crc hu hb hcrc => ?ends⟩
  case starts =>
    obtain ⟨a, ha⟩ : ∃ a, a = s.setFld F.UNI_STAGE_STATUS_BUSY 1 := ⟨_, rfl⟩
    obtain ⟨x, hx⟩ : ∃ x : Option UniSeal, x = some ⟨1 - s.fld F.UNI_CTRL_ACTIVE_BANK, bitOf v 1, s.blocksW, s.blocksH⟩ := ⟨_, rfl⟩
    obtain ⟨t, ht⟩ : ∃ t : State, t = { a with uniSeal := x } := ⟨_, rfl⟩
    have hexec : exec (.uniSeal v) s = .next t := by
      refine congrArg Host.Outcome.next ((hostWriteTo_of_serves s _ _ hserves).trans ?_)
      rw [if_pos hseal, State.startUniSeal, if_neg (by simp [hidle, hpending]), ht, ha, hx]
    have htreg : t.regs = a.regs := by rw [ht]
    have hfld (f : Fld) : t.fld f = a.fld f := by rw [State.fld, State.rd, htreg, State.fld, State.rd]
    have haregs : RegsBut s a [R.UNI_STAGE_STATUS] := by rw [ha]; exact RegsBut.refl.setFld
    have htframe : Frame [.regs, .uniSeal] s t := by
      have haframe : Frame [.regs, .uniSeal] s a := by rw [ha]; exact Frame.refl.setFld
      rw [ht]; exact haframe.then (q := [.uniSeal]) rfl (by decide)
    refine ⟨t, hexec, ?_, ?_, by rw [ht, hx]; rfl, haregs.of_regs htreg, htframe⟩
    · rw [State.bit, hfld, ha, State.fld_setFld_same _ _ _ (by decide)]; rfl
    · rw [hfld, ha, State.fld_setFld_other _ _ _ _ (by decide)]
  case ignored =>
    refine congrArg Host.Outcome.next ((hostWriteTo_of_serves s _ _ hserves).trans ?_)
    obtain hseal | hbusy := hno
    · rw [hseal]; rfl
    · have hstart : s.startUniSeal (bitOf v 1) = s := if_pos (by simpa using hbusy)
      rw [hstart, ite_self]
  case none =>
    refine congrArg Host.Outcome.next ?_
    simp only [State.uniSealDone, hnone]
  case ends =>
    subst hcrc
    exact ⟨_, congrArg Host.Outcome.next (State.uniSealDone_eq hu), s.mapSealed_spec _ hb⟩

end Sys2Proof.Machine

/-! ### Assay's policy and the publication of its results (R263, R266) -/

namespace Sys2Proof.Machine

-- A proof that fills in an argument by its default tactic waits for all that stands before it: checked in order, none waits.
set_option Elab.async false

section
variable {s t : State} {p : List Part}

/-! #### The persistent store's words -/

/-- A write that the buffer holds is read back; no other word changes. -/
theorem State.persRead_persWrite (s : State) (i j : Nat) (v : Word) :
    (s.persWrite i v).persRead j = if j = i then v else s.persRead j := by
  have hlast (l : List (Nat × Word)) : ((l ++ [(i, v)]).filter fun e => e.1 == j).getLast? =
      if j = i then some (i, v) else (l.filter fun e => e.1 == j).getLast? := by
    split
    · next h => subst h; simp
    · next h => simp [List.filter_append, Ne.symm h]
  unfold State.persRead State.persWrite
  dsimp only
  rw [hlast]
  by_cases h : j = i
  · rw [if_pos h, if_pos h]
  · rw [if_neg h, if_neg h]

theorem Frame.persWrite (h : Frame p s t) {i : Nat} {v : Word} (hp : .pstore ∈ p := by decide) : Frame p s (t.persWrite i v) :=
  h.then (q := [.pstore]) rfl (forall_mem_one hp)

theorem bitOf_or_one (v : Word) : bitOf (v ||| 1#32) 0 = true := by
  simp [bitOf, bitsOf]

/-! #### A half's results -/

/-- The results of a half that is ON are shown. -/
def State.halfShown (s : State) (h : Half) (crc frame : Word) : State :=
  if !s.domOn (halfDomain h) then s
  else (s.setFld (F.ASSAY_HALF_CRC_CRC h) crc.toNat).setFld (F.ASSAY_HALF_FRAME_FRAME h) frame.toNat

theorem State.regsBut_halfShown (s : State) (h : Half) (crc frame : Word) :
    RegsBut s (s.halfShown h crc frame) [R.ASSAY_HALF_CRC h, R.ASSAY_HALF_FRAME h] :=
  .ite .refl RegsBut.refl.setFld.setFld

theorem State.halfShown_of_off {h : Half} (hoff : s.domOn (halfDomain h) = false) (crc frame : Word) :
    s.halfShown h crc frame = s := if_pos (by simp [hoff])

theorem State.rd_halfShown {h : Half} (hon : s.domOn (halfDomain h) = true) (crc frame : Word) :
    (s.halfShown h crc frame).rd (R.ASSAY_HALF_CRC h) = crc ∧ (s.halfShown h crc frame).rd (R.ASSAY_HALF_FRAME h) = frame := by
  rw [State.halfShown, if_neg (by simp [hon])]
  refine ⟨?_, State.rd_setFld_word (R.ASSAY_HALF_FRAME h) frame⟩
  rw [State.setFld, State.rd_wr_other _ _ (by simp [R.ASSAY_HALF_CRC])]
  exact State.rd_setFld_word (R.ASSAY_HALF_CRC h) crc

theorem Frame.halfShown (h : Frame p s t) {hf : Half} {crc frame : Word} (hp : .regs ∈ p := by decide) :
    Frame p s (t.halfShown hf crc frame) := .ite h ((h.setFld hp).setFld hp)

/-- No register that shows a half's results says which domains are ON. -/
theorem RegsBut.domOn {l : List Nat} (h : RegsBut s t l) (hl : R.PWR_STATE ∉ l := by decide) : t.domOn = s.domOn := by
  funext d
  rw [State.domOn, State.domState, h.fld hl, State.domOn, State.domState]

/-! #### The results of the frame and of the rectangles -/

/-- The CRC of a rectangle, 0 where it has none. -/
def AssayPub.rectCrc (p : AssayPub) (n : Nat) : Word := match p.rects.find? (·.n == n) with | some r => r.crc | none => 0

def AssayPub.fails (p : AssayPub) : Nat := p.rects.foldl (fun a r => if r.failed then a + 2 ^ r.n else a) 0

def AssayPub.count (p : AssayPub) : Nat := (p.rects.filter (·.failed)).length

/-- The rectangles that cover protected strips. -/
def AssayPub.protRects (p : AssayPub) : List Nat := (p.rects.filter fun (r : RectResult) => r.prot).map fun (r : RectResult) => r.n

/-- A frame that the comparisons fail. -/
def AssayPub.bad (p : AssayPub) : Bool := p.failed || p.count != 0

/-- The CRC of a rectangle as the value of a field. -/
def AssayPub.rectVal (p : AssayPub) (n : Nat) : Nat := match p.rects.find? (·.n == n) with | some r => r.crc.toNat | none => 0

theorem AssayPub.rectVal_eq (p : AssayPub) (n : Nat) : p.rectVal n = (p.rectCrc n).toNat := by
  unfold AssayPub.rectVal AssayPub.rectCrc
  cases p.rects.find? (·.n == n) <;> rfl

def State.rectsShown (s : State) (p : AssayPub) : State :=
  s.each (List.range 64) fun s n => s.setFld (F.ASSAY_RECT_RESULT_CRC n) (p.rectVal n)

theorem State.rectsShown_spec (s : State) (p : AssayPub) :
    (∀ n, n < 64 → (s.rectsShown p).rd (R.ASSAY_RECT_RESULT n) = p.rectCrc n) ∧
    RegsBut s (s.rectsShown p) ((List.range 64).map R.ASSAY_RECT_RESULT) := by
  have hval (u : State) (n : Nat) : (u.setFld (F.ASSAY_RECT_RESULT_CRC n) (p.rectVal n)).rd (R.ASSAY_RECT_RESULT n) = p.rectCrc n := by
    rw [p.rectVal_eq]; exact State.rd_setFld_word (R.ASSAY_RECT_RESULT n) _
  have h := State.rd_each_of_stable (xs := List.range 64) (f := fun s n => s.setFld (F.ASSAY_RECT_RESULT_CRC n) (p.rectVal n))
    (o := R.ASSAY_RECT_RESULT) (g := fun _ n => p.rectCrc n) (by decide) (fun u n _ => RegsBut.refl.setFld)
    (fun u n _ => hval u n) (fun u n _ m _ _ => rfl) s
  exact ⟨fun n hn => h.1 n (List.mem_range.mpr hn), h.2⟩

theorem State.frame_rectsShown (h : Frame p s t) {x : AssayPub} (hp : .regs ∈ p := by decide) : Frame p s (t.rectsShown x) :=
  h.each fun _ _ _ hu => hu.setFld hp

/-- What Dawn shows of the frame as a whole. -/
def State.frameShown (s : State) (p : AssayPub) : State :=
  ((((s.setFld F.ASSAY_RESULT_FRAME_FRAME p.frameNo.toNat).setFld F.ASSAY_MISMATCH_LO_MAP p.fails).setFld
    F.ASSAY_MISMATCH_HI_MAP (p.fails / 2 ^ 32)).setBit F.ASSAY_STATUS_FRAME_FAIL p.failed).setFld F.ASSAY_STATUS_COUNT p.count

theorem State.regsBut_frameShown (s : State) (p : AssayPub) : RegsBut s (s.frameShown p)
    [R.ASSAY_RESULT_FRAME, R.ASSAY_MISMATCH_LO, R.ASSAY_MISMATCH_HI, R.ASSAY_STATUS] :=
  RegsBut.refl.setFld.setFld.setFld.setBit.setFld

theorem State.frameShown_spec (s : State) (p : AssayPub) :
    (s.frameShown p).rd R.ASSAY_RESULT_FRAME = p.frameNo ∧
    (s.frameShown p).fld F.ASSAY_MISMATCH_LO_MAP = p.fails % 2 ^ 32 ∧
    (s.frameShown p).fld F.ASSAY_MISMATCH_HI_MAP = p.fails / 2 ^ 32 % 2 ^ 32 ∧
    (s.frameShown p).bit F.ASSAY_STATUS_FRAME_FAIL = p.failed ∧
    (s.frameShown p).fld F.ASSAY_STATUS_COUNT = p.count % 128 := by
  obtain ⟨a, ha⟩ : ∃ a, a = s.setFld F.ASSAY_RESULT_FRAME_FRAME p.frameNo.toNat := ⟨_, rfl⟩
  have hform : s.frameShown p = (((a.setFld F.ASSAY_MISMATCH_LO_MAP p.fails).setFld
      F.ASSAY_MISMATCH_HI_MAP (p.fails / 2 ^ 32)).setBit F.ASSAY_STATUS_FRAME_FAIL p.failed).setFld F.ASSAY_STATUS_COUNT p.count := by
    rw [ha]; rfl
  have hregs : RegsBut a (s.frameShown p) [R.ASSAY_MISMATCH_LO, R.ASSAY_MISMATCH_HI, R.ASSAY_STATUS] := by
    rw [hform]; exact RegsBut.refl.setFld.setFld.setBit.setFld
  refine ⟨?_, ?_, ?_, ?_, ?_⟩
  · rw [hregs _ (by decide), ha]; exact State.rd_setFld_word R.ASSAY_RESULT_FRAME _
  · rw [hform, State.setBit]; simp (disch := simp) only [State.fld_setFld_other, State.fld_setFld_same]
  · rw [hform, State.setBit]; simp (disch := simp) only [State.fld_setFld_other, State.fld_setFld_same]
  · rw [hform, State.bit, State.fld_setFld_other _ _ _ _ (by decide), ← State.bit]
    exact State.bit_setBit_same _ _ (by decide) (by decide)
  · rw [hform, State.fld_setFld_same _ _ _ (by decide)]; rfl

theorem Frame.frameShown (h : Frame p s t) {x : AssayPub} (hp : .regs ∈ p := by decide) : Frame p s (t.frameShown x) :=
  ((((h.setFld hp).setFld hp).setFld hp).setBit hp).setFld hp

/-! #### Publication, in its parts -/

/-- What the results of the halves leave: nothing waits, the halves' results are shown, and whether they are protected is noted. -/
def State.halvesPublished (s : State) (p : AssayPub) : State :=
  let s := { s with assay := { s.assay with pub := none } }
  let s := (s.halfShown .dawn p.dawn p.frameNo).halfShown .dusk p.dusk p.frameNo
  { s with assay := { s.assay with
    protDawn := if s.domOn dDAWN then p.protDawn else s.assay.protDawn,
    protDusk := if s.domOn dDUSK then p.protDusk else s.assay.protDusk } }

/-- The results of the frame and of the rectangles are shown. -/
def State.frameCompared (s : State) (p : AssayPub) : State :=
  let s := { s with assay := { s.assay with protFrame := p.protDawn || p.protDusk, protRects := p.protRects } }
  ((s.setFld F.ASSAY_FRAME_CRC_CRC p.crc.toNat).rectsShown p).frameShown p

/-- What the results of the frame leave: they are shown, a failing frame is counted, and ARMED says whether it failed. -/
def State.framePublished (s : State) (p : AssayPub) : State :=
  let s := s.frameCompared p
  let s := if p.bad then s.bump F.ASSAY_MISMATCH_FRAMES_COUNT else s
  { s with assay := { s.assay with armed := !p.bad } }

theorem State.halvesPublished_spec (s : State) (p : AssayPub) :
    (∀ h, s.domOn (halfDomain h) = true →
      (s.halvesPublished p).rd (R.ASSAY_HALF_CRC h) = (match h with | .dawn => p.dawn | .dusk => p.dusk) ∧
      (s.halvesPublished p).rd (R.ASSAY_HALF_FRAME h) = p.frameNo) ∧
    (∀ h, s.domOn (halfDomain h) = false →
      (s.halvesPublished p).rd (R.ASSAY_HALF_CRC h) = s.rd (R.ASSAY_HALF_CRC h) ∧
      (s.halvesPublished p).rd (R.ASSAY_HALF_FRAME h) = s.rd (R.ASSAY_HALF_FRAME h)) ∧
    (s.halvesPublished p).assay = { s.assay with
      pub := none, protDawn := if s.domOn dDAWN then p.protDawn else s.assay.protDawn,
      protDusk := if s.domOn dDUSK then p.protDusk else s.assay.protDusk } ∧
    RegsBut s (s.halvesPublished p)
      [R.ASSAY_HALF_CRC .dawn, R.ASSAY_HALF_FRAME .dawn, R.ASSAY_HALF_CRC .dusk, R.ASSAY_HALF_FRAME .dusk] ∧
    (s.domOn dDAWN = false → RegsBut s (s.halvesPublished p) [R.ASSAY_HALF_CRC .dusk, R.ASSAY_HALF_FRAME .dusk]) ∧
    Frame [.regs, .assay] s (s.halvesPublished p) := by
  obtain ⟨a, ha⟩ : ∃ a : State, a = { s with assay := { s.assay with pub := none } } := ⟨_, rfl⟩
  obtain ⟨b, hb⟩ : ∃ b, b = a.halfShown .dawn p.dawn p.frameNo := ⟨_, rfl⟩
  obtain ⟨c, hc⟩ : ∃ c, c = b.halfShown .dusk p.dusk p.frameNo := ⟨_, rfl⟩
  obtain ⟨x, hx⟩ : ∃ x : Assay, x = { c.assay with
    protDawn := if c.domOn dDAWN then p.protDawn else c.assay.protDawn,
    protDusk := if c.domOn dDUSK then p.protDusk else c.assay.protDusk } := ⟨_, rfl⟩
  obtain ⟨d, hd⟩ : ∃ d : State, d = { c with assay := x } := ⟨_, rfl⟩
  have hform : s.halvesPublished p = d := by rw [hd, hx, hc, hb, ha]; rfl
  have hard (k : Nat) : a.rd k = s.rd k := by rw [ha]; rfl
  have hdrd (k : Nat) : d.rd k = c.rd k := by rw [hd]; rfl
  have hbregs := a.regsBut_halfShown .dawn p.dawn p.frameNo
  have hcregs := b.regsBut_halfShown .dusk p.dusk p.frameNo
  rw [← hb] at hbregs
  rw [← hc] at hcregs
  have haon : a.domOn = s.domOn := State.domOn_of_regs (by rw [ha])
  have hbon : b.domOn = s.domOn := hbregs.domOn.trans haon
  have hcon : c.domOn = s.domOn := hcregs.domOn.trans hbon
  have hcassay : c.assay = { s.assay with pub := none } := by
    have hframe : Frame [.regs] a c := by rw [hc, hb]; exact Frame.refl.halfShown.halfShown
    rw [hframe.get State.assay, ha]
  have hframe : Frame [.regs, .assay] s d := by
    have haframe : Frame [.regs, .assay] s a := by rw [ha]; exact Frame.refl.then (q := [.assay]) rfl (by decide)
    have hcframe : Frame [.regs, .assay] s c := by rw [hc, hb]; exact haframe.halfShown.halfShown
    rw [hd]; exact hcframe.then (q := [.assay]) rfl (by decide)
  rw [hform]
  refine ⟨fun h hon => ?_, fun h hoff => ?_, ?_, fun k hk => ?_, fun hoff k hk => ?_, hframe⟩
  · rw [hdrd, hdrd]
    cases h with
    | dawn =>
      have hval := State.rd_halfShown (s := a) (by rw [haon]; exact hon) p.dawn p.frameNo
      rw [hcregs _ (by decide), hcregs _ (by decide), hb]; exact hval
    | dusk =>
      have hval := State.rd_halfShown (s := b) (by rw [hbon]; exact hon) p.dusk p.frameNo
      rw [hc]; exact hval
  · rw [hdrd, hdrd, ← hard, ← hard]
    cases h with
    | dawn =>
      have hval := State.halfShown_of_off (s := a) (by rw [haon]; exact hoff) p.dawn p.frameNo
      rw [hcregs _ (by decide), hcregs _ (by decide), hb, hval]; exact ⟨rfl, rfl⟩
    | dusk =>
      have hval := State.halfShown_of_off (s := b) (by rw [hbon]; exact hoff) p.dusk p.frameNo
      rw [hc, hval, hbregs _ (by decide), hbregs _ (by decide)]; exact ⟨rfl, rfl⟩
  · rw [hd, hx, hcon, hcassay]
  · simp only [List.mem_cons, List.not_mem_nil, or_false, not_or] at hk
    obtain ⟨h1, h2, h3, h4⟩ := hk
    rw [hdrd, hcregs k (by simp only [List.mem_cons, List.not_mem_nil, or_false, not_or]; exact ⟨h3, h4⟩),
      hbregs k (by simp only [List.mem_cons, List.not_mem_nil, or_false, not_or]; exact ⟨h1, h2⟩), hard]
  · have hval := State.halfShown_of_off (s := a) (h := .dawn) (by rw [haon]; exact hoff) p.dawn p.frameNo
    rw [hdrd, hcregs k hk, hb, hval, hard]

theorem State.framePublished_spec (s : State) (p : AssayPub) :
    ((s.framePublished p).rd R.ASSAY_FRAME_CRC = p.crc ∧ (s.framePublished p).rd R.ASSAY_RESULT_FRAME = p.frameNo) ∧
    (∀ n, n < 64 → (s.framePublished p).rd (R.ASSAY_RECT_RESULT n) = p.rectCrc n) ∧
    ((s.framePublished p).fld F.ASSAY_MISMATCH_LO_MAP = p.fails % 2 ^ 32 ∧
      (s.framePublished p).fld F.ASSAY_MISMATCH_HI_MAP = p.fails / 2 ^ 32 % 2 ^ 32) ∧
    ((s.framePublished p).bit F.ASSAY_STATUS_FRAME_FAIL = p.failed ∧
      (s.framePublished p).fld F.ASSAY_STATUS_COUNT = p.count % 128) ∧
    (s.framePublished p).fld F.ASSAY_MISMATCH_FRAMES_COUNT =
      (if p.bad then min (s.fld F.ASSAY_MISMATCH_FRAMES_COUNT + 1) (2 ^ 32 - 1) else s.fld F.ASSAY_MISMATCH_FRAMES_COUNT) ∧
    (s.framePublished p).assay = { s.assay with
      protFrame := p.protDawn || p.protDusk, protRects := p.protRects, armed := !p.bad } ∧
    RegsBut s (s.framePublished p) ([R.ASSAY_FRAME_CRC, R.ASSAY_RESULT_FRAME, R.ASSAY_MISMATCH_LO, R.ASSAY_MISMATCH_HI,
      R.ASSAY_STATUS, R.ASSAY_MISMATCH_FRAMES] ++ (List.range 64).map R.ASSAY_RECT_RESULT) ∧
    Frame [.regs, .assay] s (s.framePublished p) := by
  obtain ⟨x, hx⟩ : ∃ x : Assay, x = { s.assay with
    protFrame := p.protDawn || p.protDusk, protRects := p.protRects } := ⟨_, rfl⟩
  obtain ⟨a, ha⟩ : ∃ a : State, a = { s with assay := x } := ⟨_, rfl⟩
  obtain ⟨b, hb⟩ : ∃ b, b = a.setFld F.ASSAY_FRAME_CRC_CRC p.crc.toNat := ⟨_, rfl⟩
  obtain ⟨c, hc⟩ : ∃ c, c = b.rectsShown p := ⟨_, rfl⟩
  obtain ⟨d, hd⟩ : ∃ d, d = c.frameShown p := ⟨_, rfl⟩
  obtain ⟨e, he⟩ : ∃ e, e = if p.bad then d.bump F.ASSAY_MISMATCH_FRAMES_COUNT else d := ⟨_, rfl⟩
  obtain ⟨t, ht⟩ : ∃ t : State, t = { e with assay := { e.assay with armed := !p.bad } } := ⟨_, rfl⟩
  have hform : s.framePublished p = t := by rw [ht, he, hd, hc, hb, ha, hx]; rfl
  have hard (k : Nat) : a.rd k = s.rd k := by rw [ha]; rfl
  have htrd (k : Nat) : t.rd k = e.rd k := by rw [ht]; rfl
  have htfld (f : Fld) : t.fld f = e.fld f := by rw [State.fld, htrd, State.fld]
  have hbregs : RegsBut a b [R.ASSAY_FRAME_CRC] := by rw [hb]; exact RegsBut.refl.setFld
  obtain ⟨hrects, hcregs⟩ := b.rectsShown_spec p
  have hdregs := c.regsBut_frameShown p
  obtain ⟨hframeNo, hlo, hhi, hfail, hcount⟩ := c.frameShown_spec p
  rw [← hc] at hrects hcregs
  rw [← hd] at hdregs hframeNo hlo hhi hfail hcount
  have heregs : RegsBut d e [R.ASSAY_MISMATCH_FRAMES] := by rw [he]; exact .ite RegsBut.refl.bump .refl
  have hnotRect {k : Nat} (hk : k < 0x26600) : k ∉ (List.range 64).map R.ASSAY_RECT_RESULT := by
    simp only [List.mem_map, List.mem_range, R.ASSAY_RECT_RESULT]; omega
  have hframe : Frame [.regs, .assay] s t := by
    have haframe : Frame [.regs, .assay] s a := by rw [ha]; exact Frame.refl.then (q := [.assay]) rfl (by decide)
    have heframe : Frame [.regs, .assay] s e := by
      rw [he, hd, hc, hb]
      exact .ite (State.frame_rectsShown haframe.setFld).frameShown.bump (State.frame_rectsShown haframe.setFld).frameShown
    rw [ht]; exact heframe.then (q := [.assay]) rfl (by decide)
  have heassay : e.assay = x := by
    have heframe : Frame [.regs] a e := by
      rw [he, hd, hc, hb]
      exact .ite (State.frame_rectsShown Frame.refl.setFld).frameShown.bump (State.frame_rectsShown Frame.refl.setFld).frameShown
    rw [heframe.get State.assay, ha]
  rw [hform]
  refine ⟨⟨?_, ?_⟩, fun n hn => ?_, ⟨?_, ?_⟩, ⟨?_, ?_⟩, ?_, ?_, fun k hk => ?_, hframe⟩
  · rw [htrd, heregs _ (by decide), hdregs _ (by decide), hcregs _ (hnotRect (by decide)), hb]
    exact State.rd_setFld_word R.ASSAY_FRAME_CRC _
  · rw [htrd, heregs _ (by decide), hframeNo]
  · have hne : R.ASSAY_RECT_RESULT n ∉ [R.ASSAY_RESULT_FRAME, R.ASSAY_MISMATCH_LO, R.ASSAY_MISMATCH_HI, R.ASSAY_STATUS] := by
      simp only [List.mem_cons, List.not_mem_nil, or_false, R.ASSAY_RECT_RESULT, R.ASSAY_RESULT_FRAME, R.ASSAY_MISMATCH_LO,
        R.ASSAY_MISMATCH_HI, R.ASSAY_STATUS]
      omega
    have hne' : R.ASSAY_RECT_RESULT n ∉ [R.ASSAY_MISMATCH_FRAMES] := by
      simp only [List.mem_cons, List.not_mem_nil, or_false, R.ASSAY_RECT_RESULT, R.ASSAY_MISMATCH_FRAMES]; omega
    rw [htrd, heregs _ hne', hdregs _ hne, hrects n hn]
  · rw [htfld, heregs.fld (by decide), hlo]
  · rw [htfld, heregs.fld (by decide), hhi]
  · rw [State.bit, htfld, heregs.fld (by decide), ← State.bit, hfail]
  · rw [htfld, heregs.fld (by decide), hcount]
  · have hd' : d.fld F.ASSAY_MISMATCH_FRAMES_COUNT = s.fld F.ASSAY_MISMATCH_FRAMES_COUNT := by
      rw [hdregs.fld (by decide), hcregs.fld (hnotRect (by decide)), hbregs.fld (by decide), State.fld, hard, State.fld]
    rw [htfld, he, ← hd']
    cases p.bad
    · rfl
    · exact State.fld_bump_same d F.ASSAY_MISMATCH_FRAMES_COUNT 1 (by decide)
  · rw [ht, heassay, hx]
  · simp only [List.mem_append, List.mem_cons, List.not_mem_nil, or_false, not_or] at hk
    obtain ⟨⟨h1, h2, h3, h4, h5, h6⟩, hrect⟩ := hk
    have hk4 : k ∉ [R.ASSAY_RESULT_FRAME, R.ASSAY_MISMATCH_LO, R.ASSAY_MISMATCH_HI, R.ASSAY_STATUS] := by
      simp only [List.mem_cons, List.not_mem_nil, or_false, not_or]; exact ⟨h2, h3, h4, h5⟩
    rw [htrd, heregs k (by simpa using h6), hdregs k hk4, hcregs k hrect, hbregs k (by simpa using h1), hard]

/-- The event of a failing frame, where EVT_MODE allows it. -/
def State.mismatchReported (s : State) (p : AssayPub) : State :=
  (s.raise 0x26 0).post F.ASSAY_EVT_RING 0x0A00
    [(1, b2n p.failed), (7, p.count), (32, p.frameNo.toNat), (32, p.fails), (32, p.fails / 2 ^ 32)]

/-- Publication by its parts. -/
theorem State.assayPublish_eq {p : AssayPub} (hp : s.assay.pub = some p) :
    s.assayPublish = if !(s.halvesPublished p).domOn dDAWN then s.halvesPublished p
      else if !p.failed && p.count = 0 then
        { (s.halvesPublished p).frameCompared p with assay := { ((s.halvesPublished p).frameCompared p).assay with armed := true } }
      else if p.onceMode && !(((s.halvesPublished p).frameCompared p).bump F.ASSAY_MISMATCH_FRAMES_COUNT).assay.armed then
        ((s.halvesPublished p).frameCompared p).bump F.ASSAY_MISMATCH_FRAMES_COUNT
      else State.mismatchReported { ((s.halvesPublished p).frameCompared p).bump F.ASSAY_MISMATCH_FRAMES_COUNT with
        assay := { (((s.halvesPublished p).frameCompared p).bump F.ASSAY_MISMATCH_FRAMES_COUNT).assay with armed := false } } p := by
  unfold State.assayPublish
  rw [hp]
  rfl

theorem State.frameCompared_armed (s : State) (p : AssayPub) : (s.frameCompared p).assay.armed = s.assay.armed := by
  obtain ⟨x, hx⟩ : ∃ x : Assay, x = { s.assay with
    protFrame := p.protDawn || p.protDusk, protRects := p.protRects } := ⟨_, rfl⟩
  obtain ⟨a, ha⟩ : ∃ a : State, a = { s with assay := x } := ⟨_, rfl⟩
  have hform : s.frameCompared p = ((a.setFld F.ASSAY_FRAME_CRC_CRC p.crc.toNat).rectsShown p).frameShown p := by rw [ha, hx]; rfl
  have hframe : Frame [.regs] a (s.frameCompared p) := by rw [hform]; exact (State.frame_rectsShown Frame.refl.setFld).frameShown
  rw [hframe.get State.assay, ha, hx]

theorem AssayPub.bad_eq_false_iff (p : AssayPub) : p.bad = false ↔ (!p.failed && p.count = 0) = true := by
  simp [AssayPub.bad]

theorem State.armed_false (h : s.assay.armed = false) : { s with assay := { s.assay with armed := false } } = s := by
  rw [← h]

theorem State.assayPublish_of_on {p : AssayPub} (hp : s.assay.pub = some p) (hon : (s.halvesPublished p).domOn dDAWN = true)
    (harmed : (s.halvesPublished p).assay.armed = s.assay.armed) :
    s.assayPublish = if p.bad && (!p.onceMode || s.assay.armed) then ((s.halvesPublished p).framePublished p).mismatchReported p
      else (s.halvesPublished p).framePublished p := by
  rw [State.assayPublish_eq hp, if_neg (by simp [hon])]
  obtain ⟨x, hx⟩ : ∃ x, x = s.halvesPublished p := ⟨_, rfl⟩
  obtain ⟨y, hy⟩ : ∃ y, y = x.frameCompared p := ⟨_, rfl⟩
  have harm : y.assay.armed = s.assay.armed := by rw [hy, State.frameCompared_armed, hx, harmed]
  rw [← hx, State.framePublished, ← hy]
  cases hbad : p.bad
  · rw [if_pos (p.bad_eq_false_iff.mp hbad)]; rfl
  · obtain ⟨z, hz⟩ : ∃ z, z = y.bump F.ASSAY_MISMATCH_FRAMES_COUNT := ⟨_, rfl⟩
    have hzarm : z.assay.armed = s.assay.armed := by rw [hz, ← harm]; rfl
    rw [if_neg (by rw [← p.bad_eq_false_iff, hbad]; decide), ← hz, hzarm]
    cases honce : p.onceMode <;> cases ha : s.assay.armed
    · rfl
    · rfl
    · exact (State.armed_false (hzarm.trans ha)).symm
    · rfl

end

/-- Settles O43: POLICY is set only, and publication is that of the halves and, with Dawn ON, that of the frame. -/
theorem assayPolicyAndPublication : Obligations.AssayPolicyAndPublication := by
  refine fun s => ⟨fun v hserves => ⟨fun h0 => ?keep, fun h1 => ?hide⟩, fun hnone => ?none, fun p fails count hp hfails hcount => ?some⟩
  case keep =>
    refine congrArg Host.Outcome.next ((hostWriteTo_of_serves s _ _ hserves).trans ?_)
    rw [State.policyWrite, h0]; rfl
  case hide =>
    refine ⟨s.persWrite persPolicy (s.persRead persPolicy ||| 1#32),
      congrArg Host.Outcome.next ((hostWriteTo_of_serves s _ _ hserves).trans ?_), ?_, fun i hi => ?_, rfl⟩
    · exact if_pos h1
    · rw [State.assayHide, State.persRead_persWrite, if_pos rfl]
      exact bitOf_or_one _
    · rw [State.persRead_persWrite, if_neg hi]
  case none =>
    refine congrArg Host.Outcome.next ?_
    rw [State.assayPublish, hnone]
  case some =>
    obtain rfl : fails = p.fails := hfails
    obtain rfl : count = p.count := hcount
    obtain ⟨x, hx⟩ : ∃ x, x = s.halvesPublished p := ⟨_, rfl⟩
    obtain ⟨hshown, hkept, hassay, hregs, hoffRegs, hframe⟩ := s.halvesPublished_spec p
    rw [← hx] at hshown hkept hassay hregs hoffRegs hframe
    have hxon : x.domOn = s.domOn := hregs.domOn
    cases hdawn : s.domOn dDAWN
    · have hexec : exec .assayPublish s = .next x := by
        refine congrArg Host.Outcome.next ?_
        rw [State.assayPublish_eq hp, ← hx, hxon, hdawn]; rfl
      refine ⟨x, hshown, hkept, by rw [hassay], by rw [hassay], by rw [hassay, hdawn], by rw [hassay], hframe,
        fun _ => ⟨hexec, ?_, hoffRegs hdawn⟩, fun h => absurd h (by decide)⟩
      rw [hassay, hdawn]
      rfl
    · obtain ⟨u, hu⟩ : ∃ u, u = x.framePublished p := ⟨_, rfl⟩
      obtain ⟨⟨hcrc, hno⟩, hrects, ⟨hlo, hhi⟩, ⟨hfail, hcount⟩, hframes, huassay, huregs, huframe⟩ := x.framePublished_spec p
      rw [← hu] at hcrc hno hrects hlo hhi hfail hcount hframes huassay huregs huframe
      have hhalf (h : Half) : u.rd (R.ASSAY_HALF_CRC h) = x.rd (R.ASSAY_HALF_CRC h) ∧
          u.rd (R.ASSAY_HALF_FRAME h) = x.rd (R.ASSAY_HALF_FRAME h) := by
        cases h <;> exact ⟨huregs _ (by decide), huregs _ (by decide)⟩
      have hexec : exec .assayPublish s = .next (if p.bad && (!p.onceMode || s.assay.armed) then u.mismatchReported p else u) := by
        refine congrArg Host.Outcome.next ?_
        rw [State.assayPublish_of_on hp (by rw [← hx, hxon, hdawn]) (by rw [← hx, hassay]), ← hx, ← hu]
      refine ⟨u, fun h hon => ?_, fun h hoff => ?_, by rw [huassay, hassay], by rw [huassay, hassay],
        by rw [huassay, hassay, hdawn], by rw [huassay, hassay], hframe.trans huframe, fun h => absurd h (by decide),
        fun _ => ⟨hcrc, hno, hrects, hlo, hhi, hfail, hcount, ?_, by rw [huassay], by rw [huassay]; rfl, by rw [huassay]; rfl, ?_, hexec⟩⟩
      · rw [(hhalf h).1, (hhalf h).2]; exact hshown h hon
      · rw [(hhalf h).1, (hhalf h).2]; exact hkept h hoff
      · rw [hframes, hregs.fld (by decide)]; rfl
      · intro k hk
        simp only [List.mem_append, List.mem_cons, List.not_mem_nil, or_false, not_or] at hk
        obtain ⟨⟨h1, h2, h3, h4, hrest⟩, hrect⟩ := hk
        rw [huregs k (by simp only [List.mem_append, List.mem_cons, List.not_mem_nil, or_false, not_or]; exact ⟨hrest, hrect⟩),
          hregs k (by simp only [List.mem_cons, List.not_mem_nil, or_false, not_or]; exact ⟨h1, h2, h3, h4⟩)]

end Sys2Proof.Machine

/-! ### Key slots (R267, R268)

First rules for registers that only an event may change; then the persistent store's buffer, and the copies of a slot. -/

namespace Sys2Proof.Machine

-- A proof that fills in an argument by its default tactic waits for all that stands before it: checked in order, none waits.
set_option Elab.async false

/-! #### Registers that stay but for events -/

section
variable {s t u : State} {r : Nat} {l : List Nat}

theorem RegsBut.events (h : RegsBut s t l) : RegsButEvents r s t l := fun k hk _ => h k hk

theorem RegsButEvents.refl : RegsButEvents r s s l := fun _ _ _ => rfl

theorem RegsButEvents.trans {m : List Nat} (h : RegsButEvents r s t l) (k : RegsButEvents r t u m) (hm : ∀ x ∈ m, x ∈ l) :
    RegsButEvents r s u l := fun o ho he => (k o (fun hom => ho (hm o hom)) he).trans (h o ho he)

theorem RegsButEvents.but {m : List Nat} (h : RegsButEvents r s t l) (k : RegsBut t u m) (hm : ∀ x ∈ m, x ∈ l := by simp) :
    RegsButEvents r s u l := h.trans k.events hm

theorem RegsButEvents.mono {m : List Nat} (h : RegsButEvents r s t l) (hl : ∀ k ∈ l, k ∈ m) : RegsButEvents r s t m :=
  fun k hk => h k fun hkl => hk (hl k hkl)

theorem RegsButEvents.of_regs (h : RegsButEvents r s t l) (hu : u.regs = t.regs) : RegsButEvents r s u l :=
  h.but (m := []) (fun k _ => by rw [State.rd, State.rd, hu]) (fun _ hx => absurd hx (List.not_mem_nil))

theorem RegsButEvents.setFld (h : RegsButEvents r s t l) {f : Fld} {n : Nat} (hf : f.off ∈ l := by simp) :
    RegsButEvents r s (t.setFld f n) l := h.but (m := [f.off]) (RegsBut.refl.setFld (List.mem_singleton_self _)) (by simpa using hf)

theorem RegsButEvents.setBit (h : RegsButEvents r s t l) {f : Fld} {b : Bool} (hf : f.off ∈ l := by simp) :
    RegsButEvents r s (t.setBit f b) l := h.setFld hf

theorem RegsButEvents.bump (h : RegsButEvents r s t l) {f : Fld} {n : Nat} (hf : f.off ∈ l := by simp) :
    RegsButEvents r s (t.bump f n) l := h.setFld hf

theorem RegsButEvents.raise (h : RegsButEvents r s t l) {p b : Nat} (hp : p < 256 := by decide) : RegsButEvents r s (t.raise p b) l :=
  fun k hk he => (t.rd_raise_event r p b k hp he).trans (h k hk he)

theorem RegsButEvents.ite {c : Prop} {_ : Decidable c} (ht : RegsButEvents r s t l) (hu : RegsButEvents r s u l) :
    RegsButEvents r s (if c then t else u) l := by split <;> assumption

theorem RegsButEvents.fld (h : RegsButEvents r s t l) {g : Fld} (hg : g.off ∉ l) (he : eventReg r g.off = false) :
    t.fld g = s.fld g := by rw [State.fld, h g.off hg he, State.fld]

/-- A register of a page that is neither INT_STATUS, nor LINK_STATUS, nor LOST_TOTAL. -/
def lowReg (k : Nat) : Bool := decide (k < 0x100000 ∧ k % 0x1000 ≠ 0x0C ∧ k ≠ R.PCIEX_LINK_STATUS ∧ k ≠ R.EVT_LOST_TOTAL)

/-- No event says which domains are ON. -/
theorem RegsButEvents.domOn (h : RegsButEvents r s t l) (hl : R.PWR_STATE ∉ l := by decide) : t.domOn = s.domOn := by
  funext d
  rw [State.domOn, State.domState, h.fld hl (eventReg_of_low (by decide)), State.domOn, State.domState]

theorem RegsButEvents.post {ring : Fld} (h : RegsButEvents (s.fld ring) s t l) {code : Nat} {fs : List (Nat × Nat)}
    (hl : ring.off ∉ l := by simp) (he : lowReg ring.off = true := by decide) : RegsButEvents (s.fld ring) s (t.post ring code fs) l := by
  intro k hk hek
  have hring : t.fld ring = s.fld ring := h.fld hl (eventReg_of_low (of_decide_eq_true he))
  rw [State.rd_post _ _ _ _ _ (by rw [hring]; exact hek), h k hk hek]

end

/-! #### The persistent store's buffer (R333) -/

section
variable {s t : State} {p : List Part}

theorem State.persRead_congr (hb : t.pstore.buf = s.pstore.buf) (hw : t.pstore.words = s.pstore.words) : t.persRead = s.persRead := by
  funext j
  rw [State.persRead, State.persRead, hb, hw]

/-- What the write of a word of the persistent store may change. -/
abbrev pstoreParts : List Part := [.regs, .pstore, .sent, .pcie, .summaryOwed, .rings]

/-- The wear of a word, as it is counted. -/
def State.worn (s : State) (i : Nat) : State :=
  { s with pstore := { s.pstore with wear := SMap.set (fun _ => 0) s.pstore.wear i (SMap.get (fun _ => 0) s.pstore.wear i + 1) } }

/-- The count of writes. -/
def State.writesCounted (s : State) (n : Nat) : State :=
  (s.setFld F.PSTORE_WRITES_LO_COUNT n).setFld F.PSTORE_WRITES_HI_COUNT (n / 2 ^ 32)

/-- A row that has worn is reported. -/
def State.wearReported (s : State) (i new : Nat) : State := (s.raise 0x04 0).post F.MAINT_EVT_RING 0x0904 [(13, i / 64), (32, new)]

theorem State.persWear_spec (s : State) (i : Nat) :
    (s.persWear i).pstore.buf = s.pstore.buf ∧ (s.persWear i).pstore.words = s.pstore.words ∧
    RegsButEvents (s.fld F.MAINT_EVT_RING) s (s.persWear i) [R.PSTORE_WRITES_LO, R.PSTORE_WRITES_HI] ∧
    Frame pstoreParts s (s.persWear i) := by
  obtain ⟨n, hn⟩ : ∃ n, n = (s.worn i).fld F.PSTORE_WRITES_LO_COUNT + (s.worn i).fld F.PSTORE_WRITES_HI_COUNT * 2 ^ 32 + 1 := ⟨_, rfl⟩
  obtain ⟨a, ha⟩ : ∃ a, a = (s.worn i).writesCounted n := ⟨_, rfl⟩
  obtain ⟨c, hc⟩ : ∃ c : Bool, c = (rowWear s.pstore.wear (i / 64) < wearWarn && wearWarn ≤ rowWear (s.worn i).pstore.wear (i / 64)) :=
    ⟨_, rfl⟩
  obtain ⟨x, hx⟩ : ∃ x, x = rowWear (s.worn i).pstore.wear (i / 64) := ⟨_, rfl⟩
  have hform : s.persWear i = if c then a.wearReported i x else a := by rw [hc, ha, hn, hx]; rfl
  have hregs : RegsBut s a [R.PSTORE_WRITES_LO, R.PSTORE_WRITES_HI] := by
    have hworn : RegsBut s (s.worn i) [R.PSTORE_WRITES_LO, R.PSTORE_WRITES_HI] := RegsBut.refl.of_regs rfl
    rw [ha]; exact hworn.setFld.setFld
  have haframe : Frame [.regs] (s.worn i) a := by rw [ha]; exact Frame.refl.setFld.setFld
  have hframe : Frame [.regs, .sent, .pcie, .summaryOwed, .rings] (s.worn i) (s.persWear i) := by
    rw [hform]
    exact .ite (haframe.mono (by decide)).raise.post (haframe.mono (by decide))
  refine ⟨?_, ?_, ?_, ?_⟩
  · rw [hframe.get State.pstore]; rfl
  · rw [hframe.get State.pstore]; rfl
  · rw [hform]
    exact .ite hregs.events.raise.post hregs.events
  · have hworn : Frame pstoreParts s (s.worn i) := Frame.refl.then (q := [.pstore]) rfl (by decide)
    exact hworn.then hframe (by decide)

theorem State.pstoreStep_spec (s : State) :
    s.pstoreStep.persRead = s.persRead ∧ s.pstoreStep.pstore.buf = s.pstore.buf.tail ∧
    RegsButEvents (s.fld F.MAINT_EVT_RING) s s.pstoreStep [R.PSTORE_WRITES_LO, R.PSTORE_WRITES_HI] ∧
    Frame pstoreParts s s.pstoreStep := by
  cases hbuf : s.pstore.buf with
  | nil =>
    have hform : s.pstoreStep = s := by rw [State.pstoreStep, hbuf]
    rw [hform]
    exact ⟨rfl, hbuf, .refl, .refl⟩
  | cons e rest =>
    obtain ⟨i, v⟩ := e
    obtain ⟨a, ha⟩ : ∃ a : State, a = { s with pstore := { s.pstore with
      buf := rest, words := SMap.set (fun _ => 0) s.pstore.words i v } } := ⟨_, rfl⟩
    have hform : s.pstoreStep = a.persWear i := by rw [State.pstoreStep, hbuf, ha]
    obtain ⟨hb, hw, hregs, hframe⟩ := a.persWear_spec i
    rw [← hform] at hb hw hregs hframe
    have haframe : Frame pstoreParts s a := by rw [ha]; exact Frame.refl.then (q := [.pstore]) rfl (by decide)
    have hring : a.fld F.MAINT_EVT_RING = s.fld F.MAINT_EVT_RING := by rw [ha]; rfl
    have haregs : RegsButEvents (s.fld F.MAINT_EVT_RING) s a [R.PSTORE_WRITES_LO, R.PSTORE_WRITES_HI] :=
      RegsButEvents.refl.of_regs (by rw [ha])
    refine ⟨(State.persRead_congr hb hw).trans ?_, ?_, haregs.trans (hring ▸ hregs) fun _ h => h, haframe.trans hframe⟩
    · funext j
      have hread : a.persRead j = match (rest.filter fun e => e.1 == j).getLast? with
          | some e => e.2
          | none => if j = i then v else SMap.get (fun _ => 0) s.pstore.words j := by
        rw [ha, State.persRead]
        by_cases hj : j = i
        · subst hj
          simp only [SMap.get_set_same, if_true] <;> rfl
        · rw [SMap.get_set_other _ _ _ (Ne.symm hj)]; simp only [if_neg hj] <;> rfl
      rw [hread, State.persRead, hbuf, List.filter_cons]
      by_cases hj : j = i
      · subst hj
        simp only [beq_self_eq_true, if_true, List.getLast?_cons]
        cases (rest.filter fun e => e.1 == j).getLast? <;> rfl
      · simp only [beq_iff_eq, Ne.symm hj, if_false, if_neg hj] <;> rfl
    · rw [hb, ha]; rfl

theorem Frame.pstoreStep (h : Frame p s t) (hp : ∀ x ∈ pstoreParts, x ∈ p := by decide) : Frame p s t.pstoreStep :=
  h.then t.pstoreStep_spec.2.2.2 hp

/-- As many steps as the buffer holds words, or fewer. -/
theorem State.pstoreSteps_spec {α : Type} (xs : List α) (s : State) :
    (s.each xs fun u _ => u.pstoreStep).persRead = s.persRead ∧
    (s.each xs fun u _ => u.pstoreStep).pstore.buf = s.pstore.buf.drop xs.length ∧
    RegsButEvents (s.fld F.MAINT_EVT_RING) s (s.each xs fun u _ => u.pstoreStep) [R.PSTORE_WRITES_LO, R.PSTORE_WRITES_HI] ∧
    Frame pstoreParts s (s.each xs fun u _ => u.pstoreStep) := by
  induction xs generalizing s with
  | nil => exact ⟨rfl, rfl, .refl, .refl⟩
  | cons x xs ih =>
    obtain ⟨hread, hbuf, hregs, hframe⟩ := s.pstoreStep_spec
    obtain ⟨hread', hbuf', hregs', hframe'⟩ := ih s.pstoreStep
    have hring : s.pstoreStep.fld F.MAINT_EVT_RING = s.fld F.MAINT_EVT_RING := hregs.fld (by decide) (eventReg_of_low (by decide))
    refine ⟨hread'.trans hread, hbuf'.trans ?_, hregs.trans (hring ▸ hregs') fun _ h => h, hframe.trans hframe'⟩
    rw [hbuf, List.length_cons, List.drop_tail]

end

end Sys2Proof.Machine

/-! #### Key slots: their copies, the commands, and the write that is done -/

namespace Sys2Proof.Machine

-- A proof that fills in an argument by its default tactic waits for all that stands before it: checked in order, none waits.
set_option Elab.async false

/-! #### Bytes of words -/

theorem ofLe_lt (bs : List Byte) : ofLe bs < 256 ^ bs.length := by
  induction bs with
  | nil => simp [ofLe]
  | cons b bs ih =>
    have := b.isLt
    rw [ofLe, List.length_cons, pow_succ]
    omega

theorem leBytes_ofLe (bs : List Byte) : leBytes bs.length (ofLe bs) = bs := by
  induction bs with
  | nil => rfl
  | cons b bs ih =>
    have hb := b.isLt
    have hdiv : (b.toNat + 256 * ofLe bs) / 256 = ofLe bs := by omega
    rw [List.length_cons, ofLe, leBytes, hdiv, ih]
    congr 1
    apply BitVec.eq_of_toNat_eq
    rw [BitVec.toNat_ofNat]
    omega

/-- Four bytes are those of the word that they make. -/
theorem leBytes_word {bs : List Byte} (h : bs.length = 4) : leBytes 4 (BitVec.ofNat 32 (ofLe bs)).toNat = bs := by
  have hlt : ofLe bs < 2 ^ 32 := (ofLe_lt bs).trans_eq (by rw [h]; norm_num)
  rw [BitVec.toNat_ofNat, Nat.mod_eq_of_lt hlt, ← h, leBytes_ofLe]

theorem flatMap_chunks (n : Nat) {bs : List Byte} (h : bs.length = 4 * n) :
    ((List.range n).flatMap fun k => (bs.drop (4 * k)).take 4) = bs := by
  induction n generalizing bs with
  | zero => rw [List.eq_nil_of_length_eq_zero h]; rfl
  | succ n ih =>
    have hdrop : (bs.drop 4).length = 4 * n := by rw [List.length_drop]; omega
    rw [List.range_succ_eq_map, List.flatMap_cons, List.flatMap_map]
    conv_rhs => rw [← List.take_append_drop 4 bs, ← ih hdrop]
    simp only [Nat.mul_zero, List.drop_zero, List.drop_drop, Nat.succ_eq_add_one, Nat.mul_add, Nat.mul_one, Nat.add_comm]

/-- The eight words that hold a key. -/
def keyWords (key : List Byte) : List Word := (List.range 8).map fun k => BitVec.ofNat 32 (ofLe ((key.drop (4 * k)).take 4))

theorem wordBytes_keyWords {key : List Byte} (h : key.length = 32) : wordBytes (keyWords key) = key := by
  rw [wordBytes, keyWords, List.flatMap_map]
  refine Eq.trans (List.flatMap_congr fun k hk => ?_) (flatMap_chunks 8 h)
  have := List.mem_range.mp hk
  exact leBytes_word (by rw [List.length_take, List.length_drop]; omega)

/-! #### The copies of a slot -/

section
variable {s t : State} {slot : Nat}

/-- The words of a copy, the last of them its CRC. -/
def keyImage (seq : Word) (key : List Byte) (state : Nat) : List Word :=
  (seq :: keyWords key ++ [BitVec.ofNat 32 state]) ++ [crc32c (wordBytes (seq :: keyWords key ++ [BitVec.ofNat 32 state]))]

theorem keyImage_length (seq : Word) (key : List Byte) (state : Nat) : (keyImage seq key state).length = 11 := by
  simp [keyImage, keyWords]

theorem State.persRead_writes (ws : List Word) (base off : Nat) (s : State) (j : Nat) :
    ((ws.zipIdx off).foldl (fun s e => s.persWrite (base + e.2) e.1) s).persRead j =
      if base + off ≤ j ∧ j < base + off + ws.length then ws.getD (j - (base + off)) 0 else s.persRead j := by
  induction ws generalizing off s with
  | nil => simp
  | cons w ws ih =>
    rw [List.zipIdx_cons, List.foldl_cons, ih, State.persRead_persWrite, List.length_cons]
    by_cases hj : j = base + off
    · subst hj
      rw [if_neg (by omega), if_pos rfl, if_pos (by omega), Nat.sub_self]; rfl
    · rw [if_neg hj]
      by_cases hin : base + off ≤ j ∧ j < base + off + (ws.length + 1)
      · rw [if_pos hin, if_pos (by omega), show j - (base + off) = j - (base + (off + 1)) + 1 by omega]; rfl
      · rw [if_neg hin, if_neg (by omega)]

theorem State.persRead_writeKey (s : State) (i : Nat) (seq : Word) (key : List Byte) (state j : Nat) :
    (s.writeKey i seq key state).persRead j =
      if keyWord i ≤ j ∧ j < keyWord i + 11 then (keyImage seq key state).getD (j - keyWord i) 0 else s.persRead j := by
  have h := s.persRead_writes (keyImage seq key state) (keyWord i) 0 j
  rw [keyImage_length] at h
  exact h

theorem State.keyCopy_congr {i : Nat} (h : ∀ k, k < 11 → t.persRead (keyWord i + k) = s.persRead (keyWord i + k)) :
    t.keyCopy i = s.keyCopy i := by
  have hws : (List.range 11).map (fun k => t.persRead (keyWord i + k)) = (List.range 11).map fun k => s.persRead (keyWord i + k) :=
    List.map_congr_left fun k hk => h k (List.mem_range.mp hk)
  rw [State.keyCopy, hws]; rfl

/-- What a copy says that holds an image. -/
theorem State.keyCopy_image {i state : Nat} {seq : Word} {key : List Byte} (hst : state < 2 ^ 32)
    (h : ∀ k, k < 11 → t.persRead (keyWord i + k) = (keyImage seq key state).getD k 0) :
    t.keyCopy i = ⟨seq, wordBytes (keyWords key), state, true⟩ := by
  have hws : (List.range 11).map (fun k => t.persRead (keyWord i + k)) = keyImage seq key state := by
    rw [List.map_congr_left fun k hk => h k (List.mem_range.mp hk)]
    rfl
  have hstate : (BitVec.ofNat 32 state).toNat = state := by rw [BitVec.toNat_ofNat, Nat.mod_eq_of_lt hst]
  have hlen : (keyWords key).length = 8 := by simp [keyWords]
  rw [State.keyCopy, hws, keyImage]
  generalize keyWords key = ks at hlen
  match ks, hlen with
  | [_, _, _, _, _, _, _, _], _ => simp [hstate]

/-- The slot's copy that a write takes, and its sequence number. -/
def State.keySpare (s : State) (slot : Nat) : Nat := match s.keyUsed slot with | some 0 => 1 | _ => 0

def State.keySeq (s : State) (slot : Nat) : Word :=
  match s.keyUsed slot with | some u => (s.keyCopy (2 * slot + u)).seq + 1 | none => 1

/-- Which of two copies is in use. -/
theorem State.keyUsed_eq (s : State) (slot : Nat) {a b : KeyCopy} (ha : s.keyCopy (2 * slot) = a) (hb : s.keyCopy (2 * slot + 1) = b) :
    s.keyUsed slot = if a.good && b.good then some (if sdiff b.seq a.seq > 0 then 1 else 0)
      else if a.good then some 0 else if b.good then some 1 else none := by rw [← ha, ← hb]; rfl

theorem sdiff_succ_left (x : Word) : sdiff (x + 1) x = 1 := by
  rw [sdiff, show x + 1 - x = 1#32 by bv_omega]; rfl

theorem sdiff_succ_right (x : Word) : sdiff x (x + 1) = -1 := by
  rw [sdiff, show x - (x + 1) = -1#32 by bv_omega]; rfl

theorem State.keySpare_lt (s : State) (slot : Nat) : s.keySpare slot = 0 ∨ s.keySpare slot = 1 := by
  unfold State.keySpare
  split
  · exact .inr rfl
  · exact .inl rfl

theorem State.keySpare_ne (s : State) (slot : Nat) : s.keyUsed slot ≠ some (s.keySpare slot) := by
  unfold State.keySpare
  split
  · next h => rw [h]; decide
  · next h => exact h

theorem State.keyUsed_some {k : Nat} (h : s.keyUsed slot = some k) :
    (k = 0 ∧ (s.keyCopy (2 * slot)).good = true) ∨ (k = 1 ∧ (s.keyCopy (2 * slot + 1)).good = true) := by
  rw [s.keyUsed_eq slot rfl rfl] at h
  cases ha : (s.keyCopy (2 * slot)).good <;> cases hb : (s.keyCopy (2 * slot + 1)).good <;> simp [ha, hb] at h ⊢
  · exact h.symm
  · exact h.symm
  · split at h
    · exact .inr h.symm
    · exact .inl h.symm

theorem State.keyUsed_none (h : s.keyUsed slot = none) :
    (s.keyCopy (2 * slot)).good = false ∧ (s.keyCopy (2 * slot + 1)).good = false := by
  rw [s.keyUsed_eq slot rfl rfl] at h
  cases ha : (s.keyCopy (2 * slot)).good <;> cases hb : (s.keyCopy (2 * slot + 1)).good <;> simp [ha, hb] at h ⊢

/-- A copy that is good and one step newer is the one in use. -/
theorem State.keyUsed_written {c : KeyCopy} (hgood : c.good = true) (hseq : c.seq = s.keySeq slot)
    (hnew : t.keyCopy (2 * slot + s.keySpare slot) = c)
    (hold : t.keyCopy (2 * slot + (1 - s.keySpare slot)) = s.keyCopy (2 * slot + (1 - s.keySpare slot))) :
    t.keyUsed slot = some (s.keySpare slot) := by
  cases hused : s.keyUsed slot with
  | none =>
    have hspare : s.keySpare slot = 0 := by rw [State.keySpare, hused]
    rw [hspare] at hnew hold ⊢
    rw [t.keyUsed_eq slot hnew hold, hgood, (State.keyUsed_none hused).2]; rfl
  | some k =>
    obtain ⟨rfl, hg⟩ | ⟨rfl, hg⟩ := State.keyUsed_some hused
    · have hspare : s.keySpare slot = 1 := by rw [State.keySpare, hused]; rfl
      have hsucc : c.seq = (s.keyCopy (2 * slot)).seq + 1 := by rw [hseq, State.keySeq, hused]; rfl
      rw [hspare] at hnew hold ⊢
      rw [t.keyUsed_eq slot hold hnew, hgood, hsucc]
      simp only [Nat.sub_self, Nat.add_zero, hg, sdiff_succ_left]; rfl
    · have hspare : s.keySpare slot = 0 := by rw [State.keySpare, hused]; rfl
      have hsucc : c.seq = (s.keyCopy (2 * slot + 1)).seq + 1 := by rw [hseq, State.keySeq, hused]
      rw [hspare] at hnew hold ⊢
      rw [t.keyUsed_eq slot hnew hold, hgood, hsucc]
      simp only [Nat.sub_zero, hg, sdiff_succ_right]; rfl

/-! #### The commands -/

/-- A command that is refused with a result. -/
def State.keyRefused (s : State) (slot op r : Nat) : State :=
  ((s.setFld F.SEAL_KEY_RESULT_RESULT r).clearKeyData).refuseCommand R.SEAL_KEY_CMD (BitVec.ofNat 32 (slot + op * 256))

/-- The result of a command that is refused, 0 where it is not. -/
def State.keyReason (s : State) (slot op : Nat) : Nat :=
  if s.keys.op.isSome then 2
  else if (op ≠ 3 ∧ s.keyState slot = keyLOCKED) ∨ (op = 3 ∧ s.keyState slot ≠ keyVALID) then 1
  else if op ≠ 3 ∧ s.keyBusy slot = true then 2
  else if op = 1 ∧ ((List.range 8).any fun i => (SMap.find? s.keys.data i).isNone) = true then 3 else 0

/-- The key of the write that a command starts. -/
def State.keyTaken (s : State) (slot op : Nat) : List Byte :=
  if op = 1 then wordBytes ((List.range 8).map fun i => (SMap.find? s.keys.data i).getD 0)
  else if op = 3 then (s.keyOf slot).getD [] else List.replicate 32 0

/-- A command that is accepted. -/
def State.keyStarted (s : State) (slot op : Nat) : State :=
  { s.setFld F.SEAL_KEY_RESULT_RESULT 4 with keys := { s.keys with op := some (slot, op), opKey := s.keyTaken slot op, data := [] } }

theorem State.keyCmd_eq (s : State) (slot op : Nat) :
    s.keyCmd slot op = if s.keyReason slot op = 0 then s.keyStarted slot op else s.keyRefused slot op (s.keyReason slot op) := by
  have hany : ((List.range 8).any fun i => (SMap.find? s.keys.data i).isNone) =
      !((List.range 8).all fun i => (SMap.find? s.keys.data i).isSome) := by
    rw [List.not_all_eq_any_not]; simp only [Option.not_isSome]
  unfold State.keyCmd State.keyReason
  dsimp only
  rw [hany]
  split
  · exact (if_neg (by decide)).symm
  · by_cases h1 : (op ≠ 3 ∧ s.keyState slot = keyLOCKED) ∨ (op = 3 ∧ s.keyState slot ≠ keyVALID)
    · rw [if_pos h1, if_pos (by simpa using h1)]; rfl
    · rw [if_neg h1, if_neg (by simpa using h1)]
      by_cases h2 : op ≠ 3 ∧ s.keyBusy slot = true
      · rw [if_pos h2, if_pos (by simpa using h2)]; rfl
      · rw [if_neg h2, if_neg (by simpa using h2)]
        by_cases h3 : op = 1 ∧ (!((List.range 8).all fun i => (SMap.find? s.keys.data i).isSome)) = true
        · rw [if_pos h3, if_pos (by simpa using h3)]; rfl
        · rw [if_neg h3, if_neg (by simpa using h3)]; rfl

theorem State.keyRefused_spec (s : State) (slot op r : Nat) (hr : r < 8) :
    (s.keyRefused slot op r).fld F.SEAL_KEY_RESULT_RESULT = r ∧
    (s.keyRefused slot op r).keys = { s.keys with data := [] } ∧
    RegsBut s (s.keyRefused slot op r) (R.SEAL_KEY_RESULT :: clampRegs 0x17) ∧
    s.keyRefused slot op r = { s with regs := (s.keyRefused slot op r).regs, clampLog := (s.keyRefused slot op r).clampLog, keys := (s.keyRefused slot op r).keys } := by
  obtain ⟨a, ha⟩ : ∃ a, a = s.setFld F.SEAL_KEY_RESULT_RESULT r := ⟨_, rfl⟩
  obtain ⟨b, hb⟩ : ∃ b, b = a.clearKeyData := ⟨_, rfl⟩
  have hform : s.keyRefused slot op r = b.clampReport none true R.SEAL_KEY_CMD (BitVec.ofNat 32 (slot + op * 256)) 0 := by
    rw [hb, ha]; rfl
  have haregs : RegsBut s a (R.SEAL_KEY_RESULT :: clampRegs 0x17) := by rw [ha]; exact RegsBut.refl.setFld
  have hbregs : RegsBut s b (R.SEAL_KEY_RESULT :: clampRegs 0x17) := haregs.of_regs (by rw [hb]; rfl)
  have hclamp : RegsBut b (s.keyRefused slot op r) (clampRegs 0x17) := by
    rw [hform]; exact RegsBut.refl.clampReportAt fun _ h => h
  have hframe : Frame [.regs, .clampLog] b (s.keyRefused slot op r) := by rw [hform]; exact Frame.refl.clampReport
  have hakeys : a.keys = s.keys := by rw [ha]; rfl
  refine ⟨?_, ?_, hbregs.trans hclamp |>.mono ?_, ?_⟩
  · rw [hclamp.fld (by decide), hb]
    show a.fld F.SEAL_KEY_RESULT_RESULT = r
    rw [ha, State.fld_setFld_same _ _ _ (by decide)]; exact Nat.mod_eq_of_lt hr
  · rw [hframe.get State.keys, hb, State.clearKeyData, hakeys]
  · intro k hk
    obtain hk | hk := List.mem_append.mp hk
    · exact hk
    · exact List.mem_cons_of_mem _ hk
  · have haframe : Frame [.regs, .clampLog, .keys] s a := by rw [ha]; exact Frame.refl.setFld
    have hbframe : Frame [.regs, .clampLog, .keys] s b := by rw [hb]; exact haframe.then (q := [.keys]) rfl (by decide)
    exact hbframe.then hframe (by decide)

theorem State.keyStarted_spec (s : State) (slot op : Nat) :
    (s.keyStarted slot op).fld F.SEAL_KEY_RESULT_RESULT = 4 ∧
    (s.keyStarted slot op).keys = ⟨[], some (slot, op), s.keyTaken slot op⟩ ∧
    RegsBut s (s.keyStarted slot op) [R.SEAL_KEY_RESULT] ∧
    s.keyStarted slot op = { s with regs := (s.keyStarted slot op).regs, keys := (s.keyStarted slot op).keys } := by
  obtain ⟨a, ha⟩ : ∃ a, a = s.setFld F.SEAL_KEY_RESULT_RESULT 4 := ⟨_, rfl⟩
  have haregs : RegsBut s a [R.SEAL_KEY_RESULT] := by rw [ha]; exact RegsBut.refl.setFld
  refine ⟨?_, rfl, haregs.of_regs (by rw [ha]; rfl), ?_⟩
  · have hfld : (s.keyStarted slot op).fld F.SEAL_KEY_RESULT_RESULT = a.fld F.SEAL_KEY_RESULT_RESULT := by rw [ha]; rfl
    rw [hfld, ha, State.fld_setFld_same _ _ _ (by decide)]; rfl
  · have haframe : Frame [.regs, .keys] s a := by rw [ha]; exact Frame.refl.setFld
    have hframe : Frame [.keys] a (s.keyStarted slot op) := by rw [ha]; rfl
    exact haframe.then hframe (by decide)

/-! #### The write that is done -/

/-- The state of a slot after an operation. -/
def keyOpState (op : Nat) : Nat := if op = 1 then keyVALID else if op = 2 then keyEMPTY else keyLOCKED

/-- The persistent store after the write of a key's copy, with no write of its buffer left. -/
def State.keyStored (s : State) (slot op : Nat) : State :=
  let s := s.writeKey (2 * slot + s.keySpare slot) (s.keySeq slot) s.keys.opKey (keyOpState op)
  s.each s.pstore.buf fun s _ => s.pstoreStep

def State.keyWritten (s : State) (slot op : Nat) : State :=
  let s := s.keyStored slot op
  { s with keys := { s.keys with op := none, opKey := [] } }

theorem State.keyWriteDone_eq {op : Nat} (h : s.keys.op = some (slot, op)) :
    s.keyWriteDone = if !(s.keyWritten slot op).domOn dHOST then s.keyWritten slot op
      else (((s.keyWritten slot op).setFld F.SEAL_KEY_RESULT_RESULT 0).raise 0x17 0).post F.SEAL_EVT_RING 0x0A01
        [(4, slot), (2, op), (2, keyOpState op), (24, (s.keyWritten slot op).keyKcv slot)] := by
  unfold State.keyWriteDone
  rw [h]
  rfl

theorem Frame.writeKey {p : List Part} (h : Frame p s t) {i state : Nat} {seq : Word} {key : List Byte}
    (hp : .pstore ∈ p := by decide) : Frame p s (t.writeKey i seq key state) :=
  List.foldlRecOn _ _ h fun _ hb _ _ => hb.persWrite hp

theorem keyOpState_lt (op : Nat) : keyOpState op < 2 ^ 32 := by unfold keyOpState; split <;> [decide; (split <;> decide)]

theorem State.keyStored_spec (s : State) (slot op : Nat) :
    (∀ j, (s.keyStored slot op).persRead j =
      if keyWord (2 * slot + s.keySpare slot) ≤ j ∧ j < keyWord (2 * slot + s.keySpare slot) + 11 then
        (keyImage (s.keySeq slot) s.keys.opKey (keyOpState op)).getD (j - keyWord (2 * slot + s.keySpare slot)) 0
      else s.persRead j) ∧
    (s.keyStored slot op).pstore.buf = [] ∧
    RegsButEvents (s.fld F.MAINT_EVT_RING) s (s.keyStored slot op) [R.PSTORE_WRITES_LO, R.PSTORE_WRITES_HI] ∧
    Frame pstoreParts s (s.keyStored slot op) := by
  obtain ⟨a, ha⟩ : ∃ a, a = s.writeKey (2 * slot + s.keySpare slot) (s.keySeq slot) s.keys.opKey (keyOpState op) := ⟨_, rfl⟩
  have hform : s.keyStored slot op = a.each a.pstore.buf fun u _ => u.pstoreStep := by rw [ha]; rfl
  have haframe : Frame [.pstore] s a := by rw [ha]; exact Frame.refl.writeKey
  obtain ⟨hread, hbuf, hregs, hframe⟩ := a.pstoreSteps_spec a.pstore.buf
  rw [← hform] at hread hbuf hregs hframe
  have hring : a.fld F.MAINT_EVT_RING = s.fld F.MAINT_EVT_RING := haframe.get fun u => u.fld F.MAINT_EVT_RING
  refine ⟨fun j => ?_, ?_, ?_, (haframe.mono (by decide)).trans hframe⟩
  · rw [hread, ha, State.persRead_writeKey]
  · rw [hbuf, List.drop_length]
  · exact (RegsButEvents.refl.of_regs (haframe.get State.regs)).trans (hring ▸ hregs) fun _ h => h

/-- What the slots say is read from the persistent store. -/
theorem State.keyCopy_of_persRead (h : t.persRead = s.persRead) (i : Nat) : t.keyCopy i = s.keyCopy i :=
  State.keyCopy_congr fun _ _ => by rw [h]

theorem State.keyState_eq {k : Nat} {c : KeyCopy} (hk : s.keyUsed slot = some k) (hc : s.keyCopy (2 * slot + k) = c) :
    s.keyState slot = c.state := by rw [State.keyState, hk, ← hc]

theorem State.keyOf_eq {k : Nat} {c : KeyCopy} (hk : s.keyUsed slot = some k) (hc : s.keyCopy (2 * slot + k) = c) :
    s.keyOf slot = if c.state = keyVALID || c.state = keyLOCKED then some c.key else none := by rw [State.keyOf, hk, ← hc]

theorem State.keys_congr {n : Nat} (h0 : t.keyCopy (2 * n) = s.keyCopy (2 * n)) (h1 : t.keyCopy (2 * n + 1) = s.keyCopy (2 * n + 1)) :
    t.keyState n = s.keyState n ∧ t.keyOf n = s.keyOf n := by
  have hused : t.keyUsed n = s.keyUsed n := by rw [t.keyUsed_eq n h0 h1, s.keyUsed_eq n rfl rfl]
  cases hk : s.keyUsed n with
  | none =>
    rw [State.keyState, State.keyOf, State.keyState, State.keyOf, hused, hk]
    exact ⟨rfl, rfl⟩
  | some k =>
    have hcopy : t.keyCopy (2 * n + k) = s.keyCopy (2 * n + k) := by
      obtain ⟨rfl, -⟩ | ⟨rfl, -⟩ := State.keyUsed_some hk
      · exact h0
      · exact h1
    rw [State.keyState_eq hk rfl, State.keyOf_eq hk rfl, State.keyState_eq (hused.trans hk) hcopy,
      State.keyOf_eq (hused.trans hk) hcopy]
    exact ⟨rfl, rfl⟩

theorem State.keyWritten_spec (s : State) (slot op : Nat) :
    (s.keyWritten slot op).keys = { s.keys with op := none, opKey := [] } ∧
    (s.keyWritten slot op).keyState slot = keyOpState op ∧
    (op = 1 → s.keys.opKey.length = 32 → (s.keyWritten slot op).keyOf slot = some s.keys.opKey) ∧
    (s.keyWritten slot op).keyUsed slot = some (s.keySpare slot) ∧
    (∀ i, (i < keyWord (2 * slot + s.keySpare slot) ∨ keyWord (2 * slot + s.keySpare slot) + 11 ≤ i) →
      (s.keyWritten slot op).persRead i = s.persRead i) ∧
    (∀ n, n ≠ slot → (s.keyWritten slot op).keyState n = s.keyState n ∧ (s.keyWritten slot op).keyOf n = s.keyOf n) ∧
    (s.keyWritten slot op).pstore.buf = [] ∧
    RegsButEvents (s.fld F.MAINT_EVT_RING) s (s.keyWritten slot op) [R.PSTORE_WRITES_LO, R.PSTORE_WRITES_HI] ∧
    Frame [.regs, .keys, .pstore, .rings, .sent, .pcie, .summaryOwed] s (s.keyWritten slot op) := by
  obtain ⟨hread, hbuf, hregs, hframe⟩ := s.keyStored_spec slot op
  obtain ⟨a, ha⟩ : ∃ a, a = s.keyStored slot op := ⟨_, rfl⟩
  rw [← ha] at hread hbuf hregs hframe
  obtain ⟨t, ht⟩ : ∃ t : State, t = { a with keys := { a.keys with op := none, opKey := [] } } := ⟨_, rfl⟩
  have hform : s.keyWritten slot op = t := by rw [ht, ha]; rfl
  have htread : t.persRead = a.persRead := State.persRead_congr (by rw [ht]) (by rw [ht])
  rw [hform]
  have hother {i : Nat} (hi : i ≠ 2 * slot + s.keySpare slot) : t.keyCopy i = s.keyCopy i := by
    refine State.keyCopy_congr fun k hk => ?_
    rw [htread, hread, if_neg]
    simp only [keyWord]; omega
  have hsame : t.keyCopy (2 * slot + s.keySpare slot) =
      ⟨s.keySeq slot, wordBytes (keyWords s.keys.opKey), keyOpState op, true⟩ := by
    refine State.keyCopy_image (keyOpState_lt op) fun k hk => ?_
    rw [htread, hread, if_pos (by omega), Nat.add_sub_cancel_left]
  have hspare := s.keySpare_lt slot
  have hused : t.keyUsed slot = some (s.keySpare slot) := State.keyUsed_written rfl rfl hsame (hother (by omega))
  refine ⟨?_, State.keyState_eq hused hsame, fun h1 hlen => ?_, hused, fun i hi => ?_, fun n hn =>
    State.keys_congr (hother (by omega)) (hother (by omega)), ?_, hregs.of_regs (by rw [ht]), ?_⟩
  · rw [ht, hframe.get State.keys]
  · rw [State.keyOf_eq hused hsame, wordBytes_keyWords hlen, h1]; rfl
  · rw [htread, hread, if_neg (by omega)]
  · rw [ht]; exact hbuf
  · rw [ht]; exact (hframe.mono (by decide)).then (q := [.keys]) rfl (by decide)

end

/-- Settles O42: what a command does by the reason that there is against it, and the write that is done. -/
theorem keySlotsChange : Obligations.KeySlotsChange := by
  have hexec (s : State) (slot : BitVec 4) (c : Instr) (op : Nat) (hserves : s.serves R.SEAL_KEY_CMD = true)
      (hop : (c = .keyProgram slot ∧ op = 1) ∨ (c = .keyErase slot ∧ op = 2) ∨ (c = .keyLock slot ∧ op = 3)) :
      exec c s = .next (s.keyCmd slot.toNat op) := by
    obtain ⟨rfl, rfl⟩ | ⟨rfl, rfl⟩ | ⟨rfl, rfl⟩ := hop <;>
      exact congrArg Host.Outcome.next (hostWriteTo_of_serves s _ _ hserves)
  refine ⟨fun s slot c op r hserves hop hr => ⟨fun h0 => ?started, fun hne => ?refused⟩, fun s hnone => ?none,
    fun s slot op st hop hops hst => ?done⟩
  case started =>
    obtain ⟨hresult, hkeys, hregs, hframe⟩ := s.keyStarted_spec slot.toNat op
    refine ⟨s.keyStarted slot.toNat op, (hexec s slot c op hserves hop).trans ?_, hresult, hkeys, hregs, hframe⟩
    have hreason : s.keyReason slot.toNat op = 0 := hr.symm.trans h0
    rw [s.keyCmd_eq, if_pos hreason]
  case refused =>
    have hr8 : r < 8 := by rw [hr]; split_ifs <;> decide
    obtain ⟨hresult, hkeys, hregs, hframe⟩ := s.keyRefused_spec slot.toNat op r hr8
    refine ⟨s.keyRefused slot.toNat op r, (hexec s slot c op hserves hop).trans ?_, hresult, hkeys, hregs, hframe⟩
    have hreason : s.keyReason slot.toNat op = r := hr.symm
    rw [s.keyCmd_eq, hreason, if_neg hne]
  case none =>
    refine congrArg Host.Outcome.next ?_
    rw [State.keyWriteDone, hnone]
  case done =>
    obtain ⟨hkeys, hstate, hkey, hused, hread, hother, hbuf, hregs, hframe⟩ := s.keyWritten_spec slot op
    have hon : (s.keyWritten slot op).domOn dHOST = s.domOn dHOST := by rw [hregs.domOn]
    subst hst
    refine ⟨s.keyWritten slot op, s.keySpare slot, congrArg Host.Outcome.next ?_, hkeys, hstate, hkey, s.keySpare_lt slot,
      s.keySpare_ne slot, hused, hread, hother, hbuf, hregs, hframe⟩
    rw [State.keyWriteDone_eq hop, hon]
    cases s.domOn dHOST <;> rfl

end Sys2Proof.Machine

/-! ### The commands of the panel sequencer (R248, R250 to R252) -/

namespace Sys2Proof.Machine

-- A proof that fills in an argument by its default tactic waits for all that stands before it: checked in order, none waits.
set_option Elab.async false

section
variable {s t : State} {p : List Part}

/-- A frame in which the panel's hidden state is known. -/
theorem Frame.withHvd {x : Hvd} (h : Frame p s t) (hx : t.hvd = x) : t = { s.taking p t with hvd := x } := by
  rw [← show t = s.taking p t from h, ← hx]

/-! #### Rules of the sequencer's operations -/

/-- The report of a change of the panel's state: an event, of which no register but those of events tells. -/
theorem State.regsButEvents_setPanel (s : State) (st cause : Nat) :
    RegsButEvents (s.fld F.HVD_EVT_RING) (s.setFld F.HVD_PANEL_STATUS_STATE st) (s.setPanel st cause) [] := by
  obtain ⟨a, ha⟩ : ∃ a, a = s.setFld F.HVD_PANEL_STATUS_STATE st := ⟨_, rfl⟩
  obtain ⟨b, hb⟩ : ∃ b, b = a.raise 0x43 0 := ⟨_, rfl⟩
  have hform : s.setPanel st cause = b.post F.HVD_EVT_RING 0x0600
      [(3, st), (3, s.panelState), (4, cause), (32, (b.rd R.SCAN_FRAME_SEQ).toNat)] := by rw [hb, ha]; rfl
  have hring : a.fld F.HVD_EVT_RING = s.fld F.HVD_EVT_RING := by rw [ha, State.fld_setFld_other _ _ _ _ (by decide)]
  have hbregs : RegsButEvents (a.fld F.HVD_EVT_RING) a b [] := by rw [hb]; exact RegsButEvents.refl.raise
  rw [hform, ← ha, ← hring]
  exact hbregs.post

theorem State.regsButEvents_setPanel' (s : State) (st cause : Nat) :
    RegsButEvents (s.fld F.HVD_EVT_RING) s (s.setPanel st cause) [R.HVD_PANEL_STATUS] := by
  have hset : RegsBut s (s.setFld F.HVD_PANEL_STATUS_STATE st) [R.HVD_PANEL_STATUS] := RegsBut.refl.setFld
  exact hset.events.trans (s.regsButEvents_setPanel st cause) (by simp)

/-- A field of PANEL.STATUS but the state stays. -/
theorem State.fld_setPanel (s : State) (st cause : Nat) {f : Fld} (hf : f.off = R.HVD_PANEL_STATUS) (hlo : 3 ≤ f.lo) :
    (s.setPanel st cause).fld f = s.fld f := by
  rw [(s.regsButEvents_setPanel st cause).fld (by simp) (by rw [hf]; exact eventReg_of_low (by decide)),
    State.fld_setFld_other _ _ _ _ (.inr (.inl (show F.HVD_PANEL_STATUS_STATE.lo + F.HVD_PANEL_STATUS_STATE.w ≤ f.lo from hlo)))]

theorem State.panelState_setPanel (s : State) {st : Nat} (cause : Nat) (hst : st < 8) : (s.setPanel st cause).panelState = st := by
  rw [State.panelState, (s.regsButEvents_setPanel st cause).fld (by simp) (eventReg_of_low (by decide)),
    State.fld_setFld_same _ _ _ (by decide)]
  exact Nat.mod_eq_of_lt hst

theorem Frame.setPanel (h : Frame p s t) {st cause : Nat}
    (hp : ∀ x ∈ [Part.regs, .sent, .pcie, .summaryOwed, .rings], x ∈ p := by decide) : Frame p s (t.setPanel st cause) := by
  have hframe : Frame [.regs, .sent, .pcie, .summaryOwed, .rings] t (t.setPanel st cause) := Frame.refl.setFld.raise.post
  exact h.then hframe hp

theorem Frame.setHalt (h : Frame p s t) {b : Bool} (hp : .regs ∈ p := by decide) : Frame p s (t.setHalt b) := .ite (h.setBit hp) h

theorem RegsBut.setHalt {l : List Nat} (h : RegsBut s t l) {b : Bool} (hl : R.LINK_CTRL ∈ l := by simp) : RegsBut s (t.setHalt b) l :=
  .ite (h.setBit hl) h

theorem State.setHalt_on {b : Bool} (hon : s.domOn dLINK = true) : (s.setHalt b).bit F.LINK_CTRL_HALT = b := by
  rw [State.setHalt, if_pos hon]
  exact State.bit_setBit_same _ _ (by decide) (by decide)

theorem State.setHalt_off {b : Bool} (hoff : s.domOn dLINK = false) : s.setHalt b = s := if_neg (by simp [hoff])

/-- The words that one attempt of a rail request sends. -/
theorem State.railSend_eq (s : State) (r : Nat) (on : Bool) : s.railSend r on =
    { s with sent := Out.pmbus (writeByte (s.railAddr r).1 0x01 (if on then 0x80 else 0x00)) ::
        Out.pmbus (writeByte (s.railAddr r).1 0x00 (s.railAddr r).2) :: s.sent } := rfl

/-! #### Power-up -/

/-- What hides behind a power-up that begins. -/
def Hvd.starting (h : Hvd) : Hvd := { h with failed := false, powerFail := false, requested := [], latches := 0, swAvdd := false }

/-- Step 1 up to the request of its rail. -/
def State.upBegun (s : State) : State :=
  (((({ s with hvd := s.hvd.starting } : State).setPanel pUP 0).setStep 1).setForce 1).setHalt true

theorem State.upStart_eq (s : State) : s.upStart = s.upBegun.requestOn 0 := rfl

theorem State.upBegun_spec (s : State) :
    s.upBegun.fld F.HVD_PANEL_STATUS_RESULT = s.fld F.HVD_PANEL_STATUS_RESULT ∧ s.upBegun.panelState = pUP ∧
    s.upBegun.panelStep = 1 ∧ s.upBegun.fld F.GATE_CTRL_FORCE = 1 ∧
    (s.domOn dLINK = true → s.upBegun.bit F.LINK_CTRL_HALT = true) ∧
    (s.domOn dLINK = false → s.upBegun.rd R.LINK_CTRL = s.rd R.LINK_CTRL) ∧
    s.upBegun.hvd = s.hvd.starting ∧
    RegsButEvents (s.fld F.HVD_EVT_RING) s s.upBegun [R.HVD_PANEL_STATUS, R.GATE_CTRL, R.LINK_CTRL] ∧
    Frame [.regs, .hvd, .rings, .sent, .pcie, .summaryOwed] s s.upBegun := by
  obtain ⟨a, ha⟩ : ∃ a : State, a = { s with hvd := s.hvd.starting } := ⟨_, rfl⟩
  obtain ⟨b, hb⟩ : ∃ b, b = a.setPanel pUP 0 := ⟨_, rfl⟩
  obtain ⟨c, hc⟩ : ∃ c, c = b.setFld F.HVD_PANEL_STATUS_STEP 1 := ⟨_, rfl⟩
  obtain ⟨d, hd⟩ : ∃ d, d = c.setFld F.GATE_CTRL_FORCE 1 := ⟨_, rfl⟩
  obtain ⟨e, he⟩ : ∃ e, e = d.setHalt true := ⟨_, rfl⟩
  have hform : s.upBegun = e := by rw [he, hd, hc, hb, ha]; rfl
  have hafld (f : Fld) : a.fld f = s.fld f := by rw [ha]; rfl
  have hbregs : RegsButEvents (s.fld F.HVD_EVT_RING) s b [R.HVD_PANEL_STATUS] := by
    have := a.regsButEvents_setPanel' pUP 0
    rw [← hb, hafld] at this
    exact (RegsButEvents.refl.of_regs (by rw [ha])).trans this fun _ h => h
  have hcregs : RegsBut b c [R.HVD_PANEL_STATUS] := by rw [hc]; exact RegsBut.refl.setFld
  have hdregs : RegsBut c d [R.GATE_CTRL] := by rw [hd]; exact RegsBut.refl.setFld
  have heregs : RegsBut d e [R.LINK_CTRL] := by rw [he]; exact RegsBut.refl.setHalt
  have hregs : RegsButEvents (s.fld F.HVD_EVT_RING) s d [R.HVD_PANEL_STATUS, R.GATE_CTRL] :=
    ((hbregs.but hcregs).mono (by simp)).but hdregs
  have hstatus {f : Fld} (hf : f.off = R.HVD_PANEL_STATUS) : e.fld f = c.fld f := by
    rw [heregs.fld (by rw [hf]; decide), hdregs.fld (by rw [hf]; decide)]
  have hdon : d.domOn = s.domOn := hregs.domOn
  have hframe : Frame [.regs, .hvd, .rings, .sent, .pcie, .summaryOwed] s e := by
    have haframe : Frame [.regs, .hvd, .rings, .sent, .pcie, .summaryOwed] s a := by
      rw [ha]; exact Frame.refl.then (q := [.hvd]) rfl (by decide)
    rw [he, hd, hc, hb]
    exact haframe.setPanel.setFld.setFld.setHalt
  have hhvd : e.hvd = s.hvd.starting := by
    have heframe : Frame [.regs, .sent, .pcie, .summaryOwed, .rings] a e := by
      rw [he, hd, hc, hb]; exact Frame.refl.setPanel.setFld.setFld.setHalt
    rw [heframe.get State.hvd, ha]
  rw [hform]
  refine ⟨?_, ?_, ?_, ?_, fun hon => ?_, fun hoff => ?_, hhvd, (hregs.mono (by simp)).but heregs, hframe⟩
  · rw [hstatus rfl, hc, State.fld_setFld_other _ _ _ _ (by decide), hb, State.fld_setPanel _ _ _ rfl (by decide), hafld]
  · rw [State.panelState, hstatus rfl, hc, State.fld_setFld_other _ _ _ _ (by decide), hb]
    exact a.panelState_setPanel 0 (by decide)
  · rw [State.panelStep, hstatus rfl, hc, State.fld_setFld_same _ _ _ (by decide)]; rfl
  · rw [heregs.fld (by decide), hd, State.fld_setFld_same _ _ _ (by decide)]; rfl
  · rw [he]; exact State.setHalt_on (by rw [hdon]; exact hon)
  · rw [he, State.setHalt_off (by rw [hdon]; exact hoff)]
    exact hregs _ (by decide) (eventReg_of_low (by decide))

/-! #### Power-down -/

/-- A power-down as it begins, before the line in progress is looked at. -/
def State.downBegun (s : State) (cause : Nat) (pf : Bool) : State :=
  ((((({ s with hvd := { s.hvd with powerFail := pf } } : State).setFld F.HVD_PANEL_STATUS_CAUSE cause).setPanel pDOWN
    cause).setHalt true).setStep 1)

theorem State.downBegun_spec (s : State) (cause : Nat) (pf : Bool) :
    (s.downBegun cause pf).panelState = pDOWN ∧ (s.downBegun cause pf).panelStep = 1 ∧
    (s.downBegun cause pf).fld F.HVD_PANEL_STATUS_CAUSE = cause % 16 ∧
    (s.domOn dLINK = true → (s.downBegun cause pf).bit F.LINK_CTRL_HALT = true) ∧
    (s.domOn dLINK = false → (s.downBegun cause pf).rd R.LINK_CTRL = s.rd R.LINK_CTRL) ∧
    RegsButEvents (s.fld F.HVD_EVT_RING) s (s.downBegun cause pf) [R.HVD_PANEL_STATUS, R.LINK_CTRL] ∧
    (s.downBegun cause pf).hvd = { s.hvd with powerFail := pf } ∧
    Frame [.regs, .hvd, .rings, .sent, .pcie, .summaryOwed] s (s.downBegun cause pf) := by
  obtain ⟨x, hx⟩ : ∃ x : Hvd, x = { s.hvd with powerFail := pf } := ⟨_, rfl⟩
  obtain ⟨a, ha⟩ : ∃ a : State, a = { s with hvd := x } := ⟨_, rfl⟩
  obtain ⟨b, hb⟩ : ∃ b, b = a.setFld F.HVD_PANEL_STATUS_CAUSE cause := ⟨_, rfl⟩
  obtain ⟨c, hc⟩ : ∃ c, c = b.setPanel pDOWN cause := ⟨_, rfl⟩
  obtain ⟨d, hd⟩ : ∃ d, d = c.setHalt true := ⟨_, rfl⟩
  obtain ⟨e, he⟩ : ∃ e, e = d.setFld F.HVD_PANEL_STATUS_STEP 1 := ⟨_, rfl⟩
  have hform : s.downBegun cause pf = e := by rw [he, hd, hc, hb, ha, hx]; rfl
  have haregs : a.regs = s.regs := by rw [ha]
  have hbregs : RegsBut s b [R.HVD_PANEL_STATUS] := by
    rw [hb]; exact (RegsBut.refl.of_regs haregs).setFld
  have hring : b.fld F.HVD_EVT_RING = s.fld F.HVD_EVT_RING := hbregs.fld (by decide)
  have hcregs : RegsButEvents (s.fld F.HVD_EVT_RING) s c [R.HVD_PANEL_STATUS] := by
    have := b.regsButEvents_setPanel' pDOWN cause
    rw [← hc, hring] at this
    exact hbregs.events.trans this fun _ h => h
  have hdregs : RegsBut c d [R.LINK_CTRL] := by rw [hd]; exact RegsBut.refl.setHalt
  have heregs : RegsBut d e [R.HVD_PANEL_STATUS] := by rw [he]; exact RegsBut.refl.setFld
  have hstatus {f : Fld} (hf : f.off = R.HVD_PANEL_STATUS) : d.fld f = c.fld f := hdregs.fld (by rw [hf]; decide)
  have hcon : c.domOn = s.domOn := hcregs.domOn
  have hframe : Frame [.regs, .hvd, .rings, .sent, .pcie, .summaryOwed] s e := by
    have haframe : Frame [.regs, .hvd, .rings, .sent, .pcie, .summaryOwed] s a := by
      rw [ha]; exact Frame.refl.then (q := [.hvd]) rfl (by decide)
    rw [he, hd, hc, hb]
    exact haframe.setFld.setPanel.setHalt.setFld
  have hhvd : e.hvd = x := by
    have heframe : Frame [.regs, .sent, .pcie, .summaryOwed, .rings] a e := by
      rw [he, hd, hc, hb]; exact Frame.refl.setFld.setPanel.setHalt.setFld
    rw [heframe.get State.hvd, ha]
  rw [hform]
  refine ⟨?_, ?_, ?_, fun hon => ?_, fun hoff => ?_, ((hcregs.mono (by simp)).but hdregs).but heregs, hhvd.trans hx, hframe⟩
  · rw [State.panelState, he, State.fld_setFld_other _ _ _ _ (by decide), hstatus rfl, hc]
    exact b.panelState_setPanel cause (by decide)
  · rw [State.panelStep, he, State.fld_setFld_same _ _ _ (by decide)]; rfl
  · rw [he, State.fld_setFld_other _ _ _ _ (by decide), hstatus rfl, hc, State.fld_setPanel _ _ _ rfl (by decide), hb,
      State.fld_setFld_same _ _ _ (by decide)]
    rfl
  · rw [State.bit, heregs.fld (by decide), hd]
    exact State.setHalt_on (by rw [hcon]; exact hon)
  · rw [heregs _ (by decide), hd, State.setHalt_off (by rw [hcon]; exact hoff)]
    exact hcregs _ (by decide) (eventReg_of_low (by decide))

theorem State.panelDown_of_running {cause : Nat} {pf : Bool} (hon : s.domOn dPANEL = true)
    (h : s.panelState = pUP ∨ s.panelState = pON) : s.panelDown cause pf = (s.downBegun cause pf).panelLineEnd := by
  have hne : s.panelState ≠ pDOWN := by rcases h with h | h <;> rw [h] <;> decide
  unfold State.panelDown
  rw [if_neg (by simp [hon]), if_neg hne, if_pos (by simpa using h)]
  rfl

end

/-- Settles O39: each command by the state of the panel, and what a power-down begins. -/
theorem panelCommandsAct : Obligations.PanelCommandsAct := by
  refine ⟨fun s hserves => ⟨fun hno => ?answered, fun hst hrun => ?starts, fun hst => ?down, fun hst => ?off,
    fun h1 h2 h3 => ?none⟩, fun w cause pf hon => ⟨fun hst => ?variant, fun hst => ?begun, fun h1 h2 h3 => ?stays, fun h => ?waits,
    fun hst hstep hline => ?vcom⟩⟩
  case answered =>
    refine congrArg Host.Outcome.next ((hostWriteTo_of_serves s _ _ hserves).trans ?_)
    unfold State.panelUp
    by_cases h1 : s.panelState = pDOWN
    · rw [if_pos h1, if_pos h1]; rfl
    · rw [if_neg h1, if_neg h1]
      by_cases h2 : s.panelState = pOFF ∨ s.panelState = pFAULT
      · have hrun : s.bit F.SCAN_CTRL_RUN ≠ true := fun h => hno ⟨h2, h⟩
        rw [if_pos h2, if_pos (by simpa using h2), if_neg hrun]; rfl
      · rw [if_neg h2, if_neg (by simpa using h2)]; rfl
  case starts =>
    obtain ⟨a, ha⟩ : ∃ a, a = s.setFld F.HVD_PANEL_STATUS_RESULT 0 := ⟨_, rfl⟩
    obtain ⟨b, hb⟩ : ∃ b, b = a.upBegun := ⟨_, rfl⟩
    obtain ⟨u, hu⟩ : ∃ u, u = b.requestOn 0 := ⟨_, rfl⟩
    have hne : s.panelState ≠ pDOWN := by rcases hst with h | h <;> rw [h] <;> decide
    obtain ⟨hresult, hstate, hstep, hforce, hhalt, hkept, hhvd, hregs, hframe⟩ := a.upBegun_spec
    rw [← hb] at hresult hstate hstep hforce hhalt hkept hhvd hregs hframe
    have haregs : RegsBut s a [R.HVD_PANEL_STATUS] := by rw [ha]; exact RegsBut.refl.setFld
    have haon : a.domOn = s.domOn := haregs.domOn
    have hahvd : a.hvd = s.hvd := by rw [ha]; rfl
    have haframe : Frame [.regs, .hvd, .rings, .sent, .pcie, .summaryOwed] s a := by rw [ha]; exact Frame.refl.setFld
    have huregs : u.regs = b.regs := by rw [hu]; rfl
    have hbit (f : Fld) : u.fld f = b.fld f := by rw [State.fld, State.rd, huregs, State.fld, State.rd]
    have hregs' : RegsButEvents (s.fld F.HVD_EVT_RING) s b [R.HVD_PANEL_STATUS, R.GATE_CTRL, R.LINK_CTRL] := by
      rw [haregs.fld (by decide)] at hregs
      exact (haregs.mono (by simp)).events.trans hregs fun _ h => h
    have haddr : b.railAddr 0 = s.railAddr 0 := by
      rw [State.railAddr, State.railAddr, hregs' _ (by decide) (eventReg_of_low (by decide))]
    have huframe : Frame [.hvd, .sent] b u := by rw [hu]; rfl
    refine ⟨u, congrArg Host.Outcome.next ((hostWriteTo_of_serves s _ _ hserves).trans ?_), ?_, ?_, ?_, ?_, fun hl => ?_, fun hl => ?_,
      ?_, ?_, hregs'.of_regs huregs, haframe.trans (hframe.then huframe (by decide))⟩
    · have hform : (s.setResult 0).upStart = u := by rw [hu, hb, ha]; rfl
      have hlow : u.hvd.pfwLow = s.hvd.pfwLow := by
        rw [hu, ← hahvd]
        show b.hvd.pfwLow = a.hvd.pfwLow
        rw [hhvd]; rfl
      unfold State.panelUp
      rw [if_neg hne, if_pos (by simpa using hst), if_pos hrun, hform, ← hlow]
    · rw [hbit, hresult, ha, State.fld_setFld_same _ _ _ (by decide)]; rfl
    · rw [State.panelState, hbit]; exact hstate
    · rw [State.panelStep, hbit]; exact hstep
    · rw [hbit]; exact hforce
    · rw [State.bit, hbit]; exact hhalt (by rw [haon]; exact hl)
    · rw [State.rd, huregs]; exact (hkept (by rw [haon]; exact hl)).trans (haregs _ (by decide))
    · have hrequest : u.hvd = { b.hvd with requested := b.hvd.requested ++ [0], attempts := 1 } := by rw [hu]; rfl
      rw [hrequest, hhvd, hahvd]; rfl
    · rw [← haddr, hu]; rfl
  case down =>
    refine congrArg Host.Outcome.next ((hostWriteTo_of_serves s _ _ hserves).trans ?_)
    exact if_pos (by simpa using hst)
  case off =>
    obtain ⟨a, ha⟩ : ∃ a, a = s.setFld F.HVD_PANEL_STATUS_RESULT 3 := ⟨_, rfl⟩
    have haregs : RegsBut s a [R.HVD_PANEL_STATUS] := by rw [ha]; exact RegsBut.refl.setFld
    have hregs := a.regsButEvents_setPanel' pOFF cauCMD
    rw [haregs.fld (by decide)] at hregs
    have haframe : Frame [.regs, .sent, .pcie, .summaryOwed, .rings] s a := by rw [ha]; exact Frame.refl.setFld
    refine ⟨a.setPanel pOFF cauCMD, congrArg Host.Outcome.next ((hostWriteTo_of_serves s _ _ hserves).trans ?_), ?_, ?_, ?_,
      haregs.events.trans hregs fun _ h => h, haframe.setPanel⟩
    · unfold State.panelDownCmd
      rw [if_neg (by rw [hst]; decide), if_pos hst, ha]; rfl
    · rw [State.fld_setPanel _ _ _ rfl (by decide), ha, State.fld_setFld_same _ _ _ (by decide)]; rfl
    · exact a.panelState_setPanel cauCMD (by decide)
    · rw [State.panelStep, State.fld_setPanel _ _ _ rfl (by decide), ha, State.fld_setFld_other _ _ _ _ (by decide)]; rfl
  case none =>
    refine congrArg Host.Outcome.next ((hostWriteTo_of_serves s _ _ hserves).trans ?_)
    unfold State.panelDownCmd
    rw [if_neg (by simp [h1, h2]), if_neg h3]; rfl
  case variant =>
    unfold State.panelDown
    rw [if_neg (by simp [hon]), if_pos hst]
  case begun =>
    obtain ⟨hstate, hstep, hcause, hhalt, hkept, hregs, hhvd, hframe⟩ := w.downBegun_spec cause pf
    refine ⟨w.downBegun cause pf, State.panelDown_of_running hon hst, hstate, hstep, hcause, hhalt, hkept, hregs, ?_⟩
    exact hframe.withHvd hhvd
  case stays =>
    unfold State.panelDown
    rw [if_neg (by simp [hon]), if_neg h3, if_neg (by simp [h1, h2])]
  case waits =>
    refine if_neg ?_
    simp only [Bool.and_eq_true, decide_eq_true_eq, Bool.not_eq_true', not_and, Bool.not_eq_false]
    rintro ⟨hst, hstep⟩
    obtain h | h | h := h
    · exact absurd hst h
    · exact absurd hstep h
    · exact h
  case vcom =>
    refine (if_pos ?_).trans rfl
    simpa [hline] using ⟨hst, hstep⟩

end Sys2Proof.Machine

/-! ### What ends a step of the panel sequencer (R246, R247, R250, R251, R254) -/

namespace Sys2Proof.Machine

-- A proof that fills in an argument by its default tactic waits for all that stands before it: checked in order, none waits.
set_option Elab.async false

section
variable {s t : State} {p : List Part} {r : Nat}

/-! #### The monitor of a rail -/

/-- What a rail's monitor has seen. -/
def State.railSeen (s : State) (r mv : Nat) : State :=
  { s with hvd := { s.hvd with railMv := (List.range 3).map fun i => if i = r then mv else s.railMv i } }

theorem State.railMv_railSeen (s : State) {r mv i : Nat} (hi : i < 3) :
    (s.railSeen r mv).railMv i = if i = r then mv else s.railMv i := by
  rw [State.railMv, State.railSeen]
  simp [hi]

theorem State.railJudge_on (hon : s.domOn dPANEL = true) :
    s.railJudge r = s.setRail r (s.railTh r ≤ s.railMv r) (s.railMv r ≤ railFloor r) := if_pos hon

theorem State.regsBut_railJudge (s : State) (r : Nat) : RegsBut s (s.railJudge r) [R.HVD_PANEL_STATUS] :=
  .ite RegsBut.refl.setBit.setBit .refl

theorem Frame.railJudge (h : Frame p s t) (hp : .regs ∈ p := by decide) : Frame p s (t.railJudge r) :=
  .ite ((h.setBit hp).setBit hp) h

/-- The bits of a rail lie above the state, the step, the cause and the result. -/
theorem State.fld_setRail_low (s : State) {ok low : Bool} {f : Fld} (hf : f.lo + f.w ≤ 17) : (s.setRail r ok low).fld f = s.fld f := by
  rw [State.setRail, State.setBit, State.fld_setFld_other _ _ _ _ (.inr (.inr (by simp only; omega))), State.setBit,
    State.fld_setFld_other _ _ _ _ (.inr (.inr (by simp only; omega)))]

theorem State.railBits_setRail (s : State) {ok low : Bool} (hr : r < 3) :
    (s.setRail r ok low).railOk r = ok ∧ (s.setRail r ok low).railLow r = low := by
  have hbit (u : State) (k : Nat) : bitOf (u.rd R.HVD_PANEL_STATUS) k = u.bit ⟨R.HVD_PANEL_STATUS, k, 1⟩ := rfl
  rw [State.railOk, State.railLow, hbit, hbit, State.setRail]
  refine ⟨?_, State.bit_setBit_same _ _ (by simp only; omega) (by simp)⟩
  rw [State.bit, State.setBit, State.fld_setFld_other _ _ _ _ (.inr (.inr (by simp only; omega))), ← State.bit]
  exact State.bit_setBit_same _ _ (by simp only; omega) (by simp)

/-- What a report of a rail's voltage shows, and what it leaves. -/
theorem State.railReport_spec (s : State) {r mv : Nat} (hr : r < 3) :
    (s.domOn dPANEL = true → (s.railReport r mv).railOk r = decide (s.railTh r ≤ mv) ∧
      (s.railReport r mv).railLow r = decide (mv ≤ railFloor r)) ∧
    (s.domOn dPANEL = false → (s.railReport r mv).regs = s.regs) ∧
    (s.railReport r mv).panelState = s.panelState ∧ (s.railReport r mv).panelStep = s.panelStep ∧
    RegsBut s (s.railReport r mv) [R.HVD_PANEL_STATUS] ∧
    (s.railReport r mv).railMv r = mv ∧ (∀ i, i < 3 → i ≠ r → (s.railReport r mv).railMv i = s.railMv i) ∧
    s.railReport r mv = { s with regs := (s.railReport r mv).regs, hvd := { s.hvd with railMv := (s.railReport r mv).hvd.railMv } } := by
  obtain ⟨a, ha⟩ : ∃ a, a = s.railSeen r mv := ⟨_, rfl⟩
  have hform : s.railReport r mv = a.railJudge r := by rw [ha]; rfl
  have haregs : a.regs = s.regs := by rw [ha]; rfl
  have haon : a.domOn = s.domOn := State.domOn_of_regs haregs
  have hamv {i : Nat} (hi : i < 3) : a.railMv i = if i = r then mv else s.railMv i := by rw [ha]; exact s.railMv_railSeen hi
  have hath : a.railTh r = s.railTh r := by rw [State.railTh, State.rd, haregs, State.railTh, State.rd]
  have hframe : Frame [.regs] a (a.railJudge r) := Frame.refl.railJudge
  have hhvd : (a.railJudge r).hvd = a.hvd := hframe.get State.hvd
  have hmv {i : Nat} (hi : i < 3) : (a.railJudge r).railMv i = if i = r then mv else s.railMv i := by
    rw [State.railMv, hhvd, ← State.railMv, hamv hi]
  have hfld {f : Fld} (hf : f.lo + f.w ≤ 17) : (a.railJudge r).fld f = s.fld f := by
    have hafld : a.fld f = s.fld f := by rw [State.fld, State.rd, haregs, State.fld, State.rd]
    unfold State.railJudge
    split
    · rw [State.fld_setRail_low _ hf, hafld]
    · exact hafld
  rw [hform]
  refine ⟨fun hon => ?_, fun hoff => ?_, hfld (by decide), hfld (by decide), ?_, ?_, fun i hi hne => ?_, ?_⟩
  · rw [State.railJudge_on (by rw [haon]; exact hon), (a.railBits_setRail hr).1, (a.railBits_setRail hr).2, hath, hamv hr, if_pos rfl]
    exact ⟨rfl, rfl⟩
  · rw [State.railJudge, if_neg (by rw [haon, hoff]; decide), haregs]
  · exact fun k hk => (a.regsBut_railJudge r k hk).trans (by rw [State.rd, haregs, State.rd])
  · rw [hmv hr, if_pos rfl]
  · rw [hmv hi, if_neg hne]
  · have hall : Frame [.regs, .hvd] s (a.railJudge r) := by
      have hafr : Frame [.regs, .hvd] s a := by rw [ha]; exact Frame.refl.then (q := [.hvd]) rfl (by decide)
      exact hafr.railJudge
    exact hall.withHvd (by rw [hhvd, ha]; rfl)

/-! #### The rail that is awaited -/

theorem stepRail_lt {up : Bool} {k : Nat} (h : stepRail up k = some r) : r < 3 := by
  unfold stepRail at h
  split at h <;> split at h <;> simp at h <;> omega

theorem State.railAwaited_lt (h : s.railAwaited = some r) : r < 3 ∧ s.domOn dPANEL = true := by
  unfold State.railAwaited at h
  split at h
  · exact absurd h (by simp)
  · next hon =>
    refine ⟨?_, by simpa using hon⟩
    split at h
    · exact stepRail_lt h
    · split at h
      · exact stepRail_lt h
      · exact absurd h (by simp)

/-- A monitor's report keeps what waits for the rail. -/
theorem State.railAck_eq (h : s.railAwaited = some r) :
    s.railAck = (s.draw.2.railReport r (s.ackMv (s.panelState == pUP) r)).railNext (s.panelState == pUP) := by
  rw [State.railAck, h]

theorem State.railAck_none (h : s.railAwaited = none) : s.railAck = s := by rw [State.railAck, h]

theorem State.railTimeout_none {nacked : Bool} {mv : Nat} (h : s.railAwaited = none) : s.railTimeout nacked mv = s := by
  rw [State.railTimeout, h]

/-- The steps of a power-down that wait for a rail. -/
theorem State.railTimeout_eq {nacked : Bool} {mv : Nat} (h : s.railAwaited = some r) {up timed : Bool} {q : State}
    (hup : up = (s.panelState == pUP)) (hq : q = s.railReport r mv) (htimed : timed = (!up && q.hvd.powerFail)) :
    s.railTimeout nacked mv =
      if (timed || !nacked) && q.railShows up r then q.railNext up
      else if timed then q
      else if q.hvd.attempts ≤ q.fld F.HVD_RAIL_REQ_RETRIES then
        { q with hvd := { q.hvd with attempts := q.hvd.attempts + 1 } }.railSend r up
      else
        let u := q.railFail r (b2n (!up)) (if nacked then 1 else 2) q.hvd.attempts
        let u := { u with hvd := { u.hvd with failed := true } }
        if up then u.panelDown cauRAILFAIL false else u.downNext := by
  rw [State.railTimeout, h, htimed, hup, hq]

/-- What RAIL_FAIL counts and reports. -/
theorem State.railFail_spec (s : State) (r phase cause attempts : Nat) :
    (s.railFail r phase cause attempts).fld F.HVD_RAIL_FAILS_COUNT =
      min (s.fld F.HVD_RAIL_FAILS_COUNT + 1) (2 ^ F.HVD_RAIL_FAILS_COUNT.w - 1) ∧
    RegsButEvents (s.fld F.HVD_EVT_RING) s (s.railFail r phase cause attempts) [R.HVD_RAIL_FAILS] ∧
    Frame errorParts s (s.railFail r phase cause attempts) ∧
    (attempts < 8 → SameButEvents s (s.railFail r phase cause attempts)) := by
  obtain ⟨a, ha⟩ : ∃ a, a = s.bump F.HVD_RAIL_FAILS_COUNT := ⟨_, rfl⟩
  obtain ⟨b, hb⟩ : ∃ b, b = a.raise 0x43 1 := ⟨_, rfl⟩
  obtain ⟨c, hc⟩ : ∃ c, c = if attempts < 8 then b else b.draw.2 := ⟨_, rfl⟩
  obtain ⟨n, hform⟩ : ∃ n, s.railFail r phase cause attempts = c.post F.HVD_EVT_RING 0x0601 [(2, r), (2, phase), (4, cause), (3, n)] := by
    rw [hc, hb, ha]
    unfold State.railFail
    dsimp only
    split <;> exact ⟨_, rfl⟩
  have haregs : RegsBut s a [R.HVD_RAIL_FAILS] := by rw [ha]; exact RegsBut.refl.bump
  have hbregs : RegsButEvents (s.fld F.HVD_EVT_RING) a b [] := by rw [hb]; exact RegsButEvents.refl.raise
  have hcregs' : c.regs = b.regs := by rw [hc]; split <;> rfl
  have hcregs : RegsButEvents (s.fld F.HVD_EVT_RING) a c [] := hbregs.of_regs hcregs'
  have hring : a.fld F.HVD_EVT_RING = s.fld F.HVD_EVT_RING := haregs.fld (by decide)
  have hpost : RegsButEvents (a.fld F.HVD_EVT_RING) a (s.railFail r phase cause attempts) [] := by
    rw [hform]; rw [← hring] at hcregs; exact hcregs.post
  rw [hring] at hpost
  have hbframe : Frame [.regs, .sent, .pcie, .summaryOwed, .rings] s b := by rw [hb, ha]; exact Frame.refl.bump.raise
  refine ⟨?_, haregs.events.trans hpost (by simp), ?_, fun hlt => ?_⟩
  · rw [hpost.fld (by simp) (eventReg_of_low (by decide)), ha]
    exact State.fld_bump_same _ _ _ (by decide)
  · have hcframe : Frame errorParts s c := by
      rw [hc]; exact .ite (hbframe.mono (by decide)) (hbframe.mono (p := errorParts) (by decide)).draw
    rw [hform]; exact hcframe.post
  · rw [hform, hc, if_pos hlt]; exact hbframe.post

/-- A voltage that an acknowledged request may bring shows it. -/
theorem State.ackMv_shows (s : State) (r : Nat) :
    s.railTh r ≤ s.ackMv true r ∧ s.ackMv false r ≤ railFloor r := by
  refine ⟨Nat.le_add_right _ _, ?_⟩
  exact Nat.le_of_lt_succ (Nat.mod_lt _ (Nat.succ_pos _))

/-! #### The end of training, as a power-down meets it -/

/-- What sending on lanes may change. -/
abbrev laneParts : List Part := [.regs, .sent, .freeCtr, .link]

theorem Frame.setLane (h : Frame p s t) {n : Nat} {x : LaneHid} (hp : .link ∈ p := by decide) : Frame p s (t.setLane n x) :=
  h.then (q := [.link]) rfl (forall_mem_one hp)

theorem State.frame_laneSend (s : State) (n : Nat) (hdr : BitVec 2) (ws : List DWord) :
    Frame [.sent, .freeCtr, .link] s (s.laneSend n hdr ws) := by
  obtain ⟨a, ha⟩ : ∃ a, a = if (s.lane n).synced || ws.isEmpty then s else s.seedLane n := ⟨_, rfl⟩
  have hseed : Frame [.sent, .freeCtr, .link] s (s.seedLane n) := Frame.refl.draw.draw.setLane
  have haframe : Frame [.sent, .freeCtr, .link] s a := by rw [ha]; exact .ite .refl hseed
  have hsend : Frame [.sent, .freeCtr, .link] a (s.laneSend n hdr ws) := by rw [ha]; rfl
  exact haframe.trans hsend

theorem Frame.sendMode (h : Frame p s t) {m : Nat} (hp : ∀ x ∈ laneParts, x ∈ p := by decide) : Frame p s (t.sendMode m) := by
  have hunsync (u : State) (ns : List Nat) : Frame laneParts u (u.unsync ns) := Frame.refl.each fun _ _ _ hu => hu.setLane
  have hall (u : State) : Frame laneParts u (u.sendAll m) :=
    .ite .refl (Frame.refl.each fun v n _ hv => hv.then (v.frame_laneSend n 2#2 _) (by decide)).setFld
  have hframe : Frame laneParts t (t.sendMode m) := ((hunsync t _).trans (hall _)).trans (hunsync _ _)
  exact h.then hframe hp

theorem State.regsBut_sendMode (s : State) (m : Nat) : RegsBut s (s.sendMode m) [R.LINK_STATUS] := by
  have hunsync (u : State) (ns : List Nat) : (u.unsync ns).regs = u.regs := by
    have hframe : Frame [.link] u (u.unsync ns) := Frame.refl.each fun _ _ _ hu => hu.setLane
    exact hframe.get State.regs
  have hall (u : State) : RegsBut u (u.sendAll m) [R.LINK_STATUS] := by
    have hsent : Frame [.sent, .freeCtr, .link] u (u.each u.runLanes fun s n => s.sendCtl n 0x03 m) :=
      Frame.refl.each fun v n _ hv => hv.then (v.frame_laneSend n 2#2 _) (by decide)
    exact .ite .refl ((RegsBut.refl.of_regs (hsent.get State.regs)).setFld)
  have h1 : RegsBut s (s.unsync s.runLanes) [R.LINK_STATUS] := RegsBut.refl.of_regs (hunsync _ _)
  have h2 : RegsBut s ((s.unsync s.runLanes).sendAll m) [R.LINK_STATUS] := (h1.trans (hall _)).mono (by simp)
  exact h2.of_regs (hunsync _ _)

/-- What stopping the training of lanes may change. -/
abbrev trainParts : List Part := [.regs, .sent, .freeCtr, .link, .pcie, .summaryOwed, .rings]

theorem Frame.panelTrained (h : Frame p s t) (hp : ∀ x ∈ laneParts, x ∈ p := by decide) : Frame p s t.panelTrained := by
  have hframe : Frame laneParts t t.panelTrained := .ite (Frame.ite Frame.refl.sendMode .refl).setFld .refl
  exact h.then hframe hp

theorem State.frame_trainEnd (s : State) : Frame trainParts s s.trainEnd := by
  have hframe : Frame trainParts s { s.setFld F.LINK_STATUS_TRAINING 0 with link := { s.link with training := [] } } :=
    (Frame.refl (p := trainParts)).setFld.then (q := [.link]) rfl (by decide)
  exact .ite .refl hframe.raise.post.panelTrained

theorem State.frame_trainStop (s : State) : Frame trainParts s s.trainStop := by
  have hframe : Frame trainParts s (s.each (List.range lanes) fun s n =>
      (s.setLaneState n laneOFF).setLane n { LaneHid.init with unrec := (s.lane n).unrec }) :=
    Frame.refl.each fun _ _ _ hu => hu.setFld.setLane
  exact hframe.trans (State.frame_trainEnd _)

theorem State.cause_panelTrained (s : State) : s.panelTrained.fld F.HVD_PANEL_STATUS_CAUSE = s.fld F.HVD_PANEL_STATUS_CAUSE := by
  unfold State.panelTrained
  split
  · rw [State.fld_setFld_other _ _ _ _ (by decide)]
    split
    · exact (s.regsBut_sendMode 0).fld (by decide)
    · rfl
  · rfl

theorem State.cause_trainEnd (s : State) : s.trainEnd.fld F.HVD_PANEL_STATUS_CAUSE = s.fld F.HVD_PANEL_STATUS_CAUSE := by
  obtain ⟨a, ha⟩ : ∃ a, a = s.setFld F.LINK_STATUS_TRAINING 0 := ⟨_, rfl⟩
  obtain ⟨b, hb⟩ : ∃ b : State, b = { a with link := { s.link with training := [] } } := ⟨_, rfl⟩
  have hregs : RegsButEvents (b.fld F.LINK_EVT_RING) b ((b.raise 0x41 2).post F.LINK_EVT_RING 0x0501
      [(32, b.runMask), (16, b.runMask / 2 ^ 32), (2, b.fld F.LINK_CTRL_RATE)]) [] := RegsButEvents.refl.raise.post
  have hb' : b.fld F.HVD_PANEL_STATUS_CAUSE = s.fld F.HVD_PANEL_STATUS_CAUSE := by
    have : b.fld F.HVD_PANEL_STATUS_CAUSE = a.fld F.HVD_PANEL_STATUS_CAUSE := by rw [hb]; rfl
    rw [this, ha, State.fld_setFld_other _ _ _ _ (by decide)]
  obtain ⟨x, hx⟩ : ∃ x, x = (b.raise 0x41 2).post F.LINK_EVT_RING 0x0501
      [(32, b.runMask), (16, b.runMask / 2 ^ 32), (2, b.fld F.LINK_CTRL_RATE)] := ⟨_, rfl⟩
  have hform : s.trainEnd = if !s.bit F.LINK_STATUS_TRAINING || s.link.training.any fun n => s.laneState n == laneTRAIN then s
      else x.panelTrained := by rw [hx, hb, ha]; rfl
  rw [hform]
  split
  · rfl
  · rw [State.cause_panelTrained, hx, hregs.fld (by simp) (eventReg_of_low (by decide)), hb']

/-- A lane that training leaves. -/
def State.laneStopped (s : State) (n : Nat) : State :=
  (s.setLaneState n laneOFF).setLane n { LaneHid.init with unrec := (s.lane n).unrec }

theorem State.trainStop_eq (s : State) : s.trainStop = (s.each (List.range lanes) State.laneStopped).trainEnd := rfl

theorem State.cause_laneStopped (s : State) {n : Nat} (hn : n < 48) :
    (s.laneStopped n).fld F.HVD_PANEL_STATUS_CAUSE = s.fld F.HVD_PANEL_STATUS_CAUSE :=
  State.fld_setFld_other s (F.LINK_LANE_STATE_STATE n) F.HVD_PANEL_STATUS_CAUSE _
    (.inl (by dsimp only; omega))

theorem State.cause_trainStop (s : State) : s.trainStop.fld F.HVD_PANEL_STATUS_CAUSE = s.fld F.HVD_PANEL_STATUS_CAUSE := by
  have heach (xs : List Nat) (hxs : ∀ n ∈ xs, n < 48) (u : State) :
      (u.each xs State.laneStopped).fld F.HVD_PANEL_STATUS_CAUSE = u.fld F.HVD_PANEL_STATUS_CAUSE := by
    induction xs generalizing u with
    | nil => rfl
    | cons n xs ih =>
      have htail := ih (fun m hm => hxs m (List.mem_cons_of_mem _ hm)) (u.laneStopped n)
      exact htail.trans (u.cause_laneStopped (hxs n (List.mem_cons_self ..)))
  rw [State.trainStop_eq, State.cause_trainEnd, heach _ (fun n hn => List.mem_range.mp hn)]

/-! #### The steps of power-up -/

/-- A step, with what hides behind it, and a rail that is requested on. -/
def State.stepOn (s : State) (k r : Nat) (x : Hvd) : State := ({ s.setStep k with hvd := x } : State).requestOn r

theorem railReg_ne (hr : r < 3) : R.HVD_RAIL_AVDD + 4 * r ∉ [R.HVD_PANEL_STATUS] := by
  simp only [List.mem_singleton, R.HVD_RAIL_AVDD, R.HVD_PANEL_STATUS]; omega

theorem State.stepOn_spec (s : State) {k r : Nat} (hk : k < 8) (hr : r < 3) (x : Hvd) :
    (s.stepOn k r x).panelStep = k ∧ (s.stepOn k r x).panelState = s.panelState ∧
    (s.stepOn k r x).hvd = { x with requested := x.requested ++ [r], attempts := 1 } ∧
    (s.stepOn k r x).sent = .pmbus (writeByte (s.railAddr r).1 0x01 0x80) :: .pmbus (writeByte (s.railAddr r).1 0x00 (s.railAddr r).2) ::
      s.sent ∧
    RegsBut s (s.stepOn k r x) [R.HVD_PANEL_STATUS] ∧
    Frame [.regs, .hvd, .sent] s (s.stepOn k r x) := by
  obtain ⟨a, ha⟩ : ∃ a, a = s.setFld F.HVD_PANEL_STATUS_STEP k := ⟨_, rfl⟩
  obtain ⟨t, ht⟩ : ∃ t, t = ({ a with hvd := x } : State).requestOn r := ⟨_, rfl⟩
  have hform : s.stepOn k r x = t := by rw [ht, ha]; rfl
  have htregs : t.regs = a.regs := by rw [ht]; rfl
  have hfld (f : Fld) : t.fld f = a.fld f := by rw [State.fld, State.rd, htregs, State.fld, State.rd]
  have haregs : RegsBut s a [R.HVD_PANEL_STATUS] := by rw [ha]; exact RegsBut.refl.setFld
  have haddr : a.railAddr r = s.railAddr r := by rw [State.railAddr, haregs _ (railReg_ne hr), State.railAddr]
  have hframe : Frame [.regs, .hvd, .sent] s t := by
    have haframe : Frame [.regs, .hvd, .sent] s a := by rw [ha]; exact Frame.refl.setFld
    have htframe : Frame [.hvd, .sent] a t := by rw [ht]; rfl
    exact haframe.then htframe (by decide)
  rw [hform]
  refine ⟨?_, ?_, by rw [ht]; rfl, ?_, haregs.of_regs htregs, hframe⟩
  · rw [State.panelStep, hfld, ha, State.fld_setFld_same _ _ _ (by decide)]; exact Nat.mod_eq_of_lt hk
  · rw [State.panelState, hfld, ha, State.fld_setFld_other _ _ _ _ (by decide)]; rfl
  · rw [← haddr, ht, ha]; rfl

/-- Lanes are trainable by their own registers. -/
theorem State.trainable_congr (h : RegsBut s t [R.HVD_PANEL_STATUS]) : t.trainable = s.trainable := by
  refine List.filter_congr fun n hn => ?_
  have hn : n < 48 := List.mem_range.mp hn
  have hstate : t.laneState n = s.laneState n := h.fld (by
    simp only [List.mem_singleton, R.HVD_PANEL_STATUS]; omega)
  have hcfg (m : Nat) (hm : m ≤ n) : t.laneCfg m = s.laneCfg m := h _ (by
    simp only [List.mem_singleton, R.LINK_LANE_CFG, R.HVD_PANEL_STATUS]; omega)
  simp only [hstate, hcfg n le_rfl, hcfg (n - 1) (Nat.sub_le ..)]

theorem State.upLink_eq {u : State} (hu : u = s.setFld F.HVD_PANEL_STATUS_STEP 5) : s.upLink =
    (if s.domOn dLINK && !s.bit F.LINK_STATUS_TRAINING && !s.trainable.isEmpty then u.trainGo else u).panelTrained := by
  have hregs : RegsBut s u [R.HVD_PANEL_STATUS] := by rw [hu]; exact RegsBut.refl.setFld
  have hform : s.upLink =
      (if u.domOn dLINK && !u.bit F.LINK_STATUS_TRAINING && !u.trainable.isEmpty then u.trainGo else u).panelTrained := by rw [hu]; rfl
  rw [hform, hregs.domOn, State.trainable_congr hregs, State.bit, hregs.fld (by decide), ← State.bit]

/-! #### The steps of power-down -/

theorem stepRail_down_lt {k : Nat} (h : stepRail false k = some r) : k < 8 ∧ r < 3 := by
  refine ⟨?_, stepRail_lt h⟩
  unfold stepRail at h
  rw [if_neg (by decide)] at h
  split at h <;> simp at h ⊢

theorem downEnter_rail {fuel k : Nat} (h : stepRail false k = some r) (s : State) : downEnter (fuel + 1) k s =
    if (s.downAction k).hvd.requested.contains r then (s.downAction k).railSend r false else downEnter fuel (k + 1) (s.downAction k) := by
  rw [downEnter, h]

theorem State.downAction_spec (s : State) {k : Nat} (hk : k < 8) :
    (s.downAction k).panelStep = k ∧ (s.downAction k).panelState = s.panelState ∧
    RegsBut s (s.downAction k) [R.HVD_PANEL_STATUS] ∧ Frame [.regs, .hvd] s (s.downAction k) ∧
    (s.downAction k).sent = s.sent := by
  obtain ⟨a, ha⟩ : ∃ a, a = s.setFld F.HVD_PANEL_STATUS_STEP k := ⟨_, rfl⟩
  have htregs : (s.downAction k).regs = a.regs := by rw [ha]; rfl
  have hfld (f : Fld) : (s.downAction k).fld f = a.fld f := by rw [State.fld, State.rd, htregs, State.fld, State.rd]
  have haregs : RegsBut s a [R.HVD_PANEL_STATUS] := by rw [ha]; exact RegsBut.refl.setFld
  have hframe : Frame [.regs, .hvd] s (s.downAction k) := by
    have haframe : Frame [.regs, .hvd] s a := by rw [ha]; exact Frame.refl.setFld
    have htframe : Frame [.hvd] a (s.downAction k) := by rw [ha]; rfl
    exact haframe.then htframe (by decide)
  refine ⟨?_, ?_, haregs.of_regs htregs, hframe, hframe.get State.sent⟩
  · rw [State.panelStep, hfld, ha, State.fld_setFld_same _ _ _ (by decide)]; exact Nat.mod_eq_of_lt hk
  · rw [State.panelState, hfld, ha, State.fld_setFld_other _ _ _ _ (by decide)]; rfl

/-- Step 7, with the gates grounded. -/
def State.gatesGrounded (s : State) : State :=
  let s := s.setFld F.GATE_CTRL_FORCE 1
  { s with hvd := { s.hvd with swGates := true } }

theorem State.gatesGrounded_spec (s : State) :
    s.gatesGrounded.fld F.GATE_CTRL_FORCE = 1 ∧ RegsBut s s.gatesGrounded [R.GATE_CTRL] ∧
    s.gatesGrounded.hvd = { s.hvd with swGates := true } ∧ Frame [.regs, .hvd] s s.gatesGrounded := by
  obtain ⟨a, ha⟩ : ∃ a, a = s.setFld F.GATE_CTRL_FORCE 1 := ⟨_, rfl⟩
  have htregs : s.gatesGrounded.regs = a.regs := by rw [ha]; rfl
  have hfld (f : Fld) : s.gatesGrounded.fld f = a.fld f := by rw [State.fld, State.rd, htregs, State.fld, State.rd]
  have haregs : RegsBut s a [R.GATE_CTRL] := by rw [ha]; exact RegsBut.refl.setFld
  have haframe : Frame [.regs, .hvd] s a := by rw [ha]; exact Frame.refl.setFld
  have htframe : Frame [.hvd] a s.gatesGrounded := by rw [ha]; rfl
  refine ⟨?_, haregs.of_regs htregs, rfl, haframe.then htframe (by decide)⟩
  rw [hfld, ha, State.fld_setFld_same _ _ _ (by decide)]; rfl

/-- The end of a power-down, after the lanes are OFF. -/
theorem State.downEnd_eq (s : State) : s.downEnd =
    ({ (if s.domOn dLINK then s.gatesGrounded.trainStop else s.gatesGrounded).bump F.HVD_DISCHARGES_COUNT with
        hvd := { s.gatesGrounded.hvd with failed := false, powerFail := false, requested := [] } }.setPanel
      (if s.hvd.failed then pFAULT else pOFF) (s.fld F.HVD_PANEL_STATUS_CAUSE)).setFld F.HVD_PANEL_STATUS_STEP 0 := by
  obtain ⟨u, hu⟩ : ∃ u, u = s.gatesGrounded := ⟨_, rfl⟩
  obtain ⟨-, huregs, huhvd, -⟩ := s.gatesGrounded_spec
  rw [← hu] at huregs huhvd
  obtain ⟨v, hv⟩ : ∃ v, v = if s.domOn dLINK then u.trainStop else u := ⟨_, rfl⟩
  obtain ⟨w, hw⟩ : ∃ w, w = v.bump F.HVD_DISCHARGES_COUNT := ⟨_, rfl⟩
  have hvhvd : v.hvd = u.hvd := by rw [hv]; split <;> [exact u.frame_trainStop.get State.hvd; rfl]
  have hwhvd : w.hvd = u.hvd := by rw [hw, ← hvhvd]; rfl
  have hcause : w.fld F.HVD_PANEL_STATUS_CAUSE = s.fld F.HVD_PANEL_STATUS_CAUSE := by
    rw [hw, State.fld_bump_other _ _ _ _ (by decide), ← huregs.fld (by decide), hv]
    split
    · exact u.cause_trainStop
    · rfl
  obtain ⟨x, hx⟩ : ∃ x : Hvd, x = { w.hvd with failed := false, powerFail := false, requested := [] } := ⟨_, rfl⟩
  have hform : s.downEnd = (({ w with hvd := x } : State).setPanel (if w.hvd.failed then pFAULT else pOFF)
      (w.fld F.HVD_PANEL_STATUS_CAUSE)).setFld F.HVD_PANEL_STATUS_STEP 0 := by
    rw [hx, hw, hv, ← huregs.domOn, hu]; rfl
  rw [hform, hcause, hx, hwhvd, huhvd, ← hu, ← hv, ← hw, huhvd]

end

theorem State.seqTimer_of_down {s : State} (hon : s.domOn dPANEL = true) (hst : s.panelState = pDOWN) : s.seqTimer =
    if s.panelStep = 2 then (s.setFld F.GATE_CTRL_FORCE 2).setFld F.HVD_PANEL_STATUS_STEP 3
    else if s.panelStep = 3 then s.downNext
    else (stepRail false s.panelStep).elim s fun r =>
      if s.hvd.powerFail then (s.draw.2.railReport r s.draw.1.toNat).downNext else s := by
  rw [State.seqTimer, if_neg (by simp [hon]), if_neg (by simp [hst]), if_pos hst]
  generalize s.panelStep = k
  rcases k with _ | _ | _ | _ | _ | _ | _ | k <;> rfl

theorem State.seqTimer_none {s : State} (h : s.domOn dPANEL = false ∨ (s.panelState ≠ pUP ∧ s.panelState ≠ pDOWN) ∨
    (s.panelState = pUP ∧ s.panelStep ≠ 2) ∨ (s.panelState = pDOWN ∧ s.panelStep ≠ 2 ∧ s.panelStep ≠ 3 ∧
      (s.hvd.powerFail = false ∨ stepRail false s.panelStep = none))) : s.seqTimer = s := by
  cases hon : s.domOn dPANEL with
  | false => exact if_pos (by simp [hon])
  | true =>
    obtain hoff | ⟨h1, h2⟩ | ⟨h1, h2⟩ | ⟨h1, h2, h3, h4⟩ := h
    · exact absurd hon (by simp [hoff])
    · rw [State.seqTimer, if_neg (by simp [hon]), if_neg (by simp [h1]), if_neg h2]
    · rw [State.seqTimer, if_neg (by simp [hon]), if_neg (by simp [h2]), if_neg (by rw [h1]; decide)]
    · rw [State.seqTimer_of_down hon h1, if_neg h2, if_neg h3]
      obtain h4 | h4 := h4
      · rw [h4]; cases stepRail false s.panelStep <;> rfl
      · rw [h4]; rfl

/-- Settles O40: the acknowledged and the failed request, the step timer, and each of the next steps. -/
theorem panelStepsEnd : Obligations.PanelStepsEnd := by
  refine ⟨fun s mv nacked hruns => ⟨fun hnone => ⟨?idleAck, ?idleMiss⟩, fun r up hr hup => ?ack,
    fun r up shows timed hr hup hshows htimed => ?miss⟩, fun s hruns => ⟨fun hon hst hstep => ?refs, fun hon hst => ⟨fun h2 => ?two,
      fun h3 => ?three, fun r hr hpf => ?limit⟩, fun h => ?untimed⟩, fun w => ⟨fun h1 => ?step1, ?vgl, fun h3 => ?vgh, fun h4 => ?link,
      rfl, fun fuel k r hk => ?rail, fun fuel => ?last⟩⟩
  case idleAck => exact congrArg Host.Outcome.next ((State.flow_of_runs hruns _).trans (by rw [State.railAck_none hnone]))
  case idleMiss => exact congrArg Host.Outcome.next ((State.flow_of_runs hruns _).trans (by rw [State.railTimeout_none hnone]))
  case ack =>
    obtain ⟨hlt, hon⟩ := State.railAwaited_lt hr
    obtain ⟨d, hd⟩ : ∃ d, d = s.draw.2 := ⟨_, rfl⟩
    obtain ⟨v, hv⟩ : ∃ v, v = s.ackMv up r := ⟨_, rfl⟩
    obtain ⟨p, hp⟩ : ∃ p, p = d.railReport r v := ⟨_, rfl⟩
    obtain ⟨hshows, -, hstate, hstep, hregs, -, hothers, hform⟩ := d.railReport_spec (mv := v) hlt
    rw [← hp] at hshows hstate hstep hregs hothers hform
    have hdon : d.domOn = s.domOn := State.domOn_of_regs (by rw [hd]; rfl)
    obtain ⟨hok, hlow⟩ := hshows (by rw [hdon]; exact hon)
    obtain ⟨hup', hdown'⟩ := s.ackMv_shows r
    refine ⟨p, congrArg Host.Outcome.next ((State.flow_of_runs hruns _).trans ?_), fun h => ?_, fun h => ?_, hstate.trans (by rw [hd]; rfl),
      hstep.trans (by rw [hd]; rfl), fun k hk => (hregs k hk).trans (by rw [hd]; rfl), fun i hi hne => (hothers i hi hne).trans (by rw [hd]; rfl),
      ?_⟩
    · rw [State.railAck_eq hr, ← hup, ← hv, ← hd, ← hp]
    · rw [hok, hv, h]; exact decide_eq_true (by rw [hd]; exact hup')
    · rw [hlow, hv, h]; exact decide_eq_true hdown'
    · rw [hform, hd]; rfl
  case miss =>
    obtain ⟨hlt, hon⟩ := State.railAwaited_lt hr
    obtain ⟨p, hp⟩ : ∃ p, p = s.railReport r mv.toNat := ⟨_, rfl⟩
    obtain ⟨hbits, -, hstate, hstep, hregs, hmv, hothers, hform⟩ := s.railReport_spec (mv := mv.toNat) hlt
    rw [← hp] at hbits hstate hstep hregs hmv hothers hform
    obtain ⟨hok, hlow⟩ := hbits hon
    have hpf : p.hvd.powerFail = s.hvd.powerFail := by rw [hform]
    have hatt : p.hvd.attempts = s.hvd.attempts := by rw [hform]
    have hsent : p.sent = s.sent := by rw [hform]
    have hretries : p.fld F.HVD_RAIL_REQ_RETRIES = s.fld F.HVD_RAIL_REQ_RETRIES := hregs.fld (by decide)
    have haddr : p.railAddr r = s.railAddr r := by rw [State.railAddr, hregs _ (railReg_ne hlt), State.railAddr]
    have hshows' : p.railShows up r = shows := by
      rw [State.railShows, hok, hlow, hshows]
    have hexec := State.railTimeout_eq (nacked := nacked) (timed := timed) hr hup hp (by rw [hpf]; exact htimed)
    rw [hshows', hatt, hretries] at hexec
    have hflow (t : State) (h : s.railTimeout nacked mv.toNat = t) : exec (.railReqTimeout ⟨nacked, mv⟩) s = .next (s.after t) :=
      congrArg Host.Outcome.next ((State.flow_of_runs hruns _).trans (by rw [h]))
    refine ⟨p, hok, hlow, hstate, hstep, hregs, hmv, hothers, hform, fun hsh hor => hflow _ ?_, fun hsh ht => hflow _ ?_,
      fun hor ht hle => hflow _ ?_, fun hor ht hlt' => ?_⟩
    · rw [hexec, if_pos]
      rw [hsh, Bool.and_true]
      obtain ht | hn := hor
      · rw [ht]; rfl
      · rw [hn]; exact Bool.or_true _
    · rw [hexec, if_neg (by simp [hsh]), if_pos ht]
    · have hno : ¬((timed || !nacked) && shows) = true := by
        rw [ht]
        obtain h | h := hor <;> simp [h]
      rw [hexec, if_neg hno, if_neg (by simp [ht]), if_pos hle, State.railSend_eq]
      have hq : ({ p with hvd := { p.hvd with attempts := s.hvd.attempts + 1 } } : State).railAddr r = s.railAddr r := haddr
      rw [hq, hsent]
    · have hno : ¬((timed || !nacked) && shows) = true := by
        rw [ht]
        obtain h | h := hor <;> simp [h]
      obtain ⟨x, hx⟩ : ∃ x, x = p.railFail r (b2n (!up)) (if nacked then 1 else 2) s.hvd.attempts := ⟨_, rfl⟩
      obtain ⟨hcount, hxregs, hxframe, -⟩ := p.railFail_spec r (b2n (!up)) (if nacked then 1 else 2) s.hvd.attempts
      rw [← hx] at hcount hxregs hxframe
      have hring : p.fld F.HVD_EVT_RING = s.fld F.HVD_EVT_RING := hregs.fld (by decide)
      obtain ⟨u, hu⟩ : ∃ u : State, u = { x with hvd := { x.hvd with failed := true } } := ⟨_, rfl⟩
      have huregs : u.regs = x.regs := by rw [hu]
      refine ⟨u, ?_, ?_, ?_, ?_, hflow _ ?_⟩
      · rw [hu, ← hxframe.get State.hvd]
      · rw [State.fld, State.rd, huregs, ← State.rd, ← State.fld, hcount, hregs.fld (by decide)]
      · rw [← hring]; exact hxregs.of_regs huregs
      · have hall : Frame [.regs, .hvd, .freeCtr, .rings, .sent, .pcie, .summaryOwed] p u := by
          rw [hu]; exact (hxframe.mono (by decide)).then (q := [.hvd]) rfl (by decide)
        exact hall
      · rw [hexec, if_neg hno, if_neg (by simp [ht]), if_neg (by omega), ← hx, hu]
  case refs =>
    refine congrArg Host.Outcome.next ((State.flow_of_runs hruns _).trans ?_)
    rw [State.seqTimer, if_neg (by simp [hon]), if_pos (by simp [hst, hstep])]
  case two =>
    refine congrArg Host.Outcome.next ((State.flow_of_runs hruns _).trans ?_)
    rw [State.seqTimer_of_down hon hst, if_pos h2]
  case three =>
    refine congrArg Host.Outcome.next ((State.flow_of_runs hruns _).trans ?_)
    rw [State.seqTimer_of_down hon hst, if_neg (by rw [h3]; decide), if_pos h3]
  case limit =>
    obtain ⟨d, hd⟩ : ∃ d, d = s.draw.2 := ⟨_, rfl⟩
    obtain ⟨v, hv⟩ : ∃ v, v = s.draw.1.toNat := ⟨_, rfl⟩
    obtain ⟨p, hp⟩ : ∃ p, p = d.railReport r v := ⟨_, rfl⟩
    obtain ⟨-, -, hstate, hstep, hregs, -, hothers, hform⟩ := d.railReport_spec (mv := v) (stepRail_lt hr)
    rw [← hp] at hstate hstep hregs hothers hform
    refine ⟨p, congrArg Host.Outcome.next ((State.flow_of_runs hruns _).trans ?_), hstate.trans (by rw [hd]; rfl),
      hstep.trans (by rw [hd]; rfl), fun k hk => (hregs k hk).trans (by rw [hd]; rfl),
      fun i hi hne => (hothers i hi hne).trans (by rw [hd]; rfl), ?_⟩
    · have h2 : s.panelStep ≠ 2 := fun h => by rw [h] at hr; exact Option.some_ne_none r hr.symm
      have h3 : s.panelStep ≠ 3 := fun h => by rw [h] at hr; exact Option.some_ne_none r hr.symm
      rw [State.seqTimer_of_down hon hst, if_neg h2, if_neg h3, hr, Option.elim_some, if_pos hpf, ← hd, ← hv, ← hp]
    · rw [hform, hd]; rfl
  case untimed =>
    exact congrArg Host.Outcome.next ((State.flow_of_runs hruns _).trans (by rw [State.seqTimer_none h]))
  case step1 =>
    rw [State.railNext, if_pos rfl, h1]; rfl
  case vgl =>
    obtain ⟨x, hx⟩ : ∃ x : Hvd, x = { w.hvd with swVgl := false, swGates := false } := ⟨_, rfl⟩
    obtain ⟨hstep, hstate, hhvd, hsent, hregs, hframe⟩ := w.stepOn_spec (k := 3) (r := 1) (by decide) (by decide) x
    refine ⟨w.stepOn 3 1 x, by rw [hx]; rfl, hstep, hstate, ?_, hsent, hregs, hframe⟩
    rw [hhvd, hx]
  case vgh =>
    obtain ⟨x, hx⟩ : ∃ x : Hvd, x = { w.hvd with swVgh := false } := ⟨_, rfl⟩
    obtain ⟨hstep, hstate, hhvd, hsent, hregs, hframe⟩ := w.stepOn_spec (k := 4) (r := 2) (by decide) (by decide) x
    refine ⟨w.stepOn 4 2 x, ?_, hstep, hstate, ?_, hsent, hregs, hframe⟩
    · rw [State.railNext, if_pos rfl, h3, hx]; rfl
    · rw [hhvd, hx]
  case link =>
    refine ⟨_, rfl, ?_⟩
    rw [State.railNext, if_pos rfl, h4]
    exact State.upLink_eq rfl
  case rail =>
    obtain ⟨hk8, hr3⟩ := stepRail_down_lt hk
    obtain ⟨hstep, hstate, hregs, hframe, hsent⟩ := w.downAction_spec hk8
    have haddr : (w.downAction k).railAddr r = w.railAddr r := by rw [State.railAddr, hregs _ (railReg_ne hr3), State.railAddr]
    have hreq : (w.downAction k).hvd.requested = w.hvd.requested := rfl
    refine ⟨w.downAction k, hstep, hstate, rfl, hregs, hframe, fun hin => ?_, fun hout => ?_⟩
    · rw [downEnter_rail hk, hreq, if_pos (List.contains_iff_mem.mpr hin), State.railSend_eq, haddr, hsent]; rfl
    · rw [downEnter_rail hk, hreq, if_neg (by simpa using hout)]
  case last =>
    obtain ⟨hforce, hregs, hhvd, hframe⟩ := w.gatesGrounded_spec
    exact ⟨w.gatesGrounded, hforce, hregs, hframe.withHvd hhvd, w.downEnd_eq⟩

end Sys2Proof.Machine

/-! ### Power fail, lost rails and thermistors (R205, R245, R246, R252, R254, R255, R287, R333) -/

namespace Sys2Proof.Machine

-- A proof that fills in an argument by its default tactic waits for all that stands before it: checked in order, none waits.
set_option Elab.async false

section
variable {s t : State} {p : List Part}

/-! #### PFW# -/

/-- PFW# low, as it is seen. -/
def State.pfwSeen (s : State) : State := { s with hvd := { s.hvd with pfwLow := true } }

/-- PFW is shown, counted and reported. -/
def State.pfwShown (s : State) : State :=
  let s := ((s.pfwSeen.setFld F.HVD_PANEL_STATUS_PFW 1).bump F.HVD_PFW_COUNT_COUNT).raise 0x43 2
  s.post F.HVD_EVT_RING 0x0602 [(3, s.panelState), (32, (s.rd R.SCAN_FRAME_SEQ).toNat)]

theorem State.pfwPanel_eq (s : State) : s.pfwPanel = if s.domOn dPANEL then s.pfwShown.panelDown cauPFW true else s.pfwSeen := by
  have hon : s.pfwSeen.domOn = s.domOn := State.domOn_of_regs rfl
  have hform : s.pfwPanel = if !s.pfwSeen.domOn dPANEL then s.pfwSeen else s.pfwShown.panelDown cauPFW true := rfl
  rw [hform, hon]
  cases s.domOn dPANEL <;> rfl

theorem State.pfwShown_spec (s : State) :
    s.pfwShown.bit F.HVD_PANEL_STATUS_PFW = true ∧ s.pfwShown.panelState = s.panelState ∧
    s.pfwShown.fld F.HVD_PFW_COUNT_COUNT = min (s.fld F.HVD_PFW_COUNT_COUNT + 1) (2 ^ F.HVD_PFW_COUNT_COUNT.w - 1) ∧
    RegsButEvents (s.fld F.HVD_EVT_RING) s s.pfwShown [R.HVD_PANEL_STATUS, R.HVD_PFW_COUNT] ∧
    s.pfwShown.hvd = { s.hvd with pfwLow := true } ∧
    Frame [.regs, .hvd, .rings, .sent, .pcie, .summaryOwed] s s.pfwShown := by
  obtain ⟨a, ha⟩ : ∃ a, a = s.pfwSeen := ⟨_, rfl⟩
  obtain ⟨b, hb⟩ : ∃ b, b = a.setFld F.HVD_PANEL_STATUS_PFW 1 := ⟨_, rfl⟩
  obtain ⟨c, hc⟩ : ∃ c, c = b.bump F.HVD_PFW_COUNT_COUNT := ⟨_, rfl⟩
  obtain ⟨d, hd⟩ : ∃ d, d = c.raise 0x43 2 := ⟨_, rfl⟩
  have hform : s.pfwShown = d.post F.HVD_EVT_RING 0x0602 [(3, d.panelState), (32, (d.rd R.SCAN_FRAME_SEQ).toNat)] := by
    rw [hd, hc, hb, ha]; rfl
  have hafld (f : Fld) : a.fld f = s.fld f := by rw [ha]; rfl
  have hbregs : RegsBut s b [R.HVD_PANEL_STATUS] := by
    rw [hb, ha]; exact RegsBut.setFld (RegsBut.refl.of_regs rfl)
  have hcregs : RegsBut b c [R.HVD_PFW_COUNT] := by rw [hc]; exact RegsBut.refl.bump
  have hring : c.fld F.HVD_EVT_RING = s.fld F.HVD_EVT_RING := (hcregs.fld (by decide)).trans (hbregs.fld (by decide))
  have hpost : RegsButEvents (c.fld F.HVD_EVT_RING) c s.pfwShown [] := by rw [hform, hd]; exact RegsButEvents.refl.raise.post
  rw [hring] at hpost
  have hstatus {f : Fld} (hf : f.off = R.HVD_PANEL_STATUS) : s.pfwShown.fld f = b.fld f := by
    rw [hpost.fld (by simp) (by rw [hf]; exact eventReg_of_low (by decide)), hcregs.fld (by rw [hf]; decide)]
  have hhvd : s.pfwShown.hvd = a.hvd := by
    have hframe : Frame [.regs, .sent, .pcie, .summaryOwed, .rings] a s.pfwShown := by
      rw [hform, hd, hc, hb]; exact Frame.refl.setFld.bump.raise.post
    exact hframe.get State.hvd
  refine ⟨?_, ?_, ?_, ((hbregs.trans hcregs).events.trans hpost (by simp)).mono (by simp), by rw [hhvd, ha]; rfl, ?_⟩
  · rw [State.bit, hstatus rfl, hb, State.fld_setFld_same _ _ _ (by decide)]; rfl
  · rw [State.panelState, hstatus rfl, hb, State.fld_setFld_other _ _ _ _ (by decide), hafld]; rfl
  · rw [hpost.fld (by simp) (eventReg_of_low (by decide)), hc, State.fld_bump_same _ _ _ (by decide), hbregs.fld (by decide)]
  · have haframe : Frame [.regs, .hvd, .rings, .sent, .pcie, .summaryOwed] s a := by
      rw [ha]; exact Frame.refl.then (q := [.hvd]) rfl (by decide)
    rw [hform, hd, hc, hb]
    exact haframe.setFld.bump.raise.post

theorem State.pfwHigh_spec (s : State) :
    (s.domOn dPANEL = true → s.pfwHigh.bit F.HVD_PANEL_STATUS_PFW = false ∧ s.pfwHigh.panelState = s.panelState) ∧
    (s.domOn dLABEL = true → s.pfwHigh.bit F.LABEL_STATUS_STOPPED = false) ∧
    (s.domOn dPANEL = false → s.pfwHigh.rd R.HVD_PANEL_STATUS = s.rd R.HVD_PANEL_STATUS) ∧
    (s.domOn dLABEL = false → s.pfwHigh.rd R.LABEL_STATUS = s.rd R.LABEL_STATUS) ∧
    RegsBut s s.pfwHigh [R.HVD_PANEL_STATUS, R.LABEL_STATUS] ∧
    s.pfwHigh = { s with regs := s.pfwHigh.regs, hvd := { s.hvd with pfwLow := false } } := by
  obtain ⟨a, ha⟩ : ∃ a : State, a = { s with hvd := { s.hvd with pfwLow := false } } := ⟨_, rfl⟩
  obtain ⟨b, hb⟩ : ∃ b, b = if s.domOn dLABEL then a.setFld F.LABEL_STATUS_STOPPED 0 else a := ⟨_, rfl⟩
  obtain ⟨c, hc⟩ : ∃ c, c = if s.domOn dPANEL then b.setFld F.HVD_PANEL_STATUS_PFW 0 else b := ⟨_, rfl⟩
  have haregs : a.regs = s.regs := by rw [ha]
  have hard (k : Nat) : a.rd k = s.rd k := by rw [State.rd, haregs, State.rd]
  have haon : a.domOn = s.domOn := State.domOn_of_regs haregs
  have hbregs : RegsBut a b [R.LABEL_STATUS] := by rw [hb]; exact .ite RegsBut.refl.setFld .refl
  have hbon : b.domOn = s.domOn := hbregs.domOn.trans haon
  have hform : s.pfwHigh = c := by rw [hc, ← hbon, hb, ← haon, ha]; rfl
  have hcregs : RegsBut b c [R.HVD_PANEL_STATUS] := by rw [hc]; exact .ite RegsBut.refl.setFld .refl
  have hframe : Frame [.regs] a c := by rw [hc, hb]; exact .ite (Frame.ite Frame.refl.setFld .refl).setFld (.ite Frame.refl.setFld .refl)
  have hall : Frame [.regs, .hvd] s c := by
    have haframe : Frame [.regs, .hvd] s a := by rw [ha]; exact Frame.refl.then (q := [.hvd]) rfl (by decide)
    exact haframe.then hframe (by decide)
  rw [hform]
  refine ⟨fun hon => ⟨?_, ?_⟩, fun hon => ?_, fun hoff => ?_, fun hoff => ?_, fun k hk => ?_,
    hall.withHvd (by rw [hframe.get State.hvd, ha])⟩
  · rw [hc, if_pos hon, State.bit, State.fld_setFld_same _ _ _ (by decide)]; rfl
  · rw [hc, if_pos hon, State.panelState, State.fld_setFld_other _ _ _ _ (by decide), hbregs.fld (by decide), State.fld, hard]; rfl
  · rw [State.bit, hcregs.fld (by decide), hb, if_pos hon, State.fld_setFld_same _ _ _ (by decide)]; rfl
  · rw [hc, hoff, if_neg (by decide), hbregs _ (by decide), hard]
  · rw [hcregs _ (by decide), hb, hoff, if_neg (by decide), hard]
  · simp only [List.mem_cons, List.not_mem_nil, or_false, not_or] at hk
    rw [hcregs k (by simpa using hk.1), hbregs k (by simpa using hk.2), hard]

/-! #### Thermistors -/

/-- The register of a thermistor. -/
def thermReg (ch : Bool) : Nat := if ch then R.HVD_THERM1 else R.HVD_THERM0

abbrev thermTempFld (ch : Bool) : Fld := ⟨thermReg ch, 0, 12⟩
abbrev thermCodeFld (ch : Bool) : Fld := ⟨thermReg ch, 16, 12⟩
abbrev thermValidFld (ch : Bool) : Fld := ⟨thermReg ch, 31, 1⟩

theorem thermFlds_eq (ch : Bool) : thermFlds (b2n ch) = (thermTempFld ch, thermCodeFld ch, thermValidFld ch) := by cases ch <;> rfl

theorem thermReg_low (ch : Bool) : lowReg (thermReg ch) = true := by cases ch <;> decide

theorem State.thermWindow_setThermWindow (s : State) (ch : Bool) (w : List Nat) :
    (s.setThermWindow (b2n ch) w).thermWindow (b2n ch) = w ∧
    (s.setThermWindow (b2n ch) w).thermWindow (1 - b2n ch) = s.thermWindow (1 - b2n ch) := by cases ch <;> exact ⟨rfl, rfl⟩

/-- The parts that hold the conversions of the thermistors. -/
theorem Frame.therm {x : Hvd} (h : Frame p s t) (ht : t.hvd = x)
    (hx : x = { s.hvd with therm0 := x.therm0, therm1 := x.therm1 }) :
    t = { s.taking p t with hvd := { s.hvd with therm0 := t.hvd.therm0, therm1 := t.hvd.therm1 } } := by
  subst ht
  rw [← hx]
  exact h.withHvd rfl

theorem State.hvd_setThermWindow (s : State) (ch : Bool) (w : List Nat) :
    (s.setThermWindow (b2n ch) w).hvd = { s.hvd with
      therm0 := (s.setThermWindow (b2n ch) w).hvd.therm0, therm1 := (s.setThermWindow (b2n ch) w).hvd.therm1 } := by
  cases ch <;> rfl

theorem State.thermWindow_of_hvd (h : t.hvd = s.hvd) (ch : Nat) : t.thermWindow ch = s.thermWindow ch := by
  rw [State.thermWindow, h, State.thermWindow]

theorem State.thermConvert_early {ch : Bool} {code : Nat} (hon : s.domOn dPANEL = true)
    (hen : s.fld F.HVD_THERM_CFG_EN / 2 ^ b2n ch % 2 = 1) (hlen : ((code :: s.thermWindow (b2n ch)).take 8).length < 8) :
    (s.thermConvert (b2n ch) code).bit (thermValidFld ch) = false ∧
    (s.thermConvert (b2n ch) code).thermWindow (b2n ch) = (code :: s.thermWindow (b2n ch)).take 8 ∧
    (s.thermConvert (b2n ch) code).thermWindow (1 - b2n ch) = s.thermWindow (1 - b2n ch) ∧
    RegsBut s (s.thermConvert (b2n ch) code) [thermReg ch] ∧
    s.thermConvert (b2n ch) code = { s with
      regs := (s.thermConvert (b2n ch) code).regs, freeCtr := (s.thermConvert (b2n ch) code).freeCtr,
      hvd := { s.hvd with therm0 := (s.thermConvert (b2n ch) code).hvd.therm0,
                          therm1 := (s.thermConvert (b2n ch) code).hvd.therm1 } } := by
  obtain ⟨w, hw⟩ : ∃ w, w = (code :: s.thermWindow (b2n ch)).take 8 := ⟨_, rfl⟩
  rw [← hw] at hlen ⊢
  obtain ⟨a, ha⟩ : ∃ a, a = s.setThermWindow (b2n ch) w := ⟨_, rfl⟩
  obtain ⟨n, hn⟩ : ∃ n, n = a.draw.1.toNat := ⟨_, rfl⟩
  obtain ⟨b, hb⟩ : ∃ b, b = a.draw.2 := ⟨_, rfl⟩
  obtain ⟨t, ht⟩ : ∃ t, t = ((b.setFld (thermTempFld ch) n).setFld (thermCodeFld ch) (n / 2 ^ 12)).setFld (thermValidFld ch) 0 :=
    ⟨_, rfl⟩
  have hform : s.thermConvert (b2n ch) code = t := by
    unfold State.thermConvert
    rw [if_neg (by simp [hon, hen])]
    dsimp only
    rw [← hw, if_pos hlen, thermFlds_eq, ← ha, ← hn, ← hb, ht]
  have hbregs : b.regs = s.regs := by rw [hb, ha]; rfl
  have htregs : RegsBut b t [thermReg ch] := by rw [ht]; exact RegsBut.refl.setFld.setFld.setFld
  have htframe : Frame [.regs] b t := by rw [ht]; exact Frame.refl.setFld.setFld.setFld
  have hthvd : t.hvd = a.hvd := by rw [htframe.get State.hvd, hb]; rfl
  have hframe : Frame [.regs, .freeCtr, .hvd] s t := by
    have haframe : Frame [.regs, .freeCtr, .hvd] s a := by rw [ha]; exact Frame.refl.then (q := [.hvd]) rfl (by decide)
    rw [hb] at htframe
    exact haframe.draw.then htframe (by decide)
  obtain ⟨hsame, hother⟩ := s.thermWindow_setThermWindow ch w
  rw [hform]
  refine ⟨?_, ?_, ?_, fun k hk => (htregs k hk).trans (by rw [State.rd, hbregs, State.rd]),
    hframe.therm hthvd (by rw [ha]; exact s.hvd_setThermWindow ch w)⟩
  · rw [State.bit, ht, State.fld_setFld_same _ _ _ (by simp)]; rfl
  · rw [State.thermWindow_of_hvd hthvd, ha, hsame]
  · rw [State.thermWindow_of_hvd hthvd, ha, hother]

/-- A judgement: VALID as the limits say, and a report where it is lost. -/
theorem State.thermJudge_spec (s : State) (ch : Bool) (hlen : (s.thermWindow (b2n ch)).length = 8) :
    (s.thermJudge (b2n ch)).fld (thermTempFld ch) = s.fld (thermTempFld ch) ∧
    (s.thermJudge (b2n ch)).fld (thermCodeFld ch) = s.fld (thermCodeFld ch) ∧
    (s.thermJudge (b2n ch)).bit (thermValidFld ch) =
      (decide (s.fld F.HVD_THERM_CFG_SHORT_LIM ≤ s.fld (thermCodeFld ch)) &&
        decide (s.fld (thermCodeFld ch) ≤ s.fld F.HVD_THERM_CFG_OPEN_LIM)) ∧
    RegsButEvents (s.fld F.HVD_EVT_RING) s (s.thermJudge (b2n ch)) [thermReg ch] ∧
    Frame errorParts s (s.thermJudge (b2n ch)) ∧
    (s.bit (thermValidFld ch) = false ∨ (s.thermJudge (b2n ch)).bit (thermValidFld ch) = true →
      Frame [.regs] s (s.thermJudge (b2n ch))) := by
  obtain ⟨c, hc⟩ : ∃ c, c = s.fld (thermCodeFld ch) := ⟨_, rfl⟩
  obtain ⟨valid, hvalid⟩ : ∃ valid, valid = (decide (s.fld F.HVD_THERM_CFG_SHORT_LIM ≤ c) && decide (c ≤ s.fld F.HVD_THERM_CFG_OPEN_LIM)) :=
    ⟨_, rfl⟩
  obtain ⟨a, ha⟩ : ∃ a, a = s.setBit (thermValidFld ch) valid := ⟨_, rfl⟩
  obtain ⟨x, hx⟩ : ∃ x : Nat × State, x = if s.fld F.HVD_THERM_CFG_OPEN_LIM < c then (1, a)
      else if c < s.fld F.HVD_THERM_CFG_SHORT_LIM then (2, a) else (a.draw.1.toNat % 4, a.draw.2) := ⟨_, rfl⟩
  have hform : s.thermJudge (b2n ch) = if s.bit (thermValidFld ch) && !valid then
      (x.2.raise 0x43 3).post F.HVD_EVT_RING 0x0603 [(1, b2n ch), (2, x.1), (12, c)] else a := by
    have hv : ((s.thermWindow (b2n ch)).length = 8 && !decide (c < s.fld F.HVD_THERM_CFG_SHORT_LIM) &&
        !decide (s.fld F.HVD_THERM_CFG_OPEN_LIM < c)) = valid := by
      rw [hlen, hvalid, ← decide_not, ← decide_not, decide_eq_true rfl, Bool.true_and]
      simp only [Nat.not_lt]
    unfold State.thermJudge
    rw [thermFlds_eq]
    dsimp only
    rw [← hc, hv, ← ha]
    simp only [← hx]
  obtain ⟨y, hy⟩ : ∃ y, y = (x.2.raise 0x43 3).post F.HVD_EVT_RING 0x0603 [(1, b2n ch), (2, x.1), (12, c)] := ⟨_, rfl⟩
  rw [← hy] at hform
  have hxregs : x.2.regs = a.regs := by rw [hx]; split_ifs <;> rfl
  have haregs : RegsBut s a [thermReg ch] := by rw [ha]; exact RegsBut.refl.setBit
  have hlow : eventReg (s.fld F.HVD_EVT_RING) (thermReg ch) = false := eventReg_of_low (of_decide_eq_true (thermReg_low ch))
  have hring : x.2.fld F.HVD_EVT_RING = s.fld F.HVD_EVT_RING := by
    rw [State.fld, State.rd, hxregs, ← State.rd, ← State.fld]; exact haregs.fld (by cases ch <;> decide)
  have hyregs : RegsButEvents (s.fld F.HVD_EVT_RING) x.2 y [] := by
    rw [hy, ← hring]; exact RegsButEvents.refl.raise.post
  have hregs : RegsButEvents (s.fld F.HVD_EVT_RING) a (s.thermJudge (b2n ch)) [] := by
    rw [hform]
    exact .ite ((RegsButEvents.refl.of_regs hxregs).trans hyregs (by simp)) .refl
  have hfld {f : Fld} (hf : f.off = thermReg ch) : (s.thermJudge (b2n ch)).fld f = a.fld f :=
    hregs.fld (by simp) (by rw [hf]; exact hlow)
  have hvalid' : (s.thermJudge (b2n ch)).bit (thermValidFld ch) = valid := by
    rw [State.bit, hfld rfl, ha]
    exact State.bit_setBit_same _ _ (by simp) (by simp)
  have haframe : Frame [.regs] s a := by rw [ha]; exact Frame.refl.setBit
  have hxframe : Frame errorParts s x.2 := by
    have h : Frame errorParts s a := haframe.mono (by decide)
    rw [hx]; split_ifs <;> [exact h; exact h; exact h.draw]
  refine ⟨?_, ?_, by rw [hvalid', hvalid, hc], haregs.events.trans hregs (by simp), ?_, fun hor => ?_⟩
  · rw [hfld rfl, ha, State.setBit, State.fld_setFld_other _ _ _ _ (by simp)]
  · rw [hfld rfl, ha, State.setBit, State.fld_setFld_other _ _ _ _ (by simp)]
  · rw [hform, hy]
    exact .ite hxframe.raise.post (haframe.mono (by decide))
  · rw [hvalid'] at hor
    have hno : ¬(s.bit (thermValidFld ch) && !valid) = true := by obtain h | h := hor <;> simp [h]
    rw [hform, if_neg hno]
    exact haframe

theorem State.thermConvert_full {ch : Bool} {code c : Nat} (hon : s.domOn dPANEL = true)
    (hen : s.fld F.HVD_THERM_CFG_EN / 2 ^ b2n ch % 2 = 1) (hlen : ((code :: s.thermWindow (b2n ch)).take 8).length = 8)
    (hc : c = ((code :: s.thermWindow (b2n ch)).take 8).foldl (· + ·) 0 / 8) (hc12 : c < 4096) :
    (s.thermConvert (b2n ch) code).fld (thermCodeFld ch) = c ∧
    (s.thermConvert (b2n ch) code).fld (thermTempFld ch) = wrapInt 12 (s.thermTemp (b2n ch) c) ∧
    (s.thermConvert (b2n ch) code).bit (thermValidFld ch) =
      (decide (s.fld F.HVD_THERM_CFG_SHORT_LIM ≤ c) && decide (c ≤ s.fld F.HVD_THERM_CFG_OPEN_LIM)) ∧
    (s.thermConvert (b2n ch) code).thermWindow (b2n ch) = (code :: s.thermWindow (b2n ch)).take 8 ∧
    (s.thermConvert (b2n ch) code).thermWindow (1 - b2n ch) = s.thermWindow (1 - b2n ch) ∧
    RegsButEvents (s.fld F.HVD_EVT_RING) s (s.thermConvert (b2n ch) code) [thermReg ch] ∧
    s.thermConvert (b2n ch) code = { s with
      regs := (s.thermConvert (b2n ch) code).regs, freeCtr := (s.thermConvert (b2n ch) code).freeCtr,
      rings := (s.thermConvert (b2n ch) code).rings, sent := (s.thermConvert (b2n ch) code).sent,
      pcie := (s.thermConvert (b2n ch) code).pcie, summaryOwed := (s.thermConvert (b2n ch) code).summaryOwed,
      hvd := { s.hvd with therm0 := (s.thermConvert (b2n ch) code).hvd.therm0,
                          therm1 := (s.thermConvert (b2n ch) code).hvd.therm1 } } ∧
    (s.bit (thermValidFld ch) = false ∨ (s.thermConvert (b2n ch) code).bit (thermValidFld ch) = true →
      (s.thermConvert (b2n ch) code).sent = s.sent ∧ (s.thermConvert (b2n ch) code).rings = s.rings ∧
      (s.thermConvert (b2n ch) code).freeCtr = s.freeCtr) := by
  obtain ⟨w, hw⟩ : ∃ w, w = (code :: s.thermWindow (b2n ch)).take 8 := ⟨_, rfl⟩
  rw [← hw] at hlen hc ⊢
  obtain ⟨a, ha⟩ : ∃ a, a = s.setThermWindow (b2n ch) w := ⟨_, rfl⟩
  have haregs : a.regs = s.regs := by rw [ha]; rfl
  have hafld (f : Fld) : a.fld f = s.fld f := by rw [State.fld, State.rd, haregs, State.fld, State.rd]
  have htemp : a.thermTemp (b2n ch) c = s.thermTemp (b2n ch) c := by
    simp only [State.thermTemp, State.thermNode, State.rd, haregs]
  obtain ⟨b, hb⟩ : ∃ b, b = a.setFld (thermTempFld ch) (wrapInt 12 (s.thermTemp (b2n ch) c)) := ⟨_, rfl⟩
  obtain ⟨d, hd⟩ : ∃ d, d = b.setFld (thermCodeFld ch) c := ⟨_, rfl⟩
  obtain ⟨t, ht⟩ : ∃ t, t = d.thermJudge (b2n ch) := ⟨_, rfl⟩
  have hform : s.thermConvert (b2n ch) code = t := by
    unfold State.thermConvert
    rw [if_neg (by simp [hon, hen])]
    dsimp only
    rw [← hw, if_neg (by omega), thermFlds_eq, ← ha, ← hc, htemp]
    dsimp only
    rw [← hb, ← hd, ht]
  have hdregs : RegsBut a d [thermReg ch] := by rw [hd, hb]; exact RegsBut.refl.setFld.setFld
  have hdregs' : RegsBut s d [thermReg ch] := fun k hk => (hdregs k hk).trans (by rw [State.rd, haregs, State.rd])
  have hdframe : Frame [.regs] a d := by rw [hd, hb]; exact Frame.refl.setFld.setFld
  have hdhvd : d.hvd = a.hvd := hdframe.get State.hvd
  have hcode : d.fld (thermCodeFld ch) = c := by
    rw [hd, State.fld_setFld_same _ _ _ (by simp)]; exact Nat.mod_eq_of_lt hc12
  have hdtemp : d.fld (thermTempFld ch) = wrapInt 12 (s.thermTemp (b2n ch) c) := by
    rw [hd, State.fld_setFld_other _ _ _ _ (by simp), hb, State.fld_setFld_same _ _ _ (by simp)]
    refine Nat.mod_eq_of_lt ?_
    have : (0 : Int) < (2 ^ 12 : Nat) := by decide
    have := Int.emod_lt_of_pos (s.thermTemp (b2n ch) c) this
    have := Int.emod_nonneg (s.thermTemp (b2n ch) c) (b := (2 ^ 12 : Nat)) (by decide)
    simp only [wrapInt]; omega
  have hcfg {f : Fld} (hf : f.off ≠ thermReg ch) : d.fld f = s.fld f := hdregs'.fld (by simpa using hf)
  have hdvalid : d.bit (thermValidFld ch) = s.bit (thermValidFld ch) := by
    rw [State.bit, hd, State.fld_setFld_other _ _ _ _ (by simp), hb, State.fld_setFld_other _ _ _ _ (by simp), hafld, ← State.bit]
  obtain ⟨hsame, hother⟩ := s.thermWindow_setThermWindow ch w
  have hdlen : (d.thermWindow (b2n ch)).length = 8 := by rw [State.thermWindow_of_hvd hdhvd, ha, hsame, hlen]
  obtain ⟨hjtemp, hjcode, hjvalid, hjregs, hjframe, hjquiet⟩ := d.thermJudge_spec ch hdlen
  rw [← ht] at hjtemp hjcode hjvalid hjregs hjframe hjquiet
  have hthvd : t.hvd = a.hvd := (hjframe.get State.hvd).trans hdhvd
  have hne : F.HVD_EVT_RING.off ≠ thermReg ch := by cases ch <;> decide
  rw [hform]
  refine ⟨hjcode.trans hcode, hjtemp.trans hdtemp, ?_, ?_, ?_, ?_, ?_, fun hor => ?_⟩
  · rw [hjvalid, hcode, hcfg (by cases ch <;> decide), hcfg (by cases ch <;> decide)]
  · rw [State.thermWindow_of_hvd hthvd, ha, hsame]
  · rw [State.thermWindow_of_hvd hthvd, ha, hother]
  · rw [hcfg hne] at hjregs
    exact hdregs'.events.trans hjregs fun _ h => h
  · have hframe : Frame [.regs, .freeCtr, .rings, .sent, .pcie, .summaryOwed, .hvd] s t := by
      have haframe : Frame [.regs, .freeCtr, .rings, .sent, .pcie, .summaryOwed, .hvd] s a := by
        rw [ha]; exact Frame.refl.then (q := [.hvd]) rfl (by decide)
      exact (haframe.then hdframe (by decide)).then hjframe (by decide)
    exact hframe.therm hthvd (by rw [ha]; exact s.hvd_setThermWindow ch w)
  · rw [← hdvalid] at hor
    have hquiet : Frame [.regs] a t := hdframe.trans (hjquiet hor)
    rw [hquiet.get State.sent, hquiet.get State.rings, hquiet.get State.freeCtr, ha]
    exact ⟨rfl, rfl, rfl⟩

end

/-- Settles O41: PFW# low and high, a rail that is lost, and the conversions before the eighth and from it on. -/
theorem panelInputsAct : Obligations.PanelInputsAct := by
  refine ⟨fun s => ⟨fun hruns hlow => ?again, fun hruns hhigh => ?falls, fun hruns => ?rises, fun hno => ⟨?coldLow, ?coldHigh⟩⟩,
    fun s r mv => ⟨fun h => ?noRail, fun h => ?rail⟩, fun s ch code w c hw hc => ⟨fun h => ?off, fun hon hen hlen => ?early,
      fun hon hen hlen hc12 => ?full⟩⟩
  case again =>
    refine congrArg Host.Outcome.next ?_
    rw [if_neg (by simpa [State.runs] using hruns), if_pos hlow]
  case falls =>
    obtain ⟨v, hv⟩ : ∃ v, v = s.each s.pstore.buf fun x _ => x.pstoreStep := ⟨_, rfl⟩
    obtain ⟨-, hbuf, hregs, -⟩ := s.pstoreSteps_spec s.pstore.buf
    rw [← hv] at hbuf hregs
    have hvon : v.domOn = s.domOn := hregs.domOn
    obtain ⟨hpfw, hstate, hcount, hshown, hhvd, hframe⟩ := v.pfwShown_spec
    have hform : s.pfwFall = (v.pfwPanel.labelPfw).abandonAll fun m => m.act == 3 := by rw [hv]; rfl
    refine ⟨v, if s.domOn dPANEL then v.pfwShown else v.pfwSeen, hv, by rw [hbuf, List.drop_length],
      congrArg Host.Outcome.next ?_, fun hoff => ?_, fun hon => ?_⟩
    · rw [if_neg (by simpa [State.runs] using hruns), if_neg (by simp [hhigh]), State.flow_of_runs hruns, hform, v.pfwPanel_eq, hvon]
      cases s.domOn dPANEL <;> rfl
    · rw [hoff]; rfl
    · rw [hon, if_pos rfl]
      exact ⟨hpfw, hstate, hcount, hshown, hframe.withHvd hhvd⟩
  case rises =>
    obtain ⟨hpanel, hlabel, hkeptPanel, hkeptLabel, hregs, hform⟩ := s.pfwHigh_spec
    refine ⟨s.pfwHigh, congrArg Host.Outcome.next ?_, hpanel, hlabel, hkeptPanel, hkeptLabel, hregs, hform⟩
    rw [if_neg (by simpa [State.runs] using hruns), State.flow_of_runs hruns]
  case coldLow => exact congrArg Host.Outcome.next (if_pos (by simpa [State.runs] using hno))
  case coldHigh => exact congrArg Host.Outcome.next (if_pos (by simpa [State.runs] using hno))
  case noRail => exact congrArg Host.Outcome.next (if_pos h)
  case rail =>
    obtain ⟨p, hp⟩ : ∃ p, p = s.railReport r.toNat mv.toNat := ⟨_, rfl⟩
    obtain ⟨hbits, hkept, hstate, -, hregs, hmv, hothers, hform⟩ := s.railReport_spec (mv := mv.toNat) h
    rw [← hp] at hbits hkept hstate hregs hmv hothers hform
    have hexec : s.railLoss r.toNat mv.toNat = if (s.domOn dPANEL && s.railOk r.toNat) && !p.railOk r.toNat &&
        (p.panelState == pUP || p.panelState == pON) then (p.railFail r.toNat 2 0 0).panelDown cauRAILLOSS true else p := by
      rw [State.railLoss, if_neg (by omega), hp]
    rw [hstate] at hexec
    refine ⟨p, hregs, fun hon => ⟨(hbits hon).1, (hbits hon).2, hstate⟩, hkept, hmv, hothers, hform, fun hno =>
      congrArg Host.Outcome.next (hexec.trans (if_neg ?_)), fun hon hwas hlost hst => ?_⟩
    · obtain h | h | h | ⟨h1, h2⟩ := hno
      · simp [h]
      · simp [h]
      · simp [h]
      · simp [h1, h2]
    · obtain ⟨hcount, hfail, -, hsame⟩ := p.railFail_spec r.toNat 2 0 0
      have hring : p.fld F.HVD_EVT_RING = s.fld F.HVD_EVT_RING := hregs.fld (by decide)
      refine ⟨p.railFail r.toNat 2 0 0, congrArg Host.Outcome.next (hexec.trans (if_pos ?_)), ?_, hring ▸ hfail, hsame (by decide)⟩
      · simpa [hon, hwas, hlost] using hst
      · rw [hcount, hregs.fld (by decide)]
  case off =>
    refine congrArg Host.Outcome.next (if_pos ?_)
    obtain h | h := h <;> simp [h]
  case early =>
    subst hw
    obtain ⟨hvalid, hsame, hother, hregs, hform⟩ := State.thermConvert_early hon hen hlen
    rw [thermFlds_eq]
    exact ⟨s.thermConvert (b2n ch) code.toNat, rfl, hvalid, hsame, hother, hregs, hform⟩
  case full =>
    subst hw
    have h := State.thermConvert_full hon hen hlen hc hc12
    rw [thermFlds_eq]
    exact ⟨s.thermConvert (b2n ch) code.toNat, rfl, h⟩

end Sys2Proof.Machine

/-! ### LABEL descriptors (R47, R48, R56, R58, R64, R283) -/

namespace Sys2Proof.Machine

-- A proof that fills in an argument by its default tactic waits for all that stands before it: checked in order, none waits.
set_option Elab.async false

section
variable {s t : State} {n : Nat} {c : Cage} {p : List Part}

/-! #### Refusals -/

/-- A refusal as it is recorded, where LABEL is ON. -/
def State.refusalShown (s : State) (x : LabelUpd) (reason : Nat) : State :=
  if !s.domOn dLABEL then s
  else
    let s := s.bump (F.LABEL_PANEL_REFUSED_COUNT x.panel)
    (((s.setFld F.LABEL_LAST_REFUSE_REASON reason).setFld F.LABEL_LAST_REFUSE_PANEL x.panel).setFld
      F.LABEL_LAST_REFUSE_QUEUE x.queue).raise 0x44 0

theorem State.labelRefused_eq (s : State) (x : LabelUpd) (reason : Nat) : s.labelRefused n c x reason =
    ((s.refusalShown x reason).post F.LABEL_EVT_RING 0x0702
      [(3, x.panel), (4, reason), (13, x.queue), (16, x.tag), (16, (s.refusalShown x reason).qHead x.queue)]).finish n c stREFUSED
      c.desc.len.toNat := rfl

theorem State.refusalShown_spec (s : State) {x : LabelUpd} {reason : Nat} (hr : reason < 16) (hx : x.panel < 8) :
    (s.domOn dLABEL = true →
      (s.refusalShown x reason).fld F.LABEL_LAST_REFUSE_REASON = reason ∧
      (s.refusalShown x reason).fld F.LABEL_LAST_REFUSE_PANEL = x.panel ∧
      (s.refusalShown x reason).fld F.LABEL_LAST_REFUSE_QUEUE = x.queue % 2 ^ 13 ∧
      (s.refusalShown x reason).fld (F.LABEL_PANEL_REFUSED_COUNT x.panel) =
        min (s.fld (F.LABEL_PANEL_REFUSED_COUNT x.panel) + 1) (2 ^ 32 - 1)) ∧
    RegsBut s (s.refusalShown x reason) [R.LABEL_LAST_REFUSE, R.LABEL_PANEL_REFUSED x.panel, 0x4400C, R.PCIEX_LINK_STATUS] ∧
    Frame [.regs, .sent, .pcie, .summaryOwed] s (s.refusalShown x reason) := by
  obtain ⟨a, ha⟩ : ∃ a, a = s.bump (F.LABEL_PANEL_REFUSED_COUNT x.panel) := ⟨_, rfl⟩
  obtain ⟨b, hb⟩ : ∃ b, b = ((a.setFld F.LABEL_LAST_REFUSE_REASON reason).setFld F.LABEL_LAST_REFUSE_PANEL x.panel).setFld
    F.LABEL_LAST_REFUSE_QUEUE x.queue := ⟨_, rfl⟩
  obtain ⟨d, hd⟩ : ∃ d, d = b.raise 0x44 0 := ⟨_, rfl⟩
  have hform : s.refusalShown x reason = if !s.domOn dLABEL then s else d := by rw [hd, hb, ha]; rfl
  have haregs : RegsBut s a [R.LABEL_PANEL_REFUSED x.panel] := by rw [ha]; exact RegsBut.refl.bump
  have hbregs : RegsBut a b [R.LABEL_LAST_REFUSE] := by rw [hb]; exact RegsBut.refl.setFld.setFld.setFld
  have hdregs : RegsBut b d [0x4400C] := by rw [hd]; exact RegsBut.refl.raise
  have hlast {f : Fld} (hf : f.off = R.LABEL_LAST_REFUSE) : d.fld f = b.fld f := hdregs.fld (by rw [hf]; decide)
  have hframe : Frame [.regs, .sent, .pcie, .summaryOwed] s d := by
    rw [hd, hb, ha]; exact Frame.refl.bump.setFld.setFld.setFld.raise
  rw [hform]
  refine ⟨fun hon => ?_, ?_, .ite .refl hframe⟩
  · rw [if_neg (by simp [hon])]
    refine ⟨?_, ?_, ?_, ?_⟩
    · rw [hlast rfl, hb, State.fld_setFld_other _ _ _ _ (by decide), State.fld_setFld_other _ _ _ _ (by decide),
        State.fld_setFld_same _ _ _ (by decide)]
      exact Nat.mod_eq_of_lt hr
    · rw [hlast rfl, hb, State.fld_setFld_other _ _ _ _ (by decide), State.fld_setFld_same _ _ _ (by decide)]
      exact Nat.mod_eq_of_lt hx
    · rw [hlast rfl, hb, State.fld_setFld_same _ _ _ (by decide)]
    · rw [hdregs.fld (by simp; omega), hbregs.fld (by simp only [List.mem_singleton, R.LABEL_LAST_REFUSE]; omega), ha,
        State.fld_bump_same _ _ _ (by simp)]
  · refine .ite .refl fun k hk => ?_
    simp only [List.mem_cons, List.not_mem_nil, or_false, not_or] at hk
    obtain ⟨h1, h2, h3, -⟩ := hk
    rw [hdregs k (by simpa using h3), hbregs k (by simpa using h1), haregs k (by simpa using h2)]

/-! #### Submission -/

theorem State.labelOf_panel_lt (s : State) (c : Cage) : (s.labelOf c).panel < 8 := bitsOf_lt c.desc.param 0 3

theorem State.labelReason_lt (s : State) (c : Cage) (x : LabelUpd) : s.labelReason c x < 16 := by
  unfold State.labelReason
  split_ifs <;> decide

/-- A descriptor that joins LANDING of its panel. -/
def State.joined (s : State) (n : Nat) (x : LabelUpd) : State :=
  { s with label := { s.label with landing :=
    if (s.label.landing.any fun e => e.2 == n) then s.label.landing else s.label.landing ++ [(x.panel, n)] } }

/-- The update is the first ever to land: it fills CURRENT. -/
def State.filled (s : State) : State :=
  if s.label.stale then { s with label := { s.label with stale := false, cur := [], fill := s.fld F.LABEL_CTRL_CLEAR_ROW } } else s

theorem State.landTry_refused {r : Nat} (hr : r = s.labelReason c (s.labelOf c)) (h : r ≠ 0) :
    s.landTry n c = (s.unland n).labelRefused n c (s.labelOf c) r := by
  subst hr
  exact if_pos (by simpa using h)

theorem State.landTry_accepted {x : LabelUpd} (hx : x = s.labelOf c) (hr : s.labelReason c x = 0) {w : State} (hw : w = s.joined n x) :
    s.landTry n c = if !w.landsNow n then w.setCage n { c with phase := .landing, left := x.bytes }
      else if !c.desc.srcHost && s.srcProtected c.src x.bytes then
        w.filled.landFail n { c with phase := .landing, left := x.bytes, unit := some [] } stPROTECTED
      else w.filled.landBurst n { c with phase := .landing, left := x.bytes, unit := some [] } := by
  have hjoin : (if s.label.landing.any fun e => e.2 == n then s
      else { s with label := { s.label with landing := s.label.landing ++ [(x.panel, n)] } }) = w := by
    rw [hw, State.joined]
    split <;> rfl
  have hprot (b : Nat) : w.filled.srcProtected c.src b = s.srcProtected c.src b := by
    have hsurf : w.filled.surf = s.surf := by rw [hw, State.filled]; split <;> rfl
    unfold State.srcProtected State.entry
    rw [hsurf]
  unfold State.landTry
  rw [← hx]
  dsimp only
  rw [hr, if_neg (by decide), hjoin]
  rw [← hprot]
  rfl

/-! #### Bursts -/

/-- A burst of a LABEL that ends in its turn. -/
theorem exec_landBurstDone {s : State} {n : BitVec 5} {c : Cage} (hc : s.cage? n.toNat = some c) (hp : c.phase = .landing)
    (hm : s.moves n.toNat c = true) (ht : s.burstTurn n.toNat c = true) (res : ReadRes) (lost waits : Nat) :
    exec (.hoistBurstDone n res ⟨lost, waits⟩) s = .next ((s.burstEnd n.toNat c lost waits).landBurstDone n.toNat c res) := by
  refine congrArg Host.Outcome.next ?_
  simp only [hc, hm, ht, hp, Bool.not_true, Bool.or_self, Bool.false_eq_true, reduceIte, reduceCtorEq]

theorem State.moves_landing (hp : c.phase = .landing) (hm : s.moves n c = true) : c.left ≠ 0 ∧ s.landsNow n = true := by
  rw [State.moves, hp] at hm
  simpa using hm

/-- What follows a burst that moved its bytes. -/
def State.landMoved (s : State) (n : Nat) (c : Cage) : State :=
  if c.left = 0 then s.setCage n c else if c.aborts.isEmpty then s.landBurst n c else s.landFail n c stABORTED

section
variable (hl : s.landsNow n = true) (h0 : c.left ≠ 0)
include hl h0

theorem State.landBurstDone_invalid {res : ReadRes} (h : s.burstSrc c = .invalid) :
    s.landBurstDone n c res = (s.landFail n c stADDRFAULT).landNext := by
  rw [State.landBurstDone, if_neg (by simp [hl, h0])]
  simp only [h]

theorem State.landBurstDone_failed {res : ReadRes} {a : Nat} (h : s.burstSrc c = .host a) (hres : ∀ bs, res ≠ .data bs) :
    s.landBurstDone n c res = ((s.noteRead res).landFail n c stPCIEERROR).landNext := by
  rw [State.landBurstDone, if_neg (by simp [hl, h0])]
  cases res with
  | data bs => exact absurd rfl (hres bs)
  | _ => simp only [h]

theorem State.landBurstDone_moved {res : ReadRes} {bs : List Byte} {d : Cage}
    (h : (∃ a p, s.burstSrc c = .dram a p ∧ bs = s.dramRead a (landLen c)) ∨
      ∃ a ws, s.burstSrc c = .host a ∧ res = .data ws ∧ bs = fitBytes (landLen c) ws)
    (hd : d = { c with landed := c.landed ++ bs, src := c.src + landLen c, left := c.left - landLen c }) :
    s.landBurstDone n c res = ((s.countBytes (landLen c)).landMoved n d).landNext := by
  have hmoved (u : State) : (if d.left = 0 then u.setCage n d else if !d.aborts.isEmpty then u.landFail n d stABORTED
      else u.landBurst n d) = u.landMoved n d := by
    rw [State.landMoved]
    cases d.aborts.isEmpty <;> rfl
  rw [← hmoved, State.landBurstDone, if_neg (by simp [hl, h0]), hd]
  obtain ⟨a, p, h, rfl⟩ | ⟨a, ws, h, rfl, rfl⟩ := h
  · simp only [h]
  · simp only [h]

end

/-- What the end of a burst leaves for the burst to read. -/
theorem State.burstEnd_reads (s : State) (n : Nat) (c : Cage) (lost waits : Nat) :
    (s.burstEnd n c lost waits).burstSrc c = s.burstSrc c ∧ (s.burstEnd n c lost waits).dramRead = s.dramRead ∧
    (s.burstEnd n c lost waits).landsNow n = s.landsNow n := by
  obtain ⟨-, -, -, -, r, hform⟩ := s.burstEnd_spec (n := n) (c := c) lost waits
  rw [hform]
  exact ⟨rfl, rfl, rfl⟩

end

/-! #### Rows that have landed -/

section
variable {α β : Type} [DecidableEq β] {d : Nat → β} {f : α → Nat} {g : α → β}

theorem SMap.get_foldl_set_other {xs : List α} {k : Nat} (h : ∀ x ∈ xs, k ≠ f x) (m : SMap β) :
    SMap.get d (xs.foldl (fun m x => SMap.set d m (f x) (g x)) m) k = SMap.get d m k := by
  induction xs generalizing m with
  | nil => rfl
  | cons x xs ih =>
    rw [List.foldl_cons, ih fun y hy => h y (List.mem_cons_of_mem _ hy),
      SMap.get_set_other _ _ _ (h x (List.mem_cons_self ..)).symm]

/-- A key that is set, and to one value only, holds that value. -/
theorem SMap.get_foldl_set_same {xs : List α} {k : Nat} {v : β} (h : ∀ x ∈ xs, f x = k → g x = v) {m : SMap β}
    (hk : (∃ x ∈ xs, f x = k) ∨ SMap.get d m k = v) :
    SMap.get d (xs.foldl (fun m x => SMap.set d m (f x) (g x)) m) k = v := by
  induction xs generalizing m with
  | nil => simpa using hk
  | cons y ys ih =>
    refine ih (fun x hx => h x (List.mem_cons_of_mem _ hx)) ?_
    by_cases hy : f y = k
    · refine .inr ?_
      rw [← hy, SMap.get_set_same]
      exact h y (List.mem_cons_self ..) hy
    · rw [SMap.get_set_other _ _ _ hy]
      exact hk.imp_left fun ⟨x, hx, hxk⟩ =>
        ⟨x, (List.mem_cons.mp hx).resolve_left (fun hxy => hy (hxy ▸ hxk)), hxk⟩

end

section
variable {s t : State} {n : Nat} {c : Cage}

theorem State.landNext_of_none (h : ∀ e c, e ∈ s.label.landing → s.cage? e.2 = some c →
    s.landsNow e.2 = false ∨ c.phase ≠ .landing ∨ c.unit ≠ none) : s.landNext = s := by
  have hnone : (s.label.landing.find? fun e =>
      s.landsNow e.2 && match s.cage? e.2 with | some c => c.phase == .landing && c.unit.isNone | none => false) = none := by
    rw [List.find?_eq_none]
    intro e he
    cases hc : s.cage? e.2 with
    | none => simp
    | some c =>
      obtain h | h | h := h e c he hc
      · simp [h]
      · simp [h]
      · simp [h]
  show landGo (31 + 1) s = s
  rw [landGo]
  split
  · rfl
  · next e he => exact absurd (hnone.symm.trans he) (by simp)

/-- A descriptor's rows as they have landed: in REQUEST, the update pending. -/
def State.requested (s : State) (n : Nat) (c : Cage) (x : LabelUpd) : State :=
  ({ s with label := { s.label with
      req := x.pixels.foldl (fun (m : SMap Nat) (p : Nat × Nat) =>
        SMap.set (fun _ => 0) m (lblKey x.panel p.2 p.1) (landedPixel c.landed x.w (p.1 - x.x) (p.2 - x.y))) s.label.req,
      pend := s.label.pend ++ [x] } } : State).unland n

theorem LabelUpd.mem_pixels {x : LabelUpd} {p : Nat × Nat} :
    p ∈ x.pixels ↔ ∃ i j, i < x.w ∧ j < x.h ∧ p = (x.x + i, x.y + j) := by
  simp only [LabelUpd.pixels, List.mem_flatMap, List.mem_map, List.mem_range]
  constructor
  · rintro ⟨j, hj, i, hi, rfl⟩
    exact ⟨i, j, hi, hj, rfl⟩
  · rintro ⟨i, j, hi, hj, rfl⟩
    exact ⟨j, hj, i, hi, rfl⟩

/-- Pixels of a panel have keys of their own. -/
theorem lblKey_inj {p x y x' y' : Nat} (hx : x < 2048) (hx' : x' < 2048) (h : lblKey p y x = lblKey p y' x') : y = y' ∧ x = x' := by
  unfold lblKey at h
  omega

theorem State.requested_pixel {x : LabelUpd} (hw : x.x + x.w ≤ 2048) {i j : Nat} (hi : i < x.w) (hj : j < x.h) :
    SMap.get (fun _ => 0) (s.requested n c x).label.req (lblKey x.panel (x.y + j) (x.x + i)) = landedPixel c.landed x.w i j := by
  refine SMap.get_foldl_set_same (f := fun p : Nat × Nat => lblKey x.panel p.2 p.1) ?_
    (.inl ⟨(x.x + i, x.y + j), LabelUpd.mem_pixels.mpr ⟨i, j, hi, hj, rfl⟩, rfl⟩)
  intro p hp hk
  obtain ⟨i', j', hi', -, rfl⟩ := LabelUpd.mem_pixels.mp hp
  obtain ⟨hy, hx⟩ := lblKey_inj (by omega) (by omega) hk
  rw [hy, hx, Nat.add_sub_cancel_left, Nat.add_sub_cancel_left]

theorem State.requested_other {x : LabelUpd} {k : Nat} (hk : ∀ i j, i < x.w → j < x.h → k ≠ lblKey x.panel (x.y + j) (x.x + i)) :
    SMap.get (fun _ => 0) (s.requested n c x).label.req k = SMap.get (fun _ => 0) s.label.req k := by
  refine SMap.get_foldl_set_other (f := fun p : Nat × Nat => lblKey x.panel p.2 p.1) ?_ _
  intro p hp
  obtain ⟨i, j, hi, hj, rfl⟩ := LabelUpd.mem_pixels.mp hp
  exact hk i j hi hj

theorem exec_labelLanded_none {n : BitVec 5}
    (h : ∀ c, s.cage? n.toNat = some c → c.phase ≠ .landing ∨ c.left ≠ 0 ∨ s.landsNow n.toNat = false) :
    exec (.labelLanded n) s = .next s := by
  refine congrArg Host.Outcome.next ?_
  cases hc : s.cage? n.toNat with
  | none => rfl
  | some c =>
    refine if_neg ?_
    obtain h | h | h := h c hc <;> simp [h]

theorem exec_labelLanded {n : BitVec 5} (hc : s.cage? n.toNat = some c) (hp : c.phase = .landing) (h0 : c.left = 0)
    (hl : s.landsNow n.toNat = true) : exec (.labelLanded n) s =
      .next ((s.requested n.toNat c (s.labelOf c)).finish n.toNat c stOK (c.desc.len.toNat - (s.labelOf c).bytes)).landNext := by
  refine congrArg Host.Outcome.next ?_
  simp only [hc, hp, h0, hl, decide_true, Bool.and_self, reduceIte]
  rfl

/-! #### The descriptor -/

theorem exec_descLabel {n : BitVec 5} (hc : s.cage? n.toNat = some c) (hp : c.phase = .start) (hty : c.desc.ty = 5) :
    exec (.descLabel n) s = .next (s.descLabel n.toNat c) :=
  congrArg Host.Outcome.next (State.onStart_eq hc hp hty _)

theorem State.descLabel_rect (hd : c.desc.dstHost = false) {x : LabelUpd} (hx : x = s.labelOf c) (hw : x.w ≠ 0) (hh : x.h ≠ 0) :
    s.descLabel n c = (s.landTry n c).landNext := by
  subst hx
  rw [State.descLabel, hd, if_neg (by decide), if_neg (by simp [hw, hh])]

end

/-- Settles O44: the submission of a LABEL, its bursts, their ends, the next one for LANDING, and rows that have landed. -/
theorem labelsAreSubmitted : Obligations.LabelsAreSubmitted := by
  unfold Obligations.LabelsAreSubmitted
  refine ⟨?submitted, ?burst, fun s n c st => rfl, fun s h => State.landNext_of_none h, ?landed⟩
  case submitted =>
    intro s n c x r hc hp hty hx hr
    rw [exec_descLabel hc hp hty]
    refine ⟨fun hd => ?_, fun hd hrect => ?_, fun hd hw hh hr0 => ?_, fun w hd hw hh hr0 hwj => ?_⟩
    · exact congrArg Host.Outcome.next (if_pos hd)
    · rw [hx] at hrect
      rw [State.descLabel, hd, if_neg (by decide), if_pos (by simpa using hrect)]
    · rw [State.descLabel_rect hd hx hw hh, State.landTry_refused (hx ▸ hr) hr0, ← hx, State.labelRefused_eq]
      obtain ⟨u, hu⟩ : ∃ u, u = (s.unland n.toNat).refusalShown x r := ⟨_, rfl⟩
      obtain ⟨hshown, hregs, hframe⟩ := (s.unland n.toNat).refusalShown_spec (hr ▸ s.labelReason_lt c x) (hx ▸ s.labelOf_panel_lt c)
      rw [← hu] at hshown hregs hframe ⊢
      refine ⟨u, rfl, fun hoff => ?_, hshown, hregs, hframe⟩
      have hkept : u = s.unland n.toNat := by
        rw [hu]
        exact if_pos (by rw [show (s.unland n.toNat).domOn dLABEL = s.domOn dLABEL from rfl, hoff, Bool.not_false])
      rw [hkept]
      exact ⟨rfl, rfl, rfl, rfl⟩
    · rw [State.descLabel_rect hd hx hw hh, State.landTry_accepted hx (hr ▸ hr0) hwj]
      refine ⟨fun hl => ?_, fun hl d v hdef hv => ?_⟩
      · rw [hl]
        rfl
      · rw [hl, hdef, hv, hwj]
        rfl
  case burst =>
    intro s n c res lost waits k hc hp hm ht hk
    obtain ⟨h0, hl⟩ := State.moves_landing hp hm
    obtain ⟨e, he⟩ : ∃ e, e = s.burstEnd n.toNat c lost waits := ⟨_, rfl⟩
    obtain ⟨hsrc, hread, hlands⟩ := s.burstEnd_reads n.toNat c lost waits
    obtain ⟨-, -, -, hregs, r, hform⟩ := s.burstEnd_spec (n := n.toNat) (c := c) lost waits
    rw [exec_landBurstDone hc hp hm ht, ← he]
    rw [← he] at hsrc hread hlands hregs hform
    refine ⟨e, rfl, hregs, by rw [hform], fun hinv => ?_, fun a ha hres => ?_, fun bs d x hbs hd hx => ?_⟩
    · rw [State.landBurstDone_invalid (hlands.trans hl) h0 (hsrc.trans hinv)]
    · rw [State.landBurstDone_failed (hlands.trans hl) h0 (hsrc.trans ha) hres]
    · subst hk
      rw [State.landBurstDone_moved (hlands.trans hl) h0 (by rw [hsrc, hread]; exact hbs) hd, hx]
      rfl
  case landed =>
    intro s n
    refine ⟨exec_labelLanded_none, fun c x hc hp h0 hl hx => ?_⟩
    rw [exec_labelLanded hc hp h0 hl, ← hx]
    refine ⟨_, rfl, rfl, rfl, fun hw i j hi hj => State.requested_pixel hw hi hj, fun k hk => State.requested_other hk,
      State.cage?_setCage_same _, fun m hm => State.cage?_setCage_other _ hm, rfl⟩

end Sys2Proof.Machine

/-! ### The arbiter's registers (R342, R343, R347) -/

namespace Sys2Proof.Machine

-- A proof that fills in an argument by its default tactic waits for all that stands before it: checked in order, none waits.
set_option Elab.async false

/-! #### Numbers made of digits -/

/-- A number made of digits of base `b`, the lowest first. -/
theorem digits_foldl {b : Nat} {f : Nat → Nat} (n : Nat) (hf : ∀ i, i < n → f i < b) :
    (List.range n).foldl (fun t i => t + f i * b ^ i) 0 < b ^ n ∧
    ∀ i, i < n → (List.range n).foldl (fun t i => t + f i * b ^ i) 0 / b ^ i % b = f i := by
  induction n with
  | zero => exact ⟨by simp, fun i hi => absurd hi (Nat.not_lt_zero i)⟩
  | succ n ih =>
    obtain ⟨hlt, hdig⟩ := ih fun i hi => hf i (Nat.lt_succ_of_lt hi)
    rw [List.range_succ, List.foldl_append, List.foldl_cons, List.foldl_nil]
    obtain ⟨m, hm⟩ : ∃ m, m = (List.range n).foldl (fun t i => t + f i * b ^ i) 0 := ⟨_, rfl⟩
    rw [← hm] at hlt hdig ⊢
    have hfn := hf n (Nat.lt_succ_self n)
    have hpos : 0 < b ^ n := Nat.pos_of_ne_zero fun h => by omega
    refine ⟨?_, fun i hi => ?_⟩
    · calc m + f n * b ^ n < (f n + 1) * b ^ n := by rw [Nat.add_mul]; omega
        _ ≤ b * b ^ n := Nat.mul_le_mul_right _ hfn
        _ = b ^ (n + 1) := by rw [pow_succ, Nat.mul_comm]
    · obtain hin | rfl := Nat.lt_succ_iff_lt_or_eq.mp hi
      · have hsplit : f n * b ^ n = b ^ i * (b * (f n * b ^ (n - i - 1))) := by
          rw [show n = i + 1 + (n - i - 1) by omega, pow_add, pow_succ]
          rw [show i + 1 + (n - i - 1) - i - 1 = n - i - 1 by omega]
          ring
        have hbi : 0 < b ^ i := Nat.pow_pos (by omega)
        rw [hsplit, Nat.add_mul_div_left _ _ hbi, Nat.add_mul_mod_self_left]
        exact hdig i hin
      · rw [Nat.add_mul_div_right _ _ hpos, Nat.div_eq_of_lt hlt, Nat.zero_add, Nat.mod_eq_of_lt hfn]

/-- The sum of the powers of two of distinct exponents has the bits of those exponents. -/
theorem testBit_foldl_two_pow {l : List Nat} (h : l.Nodup) (k : Nat) :
    (l.foldl (fun t k => t + 2 ^ k) 0).testBit k = l.contains k := by
  have hsum : l.foldl (fun t k => t + 2 ^ k) 0 = ∑ i ∈ l.toFinset, 2 ^ i := by
    rw [List.sum_toFinset _ h, List.sum_eq_foldl, List.foldl_map]
  rw [Bool.eq_iff_iff, hsum, ← Nat.mem_bitIndices, ← List.mem_toFinset, Finset.toFinset_bitIndices_sum_two_pow]
  simp

section
variable {s t : State} {p : List Part} {m : MaintReq}

/-! #### What the arbiter shows -/

/-- What STATE says of an activity: 2 runs, 1 waits. -/
def Mem.code (x : Mem) (a : Nat) : Nat :=
  if x.running.any (·.act == a) then 2 else if x.queued.any (·.act == a) then 1 else 0

/-- What QUEUE says at a place: the activity that waits there, or 7. -/
def Mem.entry (x : Mem) (i : Nat) : Nat := match x.queued[i]? with | some m => m.act | none => 7

/-- The arbiter's own registers follow what runs and waits. -/
def State.arbiterShown (s : State) : State :=
  ((s.setFld F.MAINT_STATE_STATE ((List.range 7).foldl (fun t a => t + s.mem.code a * 4 ^ a) 0)).setFld F.MAINT_QUEUE_ENTRIES
    ((List.range 8).foldl (fun t i => t + s.mem.entry i * 8 ^ i) 0)).setFld F.MAINT_CLAIMS_TOKENS
    ((s.mem.running.flatMap (·.tokens)).eraseDups.foldl (fun t k => t + 2 ^ k) 0)

theorem State.maintShow_eq (s : State) : s.maintShow = s.arbiterShown.ckptShow := by
  unfold State.maintShow State.arbiterShown
  rfl

theorem State.arbiterShown_regsBut (s : State) : RegsBut s s.arbiterShown [R.MAINT_STATE, R.MAINT_QUEUE, R.MAINT_CLAIMS] :=
  RegsBut.refl.setFld.setFld.setFld

theorem Frame.arbiterShown (h : Frame p s t) (hp : .regs ∈ p := by decide) : Frame p s t.arbiterShown :=
  ((h.setFld hp).setFld hp).setFld hp

theorem State.arbiterShown_fld (s : State) :
    s.arbiterShown.fld F.MAINT_STATE_STATE = (List.range 7).foldl (fun t a => t + s.mem.code a * 4 ^ a) 0 % 2 ^ 14 ∧
    s.arbiterShown.fld F.MAINT_QUEUE_ENTRIES = (List.range 8).foldl (fun t i => t + s.mem.entry i * 8 ^ i) 0 % 2 ^ 24 ∧
    s.arbiterShown.fld F.MAINT_CLAIMS_TOKENS =
      (s.mem.running.flatMap (·.tokens)).eraseDups.foldl (fun t k => t + 2 ^ k) 0 % 2 ^ 8 := by
  refine ⟨?_, ?_, ?_⟩
  · rw [State.arbiterShown, State.fld_setFld_other _ _ _ _ (by decide), State.fld_setFld_other _ _ _ _ (by decide),
      State.fld_setFld_same _ _ _ (by decide)]
  · rw [State.arbiterShown, State.fld_setFld_other _ _ _ _ (by decide), State.fld_setFld_same _ _ _ (by decide)]
  · rw [State.arbiterShown, State.fld_setFld_same _ _ _ (by decide)]

theorem Mem.code_lt (x : Mem) (a : Nat) : x.code a < 4 := by
  unfold Mem.code
  split_ifs <;> decide

/-- CKPT_BUSY follows. -/
theorem State.ckptShow_spec (s : State) :
    (s.domOn dPANEL = true → s.ckptShow.bit F.AGE_STATUS_CKPT_BUSY = s.ckptBusy) ∧ RegsBut s s.ckptShow [R.AGE_STATUS] ∧
    Frame [.regs] s s.ckptShow ∧ s.ckptShow.fld F.AGE_STATUS_READY = s.fld F.AGE_STATUS_READY ∧
    s.ckptShow.fld F.AGE_STATUS_RESTORE = s.fld F.AGE_STATUS_RESTORE := by
  unfold State.ckptShow
  refine ⟨fun hon => ?_, .ite RegsBut.refl.setBit .refl, .ite Frame.refl.setBit .refl, ?_, ?_⟩
  · rw [if_pos hon, State.bit_setBit_same _ _ (by decide) (by decide)]
  · split
    · exact State.fld_setFld_other _ _ _ _ (by decide)
    · rfl
  · split
    · exact State.fld_setFld_other _ _ _ _ (by decide)
    · rfl

theorem Frame.ckptShow (h : Frame p s t) (hp : .regs ∈ p := by decide) : Frame p s t.ckptShow :=
  h.then t.ckptShow_spec.2.2.1 (forall_mem_one hp)

theorem State.maintShow_regsBut (s : State) :
    RegsBut s s.maintShow [R.MAINT_STATE, R.MAINT_QUEUE, R.MAINT_CLAIMS, R.AGE_STATUS] :=
  s.maintShow_eq ▸ s.arbiterShown_regsBut.trans s.arbiterShown.ckptShow_spec.2.1

theorem Frame.maintShow (h : Frame p s t) (hp : .regs ∈ p := by decide) : Frame p s t.maintShow :=
  t.maintShow_eq ▸ (h.arbiterShown hp).ckptShow hp

/-! #### What the arbiter starts -/

/-- One activity of the queue: it starts, or joins those that go on waiting. -/
def scanStep (acc : State × List MaintReq) (m : MaintReq) : State × List MaintReq :=
  if (acc.1.mem.running ++ acc.2).any m.overlaps || acc.1.foremanHolds m then (acc.1, acc.2 ++ [m])
  else (acc.1.maintStart m, acc.2)

/-- The scan is over: `xs` go on waiting. -/
def State.waiting (s : State) (xs : List MaintReq) : State := { s with mem := { s.mem with queued := xs } }

theorem State.maintScan_eq {w : State} {xs : List MaintReq} (h : s.mem.queued.foldl scanStep (s, []) = (w, xs)) :
    s.maintScan = (w.waiting xs).maintShow := by
  have hscan : s.maintScan = State.maintShow (State.waiting (s.mem.queued.foldl scanStep (s, [])).1
      (s.mem.queued.foldl scanStep (s, [])).2) := by
    unfold State.maintScan State.waiting scanStep
    rfl
  rw [hscan, h]

theorem scanStep_stay {acc : State × List MaintReq} (h : acc.1.mem.running.any m.overlaps = true ∨ acc.1.foremanHolds m = true) :
    scanStep acc m = (acc.1, acc.2 ++ [m]) := by
  refine if_pos ?_
  rw [List.any_append]
  obtain h | h := h <;> simp [h]

theorem scanStep_start {acc : State × List MaintReq} (hr : (acc.1.mem.running ++ acc.2).any m.overlaps = false)
    (hf : acc.1.foremanHolds m = false) : scanStep acc m = (acc.1.maintStart m, acc.2) :=
  if_neg (by rw [hr, hf]; decide)

theorem foldl_scanStep_stay {xs ys : List MaintReq} (h : ∀ x ∈ xs, s.mem.running.any x.overlaps = true ∨ s.foremanHolds x = true) :
    xs.foldl scanStep (s, ys) = (s, ys ++ xs) := by
  induction xs generalizing ys with
  | nil => rw [List.foldl_nil, List.append_nil]
  | cons x xs ih =>
    rw [List.foldl_cons, scanStep_stay (h x (List.mem_cons_self ..)), ih fun y hy => h y (List.mem_cons_of_mem _ hy),
      List.append_assoc, List.singleton_append]

/-- Nothing that waits may start: all that changes is what is shown. -/
theorem State.maintScan_stay (h : ∀ x ∈ s.mem.queued, s.mem.running.any x.overlaps = true ∨ s.foremanHolds x = true) :
    s.maintScan = s.maintShow := by
  rw [State.maintScan_eq (foldl_scanStep_stay h), List.nil_append]
  rfl

/-- The one activity that waits starts. -/
theorem State.maintScan_start (hq : s.mem.queued = [m]) (hr : s.mem.running.any m.overlaps = false) (hf : s.foremanHolds m = false)
    {w : State} (hw : w = s.maintStart m) : s.maintScan = State.maintShow { w with mem := { w.mem with queued := [] } } := by
  have hscan : s.mem.queued.foldl scanStep (s, []) = (w, []) := by
    rw [hq, List.foldl_cons, List.foldl_nil, scanStep_start (by rw [List.append_nil]; exact hr) hf, hw]
  exact State.maintScan_eq hscan

theorem State.maintRequest_merged (h : (s.mem.running ++ s.mem.queued).any m.same = true) : s.maintRequest m = s := if_pos h

theorem State.maintRequest_new (h : (s.mem.running ++ s.mem.queued).any m.same = false) {w : State}
    (hw : w = (if m.act = 0 ∧ s.domOn dSTORE = true then s.setFld F.SRAMC_MARCH_STATUS_RESULT 1 else s)) :
    s.maintRequest m = State.maintScan { w with mem := { s.mem with queued := s.mem.queued ++ [m] } } := by
  have hmem : w.mem = s.mem := by rw [hw]; split <;> rfl
  rw [State.maintRequest, if_neg (by simp [h]), ← hmem, hw]
  simp only [Bool.and_eq_true, decide_eq_true_eq]

end

end Sys2Proof.Machine

/-! ### Aging checkpoints and restores (R198, R202 to R205) -/

namespace Sys2Proof.Machine

-- A proof that fills in an argument by its default tactic waits for all that stands before it: checked in order, none waits.
set_option Elab.async false

section
variable {s t : State} {p : List Part} {m : MaintReq}

/-! #### A checkpoint is requested -/

theorem State.ckptBusy_false (h : s.ckptBusy = false) :
    s.age.wanted = false ∧ ((s.mem.running ++ s.mem.queued).any fun m => m.act == 3) = false :=
  Bool.or_eq_false_iff.mp h

/-- The record of a state whose checkpoint waits. -/
def State.ckptWaits (s : State) : State := { s with age := { s.age with wanted := true } }

theorem State.ckptRequest_busy (h : s.ckptBusy = true) : s.ckptRequest = s := if_pos h

/-- A checkpoint may be handed to the arbiter. -/
def State.ckptMay (s : State) : Bool := s.boot.foreman && s.domOn dFORE && s.domOn dMAP && s.domOn dSTORE && !s.hvd.pfwLow

/-- The checkpoint waits no more. -/
def State.ckptTaken (s : State) : State := { s with age := { s.age with wanted := false } }

theorem State.ckptTry_eq (s : State) :
    s.ckptTry = if s.age.wanted && s.ckptMay then s.ckptTaken.maintRequest (plainReq 3) else s.ckptShow := by
  unfold State.ckptTry State.ckptMay
  simp only [Bool.and_assoc]
  rfl

theorem State.ckptTaken_ckptWaits (h : s.age.wanted = false) : s.ckptWaits.ckptTaken = s := by
  rw [State.ckptTaken, ← h]
  rfl

theorem State.ckptRequest_new (hb : s.ckptBusy = false) :
    s.ckptRequest = if s.ckptMay then s.maintRequest (plainReq 3) else s.ckptWaits.ckptShow := by
  have hask : s.ckptRequest = s.ckptWaits.ckptTry := if_neg (by rw [hb]; decide)
  rw [hask, State.ckptTry_eq, State.ckptTaken_ckptWaits (State.ckptBusy_false hb).1]
  rfl

/-- What a checkpoint that waits shows. -/
theorem State.ckptWaits_spec (hon : s.domOn dPANEL = true) :
    s.ckptWaits.ckptShow.age.wanted = true ∧ s.ckptWaits.ckptShow.bit F.AGE_STATUS_CKPT_BUSY = true ∧
    RegsBut s s.ckptWaits.ckptShow [R.AGE_STATUS] ∧
    s.ckptWaits.ckptShow.bit F.AGE_STATUS_READY = s.bit F.AGE_STATUS_READY ∧
    s.ckptWaits.ckptShow.fld F.AGE_STATUS_RESTORE = s.fld F.AGE_STATUS_RESTORE ∧
    s.ckptWaits.ckptShow = { s with regs := s.ckptWaits.ckptShow.regs, age := { s.age with wanted := true } } := by
  obtain ⟨hbusy, hregs, hframe, hready, hrestore⟩ := s.ckptWaits.ckptShow_spec
  refine ⟨hframe.get (·.age.wanted), hbusy hon, hregs, ?_, hrestore, hframe⟩
  rw [State.bit, hready]
  rfl

/-- A checkpoint alone runs. -/
def State.ckptAlone (s : State) : State :=
  { s with mem := { s.mem with running := [{ plainReq 3 with start := s.keepCycles }], queued := [] } }

theorem State.maintRequest_ckpt (hm : s.boot.mbox = none) (hr : s.mem.running = []) (hq : s.mem.queued = []) :
    s.maintRequest (plainReq 3) = s.ckptAlone.maintShow := by
  obtain ⟨w, hw⟩ : ∃ w : State, w = { s with mem := { s.mem with queued := [plainReq 3] } } := ⟨_, rfl⟩
  have hfree : w.foremanHolds (plainReq 3) = false := by
    rw [State.foremanHolds, show w.boot.mbox = none by rw [hw]; exact hm]
    rfl
  have hwr : w.mem.running = [] := by rw [hw]; exact hr
  rw [State.maintRequest_new (by rw [hr, hq]; rfl) rfl, if_neg (by simp [plainReq]), hq, List.nil_append, ← hw,
    State.maintScan_start (by rw [hw]) (by rw [hwr]; rfl) hfree rfl, State.maintStart, hwr, hw]
  rfl

theorem Mem.queued_eta {x : Mem} (h : x.queued = []) : { x with queued := [] } = x := by rw [← h]

/-- A checkpoint that is handed to an arbiter with nothing to do starts. -/
theorem State.ckptAlone_spec (hon : s.domOn dPANEL = true) (hq : s.mem.queued = []) :
    s.ckptAlone.maintShow.mem = { s.mem with running := [{ plainReq 3 with start := s.keepCycles }] } ∧
    s.ckptAlone.maintShow.bit F.AGE_STATUS_CKPT_BUSY = true ∧ s.ckptAlone.maintShow.fld F.MAINT_STATE_STATE = 128 ∧
    s.ckptAlone.maintShow.fld F.MAINT_CLAIMS_TOKENS = 34 ∧
    RegsBut s s.ckptAlone.maintShow [R.MAINT_STATE, R.MAINT_QUEUE, R.MAINT_CLAIMS, R.AGE_STATUS] ∧
    s.ckptAlone.maintShow = { s with regs := s.ckptAlone.maintShow.regs, mem := s.ckptAlone.maintShow.mem } := by
  obtain ⟨hstate, -, hclaims⟩ := s.ckptAlone.arbiterShown_fld
  obtain ⟨hbusy, hshown, -, -, -⟩ := s.ckptAlone.arbiterShown.ckptShow_spec
  have hframe : Frame [.regs] s.ckptAlone s.ckptAlone.maintShow := Frame.refl.maintShow
  have halone : Frame [.regs, .mem] s s.ckptAlone := rfl
  rw [← State.maintShow_eq] at hbusy hshown
  refine ⟨(hframe.get (·.mem)).trans ?_, ?_, ?_, ?_, s.ckptAlone.maintShow_regsBut, halone.then hframe (by decide)⟩
  · exact Mem.queued_eta (x := { s.mem with running := [{ plainReq 3 with start := s.keepCycles }] }) hq
  · rw [hbusy ((congrFun (s.ckptAlone.arbiterShown_regsBut.domOn) _).trans hon)]
    exact Bool.or_true _
  · have hcode : s.ckptAlone.mem.code = fun a => if (3 == a) = true then 2 else 0 := by
      funext a
      rw [Mem.code, State.ckptAlone, plainReq, List.any_cons, List.any_nil, Bool.or_false]
      rfl
    rw [hshown.fld (by decide), hstate, hcode]
    rfl
  · rw [hshown.fld (by decide), hclaims]
    rfl

/-! #### Bytes of the NAND -/

/-- One byte is programmed. -/
def nandPut (acc : SMap Byte × Nat) (b : Byte) : SMap Byte × Nat := (SMap.set nandDefault acc.1 acc.2 b, acc.2 + 1)

theorem nandPut_get (bs : List Byte) (x : SMap Byte) (a k : Nat) :
    SMap.get nandDefault (bs.foldl nandPut (x, a)).1 k =
      if a ≤ k ∧ k < a + bs.length then bs.getD (k - a) 0 else SMap.get nandDefault x k := by
  induction bs generalizing x a with
  | nil => exact (if_neg (by rw [List.length_nil]; omega)).symm
  | cons b bs ih =>
    rw [List.foldl_cons, nandPut, ih, SMap.get_set, List.length_cons]
    rcases Nat.lt_trichotomy k a with hk | rfl | hk
    · rw [if_neg (by omega), if_neg (by omega), if_neg (by omega)]
    · rw [if_neg (by omega), if_pos rfl, if_pos (by omega), Nat.sub_self, List.getD_cons_zero]
    · rw [if_neg (show a ≠ k by omega), show k - a = k - (a + 1) + 1 by omega, List.getD_cons_succ]
      exact if_congr (by omega) rfl rfl

theorem State.mapsShow_frame (s : State) : Frame [.regs] s s.mapsShow :=
  .ite .refl ((Frame.refl.setFld).setFld).setFld

/-- Blocks of the NAND are erased. -/
theorem State.eraseBlocks_frame {xs : List Nat} :
    s.each xs (fun s b => s.eraseBlock (s.physBlock b)) =
      { s with mem := { s.mem with erases := (s.each xs (fun s b => s.eraseBlock (s.physBlock b))).mem.erases } } := by
  induction xs generalizing s with
  | nil => rfl
  | cons x xs ih =>
    show (s.eraseBlock (s.physBlock x)).each xs _ = _
    rw [ih]
    rfl

theorem State.nandProgram_spec (s : State) (a : Nat) (bs : List Byte) :
    Frame [.regs, .mem] s (s.nandProgram a bs) ∧ (s.nandProgram a bs).nandRead a bs.length = bs ∧
    (s.nandProgram a bs).mem = { s.mem with nand := (s.nandProgram a bs).mem.nand, erases := (s.nandProgram a bs).mem.erases } := by
  obtain ⟨blocks, hblocks⟩ : ∃ blocks, blocks =
    (List.range ((bs.length + nandBlock - 1) / nandBlock)).map (a / nandBlock + ·) := ⟨_, rfl⟩
  obtain ⟨e, he⟩ : ∃ e, e = (s.each blocks (fun s b => s.eraseBlock (s.physBlock b))).mem.erases := ⟨_, rfl⟩
  obtain ⟨w, hw⟩ : ∃ w : State, w =
    { s with mem := { s.mem with nand := (bs.foldl nandPut (s.mem.nand, a)).1, erases := e } } := ⟨_, rfl⟩
  have hform : s.nandProgram a bs = w.mapsShow := by
    rw [State.nandProgram, ← hblocks, s.eraseBlocks_frame, ← he, hw]
    rfl
  have hshow := w.mapsShow_frame
  have hmem : w.mapsShow.mem = w.mem := hshow.get (·.mem)
  rw [hform, hmem]
  refine ⟨.then (q := [.regs, .mem]) (hw ▸ rfl) (hshow.mono (by decide)) (by decide), ?_, by rw [hw]⟩
  rw [State.nandRead, hmem, hw]
  refine List.ext_getElem (by simp) fun i hi hi' => ?_
  rw [List.getElem_map, List.getElem_range, nandPut_get, if_pos (by omega), Nat.add_sub_cancel_left, List.getD_eq_getElem _ _ hi']

/-! #### A checkpoint ends -/

/-- The record is written, where the ring has a place for it. -/
def State.recordWritten (s : State) (place : Option Nat) (seq : Word) (img : List Byte) (status : Nat) : State :=
  match place with
  | some k => s.ringWriteAge k seq (if status = 0 then img else img.map fun _ => 0xFF)
  | none => s

/-- What the next checkpoint has to know of the end of this one. -/
def State.ckptNoted (s : State) (status : Nat) : State :=
  { s with age := { s.age with needBase := status != 0, made := s.age.made + b2n (status == 0) } }

/-- The end of a checkpoint is shown and reported. -/
def State.ckptReported (s : State) (status : Nat) (seq : Word) (base : Bool) (len : Nat) : State :=
  let s := if !s.domOn dPANEL then s
    else (if status = 0 then (s.setFld F.AGE_CKPT_SEQ_SEQ seq.toNat).bump F.AGE_CKPT_COUNT_COUNT else s).raise 0x40 3
  let d := if status = 0 then (BitVec.ofNat 32 len, s) else s.draw
  d.2.post F.AGE_EVT_RING 0x0215 [(4, status), (1, b2n (!base)), (32, seq.toNat), (32, d.1.toNat)]

theorem State.ckptReported_frame (s : State) (status : Nat) (seq : Word) (base : Bool) (len : Nat) :
    Frame errorParts s (s.ckptReported status seq base len) := by
  obtain ⟨v, hv⟩ : ∃ v, v = (if !s.domOn dPANEL then s
    else (if status = 0 then (s.setFld F.AGE_CKPT_SEQ_SEQ seq.toNat).bump F.AGE_CKPT_COUNT_COUNT else s).raise 0x40 3) := ⟨_, rfl⟩
  have hvf : Frame errorParts s v := hv ▸ .ite .refl (Frame.raise (.ite Frame.refl.setFld.bump .refl))
  unfold State.ckptReported
  rw [← hv]
  refine Frame.post ?_
  split
  · exact hvf
  · exact hvf.draw

theorem State.ckptEnd_eq {status st : Nat} {y b : List Byte × State} {place : Option Nat}
    (hy : y = s.nextSeq.2.captureAge s.nextSeq.1 s.ckptBase) (hb : b = y.2.ageBytes y.1) (hplace : place = s.ringPlace b.1.length)
    (hst : st = if status = 0 && place.isNone then 1 else status) :
    s.ckptEnd status = ((b.2.recordWritten place s.nextSeq.1 b.1 st).ckptNoted st).ckptReported st s.nextSeq.1 s.ckptBase
      b.1.length := by
  subst hy hb hplace hst
  rfl

theorem State.nextSeq_frame (s : State) : Frame [.freeCtr] s s.nextSeq.2 := by
  unfold State.nextSeq
  split
  · exact .refl
  · exact Frame.refl.draw

/-- What the capture of the live array leaves of the state. -/
theorem State.captured_frame (s : State) (seq : Word) (base : Bool) : Frame [.freeCtr, .dram] s (s.nextSeq.2.captureAge seq base).2 ∧
    (s.nextSeq.2.captureAge seq base).2.dram = (s.dramWrite (s.fld F.AGE_ACC_BASE_SHADOW * frameBytes)
      (s.dramRead (s.fld F.AGE_ACC_BASE_LIVE * frameBytes) (4 * (s.ageBlocks * 3)))).dram :=
  ⟨.then (s.nextSeq_frame.mono (by decide)) (q := [.dram]) rfl (by decide),
    s.nextSeq_frame.get (fun s : State => (s.dramWrite (s.fld F.AGE_ACC_BASE_SHADOW * frameBytes)
      (s.dramRead (s.fld F.AGE_ACC_BASE_LIVE * frameBytes) (4 * (s.ageBlocks * 3)))).dram)⟩

/-- The record is nowhere, where the ring has no place. -/
theorem State.recordWritten_none (s : State) (seq : Word) (img : List Byte) (st : Nat) : s.recordWritten none seq img st = s := rfl

theorem State.recordWritten_some (s : State) (k : Nat) (seq : Word) (img : List Byte) (st : Nat) {w : State}
    (hw : w = s.recordWritten (some k) seq img st) :
    Frame [.regs, .mem, .age] s w ∧
    w.age = { s.age with
      ring := (s.age.ring.filter fun r => !(r.block < k + eraseBlocks img.length && k < r.block + eraseBlocks r.len)) ++
        [⟨k, img.length, seq⟩], ringPos := k + eraseBlocks img.length } ∧
    w.nandRead (RingRec.addr ⟨k, img.length, seq⟩) img.length = (if st = 0 then img else List.replicate img.length 0xFF#8) ∧
    w.mem = { s.mem with nand := w.mem.nand, erases := w.mem.erases } := by
  obtain ⟨bs, hbs⟩ : ∃ bs, bs = if st = 0 then img else img.map fun _ => (0xFF : Byte) := ⟨_, rfl⟩
  have hlen : bs.length = img.length := by
    rw [hbs]
    split
    · rfl
    · rw [List.length_map]
  have hrep : (if st = 0 then img else List.replicate img.length 0xFF#8) = bs := by
    rw [hbs, List.map_const']
    rfl
  obtain ⟨hframe, hread, hmem⟩ := s.nandProgram_spec (RingRec.addr ⟨k, img.length, seq⟩) bs
  rw [hlen] at hread
  obtain ⟨x, hx⟩ : ∃ x, x = s.nandProgram (RingRec.addr ⟨k, img.length, seq⟩) bs := ⟨_, rfl⟩
  rw [← hx] at hframe hread hmem
  have hform : w = { x with age := { s.age with
      ring := (s.age.ring.filter fun r => !(r.block < k + eraseBlocks img.length && k < r.block + eraseBlocks r.len)) ++
        [⟨k, img.length, seq⟩], ringPos := k + eraseBlocks img.length } } := by
    rw [hw, hx]
    show s.ringWriteAge k seq (if st = 0 then img else img.map fun _ => (0xFF : Byte)) = _
    rw [← hbs, State.ringWriteAge, hlen]
  rw [hform, hrep]
  exact ⟨.then (hframe.mono (by decide)) (q := [.age]) rfl (by decide), rfl, hread, hmem⟩

/-- What the end of a checkpoint leaves. -/
theorem State.ckptEnd_spec (s : State) (status : Nat) {y : List Byte × State}
    (hy : y = s.nextSeq.2.captureAge s.nextSeq.1 s.ckptBase) :
    ∃ (ver : Nat) (z img : List Byte),
      z = (encodeStream 8 (2 * y.1.length + 1024) false y.1).1 ∧
      img = Mepa.bytes ⟨6, true, ver, s.panelGeom.1, s.panelGeom.2, z.length, y.1.length, (crc32c y.1).toNat⟩ ++ z ∧
      (s.ckptEnd status).dram = (s.dramWrite (s.fld F.AGE_ACC_BASE_SHADOW * frameBytes)
        (s.dramRead (s.fld F.AGE_ACC_BASE_LIVE * frameBytes) (4 * (s.ageBlocks * 3)))).dram ∧
      Frame (.dram :: .mem :: .age :: errorParts) s (s.ckptEnd status) ∧
      (s.ringPlace img.length = none →
        (s.ckptEnd status).age = { s.age with needBase := true } ∧ (s.ckptEnd status).mem = s.mem) ∧
      (∀ k, s.ringPlace img.length = some k →
        (s.ckptEnd status).age = { s.age with
          ring := (s.age.ring.filter fun r => !(r.block < k + eraseBlocks img.length && k < r.block + eraseBlocks r.len)) ++
            [⟨k, img.length, s.nextSeq.1⟩],
          ringPos := k + eraseBlocks img.length, needBase := status != 0, made := s.age.made + b2n (status == 0) } ∧
        (s.ckptEnd status).nandRead (RingRec.addr ⟨k, img.length, s.nextSeq.1⟩) img.length =
          (if status = 0 then img else List.replicate img.length 0xFF#8) ∧
        (s.ckptEnd status).mem = { s.mem with nand := (s.ckptEnd status).mem.nand, erases := (s.ckptEnd status).mem.erases }) := by
  obtain ⟨z, hz⟩ : ∃ z, z = (encodeStream 8 (2 * y.1.length + 1024) false y.1).1 := ⟨_, rfl⟩
  obtain ⟨b, hb⟩ : ∃ b, b = y.2.ageBytes y.1 := ⟨_, rfl⟩
  obtain ⟨hyframe, hydram⟩ := s.captured_frame s.nextSeq.1 s.ckptBase
  rw [← hy] at hyframe hydram
  have hgeom : y.2.panelGeom = s.panelGeom := hyframe.get State.panelGeom
  have himg : b.1 = Mepa.bytes ⟨6, true, y.2.draw.1.toNat, s.panelGeom.1, s.panelGeom.2, z.length, y.1.length, (crc32c y.1).toNat⟩ ++ z := by
    rw [hb, hz, ← hgeom]
    rfl
  have hbframe : Frame [.freeCtr, .dram] s b.2 := hb ▸ hyframe.draw
  have hbdram : b.2.dram = y.2.dram := by rw [hb]; rfl
  have hbage : b.2.age = s.age := hbframe.get (·.age)
  have hbmem : b.2.mem = s.mem := hbframe.get (·.mem)
  obtain ⟨st, hst⟩ : ∃ st, st = if status = 0 && (s.ringPlace b.1.length).isNone then 1 else status := ⟨_, rfl⟩
  have hend := State.ckptEnd_eq hy hb rfl hst
  obtain ⟨w, hw⟩ : ∃ w, w = b.2.recordWritten (s.ringPlace b.1.length) s.nextSeq.1 b.1 st := ⟨_, rfl⟩
  obtain ⟨v, hv⟩ : ∃ v, v = w.ckptNoted st := ⟨_, rfl⟩
  rw [← hw, ← hv] at hend
  have hvf : Frame [.age] w v := hv ▸ rfl
  have huf := v.ckptReported_frame st s.nextSeq.1 s.ckptBase b.1.length
  rw [← hend] at huf
  have huage : (s.ckptEnd status).age = { w.age with needBase := st != 0, made := w.age.made + b2n (st == 0) } := by
    rw [huf.get (·.age), hv]
    rfl
  have humem : (s.ckptEnd status).mem = w.mem := (huf.get (·.mem)).trans (hvf.get (·.mem))
  have hwf : Frame [.regs, .mem, .age] b.2 w := by
    cases hp : s.ringPlace b.1.length with
    | none => rw [hw, hp]; exact .refl
    | some k => exact (b.2.recordWritten_some k s.nextSeq.1 b.1 st (hp ▸ hw)).1
  refine ⟨_, z, b.1, hz, himg, ?_, ?_, fun hp => ?_, fun k hp => ?_⟩
  · rw [huf.get (·.dram), hvf.get (·.dram), hwf.get (·.dram), hbdram, hydram]
  · exact ((hbframe.mono (by decide)).then hwf (by decide)).then hvf (by decide) |>.then huf (by decide)
  · have hw0 : w = b.2 := by rw [hw, hp]; rfl
    have hst0 : (st == 0) = false := by
      rw [hst, hp, Option.isNone_none, Bool.and_true]
      split
      · rfl
      · next h => simpa using h
    rw [huage, humem, hw0, hbage, hbmem, bne, hst0]
    exact ⟨rfl, rfl⟩
  · obtain ⟨-, hage, hread, hmem⟩ := b.2.recordWritten_some k s.nextSeq.1 b.1 st (hp ▸ hw)
    have hst1 : st = status := by rw [hst, hp, Option.isNone_some, Bool.and_false, if_neg (by decide)]
    rw [hst1] at hread huage
    rw [State.nandRead, humem, ← State.nandRead, huage, hage, hbage]
    exact ⟨rfl, hread, hbmem ▸ hmem⟩

/-! #### A restore -/

/-- Both arrays have their places. -/
def State.basesSet (s : State) : State := (s.setFld F.AGE_ACC_BASE_LIVE 3886).setFld F.AGE_ACC_BASE_SHADOW 3934

theorem State.basesSet_spec (s : State) : s.basesSet.fld F.AGE_ACC_BASE_LIVE = 3886 ∧ s.basesSet.fld F.AGE_ACC_BASE_SHADOW = 3934 ∧
    RegsBut s s.basesSet [R.AGE_ACC_BASE] ∧ SameButRegs s s.basesSet := by
  refine ⟨?_, ?_, RegsBut.refl.setFld.setFld, Frame.setFld (p := [.regs]) Frame.refl.setFld⟩
  · rw [State.basesSet, State.fld_setFld_other _ _ _ _ (by decide), State.fld_setFld_same _ _ _ (by decide)]
    rfl
  · rw [State.basesSet, State.fld_setFld_same _ _ _ (by decide)]
    rfl

/-- Both arrays take the words that a restore found. -/
def State.arraysWritten (s : State) (ws : List Word) : State :=
  (s.dramWrite (s.fld F.AGE_ACC_BASE_LIVE * frameBytes) (wordBytes ws)).dramWrite (s.fld F.AGE_ACC_BASE_SHADOW * frameBytes) (wordBytes ws)

theorem State.restoreAge_frame (s : State) : Frame [.dram] s s.restoreAge.2.2 := by
  have harrays (ws : List Word) : Frame [.dram] s (s.arraysWritten ws) := Frame.refl.dramWrite.dramWrite
  unfold State.restoreAge
  split
  · exact harrays _
  · exact harrays _

theorem State.restoreAge_empty (h : s.age.ring = []) :
    s.restoreAge = (1, none, s.arraysWritten (List.replicate (s.ageBlocks * 3) 0)) := by
  unfold State.restoreAge
  rw [h]
  rfl

theorem wordBytes_zero (n k : Nat) : (wordBytes (List.replicate n 0)).getD k 0 = 0 := by
  have hword : ∀ b ∈ leBytes 4 (0 : Word).toNat, b = 0 := by decide
  have hzero : ∀ b ∈ wordBytes (List.replicate n 0), b = 0 := by
    intro b hb
    obtain ⟨w, hw, hbw⟩ := List.mem_flatMap.mp hb
    exact hword b (List.eq_of_mem_replicate hw ▸ hbw)
  obtain hk | hk := Nat.lt_or_ge k (wordBytes (List.replicate n 0)).length
  · rw [List.getD_eq_getElem _ _ hk]
    exact hzero _ (List.getElem_mem hk)
  · exact List.getD_eq_default _ _ hk

theorem length_wordBytes (ws : List Word) : (wordBytes ws).length = 4 * ws.length := by
  rw [wordBytes, List.length_flatMap]
  simp [leBytes]
  omega

/-- An empty ring clears both arrays. -/
theorem State.arraysWritten_zero {n i : Nat} (hi : i < 4 * n) :
    (s.arraysWritten (List.replicate n 0)).dramByte (s.fld F.AGE_ACC_BASE_LIVE * frameBytes + i) = 0 ∧
    (s.arraysWritten (List.replicate n 0)).dramByte (s.fld F.AGE_ACC_BASE_SHADOW * frameBytes + i) = 0 := by
  have hlen : (wordBytes (List.replicate n 0)).length = 4 * n := by rw [length_wordBytes, List.length_replicate]
  unfold State.arraysWritten
  refine ⟨?_, ?_⟩
  · rw [State.dramByte_dramWrite, wordBytes_zero]
    split
    · rfl
    · rw [State.dramByte_dramWrite, wordBytes_zero, if_pos (by omega)]
  · rw [State.dramByte_dramWrite, wordBytes_zero, if_pos (by omega)]

/-- What a restore found: as if the arrays were intact, or from the ring. -/
def State.restoreFound (s : State) : Nat × Option (Word × Word) × State :=
  if s.age.intact then (0, s.lastSeq.map fun n => (n, n), s) else s.restoreAge

theorem State.restoreFound_frame (s : State) : Frame [.dram] s s.restoreFound.2.2 := by
  unfold State.restoreFound
  split
  · exact .refl
  · exact s.restoreAge_frame

/-- The arrays are ready. -/
def State.ageReady (s : State) (r : Nat) : State :=
  let s := { s with age := { s.age with needBase := if s.age.intact then s.age.needBase else r != 0, intact := true } }
  ((s.setFld F.AGE_STATUS_READY 1).setFld F.AGE_STATUS_RESTORE r).raise 0x40 0

/-- The restore is reported, with free sequence numbers where it found none. -/
def State.restoreReported (s : State) (r : Nat) (seqs : Option (Word × Word)) : State :=
  let q := match seqs with
    | some p => (p.1, p.2, s)
    | none => (s.draw.1, s.draw.2.draw.1, s.draw.2.draw.2)
  q.2.2.post F.AGE_EVT_RING 0x0214 [(4, r), (32, q.1.toNat), (32, q.2.1.toNat)]

/-- Foreman may end a restore. -/
def State.restoreMay (s : State) : Bool :=
  s.boot.foreman && s.domOn dFORE && s.domOn dPANEL && s.domOn dSTORE && !s.bit F.AGE_STATUS_READY && (s.age.intact || s.domOn dMAP)

theorem State.ageRestoreDone_not (h : s.restoreMay = false) : s.ageRestoreDone = s := by
  unfold State.ageRestoreDone
  unfold State.restoreMay at h
  revert h
  cases s.boot.foreman && s.domOn dFORE && s.domOn dPANEL && s.domOn dSTORE <;> cases s.bit F.AGE_STATUS_READY <;>
    cases s.age.intact <;> cases s.domOn dMAP <;> simp

theorem State.ageRestoreDone_may (h : s.restoreMay = true) {v : State} (hv : v = s.basesSet) {r : Nat × Option (Word × Word) × State}
    (hr : r = v.restoreFound) : s.ageRestoreDone = (r.2.2.ageReady r.1).restoreReported r.1 r.2.1 := by
  subst hr hv
  unfold State.restoreMay at h
  simp only [Bool.and_eq_true, Bool.not_eq_true', Bool.or_eq_true] at h
  obtain ⟨⟨hon, hready⟩, hmay⟩ := h
  unfold State.ageRestoreDone
  rw [if_neg (by simp [hon, hready]), if_neg (by obtain h | h := hmay <;> simp [h])]
  rfl

theorem State.ageReady_spec (s : State) {r : Nat} {x : State} (hx : x = s.ageReady r) :
    x.bit F.AGE_STATUS_READY = true ∧ x.fld F.AGE_STATUS_RESTORE = r % 4 ∧
    x.age = { s.age with needBase := if s.age.intact then s.age.needBase else r != 0, intact := true } ∧
    RegsBut s x [R.AGE_STATUS, 0x4000C] ∧ Frame [.regs, .age, .sent, .pcie, .summaryOwed] s x := by
  obtain ⟨w, hw⟩ : ∃ w : State, w =
    { s with age := { s.age with needBase := if s.age.intact then s.age.needBase else r != 0, intact := true } } := ⟨_, rfl⟩
  obtain ⟨y, hy⟩ : ∃ y, y = (w.setFld F.AGE_STATUS_READY 1).setFld F.AGE_STATUS_RESTORE r := ⟨_, rfl⟩
  have hform : x = y.raise 0x40 0 := by rw [hx, hy, hw]; rfl
  have hraise : RegsBut y x [0x4000C] := by rw [hform]; exact RegsBut.refl.raise
  have hxf : Frame [.regs, .sent, .pcie, .summaryOwed] y x := by rw [hform]; exact Frame.refl.raise
  have hyf : Frame [.regs] w y := by rw [hy]; exact Frame.refl.setFld.setFld
  have hyr : RegsBut w y [R.AGE_STATUS] := by rw [hy]; exact RegsBut.refl.setFld.setFld
  have hwf : Frame [.age] s w := by rw [hw]; rfl
  have hwr : RegsBut s w [] := RegsBut.refl.of_regs (by rw [hw])
  refine ⟨?_, ?_, ?_, ?_, ?_⟩
  · rw [State.bit, hraise.fld (by decide), hy, State.fld_setFld_other _ _ _ _ (by decide), State.fld_setFld_same _ _ _ (by decide)]
    rfl
  · rw [hraise.fld (by decide), hy, State.fld_setFld_same _ _ _ (by decide)]
    rfl
  · rw [hxf.get (·.age), hyf.get (·.age), hw]
  · exact ((hwr.trans hyr).trans hraise).mono (by simp)
  · exact ((hwf.mono (by decide)).then hyf (by decide)).then hxf (by decide)

/-- What the report of a restore changes. -/
theorem State.restoreReported_spec (s : State) (r : Nat) (seqs : Option (Word × Word)) :
    RegsButEvents (s.fld F.AGE_EVT_RING) s (s.restoreReported r seqs) [] ∧ Frame errorParts s (s.restoreReported r seqs) := by
  obtain ⟨q, hq⟩ : ∃ q : Word × Word × State, q = match seqs with
    | some p => (p.1, p.2, s)
    | none => (s.draw.1, s.draw.2.draw.1, s.draw.2.draw.2) := ⟨_, rfl⟩
  have hframe : Frame [.freeCtr] s q.2.2 := by
    rw [hq]
    cases seqs with
    | some p => exact .refl
    | none => exact Frame.refl.draw.draw
  have hform : s.restoreReported r seqs = q.2.2.post F.AGE_EVT_RING 0x0214 [(4, r), (32, q.1.toNat), (32, q.2.1.toNat)] := by
    rw [hq]
    rfl
  rw [hform]
  have hregs : q.2.2.regs = s.regs := hframe.get (·.regs)
  exact ⟨(RegsButEvents.refl.of_regs hregs).post,
    Frame.post (hframe.mono (by decide))⟩

end

/-- A command that requests a checkpoint, or does not. -/
theorem exec_ckpt {s : State} {c : Instr} {go : Bool}
    (h : (∃ v, c = .ckptGo v ∧ s.serves R.AGE_CKPT_CMD = true ∧ go = bitOf v 0) ∨
      (c = .ckptPeriodic ∧ go = (s.domOn dPANEL && s.fld F.AGE_CKPT_CFG_HOURS != 0))) :
    exec c s = .next (if go then s.ckptRequest else s) ∧ (go = true → s.domOn dPANEL = true) := by
  obtain ⟨v, rfl, hserves, rfl⟩ | ⟨rfl, rfl⟩ := h
  · refine ⟨congrArg Host.Outcome.next (hostWriteTo_of_serves s _ _ hserves), fun _ => ?_⟩
    exact (Bool.and_eq_true_iff.mp hserves).2
  · exact ⟨rfl, fun h => (Bool.and_eq_true_iff.mp h).1⟩

/-- Settles O36: requests of checkpoints, what the end of a checkpoint writes, and what a restore finds. -/
theorem checkpointsAndRestores : Obligations.CheckpointsAndRestores := by
  unfold Obligations.CheckpointsAndRestores
  refine ⟨?request, ?done, ?restore⟩
  case request =>
    intro s c go ready hc hready
    obtain ⟨hexec, hon⟩ := exec_ckpt hc
    rw [hexec]
    have hmay : s.ckptMay = ready := hready.symm
    refine ⟨fun h => ?_, fun hgo hb hr => ?_, fun hgo hb hr => ⟨?_, fun hm hrun hq => ?_⟩⟩
    · obtain rfl | hb := h
      · rfl
      · rw [State.ckptRequest_busy hb, ite_self]
    · rw [if_pos hgo, State.ckptRequest_new hb, hmay, hr, if_neg (by decide)]
      exact ⟨_, rfl, s.ckptWaits_spec (hon hgo)⟩
    · rw [if_pos hgo, State.ckptRequest_new hb, hmay, if_pos hr]
    · rw [if_pos hgo, State.ckptRequest_new hb, hmay, if_pos hr, State.maintRequest_ckpt hm hrun hq]
      exact ⟨_, rfl, s.ckptAlone_spec (hon hgo) hq⟩
  case done =>
    intro s st hruns
    have hexec : exec (.checkpointDone st) s = .next (s.after (s.checkpointDone st.toNat)) :=
      congrArg Host.Outcome.next (State.flow_of_runs hruns _)
    have hst (k : Nat) (hk : k < 4) : st = BitVec.ofNat 2 k ↔ st.toNat = k := by
      rw [BitVec.toNat_eq, BitVec.toNat_ofNat, Nat.mod_eq_of_lt (by omega)]
    rw [hexec]
    refine ⟨fun hnone => ?_, fun m seq y hm hseq hy => ?_⟩
    · rw [State.checkpointDone, hnone]
    · subst hseq
      obtain ⟨ver, z, img, hz, himg, hdram, hframe, hno, hplace⟩ := s.ckptEnd_spec st.toNat hy
      have hdone : s.checkpointDone st.toNat = (s.ckptEnd st.toNat).maintEnd m (if st = 0 then 0 else if st = 1 then 2 else 1) := by
        rw [State.checkpointDone, hm]
        simp only [show st = 0 ↔ st.toNat = 0 from hst 0 (by omega), show st = 1 ↔ st.toNat = 1 from hst 1 (by omega)]
      rw [hdone]
      refine ⟨s.ckptEnd st.toNat, ver, z, img, hz, himg, rfl, hdram, ?_, ?_, hno, fun k hk => ?_, hframe⟩
      · cases hp : s.ringPlace img.length with
        | none => rw [(hno hp).1]
        | some k => rw [(hplace k hp).1]
      · cases hp : s.ringPlace img.length with
        | none => rw [(hno hp).1]
        | some k => rw [(hplace k hp).1]
      · obtain ⟨hage, hread, hmem⟩ := hplace k hk
        have hne : (st.toNat != 0) = (st != 0#2) := by
          rw [Bool.eq_iff_iff, bne_iff_ne, bne_iff_ne, Ne, Ne, show st = 0#2 ↔ st.toNat = 0 from hst 0 (by omega)]
        have heq : (st.toNat == 0) = (st == 0#2) := by
          rw [Bool.eq_iff_iff, beq_iff_eq, beq_iff_eq, show st = 0#2 ↔ st.toNat = 0 from hst 0 (by omega)]
        simp only [show st = 0 ↔ st.toNat = 0 from hst 0 (by omega)]
        refine ⟨by rw [hage], ?_, hread, hmem⟩
        rw [hage, hne, heq]
  case restore =>
    intro s may hmay
    refine ⟨fun h => congrArg Host.Outcome.next (State.ageRestoreDone_not (hmay.symm.trans h)), fun h => ?_⟩
    obtain ⟨v, hv⟩ : ∃ v, v = s.basesSet := ⟨_, rfl⟩
    obtain ⟨r, hr⟩ : ∃ r, r = v.restoreFound := ⟨_, rfl⟩
    obtain ⟨hlive, hshadow, hvregs, hvframe⟩ := s.basesSet_spec
    rw [← hv] at hlive hshadow hvregs hvframe
    have hvf : Frame [.regs] s v := hvframe
    have hvage : v.age = s.age := hvf.get (·.age)
    have hfound : r = if s.age.intact then (0, s.lastSeq.map fun n => (n, n), v) else v.restoreAge := by
      rw [hr, State.restoreFound, hvage, hvf.get State.lastSeq]
    have hrf : Frame [.dram] v r.2.2 := hr ▸ v.restoreFound_frame
    obtain ⟨x, hx⟩ : ∃ x, x = r.2.2.ageReady r.1 := ⟨_, rfl⟩
    obtain ⟨hready, hrestore, hxage, hxregs, hxf⟩ := r.2.2.ageReady_spec hx
    obtain ⟨hrep, hrepf⟩ := x.restoreReported_spec r.1 r.2.1
    have hexec : exec .ageRestoreDone s = .next (x.restoreReported r.1 r.2.1) :=
      congrArg Host.Outcome.next (hx ▸ State.ageRestoreDone_may (hmay.symm.trans h) hv hr)
    obtain ⟨t, ht⟩ : ∃ t, t = x.restoreReported r.1 r.2.1 := ⟨_, rfl⟩
    rw [← ht] at hrep hrepf hexec
    have hrregs : RegsBut v r.2.2 [] := RegsBut.refl.of_regs (hrf.get (·.regs))
    have hvx : RegsBut v x [R.AGE_STATUS, 0x4000C] := hrregs.trans hxregs
    have htf {f : Fld} (he : lowReg f.off = true) : t.fld f = x.fld f := hrep.fld (by simp) (eventReg_of_low (of_decide_eq_true he))
    have htx {f : Fld} (hf : f.off ∉ [R.AGE_STATUS, 0x4000C]) (he : lowReg f.off = true) : t.fld f = v.fld f :=
      (htf he).trans (hvx.fld hf)
    have hdram : t.dram = r.2.2.dram := (hrepf.get (·.dram)).trans (hxf.get (·.dram))
    refine ⟨v, r, hlive, hshadow, hvregs, hvframe, hfound, t, hexec, ?_, ?_, ?_, ?_, hdram, ?_, ?_, ?_, fun hint => ?_, fun hint hring => ?_⟩
    · rw [State.bit, htf (by decide), ← State.bit, hready]
    · rw [htf (by decide), hrestore]
    · rw [htx (by decide) (by decide), hlive]
    · rw [htx (by decide) (by decide), hshadow]
    · rw [hrepf.get (·.age), hxage, hrf.get (·.age), hvage]
    · have hring : x.fld F.AGE_EVT_RING = s.fld F.AGE_EVT_RING := (hvx.fld (by decide)).trans (hvregs.fld (by decide))
      intro k hk hek
      have hint : k ≠ 0x4000C := fun hk => by rw [hk] at hek; simp [eventReg] at hek
      rw [List.mem_cons, List.mem_singleton, not_or] at hk
      rw [hrep k (by simp) (by rw [hring]; exact hek), hvx k (by simp [hk.2, hint]), hvregs k (by simp [hk.1])]
    · exact ((((hvf.mono (by decide)).then hrf (by decide)).then hxf (by decide)).then hrepf (by decide) :
        Frame [.regs, .dram, .age, .freeCtr, .rings, .sent, .pcie, .summaryOwed] s t)
    · rw [hdram, hfound, if_pos hint]
      exact hvf.get (·.dram)
    · have hempty : r = (1, none, v.arraysWritten (List.replicate (v.ageBlocks * 3) 0)) := by
        rw [hfound, hint, if_neg (by decide), State.restoreAge_empty (by rw [hvage]; exact hring)]
      have hblocks : v.ageBlocks = s.ageBlocks := by
        rw [State.ageBlocks, State.blocksW, State.halfW, State.blocksH, hvregs.fld (by decide), hvregs.fld (by decide)]
        rfl
      have hbyte (a : Nat) : t.dramByte a = (v.arraysWritten (List.replicate (s.ageBlocks * 3) 0)).dramByte a := by
        rw [State.dramByte, hdram, hempty, hblocks, State.dramByte]
      have hnone : r.1 = 1 := by rw [hempty]
      refine ⟨by rw [htf (by decide), hrestore, hnone], fun i hi => ?_⟩
      have hzero := v.arraysWritten_zero (n := s.ageBlocks * 3) (i := i) (by omega)
      rw [hlive, hshadow] at hzero
      rw [hbyte, hbyte]
      exact hzero

end Sys2Proof.Machine

/-! ### Phases of the label port (R284 to R288) -/

namespace Sys2Proof.Machine

-- A proof that fills in an argument by its default tactic waits for all that stands before it: checked in order, none waits.
set_option Elab.async false

/-! #### Steps that are repeated -/

section
variable {α : Type} {s t : State} {l : List Nat} {r : Nat}

theorem RegsButEvents.each {xs : List α} {f : State → α → State} (h : RegsButEvents r s t l)
    (hf : ∀ u, ∀ x ∈ xs, RegsButEvents r s u l → RegsButEvents r s (f u x) l) : RegsButEvents r s (t.each xs f) l := by
  induction xs generalizing t with
  | nil => exact h
  | cons x xs ih => exact ih (hf t x (List.mem_cons_self ..) h) fun u y hy => hf u y (List.mem_cons_of_mem _ hy)

/-- A count that every step adds one to. -/
theorem State.fld_each_count {g : Fld} {xs : List α} {f : State → α → State}
    (hf : ∀ u, ∀ x ∈ xs, (f u x).fld g = min (u.fld g + 1) (2 ^ g.w - 1)) :
    (s.each xs f).fld g = min (s.fld g + xs.length) (2 ^ g.w - 1) := by
  induction xs generalizing s with
  | nil =>
    have := s.fld_lt g
    rw [List.length_nil, Nat.add_zero, Nat.min_eq_left (by omega)]
    rfl
  | cons x xs ih =>
    have hstep := ih (s := f s x) fun u y hy => hf u y (List.mem_cons_of_mem _ hy)
    rw [hf s x (List.mem_cons_self ..)] at hstep
    refine hstep.trans ?_
    rw [List.length_cons]
    omega

/-- What a step leaves as it was, the steps all leave as it was. -/
theorem State.get_each {β : Type} (g : State → β) {xs : List α} {f : State → α → State} (hf : ∀ u, ∀ x ∈ xs, g (f u x) = g u) :
    g (s.each xs f) = g s := by
  induction xs generalizing s with
  | nil => rfl
  | cons x xs ih =>
    exact (ih (s := f s x) fun u y hy => hf u y (List.mem_cons_of_mem _ hy)).trans (hf s x (List.mem_cons_self ..))

end

/-! #### The port's own steps -/

/-- What an event of the label port may change. -/
abbrev eventParts : List Part := [.regs, .sent, .pcie, .summaryOwed, .rings]

section
variable {s t : State} {p : List Part} {u : LabelUpd} {l : List Nat}

theorem RegsButEvents.labelPost (h : RegsButEvents (s.fld F.LABEL_EVT_RING) s t l) (hl : R.LABEL_EVT ∉ l) {code : Nat} {fs : List (Nat × Nat)} :
    RegsButEvents (s.fld F.LABEL_EVT_RING) s (t.post F.LABEL_EVT_RING code fs) l := h.post hl

/-- The port's fields that a step leaves, where it changes no register of theirs. -/
theorem RegsButEvents.labelFld {r : Nat} (h : RegsButEvents r s t l) {g : Fld} (hg : g.off ∉ l)
    (hlow : lowReg g.off = true := by decide) : t.fld g = s.fld g := h.fld hg (eventReg_of_low (of_decide_eq_true hlow))

/-! #### Pending entries that end -/

theorem State.dropPending_spec (s : State) (result : Nat) :
    RegsButEvents (s.fld F.LABEL_EVT_RING) s (s.dropPending result) [] ∧ Frame (.label :: eventParts) s (s.dropPending result) ∧
    (s.dropPending result).label = { s.label with pend := [] } := by
  obtain ⟨w, hw⟩ : ∃ w : State, w = { s with label := { s.label with pend := [] } } := ⟨_, rfl⟩
  have hform : s.dropPending result = w.each s.label.pend fun s u => s.labelEnd u 0 result 0 := by rw [hw]; rfl
  have hframe : Frame eventParts w (w.each s.label.pend fun s u => s.labelEnd u 0 result 0) :=
    Frame.refl.each fun _ _ _ h => h.post
  rw [hform]
  refine ⟨?_, .then (hw ▸ rfl) hframe (by decide), ?_⟩
  · exact (RegsButEvents.refl.of_regs (by rw [hw])).each fun _ _ _ h => h.labelPost (by simp)
  · rw [hframe.get (·.label), hw]

/-! #### The port stops -/

/-- The port's record with other planes of CURRENT and other interrupted records. -/
def LabelHid.shown (x : LabelHid) (cur : SMap Nat) (recs : List LabelRec) : LabelHid := { x with cur := cur, recs := recs }

theorem State.labelInterrupt_spec (s : State) (u : LabelUpd) :
    (s.labelInterrupt u).label =
      s.label.shown (s.labelInterrupt u).label.cur (s.label.recs ++ [recordOf u.word (journalWord u)]) ∧
    (s.labelInterrupt u).fld F.LABEL_INTERRUPTED_COUNT = min (s.fld F.LABEL_INTERRUPTED_COUNT + 1) (2 ^ 32 - 1) ∧
    RegsButEvents (s.fld F.LABEL_EVT_RING) s (s.labelInterrupt u) [R.LABEL_INTERRUPTED] ∧
    Frame (.label :: eventParts) s (s.labelInterrupt u) := by
  obtain ⟨w, hw⟩ : ∃ w : State, w = State.lblSetCur
    { s with label := s.label.shown s.label.cur (s.label.recs ++ [recordOf u.word (journalWord u)]) } u.panel (u.pixels.map fun p => (p, s.fld F.LABEL_CTRL_CLEAR_ROW)) := ⟨_, rfl⟩
  obtain ⟨x, hx⟩ : ∃ x, x = w.bump F.LABEL_INTERRUPTED_COUNT := ⟨_, rfl⟩
  obtain ⟨y, hy⟩ : ∃ y, y = (x.raise 0x44 1).labelEnd u u.slot 1 (u.phase + 1) := ⟨_, rfl⟩
  have hform : s.labelInterrupt u = y := by rw [hy, hx, hw]; rfl
  have hwregs : w.regs = s.regs := by rw [hw]; rfl
  have hwfld (g : Fld) : w.fld g = s.fld g := by rw [State.fld, State.rd, hwregs, State.fld, State.rd]
  have hxr : RegsBut w x [R.LABEL_INTERRUPTED] := by rw [hx]; exact RegsBut.refl.bump
  have hring : x.fld F.LABEL_EVT_RING = s.fld F.LABEL_EVT_RING := (hxr.fld (by decide)).trans (hwfld _)
  have hyr : RegsButEvents (x.fld F.LABEL_EVT_RING) x y [] := by rw [hy]; exact RegsButEvents.refl.raise.labelPost (by simp)
  have hyf : Frame (.label :: eventParts) w y := by rw [hy, hx]; exact Frame.refl.bump.raise.post
  have hlabel : y.label = w.label := by
    have : Frame eventParts w y := by rw [hy, hx]; exact Frame.refl.bump.raise.post
    exact this.get (·.label)
  rw [hform]
  refine ⟨by rw [hlabel, hw]; rfl, ?_, ?_, .then (hw ▸ rfl) hyf (by decide)⟩
  · rw [hyr.labelFld (by simp), hx, State.fld_bump_same _ _ _ (by decide), hwfld]
  · exact ((RegsButEvents.refl.of_regs hwregs).but hxr).trans (m := []) (by rw [← hring]; exact hyr) (by simp)

/-- Updates that become interrupted records, one after the other. -/
theorem State.labelInterrupts_spec (xs : List LabelUpd) (s : State) {t : State} (ht : t = s.each xs State.labelInterrupt) :
    t.label = s.label.shown t.label.cur (s.label.recs ++ xs.map (fun x => recordOf x.word (journalWord x))) ∧
    t.fld F.LABEL_INTERRUPTED_COUNT = min (s.fld F.LABEL_INTERRUPTED_COUNT + xs.length) (2 ^ 32 - 1) ∧
    RegsButEvents (s.fld F.LABEL_EVT_RING) s t [R.LABEL_INTERRUPTED] ∧ Frame (.label :: eventParts) s t := by
  subst ht
  refine ⟨?_, State.fld_each_count fun u x _ => (u.labelInterrupt_spec x).2.1, ?_, ?_⟩
  · induction xs generalizing s with
    | nil => rw [List.map_nil, List.append_nil]; rfl
    | cons x xs ih =>
      have hstep := ih (s.labelInterrupt x)
      rw [(s.labelInterrupt_spec x).1] at hstep
      refine hstep.trans ?_
      simp only [LabelHid.shown, List.map_cons, List.append_assoc, List.singleton_append]
      rfl
  · refine RegsButEvents.refl.each fun u x _ h => h.trans ?_ (fun _ h => h)
    rw [← h.labelFld (g := F.LABEL_EVT_RING) (by decide)]
    exact (u.labelInterrupt_spec x).2.2.1
  · exact Frame.refl.each fun u x _ h => h.then (u.labelInterrupt_spec x).2.2.2 (fun _ h => h)

/-- The port is switched off, with nothing running. -/
def State.labelOff (w : State) : State :=
  let s := ((w.emit .labelOff).setFld F.LABEL_STATUS_PWREN 0).setFld F.LABEL_STATUS_SCANNING 0
  { s with label := { s.label with run := [], stopDue := false } }

theorem State.labelOff_spec (w : State) :
    w.labelOff.bit F.LABEL_STATUS_PWREN = false ∧ w.labelOff.bit F.LABEL_STATUS_SCANNING = false ∧
    RegsBut w w.labelOff [R.LABEL_STATUS] ∧ Frame [.sent, .regs, .label] w w.labelOff ∧
    w.labelOff.label = { w.label with run := [], stopDue := false } := by
  obtain ⟨x, hx⟩ : ∃ x, x = ((w.emit .labelOff).setFld F.LABEL_STATUS_PWREN 0).setFld F.LABEL_STATUS_SCANNING 0 := ⟨_, rfl⟩
  obtain ⟨y, hy⟩ : ∃ y, y = w.labelOff := ⟨_, rfl⟩
  have hform : y = { x with label := { x.label with run := [], stopDue := false } } := by rw [hy, hx]; rfl
  have hregs : y.regs = x.regs := by rw [hform]
  have hfld (g : Fld) : y.fld g = x.fld g := by rw [State.fld, State.rd, hregs, State.fld, State.rd]
  have hxr : RegsBut w x [R.LABEL_STATUS] := by rw [hx]; exact RegsBut.refl.emit.setFld.setFld
  have hxf : Frame [.sent, .regs] w x := by rw [hx]; exact Frame.refl.emit.setFld.setFld
  rw [← hy]
  refine ⟨?_, ?_, hxr.of_regs hregs, (hxf.mono (by decide)).then (q := [.label]) (hform ▸ rfl) (by decide), ?_⟩
  · rw [State.bit, hfld, hx, State.fld_setFld_other _ _ _ _ (by decide), State.fld_setFld_same _ _ _ (by decide)]
    rfl
  · rw [State.bit, hfld, hx, State.fld_setFld_same _ _ _ (by decide)]
    rfl
  · rw [hform, hxf.get (·.label)]

theorem State.labelStop_spec (w : State) {u : State} (hu : u = w.labelStop) :
    u.label.run = [] ∧ u.label.pend = [] ∧ u.label.stopDue = false ∧
    u.bit F.LABEL_STATUS_PWREN = false ∧ u.bit F.LABEL_STATUS_SCANNING = false ∧ u.bit F.LABEL_STATUS_STOPPED = w.hvd.pfwLow ∧
    u.label.recs = w.label.recs ++ w.label.run.map (fun x => recordOf x.word (journalWord x)) ∧
    u.fld F.LABEL_INTERRUPTED_COUNT = min (w.fld F.LABEL_INTERRUPTED_COUNT + w.label.run.length) (2 ^ 32 - 1) ∧
    RegsButEvents (w.fld F.LABEL_EVT_RING) w u [R.LABEL_STATUS, R.LABEL_INTERRUPTED] ∧
    Frame (.label :: eventParts) w u ∧
    u.label = ({ w.label with run := [], pend := [], stopDue := false } : LabelHid).shown u.label.cur u.label.recs := by
  obtain ⟨a, ha⟩ : ∃ a, a = w.labelOff := ⟨_, rfl⟩
  obtain ⟨b, hb⟩ : ∃ b, b = a.each w.label.run State.labelInterrupt := ⟨_, rfl⟩
  obtain ⟨c, hc⟩ : ∃ c, c = b.dropPending 2 := ⟨_, rfl⟩
  obtain ⟨d, hd⟩ : ∃ d, d = c.setBit F.LABEL_STATUS_STOPPED c.hvd.pfwLow := ⟨_, rfl⟩
  have hform : u = d.post F.LABEL_EVT_RING 0x0703 [(2, 2), (3, 0), (11, w.label.run.length)] := by rw [hu, hd, hc, hb, ha]; rfl
  obtain ⟨hen, hscan, hareg, haf, halab⟩ := w.labelOff_spec
  rw [← ha] at hen hscan hareg haf halab
  obtain ⟨hblab, hbcount, hbreg, hbf⟩ := State.labelInterrupts_spec _ _ hb
  obtain ⟨hcreg, hcf, hclab⟩ := b.dropPending_spec 2
  rw [← hc] at hcreg hcf hclab
  have hring : a.fld F.LABEL_EVT_RING = w.fld F.LABEL_EVT_RING := hareg.fld (by decide)
  have hringb : b.fld F.LABEL_EVT_RING = w.fld F.LABEL_EVT_RING := (hbreg.labelFld (by decide)).trans hring
  have hdr : RegsBut c d [R.LABEL_STATUS] := by rw [hd]; exact RegsBut.refl.setBit
  have hdf : Frame [.regs] c d := by rw [hd]; exact Frame.refl.setBit
  have hac : RegsButEvents (w.fld F.LABEL_EVT_RING) a c [R.LABEL_INTERRUPTED] :=
    (show RegsButEvents _ a b _ by rw [← hring]; exact hbreg).trans (m := []) (by rw [← hringb]; exact hcreg) (by simp)
  have hwd : RegsButEvents (w.fld F.LABEL_EVT_RING) w d [R.LABEL_STATUS, R.LABEL_INTERRUPTED] :=
    ((hareg.mono (by simp)).events.trans hac (by simp)).but hdr
  have hringd : d.fld F.LABEL_EVT_RING = w.fld F.LABEL_EVT_RING := hwd.labelFld (by decide)
  have hdu : RegsButEvents (w.fld F.LABEL_EVT_RING) d u [] := by
    rw [hform, ← hringd]
    exact RegsButEvents.refl.labelPost (by simp)
  have hwc : Frame (.label :: eventParts) w c := ((haf.mono (by decide)).then hbf (by decide)).then hcf (by decide)
  have huf : Frame eventParts d u := by rw [hform]; exact Frame.refl.post
  have hpfw : c.hvd.pfwLow = w.hvd.pfwLow := hwc.get (·.hvd.pfwLow)
  have hulab : u.label = { b.label with pend := [] } := ((huf.get (·.label)).trans (hdf.get (·.label))).trans hclab
  have hfull : u.label = ({ w.label with run := [], pend := [], stopDue := false } : LabelHid).shown b.label.cur
      (w.label.recs ++ w.label.run.map (fun x => recordOf x.word (journalWord x))) := by
    rw [hulab, hblab, halab]
    rfl
  have hstatus {f : Fld} (hf : f.off = R.LABEL_STATUS) : u.fld f = d.fld f := by
    refine hdu.labelFld (by simp) ?_
    rw [hf]
    decide
  have hkept {f : Fld} (hf : f.off = R.LABEL_STATUS) (hd' : f.lo + f.w ≤ 3) : u.bit f = a.bit f := by
    rw [State.bit, hstatus hf, hd, State.setBit, State.fld_setFld_other _ _ _ _ (.inr (.inr hd')), hac.labelFld (by rw [hf]; decide) (by rw [hf]; decide), State.bit]
  refine ⟨?_, ?_, ?_, ?_, ?_, ?_, ?_, ?_, ?_, ?_, ?_⟩
  · rw [hfull]; rfl
  · rw [hfull]; rfl
  · rw [hfull]; rfl
  · rw [hkept rfl (by decide), hen]
  · rw [hkept rfl (by decide), hscan]
  · rw [State.bit, hstatus rfl, ← State.bit, hd, State.bit_setBit_same _ _ (by decide) (by decide), hpfw]
  · rw [hfull]; rfl
  · rw [hdu.labelFld (by simp), hdr.fld (by decide), show c.fld F.LABEL_INTERRUPTED_COUNT = b.fld _ from hcreg.labelFld (by simp), hbcount,
      hareg.fld (by decide)]
  · exact hwd.trans hdu (by simp)
  · exact (hwc.then hdf (by decide)).then huf (by decide)
  · rw [hfull]; rfl

end

end Sys2Proof.Machine

/-! ### Updates that advance and end (R284, R288) -/

namespace Sys2Proof.Machine

-- A proof that fills in an argument by its default tactic waits for all that stands before it: checked in order, none waits.
set_option Elab.async false

section
variable {α : Type} {s t v : State} {u : LabelUpd} {l : List Nat}

/-- The ends of updates change CURRENT and the records, and free words of the journal. -/
structure PortEnds (s t : State) : Prop where
  frame : Frame (.label :: .pstore :: eventParts) s t
  label : t.label = s.label.shown t.label.cur t.label.recs
  store : t.pstore = { s.pstore with buf := t.pstore.buf }
  freed : ∀ i, s.persRead i = 0 → t.persRead i = 0

theorem PortEnds.refl : PortEnds s s := ⟨.refl, rfl, rfl, fun _ h => h⟩

theorem PortEnds.trans (h : PortEnds s t) (k : PortEnds t v) : PortEnds s v :=
  ⟨h.frame.trans k.frame, by rw [k.label, h.label]; rfl, by rw [k.store, h.store], fun i hi => k.freed i (h.freed i hi)⟩

theorem PortEnds.each {xs : List α} {f : State → α → State} (hf : ∀ u, ∀ x ∈ xs, PortEnds u (f u x)) : PortEnds s (s.each xs f) := by
  induction xs generalizing s with
  | nil => exact .refl
  | cons x xs ih => exact (hf s x (List.mem_cons_self ..)).trans (ih fun u y hy => hf u y (List.mem_cons_of_mem _ hy))

/-- Registers and what is sent say nothing of the journal. -/
theorem PortEnds.of_events (h : Frame eventParts s t) : PortEnds s t where
  frame := h.mono (by decide)
  label := by rw [h.get (·.label)]; rfl
  store := by rw [h.get (·.pstore)]
  freed i hi := (congrFun (State.persRead_congr (h.get (·.pstore.buf)) (h.get (·.pstore.words))) i).trans hi

theorem PortEnds.lblSetCur (p : Nat) (px : List ((Nat × Nat) × Nat)) : PortEnds s (s.lblSetCur p px) :=
  ⟨Frame.mono (q := [.label]) rfl (by decide), rfl, rfl, fun _ h => h⟩

theorem PortEnds.wordFreed (i : Nat) : PortEnds s (s.persWrite i 0) where
  frame := Frame.refl.persWrite
  label := rfl
  store := rfl
  freed j hj := by rw [State.persRead_persWrite, hj, ite_self]

/-- An update that ends. -/
theorem State.labelComplete_spec (s : State) (u : LabelUpd) :
    PortEnds s (s.labelComplete u) ∧ (s.labelComplete u).journal u.word = 0 ∧
    (s.labelComplete u).fld F.LABEL_UPDATES_COUNT = min (s.fld F.LABEL_UPDATES_COUNT + 1) (2 ^ 32 - 1) ∧
    RegsButEvents (s.fld F.LABEL_EVT_RING) s (s.labelComplete u) [R.LABEL_UPDATES, R.LABEL_PANEL_DONE u.panel] := by
  obtain ⟨a, ha⟩ : ∃ a, a = s.lblSetCur u.panel (u.pixels.zip (u.store.map (· / 16))) := ⟨_, rfl⟩
  obtain ⟨b, hb⟩ : ∃ b, b = a.persWrite (persJournal + u.word) 0 := ⟨_, rfl⟩
  obtain ⟨c, hc⟩ : ∃ c, c = (b.bump F.LABEL_UPDATES_COUNT).bump (F.LABEL_PANEL_DONE_COUNT u.panel) := ⟨_, rfl⟩
  obtain ⟨d, hd⟩ : ∃ d, d = c.labelEnd u u.slot 0 u.len := ⟨_, rfl⟩
  have hform : s.labelComplete u = d := by rw [hd, hc, hb, ha]; rfl
  have hregs : b.regs = s.regs := by rw [hb, ha]; rfl
  have hbs : RegsBut s b [] := RegsBut.refl.of_regs hregs
  have hbc : RegsBut b c [R.LABEL_UPDATES, R.LABEL_PANEL_DONE u.panel] := by rw [hc]; exact RegsBut.refl.bump.bump
  have hring : c.fld F.LABEL_EVT_RING = s.fld F.LABEL_EVT_RING :=
    (hbc.fld (by
    show 0x44140 ∉ [0x44134, 0x44208 + 0x10 * u.panel]
    rw [List.mem_cons, List.mem_singleton]
    omega)).trans (hbs.fld (by simp))
  have hcd : RegsButEvents (s.fld F.LABEL_EVT_RING) c d [] := by
    rw [hd, ← hring]
    exact RegsButEvents.refl.labelPost (by simp)
  have hends : PortEnds b d := .of_events (by rw [hd, hc]; exact Frame.refl.bump.bump.post)
  have hsb : PortEnds s b := by rw [hb, ha]; exact (PortEnds.lblSetCur _ _).trans (.wordFreed _)
  rw [hform]
  refine ⟨hsb.trans hends, ?_, ?_, ?_⟩
  · refine hends.freed _ ?_
    rw [hb, State.persRead_persWrite, if_pos rfl]
  · rw [hcd.labelFld (by simp), hc, State.fld_bump_other _ _ _ _ (.inl (by dsimp only; omega)), State.fld_bump_same _ _ _ (by decide), hbs.fld (by simp)]
  · exact ((hbs.mono (by simp)).events.but hbc).trans hcd (by simp)

/-- The journal words of the updates that end are freed. -/
theorem journal_labelCompletes (es : List LabelUpd) (s : State) : ∀ u ∈ es, (s.each es State.labelComplete).journal u.word = 0 := by
  induction es generalizing s with
  | nil => exact fun u hu => absurd hu List.not_mem_nil
  | cons x xs ih =>
    intro u hu
    obtain rfl | hu := List.mem_cons.mp hu
    · have hrest : PortEnds (s.labelComplete u) ((s.labelComplete u).each xs State.labelComplete) :=
        .each fun y z _ => (y.labelComplete_spec z).1
      exact hrest.freed _ (s.labelComplete_spec u).2.1
    · exact ih (s.labelComplete x) u hu

theorem State.labelClear_spec (s : State) (u : LabelUpd) :
    PortEnds s (s.labelClear u) ∧ RegsButEvents (s.fld F.LABEL_EVT_RING) s (s.labelClear u) [] := by
  obtain ⟨gone, hg⟩ : ∃ gone, gone = s.label.recs.filter fun r => r.inside u (s.lblW r.panel) (s.lblH r.panel) := ⟨_, rfl⟩
  obtain ⟨w, hw⟩ : ∃ w : State, w = { s with label := { s.label with recs := s.label.recs.filter fun r => !gone.contains r } } := ⟨_, rfl⟩
  have hform : s.labelClear u = w.each gone fun s r =>
      (s.persWrite (persJournal + r.word) 0).post F.LABEL_EVT_RING 0x0703 [(2, 1), (3, r.panel), (11, 1)] := by rw [hw, hg]; rfl
  have hsw : PortEnds s w := by
    rw [hw]
    exact ⟨Frame.mono (q := [.label]) rfl (by decide), rfl, rfl, fun _ h => h⟩
  rw [hform]
  refine ⟨hsw.trans (.each fun x r _ => ?_), ?_⟩
  · obtain ⟨y, hy⟩ : ∃ y, y = x.persWrite (persJournal + r.word) 0 := ⟨_, rfl⟩
    have hxy : PortEnds x y := hy ▸ .wordFreed _
    rw [← hy]
    exact hxy.trans (.of_events Frame.refl.post)
  · refine (RegsButEvents.refl.of_regs (by rw [hw])).each fun x r _ h => ?_
    exact (h.of_regs (u := x.persWrite (persJournal + r.word) 0) rfl).labelPost (by simp)

/-- The updates that a phase ends, and those that run on. -/
def LabelHid.ended (x : LabelHid) : List LabelUpd := (x.run.map fun u => { u with phase := u.phase + 1 }).filter fun u => u.len ≤ u.phase

def LabelHid.going (x : LabelHid) : List LabelUpd := (x.run.map fun u => { u with phase := u.phase + 1 }).filter fun u => u.phase < u.len

/-- Only the updates that go on run. -/
def State.advanced (s : State) : State := { s with label := { s.label with run := s.label.going } }

theorem State.labelAdvance_eq (s : State) : s.labelAdvance =
    (s.advanced.each s.label.ended State.labelComplete).each (s.label.ended.filter (·.clear)) State.labelClear := rfl

theorem State.labelAdvance_spec (s : State) {v : State} (hv : v = s.labelAdvance) :
    v.label = ({ s.label with run := s.label.going } : LabelHid).shown v.label.cur v.label.recs ∧
    (∀ u ∈ s.label.ended, v.journal u.word = 0) ∧
    v.fld F.LABEL_UPDATES_COUNT = min (s.fld F.LABEL_UPDATES_COUNT + s.label.ended.length) (2 ^ 32 - 1) ∧
    RegsButEvents (s.fld F.LABEL_EVT_RING) s v (R.LABEL_UPDATES :: s.label.ended.map fun u => R.LABEL_PANEL_DONE u.panel) ∧
    Frame (.label :: .pstore :: eventParts) s v ∧ v.pstore = { s.pstore with buf := v.pstore.buf } := by
  obtain ⟨es, hes⟩ : ∃ es, es = s.label.ended := ⟨_, rfl⟩
  obtain ⟨a, ha⟩ : ∃ a, a = s.advanced := ⟨_, rfl⟩
  obtain ⟨b, hb⟩ : ∃ b, b = a.each es State.labelComplete := ⟨_, rfl⟩
  have hform : v = b.each (es.filter (·.clear)) State.labelClear := by rw [hv, s.labelAdvance_eq, hb, ha, hes]
  have haregs : a.regs = s.regs := by rw [ha]; rfl
  have halow {o : Nat} (ho : o < 0x44200) : o ∉ es.map fun u => R.LABEL_PANEL_DONE u.panel := by
    simp only [List.mem_map, not_exists, not_and, R.LABEL_PANEL_DONE]
    omega
  have hevt : R.LABEL_EVT ∉ R.LABEL_UPDATES :: es.map fun u => R.LABEL_PANEL_DONE u.panel := by
    rw [List.mem_cons, not_or]
    exact ⟨by decide, halow (by decide)⟩
  have hab : RegsButEvents (s.fld F.LABEL_EVT_RING) s b (R.LABEL_UPDATES :: es.map fun u => R.LABEL_PANEL_DONE u.panel) := by
    rw [hb]
    refine (RegsButEvents.refl.of_regs haregs).each fun x u hu h => h.trans ?_ (m := [R.LABEL_UPDATES, R.LABEL_PANEL_DONE u.panel]) ?_
    · rw [← h.labelFld (g := F.LABEL_EVT_RING) hevt]
      exact (x.labelComplete_spec u).2.2.2
    · simp only [List.mem_cons, List.not_mem_nil, or_false, forall_eq_or_imp, forall_eq, true_or, true_and, List.mem_map]
      exact .inr ⟨u, hu, rfl⟩
  have hringb : b.fld F.LABEL_EVT_RING = s.fld F.LABEL_EVT_RING := hab.labelFld hevt
  have hbv : RegsButEvents (s.fld F.LABEL_EVT_RING) b v [] := by
    rw [hform, ← hringb]
    refine RegsButEvents.refl.each fun x u _ h => h.trans ?_ (m := []) (by simp)
    rw [← h.labelFld (g := F.LABEL_EVT_RING) (by simp)]
    exact (x.labelClear_spec u).2
  have hae : PortEnds a b := hb ▸ .each fun x u _ => (x.labelComplete_spec u).1
  have hbe : PortEnds b v := hform ▸ .each fun x u _ => (x.labelClear_spec u).1
  have hav := hae.trans hbe
  have hjournal : ∀ u ∈ es, b.journal u.word = 0 := hb ▸ journal_labelCompletes es a
  have halab : a.label = { s.label with run := s.label.going } := by rw [ha]; rfl
  rw [← hes]
  refine ⟨by rw [← halab]; exact hav.label, fun u hu => hbe.freed _ (hjournal u hu), ?_, hab.trans hbv (by simp), ?_, ?_⟩
  · rw [hbv.labelFld (by simp), hb, State.fld_each_count fun x u _ => (x.labelComplete_spec u).2.2.1, State.fld, State.rd, haregs,
      State.fld, State.rd]
  · exact Frame.then (q := .label :: .pstore :: eventParts) (ha ▸ Frame.mono (q := [.label]) rfl (by decide)) hav.frame (fun _ h => h)
  · rw [hav.store, ha]
    rfl

end

end Sys2Proof.Machine

/-! ### Updates that start, and phase boundaries (R284, R285) -/

namespace Sys2Proof.Machine

-- A proof that fills in an argument by its default tactic waits for all that stands before it: checked in order, none waits.
set_option Elab.async false

section
variable {s t : State} {e : LabelUpd} {w : Nat} {p : List Part}

/-! #### Scans -/

theorem State.labelScan_spec (s : State) : s.labelScan.bit F.LABEL_STATUS_SCANNING = (!s.label.run.isEmpty) ∧
    RegsBut s s.labelScan [R.LABEL_STATUS] ∧ Frame [.regs, .sent] s s.labelScan ∧
    s.labelScan.bit F.LABEL_STATUS_PWREN = s.bit F.LABEL_STATUS_PWREN ∧
    s.labelScan.bit F.LABEL_STATUS_PWRGOOD = s.bit F.LABEL_STATUS_PWRGOOD := by
  obtain ⟨a, ha⟩ : ∃ a, a = s.setBit F.LABEL_STATUS_SCANNING (!s.label.run.isEmpty) := ⟨_, rfl⟩
  have hform : s.labelScan = a.each (List.range 8) fun s p =>
      if (s.lblRunning p).isEmpty || s.padHeld dLABEL then s else s.emit (.labelScan p (s.scanParts p)) := by rw [ha]; rfl
  have hregs : s.labelScan.regs = a.regs := by
    rw [hform]
    exact State.get_each State.regs fun u x _ => by split <;> rfl
  have hsent : Frame [.sent] a s.labelScan := by
    rw [hform]
    exact Frame.refl.each fun u x _ h => .ite h h.emit
  have hfld (f : Fld) : s.labelScan.fld f = a.fld f := by rw [State.fld, State.rd, hregs, State.fld, State.rd]
  refine ⟨?_, ?_, ?_, ?_, ?_⟩
  · rw [State.bit, hfld, ← State.bit, ha, State.bit_setBit_same _ _ (by decide) (by decide)]
  · exact (show RegsBut s a _ by rw [ha]; exact RegsBut.refl.setBit).of_regs hregs
  · exact (show Frame _ s a by rw [ha]; exact Frame.refl.setBit).then hsent (by decide)
  · rw [State.bit, hfld, ha, State.setBit, State.fld_setFld_other _ _ _ _ (by decide), ← State.bit]
  · rw [State.bit, hfld, ha, State.setBit, State.fld_setFld_other _ _ _ _ (by decide), ← State.bit]

/-- With nothing running, no panel is scanned. -/
theorem State.labelScan_idle (h : s.label.run = []) : s.labelScan = s.setFld F.LABEL_STATUS_SCANNING 0 := by
  obtain ⟨a, ha⟩ : ∃ a, a = s.setFld F.LABEL_STATUS_SCANNING 0 := ⟨_, rfl⟩
  have hform : s.labelScan = a.each (List.range 8) fun s p =>
      if (s.lblRunning p).isEmpty || s.padHeld dLABEL then s else s.emit (.labelScan p (s.scanParts p)) := by
    rw [ha, State.labelScan, h]
    rfl
  have hrun (p : Nat) : (a.lblRunning p).isEmpty = true := by
    rw [State.lblRunning, ha, show (s.setFld F.LABEL_STATUS_SCANNING 0).label.run = s.label.run from rfl, h]
    rfl
  rw [hform, ← ha]
  clear hform ha
  induction List.range 8 with
  | nil => rfl
  | cons x xs ih => exact (congrArg (State.each · xs _) (if_pos (by rw [hrun, Bool.true_or]))).trans ih

/-! #### Starts -/

/-- The pending entries of one panel are tried. -/
def State.startPanel (s : State) (acc : State × Bool) (p : Nat) : State × Bool :=
  let r := (s.label.pend.filter fun u => u.panel == p).foldl labelTry (acc.1, acc.2, [])
  (r.1, r.2.1)

theorem State.labelStarts_eq (s : State) : s.labelStarts = ((List.range 8).foldl s.startPanel (s, false)).1 := by
  unfold State.labelStarts
  refine congrArg Prod.fst (congrArg (List.foldl · (s, false) (List.range 8)) ?_)
  funext acc p
  rfl

theorem foldl_startPanel_idle {acc : State × Bool} {ps : List Nat} (h : ∀ p ∈ ps, ∀ u ∈ s.label.pend, u.panel ≠ p) :
    ps.foldl s.startPanel acc = acc := by
  induction ps with
  | nil => rfl
  | cons p ps ih =>
    have hidle : s.startPanel acc p = acc := by
      unfold State.startPanel
      rw [List.filter_eq_nil_iff.mpr fun u hu => by simpa using h p (List.mem_cons_self ..) u hu]
      rfl
    rw [List.foldl_cons, hidle, ih fun q hq => h q (List.mem_cons_of_mem _ hq)]

/-- The one entry that waits is tried. -/
theorem State.labelStarts_one (hp : s.label.pend = [e]) (he : e.panel < 8) {x : State} {b : Bool} {rest : List LabelUpd}
    (ht : labelTry (s, false, []) e = (x, b, rest)) : s.labelStarts = x := by
  have hmem : ∀ u ∈ s.label.pend, u = e := by simp [hp]
  obtain ⟨l, r, hsplit⟩ := List.append_of_mem (List.mem_range.mpr he)
  have hnd : (l ++ e.panel :: r).Nodup := hsplit ▸ List.nodup_range
  obtain ⟨-, hr, hl⟩ := List.nodup_append.mp hnd
  have hbefore : l.foldl s.startPanel (s, false) = (s, false) := foldl_startPanel_idle fun p hpl u hu => by
    rw [hmem u hu]
    exact (hl p hpl e.panel (List.mem_cons_self ..)).symm
  have hafter : r.foldl s.startPanel (x, b) = (x, b) := foldl_startPanel_idle fun p hpr u hu => by
    rw [hmem u hu]
    exact fun h => (List.nodup_cons.mp hr).1 (h ▸ hpr)
  have hself : s.startPanel (s, false) e.panel = (x, b) := by
    unfold State.startPanel
    rw [hp, List.filter_cons_of_pos (by simp), List.filter_nil, List.foldl_cons, List.foldl_nil, ht]
  rw [s.labelStarts_eq, hsplit, List.foldl_append, hbefore, List.foldl_cons, hself, hafter]

section
variable (hrun : s.label.run = []) (harea : e.area ≤ 4194304) (htime : s.lblScanTime [e] ≤ s.lblBudget)
include hrun harea htime

theorem labelTry_power (hg : s.bit F.LABEL_STATUS_PWRGOOD = false) :
    labelTry (s, false, []) e = (s.setFld F.LABEL_STATUS_PWREN 1, true, [e]) := by
  have hlr : s.lblRunning e.panel = [] := by rw [State.lblRunning, hrun]; rfl
  unfold labelTry
  simp only [hlr, hrun, hg, List.length_nil, List.any_nil, List.foldl_nil, List.nil_append, Nat.zero_add, Bool.or_false,
    Bool.false_eq_true, Bool.not_false, reduceIte, Nat.not_lt.mpr harea, Nat.not_lt.mpr htime, decide_false, show ¬32 ≤ 0 by omega]

theorem labelTry_start (hg : s.bit F.LABEL_STATUS_PWRGOOD = true) (hj : s.journalNext = some w) :
    labelTry (s, false, []) e = (s.labelStart e w, false, []) := by
  have hlr : s.lblRunning e.panel = [] := by rw [State.lblRunning, hrun]; rfl
  unfold labelTry
  simp only [hlr, hrun, hg, hj, List.length_nil, List.any_nil, List.foldl_nil, List.nil_append, Nat.zero_add, Bool.or_false,
    Bool.false_eq_true, Bool.not_true, reduceIte, Nat.not_lt.mpr harea, Nat.not_lt.mpr htime, decide_false, show ¬32 ≤ 0 by omega]

end

/-- An entry as it runs at phase 0. -/
def State.started (s : State) (e : LabelUpd) (w : Nat) : LabelUpd :=
  { e with
    slot := 0, range := s.lblRange, len := s.lblLen e.mode s.lblRange, phase := 0, word := w,
    store := e.pixels.map fun p => (if e.clear then s.fld F.LABEL_CTRL_CLEAR_ROW else s.lblCur e.panel p.1 p.2) +
      16 * SMap.get (fun _ => 0) s.label.req (lblKey e.panel p.2 p.1) }

theorem State.labelStart_spec (hrun : s.label.run = []) (hpend : s.label.pend = [e]) {t : State} (ht : t = s.labelStart e w) :
    t.label = { s.label with run := [s.started e w], pend := [], ptr := (w + 1) % 1024 } ∧
    t.journal w = journalWord (s.started e w) ∧ (∀ i, i ≠ persJournal + w → t.persRead i = s.persRead i) ∧
    RegsButEvents (s.fld F.LABEL_EVT_RING) s t [] ∧ Frame (.label :: .pstore :: eventParts) s t ∧
    t.pstore = { s.pstore with buf := t.pstore.buf } := by
  obtain ⟨v, hv⟩ : ∃ v, v = s.started e w := ⟨_, rfl⟩
  obtain ⟨a, ha⟩ : ∃ a : State, a = { s with label := { s.label with pend := s.label.pend.erase e, run := s.label.run ++ [v], ptr := (w + 1) % 1024 } } :=
    ⟨_, rfl⟩
  obtain ⟨b, hb⟩ : ∃ b, b = a.persWrite (persJournal + w) (journalWord v) := ⟨_, rfl⟩
  have hform : t = b.post F.LABEL_EVT_RING 0x0700
      [(3, v.panel), (5, v.slot), (4, v.range), (13, v.queue), (16, v.tag), (9, v.len), (10, v.word)] := by
    have hlr : s.lblRunning e.panel = [] := by rw [State.lblRunning, hrun]; rfl
    rw [ht, State.labelStart, hlr, hb, ha, hv]
    rfl
  have hregs : b.regs = s.regs := by rw [hb, ha]; rfl
  have hbt : Frame eventParts b t := by rw [hform]; exact Frame.refl.post
  have hpers : t.persRead = b.persRead := State.persRead_congr (hbt.get (·.pstore.buf)) (hbt.get (·.pstore.words))
  have hread (i : Nat) : t.persRead i = if i = persJournal + w then journalWord v else s.persRead i := by
    rw [hpers, hb, State.persRead_persWrite, ha]
    rfl
  rw [← hv]
  refine ⟨?_, ?_, fun i hi => ?_, ?_, ?_, ?_⟩
  · rw [hbt.get (·.label), hb, ha, hpend, hrun]
    simp only [State.persWrite, List.erase_cons_head, List.nil_append]
  · rw [State.journal, hread, if_pos rfl]
  · rw [hread, if_neg hi]
  · rw [hform]
    exact (RegsButEvents.refl.of_regs hregs).labelPost (by simp)
  · refine Frame.then (q := eventParts) ?_ hbt (by decide)
    rw [hb, ha]
    rfl
  · rw [hbt.get (·.pstore), hb, ha]
    rfl

/-! #### What LABEL.STATUS does not enter -/

section
variable (h : RegsBut s t [R.LABEL_STATUS]) (hf : Frame [.regs] s t)
include h

theorem RegsBut.lblScanTime (us : List LabelUpd) : t.lblScanTime us = s.lblScanTime us := by
  have hw (p : Nat) : t.lblW p = s.lblW p := h.fld (by simp only [List.mem_singleton, R.LABEL_STATUS]; omega)
  have hh (p : Nat) : t.lblH p = s.lblH p := h.fld (by simp only [List.mem_singleton, R.LABEL_STATUS]; omega)
  simp only [State.lblScanTime, hw, hh]

theorem RegsBut.lblBudget : t.lblBudget = s.lblBudget := by
  simp only [State.lblBudget, State.lblPhase, State.lblClock, h.fld (g := F.LABEL_CTRL_DIV) (by decide),
    h.fld (g := F.LABEL_PHASE_RATE) (by decide)]

theorem RegsBut.thermReading (src : Nat) : t.thermReading src = s.thermReading src := by
  have h0 : t.bit F.HVD_THERM0_VALID = s.bit F.HVD_THERM0_VALID := congrArg (· == 1) (h.fld (by decide))
  have h1 : t.bit F.HVD_THERM1_VALID = s.bit F.HVD_THERM1_VALID := congrArg (· == 1) (h.fld (by decide))
  unfold State.thermReading
  rw [h.domOn, h0, h1, h.fld (g := F.HVD_THERM0_TEMP) (by decide), h.fld (g := F.HVD_THERM1_TEMP) (by decide)]

theorem RegsBut.lblRange : t.lblRange = s.lblRange := by
  have hbound (k : Nat) (hk : k ∈ List.range 15) : t.lblBound k = s.lblBound k := by
    rw [List.mem_range] at hk
    exact congrArg (pointAt · _) (h _ (by simp only [List.mem_singleton, R.LABEL_STATUS, R.LABEL_TEMP_BNDn]; omega))
  unfold State.lblRange
  rw [h.thermReading, h.fld (g := F.LABEL_CTRL_TEMP_SRC) (by decide), h.fld (g := F.LABEL_TEMP_MAN_TEMP) (by decide)]
  exact congrArg List.length (List.filter_congr fun k hk => by rw [hbound k hk])

theorem RegsBut.lblLen (m r : Nat) : t.lblLen m r = s.lblLen m r := by
  have hlo (i : Nat) : t.fld (F.LABEL_WF_LEN_LO i) = s.fld (F.LABEL_WF_LEN_LO i) :=
    h.fld (by simp only [List.mem_singleton, R.LABEL_STATUS]; omega)
  have hhi (i : Nat) : t.fld (F.LABEL_WF_LEN_HI i) = s.fld (F.LABEL_WF_LEN_HI i) :=
    h.fld (by simp only [List.mem_singleton, R.LABEL_STATUS]; omega)
  simp only [State.lblLen, hlo, hhi]

include hf in
theorem RegsBut.started : t.started e w = s.started e w := by
  have hlabel : t.label = s.label := hf.get (·.label)
  simp only [State.started, State.lblCur, hlabel, h.lblRange, h.lblLen, h.fld (g := F.LABEL_CTRL_CLEAR_ROW) (by decide)]

end

/-! #### The level of LBL_PWRGOOD -/

/-- LBL_PWRGOOD as PHASE_BOUNDARY brings it. -/
theorem State.goodShown_spec (s : State) (good : Bool) {p : State} (hp : p = s.setBit F.LABEL_STATUS_PWRGOOD good) :
    p.bit F.LABEL_STATUS_PWRGOOD = good ∧ p.bit F.LABEL_STATUS_PWREN = s.bit F.LABEL_STATUS_PWREN ∧
    p.bit F.LABEL_STATUS_STOPPED = s.bit F.LABEL_STATUS_STOPPED ∧ RegsBut s p [R.LABEL_STATUS] ∧ Frame [.regs] s p := by
  subst hp
  refine ⟨State.bit_setBit_same _ _ (by decide) (by decide), ?_, ?_, RegsBut.refl.setBit, Frame.refl.setBit⟩
  · rw [State.bit, State.setBit, State.fld_setFld_other _ _ _ _ (by decide), ← State.bit]
  · rw [State.bit, State.setBit, State.fld_setFld_other _ _ _ _ (by decide), ← State.bit]

/-- With nothing running, a phase advances nothing. -/
theorem State.labelAdvance_idle (h : s.label.run = []) : s.labelAdvance = s := by
  have hgoing : s.label.going = s.label.run := by rw [LabelHid.going, h]; rfl
  have hended : s.label.ended = [] := by rw [LabelHid.ended, h]; rfl
  rw [s.labelAdvance_eq, hended, State.advanced, hgoing]
  rfl

section
variable {good : Bool} {q : State} (hon : s.domOn dLABEL = true) (hq : q = s.setBit F.LABEL_STATUS_PWRGOOD good)
include hon hq

theorem State.phaseBoundary_lost (hg : good = false) (hrun : s.label.run ≠ []) : s.phaseBoundary good = q.labelStop.labelPower 2 := by
  subst hq
  rw [State.phaseBoundary, hon, if_neg (by decide)]
  refine if_pos ?_
  rw [show (s.setBit F.LABEL_STATUS_PWRGOOD good).label.run = s.label.run from rfl, hg]
  simpa using hrun

section
variable (h : good = true ∨ s.label.run = [])
include h

theorem State.phaseBoundary_stop (hstop : s.label.stopDue = true) : s.phaseBoundary good = q.labelStop := by
  subst hq
  have hno : ¬(!good && !s.label.run.isEmpty) = true := by obtain h | h := h <;> simp [h]
  rw [State.phaseBoundary, hon, if_neg (by decide)]
  exact (if_neg hno).trans (if_pos hstop)

theorem State.phaseBoundary_go (hstop : s.label.stopDue = false) : s.phaseBoundary good =
    (if s.hvd.pfwLow || s.bit F.LABEL_STATUS_STOPPED then q.labelAdvance else q.labelAdvance.labelStarts).labelScan := by
  obtain ⟨-, -, hstopped, -, hqf⟩ := s.goodShown_spec good hq
  obtain ⟨v, hv⟩ : ∃ v, v = q.labelAdvance := ⟨_, rfl⟩
  obtain ⟨-, -, -, hvregs, hvf, -⟩ := q.labelAdvance_spec hv
  have hpfw : v.hvd.pfwLow = s.hvd.pfwLow := (hvf.get (·.hvd.pfwLow)).trans (hqf.get (·.hvd.pfwLow))
  have hkept : v.bit F.LABEL_STATUS_STOPPED = s.bit F.LABEL_STATUS_STOPPED := by
    rw [State.bit, hvregs.labelFld ?_, ← State.bit, hstopped]
    rw [List.mem_cons, List.mem_map, not_or]
    exact ⟨by decide, fun ⟨u, _, hu⟩ => absurd (show 0x44208 + 0x10 * u.panel = 0x44120 from hu) (by omega)⟩
  have hno : ¬(!good && !s.label.run.isEmpty) = true := by obtain h | h := h <;> simp [h]
  rw [← hv, ← hpfw, ← hkept, hv, hq, State.phaseBoundary, hon, if_neg (by decide)]
  exact (if_neg hno).trans (if_neg (show ¬s.label.stopDue = true by rw [hstop]; decide))

end

end

end

/-! #### The commands -/

/-- A frame with the port's own record written out. -/
theorem Frame.withLabel {s t : State} {p : List Part} {x : LabelHid} (h : Frame p s t) (hx : t.label = x) :
    t = { s.taking p t with label := x } := by
  rw [← show t = s.taking p t from h, ← hx]

theorem Frame.withLabelStore {s t : State} {p : List Part} {x : LabelHid} {y : PStore} (h : Frame p s t) (hx : t.label = x)
    (hy : t.pstore = y) : t = { s.taking p t with label := x, pstore := y } := by
  rw [← show t = s.taking p t from h, ← hx, ← hy]

/-- No update ends: the phases alone go on. -/
theorem State.labelAdvance_none {s : State} (h : s.label.ended = []) : s.labelAdvance = s.advanced := by
  rw [s.labelAdvance_eq, h]
  rfl

theorem State.labelPwrTimeout_none {s : State} (h : s.domOn dLABEL = false ∨ s.bit F.LABEL_STATUS_PWREN = false ∨ s.bit F.LABEL_STATUS_PWRGOOD = true) :
    s.labelPwrTimeout = s := by
  refine if_pos ?_
  obtain h | h | h := h <;> simp [h]

/-- LBL_PWRGOOD has not come in time. -/
theorem State.labelPwrTimeout_spec {s : State} (hon : s.domOn dLABEL = true) (hen : s.bit F.LABEL_STATUS_PWREN = true)
    (hg : s.bit F.LABEL_STATUS_PWRGOOD = false) {u : State} (hu : u = s.labelPwrTimeout) :
    u.bit F.LABEL_STATUS_PWREN = false ∧ u.bit F.LABEL_STATUS_STOPPED = s.bit F.LABEL_STATUS_STOPPED ∧
    u.fld F.LABEL_PWR_FAILS_COUNT = min (s.fld F.LABEL_PWR_FAILS_COUNT + 1) (2 ^ 32 - 1) ∧
    RegsButEvents (s.fld F.LABEL_EVT_RING) s u [R.LABEL_STATUS, R.LABEL_PWR_FAILS] ∧ Frame (.label :: eventParts) s u ∧
    u.label = { s.label with pend := [] } := by
  obtain ⟨a, ha⟩ : ∃ a, a = s.setFld F.LABEL_STATUS_PWREN 0 := ⟨_, rfl⟩
  obtain ⟨b, hb⟩ : ∃ b, b = a.dropPending 3 := ⟨_, rfl⟩
  obtain ⟨c, hc⟩ : ∃ c, c = (b.bump F.LABEL_PWR_FAILS_COUNT).raise 0x44 2 := ⟨_, rfl⟩
  have hform : u = c.post F.LABEL_EVT_RING 0x0704 [(2, 1)] := by
    rw [hu, hc, hb, ha]
    exact if_neg (by simp [hon, hen, hg])
  have har : RegsBut s a [R.LABEL_STATUS] := by rw [ha]; exact RegsBut.refl.setFld
  have haf : Frame [.regs] s a := by rw [ha]; exact Frame.refl.setFld
  obtain ⟨hbr, hbf, hblab⟩ := a.dropPending_spec 3
  rw [← hb] at hbr hbf hblab
  have hring : a.fld F.LABEL_EVT_RING = s.fld F.LABEL_EVT_RING := har.fld (by decide)
  have hsb : RegsButEvents (s.fld F.LABEL_EVT_RING) s b [R.LABEL_STATUS] := har.events.trans (m := []) (by rw [← hring]; exact hbr) (by simp)
  have hbc : RegsButEvents (s.fld F.LABEL_EVT_RING) b c [R.LABEL_PWR_FAILS] := by rw [hc]; exact RegsButEvents.refl.bump.raise
  have hsc : RegsButEvents (s.fld F.LABEL_EVT_RING) s c [R.LABEL_STATUS, R.LABEL_PWR_FAILS] := (hsb.mono (by simp)).trans hbc (by simp)
  have hringc : c.fld F.LABEL_EVT_RING = s.fld F.LABEL_EVT_RING := hsc.labelFld (by decide)
  have hcu : RegsButEvents (s.fld F.LABEL_EVT_RING) c u [] := by
    rw [hform, ← hringc]
    exact RegsButEvents.refl.labelPost (by simp)
  have hbu : Frame eventParts b u := by rw [hform, hc]; exact Frame.refl.bump.raise.post
  have hstatus {f : Fld} (hf : f.off = R.LABEL_STATUS) : u.fld f = a.fld f := by
    rw [hcu.labelFld (by simp) (by rw [hf]; decide), hbc.labelFld (by rw [hf]; decide) (by rw [hf]; decide),
      hbr.labelFld (by simp) (by rw [hf]; decide)]
  refine ⟨?_, ?_, ?_, hsc.trans hcu (by simp), ((haf.mono (by decide)).then hbf (by decide)).then hbu (by decide), ?_⟩
  · rw [State.bit, hstatus rfl, ha, State.fld_setFld_same _ _ _ (by decide)]
    rfl
  · rw [State.bit, hstatus rfl, ha, State.fld_setFld_other _ _ _ _ (by decide), ← State.bit]
  · have hbump : c.fld F.LABEL_PWR_FAILS_COUNT = min (b.fld F.LABEL_PWR_FAILS_COUNT + 1) (2 ^ 32 - 1) := by
      rw [hc, (RegsBut.refl.raise (l := [0x4400C])).fld (by decide), State.fld_bump_same _ _ _ (by decide)]
    rw [hcu.labelFld (by simp), hbump, hsb.labelFld (by decide)]
  · rw [hbu.get (·.label), hblab, haf.get (·.label)]

/-- Settles O45: the level of LBL_PWRGOOD, the stop, the advance, the start of an entry, and the power of the port. -/
theorem labelPhasesAdvance : Obligations.LabelPhasesAdvance := by
  unfold Obligations.LabelPhasesAdvance
  have hboundary {s : State} (hruns : s.runs = true) (good : Bool) :
      exec (.phaseBoundary good) s = .next (s.after (s.phaseBoundary good)) := congrArg Host.Outcome.next (State.flow_of_runs hruns _)
  have htimeout {s : State} (hruns : s.runs = true) : exec .labelPwrTimeout s = .next (s.after s.labelPwrTimeout) :=
    congrArg Host.Outcome.next (State.flow_of_runs hruns _)
  have hlost {s : State} (hruns : s.runs = true) : exec .labelPwrgoodLost s = .next (s.after s.labelPwrgoodLost) :=
    congrArg Host.Outcome.next (State.flow_of_runs hruns _)
  refine ⟨?off, ?boundary, ?start, ?stop, ?power⟩
  case off =>
    intro s good hruns hoff
    have hno : (!s.domOn dLABEL) = true := by rw [hoff]; rfl
    rw [hboundary hruns, htimeout hruns, hlost hruns]
    exact ⟨by rw [State.phaseBoundary, if_pos hno], by rw [State.labelPwrTimeout_none (.inl hoff)],
      by rw [State.labelPwrgoodLost, if_pos hno]⟩
  case boundary =>
    intro s good hruns hon
    obtain ⟨p, hp⟩ : ∃ p, p = s.setBit F.LABEL_STATUS_PWRGOOD good := ⟨_, rfl⟩
    obtain ⟨hgood, hen, hstopped, hregs, hframe⟩ := s.goodShown_spec good hp
    have hlab : p.label = s.label := hframe.get (·.label)
    have hlostOn (hg : good = false) : s.labelPwrgoodLost = if s.label.run.isEmpty then p else p.labelLost := by
      rw [State.labelPwrgoodLost, hon, if_neg (by decide), hp, hg]
      rfl
    rw [hboundary hruns, hlost hruns]
    refine ⟨p, hgood, hen, hstopped, hregs, hframe, fun hg hrun => ⟨?_, ?_⟩, fun hg hrun => ?_, fun h => ⟨fun hstop => ?_, fun hstop => ?_⟩⟩
    · rw [State.phaseBoundary_lost hon hp hg hrun]
    · rw [hlostOn hg, if_neg (by simpa using hrun)]
      rfl
    · rw [hlostOn hg, if_pos (by simpa using hrun)]
    · rw [State.phaseBoundary_stop hon hp h hstop]
    · obtain ⟨v, hv⟩ : ∃ v, v = p.labelAdvance := ⟨_, rfl⟩
      obtain ⟨hvlab, hjournal, hcount, hvregs, hvf, hstore⟩ := p.labelAdvance_spec hv
      have hring : p.fld F.LABEL_EVT_RING = s.fld F.LABEL_EVT_RING := hregs.fld (by decide)
      rw [hlab, hring] at hvregs
      rw [hlab] at hvlab hjournal hcount
      have hvrun : v.label.run = s.label.going := by rw [hvlab]; rfl
      refine ⟨v, s.label.ended, rfl, hvrun, hjournal, fun hnone => ?_, ?_, hvregs, ?_, ?_⟩
      · have hadv : v = p.advanced := by rw [hv, State.labelAdvance_none (hlab ▸ hnone)]
        rw [hvrun, hadv]
        exact ⟨rfl, hframe.get (·.pstore), hframe.get (·.rings), hframe.get (·.sent), hframe.get (·.pcie), hframe.get (·.summaryOwed),
          by rw [State.advanced, hlab]⟩
      · rw [hcount, hregs.fld (by decide)]
      · have hpst : p.pstore = s.pstore := hframe.get (·.pstore)
        rw [hvrun]
        exact ((hframe.mono (by decide)).then hvf (by decide) : Frame (.label :: .pstore :: eventParts) s v).withLabelStore hvlab
          (hpst ▸ hstore)
      · rw [State.phaseBoundary_go hon hp h hstop, ← hv]
  case start =>
    intro s good e hruns hon hstop hpfw hstopped hrun hpend hpanel harea htime
    obtain ⟨p, hp⟩ : ∃ p, p = s.setBit F.LABEL_STATUS_PWRGOOD good := ⟨_, rfl⟩
    obtain ⟨hgood, hen, -, hregs, hframe⟩ := s.goodShown_spec good hp
    have hlab : p.label = s.label := hframe.get (·.label)
    have hprun : p.label.run = [] := hlab ▸ hrun
    have hppend : p.label.pend = [e] := hlab ▸ hpend
    have hptime : p.lblScanTime [e] ≤ p.lblBudget := by rw [hregs.lblScanTime, hregs.lblBudget]; exact htime
    have hgo : s.phaseBoundary good = p.labelStarts.labelScan := by
      rw [State.phaseBoundary_go hon hp (.inr hrun) hstop, hpfw, hstopped, if_neg (by decide), State.labelAdvance_idle hprun]
    rw [hboundary hruns, hgo]
    refine ⟨fun hg => ?_, fun w hg hj => ?_⟩
    · have htry := labelTry_power hprun harea hptime (hgood.trans hg)
      obtain ⟨a, ha⟩ : ∃ a, a = p.setFld F.LABEL_STATUS_PWREN 1 := ⟨_, rfl⟩
      rw [← ha] at htry
      have harun : a.label.run = [] := by rw [ha]; exact hprun
      have har : RegsBut s a [R.LABEL_STATUS] := by rw [ha]; exact hregs.setFld
      have haf : Frame [.regs] s a := by rw [ha]; exact Frame.setFld hframe
      have hen' : a.bit F.LABEL_STATUS_PWREN = true := by
        rw [State.bit, ha, State.fld_setFld_same _ _ _ (by decide)]
        rfl
      have hgood' : a.bit F.LABEL_STATUS_PWRGOOD = false := by
        rw [State.bit, ha, State.fld_setFld_other _ _ _ _ (by decide), ← State.bit, hgood, hg]
      rw [State.labelStarts_one hppend hpanel htry]
      obtain ⟨-, hsr, -, hsen, hsgood⟩ := a.labelScan_spec
      obtain ⟨x, hx⟩ : ∃ x, x = a.labelScan := ⟨_, rfl⟩
      have hxf : Frame [.regs] s x := by rw [hx, State.labelScan_idle harun]; exact haf.setFld
      rw [← hx] at hsr hsen hsgood ⊢
      exact ⟨_, rfl, hsen.trans hen', hsgood.trans hgood', (har.trans hsr).mono (by simp), hxf⟩
    · have hpj : p.journalNext = some w := (hframe.get State.journalNext).trans hj
      obtain ⟨a, ha⟩ : ∃ a, a = p.labelStart e w := ⟨_, rfl⟩
      have htry := labelTry_start hprun harea hptime (hgood.trans hg) hpj
      rw [← ha] at htry
      rw [State.labelStarts_one hppend hpanel htry]
      obtain ⟨halab, hjour, hread, har, haf, hastore⟩ := State.labelStart_spec hprun hppend ha
      obtain ⟨hscan, hsr, hsf, -, hsgood⟩ := a.labelScan_spec
      obtain ⟨x, hx⟩ : ∃ x, x = a.labelScan := ⟨_, rfl⟩
      rw [← hx] at hscan hsr hsf hsgood ⊢
      have hlabS : x.label = a.label := hsf.get (·.label)
      have hread' : x.persRead = a.persRead := hsf.get State.persRead
      have hring : p.fld F.LABEL_EVT_RING = s.fld F.LABEL_EVT_RING := hregs.fld (by decide)
      rw [hregs.started hframe] at halab hjour
      rw [hlab] at halab
      refine ⟨x, s.started e w, rfl, rfl, hlabS.trans halab, ?_, fun i hi => ?_, ?_, ?_, ?_, ?_⟩
      · rw [State.journal, hread']
        exact hjour
      · rw [hread', hread i hi, hframe.get State.persRead]
      · rw [hscan, halab]
        rfl
      · rw [hsgood, State.bit, har.labelFld (by simp), ← State.bit, hgood, hg]
      · refine (hregs.events.trans (m := []) ?_ (by simp)).but hsr
        rw [← hring]
        exact har
      · have hpst : p.pstore = s.pstore := hframe.get (·.pstore)
        have hall : Frame (.label :: .pstore :: eventParts) s x :=
          ((hframe.mono (by decide)).then haf (by decide)).then hsf (by decide)
        exact hall.withLabelStore rfl (by rw [hsf.get (·.pstore), hastore, hpst])
  case stop =>
    intro w
    obtain ⟨u, hu⟩ : ∃ u, u = w.labelStop := ⟨_, rfl⟩
    obtain ⟨hrun, hpend, hdue, hen, hscan, hstopped, hrecs, hcount, hregs, hframe, hlab⟩ := w.labelStop_spec hu
    refine ⟨u, hu.symm, hrun, hpend, hdue, hen, hscan, hstopped, hrecs, hcount, hregs, hframe.withLabel hlab⟩
  case power =>
    intro s
    refine ⟨fun hruns hon h => ?_, fun hruns hon hen hg => ?_, fun h => ?_, fun hon hrun => ?_⟩
    · rw [htimeout hruns, State.labelPwrTimeout_none (.inr h)]
    · rw [htimeout hruns]
      obtain ⟨hen', hstopped, hcount, hregs, hframe, hlab⟩ := State.labelPwrTimeout_spec hon hen hg rfl
      exact ⟨_, rfl, hen', hstopped, hcount, hregs, hframe.withLabel hlab⟩
    · exact congrArg Host.Outcome.next (if_neg (by obtain h | h := h <;> simp [h]))
    · exact congrArg Host.Outcome.next (if_pos (by simp [hon, hrun]))

end Sys2Proof.Machine

/-! ### Power requests (R305, R306, R314 to R316) -/

namespace Sys2Proof.Machine

-- A proof that fills in an argument by its default tactic waits for all that stands before it: checked in order, none waits.
set_option Elab.async false

section
variable {s t u : State} {b : ReqBy} {r : PowerReq} {p : List Part}

/-! #### Refusals -/

theorem State.noteRefusal_fst (s : State) (r : PowerReq) (reason d page : Nat) :
    (s.noteRefusal r reason d page).1 = { r with reason := reason, page := page } := rfl

theorem State.noteRefusal_spec (s : State) (r : PowerReq) {reason d page : Nat} (hr : reason < 32) (hp : page < 256) :
    RefusalNoted s (s.noteRefusal r reason d page).2 reason d page := by
  obtain ⟨a, ha⟩ : ∃ a, a = ((s.setFld F.PWR_LAST_REFUSER_PAGE page).setFld F.PWR_LAST_REASON_REASON reason).setFld
    F.PWR_LAST_REASON_DOMAIN d := ⟨_, rfl⟩
  obtain ⟨x, hx⟩ : ∃ x, x = if page = 0xFF then a else a.bump (hdrFld page 0x3C 0 16) := ⟨_, rfl⟩
  have hform : (s.noteRefusal r reason d page).2 = x := by rw [hx, ha]; rfl
  have har : RegsBut s a [R.PWR_LAST_REFUSER, R.PWR_LAST_REASON] := by rw [ha]; exact RegsBut.refl.setFld.setFld.setFld
  have hxr : RegsBut a x (if page = 0xFF then [] else [page * 0x1000 + 0x3C]) := by
    rw [hx]
    split
    · exact .refl
    · exact RegsBut.refl.bump (by simp [hdrFld])
  have hlow {f : Fld} (hf : f.off < 0x2000) (hf' : 0x103C < f.off) : x.fld f = a.fld f := by
    refine hxr.fld ?_
    split
    · simp
    · rw [List.mem_singleton]
      omega
  have hhdr {f : Fld} (hf : f.off = page * 0x1000 + 0x3C) : a.fld f = s.fld f := har.fld (by
    rw [hf, List.mem_cons, List.mem_singleton]
    show ¬(page * 0x1000 + 0x3C = 0x1114 ∨ page * 0x1000 + 0x3C = 0x1118)
    omega)
  rw [hform]
  refine ⟨?_, ?_, ?_, fun hne => ⟨?_, ?_⟩, har.trans hxr, ?_⟩
  · rw [hlow (by decide) (by decide), ha, State.fld_setFld_other _ _ _ _ (by decide), State.fld_setFld_other _ _ _ _ (by decide),
      State.fld_setFld_same _ _ _ (by decide)]
    exact Nat.mod_eq_of_lt hp
  · rw [hlow (by decide) (by decide), ha, State.fld_setFld_other _ _ _ _ (by decide), State.fld_setFld_same _ _ _ (by decide)]
    exact Nat.mod_eq_of_lt hr
  · rw [hlow (by decide) (by decide), ha, State.fld_setFld_same _ _ _ (by decide)]
    rfl
  · rw [hx, if_neg hne, State.fld_bump_same _ _ _ (by simp [hdrFld]), hhdr rfl]
    rfl
  · rw [hx, if_neg hne, State.fld_bump_other _ _ _ _ (.inr (.inl (by simp [hdrFld]))), hhdr rfl]
  · have hxf : Frame [.regs] s x := by
      rw [hx, ha]
      exact .ite Frame.refl.setFld.setFld.setFld Frame.refl.setFld.setFld.setFld.bump
    exact hxf

/-! #### The status registers -/

theorem ReqBy.isFore_iff : b.isFore = true ↔ b = .port .foreman := by
  unfold ReqBy.isFore
  cases b with
  | port q => cases q <;> simp
  | wake => simp
  | autoOff => simp
  | boot => simp

/-- PHASE of a requester, and that of the other port. -/
def ReqBy.phaseFld (b : ReqBy) : Fld := if b = .port .foreman then F.PWR_FREQ_STATUS_PHASE else F.PWR_REQ_STATUS_PHASE

def ReqBy.otherPhase (b : ReqBy) : Fld := if b = .port .foreman then F.PWR_REQ_STATUS_PHASE else F.PWR_FREQ_STATUS_PHASE

theorem State.setPhase_eq (s : State) (b : ReqBy) (k : Nat) : s.setPhase b k = s.setFld b.phaseFld k := by
  rw [State.setPhase, ReqBy.phaseFld]
  simp only [ReqBy.isFore_iff]

theorem ReqBy.phaseFld_mem (b : ReqBy) : b.phaseFld.off ∈ [R.PWR_REQ_STATUS, R.PWR_FREQ_STATUS] := by
  unfold ReqBy.phaseFld
  split <;> simp

/-- The statuses' fields but the phases and BUSY. -/
abbrev statusFlds : List Fld :=
  [F.PWR_REQ_STATUS_RESULT, F.PWR_REQ_STATUS_DONE_MASK, F.PWR_FREQ_STATUS_RESULT, F.PWR_FREQ_STATUS_DONE_MASK]

/-- BUSY and a phase as they are shown. -/
theorem State.busyPhase_spec (s : State) (b : ReqBy) (busy : Bool) {k : Nat} (hk : k < 8) {u : State}
    (hu : u = (s.setBusy busy).setPhase b k) :
    u.bit F.PWR_REQ_STATUS_BUSY = busy ∧ u.bit F.PWR_FREQ_STATUS_BUSY = busy ∧ u.fld b.phaseFld = k ∧
    u.fld b.otherPhase = s.fld b.otherPhase ∧ (∀ f ∈ statusFlds, u.fld f = s.fld f) ∧
    RegsBut s u [R.PWR_REQ_STATUS, R.PWR_FREQ_STATUS] ∧ Frame [.regs] s u := by
  obtain ⟨a, ha⟩ : ∃ a, a = s.setBit F.PWR_REQ_STATUS_BUSY busy := ⟨_, rfl⟩
  obtain ⟨c, hc⟩ : ∃ c, c = a.setBit F.PWR_FREQ_STATUS_BUSY busy := ⟨_, rfl⟩
  have hform : u = c.setFld b.phaseFld k := by rw [hu, State.setPhase_eq, hc, ha]; rfl
  have hphase (g : Fld) (hg : ∀ f ∈ [F.PWR_FREQ_STATUS_PHASE, F.PWR_REQ_STATUS_PHASE],
      f.off ≠ g.off ∨ f.lo + f.w ≤ g.lo ∨ g.lo + g.w ≤ f.lo) : u.fld g = c.fld g := by
    rw [hform, State.fld_setFld_other _ _ _ _ ?_]
    unfold ReqBy.phaseFld
    split
    · exact hg _ (by simp)
    · exact hg _ (by simp)
  have hstatus (f : Fld) (hf : f ∈ statusFlds) : u.fld f = s.fld f := by
    simp only [statusFlds, List.mem_cons, List.not_mem_nil, or_false] at hf
    obtain rfl | rfl | rfl | rfl := hf
    all_goals
      rw [hphase _ (by decide), hc, State.setBit, State.fld_setFld_other _ _ _ _ (by decide), ha, State.setBit,
        State.fld_setFld_other _ _ _ _ (by decide)]
  refine ⟨?_, ?_, ?_, ?_, hstatus, ?_, ?_⟩
  · rw [State.bit, hphase _ (by decide), hc, State.setBit, State.fld_setFld_other _ _ _ _ (by decide), ← State.bit, ha,
      State.bit_setBit_same _ _ (by decide) (by decide)]
  · rw [State.bit, hphase _ (by decide), ← State.bit, hc, State.bit_setBit_same _ _ (by decide) (by decide)]
  · rw [hform, State.fld_setFld_same _ _ _ (by unfold ReqBy.phaseFld; split <;> decide)]
    refine Nat.mod_eq_of_lt ?_
    unfold ReqBy.phaseFld
    split <;> exact hk
  · have hother : ∀ f g, (f = b.phaseFld ∧ g = b.otherPhase) → f.off ≠ g.off := by
      rintro f g ⟨rfl, rfl⟩
      unfold ReqBy.phaseFld ReqBy.otherPhase
      split <;> decide
    have hkeep : c.fld b.otherPhase = s.fld b.otherPhase := by
      unfold ReqBy.otherPhase
      split
      all_goals
        rw [hc, State.setBit, State.fld_setFld_other _ _ _ _ (by decide), ha, State.setBit, State.fld_setFld_other _ _ _ _ (by decide)]
    rw [hform, State.fld_setFld_other _ _ _ _ (.inl (hother _ _ ⟨rfl, rfl⟩)), hkeep]
  · rw [hform, hc, ha]
    exact RegsBut.refl.setBit.setBit.setFld b.phaseFld_mem
  · rw [hform, hc, ha]
    exact Frame.refl.setBit.setBit.setFld

/-! #### Ends -/

/-- A domain stands where a request asked it to be. -/
def State.reached (s : State) (r : PowerReq) (d : Nat) : Bool := if r.target = 0 then s.domOn d else s.domState d ≤ targetState r.target

/-- DONE_MASK of a request that ends. -/
def State.doneMask (s : State) (r : PowerReq) (result : Nat) : Nat :=
  if result = prDONE || result = prWAKEFAIL then
    (entryOrder.filter fun d => r.mask / 2 ^ d % 2 == 1 && s.reached r d).foldl (fun a d => a + 2 ^ d) 0
  else 0

theorem State.doneMask_bit (s : State) (r : PowerReq) (result d : Nat) : s.doneMask r result / 2 ^ d % 2 = 1 ↔
    ((result = prDONE ∨ result = prWAKEFAIL) ∧ 1 ≤ d ∧ d ≤ 10 ∧ r.mask / 2 ^ d % 2 = 1 ∧
      (if r.target = 0 then s.domState d = 2 else s.domState d ≤ 2 - r.target)) := by
  have hbit : s.doneMask r result / 2 ^ d % 2 = 1 ↔ (s.doneMask r result).testBit d = true := by
    rw [Nat.testBit_eq_decide_div_mod_eq, decide_eq_true_eq]
  have horder : d ∈ entryOrder ↔ 1 ≤ d ∧ d ≤ 10 := by
    simp only [entryOrder, List.mem_cons, List.not_mem_nil, or_false]
    omega
  have hreached : s.reached r d = true ↔ if r.target = 0 then s.domState d = 2 else s.domState d ≤ 2 - r.target := by
    rw [State.reached]
    split
    · rw [State.domOn, beq_iff_eq]
    · rw [decide_eq_true_eq, targetState]
  rw [hbit, State.doneMask, ← hreached]
  by_cases h : result = prDONE ∨ result = prWAKEFAIL
  · have hnd : (entryOrder.filter fun d => r.mask / 2 ^ d % 2 == 1 && s.reached r d).Nodup := List.Nodup.filter _ (by decide)
    rw [if_pos (by simpa using h), testBit_foldl_two_pow hnd, List.contains_iff_mem, List.mem_filter, horder, Bool.and_eq_true, beq_iff_eq]
    simp only [h, true_and, and_assoc]
  · rw [if_neg (by simpa using h), Nat.zero_testBit]
    simp [h]

theorem State.doneMask_lt (s : State) (r : PowerReq) (result : Nat) : s.doneMask r result < 2 ^ 11 := by
  refine Nat.lt_pow_two_of_testBit _ fun d hd => ?_
  by_contra hne
  rw [Bool.not_eq_false, Nat.testBit_eq_decide_div_mod_eq, decide_eq_true_eq, s.doneMask_bit] at hne
  omega

theorem State.fld_setFld_two (s : State) {f g x : Fld} (m n : Nat) (h : ∀ y ∈ [f, g], y.off ≠ x.off ∨ y.lo + y.w ≤ x.lo ∨ x.lo + x.w ≤ y.lo) :
    ((s.setFld f m).setFld g n).fld x = s.fld x := by
  rw [State.fld_setFld_other _ _ _ _ (h g (by simp)), State.fld_setFld_other _ _ _ _ (h f (by simp))]

/-- RESULT and DONE_MASK as they are shown. -/
theorem State.setReqResult_spec (s : State) (b : ReqBy) {result done : Nat} (hr : result < 16) (hd : done < 2 ^ 11) {u : State}
    (hu : u = s.setReqResult b result done) :
    u.fld F.PWR_REQ_STATUS_RESULT = (if b = .port .pcie then result else s.fld F.PWR_REQ_STATUS_RESULT) ∧
    u.fld F.PWR_REQ_STATUS_DONE_MASK = (if b = .port .pcie then done else s.fld F.PWR_REQ_STATUS_DONE_MASK) ∧
    u.fld F.PWR_FREQ_STATUS_RESULT = (if b = .port .foreman then result else s.fld F.PWR_FREQ_STATUS_RESULT) ∧
    u.fld F.PWR_FREQ_STATUS_DONE_MASK = (if b = .port .foreman then done else s.fld F.PWR_FREQ_STATUS_DONE_MASK) ∧
    (∀ f ∈ [F.PWR_REQ_STATUS_BUSY, F.PWR_FREQ_STATUS_BUSY, F.PWR_REQ_STATUS_PHASE, F.PWR_FREQ_STATUS_PHASE], u.fld f = s.fld f) ∧
    RegsBut s u [R.PWR_REQ_STATUS, R.PWR_FREQ_STATUS] ∧ Frame [.regs] s u := by
  subst hu
  obtain rfl | rfl | ⟨hp, hf⟩ : b = .port .pcie ∨ b = .port .foreman ∨ b ≠ .port .pcie ∧ b ≠ .port .foreman := by
    by_cases hp : b = .port .pcie
    · exact .inl hp
    · by_cases hf : b = .port .foreman
      · exact .inr (.inl hf)
      · exact .inr (.inr ⟨hp, hf⟩)
  · refine ⟨?_, ?_, ?_, ?_, fun f hf => s.fld_setFld_two _ _ (by revert f; decide), RegsBut.refl.setFld.setFld, Frame.refl.setFld.setFld⟩
    · rw [if_pos rfl, State.setReqResult, State.fld_setFld_other _ _ _ _ (by decide), State.fld_setFld_same _ _ _ (by decide)]
      exact Nat.mod_eq_of_lt hr
    · rw [if_pos rfl, State.setReqResult, State.fld_setFld_same _ _ _ (by decide)]
      exact Nat.mod_eq_of_lt hd
    · rw [if_neg (by decide)]
      exact s.fld_setFld_two _ _ (by decide)
    · rw [if_neg (by decide)]
      exact s.fld_setFld_two _ _ (by decide)
  · refine ⟨?_, ?_, ?_, ?_, fun f hf => s.fld_setFld_two _ _ (by revert f; decide), RegsBut.refl.setFld.setFld, Frame.refl.setFld.setFld⟩
    · rw [if_neg (by decide)]
      exact s.fld_setFld_two _ _ (by decide)
    · rw [if_neg (by decide)]
      exact s.fld_setFld_two _ _ (by decide)
    · rw [if_pos rfl, State.setReqResult, State.fld_setFld_other _ _ _ _ (by decide), State.fld_setFld_same _ _ _ (by decide)]
      exact Nat.mod_eq_of_lt hr
    · rw [if_pos rfl, State.setReqResult, State.fld_setFld_same _ _ _ (by decide)]
      exact Nat.mod_eq_of_lt hd
  · have hnone : s.setReqResult b result done = s := by
      cases b with
      | port q =>
        cases q with
        | pcie => exact absurd rfl hp
        | foreman => exact absurd rfl hf
      | wake => rfl
      | autoOff => rfl
      | boot => rfl
    rw [hnone, if_neg hp, if_neg hp, if_neg hf, if_neg hf]
    exact ⟨rfl, rfl, rfl, rfl, fun _ _ => rfl, .refl, .refl⟩

/-- The request has ended, before POWER_DONE is written. -/
def State.reqShown (s : State) (r : PowerReq) (result : Nat) : State :=
  let done := s.doneMask r result
  let s := ({ s with power := { s.power with req := none } }).setBusy false
  let s := (s.setPhase r.by' 0).setReqResult r.by' result done
  let s := if result = prDONE then s.bump F.PWR_ENTRIES_COUNT else s
  if result ≤ 2 then s.raise 0x01 result else s

theorem State.reqEnd_eq (s : State) (r : PowerReq) (result : Nat) : s.reqEnd r result =
    ((s.reqShown r result).post F.PWR_EVT_RING 0x0800
      [(4, result), (2, r.target), (11, r.mask), (11, s.doneMask r result), (5, r.reason), (8, r.page)]).sleepCheck := rfl

theorem State.reqShown_spec (s : State) (r : PowerReq) {result : Nat} (hr : result ≤ 5) :
    ReqEnded s (s.reqShown r result) r.by' result (s.doneMask r result) := by
  obtain ⟨w, hw⟩ : ∃ w : State, w = { s with power := { s.power with req := none } } := ⟨_, rfl⟩
  obtain ⟨a, ha⟩ : ∃ a, a = (w.setBusy false).setPhase r.by' 0 := ⟨_, rfl⟩
  obtain ⟨c, hc⟩ : ∃ c, c = a.setReqResult r.by' result (s.doneMask r result) := ⟨_, rfl⟩
  obtain ⟨d, hd⟩ : ∃ d, d = if result = prDONE then c.bump F.PWR_ENTRIES_COUNT else c := ⟨_, rfl⟩
  obtain ⟨u, hu⟩ : ∃ u, u = if result ≤ 2 then d.raise 0x01 result else d := ⟨_, rfl⟩
  have hform : s.reqShown r result = u := by rw [hu, hd, hc, ha, hw]; rfl
  have hwregs : w.regs = s.regs := by rw [hw]
  have hwfld (f : Fld) : w.fld f = s.fld f := by rw [State.fld, State.rd, hwregs, State.fld, State.rd]
  obtain ⟨hb1, hb2, hph, hoph, hst, har, haf⟩ := w.busyPhase_spec r.by' false (k := 0) (by decide) ha
  obtain ⟨h1, h2, h3, h4, hrest, hcr, hcf⟩ := a.setReqResult_spec r.by' (by omega) (s.doneMask_lt r result) hc
  have hdr : RegsBut c d [R.PWR_ENTRIES] := by rw [hd]; exact .ite RegsBut.refl.bump .refl
  have hur : RegsBut d u [0x100C] := by rw [hu]; exact .ite RegsBut.refl.raise .refl
  have hlate {f : Fld} (hf : f.off ∉ [R.PWR_ENTRIES, 0x100C]) : u.fld f = c.fld f := (hdr.trans hur).fld hf
  have hphase {f : Fld} (hf : f ∈ [F.PWR_REQ_STATUS_BUSY, F.PWR_FREQ_STATUS_BUSY, F.PWR_REQ_STATUS_PHASE, F.PWR_FREQ_STATUS_PHASE])
      (hf' : f.off ∉ [R.PWR_ENTRIES, 0x100C]) : u.fld f = a.fld f := (hlate hf').trans (hrest f hf)
  have hsc : RegsBut s c [R.PWR_REQ_STATUS, R.PWR_FREQ_STATUS] :=
    ((RegsBut.refl.of_regs hwregs).trans (har.trans hcr)).mono (l := [] ++ _) (by simp)
  rw [hform]
  refine ⟨?_, ?_, ?_, ?_, ?_, ?_, ?_, ?_, ?_, ?_, ?_, ?_⟩
  · rw [State.bit, hphase (by simp) (by decide), ← State.bit, hb1]
  · rw [State.bit, hphase (by simp) (by decide), ← State.bit, hb2]
  · rw [hphase (by simp) (by decide)]
    unfold ReqBy.phaseFld at hph
    unfold ReqBy.otherPhase at hoph
    split_ifs at hph hoph ⊢
    · exact hoph.trans (hwfld _)
    · exact hph
  · rw [hphase (by simp) (by decide)]
    unfold ReqBy.phaseFld at hph
    unfold ReqBy.otherPhase at hoph
    split_ifs at hph hoph ⊢
    · exact hph
    · exact hoph.trans (hwfld _)
  · rw [hlate (by decide), h1, hst _ (by simp), hwfld]
  · rw [hlate (by decide), h2, hst _ (by simp), hwfld]
  · rw [hlate (by decide), h3, hst _ (by simp), hwfld]
  · rw [hlate (by decide), h4, hst _ (by simp), hwfld]
  · rw [hur.fld (by decide), hd]
    split_ifs
    · rw [State.fld_bump_same _ _ _ (by decide), hsc.fld (by decide)]
    · exact hsc.fld (by decide)
  · have hrd : d.rd 0x100C = s.rd 0x100C := (hdr _ (by decide)).trans (hsc _ (by decide))
    rw [hu]
    split_ifs
    · rw [State.rd_raise_same, hrd]
    · exact hrd
  · exact ((hsc.trans hdr).trans hur).mono (by simp)
  · have hsw : Frame [.power] s w := hw ▸ rfl
    have hcd : Frame [.regs] c d := by rw [hd]; exact .ite Frame.refl.bump .refl
    have hdu : Frame [.regs, .sent, .pcie, .summaryOwed] d u := by rw [hu]; exact .ite Frame.refl.raise .refl
    have hwu : Frame [.regs, .sent, .pcie, .summaryOwed] w u :=
      (((haf.then hcf (by decide)).then hcd (by decide)).mono (by decide)).then hdu (by decide)
    rw [show u = w.taking _ u from hwu, hw]
    rfl

end

/-! #### Issuing -/

section
variable {s : State} {b : ReqBy} {mask target : Nat} {force bad : Bool} {r : PowerReq} {named : List Nat}

/-- A request that has been asked for. -/
def newReq (b : ReqBy) (mask target : Nat) (force : Bool) : PowerReq :=
  ⟨b, mask, target, force, 0, [], [], [], [], none, [], 0, false, 0, [], 0, 0, 0xFF, []⟩

/-- The domains that a request works on, in its order. -/
def State.worksOn (s : State) (mask target : Nat) : List Nat :=
  if target = 0 then wakeOrder.filter fun d => mask / 2 ^ d % 2 == 1 && s.domState d != 2
  else entryOrder.filter fun d => mask / 2 ^ d % 2 == 1 && decide (2 - target < s.domState d)

theorem State.powerIssue_busy (h : s.power.req.isSome = true) : s.powerIssue b mask target force bad =
    (match b with
      | .port .pcie => s.setFld F.PWR_REQ_STATUS_RESULT prBUSY
      | .port .foreman => s.setFld F.PWR_FREQ_STATUS_RESULT prBUSY
      | _ => s) := by
  cases b with
  | port q => cases q <;> exact if_pos h
  | wake => exact if_pos h
  | autoOff => exact if_pos h
  | boot => exact if_pos h

section
variable (h : s.power.req = none)
include h

theorem State.powerIssue_empty : s.powerIssue b 0 target force false = s.reqEnd (newReq b 0 target force) prDONE := by
  unfold State.powerIssue
  rw [h]
  rfl

theorem State.powerIssue_invalid (hbad : bad = true ∨ mask % 2 = 1 ∨ (target = 3 ∧ mask ≠ 0)) :
    s.powerIssue b mask target force bad = s.reqEnd (newReq b mask target force) prINVALID := by
  have hnot : ¬(mask = 0 && !bad) = true := by
    rw [Bool.and_eq_true, decide_eq_true_eq, Bool.not_eq_true']
    rintro ⟨rfl, rfl⟩
    simp at hbad
  have hinv : (bad || mask % 2 = 1 || target = 3) = true := by
    obtain h | h | ⟨h, -⟩ := hbad <;> simp [h]
  unfold State.powerIssue
  rw [h]
  exact (if_neg hnot).trans (if_pos hinv)

section
variable (hmask : mask ≠ 0) (heven : mask % 2 = 0) (ht : target ≠ 3)
include hmask heven ht

/-- A request that is neither empty nor invalid: the dependencies decide. -/
theorem State.powerIssue_valid : s.powerIssue b mask target force false =
    match (s.worksOn mask target).find? (s.depBroken mask target) with
    | some d => (s.noteRefusal (newReq b mask target force) 8 d 0xFF).2.reqEnd
        (s.noteRefusal (newReq b mask target force) 8 d 0xFF).1 prREFUSED
    | none =>
      if target = 0 then
        match s.worksOn mask target with
        | d :: _ =>
          if s.hvd.pfwLow then (s.noteRefusal (newReq b mask target force) 10 d 0xFF).2.reqEnd
            (s.noteRefusal (newReq b mask target force) 10 d 0xFF).1 prREFUSED
          else ((s.setBusy true).setPhase b 4).wakeOn { newReq b mask target force with phase := 4, todo := s.worksOn mask target }
        | [] => s.reqEnd (newReq b mask target force) prDONE
      else askGo 12 { newReq b mask target force with phase := 1, todo := s.worksOn mask target, entry := s.worksOn mask target }
        ((s.setBusy true).setPhase b 1) := by
  have hvalid : ¬(false || mask % 2 = 1 || target = 3) = true := by simp [heven, ht]
  unfold State.powerIssue
  rw [h]
  dsimp only
  rw [if_neg (by decide), if_neg (by simp [hmask]), if_neg hvalid]
  rfl

end

end

end

/-- Settles O46: the words of the ports, the ways a request is turned away, refused or begun, and its end. -/
theorem powerRequestsAreIssued : Obligations.PowerRequestsAreIssued := by
  unfold Obligations.PowerRequestsAreIssued
  refine ⟨?word, ?issue, fun s r result hr => ⟨s.reqShown r result, s.doneMask r result, s.reqShown_spec r hr, s.doneMask_lt r result,
    s.doneMask_bit r result, s.reqEnd_eq r result⟩⟩
  case word =>
    intro s c p v hruns hc
    have hexec : exec c s = .next (s.after (s.powerWord p v)) := by
      obtain ⟨rfl, rfl, hserves⟩ | ⟨rfl, rfl, hfore, hkeep⟩ := hc
      · exact congrArg Host.Outcome.next ((State.flow_of_runs hruns _).trans (congrArg s.after (hostWriteTo_of_serves s _ _ hserves)))
      · exact congrArg Host.Outcome.next ((State.flow_of_runs hruns _).trans (congrArg s.after (if_pos (by rw [hfore]; exact hkeep))))
    rw [hexec]
    refine ⟨fun hgo hf => by rw [State.powerWord, if_pos (by simp [hgo, hf])], fun h => ?_⟩
    rw [State.powerWord, if_neg (by obtain h | h := h <;> simp [h])]
  case issue =>
    intro s b mask target force bad r named hr hnamed
    have hwork : named = s.worksOn mask target := hnamed
    subst hr
    refine ⟨State.powerIssue_busy, ?_, State.powerIssue_invalid, ?_⟩
    · rintro hreq rfl rfl
      exact State.powerIssue_empty hreq
    · rintro hreq hmask rfl heven ht
      rw [State.powerIssue_valid hreq hmask heven ht, ← hwork]
      refine ⟨fun d hd => ?_, fun hdep htz => ⟨fun hnone => ?_, fun d rest hlist hpfw => ?_, fun hne hpfw => ?_⟩, fun hdep ht12 => ?_⟩
      · rw [hd]
        exact ⟨_, s.noteRefusal_spec _ (by decide) (by decide), rfl⟩
      · rw [hdep, if_pos htz, hnone]
        rfl
      · rw [hdep, if_pos htz, hlist]
        exact ⟨_, s.noteRefusal_spec _ (by decide) (by decide), if_pos hpfw⟩
      · obtain ⟨d, rest, hlist⟩ := List.exists_cons_of_ne_nil hne
        obtain ⟨u, hu⟩ : ∃ u, u = (s.setBusy true).setPhase b 4 := ⟨_, rfl⟩
        rw [hdep, if_pos htz, ← hu]
        refine ⟨u, ?_, s.busyPhase_spec b true (by decide) hu⟩
        rw [hlist]
        exact if_neg (by rw [hpfw]; decide)
      · obtain ⟨u, hu⟩ : ∃ u, u = (s.setBusy true).setPhase b 1 := ⟨_, rfl⟩
        rw [hdep, if_neg (by omega), ← hu]
        exact ⟨u, rfl, s.busyPhase_spec b true (by decide) hu⟩

end Sys2Proof.Machine

/-! ### Domains: their states, clocks and pads (R293, R297, R306, R308, R310) -/

namespace Sys2Proof.Machine

-- A proof that fills in an argument by its default tactic waits for all that stands before it: checked in order, none waits.
set_option Elab.async false

/-! #### Digits -/

/-- A digit of base `b` is replaced; every other digit stays. -/
theorem replaced_digit {b x d v : Nat} (hv : v < b) :
    (x - x / b ^ d % b * b ^ d + v * b ^ d) / b ^ d % b = v ∧
    (∀ e, e ≠ d → (x - x / b ^ d % b * b ^ d + v * b ^ d) / b ^ e % b = x / b ^ e % b) ∧
    (∀ n, d < n → x < b ^ n → x - x / b ^ d % b * b ^ d + v * b ^ d < b ^ n) := by
  have hb : 0 < b := by omega
  have hp : 0 < b ^ d := Nat.pow_pos hb
  obtain ⟨lo, hlo⟩ : ∃ lo, lo = x % b ^ d := ⟨_, rfl⟩
  obtain ⟨q, hq⟩ : ∃ q, q = x / b ^ d := ⟨_, rfl⟩
  obtain ⟨hi, hhi⟩ : ∃ hi, hi = q / b := ⟨_, rfl⟩
  have hlt : lo < b ^ d := hlo ▸ Nat.mod_lt _ hp
  have hx : x = (hi * b + q % b) * b ^ d + lo := by
    rw [hhi, Nat.div_add_mod', hq, hlo, Nat.div_add_mod']
  have hnew : x - q % b * b ^ d + v * b ^ d = (hi * b + v) * b ^ d + lo := by
    rw [Nat.add_mul] at hx ⊢
    omega
  have hdiv (w : Nat) : ((hi * b + w) * b ^ d + lo) / b ^ d = hi * b + w := by
    rw [Nat.mul_comm, Nat.mul_add_div hp, Nat.div_eq_of_lt hlt, Nat.add_zero]
  rw [← hq, hnew]
  refine ⟨?_, fun e he => ?_, fun n hn hxn => ?_⟩
  · rw [hdiv, Nat.mul_add_mod_of_lt hv]
  · obtain h | h := Nat.lt_or_gt_of_ne he
    · have hlow (w : Nat) : ((hi * b + w) * b ^ d + lo) / b ^ e % b = lo / b ^ e % b := by
        have hsplit : b ^ d = b ^ e * b * b ^ (d - e - 1) := by rw [← pow_succ, ← pow_add, show e + 1 + (d - e - 1) = d by omega]
        rw [← Nat.mod_mul_right_div_self, hsplit, show (hi * b + w) * (b ^ e * b * b ^ (d - e - 1)) =
          b ^ e * b * ((hi * b + w) * b ^ (d - e - 1)) by ring, Nat.mul_add_mod, Nat.mod_mul_right_div_self]
      rw [hlow, hx, hlow]
    · have hhigh (w : Nat) (hw : w < b) : ((hi * b + w) * b ^ d + lo) / b ^ e = hi / b ^ (e - d - 1) := by
        rw [show b ^ e = b ^ d * b * b ^ (e - d - 1) by rw [← pow_succ, ← pow_add, show d + 1 + (e - d - 1) = e by omega],
          ← Nat.div_div_eq_div_mul, ← Nat.div_div_eq_div_mul, hdiv, Nat.mul_comm hi, Nat.mul_add_div hb, Nat.div_eq_of_lt hw, Nat.add_zero]
      rw [hhigh v hv, hx, hhigh _ (Nat.mod_lt _ hb)]
  · have hpow : b ^ n = b ^ (n - d - 1) * b * b ^ d := by rw [← pow_succ, ← pow_add, show n - d - 1 + 1 + d = n by omega]
    have hhi_lt : hi < b ^ (n - d - 1) := by
      rw [hhi, hq, Nat.div_div_eq_div_mul, Nat.div_lt_iff_lt_mul (by positivity)]
      calc x < b ^ n := hxn
        _ = b ^ (n - d - 1) * (b ^ d * b) := by rw [hpow]; ring
    calc (hi * b + v) * b ^ d + lo < (hi * b + v + 1) * b ^ d := by rw [Nat.add_mul _ 1]; omega
      _ ≤ (hi * b + b) * b ^ d := Nat.mul_le_mul_right _ (by omega)
      _ = (hi + 1) * b * b ^ d := by ring
      _ ≤ b ^ (n - d - 1) * b * b ^ d := Nat.mul_le_mul_right _ (Nat.mul_le_mul_right _ hhi_lt)
      _ = b ^ n := hpow.symm

section
variable {s t u : State} {p : List Part} {l : List Nat}

/-! #### The state of a domain -/

theorem State.setDom_spec (s : State) {d v : Nat} (hd : d ≤ 10) (hv : v ≤ 3) :
    (s.setDom d v).domState d = v ∧ ∀ e, e ≠ d → (s.setDom d v).domState e = s.domState e := by
  obtain ⟨x, hx⟩ : ∃ x, x = s.fld F.PWR_STATE_STATE := ⟨_, rfl⟩
  have hlt : x < 4 ^ 11 := hx ▸ s.fld_lt _
  obtain ⟨hself, hother, hbound⟩ := replaced_digit (b := 4) (x := x) (d := d) (v := v) (by omega)
  have hval : (s.setDom d v).fld F.PWR_STATE_STATE = x - x / 4 ^ d % 4 * 4 ^ d + v * 4 ^ d := by
    rw [State.setDom, State.fld_setFld_same _ _ _ (by decide), State.domState, ← hx, Nat.mod_eq_of_lt (show v < 4 by omega)]
    exact Nat.mod_eq_of_lt (hbound 11 (by omega) hlt)
  refine ⟨by rw [State.domState, hval, hself], fun e he => ?_⟩
  rw [State.domState, hval, hother e he, State.domState, hx]

theorem State.changeDom_regs (s : State) (d v : Nat) : (s.changeDom d v).regs = (s.setDom d v).regs :=
  State.summaryEdge_regs _ _

theorem RegsBut.changeDom (h : RegsBut s t l) {d v : Nat} (hl : R.PWR_STATE ∈ l := by simp) : RegsBut s (t.changeDom d v) l :=
  (h.wr (o := R.PWR_STATE) hl).of_regs (t.changeDom_regs d v)

theorem Frame.changeDom (h : Frame p s t) {d v : Nat} (hp : ∀ x ∈ [Part.regs, .sent, .pcie, .summaryOwed], x ∈ p := by decide) :
    Frame p s (t.changeDom d v) :=
  (h.setDom (hp _ (by simp))).signals (sameButSignals_summaryEdge _ _) hp

theorem State.domState_of_fld (h : t.fld F.PWR_STATE_STATE = s.fld F.PWR_STATE_STATE) (d : Nat) : t.domState d = s.domState d := by
  rw [State.domState, h, State.domState]

theorem RegsBut.domState (h : RegsBut s t l) (hl : R.PWR_STATE ∉ l := by decide) (d : Nat) : t.domState d = s.domState d :=
  State.domState_of_fld (h.fld hl) d

theorem State.changeDom_spec (s : State) {d v : Nat} (hd : d ≤ 10) (hv : v ≤ 3) :
    (s.changeDom d v).domState d = v ∧ ∀ e, e ≠ d → (s.changeDom d v).domState e = s.domState e := by
  have hfld : (s.changeDom d v).fld F.PWR_STATE_STATE = (s.setDom d v).fld F.PWR_STATE_STATE := by
    rw [State.fld, State.rd, s.changeDom_regs, State.fld, State.rd]
  obtain ⟨hself, hother⟩ := s.setDom_spec hd hv
  exact ⟨(State.domState_of_fld hfld d).trans hself, fun e he => (State.domState_of_fld hfld e).trans (hother e he)⟩

/-! #### A bit of a mask -/

/-- One bit of a mask, as a field of its own. -/
theorem State.fld_maskBit (s : State) (off w : Nat) {e : Nat} (he : e < w) : s.fld ⟨off, 0, w⟩ / 2 ^ e % 2 = s.fld ⟨off, e, 1⟩ := by
  unfold State.fld bitsOf
  dsimp only
  rw [Nat.pow_zero, Nat.div_one, Nat.pow_one, ← Nat.mod_mul_right_div_self, Nat.mod_mod_of_dvd,
    Nat.mod_mul_right_div_self]
  exact ⟨2 ^ (w - e - 1), by rw [← pow_succ, ← pow_add]; congr 1; omega⟩

theorem State.setBit_maskBit (s : State) {off w d : Nat} (hd : d < w) (hw : w ≤ 32) (b : Bool) :
    (s.setBit ⟨off, d, 1⟩ b).fld ⟨off, 0, w⟩ / 2 ^ d % 2 = b2n b ∧
    ∀ e, e < w → e ≠ d → (s.setBit ⟨off, d, 1⟩ b).fld ⟨off, 0, w⟩ / 2 ^ e % 2 = s.fld ⟨off, 0, w⟩ / 2 ^ e % 2 := by
  refine ⟨?_, fun e he hne => ?_⟩
  · rw [State.fld_maskBit _ _ _ hd, State.setBit, State.fld_setFld_same _ _ _ (by dsimp only; omega)]
    cases b <;> rfl
  · rw [State.fld_maskBit _ _ _ he, State.fld_maskBit _ _ _ he, State.setBit,
      State.fld_setFld_other _ _ _ _ (.inr (by dsimp only; omega))]

end

end Sys2Proof.Machine

/-! ### Entries (R301, R306, R307, R310) -/

namespace Sys2Proof.Machine

-- A proof that fills in an argument by its default tactic waits for all that stands before it: checked in order, none waits.
set_option Elab.async false

section
variable {s t : State} {r : PowerReq} {page d : Nat} {rest : List Nat}

/-! #### Answers and timeouts of blocks -/

/-- A block is asked. -/
def State.asks (s : State) (r : PowerReq) (page : Nat) : Prop := s.fatal = false ∧ s.power.req = some r ∧ r.phase = 1 ∧ page ∈ r.asking

theorem State.quiesceAnswer_none (h : s.fatal = true ∨ ∀ r, s.power.req = some r → r.phase ≠ 1 ∨ page ∉ r.asking) :
    s.quiesceAnswer page = s ∧ s.quiesceTimeout page = s := by
  unfold State.quiesceAnswer State.quiesceTimeout
  cases hreq : s.power.req with
  | none => exact ⟨rfl, rfl⟩
  | some r =>
    have hno : (decide (r.phase = 1) && r.asking.contains page && !s.fatal) = false := by
      obtain h | h := h
      · simp [h]
      · obtain h | h := h r hreq <;> simp [h]
    exact ⟨if_neg (by rw [hno]; decide), if_neg (by rw [hno, Bool.false_and]; decide)⟩

theorem State.quiesceAnswer_asked (h : s.asks r page) : s.quiesceAnswer page = answerGo 8 page r s := by
  obtain ⟨hf, hreq, hp, ha⟩ := h
  unfold State.quiesceAnswer
  rw [hreq]
  exact if_pos (by simp [hf, hp, ha])

theorem State.quiesceTimeout_waits (h : s.asks r page) (hruns : s.forcedRuns r = true) : s.quiesceTimeout page = s := by
  obtain ⟨hf, hreq, hp, ha⟩ := h
  unfold State.quiesceTimeout
  rw [hreq]
  exact if_neg (by simp [hruns])

theorem State.quiesceTimeout_asked (h : s.asks r page) (hruns : s.forcedRuns r = false) : s.quiesceTimeout page =
    if r.force then (s.noteRefusal r 7 (pageDomain page) page).2.agree
        { r with reason := 7, page := page, isolated := r.isolated ++ [page] } page
      else (s.noteRefusal r 7 (pageDomain page) page).2.rollback { r with reason := 7, page := page } := by
  obtain ⟨hf, hreq, hp, ha⟩ := h
  unfold State.quiesceTimeout
  rw [hreq]
  exact if_pos (by simp [hf, hp, ha, hruns])

/-- The forced action for a reason runs. -/
def State.forces (s : State) (r : PowerReq) (why : Nat) : Prop := ∃ f, r.forcing = some f ∧ f.2 = why ∧ (why ≠ 5 ∨ s.label.stopDue = true)

theorem State.forces_iff {why : Nat} :
    (r.forcing.any (fun f => f.2 == why) && (why != 5 || s.label.stopDue)) = true ↔ s.forces r why := by
  unfold State.forces
  cases r.forcing <;> simp

theorem State.refusal_lt {why : Nat} (h : s.refusal d = some why) : why < 32 := by
  unfold State.refusal at h
  split_ifs at h <;> simp only [Option.some.injEq] at h <;> omega

theorem answerGo_agrees (ht : r.todo = d :: rest) (n : Nat) (h : s.refusal d = none) : answerGo (n + 1) page r s = s.agree r page := by
  rw [answerGo, ht]
  simp only [h]

theorem answerGo_refuses (ht : r.todo = d :: rest) (n : Nat) {why : Nat} (h : s.refusal d = some why) : answerGo (n + 1) page r s =
    if r.forcing.any (fun f => f.2 == why) && (why != 5 || s.label.stopDue) then s.setReq r
    else if !r.force then (s.noteRefusal r why d page).2.rollback { r with reason := why, page := page }
    else answerGo n page { r with reason := why, page := page, forcing := some (page, why) }
      (((s.noteRefusal r why d page).2.setReq { r with reason := why, page := page, forcing := some (page, why) }).forceAction d why).assign := by
  cases r
  dsimp only at ht
  subst ht
  rw [answerGo]
  simp only [h]
  rfl

theorem State.agree_eq (ht : r.todo = d :: rest) {r' : PowerReq}
    (hr : r' = { r with asking := r.asking.filter (· != page), agreed := r.agreed ++ [page], forcing := none }) :
    s.agree r page = if r'.asking = [] then askGo 12 { r' with todo := rest } s else s.setReq r' := by
  unfold State.agree
  have htail : r'.todo.drop 1 = rest := by rw [hr]; exact congrArg (List.drop 1) ht
  rw [← hr]
  dsimp only
  rw [htail]
  simp only [List.isEmpty_iff]

/-! #### An entry that is rolled back -/

/-- The blocks of other domains count that the entry was aborted. -/
def State.abortsCounted (s : State) (ps : List Nat) : State := s.each ps fun s p => s.bump (hdrFld p 0x3C 16 16)

theorem State.abortsCounted_spec (s : State) {ps : List Nat} (hnd : ps.Nodup) :
    (∀ p ∈ ps, (s.abortsCounted ps).fld (hdrFld p 0x3C 16 16) = min (s.fld (hdrFld p 0x3C 16 16) + 1) 65535 ∧
      (s.abortsCounted ps).fld (hdrFld p 0x3C 0 16) = s.fld (hdrFld p 0x3C 0 16)) ∧
    RegsBut s (s.abortsCounted ps) (ps.map fun p => p * 0x1000 + 0x3C) ∧ Frame [.regs] s (s.abortsCounted ps) := by
  refine ⟨?_, ?_, Frame.refl.each fun _ _ _ h => h.bump⟩
  · induction ps generalizing s with
    | nil => exact fun p hp => absurd hp List.not_mem_nil
    | cons q ps ih =>
      rw [List.nodup_cons] at hnd
      obtain ⟨hq, hnd⟩ := hnd
      obtain ⟨t, ht⟩ : ∃ t, t = s.bump (hdrFld q 0x3C 16 16) := ⟨_, rfl⟩
      have hform : s.abortsCounted (q :: ps) = t.abortsCounted ps := by rw [ht]; rfl
      have hkeep (f : Fld) (hf : f.off = q * 0x1000 + 0x3C) : (t.abortsCounted ps).fld f = t.fld f := by
        refine State.get_each (State.fld · f) fun u p hp => State.fld_bump_other _ _ _ _ (.inl ?_)
        rw [hf]
        have : p ≠ q := fun h => hq (h ▸ hp)
        simp only [hdrFld]
        omega
      intro p hp
      rw [hform]
      obtain rfl | hp := List.mem_cons.mp hp
      · rw [hkeep _ rfl, hkeep _ rfl, ht, State.fld_bump_same _ _ _ (by simp [hdrFld]),
          State.fld_bump_other _ _ _ _ (.inr (.inr (by simp [hdrFld])))]
        exact ⟨rfl, rfl⟩
      · have hne : p ≠ q := fun h => hq (h ▸ hp)
        obtain ⟨h1, h2⟩ := ih t hnd p hp
        have hoff : (hdrFld q 0x3C 16 16).off ≠ (hdrFld p 0x3C 16 16).off := by simp only [hdrFld]; omega
        have hoff' : (hdrFld q 0x3C 16 16).off ≠ (hdrFld p 0x3C 0 16).off := by simp only [hdrFld]; omega
        rw [h1, h2, ht, State.fld_bump_other _ _ _ _ (.inl hoff), State.fld_bump_other _ _ _ _ (.inl hoff')]
        exact ⟨rfl, rfl⟩
  · intro k hk
    refine State.get_each (State.rd · k) fun u p hp => State.rd_bump_other _ _ _ ?_
    exact fun h => hk (List.mem_map.mpr ⟨p, hp, h⟩)

theorem State.rollback_eq (s : State) (ht : r.todo = d :: rest) :
    s.rollback r = ((s.abortsCounted (r.agreed.filter fun p => pageDomain p != d)).reqEnd r prREFUSED).assign := by
  unfold State.rollback State.abortsCounted
  rw [ht]
  rfl

/-! #### The next domain, and gating -/

theorem askGo_spec (s : State) (r : PowerReq) (n : Nat) {pre : List Nat} (hpre : ∀ e ∈ pre, s.domOn e = false) (hn : pre.length < n) :
    (∀ d rest, r.todo = pre ++ d :: rest → s.domOn d = true →
      askGo n r s = s.setReq { r with todo := d :: rest, asking := domainPages d, forcing := none }) ∧
    (r.todo = pre → askGo n r s = s.gateBegin { r with todo := [] }) := by
  induction pre generalizing r n with
  | nil =>
    obtain ⟨n, rfl⟩ : ∃ m, n = m + 1 := ⟨n - 1, by simp at hn; omega⟩
    refine ⟨fun d rest ht hd => ?_, fun ht => ?_⟩
    · rw [List.nil_append] at ht
      rw [askGo, ht]
      simp only [hd, reduceIte]
    · rw [askGo, ht]
      simp only
      rw [← ht]
  | cons e pre ih =>
    obtain ⟨n, rfl⟩ : ∃ m, n = m + 1 := ⟨n - 1, by simp at hn; omega⟩
    rw [List.length_cons] at hn
    have hoff := hpre e (List.mem_cons_self ..)
    have hpre' := fun x hx => hpre x (List.mem_cons_of_mem _ hx)
    have hstep (tl : List Nat) (ht : r.todo = e :: tl) : askGo (n + 1) r s = askGo n { r with todo := tl } s := by
      rw [askGo, ht]
      simp only [hoff, Bool.false_eq_true, reduceIte]
    refine ⟨fun d rest ht hd => ?_, fun ht => ?_⟩
    · exact (hstep _ ht).trans ((ih { r with todo := pre ++ d :: rest } n hpre' (by omega)).1 d rest rfl hd)
    · exact (hstep _ ht).trans ((ih { r with todo := pre } n hpre' (by omega)).2 rfl)

theorem State.gateBegin_eq (s : State) (r : PowerReq) {u x : State} {r' : PowerReq} (hu : u = s.setFld r.by'.phaseFld 2)
    (hx : x = (if dHOST ∈ r.entry ∧ s.domOn dHOST = true then u.post F.PWR_EVT_RING 0x0800
      [(4, prGATING), (2, r.target), (11, r.mask), (11, 0), (5, r.reason), (8, r.page)] else u))
    (hr : r' = { r with phase := 2, todo := r.entry, asking := [], forcing := none }) :
    s.gateBegin r = if r.entry = [] then x.reqEnd r' prDONE else x.gateOn r' := by
  have hon : u.domOn dHOST = s.domOn dHOST := by
    have hur : RegsBut s u [R.PWR_REQ_STATUS, R.PWR_FREQ_STATUS] := by rw [hu]; exact RegsBut.refl.setFld r.by'.phaseFld_mem
    exact congrFun hur.domOn _
  have hxform : x = if r.entry.contains dHOST && u.domOn dHOST then u.powerDone r' prGATING 0 else u := by
    rw [hx, hon, hr]
    simp only [Bool.and_eq_true, List.contains_iff_mem]
    rfl
  have hform : s.gateBegin r = if r.entry.isEmpty then x.reqEnd r' prDONE else x.gateOn r' := by
    rw [hxform, hr, hu, ← State.setPhase_eq]
    rfl
  rw [hform]
  simp only [List.isEmpty_iff]

theorem State.gateOn_next (s : State) (ht : r.todo = d :: rest) : s.gateOn r = (s.setReq { r with was := s.domState d }).changeDom d 3 := by
  unfold State.gateOn
  rw [ht]

theorem State.gateOn_last (s : State) (ht : r.todo = []) : s.gateOn r =
    if r.target = 2 then s.railsOff { r with rails := r.entry.flatMap fun d => (s.bindings d).reverse } else s.reqEnd r prDONE := by
  unfold State.gateOn
  rw [ht]

theorem State.railsOff_nil (s : State) (h : r.rails = []) : s.railsOff r = s.reqEnd r prDONE := by
  unfold State.railsOff
  rw [h]

theorem State.railsOff_cons (s : State) {b : Nat} (h : r.rails = b :: rest) {u : State} (hu : u = s.setReq { r with phase := 3, attempts := 1 }) :
    s.railsOff r = (u.setFld r.by'.phaseFld 3).bindSend b false := by
  unfold State.railsOff
  rw [hu, ← State.setPhase_eq]
  split
  · next h' => exact absurd (h.symm.trans h') (by simp)
  · next b' tail h' =>
    obtain ⟨rfl, -⟩ := List.cons.inj (h.symm.trans h')
    rfl

/-! #### A domain that has been gated -/

/-- What a domain gives up as it is gated. -/
def State.released (s : State) (d : Nat) : State := if d = dSTORE then s.canaryRelease else if d = dLINK then s.linkGated else s

/-- Digests are held, pads latched, the clock stops, and the domain is in its new state. -/
def State.gated (s : State) (d v : Nat) : State := (((s.holdDigests d).setPads d true).setClk d false).changeDom d v

/-- What HOST's gating adds. -/
def State.hostGated (s : State) (r : PowerReq) (d : Nat) : State :=
  let s := if d = dHOST then s.setHold0 else s
  if d = dHOST && (s.power.perstLow || r.by' == .autoOff) then { s with power := { s.power with perstLatch := true } } else s

theorem State.domainGated_none (h : s.fatal = true ∨ ∀ r, s.power.req = some r → r.phase ≠ 2 ∨ r.todo.head? ≠ some d) : s.domainGated d = s := by
  unfold State.domainGated
  cases hreq : s.power.req with
  | none => rfl
  | some r =>
    refine if_neg ?_
    obtain h | h := h
    · simp [h]
    · obtain h | h := h r hreq <;> simp [h]

theorem State.domainGated_eq (hf : s.fatal = false) (hreq : s.power.req = some r) (hp : r.phase = 2) (ht : r.todo = d :: rest) {u : State}
    (hu : u = (s.released d).gated d (2 - r.target)) :
    s.domainGated d = ((if r.target = 2 then u.domainLost d else u).hostGated r d).gateOn { r with todo := rest } := by
  have htail : r.todo.drop 1 = rest := by rw [ht]; rfl
  unfold State.domainGated
  rw [hreq, hu, ← htail]
  exact if_pos (by simp [hf, hp, ht])

theorem State.hostGated_other (hd : d ≠ dHOST) : s.hostGated r d = s := by
  unfold State.hostGated
  rw [if_neg hd, if_neg (by simp [hd])]

theorem State.hostGated_host {z : State} (hz : z = s.setFld F.SCAN_STATUS_HOLD 1) : s.hostGated r dHOST =
    { z with power := { s.power with perstLatch := s.power.perstLatch || s.power.perstLow || r.by' == .autoOff } } := by
  have hpow : z.power = s.power := by rw [hz]; rfl
  have hform : s.hostGated r dHOST =
      if z.power.perstLow || r.by' == .autoOff then { z with power := { z.power with perstLatch := true } } else z := by rw [hz]; rfl
  rw [hform, ← hpow]
  cases hlow : z.power.perstLow <;> cases hby : r.by' == .autoOff
  · rw [if_neg (by decide), Bool.or_false, Bool.or_false]
  · rw [if_pos (by decide), Bool.or_true]
  · rw [if_pos (by decide), Bool.or_true, Bool.true_or]
  · rw [if_pos (by decide), Bool.or_true]

theorem digestReg_notMem {l : List Nat} (h : ∀ k ∈ l, k % 0x1000 ≠ 0x34) (p : Nat) : digestReg p ∉ l :=
  fun hp => h _ hp (by unfold digestReg; omega)

theorem State.gated_spec (w : State) {d v : Nat} (hd : d ≤ 10) (hv : v ≤ 3) {u : State} (hu : u = w.gated d v) :
    u.domState d = v ∧ (∀ e, e ≠ d → u.domState e = w.domState e) ∧
    u.fld F.PWR_PAD_HELD_MASK / 2 ^ d % 2 = 1 ∧ u.fld F.CLK_DOMAIN_CLK_MASK / 2 ^ d % 2 = 0 ∧
    (∀ e, e ≤ 10 → e ≠ d → u.fld F.PWR_PAD_HELD_MASK / 2 ^ e % 2 = w.fld F.PWR_PAD_HELD_MASK / 2 ^ e % 2 ∧
      u.fld F.CLK_DOMAIN_CLK_MASK / 2 ^ e % 2 = w.fld F.CLK_DOMAIN_CLK_MASK / 2 ^ e % 2) ∧
    (∀ p ∈ domainPages d, u.rd (digestReg p) = w.pageDigest p) ∧
    RegsBut w u ([R.PWR_PAD_HELD, R.CLK_DOMAIN_CLK, R.PWR_STATE] ++ (domainPages d).map digestReg) ∧
    Frame [.regs, .sent, .pcie, .summaryOwed] w u := by
  obtain ⟨a, ha⟩ : ∃ a, a = w.each (domainPages d) State.holdDigest := ⟨_, rfl⟩
  obtain ⟨b, hb⟩ : ∃ b, b = a.setBit ⟨R.PWR_PAD_HELD, d, 1⟩ true := ⟨_, rfl⟩
  obtain ⟨c, hc⟩ : ∃ c, c = b.setBit ⟨R.CLK_DOMAIN_CLK, d, 1⟩ false := ⟨_, rfl⟩
  have hform : u = c.changeDom d v := by rw [hu, hc, hb, ha]; rfl
  have hnd : (domainPages d).Nodup := List.Nodup.filter _ (by decide)
  obtain ⟨hdig, har⟩ := State.rd_each_holdDigest (s := w) hnd
  rw [← ha] at hdig har
  have hnot {k : Nat} (hk : k % 0x1000 ≠ 0x34) : k ∉ (domainPages d).map digestReg := by
    rw [List.mem_map]
    rintro ⟨p, -, rfl⟩
    exact hk (by unfold digestReg; omega)
  have hbr : RegsBut a b [R.PWR_PAD_HELD] := by rw [hb]; exact RegsBut.refl.setBit
  have hcr : RegsBut b c [R.CLK_DOMAIN_CLK] := by rw [hc]; exact RegsBut.refl.setBit
  have hur : RegsBut c u [R.PWR_STATE] := by rw [hform]; exact RegsBut.refl.changeDom
  obtain ⟨hself, hother⟩ := c.changeDom_spec hd hv
  rw [← hform] at hself hother
  obtain ⟨hpad, hpads⟩ := a.setBit_maskBit (off := R.PWR_PAD_HELD) (w := 11) (d := d) (by omega) (by decide) true
  obtain ⟨hclk, hclks⟩ := b.setBit_maskBit (off := R.CLK_DOMAIN_CLK) (w := 11) (d := d) (by omega) (by decide) false
  rw [← hb] at hpad hpads
  rw [← hc] at hclk hclks
  have hpadf : u.fld F.PWR_PAD_HELD_MASK = b.fld F.PWR_PAD_HELD_MASK := (hur.fld (by decide)).trans (hcr.fld (by decide))
  have hclkf : u.fld F.CLK_DOMAIN_CLK_MASK = c.fld F.CLK_DOMAIN_CLK_MASK := hur.fld (by decide)
  refine ⟨hself, fun e he => ?_, ?_, ?_, fun e he hne => ⟨?_, ?_⟩, fun p hp => ?_, ?_, ?_⟩
  · rw [hother e he, hcr.domState, hbr.domState, har.domState (hnot (by decide))]
  · rw [hpadf]
    exact hpad
  · rw [hclkf]
    exact hclk
  · rw [hpadf, ← har.fld (g := F.PWR_PAD_HELD_MASK) (hnot (by decide))]
    exact hpads e (by omega) hne
  · rw [hclkf, ← har.fld (g := F.CLK_DOMAIN_CLK_MASK) (hnot (by decide)), ← hbr.fld (g := F.CLK_DOMAIN_CLK_MASK) (by decide)]
    exact hclks e (by omega) hne
  · rw [hur _ (digestReg_notMem (by decide) p), hcr _ (digestReg_notMem (by decide) p), hbr _ (digestReg_notMem (by decide) p), hdig p hp]
  · refine (((har.trans hbr).trans hcr).trans hur).mono fun k hk => ?_
    simp only [List.mem_append, List.mem_cons, List.not_mem_nil, or_false] at hk ⊢
    tauto
  · rw [hform, hc, hb, ha]
    exact (((Frame.refl.each fun _ _ _ h => h.setFld).setBit).setBit).changeDom

end

/-- Settles O47: the blocks that are asked, refusals and forced actions, and the gating of domains. -/
theorem powerEntriesProceed : Obligations.PowerEntriesProceed := by
  unfold Obligations.PowerEntriesProceed
  refine ⟨?asked, ?answer, ?next, ?gate, ?gated⟩
  case asked =>
    intro s page hruns
    have hanswer : exec (.blockQuiesceAnswer page) s = .next (s.after (s.quiesceAnswer page.toNat)) :=
      congrArg Host.Outcome.next (State.flow_of_runs hruns _)
    have htimeout : exec (.quiesceTimeout page) s = .next (s.after (s.quiesceTimeout page.toNat)) :=
      congrArg Host.Outcome.next (State.flow_of_runs hruns _)
    rw [hanswer, htimeout]
    refine ⟨fun h => ?_, fun r hf hreq hp ha => ⟨?_, fun hwait => ?_, fun hwait => ?_⟩⟩
    · obtain ⟨h1, h2⟩ := State.quiesceAnswer_none h
      rw [h1, h2]
      exact ⟨rfl, rfl⟩
    · rw [State.quiesceAnswer_asked ⟨hf, hreq, hp, ha⟩]
    · rw [State.quiesceTimeout_waits ⟨hf, hreq, hp, ha⟩ hwait]
    · rw [State.quiesceTimeout_asked ⟨hf, hreq, hp, ha⟩ hwait]
      refine ⟨_, s.noteRefusal_spec r (by decide) page.isLt, fun hno => ?_, fun hyes => ?_⟩
      · rw [if_neg (by rw [hno]; decide)]
      · rw [if_pos hyes]
  case answer =>
    intro s page r d rest ht hpage
    refine ⟨fun n => ⟨answerGo_agrees ht n, fun why hwhy => ⟨fun h => ?_, fun h => ?_⟩⟩, fun r' hr => State.agree_eq ht hr, fun hnd => ?_⟩
    · rw [answerGo_refuses ht n hwhy, if_pos (State.forces_iff.mpr h)]
    · rw [answerGo_refuses ht n hwhy, if_neg fun hf => h (State.forces_iff.mp hf)]
      refine ⟨_, s.noteRefusal_spec r (State.refusal_lt hwhy) hpage, fun hno => ?_, fun hyes r' hr => ?_⟩
      · exact if_pos (by rw [hno]; rfl)
      · rw [hr]
        exact if_neg (by rw [hyes]; decide)
    · obtain ⟨hcount, hregs, hframe⟩ := s.abortsCounted_spec (hnd.filter fun p => pageDomain p != d)
      exact ⟨_, s.rollback_eq ht, fun p hp hne => hcount p (List.mem_filter.mpr ⟨hp, by simpa using hne⟩), hregs, hframe⟩
  case next =>
    intro s r n pre hpre hn
    obtain ⟨hask, hdone⟩ := askGo_spec s r n hpre hn
    exact ⟨hask, hdone, fun u x r' hu hx hr => s.gateBegin_eq r hu hx hr⟩
  case gate =>
    intro s r
    refine ⟨fun d rest => s.gateOn_next, s.gateOn_last, s.railsOff_nil, fun b rest u h hu => s.railsOff_cons h hu, fun d v hd hv => ?_⟩
    obtain ⟨hself, hother⟩ := s.changeDom_spec hd hv
    exact ⟨hself, fun e _ he => hother e he, RegsBut.refl.changeDom,
      (Frame.refl.changeDom : Frame [.regs, .sent, .pcie, .summaryOwed] s (s.changeDom d v))⟩
  case gated =>
    intro s d hruns
    have hexec : exec (.domainGated d) s = .next (s.after (s.domainGated d.toNat)) :=
      congrArg Host.Outcome.next (State.flow_of_runs hruns _)
    rw [hexec]
    refine ⟨fun h => by rw [State.domainGated_none h], fun r rest w hf hreq hp ht hd1 hd htarget hw => ?_⟩
    obtain ⟨u, hu⟩ : ∃ u, u = w.gated d.toNat (2 - r.target) := ⟨_, rfl⟩
    obtain ⟨hself, hother, hpad, hclk, hbits, hdig, hregs, hframe⟩ := w.gated_spec hd (by omega) hu
    obtain ⟨x, hx⟩ : ∃ x, x = if r.target = 2 then u.domainLost d.toNat else u := ⟨_, rfl⟩
    refine ⟨u, x, x.hostGated r d.toNat, hself, fun e _ he => hother e he, hpad, hclk, hbits, hdig, hregs, hframe, hx,
      State.hostGated_other, fun hd z hz => ?_, ?_⟩
    · rw [hd]
      exact State.hostGated_host hz
    · rw [hw] at hu
      rw [State.domainGated_eq hf hreq hp ht hu, ← hx]

end Sys2Proof.Machine

/-! ### Wakes: rails, PLLs, and domains that reach ON or fail (R301, R302, R308 to R310) -/

namespace Sys2Proof.Machine

-- A proof that fills in an argument by its default tactic waits for all that stands before it: checked in order, none waits.
set_option Elab.async false

section
variable {s t u : State} {r : PowerReq} {p : List Part} {l : List Nat} {b d : Nat} {rest : List Nat} {on : Bool} {res : RailRes}

/-! #### Rails -/

theorem State.bindSend_eq (s : State) (b : Nat) (on : Bool) : s.bindSend b on =
    { s with
      sent :=
        .pmbus (readWord (s.bindAddr b).1 0x79) :: .pmbus (writeByte (s.bindAddr b).1 0x01 (if on then 0x80 else 0x00)) ::
          .pmbus (writeByte (s.bindAddr b).1 0x00 (s.bindAddr b).2) :: s.sent } := rfl

theorem Frame.bindSend (h : Frame p s t) (hp : .sent ∈ p := by decide) : Frame p s (t.bindSend b on) :=
  h.then (q := [.sent]) rfl (forall_mem_one hp)

/-- A rail is awaited. -/
def State.awaits (s : State) (r : PowerReq) (b : Nat) (rest : List Nat) : Prop :=
  s.fatal = false ∧ s.power.req = some r ∧ r.rails = b :: rest

theorem State.railPoll_none (h : s.fatal = true ∨ ∀ r, s.power.req = some r → r.rails = []) : s.railPoll res = s := by
  unfold State.railPoll
  split
  · rfl
  · next r hreq =>
    split
    · rfl
    · next hr => exact if_pos (h.resolve_right fun h => by simp [h r hreq] at hr)

/-- A rail of a wake is on: the next one, the PLL or the domain itself follows. -/
def State.railOn (s : State) (r : PowerReq) (b : Nat) (rest : List Nat) : State :=
  match rest with
  | b' :: _ => (s.setReq { r with rails := rest, attempts := 1 }).bindSend b' true
  | [] =>
    match s.powered { r with rails := rest, attempts := 1 } (b / 4) with
    | (none, s) => s
    | (some r, s) => s.wakeOn r

/-- A rail's attempt goes on, ends or fails. -/
theorem State.railPoll_eq (h : s.awaits r b rest) : s.railPoll res =
    if railAgain res (r.phase == 4) then s.bindRead b
    else if railShown res (r.phase == 4) then
      if !(r.phase == 4) then s.railsOff { r with rails := rest }
      else s.railOn r b rest
    else if r.attempts ≤ s.fld F.RGL_REQ_CFG_RETRIES then (s.setReq { r with attempts := r.attempts + 1 }).bindSend b (r.phase == 4)
    else if r.phase == 4 then
      ((s.regFailed (s.bindAddr b).1 (s.bindAddr b).2 (railCause res)).wakeFail r (b / 4) (railCause res) (some b)).2.wakeOn
        ((s.regFailed (s.bindAddr b).1 (s.bindAddr b).2 (railCause res)).wakeFail r (b / 4) (railCause res) (some b)).1
    else ((s.regFailed (s.bindAddr b).1 (s.bindAddr b).2 (railCause res)).regFailEvent 0 (s.bindAddr b).1 (s.bindAddr b).2
      (railCause res)).railsOff { r with rails := rest } := by
  obtain ⟨hf, hreq, hr⟩ := h
  unfold State.railPoll
  split
  · next hnone => exact absurd (hreq.symm.trans hnone) (by simp)
  · next r' hreq' =>
    obtain rfl : r = r' := Option.some.inj (hreq.symm.trans hreq')
    split
    · next hnil => exact absurd (hr.symm.trans hnil) (by simp)
    · next b' rest' hr' =>
      obtain ⟨rfl, rfl⟩ := List.cons.inj (hr.symm.trans hr')
      dsimp only
      refine (if_neg (show ¬s.fatal = true by rw [hf]; decide)).trans ?_
      refine if_congr Iff.rfl rfl (if_congr Iff.rfl (if_congr Iff.rfl rfl ?_) rfl)
      cases rest with
      | nil => rfl
      | cons => rfl

theorem railAgain_status (w : BitVec 16) (on : Bool) :
    railAgain (.status w) on = if on then w.getLsbD 11 || w.getLsbD 6 else !w.getLsbD 6 := by
  unfold railAgain railWanted
  cases on <;> simp

theorem railShown_status (w : BitVec 16) (on : Bool) : railShown (.status w) on = !railAgain (.status w) on := by
  unfold railShown railAgain
  simp

theorem State.powered_pll (r : PowerReq) (hd : d = dHOST ∨ d = dLINK) : s.powered r d = (none, s.setReq { r with rails := [], pll := true }) :=
  if_pos (by simpa using hd)

theorem State.powered_up (r : PowerReq) (h1 : d ≠ dHOST) (h2 : d ≠ dLINK) :
    s.powered r d = (some { r with rails := [], todo := r.todo.drop 1 }, s.woke r d) := if_neg (by simp [h1, h2])

theorem State.bindAddr_lt (s : State) (b : Nat) : (s.bindAddr b).1 < 2 ^ 7 ∧ (s.bindAddr b).2 < 2 ^ 8 := ⟨bitsOf_lt _ _ _, bitsOf_lt _ _ _⟩

theorem State.regFailed_spec (s : State) {addr page cause : Nat} (ha : addr < 2 ^ 7) (hp : page < 2 ^ 8) (hc : cause < 2 ^ 4) {u : State}
    (hu : u = s.regFailed addr page cause) :
    u.fld F.RGL_FAILS_COUNT = min (s.fld F.RGL_FAILS_COUNT + 1) (2 ^ 32 - 1) ∧ u.fld F.RGL_LAST_FAIL_ADDR = addr ∧
    u.fld F.RGL_LAST_FAIL_PAGE = page ∧ u.fld F.RGL_LAST_FAIL_CAUSE = cause ∧ RegsBut s u [R.RGL_FAILS, R.RGL_LAST_FAIL] ∧
    Frame [.regs] s u := by
  obtain ⟨a, hae⟩ : ∃ a, a = s.bump F.RGL_FAILS_COUNT := ⟨_, rfl⟩
  have hform : u = ((a.setFld F.RGL_LAST_FAIL_ADDR addr).setFld F.RGL_LAST_FAIL_PAGE page).setFld F.RGL_LAST_FAIL_CAUSE cause := by
    rw [hu, hae]
    rfl
  refine ⟨?_, ?_, ?_, ?_, ?_, ?_⟩
  · rw [hform, State.fld_setFld_other _ _ _ _ (by decide), State.fld_setFld_two _ _ _ (by decide), hae, State.fld_bump_same _ _ _ (by decide)]
  · rw [hform, State.fld_setFld_two _ _ _ (by decide), State.fld_setFld_same _ _ _ (by decide)]
    exact Nat.mod_eq_of_lt ha
  · rw [hform, State.fld_setFld_other _ _ _ _ (by decide), State.fld_setFld_same _ _ _ (by decide)]
    exact Nat.mod_eq_of_lt hp
  · rw [hform, State.fld_setFld_same _ _ _ (by decide)]
    exact Nat.mod_eq_of_lt hc
  · rw [hform, hae]
    exact RegsBut.refl.bump.setFld.setFld.setFld
  · rw [hform, hae]
    exact Frame.refl.bump.setFld.setFld.setFld

/-! #### PLLs -/

theorem State.pll_none (h : s.fatal = true ∨ ∀ r, s.power.req = some r → r.pll = false ∨ r.todo.head? ≠ some d) :
    s.pllLock d = s ∧ s.pllTimeout d = s := by
  unfold State.pllLock State.pllTimeout
  cases hreq : s.power.req with
  | none => exact ⟨rfl, rfl⟩
  | some r =>
    have hno : (r.pll && r.todo.head? == some d && !s.fatal) = false := by
      obtain h | h := h
      · simp [h]
      · obtain h | h := h r hreq <;> simp [h]
    exact ⟨if_neg (by rw [hno]; decide), if_neg (by rw [hno]; decide)⟩

theorem State.pll_eq (hf : s.fatal = false) (hreq : s.power.req = some r) (hp : r.pll = true) (ht : r.todo = d :: rest) :
    s.pllLock d = (s.woke r d).wakeOn { r with pll := false, todo := rest } ∧
    s.pllTimeout d = (s.wakeFail r d 3 none).2.wakeOn (s.wakeFail r d 3 none).1 := by
  have hyes : (r.pll && r.todo.head? == some d && !s.fatal) = true := by simp [hp, ht, hf]
  have htail : r.todo.drop 1 = rest := by rw [ht]; rfl
  unfold State.pllLock State.pllTimeout
  rw [hreq, ← htail]
  exact ⟨if_pos hyes, if_pos hyes⟩

/-! #### The next domain of a wake -/

section
variable {n : Nat}

theorem wakeGo_done (n : Nat) (h : r.todo = []) : wakeGo (n + 1) r s = s.reqEnd r (if r.failed = [] then prDONE else prWAKEFAIL) := by
  rw [wakeGo, h]
  simp only [List.isEmpty_iff]

/-- A domain that wakes: its first rail, its PLL or the domain itself follows. -/
def wakeNext (n : Nat) (r : PowerReq) (d : Nat) (w : State) : State :=
  match r.rails with
  | b :: _ => (w.setReq r).bindSend b true
  | [] =>
    match w.powered r d with
    | (none, s) => s
    | (some r, s) => wakeGo n r s

theorem wakeGo_cons (n : Nat) (ht : r.todo = d :: rest) {w : State} {r' : PowerReq} (hw : w = s.changeDom d 3)
    (hr' : r' = { r with was := s.domState d, rails := if s.domState d = 0 then w.bindings d else [], attempts := 1, pll := false }) :
    wakeGo (n + 1) r s =
      if !s.domOn (prereq d) then wakeGo n { r with reason := 8, page := 0xFF, todo := rest } (s.noteRefusal r 8 d 0xFF).2
      else if s.power.asleep then { s with power := { s.power with req := some r, starting := true } }
      else wakeNext n r' d w := by
  subst hr' hw
  cases r
  dsimp only at ht
  subst ht
  rw [wakeGo]
  rfl

end

/-! #### A domain that reaches ON -/

theorem putBits_one (x : Word) (d : Nat) : putBits x d 1 1 = x ||| BitVec.ofNat 32 (2 ^ d) := by
  have hplace : place d 1 (2 ^ 1 - 1) = 2 ^ d ∧ place d 1 1 = 2 ^ d := by simp [place]
  rw [putBits, hplace.1, hplace.2]
  refine BitVec.eq_of_getLsbD_eq fun i hi => ?_
  rw [BitVec.getLsbD_or, BitVec.getLsbD_or, BitVec.getLsbD_and, BitVec.getLsbD_not]
  cases x.getLsbD i <;> cases (BitVec.ofNat 32 (2 ^ d)).getLsbD i <;> simp [hi]

theorem State.rd_setBit_true (s : State) (off d : Nat) :
    (s.setBit ⟨off, d, 1⟩ true).rd off = s.rd off ||| BitVec.ofNat 32 (2 ^ d) := by
  rw [State.setBit, State.rd_setFld, if_pos rfl]
  exact putBits_one _ _

/-- The register of the flag that a domain sets as it reaches ON. -/
def wakeFlag (off : Bool) : Nat := if off then R.PWR_OFF_FLAG else R.PWR_WAKE_FLAG

/-- A domain reaches ON: its digests, its clock, its flag and its state. -/
def State.domainIn (w : State) (off : Bool) (d : Nat) : State :=
  let s := if off || w.digestsStale d then w.setFld F.CHIP_DIGEST_STATUS_BUSY 1 else w
  ((s.setClk d true).setBit ⟨wakeFlag off, d, 1⟩ true).changeDom d 2

theorem State.woke_eq (s : State) (r : PowerReq) (d : Nat) {w : State} (hw : w = if r.was = 0 then s.domainRegs d else s.logicReset d) :
    s.woke r d = (w.domainIn (r.was == 0) d).domainUp d (r.was == 0) := by
  have hreset : (if r.was == 0 then s.domainRegs d else s.logicReset d) = w := by
    rw [hw]
    simp only [beq_iff_eq]
  unfold State.woke State.domainIn wakeFlag
  dsimp only
  rw [hreset]
  cases r.was == 0 <;> rfl

theorem State.domainIn_spec (w : State) (off : Bool) {d : Nat} (hd : d ≤ 10) {u : State} (hu : u = w.domainIn off d) :
    u.domState d = 2 ∧ (∀ e, e ≠ d → u.domState e = w.domState e) ∧ u.fld F.CLK_DOMAIN_CLK_MASK / 2 ^ d % 2 = 1 ∧
    (∀ e, e ≠ d → u.fld F.CLK_DOMAIN_CLK_MASK / 2 ^ e % 2 = w.fld F.CLK_DOMAIN_CLK_MASK / 2 ^ e % 2) ∧
    u.bit F.CHIP_DIGEST_STATUS_BUSY = (w.bit F.CHIP_DIGEST_STATUS_BUSY || off || w.digestsStale d) ∧
    u.rd (wakeFlag off) = w.rd (wakeFlag off) ||| BitVec.ofNat 32 (2 ^ d) ∧
    RegsBut w u [R.CHIP_DIGEST_STATUS, R.CLK_DOMAIN_CLK, wakeFlag off, R.PWR_STATE] ∧ Frame [.regs, .sent, .pcie, .summaryOwed] w u := by
  obtain ⟨a, ha⟩ : ∃ a, a = if off || w.digestsStale d then w.setFld F.CHIP_DIGEST_STATUS_BUSY 1 else w := ⟨_, rfl⟩
  obtain ⟨b, hb⟩ : ∃ b, b = a.setBit ⟨R.CLK_DOMAIN_CLK, d, 1⟩ true := ⟨_, rfl⟩
  obtain ⟨c, hc⟩ : ∃ c, c = b.setBit ⟨wakeFlag off, d, 1⟩ true := ⟨_, rfl⟩
  have hform : u = c.changeDom d 2 := by rw [hu, hc, hb, ha]; rfl
  have hflag : wakeFlag off = 0x1110 ∨ wakeFlag off = 0x110C := by cases off <;> simp [wakeFlag]
  have har : RegsBut w a [R.CHIP_DIGEST_STATUS] := by rw [ha]; exact .ite RegsBut.refl.setFld .refl
  have hbr : RegsBut a b [R.CLK_DOMAIN_CLK] := by rw [hb]; exact RegsBut.refl.setBit
  have hcr : RegsBut b c [wakeFlag off] := by rw [hc]; exact RegsBut.refl.setBit
  have hur : RegsBut c u [R.PWR_STATE] := by rw [hform]; exact RegsBut.refl.changeDom
  have hnot {k : Nat} (hk : k ≠ 0x1110 ∧ k ≠ 0x110C) : k ∉ [wakeFlag off] := by
    rw [List.mem_singleton]
    obtain h | h := hflag <;> rw [h]
    · exact hk.1
    · exact hk.2
  obtain ⟨hself, hother⟩ := c.changeDom_spec (d := d) hd (v := 2) (by decide)
  rw [← hform] at hself hother
  obtain ⟨hclk, hclks⟩ := a.setBit_maskBit (off := R.CLK_DOMAIN_CLK) (w := 11) (d := d) (by omega) (by decide) true
  rw [← hb] at hclk hclks
  have hclkf : u.fld F.CLK_DOMAIN_CLK_MASK = b.fld F.CLK_DOMAIN_CLK_MASK := (hur.fld (by decide)).trans (hcr.fld (hnot (by decide)))
  refine ⟨hself, fun e he => ?_, ?_, fun e he => ?_, ?_, ?_, ?_, ?_⟩
  · rw [hother e he, hcr.domState (hnot (by decide)), hbr.domState, har.domState]
  · rw [hclkf]
    exact hclk
  · rw [hclkf, ← har.fld (g := F.CLK_DOMAIN_CLK_MASK) (by decide)]
    obtain h | h := Nat.lt_or_ge e 11
    · exact hclks e h he
    · have hhigh (x : State) : x.fld F.CLK_DOMAIN_CLK_MASK / 2 ^ e = 0 :=
        Nat.div_eq_of_lt (lt_of_lt_of_le (x.fld_lt _) (Nat.pow_le_pow_right (by decide) h))
      rw [hhigh, hhigh]
  · have hbit : u.bit F.CHIP_DIGEST_STATUS_BUSY = a.bit F.CHIP_DIGEST_STATUS_BUSY :=
      congrArg (· == 1) ((hur.fld (by decide)).trans ((hcr.fld (hnot (by decide))).trans (hbr.fld (by decide))))
    rw [hbit, ha, Bool.or_assoc]
    split
    · next h =>
      rw [h, Bool.or_true, State.bit, State.fld_setFld_same _ _ _ (by decide)]
      rfl
    · next h => rw [Bool.eq_false_of_not_eq_true h, Bool.or_false]
  · have hlate : wakeFlag off ∉ [R.PWR_STATE] := by
      obtain h | h := hflag <;> rw [h] <;> decide
    have hearly : wakeFlag off ∉ [R.CHIP_DIGEST_STATUS, R.CLK_DOMAIN_CLK] := by
      obtain h | h := hflag <;> rw [h] <;> decide
    rw [hur _ hlate, hc, State.rd_setBit_true, (har.trans hbr) _ hearly]
  · exact (((har.trans hbr).trans hcr).trans hur)
  · rw [hform, hc, hb, ha]
    exact (((Frame.refl.setFld).ite .refl).setBit.setBit).changeDom

/-! #### A domain that does not reach ON -/

/-- A wake that fails takes the rails of the domain off. -/
def State.railsDown (s : State) (d : Nat) : State := s.each (s.bindings d).reverse fun s b => s.bindSend b false

theorem State.railsDown_regs (s : State) (d : Nat) : (s.railsDown d).regs = s.regs := State.get_each State.regs fun _ _ _ => rfl

/-- The domain's clock stops, and it is OFF. -/
def State.domainOut (w : State) (d : Nat) : State := (w.setClk d false).changeDom d 0

theorem State.domainOut_spec (w : State) {d : Nat} (hd : d ≤ 10) {v : State} (hv : v = w.domainOut d) :
    v.domState d = 0 ∧ (∀ e, e ≠ d → v.domState e = w.domState e) ∧ v.fld F.CLK_DOMAIN_CLK_MASK / 2 ^ d % 2 = 0 ∧
    RegsBut w v [R.PWR_STATE, R.CLK_DOMAIN_CLK] ∧ Frame [.regs, .sent, .pcie, .summaryOwed] w v := by
  obtain ⟨a, ha⟩ : ∃ a, a = w.setBit ⟨R.CLK_DOMAIN_CLK, d, 1⟩ false := ⟨_, rfl⟩
  have hform : v = a.changeDom d 0 := by rw [hv, ha]; rfl
  have har : RegsBut w a [R.CLK_DOMAIN_CLK] := by rw [ha]; exact RegsBut.refl.setBit
  have hvr : RegsBut a v [R.PWR_STATE] := by rw [hform]; exact RegsBut.refl.changeDom
  obtain ⟨hself, hother⟩ := a.changeDom_spec (d := d) hd (v := 0) (by decide)
  rw [← hform] at hself hother
  obtain ⟨hclk, -⟩ := w.setBit_maskBit (off := R.CLK_DOMAIN_CLK) (w := 11) (d := d) (by omega) (by decide) false
  rw [← ha] at hclk
  refine ⟨hself, fun e he => (hother e he).trans (har.domState (by decide) e), ?_, (har.trans hvr).mono (by simp), ?_⟩
  · exact (congrArg (· / 2 ^ d % 2) (hvr.fld (by decide))).trans hclk
  · rw [hform, ha]
    exact Frame.refl.setBit.changeDom

/-- A failed wake is counted and its summary bit is raised. -/
def State.failShown (l : State) (d cause : Nat) : State :=
  (((l.setFld F.PWR_WAKE_FAIL_LAST_DOMAIN d).setFld F.PWR_WAKE_FAIL_LAST_CAUSE cause).bump F.PWR_WAKE_FAILS_COUNT).raise 0x01 2

theorem State.failShown_spec (l : State) {d cause : Nat} (hd : d ≤ 10) (hc : cause ≤ 4) {u : State} (hu : u = l.failShown d cause) :
    u.fld F.PWR_WAKE_FAIL_LAST_DOMAIN = d ∧ u.fld F.PWR_WAKE_FAIL_LAST_CAUSE = cause ∧
    u.fld F.PWR_WAKE_FAILS_COUNT = min (l.fld F.PWR_WAKE_FAILS_COUNT + 1) (2 ^ 32 - 1) ∧ u.rd 0x100C = l.rd 0x100C ||| 4#32 ∧
    RegsBut l u [R.PWR_WAKE_FAIL_LAST, R.PWR_WAKE_FAILS, 0x100C] ∧ Frame [.regs, .sent, .pcie, .summaryOwed] l u := by
  obtain ⟨a, ha⟩ : ∃ a, a = (l.setFld F.PWR_WAKE_FAIL_LAST_DOMAIN d).setFld F.PWR_WAKE_FAIL_LAST_CAUSE cause := ⟨_, rfl⟩
  obtain ⟨b, hb⟩ : ∃ b, b = a.bump F.PWR_WAKE_FAILS_COUNT := ⟨_, rfl⟩
  have hform : u = b.raise 0x01 2 := by rw [hu, hb, ha]; rfl
  have har : RegsBut l a [R.PWR_WAKE_FAIL_LAST] := by rw [ha]; exact RegsBut.refl.setFld.setFld
  have hbr : RegsBut a b [R.PWR_WAKE_FAILS] := by rw [hb]; exact RegsBut.refl.bump
  have hur : RegsBut b u [0x100C] := by rw [hform]; exact RegsBut.refl.raise
  refine ⟨?_, ?_, ?_, ?_, ?_, ?_⟩
  · rw [hur.fld (by decide), hbr.fld (by decide), ha, State.fld_setFld_other _ _ _ _ (by decide), State.fld_setFld_same _ _ _ (by decide)]
    exact Nat.mod_eq_of_lt (show d < 2 ^ 4 by omega)
  · rw [hur.fld (by decide), hbr.fld (by decide), ha, State.fld_setFld_same _ _ _ (by decide)]
    exact Nat.mod_eq_of_lt (show cause < 2 ^ 3 by omega)
  · rw [hur.fld (by decide), hb, State.fld_bump_same _ _ _ (by decide), har.fld (by decide)]
  · rw [hform, State.rd_raise_same, (har.trans hbr) _ (by decide)]
    rfl
  · exact ((har.trans hbr).trans hur)
  · rw [hform, hb, ha]
    exact Frame.refl.setFld.setFld.bump.raise

/-- A failed wake reports the rail that it was about, at the attempt that it was at. -/
def State.failPosted (u : State) (d cause k : Nat) (a : Nat × Nat) : State :=
  (if k < 8 then u else { u with freeCtr := u.freeCtr + 1 }).post F.PWR_EVT_RING 0x0801
    [(4, d), (3, cause), (7, a.1), (8, a.2), (3, if k < 8 then k else (Config.freeWord u.freeCtr).toNat % 8)]

theorem State.failPosted_eq (u : State) (d cause k : Nat) (a : Nat × Nat) :
    (let x := if k < 8 then (k, u) else (u.draw.1.toNat % 8, u.draw.2)
     x.2.post F.PWR_EVT_RING 0x0801 [(4, d), (3, cause), (7, a.1), (8, a.2), (3, x.1)]) = u.failPosted d cause k a := by
  unfold State.failPosted
  by_cases h : k < 8 <;> simp only [h, if_true, if_false, State.draw]

/-- The rail that a failed wake names. -/
def State.failAddr (s : State) (rail : Option Nat) : Nat × Nat :=
  match rail with
  | some b => s.bindAddr b
  | none => (0, 0)

theorem State.wakeFail_eq (s : State) (r : PowerReq) (d cause : Nat) (rail : Option Nat) : s.wakeFail r d cause rail =
    let x := ((((s.railsDown d).domainOut d).domainLost d).failShown d cause).failPosted d cause (if rail.isSome then r.attempts else 0)
      (s.failAddr rail)
    ({ r with failed := r.failed ++ [d], todo := r.todo.drop 1, rails := [], pll := false },
      if [6, 7, 4, 8].contains d then x.panelDown cauWAKEFAIL false else x) := by
  rw [← State.failPosted_eq]
  cases rail with
  | none => rfl
  | some b => rfl

/-! #### The pads of the named domains -/

theorem State.padRelease_spec (s : State) (v : Word) {u : State} (hu : u = s.padRelease v) :
    (∀ d, d ≤ 10 → u.fld F.PWR_PAD_HELD_MASK / 2 ^ d % 2 =
      if bitOf v d ∧ d ≠ 0 ∧ s.domOn d = true then 0 else s.fld F.PWR_PAD_HELD_MASK / 2 ^ d % 2) ∧
    RegsBut s u [R.PWR_PAD_HELD] ∧ Frame [.regs] s u := by
  have hstep (t : State) {e d : Nat} (he : e ≤ 10) (hd : d ≤ 10) : (t.setPads e false).fld F.PWR_PAD_HELD_MASK / 2 ^ d % 2 =
      if d = e then 0 else t.fld F.PWR_PAD_HELD_MASK / 2 ^ d % 2 := by
    obtain ⟨hself, hother⟩ := t.setBit_maskBit (off := R.PWR_PAD_HELD) (w := 11) (d := e) (by omega) (by decide) false
    split
    · next h => subst h; exact hself
    · next h => exact hother d (by omega) h
  have heach (t : State) (xs : List Nat) (hxs : ∀ e ∈ xs, e ≤ 10) {d : Nat} (hd : d ≤ 10) :
      (t.each xs fun s d => s.setPads d false).fld F.PWR_PAD_HELD_MASK / 2 ^ d % 2 =
        if d ∈ xs then 0 else t.fld F.PWR_PAD_HELD_MASK / 2 ^ d % 2 := by
    induction xs generalizing t with
    | nil => rfl
    | cons e xs ih =>
      refine (ih (t.setPads e false) fun x hx => hxs x (List.mem_cons_of_mem _ hx)).trans ?_
      rw [hstep t (hxs e (List.mem_cons_self ..)) hd]
      by_cases h1 : d ∈ xs <;> by_cases h2 : d = e <;> simp [h1, h2]
  rw [hu]
  refine ⟨fun d hd => ?_, RegsBut.refl.each fun u x h => h.setBit, Frame.refl.each fun u x _ h => h.setBit⟩
  unfold State.padRelease
  rw [heach s _ (fun e he => by have := List.mem_range.mp (List.mem_filter.mp he).1; omega) hd]
  refine if_congr ?_ rfl rfl
  simp only [List.mem_filter, List.mem_range, Bool.and_eq_true, bne_iff_ne, ne_eq]
  exact ⟨fun h => ⟨h.2.1.1, h.2.1.2, h.2.2⟩, fun h => ⟨by omega, ⟨h.1, h.2.1⟩, h.2.2⟩⟩

/-! #### Wake sources -/

section
variable {n : Nat} {f : State → Nat → State}

theorem State.each_eq_self {xs : List Nat} (h : ∀ k ∈ xs, f s k = s) : s.each xs f = s := by
  induction xs with
  | nil => rfl
  | cons k xs ih =>
    exact (congrArg (fun t : State => t.each xs f) (h k (List.mem_cons_self ..))).trans (ih fun m hm => h m (List.mem_cons_of_mem _ hm))

/-- The first number that changes the state, after which none does. -/
theorem State.each_range_first {m : Nat} (hn : n < m) (hbefore : ∀ k < n, f s k = s) (hafter : ∀ k, f (f s n) k = f s n) :
    s.each (List.range m) f = f s n := by
  obtain ⟨j, rfl⟩ := Nat.exists_eq_add_of_lt hn
  rw [show n + j + 1 = n + (j + 1) by omega, List.range_add, List.range_succ_eq_map]
  unfold State.each
  rw [List.foldl_append, List.map_cons, List.foldl_cons]
  have hfirst := s.each_eq_self (xs := List.range n) fun k hk => hbefore k (List.mem_range.mp hk)
  unfold State.each at hfirst
  rw [hfirst]
  exact State.each_eq_self fun k _ => hafter k

theorem State.sources_fires {level : State → Nat → Bool} (hn : n < 10) (hreq : s.power.req = none) (hf : s.fatal = false)
    (hdue : s.srcDue (level s) n = true) (hfirst : ∀ m, m < n → s.srcDue (level s) m = false)
    (hsome : (s.srcFire n).power.req.isSome = true) : s.sources level = s.srcFire n := by
  have hstep : (if s.power.req.isNone && !s.fatal && s.srcDue (level s) n then s.srcFire n else s) = s.srcFire n :=
    if_pos (by rw [hreq, hf, hdue]; rfl)
  refine (State.each_range_first hn (fun k hk => if_neg (by rw [hfirst k hk]; simp)) fun k => ?_).trans hstep
  rw [hstep]
  exact if_neg (by rw [Option.isNone_eq_false_iff.mpr hsome]; simp)

theorem State.sources_none {level : State → Nat → Bool} (h : s.fatal = true ∨ ∀ m, m < 10 → s.srcDue (level s) m = false) :
    s.sources level = s := by
  refine State.each_eq_self fun k hk => if_neg ?_
  obtain h | h := h
  · simp [h]
  · simp [h k (List.mem_range.mp hk)]

theorem State.setWakePending_spec (s : State) (hn : n < 10) (b : Bool) {u : State} (hu : u = s.setWakePending n b) :
    u.wakePending n = b ∧ (∀ m, m < 10 → m ≠ n → u.wakePending m = s.wakePending m) ∧ RegsBut s u [R.PWR_WAKE_PENDING] ∧
    Frame [.regs] s u := by
  obtain ⟨hself, hother⟩ := s.setBit_maskBit (off := R.PWR_WAKE_PENDING) (w := 10) hn (by decide) b
  rw [hu]
  refine ⟨?_, fun m hm hne => congrArg (· == 1) (hother m hm hne), RegsBut.refl.setBit, Frame.refl.setBit⟩
  refine (congrArg (· == 1) hself).trans ?_
  cases b <;> rfl

/-- A source that is an edge is latched. -/
def State.latched (s : State) (n : Nat) : State := if s.srcEdge n then s.setWakePending n true else s

theorem State.latched_edge (h : s.srcEdge n = true) : s.latched n = s.setWakePending n true := if_pos h

theorem State.latched_level (h : s.srcEdge n = false) : s.latched n = s := if_neg (by simp [h])

theorem State.latched_frame (s : State) (n : Nat) : Frame [.regs] s (s.latched n) := .ite Frame.refl.setBit .refl

theorem State.wakeEvent_unnamed (h : s.srcMask n = 0) : s.wakeEvent n = s := if_pos h

theorem State.wakeEvent_gating (hm : s.srcMask n ≠ 0) (hreq : s.power.req = some r) (he : s.srcEdge n = true) (hp : r.phase = 2) :
    s.wakeEvent n = s := by
  unfold State.wakeEvent
  rw [if_neg hm, hreq]
  exact if_pos (by simp [he, hp])

theorem State.wakeEvent_idle (hm : s.srcMask n ≠ 0) (hreq : s.power.req = none) :
    s.wakeEvent n = (s.latched n).sources fun _ k => k == n := by
  unfold State.wakeEvent State.latched
  rw [if_neg hm, hreq]

theorem State.wakeEvent_running (hm : s.srcMask n ≠ 0) (hreq : s.power.req = some r) (hp : s.srcEdge n = true → r.phase ≠ 2) :
    s.wakeEvent n = if r.phase = 1 && !r.force && (s.latched n).srcMask n &&& r.mask != 0 && !(s.latched n).fatal then
        (((s.latched n).noteRefusal r 9 (r.todo.headD 0) 0xFF).2.rollback { r with reason := 9, page := 0xFF }).sources
          fun t k => k == n || t.srcWakes k
      else s.latched n := by
  unfold State.wakeEvent State.latched
  rw [if_neg hm, hreq]
  refine if_neg ?_
  cases he : s.srcEdge n with
  | false => simp
  | true => simpa using hp he

theorem RegsBut.srcMask (h : RegsBut s t [R.PWR_WAKE_PENDING]) (hn : n < 10) : t.srcMask n = s.srcMask n := by
  have hrd : t.rd (0x1140 + 0x4 * n) = s.rd (0x1140 + 0x4 * n) := h _ (by show _ ∉ [0x1138]; rw [List.mem_singleton]; omega)
  unfold State.srcMask State.bit State.fld
  dsimp only
  rw [hrd]

theorem srcMask_lt (s : State) (n : Nat) : s.srcMask n < 2 ^ 11 := by
  unfold State.srcMask
  split
  · exact lt_of_le_of_lt (Nat.div_mul_le_self _ _) (s.fld_lt _)
  · decide

/-- A source that fires is shown and reported. -/
def State.firedShown (s : State) (n : Nat) : State :=
  (((if s.srcEdge n then s.setWakePending n false else s).setFld F.PWR_LAST_WAKE_SOURCE n).setFld F.PWR_LAST_WAKE_MASK
    (s.srcMask n &&& s.notOn)).raise 0x01 3

theorem State.firedShown_spec (s : State) (hn : n < 10) {u : State} (hu : u = s.firedShown n) :
    u.fld F.PWR_LAST_WAKE_SOURCE = n ∧ u.fld F.PWR_LAST_WAKE_MASK = s.srcMask n &&& s.notOn ∧
    (∀ m, m < 10 → u.wakePending m = if m = n ∧ s.srcEdge n = true then false else s.wakePending m) ∧
    u.rd 0x100C = s.rd 0x100C ||| 8#32 ∧ RegsBut s u [R.PWR_WAKE_PENDING, R.PWR_LAST_WAKE, 0x100C] ∧
    Frame [.regs, .sent, .pcie, .summaryOwed] s u := by
  obtain ⟨a, ha⟩ : ∃ a, a = if s.srcEdge n then s.setWakePending n false else s := ⟨_, rfl⟩
  obtain ⟨b, hb⟩ : ∃ b, b = (a.setFld F.PWR_LAST_WAKE_SOURCE n).setFld F.PWR_LAST_WAKE_MASK (s.srcMask n &&& s.notOn) := ⟨_, rfl⟩
  have hform : u = b.raise 0x01 3 := by rw [hu, hb, ha]; rfl
  have har : RegsBut s a [R.PWR_WAKE_PENDING] := by rw [ha]; exact .ite RegsBut.refl.setBit .refl
  have hbr : RegsBut a b [R.PWR_LAST_WAKE] := by rw [hb]; exact RegsBut.refl.setFld.setFld
  have hur : RegsBut b u [0x100C] := by rw [hform]; exact RegsBut.refl.raise
  refine ⟨?_, ?_, fun m hm => ?_, ?_, (har.trans hbr).trans hur, ?_⟩
  · rw [hur.fld (by decide), hb, State.fld_setFld_other _ _ _ _ (by decide), State.fld_setFld_same _ _ _ (by decide)]
    exact Nat.mod_eq_of_lt (show n < 2 ^ 4 by omega)
  · rw [hur.fld (by decide), hb, State.fld_setFld_same _ _ _ (by decide)]
    exact Nat.mod_eq_of_lt (lt_of_le_of_lt Nat.and_le_left (srcMask_lt s n))
  · have hlate : u.wakePending m = a.wakePending m :=
      congrArg (· / 2 ^ m % 2 == 1) ((hbr.trans hur).fld (g := F.PWR_WAKE_PENDING_SOURCES) (by decide))
    rw [hlate, ha]
    cases he : s.srcEdge n with
    | false => simp
    | true =>
      obtain ⟨hself, hother, -⟩ := s.setWakePending_spec hn false rfl
      rw [if_pos rfl]
      by_cases h : m = n
      · rw [h, if_pos ⟨rfl, rfl⟩]
        exact hself
      · rw [if_neg fun hc => h hc.1]
        exact hother m hm h
  · rw [hform, State.rd_raise_same, (har.trans hbr) _ (by decide)]
    rfl
  · rw [hform, hb, ha]
    exact ((Frame.ite Frame.refl.setBit .refl).setFld.setFld).raise

theorem State.srcFire_eq (s : State) (n : Nat) : s.srcFire n =
    ((s.firedShown n).post F.PWR_EVT_RING 0x0802 [(4, n), (11, s.srcMask n &&& s.notOn)]).powerIssue .wake (s.srcMask n &&& s.notOn) 0
      false false := rfl

/-- A level of a GPIO input is brought. -/
def State.levelShown (s : State) (n : Nat) (level : Bool) : State :=
  { s with power := { s.power with levels := if level then n :: s.power.levels.filter (· != n) else s.power.levels.filter (· != n) } }

theorem State.levelShown_contains (s : State) (n : Nat) (level : Bool) (m : Nat) :
    (s.levelShown n level).power.levels.contains m = if m = n then level else s.power.levels.contains m := by
  unfold State.levelShown
  rw [Bool.eq_iff_iff]
  cases level <;> by_cases h : m = n <;> simp [h]

theorem State.wakeSource_eq (s : State) (n : Nat) (level : Bool) : s.wakeSource n level =
    if level = s.bit (F.PWR_WAKE_SRC_POLARITY n) ∨ (s.power.levels.contains n = level ∧ s.srcEdge n = true) then s.levelShown n level
    else (s.levelShown n level).wakeEvent n := by
  have hsame : (s.levelShown n level).srcEdge n = s.srcEdge n := rfl
  unfold State.wakeSource
  refine if_congr ?_ rfl rfl
  refine Iff.trans (b := (!(level != s.bit (F.PWR_WAKE_SRC_POLARITY n)) || (s.power.levels.contains n == level && s.srcEdge n)) = true)
    Iff.rfl ?_
  simp

end

end

/-- Settles O48: one equation for each of a rail's reading, a PLL, the next domain, a source's event and what it shows; the two sides of
each branch meet in what the named stages show. -/
theorem wakesProceed : Obligations.WakesProceed := by
  unfold Obligations.WakesProceed
  refine ⟨⟨?sent, ?rail, ?pll, ?next, ?domain, ?pads⟩, ?level, ?timer, ?event⟩
  case sent => exact fun s b on => ⟨rfl, s.bindSend_eq b on⟩
  case rail =>
    intro s res hruns
    have hexec : exec (.domainRailPoll res) s = .next (s.after (s.railPoll res)) := congrArg Host.Outcome.next (State.flow_of_runs hruns _)
    rw [hexec]
    refine ⟨fun h => by rw [State.railPoll_none h], fun r b rest on hf hreq hr hon => ?_⟩
    have heq := State.railPoll_eq (res := res) ⟨hf, hreq, hr⟩
    rw [← hon] at heq
    refine ⟨fun w hres hw => ?_, fun w hres hw => ?_, fun cause hcause => ?_⟩
    · rw [heq, hres, railAgain_status, if_pos hw]
    · rw [hres, railAgain_status, hw, if_neg (by decide), railShown_status, railAgain_status, hw, if_pos (by rfl)] at heq
      have hup (h : on = true) : s.railPoll (.status w) = s.railOn r b rest := heq.trans (if_neg (by simp [h]))
      rw [hres]
      refine ⟨fun hoff => by rw [heq, if_pos (by simp [hoff])], fun b' rest' hon' hrest => ?_, fun hon' hrest hd => ?_,
        fun hon' hrest hd1 hd2 r' hr' => ?_⟩
      · rw [hup hon', hrest]
        rfl
      · rw [hup hon', hrest, State.railOn, State.powered_pll _ hd]
      · rw [hup hon', hrest, State.railOn, State.powered_up _ hd1 hd2, ← hr']
        rw [hr']
    · obtain ⟨hagain, hshown, hc⟩ : railAgain res on = false ∧ railShown res on = false ∧ railCause res = cause := by
        obtain ⟨rfl, rfl⟩ | ⟨rfl, rfl⟩ := hcause <;> exact ⟨rfl, rfl, rfl⟩
      rw [hagain, hshown, hc, if_neg (by decide), if_neg (by decide)] at heq
      refine ⟨fun hle => by rw [heq, if_pos hle], fun hlt => ?_⟩
      rw [if_neg (Nat.not_le.mpr hlt)] at heq
      obtain ⟨haddr, hpage⟩ := s.bindAddr_lt b
      have hcause4 : cause < 2 ^ 4 := by
        obtain ⟨-, rfl⟩ | ⟨-, rfl⟩ := hcause <;> decide
      obtain ⟨u, hu⟩ : ∃ u, u = s.regFailed (s.bindAddr b).1 (s.bindAddr b).2 cause := ⟨_, rfl⟩
      obtain ⟨h1, h2, h3, h4, hregs, hframe⟩ := s.regFailed_spec haddr hpage hcause4 hu
      rw [← hu] at heq
      exact ⟨u, h1, h2, h3, h4, hregs, hframe, fun hup => by rw [heq, hup, if_pos rfl], fun hoff => by rw [heq, hoff, if_neg (by decide)]⟩
  case pll =>
    intro s d hruns hd
    have hlock : exec (.domainPllLock d) s = .next (s.after (s.pllLock d.toNat)) := congrArg Host.Outcome.next (State.flow_of_runs hruns _)
    have htime : exec (.domainPllTimeout d) s = .next (s.after (s.pllTimeout d.toNat)) :=
      congrArg Host.Outcome.next ((State.flow_of_runs hruns _).trans (congrArg s.after (if_neg hd)))
    rw [hlock, htime]
    refine ⟨fun h => ?_, fun r rest hf hreq hp ht => ?_⟩
    · obtain ⟨hl, ht⟩ := State.pll_none h
      rw [hl, ht]
      exact ⟨rfl, rfl⟩
    · obtain ⟨hl, ht⟩ := State.pll_eq hf hreq hp ht
      rw [hl, ht]
      exact ⟨rfl, rfl⟩
  case next =>
    intro s r n
    refine ⟨rfl, wakeGo_done n, fun d rest ht => ⟨fun hoff => ?_, fun hon hsleep => ?_, fun hon hsleep w r' hw hr' => ?_⟩⟩
    · exact ⟨_, s.noteRefusal_spec r (by decide) (by decide), (wakeGo_cons n ht rfl rfl).trans (if_pos (by simp [hoff]))⟩
    · rw [wakeGo_cons n ht rfl rfl, if_neg (by simp [hon]), if_pos hsleep]
    · have hgo := wakeGo_cons (s := s) n ht hw hr'
      rw [if_neg (by simp [hon]), if_neg (by simp [hsleep])] at hgo
      have htail : r'.todo.drop 1 = rest := by
        rw [hr']
        dsimp only
        rw [ht]
        rfl
      refine ⟨fun b more hrails => ?_, fun hrails hd => ?_, fun hrails hd1 hd2 => ?_⟩
      · rw [hgo, wakeNext, hrails]
      · rw [hgo, wakeNext, hrails]
        dsimp only
        rw [State.powered_pll _ hd]
      · rw [hgo, wakeNext, hrails]
        dsimp only
        rw [State.powered_up _ hd1 hd2, htail]
  case domain =>
    intro s r d _ hd
    refine ⟨?_, fun cause rail k hcause hk => ?_⟩
    · obtain ⟨w, hw⟩ : ∃ w, w = if r.was = 0 then s.domainRegs d else s.logicReset d := ⟨_, rfl⟩
      obtain ⟨u, hu⟩ : ∃ u, u = w.domainIn (r.was == 0) d := ⟨_, rfl⟩
      obtain ⟨hself, hother, hclk, hclks, hdig, hflag, hregs, hframe⟩ := w.domainIn_spec (r.was == 0) hd hu
      have hoff : wakeFlag (r.was == 0) = if r.was = 0 then R.PWR_OFF_FLAG else R.PWR_WAKE_FLAG := by
        unfold wakeFlag
        simp only [beq_iff_eq]
      rw [hoff] at hflag hregs
      exact ⟨u, w, hw, (s.woke_eq r d hw).trans (by rw [← hu]), hself, fun e _ he => hother e he, hclk, hclks, hdig, hflag, hregs, hframe⟩
    · obtain ⟨a, ha⟩ : ∃ a, a = s.railsDown d := ⟨_, rfl⟩
      obtain ⟨v, hv⟩ : ∃ v, v = a.domainOut d := ⟨_, rfl⟩
      obtain ⟨l, hl⟩ : ∃ l, l = v.domainLost d := ⟨_, rfl⟩
      obtain ⟨u, hu⟩ : ∃ u, u = l.failShown d cause := ⟨_, rfl⟩
      obtain ⟨hself, hother, hclk, hvregs, hvframe⟩ := a.domainOut_spec hd hv
      obtain ⟨hdom, hcau, hcount, hsum, huregs, huframe⟩ := l.failShown_spec hd hcause hu
      have hregs : a.regs = s.regs := by rw [ha]; exact s.railsDown_regs d
      have hsa : RegsBut s a [] := RegsBut.refl.of_regs hregs
      have heq := s.wakeFail_eq r d cause rail
      rw [← ha, ← hv, ← hl, ← hu, ← hk] at heq
      obtain ⟨x, hx⟩ : ∃ x, x = u.failPosted d cause k (s.failAddr rail) := ⟨_, rfl⟩
      rw [← hx] at heq
      rw [ha] at hvframe
      rw [hl] at hcount hsum huregs huframe
      refine ⟨v, u, x, hself, fun e _ he => (hother e he).trans (hsa.domState (by decide) e), hclk, hsa.trans hvregs, hvframe, hdom, hcau,
        hcount, hsum, huregs, huframe, ?_, ?_⟩
      · cases rail <;> exact hx
      · exact heq.trans (congrArg (Prod.mk _) (if_congr (by simp [dDAWN, dDUSK, dSTORE, dLINK]) rfl rfl))
  case pads =>
    intro s v hruns hserves
    obtain ⟨u, hu⟩ : ∃ u, u = s.padRelease v := ⟨_, rfl⟩
    obtain ⟨hbits, hregs, hframe⟩ := s.padRelease_spec v hu
    refine ⟨u, ?_, hbits, hregs, hframe⟩
    rw [hu]
    exact congrArg Host.Outcome.next ((State.flow_of_runs hruns _).trans (congrArg s.after (hostWriteTo_of_serves s _ _ hserves)))
  case level =>
    intro s n level
    refine ⟨s.levelShown n.toNat level, s.levelShown_contains _ _, rfl, ?_⟩
    rw [← s.wakeSource_eq n.toNat level]
    rfl
  case timer =>
    intro s hruns
    have hexec : exec .wakeTimerExpire s = .next (s.after s.timerExpire) := congrArg Host.Outcome.next (State.flow_of_runs hruns _)
    rw [hexec]
    refine ⟨fun h => ⟨s.setFld F.PWR_TIMER_MS 0, congrArg (fun t => Host.Outcome.next (s.after t)) (if_pos h), ?_, RegsBut.refl.setFld,
      Frame.refl.setFld (p := [.regs])⟩, fun h => congrArg (fun t => Host.Outcome.next (s.after t)) (if_neg (not_not.mpr h))⟩
    exact State.fld_setFld_same _ _ _ (by decide)
  case event =>
    intro s n hn
    refine ⟨State.wakeEvent_unnamed, fun hm r hreq he hp => State.wakeEvent_gating hm hreq he hp, fun hm hgate => ?_, ?_⟩
    · obtain ⟨u, hu⟩ : ∃ u, u = s.latched n := ⟨_, rfl⟩
      have hframe : Frame [.regs] s u := by rw [hu]; exact s.latched_frame n
      have hureq : u.power.req = s.power.req := congrArg Power.req (hframe.get State.power)
      have hregs : RegsBut s u [R.PWR_WAKE_PENDING] := by rw [hu]; exact .ite RegsBut.refl.setBit .refl
      have hufat : u.fatal = s.fatal := congrArg (· == 1) (hregs.fld (by decide))
      have humask : u.srcMask n = s.srcMask n := hregs.srcMask hn
      refine ⟨u, fun he => ?_, fun he => by rw [hu, State.latched_level he], fun hreq hf hdue hfirst hsome => ?_, fun hreq h => ?_,
        fun r hreq => ?_⟩
      · obtain ⟨hself, hother, hregs, hf⟩ := s.setWakePending_spec hn true (hu.trans (State.latched_edge he))
        exact ⟨hself, hother, hregs, hf⟩
      · rw [State.wakeEvent_idle hm hreq, ← hu]
        exact State.sources_fires hn (hureq.trans hreq) (hufat.trans hf) hdue hfirst hsome
      · rw [State.wakeEvent_idle hm hreq, ← hu]
        exact State.sources_none (h.imp_left hufat.trans)
      · have heq := State.wakeEvent_running hm hreq fun he => hgate r hreq he
        rw [← hu, humask, hufat] at heq
        refine ⟨fun hp hforce hnamed hf => ?_, fun h => ?_⟩
        · refine ⟨_, u.noteRefusal_spec r (by decide) (by decide), ?_⟩
          rw [heq, if_pos (by simp [hp, hforce, hnamed, hf])]
        · rw [heq, if_neg]
          obtain h | h | h | h := h <;> simp [h]
    · obtain ⟨u, hu⟩ : ∃ u, u = s.firedShown n := ⟨_, rfl⟩
      obtain ⟨hsrc, hmask, hpend, hsum, hregs, hframe⟩ := s.firedShown_spec hn hu
      refine ⟨u, ?_, hsrc, hmask, hpend, hsum, hregs, hframe⟩
      rw [hu]
      exact s.srcFire_eq n

end Sys2Proof.Machine

/-! ### The crystal, ROOT and VDD_CORE (R299, R300, R303) -/

namespace Sys2Proof.Machine

-- A proof that fills in an argument by its default tactic waits for all that stands before it: checked in order, none waits.
set_option Elab.async false

section
variable {s t u : State} {r : PowerReq} {d : Nat} {rest : List Nat} {f g : Fld} {n : Nat}

/-! #### Bits of a register -/

theorem State.bit_setFld_other (h : f.off ≠ g.off ∨ f.lo + f.w ≤ g.lo ∨ g.lo + g.w ≤ f.lo) : (s.setFld f n).bit g = s.bit g :=
  congrArg (· == 1) (s.fld_setFld_other f g n h)

theorem State.bit_setFld_same (h : f.lo + f.w ≤ 32) : (s.setFld f n).bit f = (n % 2 ^ f.w == 1) :=
  congrArg (· == 1) (s.fld_setFld_same f n h)

theorem RegsBut.bit {l : List Nat} (h : RegsBut s t l) (hg : g.off ∉ l) : t.bit g = s.bit g := congrArg (· == 1) (h.fld hg)

/-! #### The crystal is lost -/

/-- The part is left on RC, with ROOT unlocked and KEEP's clock alone. -/
def State.onRc (s : State) : State :=
  let a := ((s.setFld F.CLK_STATUS_XTAL_OK 0).setFld F.CLK_STATUS_ON_RC 1).setFld F.CLK_STATUS_ROOT_REF 1
  (a.setFld F.CLK_STATUS_ROOT_LOCK 0).setFld F.CLK_DOMAIN_CLK_MASK 1

/-- The loss is counted, and its summary bit is raised. -/
def State.xtalShown (s : State) : State := (s.onRc.bump F.CLK_XTAL_LOSSES_COUNT).raise 0x02 0

/-- ROOT has to lock again, or has locked. -/
def State.unlocked (s : State) (b : Bool) : State := { s with power := { s.power with relock := b } }

theorem State.xtalShown_spec (s : State) {u : State} (hu : u = s.xtalShown) :
    u.bit F.CLK_STATUS_XTAL_OK = false ∧ u.bit F.CLK_STATUS_ON_RC = true ∧ u.bit F.CLK_STATUS_ROOT_REF = true ∧
    u.bit F.CLK_STATUS_ROOT_LOCK = false ∧ u.fld F.CLK_DOMAIN_CLK_MASK = 1 ∧
    u.fld F.CLK_XTAL_LOSSES_COUNT = min (s.fld F.CLK_XTAL_LOSSES_COUNT + 1) (2 ^ 32 - 1) ∧ u.rd 0x200C = s.rd 0x200C ||| 1#32 ∧
    RegsBut s u [R.CLK_STATUS, R.CLK_DOMAIN_CLK, R.CLK_XTAL_LOSSES, 0x200C] ∧ Frame [.regs, .sent, .pcie, .summaryOwed] s u := by
  obtain ⟨a, ha⟩ : ∃ a, a = (((s.setFld F.CLK_STATUS_XTAL_OK 0).setFld F.CLK_STATUS_ON_RC 1).setFld F.CLK_STATUS_ROOT_REF 1).setFld
    F.CLK_STATUS_ROOT_LOCK 0 := ⟨_, rfl⟩
  obtain ⟨b, hb⟩ : ∃ b, b = a.setFld F.CLK_DOMAIN_CLK_MASK 1 := ⟨_, rfl⟩
  obtain ⟨c, hc⟩ : ∃ c, c = b.bump F.CLK_XTAL_LOSSES_COUNT := ⟨_, rfl⟩
  have hform : u = c.raise 0x02 0 := by rw [hu, hc, hb, ha]; rfl
  have har : RegsBut s a [R.CLK_STATUS] := by rw [ha]; exact RegsBut.refl.setFld.setFld.setFld.setFld
  have hbr : RegsBut a b [R.CLK_DOMAIN_CLK] := by rw [hb]; exact RegsBut.refl.setFld
  have hcr : RegsBut b c [R.CLK_XTAL_LOSSES] := by rw [hc]; exact RegsBut.refl.bump
  have hur : RegsBut c u [0x200C] := by rw [hform]; exact RegsBut.refl.raise
  have hau : RegsBut a u [R.CLK_DOMAIN_CLK, R.CLK_XTAL_LOSSES, 0x200C] := (hbr.trans hcr).trans hur
  refine ⟨?_, ?_, ?_, ?_, ?_, ?_, ?_, ((har.trans hbr).trans hcr).trans hur, ?_⟩
  · rw [hau.bit (by decide), ha]
    simp (disch := decide) only [State.bit_setFld_other, State.bit_setFld_same]
    rfl
  · rw [hau.bit (by decide), ha]
    simp (disch := decide) only [State.bit_setFld_other, State.bit_setFld_same]
    rfl
  · rw [hau.bit (by decide), ha]
    simp (disch := decide) only [State.bit_setFld_other, State.bit_setFld_same]
    rfl
  · rw [hau.bit (by decide), ha, State.bit_setFld_same (by decide)]
    rfl
  · rw [hur.fld (by decide), hcr.fld (by decide), hb, State.fld_setFld_same _ _ _ (by decide)]
    rfl
  · rw [hur.fld (by decide), hc, State.fld_bump_same _ _ _ (by decide), (har.trans hbr).fld (by decide)]
  · rw [hform, State.rd_raise_same, ((har.trans hbr).trans hcr) _ (by decide)]
    rfl
  · rw [hform, hc, hb, ha]
    exact (((((Frame.refl.setFld).setFld).setFld).setFld).setFld).bump.raise

theorem State.xtalLoss_eq (s : State) : s.xtalLoss =
    (s.unlocked true).xtalShown.post F.PWR_EVT_RING 0x0803 [(32, (s.rd R.SCAN_FRAME_SEQ).toNat)] := by
  have hregs : RegsBut s (s.unlocked true).onRc [R.CLK_STATUS, R.CLK_DOMAIN_CLK] :=
    ((((RegsBut.refl.setFld).setFld).setFld).setFld).setFld
  rw [← hregs R.SCAN_FRAME_SEQ (by decide)]
  rfl

/-! #### ROOT locks -/

theorem foldl_two_pow (l : List Nat) (a : Nat) : l.foldl (fun a d => a + 2 ^ d) a = a + l.foldl (fun a d => a + 2 ^ d) 0 := by
  induction l generalizing a with
  | nil => rfl
  | cons d l ih => rw [List.foldl_cons, List.foldl_cons, ih, ih (0 + 2 ^ d), Nat.zero_add, Nat.add_assoc]

/-- The domains whose clocks run, KEEP's among them. -/
theorem clocks_digit (q : Nat → Bool) :
    (1 + (entryOrder.filter q).foldl (fun a d => a + 2 ^ d) 0) < 2 ^ 11 ∧
    (1 + (entryOrder.filter q).foldl (fun a d => a + 2 ^ d) 0) % 2 = 1 ∧
    ∀ d, 1 ≤ d → d ≤ 10 → (1 + (entryOrder.filter q).foldl (fun a d => a + 2 ^ d) 0) / 2 ^ d % 2 = b2n (q d) := by
  obtain ⟨x, hx⟩ : ∃ x, x = 1 + (entryOrder.filter q).foldl (fun a d => a + 2 ^ d) 0 := ⟨_, rfl⟩
  have hlist : x = (0 :: entryOrder.filter q).foldl (fun a d => a + 2 ^ d) 0 := by
    rw [hx, List.foldl_cons, foldl_two_pow _ (0 + 2 ^ 0)]
    rfl
  have hnd : (0 :: entryOrder.filter q).Nodup := by
    refine List.nodup_cons.mpr ⟨fun h => absurd (List.mem_filter.mp h).1 (by decide), List.Nodup.filter _ (by decide)⟩
  have hbit (d : Nat) : x.testBit d = (0 :: entryOrder.filter q).contains d := by rw [hlist, testBit_foldl_two_pow hnd]
  rw [← hx]
  refine ⟨Nat.lt_pow_two_of_testBit _ fun i hi => ?_, ?_, fun d h1 h2 => ?_⟩
  · rw [hbit, ← Bool.not_eq_true, List.contains_iff_mem]
    intro h
    obtain h | h := List.mem_cons.mp h
    · omega
    · have hle : ∀ e ∈ entryOrder, e ≤ 10 := by decide
      have := hle i (List.mem_filter.mp h).1
      omega
  · have h0 : x.testBit 0 = true := by rw [hbit]; rfl
    simpa using h0
  · have hd : d ∈ entryOrder := by
      have hall : ∀ e, e < 11 → 1 ≤ e → e ∈ entryOrder := by decide
      exact hall d (by omega) h1
    have hval : x.testBit d = q d := by
      rw [hbit, Bool.eq_iff_iff, List.contains_iff_mem, List.mem_cons, List.mem_filter]
      exact ⟨fun h => (h.resolve_left (by omega)).2, fun h => .inr ⟨hd, h⟩⟩
    rw [Nat.testBit_eq_decide_div_mod_eq] at hval
    rw [← hval, b2n]
    by_cases h : x / 2 ^ d % 2 = 1
    · simp [h]
    · simp [h]
      omega

/-- ROOT that locked shows lock, and the clocks of the domains that are ON run. -/
def State.relocked (s : State) : State := (s.setFld F.CLK_STATUS_ROOT_LOCK 1).clocksOn

theorem State.relocked_spec (s : State) {u : State} (hu : u = s.relocked) :
    u.bit F.CLK_STATUS_ROOT_LOCK = true ∧ (∀ d, 1 ≤ d → d ≤ 10 → u.fld F.CLK_DOMAIN_CLK_MASK / 2 ^ d % 2 = b2n (s.domOn d)) ∧
    u.fld F.CLK_DOMAIN_CLK_MASK % 2 = 1 ∧ u.bit F.CLK_STATUS_ON_RC = s.bit F.CLK_STATUS_ON_RC ∧
    u.bit F.CLK_STATUS_XTAL_OK = s.bit F.CLK_STATUS_XTAL_OK ∧ u.bit F.CLK_STATUS_ROOT_REF = s.bit F.CLK_STATUS_ROOT_REF ∧
    RegsBut s u [R.CLK_STATUS, R.CLK_DOMAIN_CLK] ∧ Frame [.regs] s u := by
  obtain ⟨a, ha⟩ : ∃ a, a = s.setFld F.CLK_STATUS_ROOT_LOCK 1 := ⟨_, rfl⟩
  have hform : u = a.setFld F.CLK_DOMAIN_CLK_MASK (1 + (entryOrder.filter a.domOn).foldl (fun a d => a + 2 ^ d) 0) := by
    rw [hu, ha]
    rfl
  have har : RegsBut s a [R.CLK_STATUS] := by rw [ha]; exact RegsBut.refl.setFld
  have hur : RegsBut a u [R.CLK_DOMAIN_CLK] := by rw [hform]; exact RegsBut.refl.setFld
  obtain ⟨hlt, hkeep, hdigit⟩ := clocks_digit a.domOn
  have hmask : u.fld F.CLK_DOMAIN_CLK_MASK = 1 + (entryOrder.filter a.domOn).foldl (fun a d => a + 2 ^ d) 0 := by
    rw [hform, State.fld_setFld_same _ _ _ (by decide)]
    exact Nat.mod_eq_of_lt hlt
  refine ⟨?_, fun d h1 h2 => ?_, by rw [hmask, hkeep], ?_, ?_, ?_, har.trans hur, ?_⟩
  · rw [hur.bit (by decide), ha, State.bit_setFld_same (by decide)]
    rfl
  · rw [hmask, hdigit d h1 h2, har.domOn (by decide)]
  · rw [hur.bit (by decide), ha, State.bit_setFld_other (by decide)]
  · rw [hur.bit (by decide), ha, State.bit_setFld_other (by decide)]
  · rw [hur.bit (by decide), ha, State.bit_setFld_other (by decide)]
  · rw [hform, ha]
    exact Frame.refl.setFld.setFld

theorem State.rootRelock_relock (h : s.power.relock = true) : s.rootRelock = (s.unlocked false).relocked := if_pos h

/-- The crystal and ROOT have restarted. -/
def State.xtalBack (s : State) : State :=
  let w := { s with power := { s.power with starting := false, asleep := false } }
  ((w.setFld F.CLK_STATUS_XTAL_OK 1).setFld F.CLK_STATUS_ROOT_LOCK 1).setFld F.CLK_STATUS_ON_RC 0

/-- The wake that runs goes on. -/
def State.wakeGoesOn (s : State) : State :=
  match s.power.req with
  | some r => s.wakeOn r
  | none => s

theorem State.wakeGoesOn_some (h : s.power.req = some r) : s.wakeGoesOn = s.wakeOn r := by
  unfold State.wakeGoesOn
  rw [h]

theorem State.wakeGoesOn_none (h : s.power.req = none) : s.wakeGoesOn = s := by
  unfold State.wakeGoesOn
  rw [h]

theorem State.rootRelock_start (h : s.power.relock = false) (hst : s.power.starting = true) (hf : s.fatal = false) :
    s.rootRelock = s.xtalBack.wakeGoesOn := by
  unfold State.rootRelock
  rw [if_neg (by simp [h]), if_pos (by simp [hst, hf])]
  rfl

theorem State.rootRelock_none (h : s.power.relock = false) (hn : s.power.starting = false ∨ s.fatal = true) : s.rootRelock = s := by
  unfold State.rootRelock
  rw [if_neg (by simp [h]), if_neg]
  obtain h | h := hn <;> simp [h]

/-! #### The crystal, or ROOT, does not start -/

theorem State.oscFail_none {c : Nat} (h : s.power.starting = false ∨ s.fatal = true ∨ s.power.req = none) : s.oscFail c = s := by
  unfold State.oscFail
  split
  · next r hreq =>
    refine if_neg ?_
    obtain h | h | h := h
    · simp [h]
    · simp [h]
    · exact absurd (hreq.symm.trans h) (by simp)
  · rfl

theorem State.oscFail_eq {c : Nat} (hst : s.power.starting = true) (hf : s.fatal = false) (hreq : s.power.req = some r)
    (ht : r.todo = d :: rest) {x : PowerReq × State}
    (hx : x = State.wakeFail { s with power := { s.power with starting := false } } { r with was := s.domState d } d c none) :
    s.oscFail c = x.2.wakeOn x.1 := by
  have hd : r.todo.headD 0 = d := by rw [ht]; rfl
  subst hx hd
  unfold State.oscFail
  rw [hreq]
  exact if_pos (by simp [hst, hf])

/-! #### The crystal sleeps -/

/-- Everything but a domain that is ON lets the crystal sleep. -/
def State.xtalIdle (s : State) : Bool :=
  s.bit F.CLK_CTRL_XTAL_SLEEP && !s.power.asleep && !s.power.relock && s.power.req.isNone && !s.bit F.SCAN_CTRL_RUN &&
    s.boot.step == .idle && !s.bit F.CLK_STATUS_ON_RC

/-- The crystal and ROOT stop. -/
def State.sleeping (s : State) : State :=
  let w := { s with power := { s.power with asleep := true } }
  ((w.setFld F.CLK_STATUS_XTAL_OK 0).setFld F.CLK_STATUS_ROOT_LOCK 0).setFld F.CLK_STATUS_ON_RC 1

theorem State.sleepCheck_sleeps (h : s.xtalIdle = true) (hd : ∀ d, 1 ≤ d → d ≤ 10 → s.domState d < 2) : s.sleepCheck = s.sleeping := by
  have hall : ((List.range 10).all fun d => decide (s.domState (d + 1) < 2)) = true := by
    rw [List.all_eq_true]
    exact fun d hr => decide_eq_true (hd (d + 1) (by omega) (by have := List.mem_range.mp hr; omega))
  exact if_pos ((congrArg (s.xtalIdle && ·) hall).trans (by rw [h]; rfl))

theorem State.sleepCheck_none (h : s.xtalIdle = false ∨ ∃ d, 1 ≤ d ∧ d ≤ 10 ∧ 2 ≤ s.domState d) : s.sleepCheck = s := by
  refine if_neg ?_
  show ¬(s.xtalIdle && (List.range 10).all fun d => decide (s.domState (d + 1) < 2)) = true
  obtain h | ⟨d, h1, h2, hd⟩ := h
  · simp [h]
  · rw [Bool.and_eq_true, List.all_eq_true]
    intro hc
    have := of_decide_eq_true (hc.2 (d - 1) (List.mem_range.mpr (by omega)))
    rw [Nat.sub_add_cancel h1] at this
    omega

/-! #### VDD_CORE -/

theorem State.avsStep_none {up : Bool} (h : s.bit F.RGL_AVS_CTRL_MODE = false ∨ s.power.avsStopped = true ∨ s.power.avsWrite.isSome = true ∨
    avsTowards (s.fld F.RGL_AVS_LIMITS_MIN) (s.fld F.RGL_AVS_LIMITS_MAX) s.power.avsTarget up = s.power.avsTarget) :
    s.avsStep up = s := by
  unfold State.avsStep
  split
  · rfl
  · next hgo =>
    refine if_pos ?_
    obtain h | h | h | h := h
    · simp [h] at hgo
    · simp [h] at hgo
    · simp [h] at hgo
    · exact h

theorem State.avsStep_goes {up : Bool} {m : Nat} (hmode : s.bit F.RGL_AVS_CTRL_MODE = true) (hstop : s.power.avsStopped = false)
    (hwrite : s.power.avsWrite = none)
    (hm : m = avsTowards (s.fld F.RGL_AVS_LIMITS_MIN) (s.fld F.RGL_AVS_LIMITS_MAX) s.power.avsTarget up) (hne : m ≠ s.power.avsTarget) :
    s.avsStep up = s.avsGo m := by
  unfold State.avsStep
  rw [if_neg (by simp [hmode, hstop, hwrite]), ← hm]
  exact if_neg hne

/-- The frame of a write reports good status and reads back its target. -/
def goodFrame (res : AvsRes) (mv : Nat) : Prop := ∃ v, res = .frame true v ∧ v.toNat ≤ mv + 10 ∧ mv ≤ v.toNat + 10

theorem avsAcked_iff (res : AvsRes) (mv : Nat) : avsAcked res mv = true ↔ goodFrame res mv := by
  unfold avsAcked goodFrame
  cases res with
  | frame good v => cases good <;> simp
  | timeout => simp

theorem avsCause_spec (res : AvsRes) : (avsCause res = 1 ↔ ∃ v, res = .frame false v) ∧ (avsCause res = 1 ∨ avsCause res = 2) := by
  unfold avsCause
  cases res with
  | frame good v => cases good <;> simp
  | timeout => simp

/-- A write of the target has failed for good. -/
def State.avsFailed (s : State) (stop : Bool) (cause : Nat) : State :=
  let a := { s with power := { s.power with avsWrite := none, avsTarget := s.fld F.RGL_AVS_NOW_MV, avsStopped := stop } }
  (a.setFld F.RGL_AVS_NOW_FAIL 1).regFailed 0 0 cause

theorem State.avsDone_eq {mv k : Nat} {res : AvsRes} (h : s.power.avsWrite = some (mv, k)) : s.avsDone res =
    if avsAcked res mv then ({ s with power := { s.power with avsWrite := none } }).setFld F.RGL_AVS_NOW_MV mv
    else if k ≤ s.fld F.RGL_REQ_CFG_RETRIES then
      ({ s with power := { s.power with avsWrite := some (mv, k + 1) } }).emit (.avs mv)
    else (s.avsFailed (s.power.avsStopped || s.bit F.RGL_AVS_CTRL_MODE) (avsCause res)).regFailEvent 1 0 0 (avsCause res) := by
  unfold State.avsDone
  split
  · next hn => exact absurd (h.symm.trans hn) (by simp)
  · next x y hxy =>
    obtain ⟨rfl, rfl⟩ := Prod.mk.inj (Option.some.inj (h.symm.trans hxy))
    rfl

theorem State.avsFailed_spec (s : State) (stop : Bool) {cause : Nat} (hc : cause < 2 ^ 4) {u : State} (hu : u = s.avsFailed stop cause) :
    u.bit F.RGL_AVS_NOW_FAIL = true ∧ u.fld F.RGL_AVS_NOW_MV = s.fld F.RGL_AVS_NOW_MV ∧
    u.fld F.RGL_FAILS_COUNT = min (s.fld F.RGL_FAILS_COUNT + 1) (2 ^ 32 - 1) ∧ u.fld F.RGL_LAST_FAIL_ADDR = 0 ∧
    u.fld F.RGL_LAST_FAIL_PAGE = 0 ∧ u.fld F.RGL_LAST_FAIL_CAUSE = cause ∧ RegsBut s u [R.RGL_AVS_NOW, R.RGL_FAILS, R.RGL_LAST_FAIL] ∧
    u = { s with regs := u.regs, power := { s.power with avsWrite := none, avsTarget := s.fld F.RGL_AVS_NOW_MV, avsStopped := stop } } := by
  obtain ⟨w, hw⟩ : ∃ w : State, w = { s with power := { s.power with avsWrite := none, avsTarget := s.fld F.RGL_AVS_NOW_MV, avsStopped := stop } } := ⟨_, rfl⟩
  obtain ⟨a, ha⟩ : ∃ a, a = w.setFld F.RGL_AVS_NOW_FAIL 1 := ⟨_, rfl⟩
  have hform : u = a.regFailed 0 0 cause := by rw [hu, ha, hw]; rfl
  have hsw : RegsBut s w [] := by rw [hw]; exact RegsBut.refl.of_regs rfl
  have har : RegsBut w a [R.RGL_AVS_NOW] := by rw [ha]; exact RegsBut.refl.setFld
  obtain ⟨h1, h2, h3, h4, hregs, hframe⟩ := a.regFailed_spec (by decide) (by decide) hc hform
  have hwu : Frame [.regs] w u := (ha ▸ Frame.refl.setFld : Frame [.regs] w a).then hframe (by decide)
  refine ⟨?_, ?_, ?_, h2, h3, h4, (hsw.trans har).trans hregs, ?_⟩
  · rw [hregs.bit (by decide), ha, State.bit_setFld_same (by decide)]
    rfl
  · rw [hregs.fld (by decide), ha, State.fld_setFld_other _ _ _ _ (by decide), hsw.fld (by decide)]
  · rw [h1, (hsw.trans har).fld (by decide)]
  · rw [show u = w.taking _ u from hwu, hw]
    rfl

end

/-- Settles O49: one equation for each branch of a loss, of a lock, of a start that fails, of the sleeping crystal and of a write of VDD_CORE. -/
theorem clocksAndCoreVoltageAct : Obligations.ClocksAndCoreVoltageAct := by
  unfold Obligations.ClocksAndCoreVoltageAct
  refine ⟨fun s hruns => ⟨fun hawake hrc => ?lost, fun h => ?lostBefore, fun hroot hlock => ?relock, fun hroot hlock hst hf => ?start,
    fun hroot hlock h => ?idle, fun c cause hc => ?fail, fun needless hneed => ?sleep⟩,
    fun s => ⟨fun up m lo hi t hlo hhi ht hm => ?step, fun res h => ?unwritten, fun mv n res hwrite => ?write, fun bus addr page cause => ?event⟩⟩
  case lost =>
    obtain ⟨u, hu⟩ : ∃ u, u = (s.unlocked true).xtalShown := ⟨_, rfl⟩
    obtain ⟨h1, h2, h3, h4, h5, h6, h7, hregs, hframe⟩ := (s.unlocked true).xtalShown_spec hu
    refine ⟨u, ?_, h1, h2, h3, h4, h5, h6, h7, hregs, hframe⟩
    rw [hu, ← s.xtalLoss_eq]
    have hcold : s.boot.step ≠ .cold := by simpa [State.runs] using hruns
    exact congrArg Host.Outcome.next (if_neg (by simp [hcold, hawake, hrc]))
  case lostBefore =>
    refine congrArg Host.Outcome.next (if_pos ?_)
    obtain h | h := h <;> simp [h]
  case relock =>
    obtain ⟨u, hu⟩ : ∃ u, u = (s.unlocked false).relocked := ⟨_, rfl⟩
    obtain ⟨h1, h2, h3, h4, h5, h6, hregs, hframe⟩ := (s.unlocked false).relocked_spec hu
    refine ⟨u, ?_, h1, h2, h3, h4, h5, h6, hregs, hframe⟩
    rw [hu, ← State.rootRelock_relock hlock]
    exact congrArg Host.Outcome.next ((State.flow_of_runs hruns _).trans (congrArg s.after (if_neg hroot)))
  case start =>
    obtain ⟨w, hw⟩ : ∃ w : State, w = { s with power := { s.power with starting := false, asleep := false } } := ⟨_, rfl⟩
    obtain ⟨u, hu⟩ : ∃ u, u = ((w.setFld F.CLK_STATUS_XTAL_OK 1).setFld F.CLK_STATUS_ROOT_LOCK 1).setFld F.CLK_STATUS_ON_RC 0 := ⟨_, rfl⟩
    have hback : s.xtalBack = u := by rw [hu, hw]; rfl
    have hregs : RegsBut w u [R.CLK_STATUS] := by rw [hu]; exact RegsBut.refl.setFld.setFld.setFld
    have hframe : Frame [.regs] w u := by rw [hu]; exact Frame.refl.setFld.setFld.setFld
    have hsw : RegsBut s w [] := by rw [hw]; exact RegsBut.refl.of_regs rfl
    refine ⟨u, ?_, ?_, ?_, ?_, ?_, hsw.trans hregs, ?_⟩
    · rw [← hback]
      refine congrArg Host.Outcome.next ((State.flow_of_runs hruns _).trans (congrArg s.after ((if_neg hroot).trans ?_)))
      rw [State.rootRelock_start hlock hst hf]
      have hreq : s.xtalBack.power.req = s.power.req := rfl
      cases h : s.power.req with
      | some r => exact congrArg State.scanRun (State.wakeGoesOn_some (hreq.trans h))
      | none => exact congrArg State.scanRun (State.wakeGoesOn_none (hreq.trans h))
    · rw [hu]
      simp (disch := decide) only [State.bit_setFld_other, State.bit_setFld_same]
      rfl
    · rw [hu]
      simp (disch := decide) only [State.bit_setFld_other, State.bit_setFld_same]
      rfl
    · rw [hu, State.bit_setFld_same (by decide)]
      rfl
    · rw [hu]
      simp (disch := decide) only [State.bit_setFld_other]
      exact hsw.bit (by decide)
    · rw [show u = w.taking _ u from hframe, hw]
      rfl
  case idle =>
    refine congrArg Host.Outcome.next ((State.flow_of_runs hruns _).trans (congrArg s.after ((if_neg hroot).trans ?_)))
    rw [State.rootRelock_none hlock h]
  case fail =>
    have hexec : exec c s = .next (s.after (s.oscFail cause)) := by
      obtain ⟨rfl, rfl⟩ | ⟨rfl, hroot, rfl⟩ := hc
      · exact congrArg Host.Outcome.next (State.flow_of_runs hruns _)
      · exact congrArg Host.Outcome.next ((State.flow_of_runs hruns _).trans (congrArg s.after ((if_pos rfl).trans (if_neg hroot))))
    rw [hexec]
    exact ⟨fun h => by rw [State.oscFail_none h], fun r d rest x hst hf hreq ht hx => by rw [State.oscFail_eq hst hf hreq ht hx]⟩
  case sleep =>
    have hidle : s.xtalIdle = needless := hneed.symm
    refine ⟨fun hn hd => ?_, fun h => State.sleepCheck_none (by rwa [hidle])⟩
    obtain ⟨w, hw⟩ : ∃ w : State, w = { s with power := { s.power with asleep := true } } := ⟨_, rfl⟩
    obtain ⟨u, hu⟩ : ∃ u, u = ((w.setFld F.CLK_STATUS_XTAL_OK 0).setFld F.CLK_STATUS_ROOT_LOCK 0).setFld F.CLK_STATUS_ON_RC 1 := ⟨_, rfl⟩
    have hsleep : s.sleepCheck = u := by rw [State.sleepCheck_sleeps (hidle.trans hn) hd, hu, hw]; rfl
    have hregs : RegsBut w u [R.CLK_STATUS] := by rw [hu]; exact RegsBut.refl.setFld.setFld.setFld
    have hframe : Frame [.regs] w u := by rw [hu]; exact Frame.refl.setFld.setFld.setFld
    have hsw : RegsBut s w [] := by rw [hw]; exact RegsBut.refl.of_regs rfl
    rw [hsleep]
    refine ⟨?_, ?_, ?_, ?_, hsw.trans hregs, ?_⟩
    · rw [hu]
      simp (disch := decide) only [State.bit_setFld_other, State.bit_setFld_same]
      rfl
    · rw [hu]
      simp (disch := decide) only [State.bit_setFld_other, State.bit_setFld_same]
      rfl
    · rw [hu, State.bit_setFld_same (by decide)]
      rfl
    · rw [hu]
      simp (disch := decide) only [State.bit_setFld_other]
      exact hsw.bit (by decide)
    · rw [show u = w.taking _ u from hframe, hw]
      rfl
  case step =>
    have htowards : m = avsTowards (s.fld F.RGL_AVS_LIMITS_MIN) (s.fld F.RGL_AVS_LIMITS_MAX) s.power.avsTarget up := by
      rw [hm, hlo, hhi, ht]
      rfl
    refine ⟨fun hmode hstop hwrite hne => ?_, fun h => ?_⟩
    · exact congrArg Host.Outcome.next (State.avsStep_goes hmode hstop hwrite htowards (ht ▸ hne))
    · rw [htowards, ht] at h
      exact congrArg Host.Outcome.next (State.avsStep_none h)
  case unwritten =>
    refine congrArg Host.Outcome.next ?_
    unfold State.avsDone
    rw [h]
  case write =>
    have heq := State.avsDone_eq (res := res) hwrite
    have hexec : exec (.avsWriteDone res) s = .next (s.avsDone res) := rfl
    rw [hexec]
    refine ⟨fun hgood => ?_, fun hbad => ?_⟩
    · obtain ⟨w, hw⟩ : ∃ w : State, w = { s with power := { s.power with avsWrite := none } } := ⟨_, rfl⟩
      have hsw : RegsBut s w [] := by rw [hw]; exact RegsBut.refl.of_regs rfl
      rw [if_pos ((avsAcked_iff res mv).mpr hgood), ← hw] at heq
      refine ⟨_, congrArg Host.Outcome.next heq, ?_, ?_, hsw.trans RegsBut.refl.setFld, ?_⟩
      · exact State.fld_setFld_same _ _ _ (by decide)
      · rw [State.bit_setFld_other (by decide)]
        exact hsw.bit (by decide)
      · rw [hw]
        rfl
    · rw [if_neg fun h => hbad ((avsAcked_iff res mv).mp h)] at heq
      refine ⟨fun hle => by rw [heq, if_pos hle]; rfl, fun hlt => ?_⟩
      rw [if_neg (Nat.not_le.mpr hlt)] at heq
      obtain ⟨hone, htwo⟩ := avsCause_spec res
      obtain ⟨u, hu⟩ : ∃ u, u = s.avsFailed (s.power.avsStopped || s.bit F.RGL_AVS_CTRL_MODE) (avsCause res) := ⟨_, rfl⟩
      obtain ⟨h1, h2, h3, h4, h5, h6, hregs, hform⟩ := s.avsFailed_spec _ (by omega) hu
      rw [← hu] at heq
      exact ⟨u, congrArg Host.Outcome.next heq, h1, h2, h3, h4, h5, h6, hone, htwo, hregs, hform⟩
  case event =>
    exact ⟨s.raise 0x03 0, rfl, State.rd_raise_same .., RegsBut.refl.raise, Frame.refl.raise (p := [.regs, .sent, .pcie, .summaryOwed])⟩

end Sys2Proof.Machine

/-! ### March commands, Canary and repairs (R320, R321, R337 to R341) -/

namespace Sys2Proof.Machine

-- A proof that fills in an argument by its default tactic waits for all that stands before it: checked in order, none waits.
set_option Elab.async false

section
variable {s t u w : State} {v : Word}

/-! #### March commands -/

theorem State.marchGo_idle (h : bitOf v 31 = false) : s.marchGo v = s := if_pos (by simp [h])

theorem State.marchGo_busy (h : bitOf v 31 = true) (hb : ((s.mem.running ++ s.mem.queued).any fun m => m.act == 0) = true) :
    s.marchGo v = (s.setFld F.SRAMC_MARCH_STATUS_RESULT 4).refuseCommand R.SRAMC_MARCH_CMD v :=
  (if_neg (by simp [h])).trans (if_pos hb)

/-- What a march asks of the arbiter. -/
def marchReq (v : Word) (k : Nat) : MaintReq := ⟨0, 0, 0, bitsOf v 0 12, k, bitOf v 28, 0⟩

/-- Why a march is refused. -/
def State.marchRefused (s : State) (v : Word) (k : Nat) : Bool :=
  (!bitOf v 28 && s.bit F.SCAN_CTRL_RUN && !(decide (2688 ≤ bitsOf v 0 12) && decide (bitsOf v 0 12 + k ≤ 3712))) ||
    !(marchReq v k).needs.all s.domOn

theorem State.marchRefused_iff (s : State) (v : Word) (k : Nat) : s.marchRefused v k = true ↔
    (bitOf v 28 = false ∧ s.bit F.SCAN_CTRL_RUN = true ∧ ¬(2688 ≤ bitsOf v 0 12 ∧ bitsOf v 0 12 + k ≤ 3712)) ∨
      (marchReq v k).needs.all s.domOn = false := by
  unfold State.marchRefused
  simp only [Bool.or_eq_true, Bool.and_eq_true, Bool.not_eq_true', Bool.and_eq_false_iff, decide_eq_false_iff_not, not_and_or, and_assoc]

theorem State.marchGo_free (h : bitOf v 31 = true) (hb : ((s.mem.running ++ s.mem.queued).any fun m => m.act == 0) = false) :
    s.marchGo v =
      if bitsOf v 12 13 = 0 then s.setFld F.SRAMC_MARCH_STATUS_RESULT 0
      else if s.marchRefused v (min (bitsOf v 12 13) (4096 - bitsOf v 0 12)) then
        (s.setFld F.SRAMC_MARCH_STATUS_RESULT 3).refuseCommand R.SRAMC_MARCH_CMD v
      else (if min (bitsOf v 12 13) (4096 - bitsOf v 0 12) = bitsOf v 12 13 then s
        else s.clampReport none false R.SRAMC_MARCH_CMD v (putBits v 12 13 (min (bitsOf v 12 13) (4096 - bitsOf v 0 12)))).maintRequest
          (marchReq v (min (bitsOf v 12 13) (4096 - bitsOf v 0 12))) :=
  (if_neg (by simp [h])).trans (if_neg (by simp [hb]))

/-- A march that is turned away: RESULT says why, and the command is reported. -/
theorem State.marchTurned_spec (s : State) (v : Word) {n : Nat} (hn : n < 2 ^ 3) {u : State}
    (hu : u = (s.setFld F.SRAMC_MARCH_STATUS_RESULT n).refuseCommand R.SRAMC_MARCH_CMD v) :
    u.fld F.SRAMC_MARCH_STATUS_RESULT = n ∧ u.fld F.SRAMC_MARCH_STATUS_FAILS = s.fld F.SRAMC_MARCH_STATUS_FAILS ∧
    RegsBut s u (R.SRAMC_MARCH_STATUS :: clampRegs 0x09) ∧ SameButLog s u := by
  obtain ⟨a, ha⟩ : ∃ a, a = s.setFld F.SRAMC_MARCH_STATUS_RESULT n := ⟨_, rfl⟩
  have hform : u = a.clampReportAt 0x09 none true R.SRAMC_MARCH_CMD v 0 := by rw [hu, ha]; rfl
  have har : RegsBut s a [R.SRAMC_MARCH_STATUS] := by rw [ha]; exact RegsBut.refl.setFld
  have hur : RegsBut a u (clampRegs 0x09) := by rw [hform]; exact RegsBut.refl.clampReportAt fun _ h => h
  refine ⟨?_, ?_, har.trans hur, ?_⟩
  · rw [hur.fld (by decide), ha, State.fld_setFld_same _ _ _ (by decide)]
    exact Nat.mod_eq_of_lt hn
  · rw [hur.fld (by decide), ha, State.fld_setFld_other _ _ _ _ (by decide)]
  · have hframe : Frame [.regs, .clampLog] s u := by
      rw [hu]
      exact Frame.refl.setFld.clampReport
    exact hframe

/-! #### Repairs -/

theorem State.repairRow_known {cell row source : Nat} (h2 : 2 ≤ SMap.get (fun _ => 0) s.mem.spares cell) (h : cell ∈ s.mem.exhausted) :
    s.repairRow cell row source = s := (if_pos h2).trans (if_pos (by simpa using h))

theorem State.repairRow_exhausted {cell row source : Nat} (h2 : 2 ≤ SMap.get (fun _ => 0) s.mem.spares cell)
    (h : cell ∉ s.mem.exhausted) (hw : w = { s with mem := { s.mem with exhausted := cell :: s.mem.exhausted } }) :
    s.repairRow cell row source = (w.sramcCount F.SRAMC_EXHAUSTED_COUNT).maintPost 0x09 0x0901 [(12, cell)] := by
  rw [hw]
  exact (if_pos h2).trans (if_neg (by simpa using h))

/-- The record of a repair is written where one is free. -/
def State.recordRepair (w : State) (free : Option Nat) (cell row used : Nat) : State :=
  match free with
  | some i => w.persWrite i (repairWord cell row used)
  | none => w

theorem State.repairRow_spare {cell row source used : Nat} {free : Option Nat} (hused : used = SMap.get (fun _ => 0) s.mem.spares cell)
    (h2 : used < 2)
    (hw : w = { s with mem := { s.mem with spares := SMap.set (fun _ => 0) s.mem.spares cell (used + 1), repairs := SMap.insert s.mem.repairs (cell * 256 + row) used } })
    (hfree : free = repairWords.find? fun i => s.persRead i == 0) :
    s.repairRow cell row source = ((w.recordRepair free cell row used).sramcCount F.SRAMC_REPAIRS_COUNT).maintPost 0x09 0x0900
      [(12, cell), (8, row), (1, used), (2, source), (1, b2n free.isSome)] := by
  have hread : free = repairWords.find? fun i => w.persRead i == 0 := by
    rw [hfree, hw]
    rfl
  unfold State.repairRow
  dsimp only
  rw [← hused, if_neg (Nat.not_le.mpr h2), ← hw, ← hread]
  rfl

theorem State.sramError_uncorr {x : CellWord} (hx : x.word.toNat < 2064) (hcell : s.domOn (cellDomain x.cell.toNat) = true)
    (hstore : s.domOn dSTORE = true)
    (hu : u = (s.wr R.SRAMC_LAST_ERR (BitVec.ofNat 32 (x.cell.toNat + x.word.toNat * 2 ^ 12 + 2 ^ 31))).bump F.SRAMC_UNCORR_TOTAL_COUNT) :
    s.sramError 0x08 x true false =
      if x.word.toNat / 8 < 256 then (u.blockError 0x08 1).repairRow x.cell.toNat (x.word.toNat / 8) 1 else u.blockError 0x08 1 := by
  have hgo : (decide (2064 ≤ x.word.toNat) || !s.domOn (cellDomain x.cell.toNat) || !s.domOn (pageDomain 0x08)) = false := by
    have hpage : s.domOn (pageDomain 0x08) = true := hstore
    rw [hcell, hpage]
    simp [hx]
  have hone : b2n true * 2 ^ 31 = 2 ^ 31 := Nat.one_mul _
  unfold State.sramError
  dsimp only
  rw [hgo, hone, ← hu]
  simp only [Bool.false_eq_true, if_false, if_true]

/-! #### Canary -/

theorem State.canaryReady_on (h : s.canaryReady = true) : s.canaryOn = true := (Bool.and_eq_true _ _ ▸ h).1

theorem State.canaryTest_off {failing poisoned : List Nat} (h : s.canaryOn = false) : s.canaryTest failing poisoned = s.canaryRelease :=
  if_pos (by simp [h])

theorem State.canaryTest_ask {failing poisoned : List Nat} (h : s.canaryOn = true) (hr : s.canaryReady = false) :
    s.canaryTest failing poisoned =
      if s.mem.retry = false ∧ s.domOn (cellDomain (s.fld F.CANARY_POS_CELL)) = true then s.maintRequest (plainReq 1) else s := by
  refine ((if_neg (by simp [h])).trans (if_pos (by simp [hr]))).trans (if_congr ?_ rfl rfl)
  simp [h]

theorem State.canaryTest_retry {failing poisoned : List Nat} (h : s.canaryReady = true) (hr : s.mem.retry = true) :
    s.canaryTest failing poisoned = s := by
  unfold State.canaryTest
  rw [if_neg (by simp [State.canaryReady_on h]), if_neg (by simp [h]), if_pos hr]

/-- The rows of a region, and region 7's unused spare ones. -/
def State.canaryRows (s : State) (r : Nat) : Bool :=
  r / 32 == s.fld F.CANARY_POS_REGION && decide (r < 256) ||
    (decide (256 ≤ r) && decide (r < 258) && s.fld F.CANARY_POS_REGION == 7 &&
      decide (SMap.get (fun _ => 0) s.mem.spares (s.fld F.CANARY_POS_CELL) ≤ r - 256))

theorem State.canaryRows_iff (s : State) (r : Nat) : s.canaryRows r = true ↔ (r < 256 ∧ r / 32 = s.fld F.CANARY_POS_REGION) ∨
    (256 ≤ r ∧ r < 258 ∧ s.fld F.CANARY_POS_REGION = 7 ∧ SMap.get (fun _ => 0) s.mem.spares (s.fld F.CANARY_POS_CELL) ≤ r - 256) := by
  unfold State.canaryRows
  simp only [Bool.or_eq_true, Bool.and_eq_true, decide_eq_true_eq, beq_iff_eq, and_assoc]
  exact or_congr And.comm Iff.rfl

theorem State.canaryTest_ready {failing poisoned : List Nat} (h : s.canaryReady = true) (hr : s.mem.retry = false) :
    s.canaryTest failing poisoned =
      if !s.domOn (cellDomain (s.fld F.CANARY_POS_CELL)) then s.canaryRelease.canaryNext
      else
        ((((s.each (poisoned.filter fun x => s.canaryRows (x / 8)) fun u x =>
            u.sramError 0x08 ⟨BitVec.ofNat 12 (s.fld F.CANARY_POS_CELL), BitVec.ofNat 12 x⟩ true false).bump F.CANARY_FAULTS_COUNT
          (failing.filter s.canaryRows).length).each ((failing.filter s.canaryRows).filter (· < 256)) fun u r =>
            u.repairRow (s.fld F.CANARY_POS_CELL) r 2).canaryRelease).canaryNext := by
  unfold State.canaryTest
  rw [if_neg (by simp [State.canaryReady_on h]), if_neg (by simp [h]), if_neg (by simp [hr])]
  rfl

/-- The next region, with nothing to be tried again. -/
def State.canaryMoved (s : State) : State :=
  let a : State := { s with mem := { s.mem with aborts := 0, retry := false } }
  let i := s.fld F.CANARY_POS_CELL * 8 + s.fld F.CANARY_POS_REGION + 1
  let b := (a.setFld F.CANARY_POS_CELL (i / 8 % 4096)).setFld F.CANARY_POS_REGION (i % 8)
  if i < 32768 then b else b.bump F.CANARY_PASSES_COUNT

theorem State.canaryNext_eq (s : State) : s.canaryNext =
    if s.fld F.CANARY_POS_CELL * 8 + s.fld F.CANARY_POS_REGION + 1 < 32768 then s.canaryMoved
    else s.canaryMoved.maintPost 0x08 0x0905 [(15, s.canaryMoved.fld F.CANARY_PASSES_COUNT),
      (32, s.canaryMoved.fld F.CANARY_SKIPPED_COUNT), (32, s.canaryMoved.fld F.CANARY_FAULTS_COUNT)] := by
  have hcell : ({ s with mem := { s.mem with aborts := 0, retry := false } } : State).fld F.CANARY_POS_CELL = s.fld F.CANARY_POS_CELL := rfl
  have hregion : ({ s with mem := { s.mem with aborts := 0, retry := false } } : State).fld F.CANARY_POS_REGION = s.fld F.CANARY_POS_REGION := rfl
  unfold State.canaryNext State.canaryMoved
  dsimp only
  rw [hcell, hregion]
  split <;> rfl

theorem State.canaryMoved_spec (s : State) {i : Nat} (hi : i = s.fld F.CANARY_POS_CELL * 8 + s.fld F.CANARY_POS_REGION + 1) {u : State}
    (hu : u = s.canaryMoved) :
    u.fld F.CANARY_POS_CELL = i / 8 % 4096 ∧ u.fld F.CANARY_POS_REGION = i % 8 ∧
    u.fld F.CANARY_PASSES_COUNT =
      (if i < 32768 then s.fld F.CANARY_PASSES_COUNT else min (s.fld F.CANARY_PASSES_COUNT + 1) (2 ^ 32 - 1)) ∧
    RegsBut s u [R.CANARY_POS, R.CANARY_PASSES] ∧ u = { s with regs := u.regs, mem := { s.mem with aborts := 0, retry := false } } := by
  obtain ⟨a, ha⟩ : ∃ a : State, a = { s with mem := { s.mem with aborts := 0, retry := false } } := ⟨_, rfl⟩
  obtain ⟨b, hb⟩ : ∃ b, b = (a.setFld F.CANARY_POS_CELL (i / 8 % 4096)).setFld F.CANARY_POS_REGION (i % 8) := ⟨_, rfl⟩
  have hform : u = if i < 32768 then b else b.bump F.CANARY_PASSES_COUNT := by rw [hu, hb, ha, hi]; rfl
  have hsa : RegsBut s a [] := by rw [ha]; exact RegsBut.refl.of_regs rfl
  have hbr : RegsBut a b [R.CANARY_POS] := by rw [hb]; exact RegsBut.refl.setFld.setFld
  have hur : RegsBut b u [R.CANARY_PASSES] := by rw [hform]; exact .ite .refl RegsBut.refl.bump
  have hframe : Frame [.regs] a u := by
    rw [hform, hb]
    exact .ite Frame.refl.setFld.setFld Frame.refl.setFld.setFld.bump
  refine ⟨?_, ?_, ?_, (hsa.trans hbr).trans hur, ?_⟩
  · rw [hur.fld (by decide), hb, State.fld_setFld_other _ _ _ _ (by decide), State.fld_setFld_same _ _ _ (by decide)]
    exact Nat.mod_eq_of_lt (Nat.mod_lt _ (by decide))
  · rw [hur.fld (by decide), hb, State.fld_setFld_same _ _ _ (by decide)]
    exact Nat.mod_eq_of_lt (Nat.mod_lt _ (by decide))
  · rw [hform]
    split
    · exact (hsa.trans hbr).fld (by decide)
    · rw [State.fld_bump_same _ _ _ (by decide), (hsa.trans hbr).fld (by decide)]
  · rw [show u = a.taking _ u from hframe, ha]
    rfl

end

/-- Settles O51: one equation for each outcome of a march command, of a region's test and of a repair; the region that follows is the next
number. -/
theorem marchAndCanaryRun : Obligations.MarchAndCanaryRun := by
  unfold Obligations.MarchAndCanaryRun
  refine ⟨fun s v hserves => ?march, fun s failing poisoned cell region hcell hregion => ?canary,
    fun s cell row source used hused => ⟨fun h2 h => ?known, fun w hw h2 h => ?exhausted, fun w free hw hfree h2 => ?spare⟩,
    fun s w hword hcell hstore => ?error⟩
  case march =>
    have hexec : exec (.marchGo v) s = .next (s.marchGo v) := congrArg Host.Outcome.next (hostWriteTo_of_serves s _ _ hserves)
    rw [hexec]
    refine ⟨fun h => by rw [State.marchGo_idle h], fun busy hbusy hgo => ⟨fun hb => ?_, fun hb hn => ?_, fun k m hb hn hk hm => ⟨fun hr => ?_, fun hr => ?_⟩⟩⟩
    · exact ⟨_, congrArg Host.Outcome.next (State.marchGo_busy hgo (hbusy ▸ hb)), s.marchTurned_spec v (by decide) rfl⟩
    · rw [State.marchGo_free hgo (hbusy ▸ hb), if_pos hn]
    · have heq := State.marchGo_free hgo (hbusy ▸ hb)
      rw [if_neg hn, ← hk, if_pos ((s.marchRefused_iff v k).mpr (by rw [hm] at hr; exact hr))] at heq
      exact ⟨_, congrArg Host.Outcome.next heq, s.marchTurned_spec v (by decide) rfl⟩
    · rw [State.marchGo_free hgo (hbusy ▸ hb), if_neg hn, ← hk, if_neg fun h => hr (by rw [hm]; exact (s.marchRefused_iff v k).mp h), hm]
      rfl
  case canary =>
    have htest : exec (.canaryRegionTest ⟨failing, poisoned⟩) s =
      .next (s.canaryTest (failing.map (·.toNat)) (poisoned.map (·.toNat))) := rfl
    rw [htest]
    refine ⟨fun h => by rw [State.canaryTest_off h], fun h hr => by rw [State.canaryTest_ask h hr, hcell],
      fun h hr => by rw [State.canaryTest_retry h hr], fun h hr hd => ?_, fun mine rows w h hr hd hmine hrows hw => ?_, fun h hr hd => ?_,
      fun h => ?_, fun h => ?_, fun hr hd => ⟨fun h => ?_, fun h => ?_⟩, rfl, ?_⟩
    · rw [State.canaryTest_ready h hr, ← hcell, if_pos (by simp [hd])]
    · have hsame : mine = s.canaryRows := by
        funext r
        rw [Bool.eq_iff_iff, hmine, s.canaryRows_iff, hregion, hcell]
      rw [State.canaryTest_ready h hr, ← hcell, if_neg (by simp [hd]), ← hsame, hrows, hw]
    · obtain ⟨a, ha⟩ : ∃ a : State, a = { s with mem := { s.mem with aborts := s.mem.aborts + 1, retry := true } } := ⟨_, rfl⟩
      obtain ⟨u, hu⟩ : ∃ u, u = a.bump F.CANARY_ABORTS_COUNT := ⟨_, rfl⟩
      have hsa : RegsBut s a [] := by rw [ha]; exact RegsBut.refl.of_regs rfl
      have hframe : Frame [.regs] a u := by rw [hu]; exact Frame.refl.bump
      refine ⟨u, ?_, ?_, ?_, ?_⟩
      · rw [hu, ha]
        exact congrArg Host.Outcome.next (if_pos (by simp [h, hr, ← hcell, hd]))
      · rw [hu, State.fld_bump_same _ _ _ (by decide), hsa.fld (by decide)]
      · rw [hu]
        exact hsa.trans RegsBut.refl.bump
      · rw [show u = a.taking _ u from hframe, ha]
        rfl
    · refine congrArg Host.Outcome.next (if_neg ?_)
      rw [← hcell]
      obtain h | h | h := h <;> simp [h]
    · refine congrArg Host.Outcome.next (if_pos ?_)
      obtain h | h := h <;> simp [h]
    · exact congrArg Host.Outcome.next ((if_neg (by simp [hr, hd])).trans (if_pos h))
    · obtain ⟨a, ha⟩ : ∃ a, a = s.bump F.CANARY_SKIPPED_COUNT := ⟨_, rfl⟩
      have har : RegsBut s a [R.CANARY_SKIPPED] := by rw [ha]; exact RegsBut.refl.bump
      obtain ⟨u, hu⟩ : ∃ u, u = (a.setFld F.CANARY_LAST_SKIP_CELL cell).setFld F.CANARY_LAST_SKIP_REGION region := ⟨_, rfl⟩
      have hur : RegsBut a u [R.CANARY_LAST_SKIP] := by rw [hu]; exact RegsBut.refl.setFld.setFld
      have hac : a.fld F.CANARY_POS_CELL = cell := by rw [har.fld (by decide), hcell]
      have hareg : a.fld F.CANARY_POS_REGION = region := by rw [har.fld (by decide), hregion]
      refine ⟨u, ?_, ?_, ?_, ?_, har.trans hur, ?_⟩
      · rw [hu]
        refine congrArg Host.Outcome.next ((if_neg (by simp [hr, hd])).trans ((if_neg (Nat.not_lt.mpr h)).trans ?_))
        rw [← hac, ← hareg, ha]
      · rw [hur.fld (by decide), ha, State.fld_bump_same _ _ _ (by decide)]
      · rw [hu, State.fld_setFld_other _ _ _ _ (by decide), State.fld_setFld_same _ _ _ (by decide), hcell]
        exact Nat.mod_eq_of_lt (s.fld_lt _)
      · rw [hu, State.fld_setFld_same _ _ _ (by decide), hregion]
        exact Nat.mod_eq_of_lt (s.fld_lt _)
      · rw [hu, ha]
        exact (Frame.refl.bump.setFld.setFld : Frame [.regs] s _)
    · obtain ⟨u, hu⟩ : ∃ u, u = s.canaryMoved := ⟨_, rfl⟩
      obtain ⟨i, hi⟩ : ∃ i, i = s.fld F.CANARY_POS_CELL * 8 + s.fld F.CANARY_POS_REGION + 1 := ⟨_, rfl⟩
      obtain ⟨h1, h2, h3, hregs, hform⟩ := s.canaryMoved_spec hi hu
      have hnext := s.canaryNext_eq
      rw [← hu, ← hi, hregs.fld (g := F.CANARY_SKIPPED_COUNT) (by decide), hregs.fld (g := F.CANARY_FAULTS_COUNT) (by decide)] at hnext
      rw [hcell, hregion, ← hi]
      exact ⟨u, h1, h2, h3, hregs, hform, hnext⟩
  case known => exact State.repairRow_known (hused ▸ h2) h
  case exhausted => exact State.repairRow_exhausted (hused ▸ h2) h hw
  case spare =>
    rw [State.repairRow_spare hused h2 hw hfree]
    cases free <;> rfl
  case error =>
    obtain ⟨u, hu⟩ : ∃ u, u = (s.wr R.SRAMC_LAST_ERR (BitVec.ofNat 32 (w.cell.toNat + w.word.toNat * 2 ^ 12 + 2 ^ 31))).bump
      F.SRAMC_UNCORR_TOTAL_COUNT := ⟨_, rfl⟩
    refine ⟨u, _, rfl, ?_, ?_, ?_, ?_, State.sramError_uncorr hword hcell hstore hu⟩
    · rw [hu, State.fld_bump_same _ _ _ (by decide), State.fld_wr_other _ _ _ _ (by decide)]
    · rw [hu, State.rd_bump_other _ _ _ (by decide), State.rd_wr_same]
    · rw [hu]
      exact RegsBut.refl.wr.bump
    · have hframe : Frame [.regs] s u := by
        rw [hu]
        exact Frame.refl.wr.bump
      exact hframe

end Sys2Proof.Machine

/-! ### The maintenance arbiter, the ends of activities, and the persistent store (R326, R327, R331, R333, R335, R339, R342, R343, R347) -/

namespace Sys2Proof.Machine

-- A proof that fills in an argument by its default tactic waits for all that stands before it: checked in order, none waits.
set_option Elab.async false

section
variable {s w x : State} {m : MaintReq} {n : Nat}

/-! #### What is requested -/

theorem State.maintReqs_eq {c : Instr} {k : Nat} (hs : s.serves R.MAINT_REQ = true)
    (hc : (c = .maintReqScrub ∧ k = 4) ∨ (c = .maintReqNandrefresh ∧ k = 5)) :
    exec c s = .next (if (plainReq k).needs.all s.domOn then s.maintRequest (plainReq k) else s) := by
  have hgo (f : State → State) : Host.Outcome.next (s.hostWriteTo R.MAINT_REQ f) = (.next (f s) : Host.Outcome State Fault Refusal) :=
    congrArg Host.Outcome.next (hostWriteTo_of_serves s _ _ hs)
  obtain ⟨rfl, rfl⟩ | ⟨rfl, rfl⟩ := hc
  · refine (hgo _).trans (congrArg Host.Outcome.next (if_congr ?_ rfl rfl))
    simp [plainReq, MaintReq.needs]
  · refine (hgo _).trans (congrArg Host.Outcome.next (if_congr ?_ rfl rfl))
    simp [plainReq, MaintReq.needs]

/-- Blocks that are due join the refresh list. -/
def State.refreshAlso (s : State) (xs : List Nat) : State :=
  { s with mem := { s.mem with refresh := (s.mem.refresh ++ xs).eraseDups } }

theorem State.mem_refreshAlso (s : State) (xs : List Nat) (b : Nat) : b ∈ (s.refreshAlso xs).mem.refresh ↔ b ∈ s.mem.refresh ∨ b ∈ xs :=
  List.mem_eraseDups.trans List.mem_append

/-! #### The arbiter -/

theorem State.maintStart_eq (hw : w = { s with mem := { s.mem with running := s.mem.running ++ [{ m with start := s.keepCycles }] } })
    (hx : x = if s.domOn dSTORE then w.setFld F.SRAMC_MARCH_STATUS_RESULT 2 else w) :
    s.maintStart m = if m.act = 0 then (if m.preserve then x else x.marchClears m) else w := by
  have hon : w.domOn dSTORE = s.domOn dSTORE := by rw [hw]; rfl
  unfold State.maintStart
  rw [← hw]
  dsimp only
  split
  · next h => rw [if_pos h, hon, ← hx]
  · next h => rw [if_neg h]

theorem State.arbiterShown_state (s : State) {a : Nat} (ha : a < 7) : s.arbiterShown.fld F.MAINT_STATE_STATE / 4 ^ a % 4 = s.mem.code a := by
  obtain ⟨hlt, hdig⟩ := digits_foldl (b := 4) (f := s.mem.code) 7 fun i _ => s.mem.code_lt i
  rw [s.arbiterShown_fld.1, Nat.mod_eq_of_lt (show _ < 2 ^ 14 from hlt)]
  exact hdig a ha

theorem State.arbiterShown_queue (s : State) (hall : ∀ x ∈ s.mem.queued, x.act < 8) {i : Nat} (hi : i < 8) :
    s.arbiterShown.fld F.MAINT_QUEUE_ENTRIES / 8 ^ i % 8 = s.mem.entry i := by
  have hentry (j : Nat) : s.mem.entry j < 8 := by
    unfold Mem.entry
    split
    · next m hm => exact hall m (List.mem_of_getElem? hm)
    · decide
  obtain ⟨hlt, hdig⟩ := digits_foldl (b := 8) (f := s.mem.entry) 8 fun j _ => hentry j
  rw [s.arbiterShown_fld.2.1, Nat.mod_eq_of_lt (show _ < 2 ^ 24 from hlt)]
  exact hdig i hi

theorem digit_eq_b2n (x : Nat) : x % 2 = b2n (decide (x % 2 = 1)) := by
  obtain h | h := Nat.mod_two_eq_zero_or_one x <;> rw [h] <;> rfl

theorem State.arbiterShown_claims (s : State) {k : Nat} (hk : k < 8) :
    s.arbiterShown.fld F.MAINT_CLAIMS_TOKENS / 2 ^ k % 2 = b2n (s.mem.running.any fun m => m.tokens.contains k) := by
  obtain ⟨c, hc⟩ : ∃ c, c = (s.mem.running.flatMap (·.tokens)).eraseDups.foldl (fun t k => t + 2 ^ k) 0 := ⟨_, rfl⟩
  have hbit : c.testBit k = s.mem.running.any fun m => m.tokens.contains k := by
    rw [hc, testBit_foldl_two_pow (nodup_eraseDups _), Bool.eq_iff_iff]
    simp
  have hmod : (c % 2 ^ 8).testBit k = c.testBit k := by rw [Nat.testBit_mod_two_pow]; simp [hk]
  rw [s.arbiterShown_fld.2.2, ← hc, ← hbit, ← hmod, Nat.testBit_eq_decide_div_mod_eq]
  exact digit_eq_b2n _

/-- An activity's end is counted. -/
def State.endCounted (s : State) (m : MaintReq) (status : Nat) : State :=
  let s := { s with mem := { s.mem with running := s.mem.running.erase m, queued := s.mem.queued.erase m } }
  let s := s.bump F.MAINT_DONE_COUNT
  let s := if status = 1 then s.bump F.MAINT_ABANDONED_COUNT else s
  (s.setFld F.MAINT_LAST_DONE_ACTIVITY m.act).setFld F.MAINT_LAST_DONE_STATUS status

theorem State.maintEnd_eq (s : State) (m : MaintReq) (status : Nat) {u x : State} (hu : u = s.endCounted m status)
    (hx : x = u.maintPost 0x07 0x0906
      [(3, m.act), (2, status), (32, if m ∈ s.mem.running then (s.keepCycles - m.start) / 25000 else 0)]) :
    s.maintEnd m status = State.maintScan (if m.act = 0 ∧ x.domOn dSTORE = true then x.setFld F.SRAMC_MARCH_STATUS_RESULT 0 else x) := by
  have hkeep : u.keepCycles = s.keepCycles := by
    rw [hu]
    unfold State.endCounted
    dsimp only
    split <;> rfl
  unfold State.endCounted at hu
  dsimp only at hu
  unfold State.maintEnd
  dsimp only
  rw [← hu, hkeep]
  simp only [List.contains_iff_mem, Bool.and_eq_true, decide_eq_true_eq]
  rw [← hx]

theorem State.endCounted_spec (s : State) {status : Nat} (hs : status < 3) (hm : m.act < 8) {u : State} (hu : u = s.endCounted m status) :
    u.fld F.MAINT_DONE_COUNT = min (s.fld F.MAINT_DONE_COUNT + 1) (2 ^ 32 - 1) ∧
    u.fld F.MAINT_ABANDONED_COUNT =
      (if status = 1 then min (s.fld F.MAINT_ABANDONED_COUNT + 1) (2 ^ 32 - 1) else s.fld F.MAINT_ABANDONED_COUNT) ∧
    u.fld F.MAINT_LAST_DONE_ACTIVITY = m.act ∧ u.fld F.MAINT_LAST_DONE_STATUS = status ∧
    RegsBut s u [R.MAINT_DONE, R.MAINT_ABANDONED, R.MAINT_LAST_DONE] ∧
    u = { s with regs := u.regs, mem := { s.mem with running := s.mem.running.erase m, queued := s.mem.queued.erase m } } := by
  obtain ⟨a, ha⟩ : ∃ a : State, a = { s with mem := { s.mem with running := s.mem.running.erase m, queued := s.mem.queued.erase m } } := ⟨_, rfl⟩
  obtain ⟨b, hb⟩ : ∃ b, b = a.bump F.MAINT_DONE_COUNT := ⟨_, rfl⟩
  obtain ⟨c, hc⟩ : ∃ c, c = if status = 1 then b.bump F.MAINT_ABANDONED_COUNT else b := ⟨_, rfl⟩
  have hform : u = (c.setFld F.MAINT_LAST_DONE_ACTIVITY m.act).setFld F.MAINT_LAST_DONE_STATUS status := by rw [hu, hc, hb, ha]; rfl
  have hsa : RegsBut s a [] := by rw [ha]; exact RegsBut.refl.of_regs rfl
  have hbr : RegsBut a b [R.MAINT_DONE] := by rw [hb]; exact RegsBut.refl.bump
  have hcr : RegsBut b c [R.MAINT_ABANDONED] := by rw [hc]; exact .ite RegsBut.refl.bump .refl
  have hur : RegsBut c u [R.MAINT_LAST_DONE] := by rw [hform]; exact RegsBut.refl.setFld.setFld
  have hframe : Frame [.regs] a u := by
    have hbc : Frame [.regs] b c := by rw [hc]; exact .ite Frame.refl.bump .refl
    have hab : Frame [.regs] a b := by rw [hb]; exact Frame.refl.bump
    rw [hform]
    exact ((hab.then hbc (by decide)).setFld).setFld
  refine ⟨?_, ?_, ?_, ?_, ((hsa.trans hbr).trans hcr).trans hur, ?_⟩
  · rw [hur.fld (by decide), hcr.fld (by decide), hb, State.fld_bump_same _ _ _ (by decide), hsa.fld (by decide)]
  · rw [hur.fld (by decide), hc]
    have hbefore : b.fld F.MAINT_ABANDONED_COUNT = s.fld F.MAINT_ABANDONED_COUNT := (hsa.trans hbr).fld (by decide)
    split
    · rw [State.fld_bump_same _ _ _ (by decide), hbefore]
    · exact hbefore
  · rw [hform, State.fld_setFld_other _ _ _ _ (by decide), State.fld_setFld_same _ _ _ (by decide)]
    exact Nat.mod_eq_of_lt hm
  · rw [hform, State.fld_setFld_same _ _ _ (by decide)]
    exact Nat.mod_eq_of_lt (show status < 2 ^ 2 by omega)
  · rw [show u = a.taking _ u from hframe, ha]
    rfl

/-! #### A scrub pass -/

theorem State.dramCorr_spec (s : State) (hn : n ≠ 0) {u : State} (hu : u = s.dramCorr n) :
    u.fld F.DRAMC_CORR_COUNT = min (s.fld F.DRAMC_CORR_COUNT + n) (2 ^ 32 - 1) ∧ u.rd 0xA018 = s.rd 0xA018 ||| 1#32 ∧
    u.fld (hdrFld 0x0A 0x1C 0 32) = min (s.fld (hdrFld 0x0A 0x1C 0 32) + n) (2 ^ 32 - 1) ∧
    RegsBut s u [R.DRAMC_CORR, 0xA018, 0xA01C] ∧ Frame [.regs] s u := by
  obtain ⟨a, ha⟩ : ∃ a, a = s.bump F.DRAMC_CORR_COUNT n := ⟨_, rfl⟩
  obtain ⟨b, hb⟩ : ∃ b, b = a.wr 0xA018 (a.rd 0xA018 ||| 1#32) := ⟨_, rfl⟩
  have hform : u = b.bump (hdrFld 0x0A 0x1C 0 32) n := by rw [hu, State.dramCorr, if_neg hn, ← ha, hb]; rfl
  have har : RegsBut s a [R.DRAMC_CORR] := by rw [ha]; exact RegsBut.refl.bump
  have hbr : RegsBut a b [0xA018] := by rw [hb]; exact RegsBut.refl.wr
  have hur : RegsBut b u [0xA01C] := by rw [hform]; exact RegsBut.refl.bump (by decide)
  refine ⟨?_, ?_, ?_, (har.trans hbr).trans hur, ?_⟩
  · rw [hur.fld (by decide), hbr.fld (by decide), ha, State.fld_bump_same _ _ _ (by decide)]
  · rw [hur _ (by decide), hb, State.rd_wr_same, har _ (by decide)]
  · rw [hform, State.fld_bump_same _ _ _ (by decide), (har.trans hbr).fld (by decide)]
    rfl
  · rw [hform, hb, ha]
    exact Frame.refl.bump.wr.bump

/-- An uncorrectable block is recorded. -/
def State.uncorrShown (s : State) (a : Nat) : State :=
  ((s.bump F.DRAMC_UNCORR_COUNT).setFld F.DRAMC_UNCORR_ADDR_LO_ADDR (a / 64 * 64)).setFld F.DRAMC_UNCORR_ADDR_HI_ADDR (a / 64 * 64 / 2 ^ 32)

theorem State.uncorrShown_spec (s : State) (a : Nat) {u : State} (hu : u = s.uncorrShown a) :
    u.fld F.DRAMC_UNCORR_COUNT = min (s.fld F.DRAMC_UNCORR_COUNT + 1) (2 ^ 32 - 1) ∧
    u.fld F.DRAMC_UNCORR_ADDR_LO_ADDR = a / 64 * 64 % 2 ^ F.DRAMC_UNCORR_ADDR_LO_ADDR.w ∧
    u.fld F.DRAMC_UNCORR_ADDR_HI_ADDR = a / 64 * 64 / 2 ^ 32 % 2 ^ F.DRAMC_UNCORR_ADDR_HI_ADDR.w ∧
    RegsBut s u [R.DRAMC_UNCORR, R.DRAMC_UNCORR_ADDR_LO, R.DRAMC_UNCORR_ADDR_HI] ∧ Frame [.regs] s u := by
  obtain ⟨b, hb⟩ : ∃ b, b = s.bump F.DRAMC_UNCORR_COUNT := ⟨_, rfl⟩
  have hform : u = (b.setFld F.DRAMC_UNCORR_ADDR_LO_ADDR (a / 64 * 64)).setFld F.DRAMC_UNCORR_ADDR_HI_ADDR (a / 64 * 64 / 2 ^ 32) := by
    rw [hu, hb]
    rfl
  rw [hform]
  refine ⟨?_, ?_, ?_, ?_, ?_⟩
  · rw [State.fld_setFld_two _ _ _ (by decide), hb, State.fld_bump_same _ _ _ (by decide)]
  · rw [State.fld_setFld_other _ _ _ _ (by decide), State.fld_setFld_same _ _ _ (by decide)]
  · rw [State.fld_setFld_same _ _ _ (by decide)]
  · rw [hb]
    exact RegsBut.refl.bump.setFld.setFld
  · rw [hb]
    exact Frame.refl.bump.setFld.setFld

/-- A pass that ends is counted, and the next one starts at the first frame. -/
def State.passCounted (w : State) : State :=
  let a := (w.bump F.DRAMC_PASSES_COUNT).setFld F.DRAMC_SCRUB_POS_FRAME 0
  { a with mem := { a.mem with scrubPhase := 0 } }

theorem State.passCounted_spec (w : State) {u : State} (hu : u = w.passCounted) :
    u.fld F.DRAMC_PASSES_COUNT = min (w.fld F.DRAMC_PASSES_COUNT + 1) (2 ^ 32 - 1) ∧ u.fld F.DRAMC_SCRUB_POS_FRAME = 0 ∧
    RegsBut w u [R.DRAMC_PASSES, R.DRAMC_SCRUB_POS] ∧ u = { w with regs := u.regs, mem := { w.mem with scrubPhase := 0 } } := by
  obtain ⟨b, hb⟩ : ∃ b, b = w.bump F.DRAMC_PASSES_COUNT := ⟨_, rfl⟩
  obtain ⟨a, ha⟩ : ∃ a, a = b.setFld F.DRAMC_SCRUB_POS_FRAME 0 := ⟨_, rfl⟩
  have hform : u = { a with mem := { a.mem with scrubPhase := 0 } } := by rw [hu, ha, hb]; rfl
  have hau : RegsBut a u [] := by rw [hform]; exact RegsBut.refl.of_regs rfl
  have hwa : RegsBut w a [R.DRAMC_PASSES, R.DRAMC_SCRUB_POS] := by rw [ha, hb]; exact RegsBut.refl.bump.setFld
  have hframe : Frame [.regs] w a := by rw [ha, hb]; exact Frame.refl.bump.setFld
  refine ⟨?_, ?_, (hwa.trans hau), ?_⟩
  · rw [hau.fld (by decide), ha, State.fld_setFld_other _ _ _ _ (by decide), hb, State.fld_bump_same _ _ _ (by decide)]
  · rw [hau.fld (by decide), ha, State.fld_setFld_same _ _ _ (by decide)]
    rfl
  · rw [hform, show a = w.taking _ a from hframe]
    rfl

theorem State.scrubPassDone_none {uncorr : List Nat} (h : (s.mem.running.find? fun m => m.act == 4) = none) : s.scrubPassDone n uncorr = s := by
  unfold State.scrubPassDone
  rw [h]

theorem State.scrubPassDone_eq {uncorr : List Nat} (h : (s.mem.running.find? fun m => m.act == 4) = some m) {u : State}
    (hu : u = State.passCounted ((s.dramCorr n).each uncorr State.dramUncorr)) :
    s.scrubPassDone n uncorr = ((u.maintPost 0x0A 0x0902 [(15, u.fld F.DRAMC_PASSES_COUNT),
      (32, u.fld F.DRAMC_CORR_COUNT), (32, u.fld F.DRAMC_UNCORR_COUNT)]).maintEnd m 0).scrubGo := by
  unfold State.passCounted at hu
  dsimp only at hu
  unfold State.scrubPassDone
  rw [h]
  dsimp only
  rw [← hu]

/-! #### What an activity leaves -/

theorem State.activityDone_none {a : Nat} {res : ActResult} {rep : ActReport} (h : (s.mem.running.find? fun m => m.act == a) = none) :
    s.activityDone a res rep = s := by
  unfold State.activityDone
  rw [h]

/-- What an activity that has ended leaves, by its number. -/
def State.activityLeft (w : State) (m : MaintReq) (a : Nat) (ok : Bool) (rep : ActReport) : State :=
  match a with
  | 0 => (w.marchRows rep.rows).maintEnd m (if ok then 0 else 2)
  | 2 => w.mapLoaded m (!ok) rep
  | 3 => w.checkpointDone (if ok then 0 else 1)
  | 4 => if ok then w.scrubPassDone 0 [] else w.maintEnd m 2
  | 5 => (if ok then w.nandRefreshed else w).maintEnd m (if ok then 0 else 2)
  | 6 => w.fwUpdated m ok
  | _ => w

/-- What a NAND activity met is counted first. -/
def State.activityMet (s : State) (a : Nat) (rep : ActReport) : State := if [2, 3, 5, 6].contains a then s.nandReport rep else s

theorem State.activityDone_eq {a : Nat} {res : ActResult} {rep : ActReport} (h : (s.mem.running.find? fun m => m.act == a) = some m)
    (hw : w = s.activityMet a rep) : s.activityDone a res rep = w.activityLeft m a (res == .ok) rep := by
  unfold State.activityMet at hw
  unfold State.activityDone State.activityLeft
  rw [h]
  dsimp only
  rw [← hw]
  cases res with
  | ok => exact Eq.refl (w.activityLeft m a true rep)
  | failed => exact Eq.refl (w.activityLeft m a false rep)

/-- What a NAND activity met is counted. -/
def State.nandCounted (s : State) (rep : ActReport) : State :=
  ((s.bump F.MAPS_CORR_BITS_COUNT rep.corrBits).bump F.MAPS_UNCORR_PAGES_COUNT rep.uncorrPages).refreshAlso
    ((rep.weakBlocks.map (·.toNat)).filter fun b => b < 5632)

theorem State.nandReport_eq (s : State) (rep : ActReport) :
    s.nandReport rep = (s.nandCounted rep).each (rep.badBlocks.map (·.toNat)) State.badBlock := rfl

theorem State.nandCounted_spec (s : State) (rep : ActReport) {u : State} (hu : u = s.nandCounted rep) :
    u.fld F.MAPS_CORR_BITS_COUNT = min (s.fld F.MAPS_CORR_BITS_COUNT + rep.corrBits) (2 ^ 32 - 1) ∧
    u.fld F.MAPS_UNCORR_PAGES_COUNT = min (s.fld F.MAPS_UNCORR_PAGES_COUNT + rep.uncorrPages) (2 ^ 32 - 1) ∧
    (∀ x, x ∈ u.mem.refresh ↔ x ∈ s.mem.refresh ∨ ∃ y ∈ rep.weakBlocks, y.toNat = x ∧ x < 5632) ∧
    RegsBut s u [R.MAPS_CORR_BITS, R.MAPS_UNCORR_PAGES] ∧
    u = { s with regs := u.regs, mem := { s.mem with refresh := u.mem.refresh } } := by
  obtain ⟨a, ha⟩ : ∃ a, a = s.bump F.MAPS_CORR_BITS_COUNT rep.corrBits := ⟨_, rfl⟩
  obtain ⟨b, hb⟩ : ∃ b, b = a.bump F.MAPS_UNCORR_PAGES_COUNT rep.uncorrPages := ⟨_, rfl⟩
  obtain ⟨weak, hweak⟩ : ∃ xs, xs = (rep.weakBlocks.map (·.toNat)).filter fun b => b < 5632 := ⟨_, rfl⟩
  have hform : u = b.refreshAlso weak := by rw [hu, hb, ha, hweak]; rfl
  have har : RegsBut s a [R.MAPS_CORR_BITS] := by rw [ha]; exact RegsBut.refl.bump
  have hbr : RegsBut a b [R.MAPS_UNCORR_PAGES] := by rw [hb]; exact RegsBut.refl.bump
  have hbu : RegsBut b u [] := by rw [hform]; exact RegsBut.refl.of_regs rfl
  have hframe : Frame [.regs] s b := by rw [hb, ha]; exact Frame.refl.bump.bump
  have hmem : b.mem = s.mem := hframe.get State.mem
  refine ⟨?_, ?_, fun x => ?_, (har.trans hbr).trans hbu, ?_⟩
  · rw [hbu.fld (by decide), hbr.fld (by decide), ha, State.fld_bump_same _ _ _ (by decide)]
  · rw [hbu.fld (by decide), hb, State.fld_bump_same _ _ _ (by decide), har.fld (by decide)]
  · rw [hform, State.mem_refreshAlso, hmem, hweak]
    refine or_congr Iff.rfl ?_
    simp only [List.mem_filter, List.mem_map, decide_eq_true_eq]
    exact ⟨fun ⟨⟨y, hy, hxy⟩, hlt⟩ => ⟨y, hy, hxy, hlt⟩, fun ⟨y, hy, hxy, hlt⟩ => ⟨⟨y, hy, hxy⟩, hlt⟩⟩
  · rw [hform, show b = s.taking _ b from hframe]
    rfl

/-! #### The persistent store -/

/-- The word at the front of the buffer is in the store, and its write is counted. -/
def State.wordStored (s : State) (i : Nat) (v : Word) (rest : List (Nat × Word)) : State :=
  let a : State := { s with pstore := { s.pstore with buf := rest, words := SMap.set (fun _ => 0) s.pstore.words i v } }
  (a.worn i).writesCounted (s.fld F.PSTORE_WRITES_LO_COUNT + s.fld F.PSTORE_WRITES_HI_COUNT * 2 ^ 32 + 1)

theorem State.pstoreStep_empty (h : s.pstore.buf = []) : s.pstoreStep = s := by
  unfold State.pstoreStep
  rw [h]

theorem State.pstoreStep_eq {i : Nat} {v : Word} {rest : List (Nat × Word)} (h : s.pstore.buf = (i, v) :: rest) {u : State}
    (hu : u = s.wordStored i v rest) : s.pstoreStep =
    if rowWear s.pstore.wear (i / 64) < 9000000 ∧ 9000000 ≤ rowWear u.pstore.wear (i / 64) then
      (u.raise 0x04 0).post F.MAINT_EVT_RING 0x0904 [(13, i / 64), (32, rowWear u.pstore.wear (i / 64))] else u := by
  obtain ⟨a, ha⟩ : ∃ a : State, a = { s with pstore := { s.pstore with buf := rest, words := SMap.set (fun _ => 0) s.pstore.words i v } } := ⟨_, rfl⟩
  have hstep : s.pstoreStep = a.persWear i := by rw [State.pstoreStep, h, ha]
  have hwear : u.pstore.wear = SMap.set (fun _ => 0) s.pstore.wear i (SMap.get (fun _ => 0) s.pstore.wear i + 1) := by rw [hu]; rfl
  have hcount : u = (a.worn i).writesCounted ((a.worn i).fld F.PSTORE_WRITES_LO_COUNT +
      (a.worn i).fld F.PSTORE_WRITES_HI_COUNT * 2 ^ 32 + 1) := by rw [hu, ha]; rfl
  have hold : a.pstore.wear = s.pstore.wear := by rw [ha]
  unfold State.worn State.writesCounted at hcount
  dsimp only at hcount
  rw [hstep]
  unfold State.persWear
  dsimp only
  rw [hold] at hcount ⊢
  rw [← hcount, ← hwear]
  simp only [Bool.and_eq_true, decide_eq_true_eq]

theorem State.wordStored_spec (s : State) (i : Nat) (v : Word) (rest : List (Nat × Word)) {u : State} (hu : u = s.wordStored i v rest) :
    u.pstore.buf = rest ∧ SMap.get (fun _ => 0) u.pstore.words i = v ∧
    (∀ j, j ≠ i → SMap.get (fun _ => 0) u.pstore.words j = SMap.get (fun _ => 0) s.pstore.words j) ∧
    (∀ j, SMap.get (fun _ => 0) u.pstore.wear j =
      if j = i then SMap.get (fun _ => 0) s.pstore.wear i + 1 else SMap.get (fun _ => 0) s.pstore.wear j) ∧
    u.fld F.PSTORE_WRITES_LO_COUNT + 2 ^ 32 * u.fld F.PSTORE_WRITES_HI_COUNT =
      (s.fld F.PSTORE_WRITES_LO_COUNT + 2 ^ 32 * s.fld F.PSTORE_WRITES_HI_COUNT + 1) % 2 ^ 64 ∧
    RegsBut s u [R.PSTORE_WRITES_LO, R.PSTORE_WRITES_HI] ∧ u = { s with regs := u.regs, pstore := u.pstore } := by
  obtain ⟨k, hk⟩ : ∃ k, k = s.fld F.PSTORE_WRITES_LO_COUNT + s.fld F.PSTORE_WRITES_HI_COUNT * 2 ^ 32 + 1 := ⟨_, rfl⟩
  obtain ⟨a, ha⟩ : ∃ a : State, a = State.worn { s with pstore := { s.pstore with buf := rest, words := SMap.set (fun _ => 0) s.pstore.words i v } } i := ⟨_, rfl⟩
  have hform : u = (a.setFld F.PSTORE_WRITES_LO_COUNT k).setFld F.PSTORE_WRITES_HI_COUNT (k / 2 ^ 32) := by rw [hu, ha, hk]; rfl
  have hframe : Frame [.regs] a u := by rw [hform]; exact Frame.refl.setFld.setFld
  have hps : u.pstore = a.pstore := hframe.get State.pstore
  have hsa : RegsBut s a [] := by rw [ha]; exact RegsBut.refl.of_regs rfl
  have hur : RegsBut a u [R.PSTORE_WRITES_LO, R.PSTORE_WRITES_HI] := by rw [hform]; exact RegsBut.refl.setFld.setFld
  refine ⟨by rw [hps, ha]; rfl, ?_, fun j hj => ?_, fun j => ?_, ?_, hsa.trans hur, ?_⟩
  · rw [hps, ha]
    exact SMap.get_set_same ..
  · rw [hps, ha]
    exact SMap.get_set_other _ _ _ (Ne.symm hj)
  · have hwear : u.pstore.wear = SMap.set (fun _ => 0) s.pstore.wear i (SMap.get (fun _ => 0) s.pstore.wear i + 1) := by
      rw [hps, ha]
      rfl
    rw [hwear]
    split
    · next h => rw [h, SMap.get_set_same]
    · next h => rw [SMap.get_set_other _ _ _ (Ne.symm h)]
  · have hlo : u.fld F.PSTORE_WRITES_LO_COUNT = k % 2 ^ 32 := by
      rw [hform, State.fld_setFld_other _ _ _ _ (by decide), State.fld_setFld_same _ _ _ (by decide)]
    have hhi : u.fld F.PSTORE_WRITES_HI_COUNT = k / 2 ^ 32 % 2 ^ 32 := by
      rw [hform, State.fld_setFld_same _ _ _ (by decide)]
    rw [hlo, hhi]
    omega
  · rw [show u = a.taking _ u from hframe, ha]
    rfl

end

/-- Settles O52: the arbiter's registers are read digit by digit, and one equation says for each activity, pass and word what its end leaves. -/
theorem maintenanceActivitiesRun : Obligations.MaintenanceActivitiesRun := by
  unfold Obligations.MaintenanceActivitiesRun
  refine ⟨⟨fun s c k hs hc => ?request, fun s b => ⟨fun h => ?notDue, fun hmap hdays hb => ?due⟩, fun s m run hrun => ?arbiter,
    fun s n uncorr => ?scrub, fun s act res rep ok hruns hok => ?done⟩, fun s => ⟨fun h => ?empty, fun i v rest h => ?stored⟩⟩
  case request =>
    rw [State.maintReqs_eq hs hc]
    exact ⟨fun h => by rw [if_pos h], fun h => by rw [if_neg (by simp [h])]⟩
  case notDue =>
    refine congrArg Host.Outcome.next (if_neg ?_)
    obtain h | h | h := h <;> simp [h]
  case due =>
    refine ⟨s.refreshAlso [b.toNat], congrArg Host.Outcome.next ((if_pos (by simp [hmap, hdays, hb])).trans (if_congr ?_ rfl rfl)),
      fun x => (s.mem_refreshAlso _ x).trans (or_congr Iff.rfl List.mem_singleton), rfl⟩
    have hon : ({ s with mem := { s.mem with refresh := (s.mem.refresh ++ [b.toNat]).eraseDups } } : State).domOn = s.domOn := rfl
    rw [hon, hmap, Bool.and_true]
  case arbiter =>
    refine ⟨fun h => State.maintRequest_merged (hrun ▸ h), fun w hw h => State.maintRequest_new (hrun ▸ h) hw, State.maintScan_stay,
      fun w hq hr hf hw => State.maintScan_start hq hr hf hw, fun w x hw hx => State.maintStart_eq hw hx,
      ⟨s.arbiterShown, s.maintShow_eq, fun a ha => s.arbiterShown_state ha, fun hall i hi => s.arbiterShown_queue hall hi,
        fun k hk => s.arbiterShown_claims hk, s.arbiterShown_regsBut, Frame.refl.arbiterShown (p := [.regs])⟩, fun status hs hm => ?_⟩
    obtain ⟨u, hu⟩ : ∃ u, u = s.endCounted m status := ⟨_, rfl⟩
    obtain ⟨h1, h2, h3, h4, hregs, hform⟩ := s.endCounted_spec hs hm hu
    exact ⟨u, _, rfl, s.maintEnd_eq m status hu rfl, h1, h2, h3, h4, hregs, hform⟩
  case scrub =>
    refine ⟨fun h => congrArg Host.Outcome.next (State.scrubPassDone_none h), fun m w h hw => ?_, ?_, fun h => if_pos h, fun h => ?_,
      fun a => ?_⟩
    · obtain ⟨u, hu⟩ : ∃ u, u = w.passCounted := ⟨_, rfl⟩
      obtain ⟨h1, h2, hregs, hform⟩ := w.passCounted_spec hu
      exact ⟨u, congrArg Host.Outcome.next (State.scrubPassDone_eq h (hw ▸ hu)), h1, h2, hregs, hform⟩
    · unfold State.scrubGo
      simp only [Bool.and_eq_true, bne_iff_ne, ne_eq]
    · obtain ⟨u, hu⟩ : ∃ u, u = s.dramCorr n := ⟨_, rfl⟩
      rw [← hu]
      exact s.dramCorr_spec h hu
    · obtain ⟨u, hu⟩ : ∃ u, u = s.uncorrShown a := ⟨_, rfl⟩
      obtain ⟨h1, h2, h3, hregs, hframe⟩ := s.uncorrShown_spec a hu
      exact ⟨u, by rw [hu]; rfl, h1, h2, h3, hregs, hframe⟩
  case done =>
    have hexec : exec (.maintActivityDone act res rep) s =
        .next (s.after (if act = 0 && s.boot.step == .march then s.bootMarched rep.rows else s.activityDone act.toNat res rep)) :=
      congrArg Host.Outcome.next (State.flow_of_runs hruns _)
    rw [hexec]
    refine ⟨fun ha hm => by rw [if_pos (by simp [ha, hm])], fun hno => ?_, ?_, ?_⟩
    · rw [if_neg (by simpa using hno)]
      refine ⟨fun h => by rw [State.activityDone_none h], fun m w h hw => ?_⟩
      have heq {v : State} (hv : v = s.activityMet act.toNat rep) := State.activityDone_eq (res := res) h hv
      rw [← hok] at heq
      have hnand : act = 2 ∨ act = 3 ∨ act = 5 ∨ act = 6 → w = s.activityMet act.toNat rep := by
        rw [hw]
        rintro (rfl | rfl | rfl | rfl) <;> rfl
      have hplain : act = 0 ∨ act = 4 ∨ act = 1 ∨ act = 7 → s = s.activityMet act.toNat rep := by
        rintro (rfl | rfl | rfl | rfl) <;> rfl
      refine ⟨fun ha => ?_, fun ha => ?_, fun ha => ?_, fun ha => ?_, fun ha => ?_, fun ha => ?_, fun ha => ?_⟩
      · rw [heq (hplain (.inl ha)), ha]
        rfl
      · rw [heq (hnand (.inl ha)), ha]
        rfl
      · rw [heq (hnand (.inr (.inl ha))), ha]
        rfl
      · rw [heq (hplain (.inr (.inl ha))), ha]
        rfl
      · rw [heq (hnand (.inr (.inr (.inl ha)))), ha]
        rfl
      · rw [heq (hnand (.inr (.inr (.inr ha)))), ha]
        rfl
      · rw [heq (hplain (.inr (.inr ha)))]
        obtain rfl | rfl := ha <;> rfl
    · exact ⟨_, _, rfl, rfl, rfl⟩
    · obtain ⟨u, hu⟩ : ∃ u, u = s.nandCounted rep := ⟨_, rfl⟩
      obtain ⟨h1, h2, h3, hregs, hform⟩ := s.nandCounted_spec rep hu
      exact ⟨u, by rw [hu, s.nandReport_eq], h1, h2, h3, hregs, hform⟩
  case empty => exact congrArg Host.Outcome.next (State.pstoreStep_empty h)
  case stored =>
    obtain ⟨u, hu⟩ : ∃ u, u = s.wordStored i v rest := ⟨_, rfl⟩
    obtain ⟨h1, h2, h3, h4, h5, hregs, hform⟩ := s.wordStored_spec i v rest hu
    exact ⟨u, congrArg Host.Outcome.next (State.pstoreStep_eq h hu), h1, h2, h3, h4, h5, hregs, hform⟩

end Sys2Proof.Machine

/-! ### COLD (R348, R380, R413) -/

namespace Sys2Proof.Machine

-- A proof that fills in an argument by its default tactic waits for all that stands before it: checked in order, none waits.
set_option Elab.async false

section
variable {s t : State}

/-- Half of the Subsystem IDs: that of the persistent store, or a default where it is 0. -/
def idHalf (w : Word) (lo dflt : Nat) : Nat := if bitsOf w lo 16 = 0 then dflt else bitsOf w lo 16

theorem idHalf_lt (w : Word) (lo : Nat) {dflt : Nat} (h : dflt < 2 ^ 16) : idHalf w lo dflt < 2 ^ 16 := by
  unfold idHalf
  split
  · exact h
  · exact bitsOf_lt _ _ _

theorem bitsOf_halves {a b : Nat} (ha : a < 2 ^ 16) (hb : b < 2 ^ 16) :
    bitsOf (BitVec.ofNat 32 (a + b * 2 ^ 16)) 0 16 = a ∧ bitsOf (BitVec.ofNat 32 (a + b * 2 ^ 16)) 16 16 = b := by
  unfold bitsOf
  rw [BitVec.toNat_ofNat]
  omega

theorem State.journalPointer_congr (h : t.pstore = s.pstore) : t.journalPointer = s.journalPointer := by
  have hread : t.persRead = s.persRead := State.persRead_congr (by rw [h]) (by rw [h])
  unfold State.journalPointer State.journal
  rw [hread]

/-- What holds of the state in COLD, whatever start-up's step is. -/
theorem State.coldState_spec (s : State) {t : State} (ht : t = s.coldState) :
    t.regs = State.reset.regs ∧ t.fatal = false ∧ t.boot = State.reset.boot ∧
    (∀ w, w = SMap.get (fun _ => 0) s.pstore.words 0 →
      bitsOf (t.cfg 0x2C) 0 16 = idHalf w 0 0x1E6D ∧ bitsOf (t.cfg 0x2C) 16 16 = idHalf w 16 0x4880) ∧
    (∀ o, o ≠ 0x2C → t.cfg o = Machine.cfgReset o) ∧ t.label.ptr = t.journalPointer ∧
    t = { State.reset with
      pending := s.pending, sent := s.sent, freeCtr := s.freeCtr, pstore := { s.pstore with buf := [] },
      mem := { State.reset.mem with nand := s.mem.nand, remap := s.mem.remap, erases := s.mem.erases, poolTaken := s.mem.poolTaken,
                                    poolBack := s.mem.poolBack, bad := s.mem.bad, refresh := s.mem.refresh },
      age := { State.reset.age with ring := s.age.ring, ringPos := s.age.ringPos },
      power := { State.reset.power with levels := s.power.levels, perstLow := s.power.perstLow },
      hvd := { State.reset.hvd with pfwLow := s.hvd.pfwLow }, label := { State.reset.label with ptr := t.label.ptr },
      hostReset := s.power.perstLow, pcie := { State.reset.pcie with cfg := t.pcie.cfg } } := by
  obtain ⟨v, hv⟩ : ∃ v, v = BitVec.ofNat 32 (idHalf (SMap.get (fun _ => 0) s.pstore.words 0) 0 0x1E6D +
    idHalf (SMap.get (fun _ => 0) s.pstore.words 0) 16 0x4880 * 2 ^ 16) := ⟨_, rfl⟩
  obtain ⟨c, hc⟩ : ∃ c, c = s.coldCore := ⟨_, rfl⟩
  obtain ⟨k, hk⟩ : ∃ k, k = c.journalPointer := ⟨_, rfl⟩
  obtain ⟨a, ha⟩ : ∃ a : State, a = { c with label := { c.label with ptr := k }, hostReset := c.power.perstLow } := ⟨_, rfl⟩
  have hread : a.persRead persCal = SMap.get (fun _ => 0) s.pstore.words 0 := by rw [ha, hc]; rfl
  have hform : t = a.setCfg 0x2C v := by
    rw [ht, hv, ← hread, ha, hk, hc]
    rfl
  have hcfg (o : Nat) : t.cfg o = if o = 0x2C then v else Machine.cfgReset o := by
    rw [hform]
    by_cases h : o = 0x2C
    · rw [h, if_pos rfl]
      exact SMap.get_set_same ..
    · rw [if_neg h]
      refine (SMap.get_set_other _ _ _ (Ne.symm h)).trans ?_
      rw [ha, hc]
      rfl
  refine ⟨?_, ?_, ?_, fun w hw => ?_, fun o ho => by rw [hcfg, if_neg ho], ?_, ?_⟩
  · rw [hform, ha, hc]
    rfl
  · have hregs : t.regs = State.reset.regs := by
      rw [hform, ha, hc]
      rfl
    rw [State.fatal, State.bit, State.fld, State.rd, hregs]
    decide
  · rw [hform, ha, hc]
    rfl
  · rw [hcfg, if_pos rfl, hv, ← hw]
    exact bitsOf_halves (idHalf_lt _ _ (by decide)) (idHalf_lt _ _ (by decide))
  · have hptr : t.label.ptr = k := by
      rw [hform, ha]
      rfl
    rw [hptr, hk]
    refine (State.journalPointer_congr ?_).symm
    rw [hform, ha]
    rfl
  · rw [hform, ha, hc]
    rfl

theorem State.flow_of_cold {f : State → State} (h : s.runs = false) : s.flow f = s := if_pos (by simpa [State.runs] using h)

end

/-- Settles O54: the state in COLD once, and that a part that does not run lets nothing flow. -/
theorem coldKeepsPersistentStores : Obligations.ColdKeepsPersistentStores := by
  unfold Obligations.ColdKeepsPersistentStores
  refine ⟨fun s c r hr hc => ?_, fun s c hcold hmem => ?_⟩
  · obtain ⟨u, hu⟩ : ∃ u, u = s.coldState := ⟨_, rfl⟩
    obtain ⟨hregs, hfatal, hboot, hids, hcfg, hptr, hform⟩ := s.coldState_spec hu
    obtain ⟨b, hb⟩ : ∃ b : Boot, exec c s = .next { u with boot := b } ∧
        (∀ k, c = .coldReset k → b = { r.boot with bootsel := k.toNat } ∧ b.step ≠ .cold) ∧
        (c = .vddKeepLoss → b = { r.boot with step := .cold } ∧ b.step = .cold) := by
      obtain ⟨k, rfl⟩ | rfl := hc
      · refine ⟨{ u.boot with bootsel := k.toNat }, by rw [hu]; rfl, fun j hj => ?_, fun h => absurd h (by simp)⟩
        obtain rfl := Instr.coldReset.inj hj
        rw [hboot, hr]
        exact ⟨rfl, show BootStep.root ≠ .cold by decide⟩
      · refine ⟨{ u.boot with step := .cold }, by rw [hu]; rfl, fun j hj => absurd hj (by simp), fun _ => ?_⟩
        rw [hboot, hr]
        exact ⟨rfl, rfl⟩
    obtain ⟨hexec, hreset, hloss⟩ := hb
    have hrd (k : Nat) : u.rd k = resetWord k := (show u.rd k = State.reset.rd k by rw [State.rd, hregs, State.rd]).trans (State.reset_rd k)
    have hstate : u.domState = State.reset.domState :=
      funext (State.domState_of_fld (by rw [State.fld, State.rd, hregs, State.fld, State.rd]))
    refine ⟨_, hexec, hrd, fun d hd => ?_, ?_, hfatal, ?_, ?_, ?_, ?_, ?_, hids, hcfg, hptr.trans (State.journalPointer_congr rfl), fun k hk => ?_, fun h => ?_, ?_⟩
    · refine (congrFun hstate d).trans ?_
      interval_cases d <;> decide
    · show bitsOf (u.rd _) _ _ = 1
      rw [hrd]
      decide
    · show u.dram = []
      rw [hform]
      rfl
    · show u.queues = []
      rw [hform]
      rfl
    · show u.mem.running = []
      rw [hform]
      rfl
    · show u.mem.queued = []
      rw [hform]
      rfl
    · show u.power.req = none
      rw [hform]
      rfl
    · obtain ⟨h1, h2⟩ := hreset k hk
      exact ⟨h1, show (b.step != .cold) = true by simpa using h2⟩
    · obtain ⟨h1, h2⟩ := hloss h
      exact ⟨h1, show (b.step != .cold) = false by rw [h2]; rfl⟩
    · rw [hr]
      exact congrArg (fun v : State => { v with boot := b }) hform
  · have hstep : s.boot.step = .cold := by simpa [State.runs] using hcold
    have hflow (f : State → State) : Host.Outcome.next (s.flow f) = (.next s : Host.Outcome State Fault Refusal) :=
      congrArg Host.Outcome.next (State.flow_of_cold hcold)
    simp only [List.mem_cons, List.not_mem_nil, or_false] at hmem
    obtain rfl | rfl | rfl | rfl | rfl | rfl | rfl | rfl | rfl | rfl | rfl | rfl | rfl | rfl | rfl := hmem
    case inr.inr.inr.inl => exact congrArg Host.Outcome.next (if_pos (by simp [hstep]))
    case inr.inr.inr.inr.inl => exact congrArg Host.Outcome.next (if_pos hstep)
    all_goals exact hflow _

end Sys2Proof.Machine

/-! ### HOST-SIDE resets (R348 to R350, R352, R391) -/

namespace Sys2Proof.Machine

-- A proof that fills in an argument by its default tactic waits for all that stands before it: checked in order, none waits.
set_option Elab.async false

/-! #### Maps whose values change -/

theorem SMap.mapVals_congr {β : Type} [DecidableEq β] {d : Nat → β} {f g : Nat → β → β} {m : SMap β} (h : ∀ e ∈ m, f e.1 e.2 = g e.1 e.2) :
    SMap.mapVals d f m = SMap.mapVals d g m := by
  induction m with
  | nil => rfl
  | cons e m ih =>
    obtain ⟨k, v⟩ := e
    have hkv : f k v = g k v := h (k, v) (List.mem_cons_self ..)
    simp only [SMap.mapVals, hkv, ih fun e he => h e (List.mem_cons_of_mem _ he)]

/-- A map in canonical form holds no default value, so none is changed. -/
theorem SMap.get_mapVals_of_wf {β : Type} [DecidableEq β] (d : Nat → β) (f : Nat → β → β) {m : SMap β} (h : SMap.wf d m = true) (k : Nat) :
    SMap.get d (SMap.mapVals d f m) k = if SMap.get d m k = d k then d k else f k (SMap.get d m k) := by
  obtain ⟨hsorted, hne⟩ := (SMap.wf_iff d m).mp h
  have hsame : SMap.mapVals d f m = SMap.mapVals d (fun k v => if v = d k then d k else f k v) m :=
    SMap.mapVals_congr fun e he => (if_neg (hne e he)).symm
  rw [hsame, SMap.get_mapVals d _ m k hsorted (if_pos rfl)]

theorem SMap.mapVals_default {β : Type} [DecidableEq β] (d : Nat → β) {f : Nat → β → β} (hf : ∀ k v, f k v = d k) (m : SMap β) :
    SMap.mapVals d f m = [] := by
  induction m with
  | nil => rfl
  | cons e m ih =>
    simp only [SMap.mapVals, hf, if_true, ih]

section
variable {s t : State} {n : Nat}

/-! #### What a HOST-SIDE reset clears -/

/-- A transaction is discarded, if there is one. -/
def State.slotDropped (s : State) (n : Nat) : State :=
  if s.fld (F.SLOT_STATE_STATE n) = slFREE then s
  else (s.setFld (F.SLOT_STATE_STATE n) slFREE).setFld (F.SLOT_WRITES_COUNT n) 0

theorem State.slotDropped_same (s : State) (n : Nat) : (s.slotDropped n).fld (F.SLOT_STATE_STATE n) = slFREE ∧
    (s.fld (F.SLOT_STATE_STATE n) ≠ slFREE → (s.slotDropped n).fld (F.SLOT_WRITES_COUNT n) = 0) := by
  unfold State.slotDropped
  split
  · next h => exact ⟨h, fun hc => absurd h hc⟩
  · refine ⟨?_, fun _ => ?_⟩
    · rw [State.fld_setFld_other _ _ _ _ (.inl (by dsimp only; omega)), State.fld_setFld_same _ _ _ (by dsimp only; omega)]
      rfl
    · rw [State.fld_setFld_same _ _ _ (by dsimp only; omega)]
      rfl

theorem State.slotDropped_regs (s : State) (n : Nat) : RegsBut s (s.slotDropped n) [R.SLOT_STATE n, R.SLOT_WRITES n] :=
  .ite .refl RegsBut.refl.setFld.setFld

theorem State.slotDropped_other (s : State) {m : Nat} (h : m ≠ n) :
    (s.slotDropped m).fld (F.SLOT_STATE_STATE n) = s.fld (F.SLOT_STATE_STATE n) ∧
    (s.slotDropped m).fld (F.SLOT_WRITES_COUNT n) = s.fld (F.SLOT_WRITES_COUNT n) := by
  have hregs := s.slotDropped_regs m
  refine ⟨hregs.fld ?_, hregs.fld ?_⟩
  · show 0x150010 + 0x20 * n ∉ [0x150010 + 0x20 * m, 0x150014 + 0x20 * m]
    rw [List.mem_cons, List.mem_singleton]
    omega
  · show 0x150014 + 0x20 * n ∉ [0x150010 + 0x20 * m, 0x150014 + 0x20 * m]
    rw [List.mem_cons, List.mem_singleton]
    omega

theorem State.slotsDropped_spec {xs : List Nat} (hnd : xs.Nodup) (s : State) :
    (∀ n ∈ xs, (s.each xs State.slotDropped).fld (F.SLOT_STATE_STATE n) = slFREE ∧
      (s.fld (F.SLOT_STATE_STATE n) ≠ slFREE → (s.each xs State.slotDropped).fld (F.SLOT_WRITES_COUNT n) = 0)) ∧
    (∀ n, n ∉ xs → (s.each xs State.slotDropped).fld (F.SLOT_STATE_STATE n) = s.fld (F.SLOT_STATE_STATE n) ∧
      (s.each xs State.slotDropped).fld (F.SLOT_WRITES_COUNT n) = s.fld (F.SLOT_WRITES_COUNT n)) := by
  induction xs generalizing s with
  | nil => exact ⟨fun n hn => absurd hn (by simp), fun n _ => ⟨rfl, rfl⟩⟩
  | cons m xs ih =>
    obtain ⟨hm, hnd⟩ := List.nodup_cons.mp hnd
    obtain ⟨hin, hout⟩ := ih hnd (s.slotDropped m)
    have heach : s.each (m :: xs) State.slotDropped = (s.slotDropped m).each xs State.slotDropped := rfl
    rw [heach]
    refine ⟨fun n hn => ?_, fun n hn => ?_⟩
    · obtain rfl | hn := List.mem_cons.mp hn
      · obtain ⟨hstate, hwrites⟩ := hout n hm
        rw [hstate, hwrites]
        exact s.slotDropped_same n
      · have hne : m ≠ n := fun h => hm (h ▸ hn)
        rw [← (s.slotDropped_other hne).1]
        exact hin n hn
    · obtain ⟨hne, hn⟩ := not_or.mp fun h => hn (List.mem_cons.mpr h)
      obtain ⟨hstate, hwrites⟩ := hout n hn
      rw [hstate, hwrites]
      exact s.slotDropped_other (Ne.symm hne)

theorem State.discardTxns_spec (s : State) {u : State} (hu : u = s.discardTxns) :
    (∀ n, n < 64 → u.fld (F.SLOT_STATE_STATE n) = slFREE ∧
      (s.fld (F.SLOT_STATE_STATE n) ≠ slFREE → u.fld (F.SLOT_WRITES_COUNT n) = 0)) ∧
    RegsBut s u ((List.range 64).flatMap fun n => [R.SLOT_STATE n, R.SLOT_WRITES n]) ∧
    u = { s with regs := u.regs, txn := { s.txn with slots := [], merging := [], arrived := [] } } := by
  obtain ⟨a, ha⟩ : ∃ a, a = s.each (List.range 64) State.slotDropped := ⟨_, rfl⟩
  have hform : u = { a with txn := { a.txn with slots := [], merging := [], arrived := [] } } := by rw [hu, ha]; rfl
  have hau : RegsBut a u [] := by rw [hform]; exact RegsBut.refl.of_regs rfl
  have hframe : Frame [.regs] s a := by
    rw [ha]
    exact Frame.refl.each fun u x _ h => h.trans (.ite .refl Frame.refl.setFld.setFld)
  obtain ⟨hin, -⟩ := State.slotsDropped_spec List.nodup_range s
  rw [← ha] at hin
  refine ⟨fun n hn => ?_, ?_, ?_⟩
  · rw [hau.fld (by simp), hau.fld (by simp)]
    exact hin n (List.mem_range.mpr hn)
  · refine RegsBut.of_regs ?_ (show u.regs = a.regs by rw [hform])
    rw [ha]
    intro k hk
    refine State.get_each (fun t : State => t.rd k) fun t n hn => t.slotDropped_regs n k fun h => hk ?_
    exact List.mem_flatMap.mpr ⟨n, hn, h⟩
  · rw [hform, show a = s.taking _ a from hframe]
    rfl

theorem State.discardTxns_boot (s : State) : s.discardTxns.boot = s.boot := by
  obtain ⟨-, -, hform⟩ := s.discardTxns_spec rfl
  rw [hform]

theorem State.hostClear_eq (s : State) : s.hostClear =
    { s with
      queues := [], rings := [], hoist := Hoist.init, cmp := CmpHid.init,
      surf := { s.surf with cache := [], heldLo := [], fills := [], lost := s.surf.lost ++ ((s.surf.fills.map fun f => { f with discard := true }).filter fun f => !f.needs.isEmpty) },
      keys := { s.keys with data := [], op := none, opKey := [] }, label := { s.label with landing := [] },
      pcie := { s.pcie with d3hot := false, deferred := [], hiLatch := [], ltr := none, ptmBusy := false, ptmPrev := none, ptmFresh := false } } := by
  have hcache : SMap.mapVals (fun _ => []) (fun _ (ls : List CacheLine) => ls.filter fun l => !(fun _ : Nat => true) l.page) s.surf.cache = [] :=
    SMap.mapVals_default _ (fun _ _ => by simp) _
  unfold State.hostClear State.rcacheInvalidate
  rw [hcache]
  simp only [if_true]

/-! #### Fields that are reset by their class -/

theorem State.rd_resetClass (s : State) {p : RstCls → Bool} (h : s.canonical = true) (k : Nat) :
    (s.resetClass p).rd k = if s.rd k = resetWord k then resetWord k else resetFields p k (s.rd k) := by
  have hwf : SMap.wf resetWord s.regs = true := by
    unfold State.canonical at h
    simp only [Bool.and_eq_true] at h
    exact h.1.1
  exact SMap.get_mapVals_of_wf resetWord (resetFields p) hwf k

/-! #### A HOST-SIDE reset begins -/

/-- The reset's cause and its count. -/
def State.causeShown (s : State) (bit : Nat) : State :=
  (s.setFld F.CHIP_RESET_CAUSE_CAUSES (s.fld F.CHIP_RESET_CAUSE_CAUSES ||| 2 ^ bit)).bump F.CHIP_HOST_RESETS_COUNT

theorem State.causeShown_spec (s : State) {bit : Nat} (hb : bit < 7) {v : State} (hv : v = s.causeShown bit) :
    v.fld F.CHIP_RESET_CAUSE_CAUSES = s.fld F.CHIP_RESET_CAUSE_CAUSES ||| 2 ^ bit ∧
    v.fld F.CHIP_HOST_RESETS_COUNT = min (s.fld F.CHIP_HOST_RESETS_COUNT + 1) (2 ^ 32 - 1) ∧
    RegsBut s v [R.CHIP_RESET_CAUSE, R.CHIP_HOST_RESETS] ∧ Frame [.regs] s v := by
  obtain ⟨a, ha⟩ : ∃ a, a = s.setFld F.CHIP_RESET_CAUSE_CAUSES (s.fld F.CHIP_RESET_CAUSE_CAUSES ||| 2 ^ bit) := ⟨_, rfl⟩
  have hform : v = a.bump F.CHIP_HOST_RESETS_COUNT := by rw [hv, ha]; rfl
  have har : RegsBut s a [R.CHIP_RESET_CAUSE] := by rw [ha]; exact RegsBut.refl.setFld
  have hvr : RegsBut a v [R.CHIP_HOST_RESETS] := by rw [hform]; exact RegsBut.refl.bump
  refine ⟨?_, ?_, har.trans hvr, ?_⟩
  · rw [hvr.fld (by decide), ha, State.fld_setFld_same _ _ _ (by decide)]
    exact Nat.mod_eq_of_lt (Nat.or_lt_two_pow (s.fld_lt _) (Nat.pow_lt_pow_right (by decide) (show bit < 8 by omega)))
  · rw [hform, State.fld_bump_same _ _ _ (by decide), har.fld (by decide)]
  · rw [hform, ha]
    exact Frame.refl.setFld.bump

/-- The reset is under way, and scan is on hold. -/
def State.heldDown (x : State) : State := (x.raise 0x00 2).setFld F.SCAN_STATUS_HOLD 1

theorem State.heldDown_spec (x : State) {u : State} (hu : u = x.heldDown) :
    u.rd 0x000C = x.rd 0x000C ||| 4#32 ∧ u.rd R.SCAN_STATUS = (x.setFld F.SCAN_STATUS_HOLD 1).rd R.SCAN_STATUS ∧
    RegsBut x u [0x000C, R.SCAN_STATUS] ∧ Frame [.regs, .sent, .pcie, .summaryOwed] x u := by
  obtain ⟨a, ha⟩ : ∃ a, a = x.raise 0x00 2 := ⟨_, rfl⟩
  have hform : u = a.setFld F.SCAN_STATUS_HOLD 1 := by rw [hu, ha]; rfl
  have har : RegsBut x a [0x000C] := by rw [ha]; exact RegsBut.refl.raise
  have hur : RegsBut a u [R.SCAN_STATUS] := by rw [hform]; exact RegsBut.refl.setFld
  refine ⟨?_, ?_, har.trans hur, ?_⟩
  · rw [hur _ (by decide), ha, State.rd_raise_same]
    rfl
  · rw [hform, State.rd_setFld, State.rd_setFld, har _ (by decide)]
  · rw [hform, ha]
    exact Frame.refl.raise.setFld

/-- What the mailbox moves stands still. -/
def State.mboxStill (u : State) : State :=
  match u.boot.mbox with
  | some m => { u with boot := { u.boot with mbox := some { m with moving := false } } }
  | none => u

theorem State.hostBegin_eq (s : State) (bit : Nat) {v w x : State} (hv : v = s.causeShown bit) (hw : w = v.hostClear.discardTxns.dropStaged)
    (hx : x = { w.resetClass (causeCls bit) with hostReset := true }) : s.hostBegin bit = x.heldDown.mboxStill := by
  subst hv hw hx
  rfl

theorem State.hostSide_waking {bit : Nat} (h : s.hostWaking = true) : s.hostSide bit = { s with power := { s.power with resetDue := bit } } :=
  if_pos h

theorem State.hostSide_eq {bit : Nat} (h : s.hostWaking = false) : s.hostSide bit =
    if bit = 1 then (((s.hostBegin 1).cfgReset Machine.cfgSticky).readSubsystem).wr R.PCIEX_LINK_STATUS 0
    else if bit = 2 then (s.hostBegin 2).cfgReset Machine.cfgSticky else s.hostBegin bit := by
  have hside : s.hostSide bit = s.hostReset' bit := if_neg (by simp [h])
  have hform : s.hostReset' bit = if bit = 1 then (((s.hostBegin bit).cfgReset Machine.cfgSticky).readSubsystem).wr R.PCIEX_LINK_STATUS 0
      else if bit = 2 then (s.hostBegin bit).cfgReset Machine.cfgSticky else s.hostBegin bit := rfl
  rw [hside, hform]
  split
  · next h => rw [h]
  · split
    · next h => rw [h]
    · rfl

/-! #### A HOST-SIDE reset ends -/

/-- The Host region answers and is isolated no more. -/
def State.hostBack (s : State) : State :=
  let s : State := { s with hostReset := false }
  s.setFld F.CHIP_ERR_SUMMARY_ISOLATED (s.fld F.CHIP_ERR_SUMMARY_ISOLATED - s.fld F.CHIP_ERR_SUMMARY_ISOLATED / 2 % 2 * 2)

/-- The event that was owed is posted. -/
def State.owedPosted (u : State) : State :=
  match u.boot.owed with
  | some e => State.postR { u with boot := { u.boot with owed := none } } (u.fld F.FORE_EVT_RING) false e
  | none => u

theorem digit_one_cleared (x : Nat) : (x - x / 2 % 2 * 2) / 2 % 2 = 0 ∧ ∀ n, n ≠ 1 → (x - x / 2 % 2 * 2) / 2 ^ n % 2 = x / 2 ^ n % 2 := by
  refine ⟨by omega, fun n hn => ?_⟩
  match n with
  | 0 => omega
  | 1 => exact absurd rfl hn
  | k + 2 =>
    have hquarter : (x - x / 2 % 2 * 2) / 4 = x / 4 := by omega
    rw [show 2 ^ (k + 2) = 4 * 2 ^ k by ring, ← Nat.div_div_eq_div_mul, ← Nat.div_div_eq_div_mul, hquarter]

theorem State.hostBack_spec (s : State) {u : State} (hu : u = s.hostBack) :
    u.fld F.CHIP_ERR_SUMMARY_ISOLATED / 2 % 2 = 0 ∧
    (∀ n, n ≠ 1 → u.fld F.CHIP_ERR_SUMMARY_ISOLATED / 2 ^ n % 2 = s.fld F.CHIP_ERR_SUMMARY_ISOLATED / 2 ^ n % 2) ∧
    RegsBut s u [R.CHIP_ERR_SUMMARY] ∧ u = { s with regs := u.regs, hostReset := false } := by
  obtain ⟨i, hi⟩ : ∃ i, i = s.fld F.CHIP_ERR_SUMMARY_ISOLATED := ⟨_, rfl⟩
  obtain ⟨a, ha⟩ : ∃ a : State, a = { s with hostReset := false } := ⟨_, rfl⟩
  have hform : u = a.setFld F.CHIP_ERR_SUMMARY_ISOLATED (i - i / 2 % 2 * 2) := by rw [hu, ha, hi]; rfl
  have hsa : RegsBut s a [] := by rw [ha]; exact RegsBut.refl.of_regs rfl
  have hframe : Frame [.regs] a u := by rw [hform]; exact Frame.refl.setFld
  have hlt : i < 2 ^ 6 := hi ▸ s.fld_lt _
  have hval : u.fld F.CHIP_ERR_SUMMARY_ISOLATED = i - i / 2 % 2 * 2 := by
    rw [hform, State.fld_setFld_same _ _ _ (by decide)]
    exact Nat.mod_eq_of_lt (lt_of_le_of_lt (Nat.sub_le _ _) hlt)
  obtain ⟨hone, hother⟩ := digit_one_cleared i
  rw [hval, ← hi]
  refine ⟨hone, hother, ?_, ?_⟩
  · rw [hform]
    exact hsa.trans RegsBut.refl.setFld
  · rw [show u = a.taking _ u from hframe, ha]
    rfl

theorem State.hostResetEnd_none (h : s.hostReset = false) : s.hostResetEnd = s := if_pos (by simp [h])

theorem State.hostResetEnd_eq (h : s.hostReset = true) {v : State} (hv : v = s.hostBack.owedPosted) : s.hostResetEnd =
    if v.summaryOwed && v.hostUp && v.anySummary then
      State.signal { v with summaryOwed := false } (v.fld F.CHIP_INT_CTRL_VECTOR) else v := by
  have hform : v = match s.hostBack.boot.owed with
      | none => s.hostBack
      | some e => ({ s.hostBack with boot := { s.hostBack.boot with owed := none } }).postR (s.hostBack.fld F.FORE_EVT_RING) false e := by
    rw [hv]
    unfold State.owedPosted
    cases s.hostBack.boot.owed <;> rfl
  rw [hform]
  exact if_neg (by simp [h])

end

/-- Settles O55: what begins a reset and what ends one, and each of the stages that a reset goes through. -/
theorem hostSideResetsAct : Obligations.HostSideResetsAct := by
  unfold Obligations.HostSideResetsAct
  refine ⟨fun s hruns => ⟨fun h => ?again, fun hlow v w hv hw => ?low, fun down => ⟨fun h => ?noLink, fun hon hlow hup => ?hot⟩, fun h => ?noFlr,
    fun hon hready u hu => ?flr, fun v hs => ⟨fun h0 h1 hkey => ?soft, fun h => ?noSoft⟩, fun h hlow => ?ends, fun h => ?noEnd,
    fun hlow => ?stillHigh, fun hlow u hu => ?high⟩,
    fun s bit => ⟨State.hostSide_waking, State.hostSide_eq, fun hcan hb => ?begin, ⟨_, rfl, s.hostClear_eq⟩, ⟨_, rfl, s.discardTxns_spec rfl⟩, rfl,
      State.hostResetEnd_none, fun h => ?done⟩⟩
  case again => exact congrArg (fun t : State => Host.Outcome.next t.goOn) (if_pos h)
  case low =>
    have hcold : s.boot.step ≠ .cold := by simpa [State.runs] using hruns
    refine congrArg (fun t : State => Host.Outcome.next t.goOn) ((if_neg (by simp [hlow])).trans ((if_neg hcold).trans ?_))
    rw [hw, hv]
  case noLink =>
    refine congrArg Host.Outcome.next ((State.flow_of_runs hruns _).trans (congrArg s.after (if_pos ?_)))
    obtain h | h | h := h <;> simp [h]
  case hot => exact congrArg Host.Outcome.next ((State.flow_of_runs hruns _).trans (congrArg s.after (if_neg (by simp [hon, hlow, hup]))))
  case noFlr =>
    refine congrArg Host.Outcome.next ((State.flow_of_runs hruns _).trans (congrArg s.after (if_pos ?_)))
    obtain h | h := h <;> simp [h]
  case flr =>
    rw [hu]
    exact congrArg Host.Outcome.next ((State.flow_of_runs hruns _).trans (congrArg s.after (if_neg (by simp [hon, hready]))))
  case soft =>
    refine congrArg Host.Outcome.next ((State.flow_of_runs hruns _).trans (congrArg s.after ((hostWriteTo_of_serves s _ _ hs).trans ?_)))
    exact (if_neg (by simp [h1])).trans ((if_neg (by simp [h0, hkey])).trans (if_neg (by simp [h1])))
  case noSoft =>
    refine congrArg Host.Outcome.next ((State.flow_of_runs hruns _).trans (congrArg s.after ((hostWriteTo_of_serves s _ _ hs).trans ?_)))
    by_cases h1 : bitOf v 1 = true
    · exact if_pos h1
    · refine (if_neg h1).trans (if_pos ?_)
      obtain h | h | h := h
      · simp [h]
      · exact absurd h h1
      · simp [h]
  case ends => exact congrArg Host.Outcome.next ((State.flow_of_runs hruns _).trans (congrArg s.after (if_pos (by simp [h, hlow]))))
  case noEnd =>
    refine congrArg Host.Outcome.next ((State.flow_of_runs hruns _).trans (congrArg s.after (if_neg ?_)))
    obtain h | h := h <;> simp [h]
  case stillHigh => exact congrArg (fun t : State => Host.Outcome.next t.goOn) (if_pos (by simp [hlow]))
  case high =>
    have hcold : s.boot.step ≠ .cold := by simpa [State.runs] using hruns
    rw [hu]
    exact congrArg (fun t : State => Host.Outcome.next t.goOn) ((if_neg (by simp [hlow])).trans (if_neg hcold))
  case begin =>
    obtain ⟨v, hv⟩ : ∃ v, v = s.causeShown bit := ⟨_, rfl⟩
    obtain ⟨w, hw⟩ : ∃ w, w = v.hostClear.discardTxns.dropStaged := ⟨_, rfl⟩
    obtain ⟨a, ha⟩ : ∃ a, a = w.resetClass (causeCls bit) := ⟨_, rfl⟩
    obtain ⟨x, hx⟩ : ∃ x : State, x = { a with hostReset := true } := ⟨_, rfl⟩
    obtain ⟨u, hu⟩ : ∃ u, u = x.heldDown := ⟨_, rfl⟩
    obtain ⟨hcause, hcount, hvregs, hvframe⟩ := s.causeShown_spec hb hv
    obtain ⟨hint, hhold, huregs, huframe⟩ := x.heldDown_spec hu
    have hkeeps : Keeps s w := by
      rw [hw, hv]
      exact (Keeps.rfl.setFld.bump : Keeps s (s.causeShown bit)).hostClear.discardTxns.dropStaged
    have hboot : u.boot = s.boot := by
      have huw : u.boot = w.boot := (huframe.get State.boot).trans (by rw [hx, ha]; rfl)
      have hwv : w.boot = v.boot := by
        rw [hw]
        exact v.hostClear.discardTxns_boot
      rw [huw, hwv, hvframe.get State.boot]
    refine ⟨v, w, x, u, hcause, hcount, hvregs, hvframe, hw, fun k => ?_, ?_, hint, hhold, huregs, huframe, ?_⟩
    · have hrd : x.rd k = (w.resetClass (causeCls bit)).rd k := by rw [hx, ha]; rfl
      rw [hrd]
      exact w.rd_resetClass (hkeeps.2 hcan) k
    · rw [hx, ha]
      rfl
    · rw [s.hostBegin_eq bit hv hw (hx.trans (by rw [ha])), ← hu, ← hboot]
      rfl
  case done =>
    obtain ⟨u, hu⟩ : ∃ u, u = s.hostBack := ⟨_, rfl⟩
    obtain ⟨hone, hother, hregs, hform⟩ := s.hostBack_spec hu
    refine ⟨u, u.owedPosted, hone, hother, hregs, hform, ?_, State.hostResetEnd_eq h (by rw [hu])⟩
    have hboot : u.boot = s.boot := by rw [hform]
    rw [← hboot, ← hregs.fld (by decide)]
    rfl

end Sys2Proof.Machine

/-! ### Start-up, the full-scope sequence and boundary scan (R287, R350, R354, R355, R359, R407) -/

namespace Sys2Proof.Machine

-- A proof that fills in an argument by its default tactic waits for all that stands before it: checked in order, none waits.
set_option Elab.async false

section
variable {s t : State} {v : Word}

/-! #### The start of Foreman -/

theorem State.bootFirmware_eq {u w : State} (hu : u = if s.fld F.CHIP_BOOT_STATUS_STAGE = stageReady then s else s.setFld F.CHIP_BOOT_STATUS_STAGE 3)
    (hw : w = if s.boot.bootsel = 2 ∨ s.fld F.CHIP_BOOT_STATUS_BOOT_FAIL = 3 then u.enterRecovery else u.firmwareStart s.boot.image) :
    s.bootFirmware =
      if s.domOn dFORE = false then ((u.bootFail 5).setAgain true).setBootStep (.host false)
      else if w.boot.foreman then ((w.setFld F.SURF_RSVD_FRAMES_COUNT 640).placeStores).setBootStep (.list 0)
      else w.setBootStep (.host false) := by
  have hboot : u.boot = s.boot := by
    rw [hu]
    split <;> rfl
  have hregs : RegsBut s u [R.CHIP_BOOT_STATUS] := by rw [hu]; exact .ite .refl RegsBut.refl.setFld
  have hfail : u.fld F.CHIP_BOOT_STATUS_BOOT_FAIL = s.fld F.CHIP_BOOT_STATUS_BOOT_FAIL := by
    rw [hu]
    split
    · rfl
    · exact State.fld_setFld_other _ _ _ _ (by decide)
  have hstage : u = if s.fld F.CHIP_BOOT_STATUS_STAGE = stageReady then s else s.setStage 3 := hu
  unfold State.bootFirmware
  dsimp only
  rw [← hstage, hregs.domOn (by decide), hboot, hfail]
  simp only [Bool.not_eq_true', Bool.or_eq_true, decide_eq_true_eq]
  rw [← hw]

theorem State.enterRecovery_spec (h : s.domOn dFORE = true) {u : State} (hu : u = s.enterRecovery) :
    u.bit F.FORE_FW_STATUS_RECOVERY = true ∧ u.bit F.FORE_FW_STATUS_TRIAL = false ∧ RegsBut s u [R.FORE_FW_STATUS] ∧
    u = { s with regs := u.regs, boot := { s.boot with foreman := false, recovery := true, trial := false } } := by
  obtain ⟨a, ha⟩ : ∃ a : State, a = { s with boot := { s.boot with foreman := false, recovery := true, trial := false } } := ⟨_, rfl⟩
  obtain ⟨k, hk⟩ : ∃ k, k = s.boot.image := ⟨_, rfl⟩
  obtain ⟨q, hq⟩ : ∃ q, q = s.boot.passed.contains (1 - s.boot.image) := ⟨_, rfl⟩
  have hon : a.domOn dFORE = true := by rw [ha]; exact h
  have hshow : u = (((a.setFld F.FORE_FW_STATUS_IMAGE k).setBit F.FORE_FW_STATUS_TRIAL false).setBit F.FORE_FW_STATUS_RECOVERY true).setBit
      F.FORE_FW_STATUS_OTHER_OK q := by
    rw [hu, hk, hq]
    refine (if_neg (by rw [← ha, hon]; decide)).trans ?_
    rw [ha]
    rfl
  have hframe : Frame [.regs] a u := by rw [hshow]; exact Frame.refl.setFld.setBit.setBit.setBit
  have hsa : RegsBut s a [] := by rw [ha]; exact RegsBut.refl.of_regs rfl
  refine ⟨?_, ?_, ?_, ?_⟩
  · rw [hshow]
    unfold State.setBit
    rw [State.bit_setFld_other (by decide), State.bit_setFld_same (by decide)]
    rfl
  · rw [hshow]
    unfold State.setBit
    rw [State.bit_setFld_other (by decide), State.bit_setFld_other (by decide), State.bit_setFld_same (by decide)]
    rfl
  · rw [hshow]
    exact hsa.trans RegsBut.refl.setFld.setBit.setBit.setBit
  · rw [show u = a.taking _ u from hframe, ha]
    rfl

/-! #### The full-scope sequence -/

theorem State.resetCtrl_full (h0 : bitOf v 0 = true) (h1 : bitOf v 1 = true) (hk : bitsOf v 8 8 = 0xA5) : s.resetCtrl v = s.fullBegin :=
  (if_neg (by simp [h0, hk])).trans (if_pos h1)

theorem State.resetCtrl_none (h : bitOf v 0 = false ∨ bitsOf v 8 8 ≠ 0xA5) : s.resetCtrl v = s := by
  refine if_pos ?_
  obtain h | h := h <;> simp [h]

theorem State.fullReset_spec (s : State) {u : State} (hu : u = s.fullReset) :
    u.fld F.CHIP_RESET_CAUSE_CAUSES = s.fld F.CHIP_RESET_CAUSE_CAUSES ||| 16 ∧
    u.rd R.CHIP_CLAMP_LOG_NEXT = s.rd R.CHIP_CLAMP_LOG_NEXT ∧ u.rd R.CHIP_CLAMP_LOG_TOTAL = s.rd R.CHIP_CLAMP_LOG_TOTAL ∧
    RegsBut (s.coldReset s.boot.bootsel) u [R.CHIP_RESET_CAUSE, R.CHIP_CLAMP_LOG_NEXT, R.CHIP_CLAMP_LOG_TOTAL] ∧
    u = { s.coldReset s.boot.bootsel with regs := u.regs, clampLog := s.clampLog } := by
  obtain ⟨c, hc⟩ : ∃ c, c = s.coldReset s.boot.bootsel := ⟨_, rfl⟩
  obtain ⟨k, hk⟩ : ∃ k, k = s.fld F.CHIP_RESET_CAUSE_CAUSES ||| 16 := ⟨_, rfl⟩
  obtain ⟨next, hnext⟩ : ∃ w, w = s.rd R.CHIP_CLAMP_LOG_NEXT := ⟨_, rfl⟩
  obtain ⟨total, htotal⟩ : ∃ w, w = s.rd R.CHIP_CLAMP_LOG_TOTAL := ⟨_, rfl⟩
  obtain ⟨a, ha⟩ : ∃ a : State, a = { c with clampLog := s.clampLog } := ⟨_, rfl⟩
  have hform : u = ((a.wr R.CHIP_CLAMP_LOG_NEXT next).wr R.CHIP_CLAMP_LOG_TOTAL total).setFld F.CHIP_RESET_CAUSE_CAUSES k := by
    rw [hu, ha, hc, hk, hnext, htotal]
    rfl
  have hca : RegsBut c a [] := by rw [ha]; exact RegsBut.refl.of_regs rfl
  have hframe : Frame [.regs] a u := by rw [hform]; exact Frame.refl.wr.wr.setFld
  rw [← hc, ← hk, ← hnext, ← htotal]
  refine ⟨?_, ?_, ?_, ?_, ?_⟩
  · rw [hform, State.fld_setFld_same _ _ _ (by decide)]
    have hlt : s.fld F.CHIP_RESET_CAUSE_CAUSES ||| 16 < 2 ^ 8 := Nat.or_lt_two_pow (s.fld_lt _) (by decide)
    exact Nat.mod_eq_of_lt (hk ▸ hlt)
  · rw [hform, State.rd_setFld_other _ _ _ (by decide), State.rd_wr_other _ _ (by decide), State.rd_wr_same]
  · rw [hform, State.rd_setFld_other _ _ _ (by decide), State.rd_wr_same]
  · have hau : RegsBut a u [R.CHIP_RESET_CAUSE, R.CHIP_CLAMP_LOG_NEXT, R.CHIP_CLAMP_LOG_TOTAL] := by
      rw [hform]
      exact RegsBut.refl.wr.wr.setFld
    exact hca.trans hau
  · rw [show u = a.taking _ u from hframe, ha]
    rfl

/-! #### Boundary scan -/

theorem State.modeDue_regs (s : State) : RegsBut s s.modeDue [R.LINK_STATUS] := by
  unfold State.modeDue
  split
  · exact .ite .refl (State.regsBut_sendMode { s with link := { s.link with mode := none } } _)
  · exact .refl

theorem State.linkStop_regs (s : State) : RegsBut s s.linkStop [R.LINK_STATUS] := by
  have hquiet (u : State) (f : State → Nat → LaneHid) : RegsBut u (u.each (List.range lanes) fun s n => s.setLane n (f s n)) [] :=
    RegsBut.refl.of_regs (State.get_each State.regs fun _ _ _ => rfl)
  have hclear : RegsBut s { s with link := { s.link with lines := [], cur := none, len := 0 } } [] := RegsBut.refl.of_regs rfl
  exact (hclear.trans (hquiet _ _)).trans (State.modeDue_regs _)

theorem State.sleepCheck_regs (s : State) : RegsBut s s.sleepCheck [R.CLK_STATUS] := by
  unfold State.sleepCheck
  split
  · have hasleep : RegsBut s { s with power := { s.power with asleep := true } } [R.CLK_STATUS] := RegsBut.refl.of_regs rfl
    exact hasleep.setFld.setFld.setFld
  · exact .refl

/-- Nothing of a frame is under way. -/
def State.scanIdle (s : State) : State :=
  { s with scan := { s.scan with k := 0, endFixed := false, e := 0, applied := false, repeated := false, lines := 0,
                                 started := false, flipLines := [], fetch := [] },
           surf := { s.surf with fills := s.surf.fills.map fun (f : Fill) => { f with needs := [] }, lost := [] } }

theorem State.scanStop_spec (s : State) {u : State} (hu : u = s.scanStop) :
    u.bit F.SCAN_STATUS_RUNNING = false ∧ RegsBut s u [R.SCAN_STATUS, R.LINK_STATUS, R.CLK_STATUS] := by
  obtain ⟨a, ha⟩ : ∃ a, a = (s.setFld F.SCAN_STATUS_RUNNING 0).setFld F.SCAN_STATUS_STRETCH 0 := ⟨_, rfl⟩
  obtain ⟨b, hb⟩ : ∃ b, b = a.scanIdle := ⟨_, rfl⟩
  have hform : u = b.linkStop.sleepCheck := by rw [hu, hb, ha]; rfl
  have hsa : RegsBut s a [R.SCAN_STATUS] := by rw [ha]; exact RegsBut.refl.setFld.setFld
  have hab : RegsBut a b [] := by rw [hb]; exact RegsBut.refl.of_regs rfl
  have hbu : RegsBut b u [R.LINK_STATUS, R.CLK_STATUS] := by rw [hform]; exact b.linkStop_regs.trans (State.sleepCheck_regs _)
  refine ⟨?_, (hsa.trans hab).trans hbu⟩
  rw [hbu.bit (by decide), hab.bit (by decide), ha, State.bit_setFld_other (by decide), State.bit_setFld_same (by decide)]
  rfl

/-- Scan is told to stop, and stops. -/
theorem State.scanHalted_spec (s : State) {x : State} (hx : x = (s.setFld F.SCAN_CTRL_RUN 0).scanHalt) :
    x.bit F.SCAN_CTRL_RUN = false ∧ x.bit F.SCAN_STATUS_RUNNING = false ∧
    RegsBut s x [R.SCAN_CTRL, R.SCAN_STATUS, R.LINK_STATUS, R.CLK_STATUS] := by
  obtain ⟨a, ha⟩ : ∃ a, a = s.setFld F.SCAN_CTRL_RUN 0 := ⟨_, rfl⟩
  have har : RegsBut s a [R.SCAN_CTRL] := by rw [ha]; exact RegsBut.refl.setFld
  have hrun : a.bit F.SCAN_CTRL_RUN = false := by rw [ha, State.bit_setFld_same (by decide)]; rfl
  rw [← ha] at hx
  cases h : a.bit F.SCAN_STATUS_RUNNING with
  | false =>
    have hform : x = a := hx.trans (if_neg (by simp [h]))
    rw [hform]
    exact ⟨hrun, h, har.mono (by simp)⟩
  | true =>
    obtain ⟨hstop, hregs⟩ := a.scanStop_spec (hx.trans (if_pos (by simp [h, hrun])))
    exact ⟨(hregs.bit (by decide)).trans hrun, hstop, har.trans hregs⟩

/-- What training's end leaves: but for the link's and the panel's own registers, what an event leaves. -/
theorem State.rd_trainEnd (s : State) {k : Nat} (hk : k ∉ [R.LINK_STATUS, R.HVD_PANEL_STATUS]) (hlow : lowReg k = true) :
    s.trainEnd.rd k = s.rd k := by
  obtain ⟨a, ha⟩ : ∃ a, a = s.setFld F.LINK_STATUS_TRAINING 0 := ⟨_, rfl⟩
  obtain ⟨b, hb⟩ : ∃ b : State, b = { a with link := { s.link with training := [] } } := ⟨_, rfl⟩
  obtain ⟨x, hx⟩ : ∃ x, x = (b.raise 0x41 2).post F.LINK_EVT_RING 0x0501
      [(32, b.runMask), (16, b.runMask / 2 ^ 32), (2, b.fld F.LINK_CTRL_RATE)] := ⟨_, rfl⟩
  have hform : s.trainEnd = if !s.bit F.LINK_STATUS_TRAINING || s.link.training.any fun n => s.laneState n == laneTRAIN then s
      else x.panelTrained := by rw [hx, hb, ha]; rfl
  have hevents : RegsButEvents (b.fld F.LINK_EVT_RING) b x [] := by rw [hx]; exact RegsButEvents.refl.raise.post
  have hsa : RegsBut s a [R.LINK_STATUS] := by rw [ha]; exact RegsBut.refl.setFld
  have hab : RegsBut a b [] := by rw [hb]; exact RegsBut.refl.of_regs rfl
  have htrained : RegsBut x x.panelTrained [R.LINK_STATUS, R.HVD_PANEL_STATUS] := by
    have hmode : RegsBut x (if x.domOn dLINK then x.sendMode 0 else x) [R.LINK_STATUS] := .ite (x.regsBut_sendMode 0) .refl
    exact .ite (hmode.trans RegsBut.refl.setFld) .refl
  rw [hform]
  split
  · rfl
  · rw [htrained k hk, hevents k (by simp) (eventReg_of_low (of_decide_eq_true hlow)), hab k (by simp), hsa k fun h => hk (by simp at h; simp [h])]

theorem State.each_reaches {α : Type} {P : α → State → Prop} {f : State → α → State} (hit : ∀ u x, P x (f u x))
    (keep : ∀ u x y, P x u → P x (f u y)) {xs : List α} : ∀ x ∈ xs, P x (s.each xs f) := by
  induction xs generalizing s with
  | nil => exact fun x hx => absurd hx (by simp)
  | cons y xs ih =>
    have hkept (x : α) (u : State) (h : P x u) (ys : List α) : P x (u.each ys f) := by
      induction ys generalizing u with
      | nil => exact h
      | cons z ys ih => exact ih (f u z) (keep u x z h)
    intro x hx
    obtain rfl | hx := List.mem_cons.mp hx
    · exact hkept x (f s x) (hit s x) xs
    · exact ih x hx

/-- Every lane is OFF after training stops, and nothing else of the part's registers but what its end changes. -/
theorem State.trainStop_spec (s : State) {u : State} (hu : u = s.trainStop) :
    (∀ n, n < 48 → u.laneState n = laneOFF) ∧
    ∀ k, k < 0x41204 → k ∉ [R.LINK_STATUS, R.HVD_PANEL_STATUS] → lowReg k = true → u.rd k = s.rd k := by
  obtain ⟨a, ha⟩ : ∃ a, a = s.each (List.range lanes) State.laneStopped := ⟨_, rfl⟩
  have hform : u = a.trainEnd := by rw [hu, ha, State.trainStop_eq]
  refine ⟨fun n hn => ?_, fun k hk hne hlow => ?_⟩
  · have hreach : a.laneState n = laneOFF := by
      rw [ha]
      refine State.each_reaches (P := fun m (u : State) => u.laneState m = laneOFF) (fun u m => ?_) (fun u m k h => ?_) n (List.mem_range.mpr hn)
      · exact (State.fld_setFld_same u (F.LINK_LANE_STATE_STATE m) _ (by dsimp only; omega)).trans rfl
      · by_cases hmk : k = m
        · rw [hmk]
          exact (State.fld_setFld_same u (F.LINK_LANE_STATE_STATE m) _ (by dsimp only; omega)).trans rfl
        · exact (State.fld_setFld_other u (F.LINK_LANE_STATE_STATE k) (F.LINK_LANE_STATE_STATE m) _ (.inl (by dsimp only; omega))).trans h
    have hrd : u.rd (R.LINK_LANE_STATE n) = a.rd (R.LINK_LANE_STATE n) := by
      rw [hform]
      refine a.rd_trainEnd ?_ ?_
      · show 0x41204 + 0x10 * n ∉ [0x41118, 0x43104]
        rw [List.mem_cons, List.mem_singleton]
        omega
      · refine decide_eq_true ⟨?_, ?_, ?_, ?_⟩ <;> (dsimp only [R.LINK_LANE_STATE, R.PCIEX_LINK_STATUS, R.EVT_LOST_TOTAL]; omega)
    rw [← hreach]
    exact congrArg (fun w => bitsOf w 0 2) hrd
  · rw [hform, a.rd_trainEnd hne hlow, ha]
    exact State.get_each (fun t : State => t.rd k) fun t n _ => State.rd_setFld_other t (F.LINK_LANE_STATE_STATE n) _ (by dsimp only; omega)

end

/-- Settles O56: one equation for each answer of DRAM and of Foreman's start, the state after the full-scope sequence, and what boundary scan
leaves of scan and of the lanes. -/
theorem startupAndFullScopeAct : Obligations.StartupAndFullScopeAct := by
  unfold Obligations.StartupAndFullScopeAct
  intro s hruns
  have hflow (f : State → State) : Host.Outcome.next (s.flow f) = (.next (s.after (f s)) : Host.Outcome State Fault Refusal) :=
    congrArg Host.Outcome.next (State.flow_of_runs hruns _)
  have hnext {a b : State} (h : a = b) : Host.Outcome.next (s.after a) = (.next (s.after b) : Host.Outcome State Fault Refusal) := by rw [h]
  refine ⟨fun hstep => ⟨(hflow _).trans (hnext (if_pos hstep)), fun ha => ?again, fun ha => ?failed⟩, fun hstep ok => (hflow _).trans (hnext (if_neg hstep)),
    fun u w hu hw => ⟨fun hon => ?noFore, fun hon => ?fore⟩, fun hon => ⟨_, rfl, State.enterRecovery_spec hon rfl⟩,
    fun v hs => ⟨fun h0 h1 hk hfull => ?full, fun h => ?noFull⟩, ?halt, fun h => (hflow _).trans (hnext (if_pos h)),
    fun h => ⟨_, (hflow _).trans (hnext (if_neg h)), s.fullReset_spec rfl⟩, fun x y z hx hy hz => ?scan⟩
  case again => exact (hflow _).trans (hnext ((if_pos hstep).trans ((if_neg (by decide)).trans (if_pos (by simp [ha])))))
  case failed => exact (hflow _).trans (hnext ((if_pos hstep).trans ((if_neg (by decide)).trans (if_neg (by simp [ha])))))
  case noFore => rw [State.bootFirmware_eq hu hw, if_pos hon]
  case fore => rw [State.bootFirmware_eq hu hw, if_neg (by simp [hon])]
  case full =>
    refine (hflow _).trans (hnext ((hostWriteTo_of_serves s _ _ hs).trans ((if_pos h1).trans ((State.resetCtrl_full h0 h1 hk).trans ?_))))
    exact if_neg (by simp [hfull])
  case noFull =>
    refine (hflow _).trans (hnext ((hostWriteTo_of_serves s _ _ hs).trans ?_))
    by_cases h1 : bitOf v 1 = true
    · refine (if_pos h1).trans ?_
      by_cases hgo : bitOf v 0 = false ∨ bitsOf v 8 8 ≠ 0xA5
      · exact State.resetCtrl_none hgo
      · obtain ⟨h0, hk⟩ := not_or.mp hgo
        have hfull : s.boot.full ≠ 0 := by
          obtain h | h | h | h := h
          · exact absurd h h0
          · exact absurd h1 (by simp [h])
          · exact absurd h hk
          · exact h
        exact (State.resetCtrl_full (by simpa using h0) h1 (not_not.mp hk)).trans (if_pos (by simpa using hfull))
    · exact if_neg h1
  case halt =>
    unfold State.labelHalt
    simp only [Bool.not_eq_true', List.isEmpty_iff]
  case scan =>
    obtain ⟨hrun, hrunning, hxregs⟩ := s.scanHalted_spec hx
    have hyrd (k : Nat) (h1 : k < 0x41204) (h2 : k ∉ [R.LINK_STATUS, R.HVD_PANEL_STATUS]) (h3 : lowReg k = true) : y.rd k = x.rd k := by
      rw [hy]
      split
      · exact (x.trainStop_spec rfl).2 k h1 h2 h3
      · rfl
    have hyfld (f : Fld) (h1 : f.off < 0x41204) (h2 : f.off ∉ [R.LINK_STATUS, R.HVD_PANEL_STATUS]) (h3 : lowReg f.off = true) : y.fld f = x.fld f :=
      congrArg (fun w => bitsOf w f.lo f.w) (hyrd f.off h1 h2 h3)
    have hxon : x.domOn = s.domOn := hxregs.domOn (by decide)
    have hyon : y.domOn dPANEL = s.domOn dPANEL := by
      rw [State.domOn, State.domState, hyfld F.PWR_STATE_STATE (by decide) (by decide) (by decide), ← State.domState, ← State.domOn, hxon]
    have hzregs : RegsBut y z [R.GATE_CTRL] := by rw [hz]; exact .ite RegsBut.refl.setFld .refl
    refine ⟨(hflow _).trans (hnext ?_), fun _ => ⟨?_, ?_, fun hon n hn => ?_⟩⟩
    · have hmodel : s.boundaryScan = if y.domOn dPANEL then y.setForce 0 else y := by
        rw [hy, ← hxon, hx]
        rfl
      rw [hmodel, hyon, hz]
      rfl
    · rw [hzregs.bit (by decide)]
      exact (congrArg (· == 1) (hyfld F.SCAN_CTRL_RUN (by decide) (by decide) (by decide))).trans hrun
    · rw [hzregs.bit (by decide)]
      exact (congrArg (· == 1) (hyfld F.SCAN_STATUS_RUNNING (by decide) (by decide) (by decide))).trans hrunning
    · have hlane : z.laneState n = y.laneState n := hzregs.fld (by show 0x41204 + 0x10 * n ∉ [0x42100]; rw [List.mem_singleton]; omega)
      rw [hlane, hy, if_pos hon]
      exact (x.trainStop_spec rfl).1 n hn

end Sys2Proof.Machine

/-! ### Watchdogs, port timeouts and fatal causes (R351, R364 to R372) -/

namespace Sys2Proof.Machine

-- A proof that fills in an argument by its default tactic waits for all that stands before it: checked in order, none waits.
set_option Elab.async false

section
variable {s t : State} {p page : Nat}

theorem RegsBut.frameNo {l : List Nat} (h : RegsBut s t l) (hl : R.SCAN_FRAME_SEQ ∉ l) : t.frameNo = (s.rd R.SCAN_FRAME_SEQ).toNat :=
  congrArg BitVec.toNat (h _ hl)

/-! #### Foreman's watchdog, and a trial's end -/

theorem State.foreWdog_none (h : s.domOn dFORE = false ∨ s.boot.foreman = false) : s.foreWdog = s := by
  refine if_pos ?_
  obtain h | h := h <;> simp [h]

theorem State.foreWdog_eq (h : s.domOn dFORE = true) (hf : s.boot.foreman = true) :
    s.foreWdog = (s.setFld F.CHIP_RESET_CAUSE_CAUSES (s.fld F.CHIP_RESET_CAUSE_CAUSES ||| 32)).foreRestart 1 :=
  if_neg (by simp [h, hf])

/-- The seconds that a trial lasts. -/
def State.trialSecs (s : State) : Word :=
  match s.boot.record with
  | some r => s.recWord r 2
  | none => 0

theorem State.trialTimeout_none (h : s.domOn dFORE = false ∨ s.boot.foreman = false ∨ s.boot.trial = false ∨ s.trialSecs = 0) :
    s.trialTimeout = s := by
  refine if_pos ?_
  show (!s.domOn dFORE || !s.boot.foreman || !s.boot.trial || s.trialSecs == 0) = true
  obtain h | h | h | h := h <;> simp [h]

theorem State.trialTimeout_eq (h : s.domOn dFORE = true) (hf : s.boot.foreman = true) (ht : s.boot.trial = true) (hs : s.trialSecs ≠ 0) :
    s.trialTimeout = s.foreRestart 2 := by
  refine if_neg ?_
  show ¬(!s.domOn dFORE || !s.boot.foreman || !s.boot.trial || s.trialSecs == 0) = true
  simpa [h, hf, ht] using hs

theorem State.restarted_spec (s : State) {u : State} (hu : u = (s.bump F.FORE_RESTARTS_COUNT).raise 0x06 1) :
    u.fld F.FORE_RESTARTS_COUNT = min (s.fld F.FORE_RESTARTS_COUNT + 1) (2 ^ 32 - 1) ∧ u.rd 0x600C = s.rd 0x600C ||| 2#32 ∧
    RegsBut s u [R.FORE_RESTARTS, 0x600C] ∧ Frame [.regs, .sent, .pcie, .summaryOwed] s u := by
  obtain ⟨a, ha⟩ : ∃ a, a = s.bump F.FORE_RESTARTS_COUNT := ⟨_, rfl⟩
  rw [← ha] at hu
  have har : RegsBut s a [R.FORE_RESTARTS] := by rw [ha]; exact RegsBut.refl.bump
  have hur : RegsBut a u [0x600C] := by rw [hu]; exact RegsBut.refl.raise
  refine ⟨?_, ?_, har.trans hur, ?_⟩
  · rw [hur.fld (by decide), ha, State.fld_bump_same _ _ _ (by decide)]
  · rw [hu, State.rd_raise_same, har _ (by decide)]
    rfl
  · rw [hu, ha]
    exact Frame.refl.bump.raise

/-! #### The watchdog and the timeouts of a block -/

theorem State.blockWdog_none (h : pageUsed page = false ∨ s.domOn (pageDomain page) = false) : s.blockWdog page = s ∧ s.portTimeout page = s := by
  refine ⟨if_pos ?_, if_pos ?_⟩ <;> (obtain h | h := h <;> simp [h])

theorem State.blockWdog_eq (hp : pageUsed page = true) (hd : s.domOn (pageDomain page) = true) {u : State} (hu : u = s.blockError page 3) :
    s.blockWdog page =
      if page = 0x06 then u.foreWdog
      else if pageRegion page = 1 then u.hostSide 6
      else if page = 0x05 || page = 0x07 || page = 0x08 || page = 0x0B then u.blockRestart page
      else if page = 0x44 then u.labelHalt
      else u.fatalPath fcWDOG page (pageRegion page) page := by
  rw [hu]
  exact if_neg (by simp [hp, hd])

theorem State.portTimeout_eq (hp : pageUsed page = true) (hd : s.domOn (pageDomain page) = true) {x y : State} (hx : x = s.blockError page 4)
    (hy : y = { x with boot := { x.boot with timeouts := (pageRegion page, x.keepCycles) :: x.boot.timeouts } }) :
    s.portTimeout page =
      if 6 ≤ pageRegion page then x
      else if y.fld F.CHIP_ISOLATE_LIMIT_COUNT ≤ y.timeoutCount (pageRegion page) ∧
          y.fld F.CHIP_ERR_SUMMARY_ISOLATED / 2 ^ pageRegion page % 2 = 0 then y.isolate (pageRegion page)
      else y := by
  have hgo : s.portTimeout page =
      if 6 ≤ pageRegion page then x
      else if y.fld F.CHIP_ISOLATE_LIMIT_COUNT ≤ y.timeoutCount (pageRegion page) &&
          y.fld F.CHIP_ERR_SUMMARY_ISOLATED / 2 ^ pageRegion page % 2 = 0 then y.isolate (pageRegion page)
      else y := by
    rw [hy, hx]
    exact if_neg (by simp [hp, hd])
  rw [hgo]
  simp only [Bool.and_eq_true, decide_eq_true_eq]

/-! #### A block's error, and a region that is isolated -/

/-- The error's bit and its count, and a number drawn for its detail. -/
def State.errorShown (s : State) (page kind : Nat) : State :=
  let a := s.wr (page * 0x1000 + 0x18) (s.rd (page * 0x1000 + 0x18) ||| BitVec.ofNat 32 (2 ^ kind))
  ((a.bump (hdrFld page 0x20 0 32)).raise 0x00 0).draw.2

theorem State.errorShown_spec (s : State) (page kind : Nat) {u : State} (hu : u = s.errorShown page kind) :
    u.rd (page * 0x1000 + 0x18) = s.rd (page * 0x1000 + 0x18) ||| BitVec.ofNat 32 (2 ^ kind) ∧
    u.fld (hdrFld page 0x20 0 32) = min (s.fld (hdrFld page 0x20 0 32) + 1) (2 ^ 32 - 1) ∧ u.rd 0x000C = s.rd 0x000C ||| 1#32 ∧
    RegsBut s u [page * 0x1000 + 0x18, page * 0x1000 + 0x20, 0x000C] ∧
    u = { s with regs := u.regs, sent := u.sent, pcie := u.pcie, summaryOwed := u.summaryOwed, freeCtr := s.freeCtr + 1 } := by
  obtain ⟨a, ha⟩ : ∃ a, a = s.wr (page * 0x1000 + 0x18) (s.rd (page * 0x1000 + 0x18) ||| BitVec.ofNat 32 (2 ^ kind)) := ⟨_, rfl⟩
  obtain ⟨b, hb⟩ : ∃ b, b = a.bump (hdrFld page 0x20 0 32) := ⟨_, rfl⟩
  obtain ⟨c, hc⟩ : ∃ c, c = b.raise 0x00 0 := ⟨_, rfl⟩
  have hform : u = { c with freeCtr := c.freeCtr + 1 } := by rw [hu, hc, hb, ha]; rfl
  have har : RegsBut s a [page * 0x1000 + 0x18] := by rw [ha]; exact RegsBut.refl.wr
  have hbr : RegsBut a b [page * 0x1000 + 0x20] := by rw [hb]; exact RegsBut.refl.bump (by simp [hdrFld])
  have hcr : RegsBut b c [0x000C] := by rw [hc]; exact RegsBut.refl.raise
  have hcu : RegsBut c u [] := by rw [hform]; exact RegsBut.refl.of_regs rfl
  have hframe : Frame [.regs, .sent, .pcie, .summaryOwed] s c := by rw [hc, hb, ha]; exact Frame.refl.wr.bump.raise
  refine ⟨?_, ?_, ?_, ((har.trans hbr).trans hcr).trans hcu, ?_⟩
  · rw [hcu _ (by simp), hcr _ (by rw [List.mem_singleton]; omega), hbr _ (by rw [List.mem_singleton]; omega), ha, State.rd_wr_same]
  · rw [hcu.fld (by simp), hcr.fld (by simp only [hdrFld]; rw [List.mem_singleton]; omega), hb, State.fld_bump_same _ _ _ (by simp [hdrFld]),
      har.fld (by simp only [hdrFld]; rw [List.mem_singleton]; omega)]
    rfl
  · rw [hcu _ (by simp), hc, State.rd_raise_same, (har.trans hbr) _ (by simp)]
    rfl
  · have hfree : c.freeCtr = s.freeCtr := hframe.get State.freeCtr
    rw [hform, hfree, show c = s.taking _ c from hframe]
    rfl

theorem State.blockError_eq (s : State) (page kind : Nat) : s.blockError page kind =
    (s.errorShown page kind).post F.CHIP_ERR_EVT_RING 0x0920
      [(8, page), (3, kind), (32, (Config.freeWord s.freeCtr).toNat), (32, (s.rd R.SCAN_FRAME_SEQ).toNat)] := by
  obtain ⟨a, ha⟩ : ∃ a, a = (s.wr (page * 0x1000 + 0x18) (s.rd (page * 0x1000 + 0x18) ||| BitVec.ofNat 32 (2 ^ kind))).bump
    (hdrFld page 0x20 0 32) := ⟨_, rfl⟩
  have hregs : RegsBut s a [page * 0x1000 + 0x18, page * 0x1000 + 0x20] := by rw [ha]; exact RegsBut.refl.wr.bump (by simp [hdrFld])
  have hframe : Frame [.regs, .sent, .pcie, .summaryOwed] s (a.raise 0x00 0) := by rw [ha]; exact Frame.refl.wr.bump.raise
  have hnot : R.SCAN_FRAME_SEQ ∉ [page * 0x1000 + 0x18, page * 0x1000 + 0x20] := by
    show 0x20124 ∉ _
    rw [List.mem_cons, List.mem_singleton]
    omega
  have hfree : (a.raise 0x00 0).freeCtr = s.freeCtr := hframe.get State.freeCtr
  rw [← hregs.frameNo hnot, ← hfree, ha]
  rfl

/-- A region is isolated. -/
def State.regionCut (s : State) (region : Nat) : State :=
  (s.setFld F.CHIP_ERR_SUMMARY_ISOLATED (s.fld F.CHIP_ERR_SUMMARY_ISOLATED ||| 2 ^ region)).raise 0x00 1

theorem State.regionCut_spec (s : State) {region : Nat} (h : region < 6) {u : State} (hu : u = s.regionCut region) :
    u.fld F.CHIP_ERR_SUMMARY_ISOLATED = s.fld F.CHIP_ERR_SUMMARY_ISOLATED ||| 2 ^ region ∧ u.rd 0x000C = s.rd 0x000C ||| 2#32 ∧
    RegsBut s u [R.CHIP_ERR_SUMMARY, 0x000C] ∧ Frame [.regs, .sent, .pcie, .summaryOwed] s u := by
  obtain ⟨a, ha⟩ : ∃ a, a = s.setFld F.CHIP_ERR_SUMMARY_ISOLATED (s.fld F.CHIP_ERR_SUMMARY_ISOLATED ||| 2 ^ region) := ⟨_, rfl⟩
  have hform : u = a.raise 0x00 1 := by rw [hu, ha]; rfl
  have har : RegsBut s a [R.CHIP_ERR_SUMMARY] := by rw [ha]; exact RegsBut.refl.setFld
  have hur : RegsBut a u [0x000C] := by rw [hform]; exact RegsBut.refl.raise
  refine ⟨?_, ?_, har.trans hur, ?_⟩
  · rw [hur.fld (by decide), ha, State.fld_setFld_same _ _ _ (by decide)]
    exact Nat.mod_eq_of_lt (Nat.or_lt_two_pow (s.fld_lt _) (Nat.pow_lt_pow_right (by decide) h))
  · rw [hform, State.rd_raise_same, har _ (by decide)]
    rfl
  · rw [hform, ha]
    exact Frame.refl.setFld.raise

theorem State.isolate_eq (s : State) (region : Nat) {w : State}
    (hw : w = (s.regionCut region).post F.CHIP_ERR_EVT_RING 0x0921 [(3, region), (32, (s.rd R.SCAN_FRAME_SEQ).toNat)]) :
    s.isolate region = if region = 1 then w.hostSide 6 else w.fatalPath fcISOLATED region region 0xFF := by
  have hregs : RegsBut s (s.setFld F.CHIP_ERR_SUMMARY_ISOLATED (s.fld F.CHIP_ERR_SUMMARY_ISOLATED ||| 2 ^ region)) [R.CHIP_ERR_SUMMARY] :=
    RegsBut.refl.setFld
  rw [hw, ← hregs.frameNo (by decide)]
  rfl

/-! #### The fatal path -/

theorem State.fatalShown_spec (s : State) {cause : Nat} (hc : cause < 16) {a : State}
    (ha : a = (s.setFld F.CHIP_STATE_FATAL 1).setFld F.CHIP_STATE_CAUSE cause) :
    a.fatal = true ∧ a.fld F.CHIP_STATE_CAUSE = cause ∧ RegsBut s a [R.CHIP_STATE] ∧ Frame [.regs] s a := by
  rw [ha]
  refine ⟨?_, ?_, RegsBut.refl.setFld.setFld, Frame.refl.setFld.setFld⟩
  · rw [State.fatal, State.bit_setFld_other (by decide), State.bit_setFld_same (by decide)]
    rfl
  · rw [State.fld_setFld_same _ _ _ (by decide)]
    exact Nat.mod_eq_of_lt hc

theorem State.frame_fatalRecord (s : State) (cause detail region page panel : Nat) :
    Frame [.pstore, .freeCtr] s (s.fatalRecord cause detail region page panel) := by
  unfold State.fatalRecord
  refine Frame.each ?_ fun _ _ _ h => h.persWrite
  split
  · exact .refl
  · exact Frame.refl.draw

theorem State.fatalPath_again {cause detail region page panel : Nat} (hp : panel = if s.domOn dPANEL then s.panelState else pOFF)
    (h : s.fatal = true) : s.fatalPath cause detail region page = s.fatalRecord cause detail region page panel := by
  rw [hp]
  exact if_pos h

/-- What the fatal path leaves, once the record has been written: the event, AER, and what waits for the panel. -/
def State.fatalWaits (s : State) (region : Nat) : State :=
  { s with boot := { s.boot with fatalWait := true, fatalCkpt := region != 0 && region != 2 } }

theorem State.fatalPath_first {cause detail region page panel : Nat} (hp : panel = if s.domOn dPANEL then s.panelState else pOFF)
    (h : s.fatal = false) {a b c d e f : State} (ha : a = (s.setFld F.CHIP_STATE_FATAL 1).setFld F.CHIP_STATE_CAUSE cause)
    (hb : b = (a.panelDown cauFATAL true).labelPfw) (hc : c = b.stopCages)
    (hd : d = (c.fatalRecord cause detail region page panel).post F.CHIP_ERR_EVT_RING 0x0F00
      [(4, cause), (3, region), (8, page), (32, detail), (32, (c.rd R.SCAN_FRAME_SEQ).toNat)])
    (he : e = if d.domOn dHOST then d.aerUncorr 22 else d) (hf : f = e.fatalWaits region) :
    s.fatalPath cause detail region page = if f.panelDark then f.fatalEnd else f := by
  obtain ⟨g, hg⟩ : ∃ g, g = c.fatalRecord cause detail region page panel := ⟨_, rfl⟩
  have hrecord : Frame [.pstore, .freeCtr] c g := by rw [hg]; exact c.frame_fatalRecord ..
  have hregs : (c.fatalRecord cause detail region page panel).regs = c.regs := by rw [← hg, hrecord.get State.regs]
  have hframe : (c.fatalRecord cause detail region page panel).frameNo = (c.rd R.SCAN_FRAME_SEQ).toNat := by
    rw [State.frameNo, State.rd, hregs, State.rd]
  rw [← hframe, hc, hb, ha, hp] at hd
  unfold State.fatalPath
  dsimp only
  rw [if_neg (by simp [h]), ← hd, ← he]
  unfold State.fatalWaits at hf
  rw [← hf]

/-! #### Temperature -/

/-- A reading is shown, and the highest one. -/
def State.tempShown (s : State) (code : Nat) : State :=
  let a := (s.setFld F.TMON_TJ_TEMP code).setFld F.TMON_TJ_VALID 1
  if !s.bit F.TMON_TJ_VALID || signedOf 12 (a.fld F.TMON_TJ_MAX_TEMP) < signedOf 12 code then a.setFld F.TMON_TJ_MAX_TEMP code else a

theorem State.tempShown_spec (s : State) {code : Nat} (hcode : code < 2 ^ 12) {u : State} (hu : u = s.tempShown code) :
    u.fld F.TMON_TJ_TEMP = code ∧ u.bit F.TMON_TJ_VALID = true ∧
    u.fld F.TMON_TJ_MAX_TEMP = (if s.bit F.TMON_TJ_VALID = false ∨ signedOf 12 (s.fld F.TMON_TJ_MAX_TEMP) < signedOf 12 code then code
      else s.fld F.TMON_TJ_MAX_TEMP) ∧
    RegsBut s u [R.TMON_TJ, R.TMON_TJ_MAX] ∧ Frame [.regs] s u := by
  obtain ⟨a, ha⟩ : ∃ a, a = (s.setFld F.TMON_TJ_TEMP code).setFld F.TMON_TJ_VALID 1 := ⟨_, rfl⟩
  have har : RegsBut s a [R.TMON_TJ] := by rw [ha]; exact RegsBut.refl.setFld.setFld
  have hform : u = if s.bit F.TMON_TJ_VALID = false ∨ signedOf 12 (s.fld F.TMON_TJ_MAX_TEMP) < signedOf 12 code then
      a.setFld F.TMON_TJ_MAX_TEMP code else a := by
    rw [hu, ← har.fld (g := F.TMON_TJ_MAX_TEMP) (by decide), ha]
    refine if_congr ?_ rfl rfl
    simp
  have hur : RegsBut a u [R.TMON_TJ_MAX] := by rw [hform]; exact .ite RegsBut.refl.setFld .refl
  refine ⟨?_, ?_, ?_, har.trans hur, ?_⟩
  · rw [hur.fld (by decide), ha, State.fld_setFld_other _ _ _ _ (by decide), State.fld_setFld_same _ _ _ (by decide)]
    exact Nat.mod_eq_of_lt hcode
  · rw [hur.bit (by decide), ha, State.bit_setFld_same (by decide)]
    rfl
  · rw [hform]
    split
    · rw [State.fld_setFld_same _ _ _ (by decide)]
      exact Nat.mod_eq_of_lt hcode
    · exact har.fld (by decide)
  · rw [hform, ha]
    exact .ite Frame.refl.setFld.setFld.setFld Frame.refl.setFld.setFld

/-- A reading at the warning limit is reported once, until one falls 5 °C below it. -/
def State.tempWarned (u : State) (code : Nat) (t warn : Int) : State :=
  if warn ≤ t ∧ u.boot.warned = false then
    (({ u with boot := { u.boot with warned := true } } : State).raise 0x05 0).post F.CHIP_ERR_EVT_RING 0x0922
      [(12, code), (32, (u.rd R.SCAN_FRAME_SEQ).toNat)]
  else if t ≤ warn - 40 then { u with boot := { u.boot with warned := false } }
  else u

theorem State.tempWarned_spec (u : State) (code : Nat) (t warn : Int) {v : State} (hv : v = u.tempWarned code t warn) :
    v.fld F.TMON_FATAL_LIM_DEG = u.fld F.TMON_FATAL_LIM_DEG ∧ v.boot.hot = u.boot.hot := by
  obtain ⟨a, ha⟩ : ∃ a : State, a = { u with boot := { u.boot with warned := true } } := ⟨_, rfl⟩
  obtain ⟨b, hb⟩ : ∃ b, b = (a.raise 0x05 0).post F.CHIP_ERR_EVT_RING 0x0922 [(12, code), (32, (u.rd R.SCAN_FRAME_SEQ).toNat)] := ⟨_, rfl⟩
  have hform : v = if warn ≤ t ∧ u.boot.warned = false then b
      else if t ≤ warn - 40 then { u with boot := { u.boot with warned := false } } else u := by rw [hv, hb, ha]; rfl
  have hevents : RegsButEvents (a.fld F.CHIP_ERR_EVT_RING) a b [] := by rw [hb]; exact RegsButEvents.refl.raise.post
  have hframe : Frame [.regs, .sent, .pcie, .summaryOwed, .rings] a b := by rw [hb]; exact Frame.refl.raise.post
  rw [hform]
  split
  · refine ⟨(hevents.fld (by simp) (eventReg_of_low (by decide))).trans (by rw [ha]; rfl), ?_⟩
    rw [hframe.get State.boot, ha]
  · split <;> exact ⟨rfl, rfl⟩

theorem State.tmonReading_eq (s : State) (code : Nat) {t warn : Int} {u v w : State} (ht : t = signedOf 12 code)
    (hwarn : warn = 8 * (s.fld F.TMON_WARN_DEG : Int)) (hu : u = s.tempShown code) (hv : v = u.tempWarned code t warn)
    (hw : w = { v with boot := { v.boot with hot := if 8 * (s.fld F.TMON_FATAL_LIM_DEG : Int) ≤ t then s.boot.hot + 1 else 0 } }) :
    s.tmonReading code = if 8 * (s.fld F.TMON_FATAL_LIM_DEG : Int) ≤ t ∧ s.boot.hot = 7 then w.fatalPath fcOVERTEMP code 0 0x05 else w := by
  have huregs : RegsBut s u [R.TMON_TJ, R.TMON_TJ_MAX] := by
    rw [hu]
    exact .ite RegsBut.refl.setFld.setFld.setFld RegsBut.refl.setFld.setFld
  have huframe : Frame [.regs] s u := by
    rw [hu]
    exact .ite Frame.refl.setFld.setFld.setFld Frame.refl.setFld.setFld
  obtain ⟨hlim, hhot⟩ := u.tempWarned_spec code t warn hv
  rw [huregs.fld (by decide)] at hlim
  rw [huframe.get State.boot] at hhot
  have hraised : (({ u with boot := { u.boot with warned := true } } : State).raise 0x05 0).frameNo = (u.rd R.SCAN_FRAME_SEQ).toNat := by
    have hregs : RegsBut { u with boot := { u.boot with warned := true } }
      (({ u with boot := { u.boot with warned := true } } : State).raise 0x05 0) [0x500C] := RegsBut.refl.raise
    exact hregs.frameNo (by decide)
  have hv' : v = if warn ≤ t && !u.boot.warned then
      (({ u with boot := { u.boot with warned := true } } : State).raise 0x05 0).post F.CHIP_ERR_EVT_RING 0x0922
        [(12, code), (32, (({ u with boot := { u.boot with warned := true } } : State).raise 0x05 0).frameNo)]
      else if t ≤ warn - 40 then { u with boot := { u.boot with warned := false } } else u := by
    rw [hv, hraised]
    exact if_congr (by simp) rfl rfl
  unfold State.tempShown at hu
  unfold State.tmonReading
  dsimp only at hu ⊢
  rw [← hu, huregs.fld (by decide), ← ht, ← hwarn, ← hv', hlim, hhot]
  by_cases hle : 8 * (s.fld F.TMON_FATAL_LIM_DEG : Int) ≤ t
  · rw [if_pos hle] at hw ⊢
    rw [← hw]
    exact if_congr (by simp [hle]) rfl rfl
  · rw [if_neg hle] at hw ⊢
    rw [← hw, if_neg fun h => hle h.1]

end

/-- Settles O57: one equation for each watchdog, timeout and error, and the stages of the fatal path one after the other. -/
theorem errorsAndFatalCausesAct : Obligations.ErrorsAndFatalCausesAct := by
  unfold Obligations.ErrorsAndFatalCausesAct
  refine ⟨fun s hruns => ?running, fun s page kind _ => ?error, fun s region hr => ?isolate, fun s cause detail region page panel hp hc => ?path,
    fun s v hs => ?force, fun s off o hruns ho => ?parity, fun s code t warn hruns ht hwarn => ?reading⟩
  case running =>
    have hflow (f : State → State) : Host.Outcome.next (s.flow f) = (.next (s.after (f s)) : Host.Outcome State Fault Refusal) :=
      congrArg Host.Outcome.next (State.flow_of_runs hruns _)
    have hnext {a b : State} (h : a = b) : Host.Outcome.next (s.after a) = (.next (s.after b) : Host.Outcome State Fault Refusal) := by rw [h]
    refine ⟨fun h => (hflow _).trans (hnext (State.foreWdog_none h)), fun hon hf => (hflow _).trans (hnext (State.foreWdog_eq hon hf)),
      fun secs hsecs => ?_,
      fun cause w v hw hv => ?_, fun cause => ⟨_, rfl, s.restarted_spec rfl⟩, fun page => ⟨fun h => ?_, fun hp hd p u x y hpage hu hx hy => ?_⟩⟩
    · have htrial : secs = s.trialSecs := hsecs
      rw [htrial]
      exact ⟨fun h => (hflow _).trans (hnext (State.trialTimeout_none h)),
        fun hon hf ht hs => (hflow _).trans (hnext (State.trialTimeout_eq hon hf ht hs))⟩
    · rw [hv, hw]
      rfl
    · obtain ⟨hwdog, htime⟩ := State.blockWdog_none h
      exact ⟨(hflow _).trans (hnext hwdog), (hflow _).trans (hnext htime)⟩
    · rw [← hpage] at hp hd
      have hwdog := State.blockWdog_eq hp hd hu
      have htime := State.portTimeout_eq hp hd hx hy
      have hexecw : exec (.blockWdogExpire page) s = .next (s.after (s.blockWdog p)) := by rw [hpage]; exact hflow _
      have hexect : exec (.portTimeout page) s = .next (s.after (s.portTimeout p)) := by rw [hpage]; exact hflow _
      rw [hexecw, hexect, hwdog, htime]
      refine ⟨fun h => by rw [if_pos h], fun h h1 => by rw [if_neg h, if_pos h1], fun h => ?_, fun h => ?_, fun h1 h => ?_,
        fun h => by rw [if_pos h], fun h => by rw [if_neg (Nat.not_le.mpr h)]⟩
      · simp only [List.mem_cons, List.not_mem_nil, or_false] at h
        obtain rfl | rfl | rfl | rfl := h <;> rfl
      · rw [h]
        rfl
      · simp only [List.mem_cons, List.not_mem_nil, or_false, not_or] at h
        obtain ⟨h5, h6, h7, h8, hB, h44⟩ := h
        rw [if_neg h6, if_neg h1, if_neg (by simp [h5, h7, h8, hB]), if_neg h44]
  case error =>
    obtain ⟨h1, h2, h3, hregs, hform⟩ := s.errorShown_spec page kind rfl
    exact ⟨_, h1, h2, h3, hregs, hform, s.blockError_eq page kind⟩
  case isolate =>
    obtain ⟨h1, h2, hregs, hframe⟩ := s.regionCut_spec hr rfl
    exact ⟨_, h1, h2, hregs, hframe, fun w hw => s.isolate_eq region hw⟩
  case path =>
    refine ⟨State.fatalPath_again hp, fun h => ?_⟩
    obtain ⟨a, ha⟩ : ∃ a, a = (s.setFld F.CHIP_STATE_FATAL 1).setFld F.CHIP_STATE_CAUSE cause := ⟨_, rfl⟩
    obtain ⟨hfatal, hcause, hregs, hframe⟩ := s.fatalShown_spec hc ha
    exact ⟨a, _, _, _, _, _, hfatal, hcause, hregs, hframe, rfl, rfl, rfl, rfl, rfl, State.fatalPath_first hp h ha rfl rfl rfl rfl rfl⟩
  case force =>
    have hexec : exec (.fatalForce v) s = .next (s.fatalForce v) := congrArg Host.Outcome.next (hostWriteTo_of_serves s _ _ hs)
    rw [hexec]
    refine ⟨fun h0 hk => congrArg Host.Outcome.next (if_pos (by simp [h0, hk])), fun h => congrArg Host.Outcome.next (if_neg ?_)⟩
    obtain h | h := h <;> simp [h]
  case parity =>
    have hcold : s.boot.step ≠ .cold := by simpa [State.runs] using hruns
    have hexec : exec (.regParityError off) s = .next (s.parityError o) := by rw [ho]; exact congrArg Host.Outcome.next (if_neg hcold)
    rw [hexec]
    refine ⟨fun h => congrArg Host.Outcome.next (if_pos ?_), fun hd hm => ?_⟩
    · obtain h | h := h <;> simp [h]
    · obtain ⟨a, ha⟩ : ∃ a : State, a = { s with freeCtr := s.freeCtr + 1 } := ⟨_, rfl⟩
      obtain ⟨u, hu⟩ : ∃ u, u = a.wr o (Config.freeWord s.freeCtr &&& fieldMask o) := ⟨_, rfl⟩
      have hsa : RegsBut s a [] := by rw [ha]; exact RegsBut.refl.of_regs rfl
      have hframe : Frame [.regs] a u := by rw [hu]; exact Frame.refl.wr
      refine ⟨u, by rw [hu, State.rd_wr_same], ?_, ?_, fun w hw => ?_⟩
      · have hau : RegsBut a u [o] := by rw [hu]; exact RegsBut.refl.wr
        exact hsa.trans hau
      · rw [show u = a.taking _ u from hframe, ha]
        rfl
      · rw [hw, hu, ha]
        exact congrArg Host.Outcome.next (if_neg (by simpa [hd] using hm))
  case reading =>
    have hcold : s.boot.step ≠ .cold := by simpa [State.runs] using hruns
    have hexec : exec (.tmonReading code) s = .next (s.tmonReading code.toNat) := congrArg Host.Outcome.next (if_neg hcold)
    obtain ⟨u, hu⟩ : ∃ u, u = s.tempShown code.toNat := ⟨_, rfl⟩
    obtain ⟨v, hv⟩ : ∃ v, v = u.tempWarned code.toNat t warn := ⟨_, rfl⟩
    obtain ⟨h1, h2, h3, hregs, hframe⟩ := s.tempShown_spec code.isLt hu
    have hboot : u.boot = s.boot := hframe.get State.boot
    obtain ⟨-, hhot⟩ := u.tempWarned_spec code.toNat t warn hv
    rw [hexec]
    refine ⟨u, v, _, h1, h2, ?_, hregs, hframe, fun hle hw => ?_, fun h => ?_, rfl, congrArg Host.Outcome.next (s.tmonReading_eq _ ht hwarn hu hv rfl)⟩
    · rw [h3, ht]
    · rw [hv, State.tempWarned, if_pos ⟨hle, hboot ▸ hw⟩, hboot, hregs _ (by decide)]
    · rw [hv, State.tempWarned, if_neg (hboot ▸ h), hboot]

end Sys2Proof.Machine

/-! ### Mailbox commands (R359 to R364) -/

namespace Sys2Proof.Machine

-- A proof that fills in an argument by its default tactic waits for all that stands before it: checked in order, none waits.
set_option Elab.async false

section
variable {s t : State} {m : Mbox} {r : MboxResult}

/-! #### A command begins -/

theorem State.mboxCmd_none {op seq : Nat} (h : s.boot.mbox.isSome = true ∨ (s.boot.foreman = false ∧ s.boot.recovery = false)) :
    s.mboxCmd op seq = s := by
  refine if_pos ?_
  obtain h | ⟨h1, h2⟩ := h
  · simp [h]
  · simp [h1, h2]

theorem State.mboxCmd_eq {op seq : Nat} (hon : s.domOn dFORE = true) (hf : s.fatal = false) (hnone : s.boot.mbox = none)
    (hserver : s.boot.foreman = true ∨ s.boot.recovery = true)
    (hm : m = ⟨op, seq, s.rd (R.FORE_MBOX_ARGn 0), s.rd (R.FORE_MBOX_ARGn 1), s.rd (R.FORE_MBOX_ARGn 2), none, 0, false, 0, 0, 0⟩) :
    s.mboxCmd op seq = (State.setFld { s with boot := { s.boot with mbox := some m } } F.FORE_MBOX_STATUS_BUSY 1).mboxBegin m := by
  rw [hm]
  refine if_neg ?_
  obtain h | h := hserver <;> simp [hon, hf, hnone, h]

/-- What serves a command does, by the command's number. -/
def State.mboxServe (s : State) (m : Mbox) : State :=
  match m.op with
  | 1 => s.mbPing
  | 2 => s.mbLoad m
  | 3 => s.mbStage m
  | 4 => s.mbStore m
  | 5 => s.mbInstall m
  | 6 => s.mbSwitch
  | 7 => s.mbConfirm
  | 8 => s.mbShutdown m
  | _ => s.mboxCode mbINVALID

theorem State.mboxBegin_refused (h : s.boot.recovery = true) (hop : m.op ∉ [1, 3, 5]) : s.mboxBegin m = s.mboxCode mbINVALID := by
  simp only [List.mem_cons, List.not_mem_nil, or_false, not_or] at hop
  obtain ⟨h1, h3, h5⟩ := hop
  exact if_pos (by simp [h, h1, h3, h5])

theorem State.mboxBegin_served (h : s.boot.recovery = false ∨ m.op = 1 ∨ m.op = 3 ∨ m.op = 5) : s.mboxBegin m = s.mboxServe m := by
  refine if_neg ?_
  obtain h | h | h | h := h <;> simp [h]

theorem State.mboxServe_of {k : Nat} {u : State} (hop : m.op = k) (hu : u = State.mboxServe s { m with op := k }) : s.mboxServe m = u := by
  rw [hu, ← hop]

theorem State.mbLoad_eq (s : State) (m : Mbox) {kind : Nat} {x : MaintReq} (hk : kind = bitsOf m.a0 0 4) (hx : x = mapLoad kind m.a1) :
    s.mbLoad m = if kind < 2 ∨ 4 < kind ∨ locStart m.a1 = none then s.mboxCode mbINVALID
      else if s.nandUp = false ∨ s.loadDomains kind = false then s.mboxCode mbDOWN
      else if s.loadRefused x then s.mboxCode mbREFUSED else s.maintRequest x := by
  unfold State.mbLoad
  dsimp only
  rw [← hk, ← hx]
  simp only [Bool.or_eq_true, decide_eq_true_eq, Option.isNone_iff_eq_none, Bool.not_eq_true', or_assoc]

theorem State.mbStage_eq (s : State) (m : Mbox) : s.mbStage m =
    if m.a2.toNat < 64 ∨ 67108864 < m.a2.toNat then s.mboxCode mbINVALID
    else if s.dramUp = false ∨ s.domOn dHOST = false then s.mboxCode mbDOWN else s := by
  unfold State.mbStage
  simp only [Bool.or_eq_true, decide_eq_true_eq, Bool.not_eq_true']

theorem State.mbStore_eq (s : State) (m : Mbox) {r : Nat × Mepa × List Byte} (hr : r = mepaCheck s.stagedBytes none none payloadLen) :
    s.mbStore m = if (bitsOf m.a0 16 3 ≠ 2 ∧ bitsOf m.a0 16 3 ≠ 3) ∨ locStart m.a0 = none then s.mboxCode mbINVALID
      else if s.nandUp = false then s.mboxCode mbDOWN
      else if r.1 ≠ 0 then s.mboxImage r.1
      else if locRoom m.a0 < s.stagedLen then s.mboxCode mbINVALID else s.maintRequest (plainReq 6) := by
  unfold State.mbStore
  dsimp only
  rw [← hr]
  simp only [Bool.or_eq_true, Bool.not_eq_true', Bool.or_eq_false_iff, beq_eq_false_iff_ne, Option.isNone_iff_eq_none, bne_iff_ne, ne_eq]

theorem State.mbInstall_eq (s : State) (m : Mbox) {r : Nat × List Byte} (hr : r = firmwareCheck s.stagedBytes) :
    s.mbInstall m = if s.boot.recovery = false ∧ bitsOf m.a0 0 1 = s.boot.image then s.mboxCode mbINVALID
      else if s.nandUp = false then s.mboxCode mbDOWN
      else if r.1 ≠ 0 then s.mboxImage r.1 else s.maintRequest (plainReq 6) := by
  unfold State.mbInstall
  dsimp only
  rw [← hr]
  simp only [Bool.and_eq_true, Bool.not_eq_true', decide_eq_true_eq, bne_iff_ne, ne_eq]

theorem State.mbSwitch_eq (s : State) {x : Nat × List Byte × State} {y : State} (hx : x = s.fwCheck (1 - s.boot.image)) (hy : y = x.2.2.fwShow) :
    s.mbSwitch = if s.domOn dMAP = false then s.mboxCode mbDOWN else if x.1 ≠ 0 then y.mboxImage x.1 else y := by
  unfold State.mbSwitch
  dsimp only
  rw [← hx, ← hy]
  simp only [Bool.not_eq_true', bne_iff_ne, ne_eq]

theorem State.recFlag_congr {i : Nat} (hb : t.boot.record = s.boot.record) (hp : t.pstore = s.pstore) : t.recFlag i = s.recFlag i := by
  have hread : t.persRead = s.persRead := State.persRead_congr (by rw [hp]) (by rw [hp])
  unfold State.recFlag State.recWord
  rw [hb, hread]

/-! #### A command has its result -/

theorem State.mboxResult_some (h : s.boot.mbox = some m) (hr : m.result = none) :
    s.mboxResult r = { s with boot := { s.boot with mbox := some { m with result := some r } } } := by
  unfold State.mboxResult
  rw [h]
  exact if_neg (by simp [hr])

theorem State.mboxResult_none (h : ∀ m, s.boot.mbox = some m → m.result.isSome = true) : s.mboxResult r = s := by
  unfold State.mboxResult
  split
  · next m hm => exact if_pos (h m hm)
  · rfl

theorem State.mboxDone_none (h : s.domOn dFORE = false ∨ ∀ m, s.boot.mbox = some m → m.result = none) : s.mboxDone = s := by
  unfold State.mboxDone
  split
  · next m hm =>
    split
    · next r hr =>
      refine if_pos ?_
      obtain h | h := h
      · simp [h]
      · simp [h m hm] at hr
    · rfl
  · rfl

/-- A value that the rules give, or a free one. -/
def State.freeOr (s : State) (v : Option Word) : Word := v.getD (Config.freeWord s.freeCtr)

/-- The state after that value has been chosen. -/
def State.freed (s : State) (v : Option Word) : State := { s with freeCtr := s.freeCtr + b2n v.isNone }

theorem State.orFree_eq (s : State) (v : Option Word) : s.orFree v = (s.freeOr v, s.freed v) := by
  cases v with
  | none => rfl
  | some w => rfl

/-- A command's end is shown: its outputs, SEQ, RESULT and DETAIL, and that none runs. -/
def State.doneShown (d : State) (m : Mbox) (code detail : Nat) (a b : Word) : State :=
  let s := ((d.wr (R.FORE_MBOX_OUTn 0) a).wr (R.FORE_MBOX_OUTn 1) b).setFld F.FORE_MBOX_STATUS_SEQ m.seq
  let s := (s.setFld F.FORE_MBOX_STATUS_RESULT code).setFld F.FORE_MBOX_STATUS_DETAIL detail
  { s with boot := { s.boot with mbox := none } }.setFld F.FORE_MBOX_STATUS_BUSY 0

theorem State.doneShown_spec (d : State) (m : Mbox) (code detail : Nat) (a b : Word) {u : State} (hu : u = d.doneShown m code detail a b) :
    u.bit F.FORE_MBOX_STATUS_BUSY = false ∧ u.fld F.FORE_MBOX_STATUS_SEQ = m.seq % 256 ∧ u.fld F.FORE_MBOX_STATUS_RESULT = code % 256 ∧
    u.fld F.FORE_MBOX_STATUS_DETAIL = detail % 256 ∧ u.rd (R.FORE_MBOX_OUTn 0) = a ∧ u.rd (R.FORE_MBOX_OUTn 1) = b ∧
    RegsBut d u [R.FORE_MBOX_STATUS, R.FORE_MBOX_OUTn 0, R.FORE_MBOX_OUTn 1] ∧
    u = { d with regs := u.regs, boot := { d.boot with mbox := none } } := by
  obtain ⟨x, hx⟩ : ∃ x, x = (d.wr (R.FORE_MBOX_OUTn 0) a).wr (R.FORE_MBOX_OUTn 1) b := ⟨_, rfl⟩
  obtain ⟨y, hy⟩ : ∃ y, y = ((x.setFld F.FORE_MBOX_STATUS_SEQ m.seq).setFld F.FORE_MBOX_STATUS_RESULT code).setFld F.FORE_MBOX_STATUS_DETAIL
    detail := ⟨_, rfl⟩
  obtain ⟨z, hz⟩ : ∃ z : State, z = { y with boot := { y.boot with mbox := none } } := ⟨_, rfl⟩
  have hform : u = z.setFld F.FORE_MBOX_STATUS_BUSY 0 := by rw [hu, hz, hy, hx]; rfl
  have hdx : RegsBut d x [R.FORE_MBOX_OUTn 0, R.FORE_MBOX_OUTn 1] := by rw [hx]; exact RegsBut.refl.wr.wr
  have hxy : RegsBut x y [R.FORE_MBOX_STATUS] := by rw [hy]; exact RegsBut.refl.setFld.setFld.setFld
  have hyz : RegsBut y z [] := by rw [hz]; exact RegsBut.refl.of_regs rfl
  have hzu : RegsBut z u [R.FORE_MBOX_STATUS] := by rw [hform]; exact RegsBut.refl.setFld
  have hxu : RegsBut x u [R.FORE_MBOX_STATUS] := ((hxy.trans hyz).trans hzu).mono (by simp)
  have hlate {f : Fld} (hf : F.FORE_MBOX_STATUS_BUSY.off ≠ f.off ∨ F.FORE_MBOX_STATUS_BUSY.lo + F.FORE_MBOX_STATUS_BUSY.w ≤ f.lo ∨
      f.lo + f.w ≤ F.FORE_MBOX_STATUS_BUSY.lo) : u.fld f = y.fld f := by
    rw [hform, State.fld_setFld_other _ _ _ _ hf, hyz.fld (by simp)]
  have hframe : Frame [.regs] d y := by rw [hy, hx]; exact Frame.refl.wr.wr.setFld.setFld.setFld
  have hframe' : Frame [.regs] z u := by rw [hform]; exact Frame.refl.setFld
  refine ⟨?_, ?_, ?_, ?_, ?_, ?_, ?_, ?_⟩
  · rw [hform, State.bit_setFld_same (by decide)]
    rfl
  · rw [hlate (by decide), hy, State.fld_setFld_two _ _ _ (by decide)]
    exact State.fld_setFld_same _ _ _ (by decide)
  · rw [hlate (by decide), hy, State.fld_setFld_other _ _ _ _ (by decide)]
    exact State.fld_setFld_same _ _ _ (by decide)
  · rw [hlate (by decide), hy]
    exact State.fld_setFld_same _ _ _ (by decide)
  · rw [hxu _ (by decide), hx, State.rd_wr_other _ _ (by decide), State.rd_wr_same]
  · rw [hxu _ (by decide), hx, State.rd_wr_same]
  · exact (hdx.trans hxu).mono (by simp)
  · rw [show u = z.taking _ u from hframe', hz, show y = d.taking _ y from hframe]
    rfl

/-- The outputs of a command that is done, and its detail. -/
def State.doneOut (s : State) (m : Mbox) (r : MboxResult) : State :=
  (((s.freed r.out0).freed r.out1).freed (r.detail.map (BitVec.ofNat 32))).doneShown m r.code
    (((s.freed r.out0).freed r.out1).freeOr (r.detail.map (BitVec.ofNat 32))).toNat (s.freeOr r.out0) ((s.freed r.out0).freeOr r.out1)

theorem State.mboxDone_eq (h : s.boot.mbox = some m) (hr : m.result = some r) (hon : s.domOn dFORE = true) {u : State} (hu : u = s.doneOut m r) :
    s.mboxDone = u.mboxPost (mkEv 0x0910 [(8, m.op), (8, m.seq), (8, r.code), (8, u.fld F.FORE_MBOX_STATUS_DETAIL),
      (32, (s.freeOr r.out0).toNat)]) := by
  have hform : u = State.doneShown (((s.orFree r.out0).2.orFree r.out1).2.orFree (r.detail.map (BitVec.ofNat 32))).2 m r.code
      (((s.orFree r.out0).2.orFree r.out1).2.orFree (r.detail.map (BitVec.ofNat 32))).1.toNat (s.orFree r.out0).1
      ((s.orFree r.out0).2.orFree r.out1).1 := by
    rw [hu, State.doneOut, State.orFree_eq, State.orFree_eq, State.orFree_eq]
  have hout : s.freeOr r.out0 = (s.orFree r.out0).1 := by rw [State.orFree_eq]
  unfold State.doneShown at hform
  dsimp only at hform
  unfold State.mboxDone
  rw [h]
  dsimp only
  rw [hr]
  dsimp only
  rw [if_neg (by simp [hon]), ← hform, hout]

theorem State.mboxPost_eq (s : State) (e : Ev) {u : State} (hu : u = s.raise 0x06 0) : s.mboxPost e =
    if s.hostReset then { u with boot := { s.boot with owed := some e } } else u.postR (s.fld F.FORE_EVT_RING) false e := by
  have hregs : RegsBut s u [0x600C] := by rw [hu]; exact RegsBut.refl.raise
  have hframe : Frame [.regs, .sent, .pcie, .summaryOwed] s u := by rw [hu]; exact Frame.refl.raise
  rw [← hregs.fld (g := F.FORE_EVT_RING) (by decide), ← hframe.get State.boot, ← hframe.get State.hostReset, hu]
  rfl

theorem State.shutdownExpire_eq (h : s.boot.mbox = some m) (hop : m.op = 8) (hr : m.result = none) (hs : m.step = 1) :
    s.shutdownExpire = s.labelHalt := by
  unfold State.shutdownExpire
  rw [h]
  exact if_pos (by simp [hop, hr, hs])

theorem State.shutdownExpire_none (h : ∀ m, s.boot.mbox = some m → m.op ≠ 8 ∨ m.result.isSome = true ∨ m.step ≠ 1) : s.shutdownExpire = s := by
  unfold State.shutdownExpire
  split
  · next m hm =>
    refine if_neg ?_
    obtain h | h | h := h m hm
    · simp [h]
    · simp [Option.isSome_iff_ne_none.mp h]
    · simp [h]
  · rfl

/-- A mailbox command that the block serves, of any of the eight operations. -/
theorem exec_mailboxCommand {c : Instr} {op : Nat} {seq : BitVec 8} (hruns : s.runs = true) (hs : s.serves R.FORE_MBOX_CMD = true)
    (hc : (c = .mboxPing seq ∧ op = 1) ∨ (c = .mboxLoadImage seq ∧ op = 2) ∨ (c = .mboxStage seq ∧ op = 3) ∨
      (c = .mboxStoreImage seq ∧ op = 4) ∨ (c = .mboxFwInstall seq ∧ op = 5) ∨ (c = .mboxFwSwitch seq ∧ op = 6) ∨
      (c = .mboxFwConfirm seq ∧ op = 7) ∨ (c = .mboxShutdown seq ∧ op = 8)) :
    exec c s = .next (s.after (s.mboxCmd op seq.toNat)) := by
  have hwrite : s.mboxWrite op seq = s.after (s.mboxCmd op seq.toNat) :=
    (State.flow_of_runs hruns _).trans (congrArg s.after (hostWriteTo_of_serves s _ _ hs))
  rw [← hwrite]
  obtain ⟨rfl, rfl⟩ | ⟨rfl, rfl⟩ | ⟨rfl, rfl⟩ | ⟨rfl, rfl⟩ | ⟨rfl, rfl⟩ | ⟨rfl, rfl⟩ | ⟨rfl, rfl⟩ | ⟨rfl, rfl⟩ := hc <;> rfl

/-- The state in which a command begins: it is the running one, and MBOX_STATUS shows BUSY. -/
theorem State.mboxBusy_spec (s : State) (m : Mbox) {u : State}
    (hu : u = State.setFld { s with boot := { s.boot with mbox := some m } } F.FORE_MBOX_STATUS_BUSY 1) :
    RegsBut s u [R.FORE_MBOX_STATUS] ∧ u = { s with regs := u.regs, boot := { s.boot with mbox := some m } } := by
  obtain ⟨x, hx⟩ : ∃ x : State, x = { s with boot := { s.boot with mbox := some m } } := ⟨_, rfl⟩
  rw [← hx] at hu
  have hframe : Frame [.regs] x u := by rw [hu]; exact Frame.refl.setFld
  refine ⟨?_, ?_⟩
  · rw [hu]
    exact (RegsBut.refl.of_regs (by rw [hx])).setFld
  · rw [show u = x.taking _ u from hframe, hx]
    rfl

theorem State.mbConfirm_eq {u : State} (htrial : u.boot.trial = s.boot.trial) (himage : u.boot.image = s.boot.image)
    (hrecord : u.boot.record = s.boot.record) (hflag : u.recFlag 0 = s.recFlag 0) {y : State}
    (hy : y = (if s.boot.record.isSome || s.boot.trial
      then u.writeRecord (b2n (if s.boot.trial then s.boot.image == 1 else s.recFlag 0)) false else u)) :
    u.mbConfirm = (State.fwShow { y with boot := { y.boot with trial := false } }).mboxCode mbOK := by
  rw [hy, ← htrial, ← himage, ← hrecord, ← hflag]
  rfl

end

/-- Settles O58: a command's word makes it the running one, and each operation is the equation of its handler; its end shows what the handler
left, a free value for each output that the rules leave open. -/
theorem mailboxCommandsRun : Obligations.MailboxCommandsRun := by
  refine ⟨fun s c op seq hruns hs hc => ?_, fun s r => ⟨fun m h hr => State.mboxResult_some h hr, State.mboxResult_none⟩, fun s hruns => ?_⟩
  · have hserves := hs
    simp only [State.serves, Bool.and_eq_true, Bool.not_eq_true'] at hserves
    obtain ⟨⟨⟨⟨⟨hhost, -⟩, -⟩, hfatal⟩, -⟩, hdom⟩ := hserves
    have hfore : s.domOn dFORE = true := by rw [← hdom]; congr 1
    rw [exec_mailboxCommand hruns hs hc]
    refine ⟨fun h => by rw [State.mboxCmd_none h], fun m hm hnone hserver => ?_⟩
    obtain ⟨u, hu⟩ : ∃ u, u = State.setFld { s with boot := { s.boot with mbox := some m } } F.FORE_MBOX_STATUS_BUSY 1 := ⟨_, rfl⟩
    obtain ⟨hregs, hform⟩ := State.mboxBusy_spec s m hu
    have hdomU (d : Nat) : u.domOn d = s.domOn d := congrFun (hregs.domOn (by decide)) d
    have hrec : u.boot.recovery = s.boot.recovery := by rw [hform]
    have himage : u.boot.image = s.boot.image := by rw [hform]
    have hop : m.op = op := by rw [hm]
    have hserve {k : Nat} (hk : op = k) (h : s.boot.recovery = false ∨ k = 1 ∨ k = 3 ∨ k = 5) {w : State}
        (hw : State.mboxServe u { m with op := k } = w) : u.mboxBegin m = w := by
      rw [State.mboxBegin_served (by rw [hrec, hop, hk]; exact h), State.mboxServe_of (hop.trans hk) hw.symm]
    refine ⟨u, u.mboxBegin m, ?_, hu, ?_, ?_, ?_, ?_, ?_, ?_, ?_, ?_, ?_⟩
    · rw [State.mboxCmd_eq hfore hfatal hnone hserver hm, hu]
    · exact fun h hno => State.mboxBegin_refused (hrec.trans h) (by rw [hop]; exact hno)
    · intro hk
      refine hserve hk (.inr (.inl rfl)) ?_
      rw [← hregs R.FORE_FW_RELEASE (by decide), ← hregs R.FORE_FW_STATUS (by decide)]
      rfl
    · intro hk h kind x hkind hx
      exact hserve hk (.inl h) (State.mbLoad_eq u _ hkind hx)
    · intro hk
      exact hserve hk (.inr (.inr (.inl rfl))) (State.mbStage_eq u _)
    · intro hk h r hr
      exact hserve hk (.inl h) (State.mbStore_eq u _ hr)
    · intro hk r hr
      refine hserve hk (.inr (.inr (.inr rfl))) ?_
      rw [← hrec, ← himage]
      exact State.mbInstall_eq u _ hr
    · intro hk h x y hx hy
      refine hserve hk (.inl h) ?_
      rw [← himage] at hx
      rw [← hdomU]
      exact State.mbSwitch_eq u hx hy
    · intro hk h y hy
      exact hserve hk (.inl h) (State.mbConfirm_eq (by rw [hform]) himage (by rw [hform])
        (State.recFlag_congr (by rw [hform]) (by rw [hform])) hy)
    · intro hk h
      have hm8 : { m with op := 8 } = m := by rw [← hk, ← hop]
      refine (hserve hk (.inl h) (w := u.mbShutdown { m with op := 8 }) rfl).trans ?_
      rw [hm8, ← hregs.fld (g := F.LABEL_INTERRUPTED_COUNT) (by decide), show s.age = u.age by rw [hform],
        show s.label = u.label by rw [hform]]
      exact State.mbShutdown.eq_1 u m
  · have hflow (f : State → State) : Host.Outcome.next (s.flow f) = (.next (s.after (f s)) : Host.Outcome State Fault Refusal) :=
      congrArg Host.Outcome.next (State.flow_of_runs hruns _)
    have hnext {a b : State} (h : a = b) : Host.Outcome.next (s.after a) = (.next (s.after b) : Host.Outcome State Fault Refusal) := by rw [h]
    refine ⟨fun h => (hflow _).trans (hnext (State.mboxDone_none h)), fun m r h hr hon => ?_, fun e => ?_,
      fun m h hop hr hstep => (hflow _).trans (hnext (State.shutdownExpire_eq h hop hr hstep)),
      fun h => (hflow _).trans (hnext (State.shutdownExpire_none h))⟩
    · obtain ⟨u, hu⟩ : ∃ u, u = s.doneOut m r := ⟨_, rfl⟩
      obtain ⟨hbusy, hseq, hresult, hdetail, ha, hb, hregs, hform⟩ := State.doneShown_spec _ _ _ _ _ _ (hu.trans (State.doneOut.eq_1 s m r))
      refine ⟨u, _, (hflow _).trans (hnext (State.mboxDone_eq h hr hon hu)), ?_, hbusy, hseq, hresult, ?_, ?_, ?_, ?_, ?_, ?_, ?_, ?_⟩
      · rw [ha]
      · exact fun w hw => by rw [ha, State.freeOr, hw]; exact Option.getD_some
      · exact fun w hw => by rw [hb, State.freeOr, hw]; exact Option.getD_some
      · exact fun hw => by rw [ha, State.freeOr, hw]; exact Option.getD_none
      · exact fun hw => by rw [hb, State.freeOr, hw]; exact Option.getD_none
      · exact fun d hd => by rw [hdetail, State.freeOr, hd, Option.map_some, Option.getD_some, BitVec.toNat_ofNat]; omega
      · exact fun hd => by rw [hdetail, State.freeOr, hd]; rfl
      · exact fun o ho => hregs o ho
      · rw [hform, State.freed, State.freed, State.freed, Option.isNone_map]
    · obtain ⟨u, hu⟩ : ∃ u, u = s.raise 0x06 0 := ⟨_, rfl⟩
      refine ⟨u, ?_, ?_, ?_, State.mboxPost_eq s e hu⟩
      · rw [hu]
        exact State.rd_raise_same _ _ _
      · rw [hu]
        exact RegsBut.refl.raise
      · rw [hu]
        exact sameButSignals_raise _ _ _

end Sys2Proof.Machine

/-! ### Configuration requests, D3hot and L1 (R356, R381, R387 to R389) -/

namespace Sys2Proof.Machine

-- A proof that fills in an argument by its default tactic waits for all that stands before it: checked in order, none waits.
set_option Elab.async false

section
variable {s t : State} {off : Nat} {v : Word}

/-! #### Configuration space -/

theorem State.configRequest_none {w : Bool} (h : s.domOn dHOST = false ∨ s.power.perstLow = true) : s.configRequest w off v = s := by
  refine if_pos ?_
  obtain h | h := h <;> simp [h]

theorem State.configRequest_retry {w : Bool} (hon : s.domOn dHOST = true) (hp : s.power.perstLow = false) (hm : s.memReady = false) :
    s.configRequest w off v = s.emit .retryStatus :=
  (if_neg (by simp [hon, hp])).trans (if_pos (by simp [hm]))

theorem State.configRequest_served {w : Bool} (hon : s.domOn dHOST = true) (hp : s.power.perstLow = false) (hm : s.memReady = true) :
    s.configRequest w off v = if w then (s.cfgWrite off v).emit (.reply []) else s.emit (.configReply (s.cfgView off)) :=
  (if_neg (by simp [hon, hp])).trans (if_neg (by simp [hm]))

theorem State.cfgWrite_powerState : s.cfgWrite 0x44 v =
    if bitsOf v 0 2 = 3 ∧ s.pcie.d3hot = false then s.d3Enter else if bitsOf v 0 2 = 0 ∧ s.pcie.d3hot = true then s.d3Leave else s := by
  refine (if_pos rfl).trans ?_
  by_cases h3 : bitsOf v 0 2 = 3
  · cases hd : s.pcie.d3hot <;> simp [h3]
  · by_cases h0 : bitsOf v 0 2 = 0
    · cases hd : s.pcie.d3hot <;> simp [h0]
    · simp [h3, h0]

theorem State.cfgWrite_bar4 : s.cfgWrite 0x258 v = s.bar4Resize (bitsOf v 8 6) := (if_neg (by decide)).trans (if_pos rfl)

/-- What a write leaves in an ordinary word of configuration space (R381). -/
def cfgWritten (old : Word) (off : Nat) (v : Word) : Word := ((old &&& ~~~(cfgMask off)) ||| (v &&& cfgMask off)) &&& ~~~(v &&& cfgW1c off)

/-- What follows from the word written. -/
def State.cfgFollows (x : State) (off : Nat) (v : Word) : State :=
  if off = 0x78 && bitOf v 15 then (x.cfgEffect off).flr else x.cfgEffect off

theorem State.cfgWrite_ordinary (h44 : off ≠ 0x44) (h258 : off ≠ 0x258) :
    s.cfgWrite off v = (s.setCfg off (cfgWritten (s.cfg off) off v)).cfgFollows off v := (if_neg h44).trans (if_neg h258)

theorem State.cfgEffect_vectors (h : off ∈ [0x50, 0x60, 0xB0]) : s.cfgEffect off = s.flushVectors := if_pos (by simpa [or_assoc] using h)

theorem State.cfgEffect_ltr : s.cfgEffect 0x98 = s.ltrUpdate := (if_neg (by decide)).trans (if_pos rfl)

theorem State.cfgEffect_none (h : off ∉ [0x50, 0x60, 0xB0]) (hl : off ≠ 0x98) : s.cfgEffect off = s :=
  (if_neg (by simpa [or_assoc] using h)).trans (if_neg hl)

theorem State.cfgFollows_other (h : off ≠ 0x78) : s.cfgFollows off v = s.cfgEffect off := if_neg (by simp [h])

theorem State.cfgFollows_flr : s.cfgFollows 0x78 v = if bitOf v 15 then s.flr else s := by
  rw [State.cfgFollows, State.cfgEffect_none (by decide) (by decide)]
  simp

theorem State.cfg_setCfg_same (s : State) (o : Nat) (w : Word) : (s.setCfg o w).cfg o = w := SMap.get_set_same _ _ _ _

theorem State.cfg_setCfg_other (s : State) (w : Word) {o k : Nat} (h : k ≠ o) : (s.setCfg o w).cfg k = s.cfg k :=
  SMap.get_set_other _ _ _ (Ne.symm h)

/-! #### Requests on the link -/

/-- A request of the part, with the function not in D3hot: it is sent, and the link is in L0. -/
theorem State.request_spec {o : Out} (h : s.pcie.d3hot = false) {u : State} (hu : u = s.request o) :
    u.sent = o :: s.sent ∧ u.fld F.PCIEX_LINK_STATUS_PM_STATE = 0 ∧
    (∀ f : Fld, f.lo + f.w ≤ F.PCIEX_LINK_STATUS_PM_STATE.lo ∨ F.PCIEX_LINK_STATUS_PM_STATE.lo + F.PCIEX_LINK_STATUS_PM_STATE.w ≤ f.lo →
      u.fld f = s.fld f) ∧
    RegsBut s u [R.PCIEX_LINK_STATUS] ∧ u = { s with regs := u.regs, sent := u.sent } := by
  obtain ⟨x, hx⟩ : ∃ x, x = if s.fld F.PCIEX_LINK_STATUS_PM_STATE = 0 then s else s.setFld F.PCIEX_LINK_STATUS_PM_STATE 0 := ⟨_, rfl⟩
  have hform : u = x.emit o := by rw [hu, hx]; exact if_neg (by simp [h])
  have hframe : Frame [.regs] s x := by rw [hx]; exact Frame.refl.ite Frame.refl.setFld
  have hregs : RegsBut s x [R.PCIEX_LINK_STATUS] := by rw [hx]; exact RegsBut.refl.ite RegsBut.refl.setFld
  have hux : u.regs = x.regs := by rw [hform]; rfl
  have hfld (f : Fld) : u.fld f = x.fld f := by rw [hform]; rfl
  refine ⟨?_, ?_, ?_, ?_, ?_⟩
  · rw [hform, ← hframe.get State.sent]
    rfl
  · rw [hfld, hx]
    split
    · assumption
    · exact State.fld_setFld_same _ _ _ (by decide)
  · intro f hf
    rw [hfld, hx]
    split
    · rfl
    · exact State.fld_setFld_other _ _ _ _ (.inr (hf.symm))
  · rw [hform]
    exact hregs.of_regs rfl
  · rw [hform, show x = s.taking _ x from hframe]
    rfl

/-- Requests sent one after the other. -/
theorem State.each_request_spec (os : List Out) (h : s.pcie.d3hot = false) {w : State} (hw : w = s.each os State.request) :
    w.sent = os.reverse ++ s.sent ∧
    w.fld F.PCIEX_LINK_STATUS_PM_STATE = (if os = [] then s.fld F.PCIEX_LINK_STATUS_PM_STATE else 0) ∧
    RegsBut s w [R.PCIEX_LINK_STATUS] ∧ w = { s with regs := w.regs, sent := w.sent } := by
  induction os generalizing s with
  | nil =>
    subst hw
    exact ⟨rfl, (if_pos rfl).symm, RegsBut.refl, rfl⟩
  | cons o os ih =>
    obtain ⟨u, hu⟩ : ∃ u, u = s.request o := ⟨_, rfl⟩
    obtain ⟨hsent, hpm, -, hregs, hform⟩ := State.request_spec h hu
    have hw' : w = u.each os State.request := by rw [hw, hu]; rfl
    obtain ⟨hsentW, hpmW, hregsW, hformW⟩ := ih (by rw [hform]; exact h) hw'
    refine ⟨?_, ?_, (hregs.trans hregsW).mono (by simp), ?_⟩
    · rw [hsentW, hsent, List.reverse_cons, List.append_assoc]
      rfl
    · rw [hpmW, hpm]
      simp
    · rw [hformW, hform]

/-! #### D3hot -/

theorem State.d3Enter_spec (s : State) : bitsOf (s.d3Enter.cfg 0x44) 0 2 = 3 ∧ (∀ o, o ≠ 0x44 → s.d3Enter.cfg o = s.cfg o) ∧
    s.d3Enter = { s with pcie := { s.pcie with d3hot := true, cfg := s.d3Enter.pcie.cfg } } := by
  refine ⟨?_, fun o ho => State.cfg_setCfg_other _ _ ho, rfl⟩
  rw [State.d3Enter, State.cfg_setCfg_same]
  exact bitsOf_putBits_same _ _ _ _ (by decide)

/-- The function has returned to D0, with nothing sent yet. -/
def State.d3Awake (s : State) : State :=
  { s with pcie := { s.pcie with d3hot := false, deferred := [] } }.setCfg 0x44 (putBits (s.cfg 0x44) 0 2 0)

theorem State.d3Awake_spec (s : State) {u : State} (hu : u = s.d3Awake) : bitsOf (u.cfg 0x44) 0 2 = 0 ∧
    (∀ o, o ≠ 0x44 → u.cfg o = s.cfg o) ∧ u = { s with pcie := { s.pcie with d3hot := false, deferred := [], cfg := u.pcie.cfg } } := by
  refine ⟨?_, ?_, ?_⟩
  · rw [hu, State.d3Awake, State.cfg_setCfg_same]
    exact bitsOf_putBits_same _ _ _ _ (by decide)
  · intro o ho
    rw [hu]
    exact State.cfg_setCfg_other _ _ ho
  · rw [hu]
    rfl

theorem State.d3Leave_eq {u w : State} (hu : u = s.d3Awake) (hw : w = u.each s.pcie.deferred State.request) :
    s.d3Leave = ((w.each (List.range 64) State.roomBack).flushVectors.ltrUpdate).assign := by
  rw [hw, hu]
  rfl

/-! #### L1 -/

theorem exec_l1Entry_none {sub : BitVec 2} (h : s.hostUp = false ∨ s.bit F.PCIEX_LINK_STATUS_DL_UP = false ∨ s.requestPending = true ∨
    sub.toNat = 3) : exec (.l1Entry sub) s = .next s := by
  refine congrArg Host.Outcome.next (if_pos ?_)
  obtain h | h | h | h := h <;> simp [h]

/-- An entry is counted as the link leaves L0. -/
def State.l1Counted (s : State) : State := if s.fld F.PCIEX_LINK_STATUS_PM_STATE = 0 then s.bump F.PCIEX_L1_ENTRIES_COUNT else s

theorem exec_l1Entry_eq {sub : BitVec 2} (hup : s.hostUp = true) (hdl : s.bit F.PCIEX_LINK_STATUS_DL_UP = true)
    (hnone : s.requestPending = false) (hsub : sub.toNat < 3) :
    exec (.l1Entry sub) s = .next (s.l1Counted.setFld F.PCIEX_LINK_STATUS_PM_STATE (sub.toNat + 1)) :=
  congrArg Host.Outcome.next (if_neg (by simp [hup, hdl, hnone]; omega))

theorem State.l1Entry_spec (s : State) {k : Nat} (hk : k < 3) {t : State}
    (ht : t = s.l1Counted.setFld F.PCIEX_LINK_STATUS_PM_STATE (k + 1)) :
    t.fld F.PCIEX_LINK_STATUS_PM_STATE = k + 1 ∧
    (∀ f : Fld, f.off = R.PCIEX_LINK_STATUS →
      f.lo + f.w ≤ F.PCIEX_LINK_STATUS_PM_STATE.lo ∨ F.PCIEX_LINK_STATUS_PM_STATE.lo + F.PCIEX_LINK_STATUS_PM_STATE.w ≤ f.lo →
      t.fld f = s.fld f) ∧
    t.fld F.PCIEX_L1_ENTRIES_COUNT = (if s.fld F.PCIEX_LINK_STATUS_PM_STATE = 0 then min (s.fld F.PCIEX_L1_ENTRIES_COUNT + 1) (2 ^ 32 - 1)
      else s.fld F.PCIEX_L1_ENTRIES_COUNT) ∧
    RegsBut s t [R.PCIEX_LINK_STATUS, R.PCIEX_L1_ENTRIES] ∧ SameButRegs s t := by
  obtain ⟨u, hu⟩ : ∃ u, u = s.l1Counted := ⟨_, rfl⟩
  rw [← hu] at ht
  have hregs : RegsBut s u [R.PCIEX_L1_ENTRIES] := by rw [hu, State.l1Counted]; exact .ite RegsBut.refl.bump .refl
  have hframe : Frame [.regs] s t := by rw [ht, hu, State.l1Counted]; exact (Frame.ite Frame.refl.bump .refl).setFld
  refine ⟨?_, ?_, ?_, ?_, ?_⟩
  · rw [ht, State.fld_setFld_same _ _ _ (by decide)]
    exact Nat.mod_eq_of_lt (by show k + 1 < 2 ^ 3; omega)
  · intro f hf hlo
    rw [ht, State.fld_setFld_other _ _ _ _ (.inr hlo.symm), hregs.fld (by rw [hf]; decide)]
  · rw [ht, State.fld_setFld_other _ _ _ _ (by decide), hu, State.l1Counted]
    split
    · exact State.fld_bump_same _ _ _ (by decide)
    · rfl
  · rw [ht]
    exact (hregs.mono (by simp)).setFld
  · exact hframe

end

/-- Settles O59: a configuration request is one of four cases, a write of an ordinary word is `cfgWritten` and what follows from it, and the
requests that waited in D3hot are sent in the order in which they came. -/
theorem configAndLinkPowerAct : Obligations.ConfigAndLinkPowerAct := by
  refine ⟨fun s w off v o hruns ho => ?_, fun s => ⟨fun hdown => ?_, fun hup => ?_, State.d3Enter_spec s, ?_, fun sub hup => ⟨?_, ?_⟩⟩⟩
  · have hflow (w : Bool) : exec (.configRequest w off v) s = .next (s.after (s.configRequest w o v)) := by
      rw [ho]
      exact congrArg Host.Outcome.next (State.flow_of_runs hruns _)
    refine ⟨fun h => by rw [hflow, State.configRequest_none h], fun hon hp => ⟨fun hm => ?_, fun hm => ⟨?_, ?_⟩⟩⟩
    · rw [hflow, State.configRequest_retry hon hp hm]
      rfl
    · rw [hflow, State.configRequest_served hon hp hm]
      rfl
    · refine ⟨s.cfgWrite o v, ?_, ?_, ?_, fun h44 h258 => ?_⟩
      · rw [hflow, State.configRequest_served hon hp hm]
        rfl
      · rintro h
        rw [h]
        exact State.cfgWrite_powerState
      · rintro h
        rw [h]
        exact State.cfgWrite_bar4
      · refine ⟨s.setCfg o (cfgWritten (s.cfg o) o v), State.cfg_setCfg_same _ _ _, fun k hk => State.cfg_setCfg_other _ _ hk, rfl, ?_, ?_, ?_, ?_⟩
        · intro hmem
          rw [State.cfgWrite_ordinary h44 h258, State.cfgFollows_other (by rintro rfl; revert hmem; decide), State.cfgEffect_vectors hmem]
        · intro h
          rw [State.cfgWrite_ordinary h44 h258, h, State.cfgFollows_other (by decide), State.cfgEffect_ltr]
        · intro h
          rw [State.cfgWrite_ordinary h44 h258, h, State.cfgFollows_flr]
        · intro hno
          simp only [List.mem_cons, List.not_mem_nil, or_false, not_or] at hno
          obtain ⟨h50, h60, hB0, h98, h78⟩ := hno
          rw [State.cfgWrite_ordinary h44 h258, State.cfgFollows_other h78, State.cfgEffect_none (by simp [h50, h60, hB0]) h98]
  · exact ⟨congrArg Host.Outcome.next (if_neg (by simp [hdown])), congrArg Host.Outcome.next (if_neg (by simp [hdown])),
      fun sub => exec_l1Entry_none (.inl hdown)⟩
  · exact ⟨fun hd => ⟨congrArg Host.Outcome.next (if_pos (by simp [hup, hd])), congrArg Host.Outcome.next (if_neg (by simp [hd]))⟩,
      fun hd => ⟨congrArg Host.Outcome.next (if_pos (by simp [hup, hd])), congrArg Host.Outcome.next (if_neg (by simp [hd]))⟩⟩
  · obtain ⟨u, hu⟩ : ∃ u, u = s.d3Awake := ⟨_, rfl⟩
    obtain ⟨hpm, hcfg, hform⟩ := State.d3Awake_spec s hu
    obtain ⟨w, hw⟩ : ∃ w, w = u.each s.pcie.deferred State.request := ⟨_, rfl⟩
    obtain ⟨hsent, hstate, hregs, hformW⟩ := State.each_request_spec _ (by rw [hform]) hw
    have hsu : u.regs = s.regs := by rw [hform]
    refine ⟨u, w, hpm, hcfg, hform, ?_, ?_, ?_, ?_, State.d3Leave_eq hu hw⟩
    · rw [hsent, show u.sent = s.sent by rw [hform]]
    · rw [hstate, (RegsBut.refl.of_regs hsu : RegsBut s u []).fld (by simp)]
    · exact ((RegsBut.refl.of_regs hsu).trans hregs).mono (l := [] ++ _) (by simp)
    · exact hformW
  · exact fun h => exec_l1Entry_none (.inr h)
  · intro hdl hnone hsub
    obtain ⟨hpm, hlink, hcount, hregs, hsame⟩ := State.l1Entry_spec s hsub rfl
    exact ⟨_, exec_l1Entry_eq hup hdl hnone hsub, hpm, hlink _ rfl (by decide), hlink _ rfl (by decide),
      by rw [State.bit, hlink _ rfl (by decide)]; exact hdl, hcount, hregs, hsame⟩

end Sys2Proof.Machine

/-! ### Precision Time Measurement, failing reads and AER (R386, R390, R393) -/

namespace Sys2Proof.Machine

-- A proof that fills in an argument by its default tactic waits for all that stands before it: checked in order, none waits.
set_option Elab.async false

section
variable {s t : State}

/-! #### Dialogs -/

theorem State.ptmStart_none (h : s.hostUp = false ∨ s.pcie.d3hot = true ∨ s.ptmEnabled = false ∨ s.pcie.ptmBusy = true) :
    s.ptmStart = s := by
  refine if_pos ?_
  obtain h | h | h | h := h <;> simp [h]

theorem State.ptmStart_spec (hup : s.hostUp = true) (hd : s.pcie.d3hot = false) (hen : s.ptmEnabled = true) (hb : s.pcie.ptmBusy = false)
    {t : State} (ht : t = s.ptmStart) :
    t.pcie.ptmBusy = true ∧ t.sent = .ptmRequest :: s.sent ∧ t.fld F.PCIEX_LINK_STATUS_PM_STATE = 0 ∧
    t.fld F.PCIEX_LINK_STATUS_SPEED = s.fld F.PCIEX_LINK_STATUS_SPEED ∧
    t.fld F.PCIEX_LINK_STATUS_WIDTH = s.fld F.PCIEX_LINK_STATUS_WIDTH ∧
    t.bit F.PCIEX_LINK_STATUS_DL_UP = s.bit F.PCIEX_LINK_STATUS_DL_UP ∧ RegsBut s t [R.PCIEX_LINK_STATUS] ∧
    t = { s with regs := t.regs, sent := t.sent, pcie := { s.pcie with ptmBusy := true } } := by
  obtain ⟨x, hx⟩ : ∃ x : State, x = { s with pcie := { s.pcie with ptmBusy := true } } := ⟨_, rfl⟩
  have hform : t = x.request .ptmRequest := by rw [ht, hx]; exact if_neg (by simp [hup, hd, hen, hb])
  obtain ⟨hsent, hpm, hfld, hregs, hshape⟩ := State.request_spec (by rw [hx]; exact hd) hform
  have hxs (f : Fld) : x.fld f = s.fld f := by rw [hx]; rfl
  refine ⟨by rw [hshape, hx], by rw [hsent, hx], hpm, ?_, ?_, ?_, ?_, ?_⟩
  · rw [hfld _ (by decide), hxs]
  · rw [hfld _ (by decide), hxs]
  · rw [State.bit, hfld _ (by decide), hxs]
    rfl
  · exact ((RegsBut.refl.of_regs (by rw [hx])).trans hregs).mono (l := [] ++ _) (by simp)
  · rw [hshape, hx]

/-- A dialog's command: at the period, or by NOW. -/
theorem exec_ptmDialog {c : Instr} (hc : (c = .ptmPeriodic ∧ s.fld F.PCIEX_PTM_CFG_PERIOD_MS ≠ 0) ∨
    (∃ v, c = .ptmNow v ∧ bitOf v 0 = true ∧ s.serves R.PCIEX_PTM_CMD = true)) : exec c s = .next s.ptmStart := by
  obtain ⟨rfl, hp⟩ | ⟨v, rfl, hv, hs⟩ := hc
  · exact congrArg Host.Outcome.next (if_neg hp)
  · exact congrArg Host.Outcome.next ((hostWriteTo_of_serves s _ _ hs).trans (if_pos hv))

theorem State.rd_setFld_full (s : State) {f : Fld} (hlo : f.lo = 0) (hw : f.w = 32) (n : Nat) :
    (s.setFld f n).rd f.off = BitVec.ofNat 32 n := by
  rw [State.rd_setFld, if_pos rfl, hlo, hw]
  have h := bitsOf_putBits_same (s.rd f.off) 0 32 n (by decide)
  refine BitVec.eq_of_toNat_eq ?_
  rw [BitVec.toNat_ofNat, ← h, bitsOf, Nat.pow_zero, Nat.div_one, Nat.mod_eq_of_lt (BitVec.isLt _)]

/-- The rate after a dialog, from the one before it (R393). -/
def State.ptmRated (s : State) (l h : DWord) : State :=
  match s.pcie.ptmPrev with
  | some p =>
    if p.1.toNat < l.toNat && l.toNat ≤ p.1.toNat + 4 * s.fld F.PCIEX_PTM_CFG_PERIOD_MS * 1200000 then
      (s.setFld F.PCIEX_PTM_RATIO_RATIO (ptmRate p.1.toNat p.2.toNat l.toNat h.toNat)).setFld F.PCIEX_PTM_STATUS_RATIO_OK 1
    else s
  | none => s

/-- The dialog before lies close enough for a rate. -/
def State.ptmNear (s : State) (l : DWord) : Prop := ∃ p : DWord × DWord, s.pcie.ptmPrev = some p ∧ p.1.toNat < l.toNat ∧
  l.toNat ≤ p.1.toNat + 4 * s.fld F.PCIEX_PTM_CFG_PERIOD_MS * 1200000

theorem State.ptmRated_far {l h : DWord} (hfar : ¬s.ptmNear l) : s.ptmRated l h = s := by
  unfold State.ptmRated
  split
  · next p hp => exact if_neg fun hc => hfar ⟨p, hp, by simpa using hc⟩
  · rfl

theorem State.ptmRated_near {l h : DWord} {p : DWord × DWord} (hp : s.pcie.ptmPrev = some p) (hnear : s.ptmNear l) : s.ptmRated l h =
    (s.setFld F.PCIEX_PTM_RATIO_RATIO (ptmRate p.1.toNat p.2.toNat l.toNat h.toNat)).setFld F.PCIEX_PTM_STATUS_RATIO_OK 1 := by
  obtain ⟨p', hp', hclose⟩ := hnear
  obtain rfl : p' = p := Option.some.inj (hp'.symm.trans hp)
  unfold State.ptmRated
  rw [hp]
  exact if_pos (by simpa using hclose)

/-- L and H are stored. -/
def State.ptmStored (s : State) (l h : DWord) : State :=
  ((((s.setFld F.PCIEX_PTM_LO_L l.toNat).setFld F.PCIEX_PTM_HI_L (l.toNat / 2 ^ 32)).setFld F.PCIEX_PTM_HOST_LO_H h.toNat).setFld
    F.PCIEX_PTM_HOST_HI_H (h.toNat / 2 ^ 32))

theorem State.ptmDone_none {l h : DWord} (hc : s.hostUp = false ∨ s.pcie.ptmBusy = false) : s.ptmDone l h = s := by
  refine if_pos ?_
  obtain hc | hc := hc <;> simp [hc]

theorem State.ptmDone_eq {l h : DWord} (hup : s.hostUp = true) (hb : s.pcie.ptmBusy = true) {a b : State} (ha : a = s.ptmRated l h)
    (hbb : b = a.ptmStored l h) : s.ptmDone l h =
      { b with pcie := { b.pcie with ptmBusy := false, ptmPrev := some (l, h), ptmFresh := true, ptmAt := b.localTime } } := by
  rw [hbb, ha]
  exact if_neg (by simp [hup, hb])

theorem ofNat_toNat_low (l : DWord) : BitVec.ofNat 32 l.toNat = l.truncate 32 := BitVec.eq_of_toNat_eq (by simp)

theorem ofNat_toNat_high (l : DWord) : BitVec.ofNat 32 (l.toNat / 2 ^ 32) = (l >>> 32).truncate 32 :=
  BitVec.eq_of_toNat_eq (by simp [Nat.shiftRight_eq_div_pow])

theorem State.ptmStored_spec (a : State) (l h : DWord) {b : State} (hb : b = a.ptmStored l h) :
    b.rd R.PCIEX_PTM_LO = l.truncate 32 ∧ b.rd R.PCIEX_PTM_HI = (l >>> 32).truncate 32 ∧
    b.rd R.PCIEX_PTM_HOST_LO = h.truncate 32 ∧ b.rd R.PCIEX_PTM_HOST_HI = (h >>> 32).truncate 32 ∧
    RegsBut a b [R.PCIEX_PTM_LO, R.PCIEX_PTM_HI, R.PCIEX_PTM_HOST_LO, R.PCIEX_PTM_HOST_HI] ∧ Frame [.regs] a b := by
  rw [hb]
  refine ⟨?_, ?_, ?_, ?_, RegsBut.refl.setFld.setFld.setFld.setFld, Frame.refl.setFld.setFld.setFld.setFld⟩
  · rw [State.ptmStored, State.rd_setFld_other _ _ _ (by decide), State.rd_setFld_other _ _ _ (by decide),
      State.rd_setFld_other _ _ _ (by decide), ← ofNat_toNat_low]
    exact State.rd_setFld_full _ rfl rfl _
  · rw [State.ptmStored, State.rd_setFld_other _ _ _ (by decide), State.rd_setFld_other _ _ _ (by decide), ← ofNat_toNat_high]
    exact State.rd_setFld_full _ rfl rfl _
  · rw [State.ptmStored, State.rd_setFld_other _ _ _ (by decide), ← ofNat_toNat_low]
    exact State.rd_setFld_full _ rfl rfl _
  · rw [← ofNat_toNat_high]
    exact State.rd_setFld_full _ rfl rfl _

theorem State.ptmRated_spec (s : State) (l h : DWord) {a : State} (ha : a = s.ptmRated l h) :
    (¬s.ptmNear l → a = s) ∧
    (∀ p : DWord × DWord, s.pcie.ptmPrev = some p → s.ptmNear l →
      a.fld F.PCIEX_PTM_RATIO_RATIO =
        (h.toNat - p.2.toNat) * 6 * 2 ^ 30 / ((l.toNat - p.1.toNat) * 5) % 2 ^ F.PCIEX_PTM_RATIO_RATIO.w ∧
      a.bit F.PCIEX_PTM_STATUS_RATIO_OK = true) ∧
    RegsBut s a [R.PCIEX_PTM_RATIO, R.PCIEX_PTM_STATUS] ∧ Frame [.regs] s a := by
  refine ⟨fun hfar => ha.trans (State.ptmRated_far hfar), fun p hp hnear => ?_, ?_, ?_⟩
  · rw [ha, State.ptmRated_near hp hnear]
    refine ⟨?_, State.bit_setFld_same (by decide)⟩
    rw [State.fld_setFld_other _ _ _ _ (by decide)]
    exact State.fld_setFld_same _ _ _ (by decide)
  · by_cases hnear : s.ptmNear l
    · rw [ha, State.ptmRated_near hnear.choose_spec.1 hnear]
      exact RegsBut.refl.setFld.setFld
    · rw [ha, State.ptmRated_far hnear]
      exact RegsBut.refl
  · by_cases hnear : s.ptmNear l
    · rw [ha, State.ptmRated_near hnear.choose_spec.1 hnear]
      exact Frame.refl.setFld.setFld
    · rw [ha, State.ptmRated_far hnear]
      exact Frame.refl

/-! #### AER, and reads that fail -/

theorem State.aerUncorr_spec (s : State) (bit : Nat) {t : State} (ht : t = s.aerUncorr bit) :
    t.cfg 0x104 = s.cfg 0x104 ||| BitVec.ofNat 32 (2 ^ bit) ∧ (∀ o, o ≠ 0x104 → t.cfg o = s.cfg o) ∧
    t.sent = (if bitOf (s.cfg 0x108) bit then s.sent else .aer true bit :: s.sent) ∧
    t = { s with sent := t.sent, pcie := { s.pcie with cfg := t.pcie.cfg } } := by
  obtain ⟨x, hx⟩ : ∃ x, x = s.setCfg 0x104 (s.cfg 0x104 ||| BitVec.ofNat 32 (2 ^ bit)) := ⟨_, rfl⟩
  have hform : t = if bitOf (s.cfg 0x108) bit then x else x.emit (.aer true bit) := by
    rw [ht, State.aerUncorr, ← hx, show s.cfg 0x108 = x.cfg 0x108 by rw [hx, State.cfg_setCfg_other _ _ (by decide)]]
  have hcfg (o : Nat) : t.cfg o = x.cfg o := by rw [hform]; split <;> rfl
  refine ⟨by rw [hcfg, hx, State.cfg_setCfg_same], fun o ho => by rw [hcfg, hx, State.cfg_setCfg_other _ _ ho], ?_, ?_⟩
  · rw [hform, hx]
    split <;> rfl
  · rw [hform, hx]
    split <;> rfl

/-- What a read's requester sees of a failure: a timeout, or an error. -/
def failedRead (timeout : Bool) : ReadRes := if timeout then .timeout else .error

def failedFill (timeout : Bool) : FillRes := if timeout then .timeout else .error

theorem State.readFails_none {r : Requester} {timeout : Bool} (h : s.reads r = false) : s.readFails r timeout = s := if_pos (by simp [h])

theorem State.readFails_queue {q : BitVec 13} {timeout : Bool} (h : s.reads (.queue q) = true) :
    s.readFails (.queue q) timeout = s.descFetched q.toNat (failedRead timeout) := if_neg (by simp [h])

theorem State.readFails_fill {p : BitVec 20} {l : BitVec 9} {timeout : Bool} (h : s.reads (.fill p l) = true) :
    s.readFails (.fill p l) timeout = s.remoteFillDone p.toNat l.toNat (failedFill timeout) := if_neg (by simp [h])

theorem State.readFails_cage {n : BitVec 5} {k : Cage} {timeout : Bool} (h : s.reads (.cage n) = true) (hk : s.cage? n.toNat = some k) :
    s.readFails (.cage n) timeout = s.cageReadEnds n.toNat k (failedRead timeout) := by
  unfold State.readFails
  dsimp only
  rw [if_neg (by simp [h]), hk]
  exact rfl

theorem State.cageReadEnds_bursts {n : Nat} {k : Cage} {res : ReadRes} (h : k.phase = .bursts) :
    s.cageReadEnds n k res = s.burstDone n k res := by rw [State.cageReadEnds, h]

theorem State.cageReadEnds_landing {n : Nat} {k : Cage} {res : ReadRes} (h : k.phase = .landing) :
    s.cageReadEnds n k res = s.landBurstDone n k res := by rw [State.cageReadEnds, h]

theorem State.cageReadEnds_inflating {n : Nat} {k : Cage} {res : ReadRes} {x : _} (h : k.phase = .inflating x) :
    s.cageReadEnds n k res = (s.inflateComplete n k res none).assignLanes := by rw [State.cageReadEnds, h]

theorem State.aerUncorr_frameParts (s : State) (bit : Nat) : Frame [.sent, .pcie] s (s.aerUncorr bit) := by
  obtain ⟨pcie, sent, h⟩ := State.aerUncorr_frame (s := s) bit
  rw [h]
  rfl

/-- What AER shows changes no read that is outstanding. -/
theorem State.reads_aerUncorr (s : State) (bit : Nat) (r : Requester) : (s.aerUncorr bit).reads r = s.reads r :=
  (State.aerUncorr_frameParts s bit).get (State.reads · r)

/-- The commands that fail a requester's read, and the state in which it ends. -/
theorem exec_readFails {r : Requester} {c : Instr} {u : State} {res : ReadRes} {fres : FillRes}
    (hc : (c = .completionTimeout r ∧ u = s ∧ res = .timeout ∧ fres = .timeout) ∨
      (c = .poisonedTlp (some r) ∧ u = s.aerUncorr 12 ∧ res = .error ∧ fres = .error ∧ s.domOn dHOST = true)) :
    ∃ timeout, exec c s = .next (u.readFails r timeout) ∧ res = failedRead timeout ∧ fres = failedFill timeout ∧
      u.reads r = s.reads r ∧ (∀ q, u.queue q = s.queue q) ∧ ∀ n, u.cage? n = s.cage? n := by
  obtain ⟨rfl, rfl, rfl, rfl⟩ | ⟨rfl, rfl, rfl, rfl, hon⟩ := hc
  · exact ⟨true, rfl, rfl, rfl, rfl, fun _ => rfl, fun _ => rfl⟩
  · have hframe := State.aerUncorr_frameParts s 12
    exact ⟨false, congrArg Host.Outcome.next (if_neg (by simp [hon])), rfl, rfl, State.reads_aerUncorr s 12 r,
      fun q => hframe.get (State.queue · q), fun n => hframe.get (State.cage? · n)⟩

end

/-- Settles O60: a dialog's start is a request, its end stores what it brought, and a failing read ends as the read of its requester does. -/
theorem dialogsAndReadErrorsAct : Obligations.DialogsAndReadErrorsAct := by
  refine ⟨fun s c hc => ⟨fun hup hd hen hb => ⟨_, exec_ptmDialog hc, State.ptmStart_spec hup hd hen hb rfl⟩, fun h => ?_⟩,
    fun s => ⟨fun hp => congrArg Host.Outcome.next (if_pos hp), fun v hv hs => ?_⟩, fun s l h => ⟨fun hc => ?_, fun near hup hb hnear => ?_⟩,
    fun s r c u res fres hc => ?_, fun s c bit hc => ?_, fun s r hoff => congrArg Host.Outcome.next (if_pos (by simp [hoff])),
    fun s bit t ht => State.aerUncorr_spec s bit ht⟩
  · rw [exec_ptmDialog hc, State.ptmStart_none h]
  · exact congrArg Host.Outcome.next ((hostWriteTo_of_serves s _ _ hs).trans (if_neg (by simp [hv])))
  · exact congrArg Host.Outcome.next (State.ptmDone_none hc)
  · obtain ⟨a, ha⟩ : ∃ a, a = s.ptmRated l h := ⟨_, rfl⟩
    obtain ⟨b, hbb⟩ : ∃ b, b = a.ptmStored l h := ⟨_, rfl⟩
    obtain ⟨hfar, hclose, hregsA, hframeA⟩ := State.ptmRated_spec s l h ha
    obtain ⟨hlo, hhi, hhlo, hhhi, hregsB, hframeB⟩ := State.ptmStored_spec a l h hbb
    have hregs : RegsBut s b [R.PCIEX_PTM_LO, R.PCIEX_PTM_HI, R.PCIEX_PTM_HOST_LO, R.PCIEX_PTM_HOST_HI, R.PCIEX_PTM_RATIO,
        R.PCIEX_PTM_STATUS] := (hregsA.trans hregsB).mono (by simp)
    obtain ⟨t, ht⟩ : ∃ t : State, t =
      { b with pcie := { b.pcie with ptmBusy := false, ptmPrev := some (l, h), ptmFresh := true, ptmAt := b.localTime } } := ⟨_, rfl⟩
    have htb : t.regs = b.regs := by rw [ht]
    have hrd (o : Nat) : t.rd o = b.rd o := by rw [State.rd, htb]; rfl
    have hfld (f : Fld) : t.fld f = b.fld f := by rw [State.fld, hrd]; rfl
    have htime : b.localTime = s.localTime := by
      rw [State.localTime, hregs.fld (by decide), hregs.fld (by decide)]
      rfl
    have hform : b = { s with regs := b.regs } := hframeA.trans hframeB
    refine ⟨t, ?_, ?_, ?_, ?_, ?_, fun hn => ?_, fun p hp hn => ?_, ?_, ?_⟩
    · rw [ht]
      exact congrArg Host.Outcome.next (State.ptmDone_eq hup hb ha hbb)
    · rw [hrd, hlo]
    · rw [hrd, hhi]
    · rw [hrd, hhlo]
    · rw [hrd, hhhi]
    · have hno : ¬s.ptmNear l := fun hyes => by simp [hnear.mpr hyes] at hn
      rw [hrd, hrd, hregsB _ (by decide), hregsB _ (by decide), hfar hno]
      exact ⟨rfl, rfl⟩
    · obtain ⟨hratio, hok⟩ := hclose p hp (hnear.mp hn)
      refine ⟨?_, ?_⟩
      · rw [hfld, hregsB.fld (by decide), hratio]
      · rw [State.bit, hfld, hregsB.fld (by decide)]
        exact hok
    · exact fun o ho => (hrd o).trans (hregs o ho)
    · rw [ht, htime, hform]
  · obtain ⟨timeout, hexec, rfl, rfl, hreads, hqueue, hcage⟩ := exec_readFails hc
    rw [hexec]
    refine ⟨fun hno => by rw [State.readFails_none (hreads.trans hno)], fun hyes => ⟨?_, ?_, ?_⟩⟩
    · rintro q rfl
      rw [State.readFails_queue (hreads.trans hyes)]
      refine ⟨rfl, fun hstale hreading => ?_⟩
      obtain ⟨t, ht, hstate, hcause, hid, hread, -⟩ :=
        descFetched_error ((congrArg QueueHid.stale (hqueue _)).trans hstale) ((congrArg QueueHid.reading (hqueue _)).trans hreading) q.isLt timeout
      refine ⟨t, ht, hstate, ?_, hid, hread⟩
      rw [hcause]
      cases timeout <;> rfl
    · rintro p l rfl
      rw [State.readFails_fill (hreads.trans hyes)]
      rfl
    · rintro n k rfl hk
      rw [State.readFails_cage (hreads.trans hyes) ((hcage _).trans hk)]
      exact ⟨fun hp => by rw [State.cageReadEnds_bursts hp], fun hp => by rw [State.cageReadEnds_landing hp],
        fun x hp => by rw [State.cageReadEnds_inflating hp]⟩
  · obtain ⟨rfl, rfl⟩ | ⟨rfl, rfl⟩ := hc
    · exact ⟨fun hon => congrArg Host.Outcome.next (if_neg (by simp [hon])), fun hoff => congrArg Host.Outcome.next (if_pos (by simp [hoff]))⟩
    · exact ⟨fun hon => congrArg Host.Outcome.next (if_pos hon), fun hoff => congrArg Host.Outcome.next (if_neg (by simp [hoff]))⟩

end Sys2Proof.Machine
